-- ==== Sys2Proof/Word.lean ====
section
/-!
DEFINITION. Word.lean: the machine word and byte (R3: a word is 32 bits, bit 0 the least significant).
-/
namespace Sys2Proof

/-- R3: a word is 32 bits. -/
abbrev Word := BitVec 32

/-- The smallest addressable unit of the physical map (R318). -/
abbrev Byte := BitVec 8

end Sys2Proof
end

