-- ==== Sys2Proof/Syntax.lean ====
section
/-!
DEFINITION. Syntax.lean: the commands of the block: one constructor of `Instr` per row of the opcode table, with its operands.
An event that the spec places at a moment carries that moment's stamp as `at_`.
-/
namespace Sys2Proof

/-- Who sends a command of the tables, and when (R423, R428, R436, R439): the stamp of its acceptance; the transport, 0 SPI,
1 CAN FD 0, 2 CAN FD 1, 3 Ethernet, 4 service port; the session slot 0–7, or 8 for an unsecured path; the world code of the packet
header, 0 none, 1 custody, 2 operator, 3 provisioning path, 4 service port; and the command sequence. -/
structure Req where
  at_   : Nat
  path  : Nat
  slot  : Nat
  world : Nat
  seq   : Nat
  deriving DecidableEq, Repr

/-- A write on the spine (R321): its stamp, initiator class, engine index and context code, and the value written, as they arrive; `noise` has the
bits of its check word (0–7) and of its data parity (8–11) that do not arrive as those fields give them (R336). -/
structure Wr where
  at_   : Nat
  cls   : Nat
  eng   : Nat
  ctx   : Nat
  value : Nat
  noise : Nat
  deriving DecidableEq, Repr

/-- A pair of signatures as R217 makes them (EC_SIG and PQ_SIG of R425), as the numbers their bytes stand for, the first byte the most significant (R4). -/
structure Sig where
  ec : Nat
  pq : Nat
  deriving DecidableEq, Repr

/-- The keys a command carries for its signer (EC_PUB and PQ_PUB of R425), as numbers, the first byte the most significant (R4). -/
structure PubKeys where
  ec : Nat
  pq : Nat
  deriving DecidableEq, Repr

/-- A token (R400), field by field; `head` is bytes 0–4. -/
structure Token where
  head   : Nat
  kind   : Nat
  op     : Nat
  serial : Nat
  nonce  : Nat
  expiry : Nat
  digest : Nat
  sig    : Sig
  deriving DecidableEq, Repr

/-- A certificate (R398), field by field; `head` is bytes 0–4. -/
structure Cert where
  head      : Nat
  role      : Nat
  serial    : Nat
  chainId   : Nat
  validFrom : Nat
  hashEc    : Nat
  hashPq    : Nat
  issuer    : Nat
  sig       : Sig
  deriving DecidableEq, Repr

/-- A succession certificate (R492), field by field; `head` is bytes 0–7. -/
structure SuccCert where
  head      : Nat
  chainId   : Nat
  level     : Nat
  oldSerial : Nat
  newSerial : Nat
  headSeq   : Nat
  headStamp : Nat
  headHash  : Nat
  sealSeq   : Nat
  sealHash  : Nat
  packId    : Nat
  locus     : Nat
  root      : Nat
  kind      : Nat
  sig       : Sig
  deriving DecidableEq, Repr

/-- An engine of the move set (R237, R269, R294): lane engine e, vat control engine v, or custody pair p. -/
inductive Eng where
  | lane (e : Nat)
  | vce (v : Nat)
  | core (p : Nat)
  deriving DecidableEq, Repr

/-- An instruction that an engine issues, seen from one of its moves (R239, R269): the stamp, the engine, the slot the move stands in, its
guard enable, IMM and SRC fields; `word` is the whole instruction, whose bits of that slot the move replaces. The destination is the
command's. `noise` has the check and parity bits in error (R336) of the transfers it makes on the spine: bits 0–11 of its BUS transfer, or of a
lane's stream read, 12–23 of its load or store, 24–35 of its fetch. -/
structure Mv where
  at_  : Nat
  eng  : Eng
  slot : Nat
  ge   : Bool
  imm  : Bool
  src  : Nat
  word : Nat
  noise : Nat
  deriving DecidableEq, Repr

/-- What a device holds: bytes in pieces at their addresses. -/
abbrev Pieces := List (Nat × List Byte)

/-- What a start finds outside the logic die: whether the HUK reconstruction passes its check value (R382), the size of the archive device in
MiB, whether its erase unit is 64 KiB, what another device fitted in its place holds, in pieces at their addresses (R223, R224), and the strap balls
(R483). -/
structure Boot where
  huk    : Bool
  mib    : Nat
  unit64 : Bool
  device : Option Pieces
  strap  : Nat
  deriving DecidableEq, Repr

/-- A character on a Transit line (R55, R56): a data byte, a control character by its byte, or a code violation. -/
inductive LineChar where
  | data (b : Byte)
  | ctrl (k : Nat)
  | bad
  deriving DecidableEq, Repr

/-- A stretch of a Transit line as a receiver takes it in, aligned to its code groups (R55): the running disparity before it (true is positive) and
its 10-bit code groups, bit a, which comes first, the most significant. -/
structure Line where
  rd     : Bool
  groups : List Nat
  deriving DecidableEq, Repr

/-- A line whose code groups are given in parts, as the sender lays a frame out. -/
def Line.inParts (rd : Bool) (parts : List (List Nat)) : Line := ⟨rd, parts.flatten⟩

/-- The end of a train at an end of the part (R77): the end, TSTAMP of its head (none of a COLLECT train, or of a head that was not valid), and the
loop time in ns. -/
structure TrainTail where
  endB   : Bool
  tstamp : Option Nat
  loopNs : Nat
  deriving DecidableEq, Repr

/-- A train at a worker's uplink: its line, and the number of retransmitted frames that stand in it before this node's place (R64). -/
structure TrainSeen where
  line : Line
  held : Nat
  deriving DecidableEq, Repr

/-- A hazard pin that is high: its input, and the stamp at which it rose (R196). -/
structure HighPin where
  input : Nat
  rose  : Nat
  deriving DecidableEq, Repr

/-- The answer to an engine's load on the spine: the engine, and the bits of its check word and parity that do not arrive (R275, R336). -/
structure LoadAnswer where
  eng   : Eng
  noise : Nat
  deriving DecidableEq, Repr

/-- How an operation of the flash array ends (R347, R350): the line or sector that failed, none when all passed; of a sector, whether it is the
journal's intent entry that failed. -/
structure FlashEnd where
  fail   : Option Nat
  intent : Bool
  deriving DecidableEq, Repr

/-- A register that draws from a starter: CUL_VRNG[n] of a vat, or CUL_RNG[n] (R405). -/
structure RngReg where
  vat : Bool
  n   : Nat
  deriving DecidableEq, Repr

/-- An element that a self-test found failing (R541, R544): its unit, its address, and the group of spares that can replace it. -/
structure TestFail where
  unit  : Nat
  addr  : Nat
  group : Nat
  deriving DecidableEq, Repr

/-- The commands: one constructor per row of the opcode table, in its order. -/
inductive Instr where
  /-- R531: Main rails in range for 1 ms with the crystal at amplitude release power-on reset, and the start sequence runs. -/
  | porRelease (count : Nat) (boot : Boot)
  /-- R521: A main rail below its threshold for more than 10 µs resets the logic die and drops the Shutter outputs. -/
  | brownOut (at_ rails us : Nat)
  /-- R202: Loss of main power drops the Shutter pins, ends the mode, and lets the Cellar die finish its queue from the reserve. -/
  | mainSupplyLoss (at_ : Nat)
  /-- R528: A warm reset resets every logic-die domain except peripheral group 0 and the backup domain. -/
  | warmReset (at_ cause : Nat) (boot : Boot)
  /-- R553: RST_N held low for at least 1 µs causes a warm reset with cause RST_N. -/
  | rstNLow (at_ ns : Nat) (boot : Boot)
  /-- R524: A PLL losing lock moves group 0 to the crystal and starts a warm reset with cause PLL. -/
  | pllLockLoss (at_ : Nat) (line relocked : Bool) (boot : Boot)
  /-- R532: No launch within CPR_START_TO of loader entry causes a warm reset with cause START and raises STARTFAIL. -/
  | startWatchdogExpiry (at_ : Nat) (boot : Boot)
  /-- R535: WAKE_N low for 1 ms after PWR_EN fell drives PWR_EN high, with a warm reset if main power is present. -/
  | wakeNFall (at_ us : Nat) (boot : Boot)
  /-- R537: A write of CPR_RESET with the right key requests a warm or domain reset. -/
  | cprResetWrite (w : Wr) (boot : Boot)
  /-- R527: A CPR_DOM write gates or resets one clock domain unless the domain is protected or busy. -/
  | domainControlWrite (w : Wr) (d : Nat)
  /-- R446: Returns serial, stepping, behaviour levels, grade, life-cycle and mode state and image version. -/
  | deviceIdentify (r : Req)
  /-- R446: Returns the mode, Almanac, gate, core and command status registers. -/
  | deviceReadStatus (r : Req)
  /-- R516: Returns queued fault records in presentation order without removing them. -/
  | deviceReadFaults (r : Req) (first count : Nat)
  /-- R516: Binds the event trace with a block mask to the issuing session. -/
  | deviceTrace (r : Req) (enable : Bool) (mask : Nat)
  /-- R446: Reads up to 256 words through the target gates as the session world's supervisor class. -/
  | deviceReadReg (r : Req) (addr count : Nat)
  /-- R530: Queues the reply and then performs a warm or domain reset at a period boundary. -/
  | deviceReset (r : Req) (kind : Nat) (domain : Option Nat)
  /-- R421: Returns the tamper block's registers. -/
  | deviceTamperRead (r : Req)
  /-- R421: Sets the response grade of one tamper source, raising only once locked. -/
  | deviceTamperSetGrade (r : Req) (src grade : Nat)
  /-- R418: Blows the disable fuse pair of one tamper source in Blank or Provisioned. -/
  | deviceTamperDisable (r : Req) (src : Nat) (tok : Option Token) (keys : PubKeys)
  /-- R429: Takes a session slot, forms ephemeral and KEM material, and replies with the part's half of the handshake. -/
  | sessionOpen (r : Req) (peer qh kemEk nonce : Nat)
  /-- R429: Checks the host certificate and signatures and establishes the session. -/
  | sessionFinish (r : Req) (cert : Cert) (sig : Sig)
  /-- R435: Closes the session after discarding unstarted commands and answering started ones. -/
  | sessionClose (r : Req)
  /-- R446: Returns the state of every session slot. -/
  | sessionRead (r : Req)
  /-- R429: A pending session with no SESSION.FINISH within 10 s frees its slot. -/
  | sessionFinishTimeout (at_ slot : Nat)
  /-- R435: A session without an accepted packet for CMD_IDLE seconds closes. -/
  | sessionIdleTimeout (at_ slot : Nat)
  /-- R44: Requests a mode change that takes effect at the next period boundary, or begins the Dormant entry phase. -/
  | modeSet (r : Req) (target : Nat)
  /-- R49: With a valid token and re-established keys, clears the Quarantine latch and returns to the home mode. -/
  | modeReleaseQuarantine (r : Req) (tok : Token) (keys : PubKeys)
  /-- R446: Returns MODE_STATUS, MODE_CAUSE and the mode entry stamp. -/
  | modeRead (r : Req)
  /-- R34: Fuses the owner root and assembly number, creates the custody keys, fixes the epoch and starts the test chain. -/
  | lifecycleProvision (r : Req) (root assembly utc : Nat)
  /-- R230: Moves Provisioned to Leased, sealing the test chain and starting or adopting the lease chain. -/
  | lifecycleCommission (r : Req) (token : Token) (keys : PubKeys)
  /-- R232: Moves Leased to Second-life after checking the handover nonce, expiry and incoming owner signatures. -/
  | lifecycleSecondLife (r : Req) (nonce : Nat) (keys : PubKeys) (sig : Sig)
  /-- R37: Moves to Retired with a final retirement seal that closes the chain. -/
  | lifecycleRetire (r : Req) (token : Token) (keys : PubKeys)
  /-- R38: Moves to Field-return, closing any open chain, raising custody epochs and clearing BRE. -/
  | lifecycleFieldReturn (r : Req) (vendor owner : Token) (keys : PubKeys)
  /-- R60: Requests a sample-rate change on the next eligible instant. -/
  | transitSetRate (r : Req) (rate : Nat)
  /-- R60: A pending rate change takes effect on all rings, Meridian and Spectrograph at its instant. -/
  | rateChangeEffect (at_ : Nat)
  /-- R130: The standby twiddle table for the new rate completes within 50 µs of acceptance. -/
  | twiddleTableBuilt (at_ : Nat)
  /-- R78: Starts a ring: lock, enumeration, delay measurement, roster check, trains. -/
  | transitEnumerate (r : Req) (ring : Nat)
  /-- R78: Setting TR_CTRL.EN starts the ring as TRANSIT.ENUMERATE does. -/
  | ringEnableWrite (w : Wr) (ring : Nat)
  /-- R78: A FAILED ring is retried every 100 ms. -/
  | ringRetry (at_ ring : Nat)
  /-- R86: Heals a broken ring with SET_WRAP ahead of a chosen train. -/
  | transitRejoin (r : Req) (ring : Nat)
  /-- R86: After 8,000 consecutive trains with LINKFLT 0 and AUTOREJOIN set, the part heals the break. -/
  | autoRejoin (at_ ring : Nat)
  /-- R87: Selects rings 4–7 as Assembly rings. -/
  | transitSetAssembly (r : Req) (rings : Nat)
  /-- R80: Replaces a ring's roster with the current assignment and resets affected cell states. -/
  | transitAcceptRoster (r : Req) (ring : Nat)
  /-- R446: Returns one ring's status, nodes, break, counters and roster. -/
  | transitRead (r : Req) (ring : Nat)
  /-- R75: Sends a permitted node command through the ring mailbox and returns the response. -/
  | transitNodeRequest (r : Req) (ring end_ node opc : Nat) (payload : List Byte)
  /-- R61: Every 125 µs a train leaves end A (and end B in break mode) with its SYNC and command slot. -/
  | trainDeparture (at_ ring : Nat)
  /-- R98: At S_k Almanac clears VALID in row k mod 1,024 of every partition and the pack segment. -/
  | sampleInstant (at_ : Nat)
  /-- R77: A completed train reaches end B; missing frames are requested by RETX and L is measured. -/
  | trainReceived (at_ ring : Nat) (tail : TrainTail) (intact : Bool)
  /-- R76: A data frame is discarded, deduplicated or passed to Almanac for capture. -/
  | frameReceived (at_ ring tstamp : Nat) (line : Line)
  /-- R72: A node response frame completes a mailbox or enumeration command. Its line is in four parts: RSP, header, payload, and CRC with EOF. -/
  | responseFrameReceived (at_ ring : Nat) (rd : Bool) (rsp hdr data crc : List Nat)
  /-- R66: A node's ECHO ordered set gives the round trip, from which delays and SDLY are recomputed. -/
  | echoReply (at_ ring : Nat) (endB : Bool) (line : Line) (rt : Nat)
  /-- R66: Every node is measured with ECHO at least once a second. -/
  | echoSchedule (at_ ring : Nat)
  /-- R57: A receiver with no valid code group for 2.0 µs declares loss of signal. -/
  | losDeclare (at_ ring : Nat) (endB : Bool)
  /-- R57: LOS clears after 64 consecutive valid code groups. -/
  | losClear (at_ ring : Nat) (endB : Bool)
  /-- R83: A BREAK ordered set at either end declares a break and starts collection. -/
  | breakSetReceived (at_ ring : Nat) (endB rd : Bool) (groups : List Nat)
  /-- R83: No train at end B within L + 5 µs declares a break. -/
  | trainEndBTimeout (at_ ring : Nat)
  /-- R77: A frame still missing after two requests or 32 instants is declared missing with a gap event. -/
  | frameMissing (at_ ring node k : Nat)
  /-- R75: Writing TR_CMD_HDR.GO sends a mailbox command in the next free slot, or refuses it with NSTAT 0xFF. -/
  | mailboxGo (w : Wr) (ring : Nat)
  /-- R89: No response within four trains sets TIMEOUT in TR_RSP_HDR. -/
  | mailboxTimeout (at_ ring : Nat)
  /-- R60: A write to TRG_CTRL.RATE requests a rate change as TRANSIT.SET_RATE does. -/
  | rateRegisterWrite (w : Wr)
  /-- R104: Every 256 ticks Almanac computes each source's reach and advances W. -/
  | watermarkEval (at_ : Nat)
  /-- R507: A mismatch between Almanac channels retires the failing channel and reloads it. -/
  | almanacChannelFault (at_ chan : Nat)
  /-- R108: A write to ALM_LQ_ACK subtracts folded UNQUEUED entries from OVF. -/
  | lqAck (w : Wr)
  /-- R103: Sets one ring's lateness bound. -/
  | captureSetLateness (r : Req) (ring bound : Nat)
  /-- R112: Returns a ring's entries for a node mask and stamp span in canonical order. -/
  | captureReadEntries (r : Req) (ring mask first last : Nat)
  /-- R93: Records a host UTC time with the acceptance stamp as a ledger event. -/
  | captureTimeMark (r : Req) (secs nanos : Nat)
  /-- R114: A worker receiving TIME_HI steps forward or slews slow to the manager's stamp. -/
  | timeHi (at_ stamp : Nat)
  /-- R115: A worker measures its error on each valid uplink SYNC and steers its tick rate. -/
  | uplinkSync (at_ : Nat) (endB : Bool) (seen : TrainSeen) (err : Int)
  /-- R116: A worker missing two consecutive SYNCs enters holdover and clears DISC_LOCK. -/
  | discHoldover (at_ : Nat)
  /-- R135: When W passes B_j each cell's equivalent-circuit fit runs on its impedance records. -/
  | fitCycle (at_ : Nat) (unpublished : List Nat)
  /-- R135: A fit not published by B_j + 10 s keeps the previous fit and counts an overrun. -/
  | fitOverrun (at_ cell : Nat)
  /-- R133: A request without STARTED for 60 s moves to hold-off. -/
  | pilotTimeout (at_ : Nat)
  /-- R130: Writing SPG_CTRL.EN starts a new integration origin or discards dumps and segments. -/
  | spgEnableWrite (w : Wr)
  /-- R141: Sets gate, averaging and limits of a bin range. -/
  | spectroSetBin (r : Req) (first last gate avgsh avgshPilot ifloor agemax : Nat)
  /-- R141: Returns the state of a bin range. -/
  | spectroReadBinState (r : Req) (first last : Nat)
  /-- R141: Returns impedance records for a locus and bin range. -/
  | spectroReadImpedance (r : Req) (locus first last : Nat)
  /-- R141: Returns a cell's fit record. -/
  | spectroReadFit (r : Req) (locus : Nat)
  /-- R141: Returns a cell's temperature record. -/
  | spectroReadTemperature (r : Req) (locus : Nat)
  /-- R141: Returns the pilot request state, bin, frequency, amplitude and duration. -/
  | spectroReadPilot (r : Req)
  /-- R133: The host reports STARTED, STOPPED or REFUSED and the pilot state moves. -/
  | spectroPilotState (r : Req) (report : Nat)
  /-- R138: Loads a chemistry table after checking its layout and monotonicity. -/
  | spectroLoadChemistry (r : Req) (t : Nat) (table : List Byte)
  /-- R141: Assigns a loaded chemistry table to a node. -/
  | spectroSetNodeChemistry (r : Req) (locus t : Nat)
  /-- R130: Clears the averages of named cells and bins before the next fold. -/
  | spectroResetAverages (r : Req) (locus : Option Nat) (first last : Nat)
  /-- R146: After 1,800 s of rest SoC is reset from the OCV table. -/
  | restCorrection (at_ cell : Nat)
  /-- R151: A plausibility check failing for its whole persistence moves a normal cell to watch. -/
  | cellWatchEntry (at_ cell check : Nat)
  /-- R152: A watch cell clean for WATCH_EXIT seconds returns to normal. -/
  | cellWatchExit (at_ cell : Nat)
  /-- R152: WATCH_TIME reaching 86,400 s moves a cell to cell quarantine. -/
  | cellQuarantinePromotion (at_ cell : Nat)
  /-- R155: Every 10 ms the arbiter latches its inputs, forms REQ and hands it to the Shutter. -/
  | limitPeriodBoundary (at_ : Nat)
  /-- R157: A custody write of LIM_BASE_CHG or LIM_BASE_DIS supplies the next period's base. -/
  | limitBaseWrite (w : Wr) (discharge : Bool)
  /-- R156: A cap register write sets a world's cap with a lifetime under the cap rules. -/
  | limitCapWrite (w : Wr) (operator discharge : Bool)
  /-- R156: Sets a world's cap in one direction with a lifetime. -/
  | limitTighten (r : Req) (discharge : Bool) (value life : Nat)
  /-- R156: Sets or clears the custody cap of one direction and clears its operator cap. -/
  | limitRelax (r : Req) (discharge : Bool) (value : Option Nat)
  /-- R161: Returns base, caps, REQ and the last frame. -/
  | limitRead (r : Req)
  /-- R161: Sets the CAN channel and identifier of the publication frame. -/
  | limitSetPublication (r : Req) (chan ident : Nat) (ide : Bool)
  /-- R145: Loads an estimator profile after checking it. -/
  | estimLoadProfile (r : Req) (t : Nat) (profile : List Byte)
  /-- R161: Returns estimate records for a locus and estimate range. -/
  | estimRead (r : Req) (locus first last : Nat)
  /-- R161: Returns cell states. -/
  | cellReadState (r : Req) (locus : Option Nat)
  /-- R152: Moves a cell to watch or quarantine, or releases it from quarantine. -/
  | cellSetState (r : Req) (locus target : Nat)
  /-- R161: Sets BAL_START, BAL_STOP and T_BAL_MAX. -/
  | balanceSetPolicy (r : Req) (start stop tMax : Nat)
  /-- R161: Returns the current bleed decision per node. -/
  | balanceRead (r : Req)
  /-- R160: Enables Spectrograph self-adaptation and sets GATE_MIN. -/
  | estimSetAdapt (r : Req) (enable : Bool) (gateMin : Nat)
  /-- R161: Sets QFACTOR and WATCH_EXIT. -/
  | estimSetWatch (r : Req) (qfactor watchExit : Nat)
  /-- R164: Meridian writes the pack segment entry for each instant with its flags: for instant `k`. -/
  | packSampleWrite (at_ k : Nat)
  /-- R173: At each 160 kS/s sample the hardware path adds energy to the register pairs. -/
  | intermediateSample (at_ : Nat) (bits : List Nat)
  /-- R169: 256 MCLK cycles without a transition set STUCK on an input. -/
  | stuckDetect (at_ input : Nat)
  /-- R169: STUCK persisting 1 ms latches MODFLT and may change the channel in service. -/
  | modfltSet (at_ input : Nat)
  /-- R169: MODFLT clears after 1 s without STUCK. -/
  | modfltClear (at_ input : Nat)
  /-- R167: A calibration register write is accepted in Provisioning or Depot and recorded as an event. -/
  | calibrationWrite (w : Wr) (offset : Nat)
  /-- R174: Setting MER_CTRL.EN starts counting and locks MER_BASE. -/
  | meterEnable (w : Wr)
  /-- R175: A queued test-output pulse is emitted at least 5 ms after the previous one. -/
  | pulseOutput (at_ : Nat)
  /-- R182: Returns the ten registers, MER_STATUS and the unmetered counters. -/
  | meterRead (r : Req)
  /-- R168: Starts a ZERO, SPAN or SET calibration of one input. -/
  | meterCalibrate (r : Req) (form input ref : Nat) (gain ofs dly : Nat)
  /-- R168: After 1 s of averaging, OFS or GAIN is written or the command refused. -/
  | calibrateAverageDone (at_ : Nat)
  /-- R170: Names the current channel in service. -/
  | meterSelectChannel (r : Req) (channel : Nat)
  /-- R182: Sets the cross-check and no-load parameters. -/
  | meterSetCrosscheck (r : Req) (enable : Bool) (rel abs noload : Nat)
  /-- R178: Loads the standby WWE bank, clamping weights. -/
  | meterLoadWweTable (r : Req) (table : List Byte)
  /-- R180: Arms the standby bank for exchange when its digest matches. -/
  | meterActivateWweTable (r : Req) (digest : List Byte)
  /-- R182: Returns the active or standby table and its digest. -/
  | meterReadWweTable (r : Req) (bank : Nat)
  /-- R182: Sets I_RATED and pack capacity. -/
  | meterSetRating (r : Req) (iRated cap : Nat)
  /-- R182: Sets the test output. -/
  | meterSetPulse (r : Req) (enable : Bool) (sel imp : Nat)
  /-- R187: Requests a contactor state, checked against the Shutter bounds. -/
  | shutterSetContactor (r : Req) (output : Nat) (close : Bool)
  /-- R187: A write of SHT_CTC_CMD requests a contactor state and records the result. -/
  | contactorRegisterRequest (w : Wr)
  /-- R191: Asserts or releases the caller's derate bit. -/
  | shutterDerate (r : Req) (assert : Bool)
  /-- R191: A write of a world's derate register sets or clears its bit of SHT_DERATE. -/
  | derateBitWrite (w : Wr) (operator : Bool)
  /-- R195: Sets LIMP_PCT, deferred while a hold is on. -/
  | shutterSetLimpFloor (r : Req) (pct : Nat)
  /-- R195: A write of SHT_LIMP sets or defers the limp floor. -/
  | limpRegisterWrite (w : Wr)
  /-- R189: Sets PRE_MIN and PRE_MAX. -/
  | shutterSetPrecharge (r : Req) (preMin preMax : Nat)
  /-- R204: Configures one hazard input in Depot. -/
  | shutterSetHazard (r : Req) (h action openDly filt plaus : Nat)
  /-- R200: Sets a node's bleed mask and duty within the bounds. -/
  | shutterSetBleed (r : Req) (locus mask duty : Nat)
  /-- R204: Returns Shutter status, hazards, hold, dwell and published limits. -/
  | shutterRead (r : Req)
  /-- R200: A SHT_BLEED write is sent to its node as SET_BLEED within two trains. -/
  | bleedRegisterWrite (w : Wr) (ring node : Nat)
  /-- R189: SHT_PRE opens 20 ms after a close of SHT_MPOS is accepted. -/
  | prechargeAutoOpen (at_ : Nat)
  /-- R189: SHT_PRE opens after PRE_MAX without SHT_MPOS closing. -/
  | prechargeTimeout (at_ : Nat)
  /-- R196: A hazard pin low for 2 µs asserts its input with its ACTION and seen latch. -/
  | hazardAssert (at_ h : Nat)
  /-- R196: A hazard pin high for FILT clears its input and may start the post-hazard hold. -/
  | hazardClear (at_ : Nat) (pin : HighPin)
  /-- R197: OPEN_DLY after an ACTION 2 assertion drops every contactor output. -/
  | hazardOpen (at_ h : Nat)
  /-- R198: An input asserted over 50 A for PLAUS is flagged STUCK. -/
  | hazardStuck (at_ h : Nat)
  /-- R192: A feedback differing from its command for 50 ms sets CFAULT. -/
  | cfaultSet (at_ output : Nat)
  /-- R192: Feedback agreeing for 50 ms clears CFAULT. -/
  | cfaultClear (at_ output : Nat)
  /-- R199: A feedback input with over 20 edges in 10 ms is declared chattering. -/
  | chatterDeclare (at_ output : Nat)
  /-- R199: A chattering input quiet for 100 ms is evaluated again and its episode recorded. -/
  | chatterEnd (at_ output edges : Nat) (closed : Bool)
  /-- R208: 64 ms after close the block is assembled, tagged and hashed. -/
  | blockAssembly (at_ : Nat)
  /-- R219: The signed seal is stored in the seal store and Cellar mirror, with the tally backup. -/
  | sealComplete (at_ : Nat)
  /-- R225: An archive entry is programmed and read back, or rewritten in the next unit on failure. -/
  | archiveEntryWrite (at_ : Nat) (ok : Bool)
  /-- R227: No entry written for 10 s puts the archive in fault with the holding queue in use. -/
  | archiveFault (at_ : Nat)
  /-- R227: Every 10 s in fault the device is retried and the queue drained on recovery. -/
  | archiveRetry (at_ mib : Nat) (unit64 : Bool) (device : Option Pieces)
  /-- R221: Setting LDG_CTRL.EN continues the chain from the newest valid tally record. -/
  | ledgerEnable (w : Wr)
  /-- R234: Makes an on-demand seal of the head. -/
  | ledgerSealNow (r : Req)
  /-- R234: Returns the head's SEQ, STAMP_TO, hash, CHAIN_ID and SEAL_SEQ. -/
  | ledgerReadHead (r : Req)
  /-- R234: Returns seals from the last 64. -/
  | ledgerReadSeals (r : Req) (first last : Nat)
  /-- R234: Returns whole archive entries of one log. -/
  | ledgerReadArchive (r : Req) (log first size : Nat)
  /-- R226: Records the highest offloaded LSEQ of a log. -/
  | ledgerAckOffload (r : Req) (log lseq : Nat)
  /-- R234: Erases and reformats the archive with new log proportions. -/
  | ledgerSetArchive (r : Req) (blocks events seals : Nat)
  /-- R234: Returns the head's lease tallies. -/
  | leaseReadTallies (r : Req)
  /-- R232: Returns a signed handover statement for the incoming owner. -/
  | ledgerHandoverPrepare (r : Req) (newRoot : Nat)
  /-- R242: A move to ALU.ADD computes A + V into ALU.R. -/
  | aluAdd (m : Mv)
  /-- R242: A move to ALU.SUB computes A − V into ALU.R. -/
  | aluSub (m : Mv)
  /-- R242: A move to ALU.AND computes A and V. -/
  | aluAnd (m : Mv)
  /-- R242: A move to ALU.OR computes A or V. -/
  | aluOr (m : Mv)
  /-- R242: A move to ALU.XOR computes A xor V. -/
  | aluXor (m : Mv)
  /-- R242: A move to SHF.SLL shifts V left. -/
  | shfSll (m : Mv)
  /-- R242: A move to SHF.SRL shifts V right with zero fill. -/
  | shfSrl (m : Mv)
  /-- R242: A move to SHF.SRA shifts V right with sign fill. -/
  | shfSra (m : Mv)
  /-- R244: A move to MAC.MUL sets ACC to V × B in real mode. -/
  | macMul (m : Mv)
  /-- R244: A move to MAC.ACC adds V × B to ACC in real mode. -/
  | macAcc (m : Mv)
  /-- R245: A move to MAC.CMUL sets ACC to the complex product. -/
  | macCmul (m : Mv)
  /-- R245: A move to MAC.CACC adds the complex product to ACC. -/
  | macCacc (m : Mv)
  /-- R252: A move to LSU.LDW loads the word at address V. -/
  | lsuLdw (m : Mv)
  /-- R252: A move to LSU.LDP loads the word at P and adds V to P. -/
  | lsuLdp (m : Mv)
  /-- R252: A move to LSU.STW stores D at address V and logs it for undo. -/
  | lsuStw (m : Mv)
  /-- R242: A move to CMP.EQ sets G to V = B. -/
  | cmpEq (m : Mv)
  /-- R242: A move to CMP.NE sets G to V ≠ B. -/
  | cmpNe (m : Mv)
  /-- R242: A move to CMP.LT sets G to V < B signed. -/
  | cmpLt (m : Mv)
  /-- R242: A move to CMP.GE sets G to V ≥ B signed. -/
  | cmpGe (m : Mv)
  /-- R242: A move to CMP.LTU sets G to V < B unsigned. -/
  | cmpLtu (m : Mv)
  /-- R257: A move to STR.GET reads a stream field and may advance the cursor. -/
  | strGet (m : Mv)
  /-- R260: A move to BR branches to V after two delay slots. -/
  | br (m : Mv)
  /-- R254: A move to LIMM extends the long-immediate prefix. -/
  | limm (m : Mv)
  /-- R262: SYS HALT stops a lane, or waits for an interrupt on a custody core. -/
  | sysHalt (m : Mv)
  /-- R262: SYS YIELD suspends the lane and notifies the vat control engine. -/
  | sysYield (m : Mv)
  /-- R287: SYS MARK, when accepted, captures a checkpoint and may change the job. -/
  | sysMark (m : Mv)
  /-- R262: SYS 0x10–0x1F traps with SW_TRAP after the other move. -/
  | swtrap (m : Mv) (code : Nat)
  /-- R268: LE_CTRL.RUN runs the lane from LE_PC. -/
  | leRun (w : Wr) (e : Nat)
  /-- R268: LE_CTRL.STEP issues one instruction then suspends. -/
  | leStep (w : Wr) (e : Nat)
  /-- R268: LE_CTRL.SUSPEND suspends the lane at the next boundary. -/
  | leSuspend (w : Wr) (e : Nat)
  /-- R267: LE_CTRL.SKIP with RUN resumes after the trapping instruction. -/
  | leSkip (w : Wr) (e : Nat)
  /-- R268: LE_CTRL.RESET clears the lane's state and sets it idle. -/
  | leReset (w : Wr) (e : Nat)
  /-- R259: A write to LE_STR_POS moves the stream cursor to a held instant or is refused. -/
  | streamReplay (w : Wr) (e : Nat)
  /-- R267: LE_EMU_CTL.GO arms a result deposit at a given port and distance. -/
  | emuDepositArm (w : Wr) (e : Nat)
  /-- R278: A move to DTi expands the decode-table entry's micro-instructions. -/
  | compositeMove (m : Mv) (entry : Nat)
  /-- R281: A move to LSW.RD reads an item of a lane's state. -/
  | lswRd (m : Mv)
  /-- R281: A move to LSW.WR writes an item of a lane's state or is refused. -/
  | lswWr (m : Mv)
  /-- R275: A move to BUS.LD starts a spine read. -/
  | busLd (m : Mv)
  /-- R275: A move to BUS.ST posts a spine write checked at the target gate. -/
  | busSt (m : Mv)
  /-- R275: A spine read completes with BUS.R and DONE or ERR. -/
  | busLoadComplete (at_ : Nat) (load : LoadAnswer)
  /-- R280: SYS 0x04 returns the vat control engine from the LTRAP handler. -/
  | sysReturn (m : Mv)
  /-- R280: The vat control engine takes a presented lane trap at an eligible boundary. -/
  | ltrapTaken (at_ v : Nat)
  /-- R280: Writing VAT_LTRAP.VALID with 1 acknowledges the presented lane trap. -/
  | ltrapAck (w : Wr) (v : Nat)
  /-- R279: VAT_DT_CMD commit checks and validates a decode-table entry. -/
  | dtCommit (w : Wr) (v : Nat)
  /-- R279: VAT_DT_CMD retire clears an entry's VALID. -/
  | dtRetire (w : Wr) (v : Nat)
  /-- R292: VAT_CTRL.RESET resets the vat control engine. -/
  | vceReset (w : Wr) (v : Nat)
  /-- R285: A background job waiting 0.75 PERIOD is promoted to stream class. -/
  | jobPromote (at_ v job : Nat)
  /-- R285: A background job waiting a full PERIOD runs one protection quantum and counts a miss. -/
  | jobDeadlineMiss (at_ v job : Nat)
  /-- R288: 128 stores or 19,531 instructions without an accepted MARK invalidate the checkpoint. -/
  | checkpointMiss (at_ e : Nat)
  /-- R289: A declared lane fault puts the spare in service from the checkpoint. -/
  | laneFault (at_ e cause : Nat) (bad : Option Nat)
  /-- R505: A vat control engine fault resets it, and a second within 1 s retires the vat. -/
  | vceFault (at_ v : Nat)
  /-- R282: A lockstep mismatch stops the custody pair. -/
  | pairMismatch (at_ pair addr : Nat)
  /-- R303: A move to GATE.CALL is checked and enters the target context or is refused. -/
  | gateCall (m : Mv)
  /-- R304: A move to GATE.RET pops the call frame and returns to the caller. -/
  | gateRet (m : Mv)
  /-- R309: A move to EXC.RET pops the exception frame and restores the interrupted context. -/
  | excRet (m : Mv)
  /-- R309: A move to EXC.SETPC sets the top exception frame's return address. -/
  | excSetpc (m : Mv)
  /-- R309: A move to EXC.SETSP sets the top exception frame's saved T63. -/
  | excSetsp (m : Mv)
  /-- R311: A move to HOLD opens a hold window. -/
  | hold (m : Mv)
  /-- R311: A move to HOLD.END closes the open hold window. -/
  | holdEnd (m : Mv)
  /-- R311: A hold window reaching its length is ended by hardware and counted. -/
  | holdOverrun (at_ pair : Nat)
  /-- R310: A pending enabled line above CPRI is taken at an eligible boundary. -/
  | interruptTaken (at_ pair : Nat)
  /-- R315: On a shared pair the running slice ends and the other world's thread runs. -/
  | sliceSwitch (at_ : Nat)
  /-- R300: A write of CORE_RGN_HI commits a staged region if the writer may. -/
  | regionCommit (w : Wr) (ctx i : Nat)
  /-- R302: A write of a gate entry's CTRL commits or clears the entry. -/
  | gateEntryCommit (w : Wr) (g : Nat)
  /-- R330: TG_VPOP removes the oldest violation log entry. -/
  | violationPop (w : Wr) (world : Nat)
  /-- R325: A write of TG_WIN_HI commits a staged window or refuses it. -/
  | windowCommit (w : Wr) (i : Nat)
  /-- R337: A security pair with equal halves reads restrictive and trips the duplicated-logic monitor. -/
  | complementaryPairFault (at_ kind index : Nat)
  /-- R506: Disagreeing bank controller copies retire the failing copy. -/
  | sramControllerFault (at_ bank : Nat) (residue0 residue1 : Bool)
  /-- R339: The logic die sends HELLO with a fresh nonce to start a die-to-die session. -/
  | d2dSessionStart (at_ : Nat)
  /-- R339: The Cellar reply is checked, K_S derived and the confirmation sent. -/
  | d2dHelloReply (at_ nonceC mac : Nat)
  /-- R340: A die-to-die transfer is accepted only with a valid CMAC and the next counter. -/
  | d2dTransfer (at_ counter mac : Nat) (toCellar : Bool) (payload : List Nat)
  /-- R350: FLC_CMD OP 1 programs lines with verified pulses. -/
  | flashOpProgram (w : Wr) (bank : Option Nat)
  /-- R351: FLC_CMD OP 2 erases sectors under journal intent and settled entries. -/
  | flashOpErase (w : Wr) (bank : Option Nat)
  /-- R349: FLC_CMD OP 3 reads a range at a margin. -/
  | flashOpVerify (w : Wr) (bank : Option Nat)
  /-- R358: FLC_CMD OP 4 programs a new selector line for a twin. -/
  | flashOpSelect (w : Wr) (bank : Option Nat)
  /-- R347: A firmware-channel operation ends and its status is held in FLC_RESULT. -/
  | flashOpComplete (at_ : Nat) (result : FlashEnd)
  /-- R353: 5 µs without reads resumes a suspended operation. -/
  | flashResume (at_ bank : Nat)
  /-- R355: A FLC_BANK RELEASE bit releases a settled bank. -/
  | bankRelease (w : Wr)
  /-- R360: Returns flash contents. -/
  | flashRead (r : Req) (addr len : Nat)
  /-- R360: Programs flash through the firmware channel. -/
  | flashProgram (r : Req) (bank : Option Nat) (addr : Nat) (data : List Byte)
  /-- R360: Erases flash sectors through the firmware channel. -/
  | flashErase (r : Req) (bank : Option Nat) (addr sectors : Nat)
  /-- R360: Verifies a flash range at a margin. -/
  | flashVerify (r : Req) (addr len margin : Nat) (expected : List Byte)
  /-- R358: Checks a twin's signature and selects it. -/
  | flashActivateTwin (r : Req) (bank : Option Nat) (twinB : Bool) (imgver : Nat)
  /-- R360: Returns flash controller status, selector and journals. -/
  | flashReadStatus (r : Req)
  /-- R369: CEL_WCMD.GO offers a staged entry to the Cellar write queue. -/
  | cellarEntryQueue (w : Wr)
  /-- R369: A Cellar entry write completes with both copies and its commit word. -/
  | cellarEntryCommit (at_ : Nat)
  /-- R371: After a Cellar reset the die scans commit words, repairs copies and closes any open incident. -/
  | cellarDieReset (at_ : Nat)
  /-- R373: 1 s after an incident's last entry it closes with an INC_SUMMARY entry. -/
  | incidentTimeout (at_ : Nat)
  /-- R373: CEL_CTRL.INC_CLOSE closes the open incident. -/
  | incClose (w : Wr)
  /-- R363: VRES crossing a keeper level restarts or stops charging and updates VRES_OK. -/
  | vresThreshold (at_ mv : Nat)
  /-- R366: Loss of VBAK and main power together restarts the backup counter and clears BRE and the latch. -/
  | backupPowerLoss (at_ : Nat)
  /-- R378: Returns the 256-byte Cellar summary. -/
  | cellarReadSummary (r : Req)
  /-- R446: Returns committed Cellar entries in an ENO range. -/
  | cellarReadEntries (r : Req) (first count : Nat)
  /-- R446: Returns seals from the mirror. -/
  | cellarReadSeals (r : Req) (first last : Nat)
  /-- R446: Closes the open incident. -/
  | cellarCloseIncident (r : Req)
  /-- R386: Firmware writes key material into its world's staging buffer. -/
  | keyPortWrite (w : Wr) (offset : Nat)
  /-- R386: The staging buffer is zeroed 1 ms after its last write without a WRITE. -/
  | stagingTimeout (at_ world : Nat)
  /-- R387: Key store OP 1 loads a slot from the staging buffer. -/
  | ksWrite (w : Wr)
  /-- R395: Key store OP 2 loads a slot's key into a cipher block. -/
  | ksLoad (w : Wr)
  /-- R388: Key store OP 3 unwraps a blob into its slot. -/
  | ksImport (w : Wr)
  /-- R390: Key store OP 4 raises a slot's epoch, orphaning its descendants. -/
  | ksEpoch (w : Wr)
  /-- R390: Key store OP 5 empties a slot. -/
  | ksClear (w : Wr)
  /-- R389: Key store OP 6 generates a key in a slot. -/
  | ksGen (w : Wr)
  /-- R389: Key store OP 7 wraps a loaded slot into a blob. -/
  | ksExport (w : Wr)
  /-- R397: A CB_CLAIM write claims or frees a shared cipher block. -/
  | cipherClaim (w : Wr) (blk : Nat)
  /-- R397: A claim lapses 10 ms after the last operation. -/
  | cipherClaimLapse (at_ blk : Nat)
  /-- R396: CB_CMD.GO starts the selected function of a cipher block. -/
  | cipherOperation (w : Wr) (blk : Nat)
  /-- R396: A cipher-block operation ends with its result. -/
  | cipherOperationDone (at_ blk : Nat)
  /-- R403: A failed health test discards input, reruns the start-up test and may exclude the source. -/
  | entropySourceFail (at_ src : Nat) (apt : Bool)
  /-- R405: A starter reseeds after 1,024 requests or 1 s. -/
  | starterReseed (at_ n : Nat)
  /-- R405: A read of CUL_RNG or CUL_VRNG draws 32 bits from its starter. -/
  | rngRead (at_ cls eng : Nat) (reg : RngReg) (noise : Nat)
  /-- R401: Draws a nonce outstanding on the session. -/
  | keysChallenge (r : Req)
  /-- R406: Generates a key of slots 12–19 and returns its public keys and blob. -/
  | keysGenerate (r : Req) (slot : Nat)
  /-- R406: Returns a slot's public keys. -/
  | keysReadPublic (r : Req) (slot : Nat)
  /-- R398: Installs a key certificate after checking it. -/
  | keysInstallCert (r : Req) (cert : Cert)
  /-- R393: Draws a new BRE, raises anchored epochs and regenerates the roots. -/
  | keysReestablish (r : Req) (tok : Token) (keys : PubKeys)
  /-- R406: Raises the epoch of a slot. -/
  | keysRaiseEpoch (r : Req) (slot : Nat)
  /-- R406: Returns the state and epoch of every slot. -/
  | keysReadState (r : Req)
  /-- R413: An armed monitor detecting its condition applies its source's graded response. -/
  | tamperTrip (at_ index measure : Nat)
  /-- R419: A source leaving TMP_ACTIVE writes a KIND 1 TAMPER entry. -/
  | tamperClear (at_ index measure : Nat)
  /-- R416: Every PERIOD ms one monitor's primary comparator is stimulated. -/
  | tamperSelfTest (at_ : Nat) (tripped : Bool)
  /-- R416: A primary comparator not tripping within 20 µs is a monitor fault treated as a trip. -/
  | tamperTestTimeout (at_ : Nat)
  /-- R415: A TMP_GRADE write changes grades, raising only after the lock. -/
  | gradeWrite (w : Wr)
  /-- R417: On VBAK alone a Rind or mesh trip clears BRE, sets the latch and writes an entry from the reserve. -/
  | backupTamperResponse (at_ index measure : Nat)
  /-- R416: On backup each Rind net and mesh port is tested every 3,600 s. -/
  | backupTamperTest (at_ : Nat) (tripped : Bool)
  /-- R437: A command packet is checked in order and queued to its world or refused. -/
  | packetReceived (at_ path : Nat)
  /-- R439: CMD_RPLY_CTL.GO queues a final or interim reply for a descriptor. -/
  | replyIssue (w : Wr) (world : Nat)
  /-- R440: A WRITE transaction delivers one packet when SPI_CS_N rises after LEN bytes. -/
  | spiWrite (at_ len : Nat) (bytes : List Byte)
  /-- R440: A READ transaction returns and removes the oldest queued packet. -/
  | spiRead (at_ : Nat) (whole : Bool)
  /-- R440: A STATUS transaction returns queue length and receive state. -/
  | spiStatus (at_ : Nat)
  /-- R441: A CAN FD segment is added to reassembly or discards the packet in progress. -/
  | canFrameReceived (at_ chan ident : Nat) (ide fd : Bool) (bytes : List Byte)
  /-- R441: A gap over 50 ms discards the packet in progress. -/
  | canReassemblyTimeout (at_ chan : Nat)
  /-- R442: A UDP segment is added to reassembly for its source. -/
  | ethernetDatagramReceived (at_ src : Nat) (good : Bool) (bytes : List Byte)
  /-- R442: A gap over 200 ms discards a source's reassembly. -/
  | ethernetReassemblyTimeout (at_ src : Nat)
  /-- R442: The part answers an ARP request for its address. -/
  | arpRequest (at_ target sender : Nat)
  /-- R516: A trace packet is sent when the buffer holds 1,024 bytes or its oldest item is 100 ms old. -/
  | tracePacket (at_ : Nat)
  /-- R451: SP_RST_N rising on a supplied contact sends the ATR and starts an activation. -/
  | serviceActivation (at_ mv : Nat)
  /-- R451: A PPS request is echoed and applied or answered without PPS1. -/
  | pps (at_ t : Nat) (pps1 : Option Nat)
  /-- R452: A service-port block is checked and acknowledged or completes a command chain. -/
  | serviceBlockReceived (at_ pcb len : Nat) (inf : List Byte) (edc parity : Bool)
  /-- R453: A gap over CWT discards the block as erroneous. -/
  | serviceCwtTimeout (at_ : Nat)
  /-- R454: An answer not ready within 12 etu drives SP_IO low as busy. -/
  | serviceBusy (at_ : Nat)
  /-- R456: S(RESYNCH) resets both N(S) and discards any chain. -/
  | resynch (at_ : Nat) (inf : List Byte)
  /-- R456: S(POLL) sends the next queued reply chain. -/
  | poll (at_ : Nat) (inf : List Byte)
  /-- R456: S(STATUS) returns port status, last write and undefined blocks. -/
  | status (at_ : Nat) (inf : List Byte)
  /-- R460: S(UNLOCK) counts an attempt and then compares the password. -/
  | unlock (at_ : Nat) (inf : List Byte)
  /-- R461: S(FORCED_ERASE) zeroes the user area and clears the password and lockout. -/
  | forcedErase (at_ : Nat) (inf : List Byte)
  /-- R456: S(AREA_READ) returns one user-area block. -/
  | areaRead (at_ : Nat) (inf : List Byte)
  /-- R463: S(AREA_WRITE) writes one user-area block with its state. -/
  | areaWrite (at_ : Nat) (inf : List Byte)
  /-- R462: VCC_SP failing completes or leaves undefined a fully received write. -/
  | serviceProbeRemoval (at_ whole : Nat) (torn : Bool)
  /-- R446: Returns the service port configuration. -/
  | serviceReadConfig (r : Req)
  /-- R459: Sets or clears the port password and clears the count and lockout. -/
  | serviceSetPassword (r : Req) (password : Option Nat)
  /-- R457: Reads user-area blocks. -/
  | serviceReadArea (r : Req) (first count : Nat)
  /-- R457: Writes user-area blocks. -/
  | serviceWriteArea (r : Req) (first : Nat) (data : List Byte)
  /-- R467: The tag field rising puts the tag in IDLE. -/
  | fieldOn (at_ strength store : Nat)
  /-- R479: Field loss discards any response and forgets the tag's state. -/
  | fieldLoss (at_ : Nat)
  /-- R466: REQA or WUPA is answered with ATQA. -/
  | reqa (at_ : Nat) (wupa : Bool)
  /-- R467: Anticollision and SELECT at cascade levels 1 and 2 are answered. -/
  | anticollision (at_ level : Nat) (bits : List Bool)
  /-- R467: HLTA before RATS halts the tag. -/
  | hlta (at_ : Nat)
  /-- R467: RATS is answered with the ATS and enables layer 4. -/
  | rats (at_ param : Nat)
  /-- R467: S(DESELECT) moves the tag to HALT. -/
  | deselect (at_ : Nat)
  /-- R468: Returns tag status, attempts and power source. -/
  | tagInfo (at_ : Nat)
  /-- R468: Returns passport blocks. -/
  | tagRead (at_ first count : Nat)
  /-- R475: Writes one integrator-area block atomically after a password check. -/
  | tagWrite (at_ block : Nat) (data : List Byte) (store : Nat) (cut : Option Bool)
  /-- R474: Counts an attempt, then compares the tag password. -/
  | pwCheck (at_ password : Nat)
  /-- R468: Returns the Cellar summary. -/
  | tagSummary (at_ : Nat)
  /-- R468: Returns a seal from the mirror. -/
  | tagSeal (at_ sealSeq : Nat)
  /-- R468: Returns Cellar entries in an ENO range. -/
  | tagEntries (at_ first count : Nat)
  /-- R477: A wired item waiting 50 ms is applied after an S(WTX). -/
  | wiredItemWait (at_ : Nat)
  /-- R476: TAG_WCMD OP 1 stages one block. -/
  | tagStage (w : Wr)
  /-- R476: TAG_WCMD OP 2 writes the group word and rolls the group forward. -/
  | tagCommit (w : Wr)
  /-- R476: TAG_WCMD OP 3 discards the staged blocks. -/
  | tagDiscard (w : Wr)
  /-- R476: A committed group's blocks are copied and the group word cleared. -/
  | rollForward (at_ n store : Nat)
  /-- R480: Returns tag configuration, status and UID. -/
  | tagReadConfig (r : Req)
  /-- R480: Sets tag settings and password. -/
  | tagSetConfig (r : Req) (en record vharv : Bool) (rate : Nat) (password : Option (Nat × Nat))
  /-- R480: Returns passport blocks. -/
  | passportRead (r : Req) (first count : Nat)
  /-- R476: Writes passport blocks as one group. -/
  | passportWrite (r : Req) (first : Nat) (data : List Byte)
  /-- R473: Composes, signs and writes the custody passport blocks. -/
  | passportSign (r : Req) (identity chemistry : Option (List Byte))
  /-- R485: A worker takes its DEVICE, deputy and TERM from an ASM_ANNOUNCE. -/
  | asmAnnounce (at_ ring term assembly deputy flags serial : Nat)
  /-- R484: A worker answers SEAL_REQ and resends that seal's digest. -/
  | sealReq (at_ sealSeq : Nat)
  /-- R487: A manager takes a worker's STATUS or seal digest frame and merges digests. Its line is in two parts: SOF with the
  header, and what follows. -/
  | assemblyFrameReceived (at_ ring : Nat) (rd : Bool) (hdr data : List Nat)
  /-- R489: Three missed SYNCs make the deputy declare the manager lost and promote itself. -/
  | managerLoss (at_ : Nat)
  /-- R500: Returns assembly status, TERM, deputy, presence and behaviour levels. -/
  | assemblyRead (r : Req)
  /-- R483: Stores a role for the next power-up or resumes a demoted manager. -/
  | assemblySetRole (r : Req) (role mask : Nat)
  /-- R488: Names the deputy. -/
  | assemblySetDeputy (r : Req) (device : Nat)
  /-- R493: Seals the head with KIND 5, orphans custody keys and cedes custody. -/
  | assemblySuccessionSeal (r : Req) (newSerial : Nat) (token : Token) (keys : PubKeys)
  /-- R494: Checks a succession certificate and sets ADOPT_PEND. -/
  | assemblySucceed (r : Req) (cert : SuccCert) (block sealed : List Byte) (keyCert : Option Cert)
  /-- R500: Returns a worker's last STATUS and merged SEAL_SEQ. -/
  | assemblyReadWorker (r : Req) (device : Nat)
  /-- R511: FLT_ACK removes the presented fault record. -/
  | faultAck (w : Wr)
  /-- R503: FLT_DECLARE declares a lane or vat control engine fault. -/
  | faultDeclare (w : Wr)
  /-- R534: With contactors open and flash and queue drained, sessions close, outputs fall and PWR_EN goes low. -/
  | dormantPowerOff (at_ : Nat)
  /-- R543: Checks and starts a run of self-tests. -/
  | selftestRun (r : Req) (mask : Nat) (fuse : Bool) (token : Option Token) (keys : PubKeys)
  /-- R546: Returns the result records of a run. -/
  | selftestReadResult (r : Req) (run : Nat)
  /-- R545: Stops the run in progress. -/
  | selftestAbort (r : Req)
  /-- R544: A test ends, writes its record and resets its isolation set. -/
  | selftestTestComplete (at_ : Nat) (fails : List TestFail)
  /-- R7: Writing 1 to a block's LOCK bit locks its RWL fields until the domain reset. -/
  | lockSet (w : Wr) (addr : Nat)
  /-- R6: Writing 1 to a block's CLRCNT clears its counters. -/
  | counterClear (w : Wr) (addr : Nat)
  /-- R6: A write to a register without its own row sets, clears or ignores fields by their access codes. -/
  | registerWrite (w : Wr) (addr : Nat)
  /-- R242: An instruction whose moves write only registers, operand ports or the IE register, or are no-operations, issues and updates those ports. -/
  | operandMove (m : Mv) (dst : Nat)
  /-- R284: When the stamp reaches a periodic job's RELEASE, the job becomes READY again and may displace the running job at its next change point. -/
  | jobRelease (at_ v job : Nat)
  /-- R390: A key-store operation ends after its bound, for an anchored EPOCH after the Cellar counter commits, clearing GO and setting KS_RESULT and KS_IRQ.DONE. -/
  | ksOperationDone (at_ : Nat)
  /-- R333: A bank finishes its zeroisation with valid ECC, sets its TG_STATUS.READY bit, and the accesses that waited on it proceed. -/
  | sramBankInitialised (at_ bank : Nat)
  /-- R449: The Ethernet PHY link goes up or down, or a CAN channel goes bus-off or recovers to bus-on, updating XP_STATUS and raising XP_IRQ.LINK. -/
  | linkChanged (at_ slot : Nat) (up g1000 : Bool)
  /-- R451: SP_RST_N falls outside busy and the service-port activation ends, dropping any unlock and the N(S) state. -/
  | deactivation (at_ : Nat)
  /-- R454: The host stops or restarts SP_CLK, setting SVC_STATUS.CLKSTOP, and on restart the part releases its busy signal and sends its answer. -/
  | clockStop (at_ : Nat) (restart inside : Bool)
  /-- R466: A layer-4 I-, R- or S-block from the reader, such as an R(ACK) within a response chain or the answer to S(WTX), is checked and the next block is sent. -/
  | rfBlockReceived (at_ pcb : Nat) (inf : List Byte) (good : Bool)
  /-- R467: A PPS request from the reader after RATS selects the bit rates, capped by TAG_CTRL.MAXRATE. -/
  | rfPps (at_ dr ds : Nat)
  /-- R20: The die-to-die link drops; the Cellar die completes any accepted operation on its own supply and the logic die learns the outcome after a new session. -/
  | d2dLinkDrop (at_ : Nat)
  /-- R88: A worker takes a node command frame on its uplink, such as ENUM, ECHO, SET_SDLY, READ_ID, RETX, SET_WRAP or CLEAR_ADDR, acts on it and answers in a later train. Its line is in three parts:
  CMD with the header, payload, and CRC with EOF. -/
  | commandFrame (at_ : Nat) (rd : Bool) (hdr data crc : List Nat)
  deriving DecidableEq, Repr

end Sys2Proof
end

