-- ==== Sys2Proof/Decode.lean ====
section
/-!
DEFINITION. Decode.lean: the command a word spells. No row of the opcode table gives bits (its "fields" are empty for every row), so no word
spells a command (log entry 6).
-/
namespace Sys2Proof

/-- The command that `nbits` bits `w` spell by the table: none. -/
def decodeTableWord (_nbits _w : Nat) : Option Instr := none

end Sys2Proof
end

