-- ==== Sys2Proof/Config.lean ====
section
/-!
DEFINITION. Config.lean: what an implementation fixes and what the spec leaves open. Every constant here is opaque: no proof can
see its value, so a claim holds whatever it is. The log entries of notes/assumptions say what each one stands for.
-/
namespace Sys2Proof.Config

/-- A free value of width `w`, drawn anew at each count (log entry 4). -/
opaque freeValue (w : Nat) : Nat → BitVec w

/-- The part's SERIAL, fused at manufacture (R388). -/
opaque serial : BitVec 64
/-- The Ethernet MAC address, as fused: byte 0 in the low byte (R449). -/
opaque mac : BitVec 48
/-- The stepping letter and digit that DEVICE.IDENTIFY returns (R446). -/
opaque stepping : BitVec 16
/-- The grade that DEVICE.IDENTIFY returns: AK or SK (R12, R446). -/
opaque grade : BitVec 8
/-- The tag's UID, UID0 in the low byte (R467). -/
opaque uid : BitVec 56
/-- The originality signature, r then s, written at manufacture (R471). -/
opaque originality : BitVec 512
/-- The hardware unique key (R382). -/
opaque huk : BitVec 512
/-- The vendor root hash held in boot ROM (R400, R402). -/
opaque vendorRoot : BitVec 384

/-- Where LIFECYCLE.PROVISION places the blob of a root slot in flash, in blobs of 128 bytes (R393): the spec names no place. -/
opaque rootBlobPlace : Nat → Nat

/-- SHA-384 of a byte string (FIPS 180-4, named by R214, R398, R430). -/
opaque sha384 : List (BitVec 8) → BitVec 384
/-- SHA-256 of a byte string (R396, R407). -/
opaque sha256 : List (BitVec 8) → BitVec 256
/-- The hash of an owner's two public keys, ECDSA key followed by ML-DSA-65 key (R400). -/
opaque ownerKeyHash : Nat → Nat → BitVec 384
/-- Whether both signatures of R217 over the message verify, under the keys of that hash and in that context. -/
opaque sigValid : (keyHash : BitVec 384) → (context : Nat) → (message : List Nat) → (sigEc sigPq : Nat) → Bool
/-- The two signatures that the key slots' material makes over a message in a context (R217); hedged, so drawn with a count. -/
opaque signEc : (key : BitVec 512) → (context : Nat) → (message : List Nat) → (draw : Nat) → BitVec 768
opaque signPq : (key : BitVec 512) → (context : Nat) → (message : List Nat) → (draw : Nat) → List (BitVec 8)
/-- ECDSA P-256 with SHA-256 over a byte string, r then s (R472). -/
opaque signP256 : (key : BitVec 512) → (message : List (BitVec 8)) → (draw : Nat) → BitVec 512
/-- The public key of key material under an algorithm code of R388. -/
opaque publicKey : (alg : Nat) → (key : BitVec 512) → List (BitVec 8)
/-- SP 800-108 counter KDF with HMAC-SHA-256: key, label and context to 512 bits (R382, R388, R430). -/
opaque kdf : (key : BitVec 512) → (label : Nat) → (context : List Nat) → BitVec 512
/-- AES-256-GCM encryption: key, IV, additional data, plaintext to ciphertext and tag (R214, R388, R427). -/
opaque gcmSeal : (key : BitVec 512) → (iv : List (BitVec 8)) → (aad plain : List (BitVec 8)) → List (BitVec 8) × BitVec 128
/-- AES-256-GCM decryption: none when the tag fails. -/
opaque gcmOpen : (key : BitVec 512) → (iv : List (BitVec 8)) → (aad cipher : List (BitVec 8)) → (tag : BitVec 128) → Option (List (BitVec 8))
/-- AES-CMAC (R339, R340), cut to 64 bits. -/
opaque cmac : (key : BitVec 512) → (message : List Nat) → BitVec 64
/-- The result bytes of a cipher-block function (R396): block slot, function, key, IV, additional data, input. -/
opaque cipher : (block func : Nat) → (key : BitVec 512) → (iv aad input : List (BitVec 8)) → (draw : Nat) → List (BitVec 8)
/-- Whether a cipher-block verification function (GCM or tag check, ECDSA or ML-DSA verify) accepts (R396). -/
opaque cipherAccepts : (block func : Nat) → (key : BitVec 512) → (iv aad input : List (BitVec 8)) → Bool
/-- The handshake of R429 and R430 on the part's side: ephemeral key, encapsulation, TH1 and the session keys. -/
opaque handshake : (draw : Nat) → (transcript : List (BitVec 8)) → BitVec 384 × BitVec 512 × List (BitVec 8)

/-- How the fit's program (R136) rounds what it stores: the spec gives the program and leaves its arithmetic to the firmware image. -/
opaque fitRound : Rat → Rat
/-- The square root and the natural logarithm of the fit's program. -/
opaque sqrtReal : Rat → Rat
opaque lnReal : Rat → Rat
/-- The start point of a fit for a cell whose node has no chemistry table, which R136 gives none: R0, R1, R2, σ in nΩ, τ1, τ2 in µs. -/
opaque fitStart : (cell : Nat) → Nat → Nat
/-- The FIR stage of R164 behind the sinc3 stage: its coefficients are open within the stated response. From the RATE code, DLY, the intermediate codes
of one input with their stamps, newest first, and the stamp of the instant: the code at that stamp. -/
opaque fir : (rate dly : Nat) → (codes : List (Nat × Int)) → (stamp : Nat) → Int
/-- Pack SoC where SoC_min is 0 and SoC_max 1: R149's quotient is then 0/0. -/
opaque packSocOpen : Rat
/-- e^x (R136, R146): a real number, of which the part's arithmetic keeps an unstated part. -/
opaque expReal : Rat → Rat

/-- A byte of boot ROM, 0x0000_0000–0x0000_FFFF, written at manufacture (R318): the spec gives no content (log entry 47). -/
opaque romByte : Nat → BitVec 8
/-- What the debug TAP's IDCODE shifts out (R555): the spec gives no value (log entry 110). -/
opaque tapIdcode : BitVec 32
/-- The junction temperature that TMP_TEMP measures at a stamp (R422): no command delivers it (log entry 48). -/
opaque junction : Nat → BitVec 16

/-- The backup counter's 48 bits give a stamp (R92); the spec fixes this, nothing open: B × 48,828,125 div 4,096. -/
def backupStamp (b : Nat) : Nat := b * 48828125 / 4096

/-- What an unlisted byte of the flash and archive arrays reads as: an erased cell (log entry 5). -/
def erasedByte : BitVec 8 := 0xff

end Sys2Proof.Config
end

