-- ==== Sys2Proof/Machine/Bits.lean ====
section
/-!
DEFINITION. Machine/Bits.lean: bit fields, byte order (R4: little-endian), sign extension and saturation (R5).
-/
namespace Sys2Proof.Machine

/-- A bit field of a register: the register's address, the field's lowest bit and its width. -/
structure Fld where
  addr  : Nat
  lsb   : Nat
  width : Nat
  deriving DecidableEq, Repr

/-- The word with ones exactly in bits `lsb` to `lsb + width - 1`. -/
def fieldMask (lsb width : Nat) : Word := BitVec.ofNat 32 (2 ^ width - 1) <<< lsb

/-- R3: the value of the bit range [lsb + width - 1 : lsb]. -/
def bitsOf (w : Word) (lsb width : Nat) : Nat := w.toNat / 2 ^ lsb % 2 ^ width

/-- `w` with the bit range replaced by the low bits of `v`. -/
def withBits (w : Word) (lsb width v : Nat) : Word :=
  (w &&& ~~~ fieldMask lsb width) ||| ((BitVec.ofNat 32 v <<< lsb) &&& fieldMask lsb width)

/-- Bit `i` of a natural number, as software reads it. -/
def bit (n i : Nat) : Bool := n / 2 ^ i % 2 = 1

/-- A flag as a field value. -/
def flag (b : Bool) : Nat := if b then 1 else 0

/-- `n` bytes of `v`, least significant first (R4). -/
def leBytes : Nat → Nat → List Byte
  | 0, _ => []
  | n + 1, v => BitVec.ofNat 8 v :: leBytes n (v / 256)

/-- The number that bytes stand for, least significant first (R4). -/
def leNat : List Byte → Nat
  | [] => 0
  | b :: t => b.toNat + 256 * leNat t

/-- Bytes most significant first, and the number they stand for: the order in which their standards write hash outputs, signatures, public keys and
GCM tags (R4). -/
def beBytes (n v : Nat) : List Byte := (leBytes n v).reverse
def beNat (bs : List Byte) : Nat := leNat bs.reverse

/-- `n` zero bytes. -/
def zeros (n : Nat) : List Byte := List.replicate n 0

/-- `bs` cut or zero-padded to `n` bytes. -/
def padTo (n : Nat) (bs : List Byte) : List Byte := (bs ++ zeros (n - bs.length)).take n

/-- The two's-complement value of the low `w` bits of `n` (R5). -/
def signed (w n : Nat) : Int :=
  let m := n % 2 ^ w
  if m < 2 ^ (w - 1) then (m : Int) else (m : Int) - 2 ^ w

/-- The low `w` bits of an integer (R5). -/
def unsignedBits (w : Nat) (i : Int) : Nat := (i % (2 ^ w : Int)).toNat

/-- Saturation to an unsigned field of `w` bits. -/
def satU (w n : Nat) : Nat := if n < 2 ^ w then n else 2 ^ w - 1

/-- Saturation of an integer to an unsigned field of `w` bits. -/
def satI (w : Nat) (i : Int) : Nat := if i < 0 then 0 else satU w i.toNat

/-- Saturation of an integer to a signed field of `w` bits. -/
def satS (w : Nat) (i : Int) : Int :=
  let hi : Int := 2 ^ (w - 1)
  if i < - hi then - hi else if hi - 1 < i then hi - 1 else i

/-- Division rounding half away from zero. -/
def roundDiv (a b : Int) : Int :=
  if b = 0 then 0
  else if 0 ≤ a then (2 * a + b) / (2 * b) else - ((2 * (-a) + b) / (2 * b))

/-- Clamp between two bounds. -/
def clamp (lo hi n : Nat) : Nat := if n < lo then lo else if hi < n then hi else n

/-- Replace element `i` of a list; a list too short is left as it is. -/
def setAt (l : List α) (i : Nat) (v : α) : List α := l.set i v

/-- Element `i`, or `d`. -/
def at! (l : List α) (i : Nat) (d : α) : α := l.getD i d

end Sys2Proof.Machine
end

