-- ==== Sys2Proof/Machine/Store.lean ====
section
/-!
DEFINITION. Machine/Store.lean: a sparse store, sorted by key, that lists no entry equal to what an unlisted key reads as.
Registers and memory are both held this way, so that equal contents are equal data.
-/
namespace Sys2Proof.Machine

/-- A sparse store: pairs of key and value, keys strictly rising. -/
abbrev Sparse (α : Type) := List (Nat × α)

/-- The value at key `a`; an unlisted key reads as `d a`. -/
def Sparse.get (d : Nat → α) : Sparse α → Nat → α
  | [], a => d a
  | (k, v) :: t, a => if k = a then v else Sparse.get d t a

/-- Insertion in key order. -/
def Sparse.insert : Sparse α → Nat → α → Sparse α
  | [], a, x => [(a, x)]
  | (k, v) :: t, a, x => if a < k then (a, x) :: (k, v) :: t else (k, v) :: Sparse.insert t a x

/-- Removal of every entry of key `a`. -/
def Sparse.erase : Sparse α → Nat → Sparse α
  | [], _ => []
  | (k, v) :: t, a => if k = a then Sparse.erase t a else (k, v) :: Sparse.erase t a

/-- A write keeps the canonical form: the value an unlisted key reads as leaves no entry. -/
def Sparse.set [DecidableEq α] (d : Nat → α) (m : Sparse α) (a : Nat) (x : α) : Sparse α :=
  if x = d a then Sparse.erase m a else Sparse.insert (Sparse.erase m a) a x

/-- The entries whose key satisfies `p` are dropped: those keys read as unlisted again. -/
def Sparse.drop (p : Nat → Bool) : Sparse α → Sparse α
  | [] => []
  | (k, v) :: t => if p k then Sparse.drop p t else (k, v) :: Sparse.drop p t

/-- The keys rise strictly and every one is above `lo` (`none`: no bound). -/
def Sparse.rising : Option Nat → Sparse α → Bool
  | _, [] => true
  | none, (k, _) :: t => Sparse.rising (some k) t
  | some lo, (k, _) :: t => decide (lo < k) && Sparse.rising (some k) t

/-- No entry equals what its key reads as when unlisted. -/
def Sparse.minimal [DecidableEq α] (d : Nat → α) : Sparse α → Bool
  | [] => true
  | (k, v) :: t => decide (v ≠ d k) && Sparse.minimal d t

/-- The canonical form. -/
def Sparse.wf [DecidableEq α] (d : Nat → α) (m : Sparse α) : Bool :=
  Sparse.rising none m && Sparse.minimal d m

end Sys2Proof.Machine
end

