-- ==== Sys2Proof/Machine/RegMap.lean ====
section
/-!
DEFINITION. Machine/RegMap.lean: the register map of the spec: for every register its address, its array strides, its reset value and its
fields with their access codes (R6), block by block, from the register tables of each chapter; and a named accessor for each field the model uses.
-/
namespace Sys2Proof.Machine

/-- R6: the access codes. -/
inductive Access | ro | rw | wo | w1c | w1s | rwl
  deriving DecidableEq, Repr

/-- One row of a field table. -/
structure FieldRow where
  name : String
  lsb : Nat
  width : Nat
  acc : Access
  deriving DecidableEq, Repr

/-- One row of a block's map table: a register, or an array of them with (stride, count) per index. -/
structure RegRow where
  name : String
  addr : Nat
  dims : List (Nat × Nat)
  rst : Nat
  fields : List FieldRow
  deriving DecidableEq, Repr

/-- The MODE registers (R502, R52). -/
def rowsMODE : List RegRow := [
  ⟨"LC_STATE", 0x40000200, [], 0x0, [⟨"TORN", 6, 1, .ro⟩, ⟨"FR", 5, 1, .ro⟩, ⟨"STATE", 0, 3, .ro⟩]⟩,
  ⟨"MODE_STATUS", 0x40000204, [], 0x0, [⟨"QLATCH", 8, 1, .ro⟩, ⟨"PVALID", 7, 1, .ro⟩, ⟨"PENDING", 4, 3, .ro⟩, ⟨"MODE", 0, 3, .ro⟩]⟩,
  ⟨"MODE_ENTRY_STAMP_LO", 0x40000208, [], 0x0, [⟨"VALUE", 0, 32, .ro⟩]⟩,
  ⟨"MODE_ENTRY_STAMP_HI", 0x4000020c, [], 0x0, [⟨"VALUE", 0, 32, .ro⟩]⟩,
  ⟨"MODE_CAUSE", 0x40000210, [], 0x0, [⟨"DETAIL", 16, 16, .ro⟩, ⟨"WORLD", 8, 8, .ro⟩, ⟨"CAUSE", 0, 8, .ro⟩]⟩,
  ⟨"MODE_IRQ", 0x40000214, [], 0x0, [⟨"QENTRY", 2, 1, .w1c⟩, ⟨"REFUSED", 1, 1, .w1c⟩, ⟨"CHANGED", 0, 1, .w1c⟩]⟩,
  ⟨"MODE_IRQ_EN", 0x40000218, [], 0x0, [⟨"QENTRY", 2, 1, .rw⟩, ⟨"REFUSED", 1, 1, .rw⟩, ⟨"CHANGED", 0, 1, .rw⟩]⟩,
  ⟨"DEV_BEHAVIOUR", 0x40000010, [], 0x0, [⟨"MOVESET", 16, 8, .ro⟩, ⟨"ACTIVE", 8, 8, .ro⟩, ⟨"LEVEL", 0, 8, .ro⟩]⟩]

/-- The TR registers (R89). -/
def rowsTR : List RegRow := [
  ⟨"TRG_CTRL", 0x40040800, [], 0x0, [⟨"LOCK", 31, 1, .w1s⟩, ⟨"UPLINK", 8, 1, .rwl⟩, ⟨"ASM", 4, 4, .rwl⟩, ⟨"RATE", 0, 2, .rwl⟩]⟩,
  ⟨"TRG_STATUS", 0x40040804, [], 0x0, [⟨"BROKEN", 16, 8, .ro⟩, ⟨"UP", 8, 8, .ro⟩, ⟨"RPEND", 2, 1, .ro⟩, ⟨"RATE", 0, 2, .ro⟩]⟩,
  ⟨"TRG_RATE_STAMP_LO", 0x40040808, [], 0x0, [⟨"VALUE", 0, 32, .ro⟩]⟩,
  ⟨"TRG_RATE_STAMP_HI", 0x4004080c, [], 0x0, [⟨"VALUE", 0, 32, .ro⟩]⟩,
  ⟨"TR_CTRL", 0x40040000, [(256, 8)], 0x2, [⟨"CLRCNT", 3, 1, .w1s⟩, ⟨"AUTOREJOIN", 2, 1, .rwl⟩, ⟨"AUTOBREAK", 1, 1, .rwl⟩, ⟨"EN", 0, 1, .rwl⟩]⟩,
  ⟨"TR_STATUS", 0x40040004, [(256, 8)], 0x0, [⟨"RETX_PEND", 12, 1, .ro⟩, ⟨"B_LOCK", 11, 1, .ro⟩, ⟨"A_LOCK", 10, 1, .ro⟩, ⟨"ROSTER_MISMATCH", 9, 1, .ro⟩, ⟨"LOOP_LONG", 8, 1, .ro⟩, ⟨"OVERPOP", 3, 1, .ro⟩, ⟨"STATE", 0, 3, .ro⟩]⟩,
  ⟨"TR_NODES", 0x40040008, [(256, 8)], 0x0, [⟨"PRESENT", 16, 16, .ro⟩, ⟨"COUNT", 0, 5, .ro⟩]⟩,
  ⟨"TR_BREAK", 0x4004000c, [(256, 8)], 0x1f1f, [⟨"ACTIVE", 31, 1, .ro⟩, ⟨"BREAKS", 16, 8, .ro⟩, ⟨"FIRST_B", 8, 5, .ro⟩, ⟨"LAST_A", 0, 5, .ro⟩]⟩,
  ⟨"TR_IRQ", 0x40040010, [(256, 8)], 0x0, [⟨"LOOP_LONG", 6, 1, .w1c⟩, ⟨"CMD_DONE", 5, 1, .w1c⟩, ⟨"ROSTER", 4, 1, .w1c⟩, ⟨"NODE_NEW", 3, 1, .w1c⟩, ⟨"NODE_LOST", 2, 1, .w1c⟩, ⟨"REJOIN", 1, 1, .w1c⟩, ⟨"BREAK", 0, 1, .w1c⟩]⟩,
  ⟨"TR_IRQ_EN", 0x40040014, [(256, 8)], 0x0, [⟨"LOOP_LONG", 6, 1, .rw⟩, ⟨"CMD_DONE", 5, 1, .rw⟩, ⟨"ROSTER", 4, 1, .rw⟩, ⟨"NODE_NEW", 3, 1, .rw⟩, ⟨"NODE_LOST", 2, 1, .rw⟩, ⟨"REJOIN", 1, 1, .rw⟩, ⟨"BREAK", 0, 1, .rw⟩]⟩,
  ⟨"TR_CRC_ERRORS", 0x40040018, [(256, 8)], 0x0, [⟨"COUNT", 0, 32, .ro⟩]⟩,
  ⟨"TR_RETRANSMITS", 0x4004001c, [(256, 8)], 0x0, [⟨"COUNT", 0, 32, .ro⟩]⟩,
  ⟨"TR_MISSING", 0x40040020, [(256, 8)], 0x0, [⟨"COUNT", 0, 32, .ro⟩]⟩,
  ⟨"TR_HOLDOVERS", 0x40040024, [(256, 8)], 0x0, [⟨"COUNT", 0, 32, .ro⟩]⟩,
  ⟨"TR_CMD_HDR", 0x40040028, [(256, 8)], 0x0, [⟨"GO", 31, 1, .w1s⟩, ⟨"BUSY", 30, 1, .ro⟩, ⟨"END", 29, 1, .rw⟩, ⟨"LEN", 16, 5, .rw⟩, ⟨"ADDR", 8, 5, .rw⟩, ⟨"OPC", 0, 8, .rw⟩]⟩,
  ⟨"TR_CMD_DATA", 0x4004002c, [(256, 8), (4, 4)], 0x0, [⟨"VALUE", 0, 32, .rw⟩]⟩,
  ⟨"TR_RSP_HDR", 0x4004003c, [(256, 8)], 0x0, [⟨"VALID", 31, 1, .w1c⟩, ⟨"TIMEOUT", 30, 1, .ro⟩, ⟨"NODE", 24, 5, .ro⟩, ⟨"LEN", 16, 5, .ro⟩, ⟨"NSTAT", 8, 8, .ro⟩, ⟨"OPC", 0, 8, .ro⟩]⟩,
  ⟨"TR_RSP_DATA", 0x40040040, [(256, 8), (4, 4)], 0x0, [⟨"VALUE", 0, 32, .ro⟩]⟩,
  ⟨"TR_LOOP_TIME", 0x40040050, [(256, 8)], 0x0, [⟨"LOOP", 0, 16, .ro⟩]⟩,
  ⟨"TR_REJOIN_STAMP", 0x40040054, [(256, 8)], 0x0, [⟨"TSTAMP", 0, 32, .ro⟩]⟩,
  ⟨"TR_DELAY_A", 0x40040058, [(256, 8), (4, 8)], 0x0, [⟨"ODD", 16, 16, .ro⟩, ⟨"EVEN", 0, 16, .ro⟩]⟩,
  ⟨"TR_DELAY_B", 0x40040078, [(256, 8), (4, 8)], 0x0, [⟨"ODD", 16, 16, .ro⟩, ⟨"EVEN", 0, 16, .ro⟩]⟩]

/-- The ALM registers (R117). -/
def rowsALM : List RegRow := [
  ⟨"ALM_CTRL", 0x40050000, [], 0x0, [⟨"LOCK", 31, 1, .w1s⟩, ⟨"CLRCNT", 1, 1, .w1s⟩]⟩,
  ⟨"ALM_STATUS", 0x40050004, [], 0x1, [⟨"EXPIRED", 16, 9, .ro⟩, ⟨"SLEWING", 5, 1, .ro⟩, ⟨"DISC_HOLDOVER", 4, 1, .ro⟩, ⟨"DISC_LOCK", 3, 1, .ro⟩, ⟨"TIME_SUSPECT", 2, 1, .ro⟩, ⟨"CHAN", 1, 1, .ro⟩, ⟨"RUN", 0, 1, .ro⟩]⟩,
  ⟨"ALM_NOW_LO", 0x40050008, [], 0x0, [⟨"VALUE", 0, 32, .ro⟩]⟩,
  ⟨"ALM_NOW_HI", 0x4005000c, [], 0x0, [⟨"VALUE", 0, 32, .ro⟩]⟩,
  ⟨"ALM_WM_LO", 0x40050010, [], 0x0, [⟨"VALUE", 0, 32, .ro⟩]⟩,
  ⟨"ALM_WM_HI", 0x40050014, [], 0x0, [⟨"VALUE", 0, 32, .ro⟩]⟩,
  ⟨"ALM_EPOCH_UTC_LO", 0x40050018, [], 0x0, [⟨"VALUE", 0, 32, .ro⟩]⟩,
  ⟨"ALM_EPOCH_UTC_HI", 0x4005001c, [], 0x0, [⟨"VALUE", 0, 32, .ro⟩]⟩,
  ⟨"ALM_LQ_STATUS", 0x40050020, [], 0x0, [⟨"LOST", 24, 8, .ro⟩, ⟨"OVF", 13, 11, .ro⟩, ⟨"DEPTH", 0, 13, .ro⟩]⟩,
  ⟨"ALM_LQ_ACK", 0x40050024, [], 0x0, [⟨"COUNT", 0, 11, .wo⟩]⟩,
  ⟨"ALM_IRQ", 0x40050028, [], 0x0, [⟨"LQ_LOST", 5, 1, .w1c⟩, ⟨"LQ_OVF", 4, 1, .w1c⟩, ⟨"DISC_LOST", 3, 1, .w1c⟩, ⟨"TIME_STEP", 2, 1, .w1c⟩, ⟨"EXPIRY", 1, 1, .w1c⟩, ⟨"LATE", 0, 1, .w1c⟩]⟩,
  ⟨"ALM_IRQ_EN", 0x4005002c, [], 0x0, [⟨"LQ_LOST", 5, 1, .rw⟩, ⟨"LQ_OVF", 4, 1, .rw⟩, ⟨"DISC_LOST", 3, 1, .rw⟩, ⟨"TIME_STEP", 2, 1, .rw⟩, ⟨"EXPIRY", 1, 1, .rw⟩, ⟨"LATE", 0, 1, .rw⟩]⟩,
  ⟨"ALM_DISC_ERR", 0x40050030, [], 0x0, [⟨"VALUE", 0, 16, .ro⟩]⟩,
  ⟨"ALM_DISC_STEER", 0x40050034, [], 0x0, [⟨"VALUE", 0, 16, .ro⟩]⟩,
  ⟨"ALM_BADSTAMP", 0x40050038, [], 0x0, [⟨"COUNT", 0, 32, .ro⟩]⟩,
  ⟨"ALM_STALE", 0x4005003c, [], 0x0, [⟨"COUNT", 0, 32, .ro⟩]⟩,
  ⟨"ALM_LATE_COUNT", 0x40050040, [], 0x0, [⟨"COUNT", 0, 32, .ro⟩]⟩,
  ⟨"ALM_SRC_CFG", 0x40050100, [(16, 9)], 0x10, [⟨"MEMBER", 31, 1, .ro⟩, ⟨"BOUND", 0, 10, .rwl⟩]⟩,
  ⟨"ALM_SRC_HZN_LO", 0x40050104, [(16, 9)], 0x0, [⟨"HZN", 0, 32, .ro⟩]⟩,
  ⟨"ALM_SRC_HZN_HI", 0x40050108, [(16, 9)], 0x0, [⟨"HZN", 0, 32, .ro⟩]⟩,
  ⟨"ALM_SRC_EXPIRED", 0x4005010c, [(16, 9)], 0x0, [⟨"COUNT", 0, 32, .ro⟩]⟩]

/-- The SPG registers (R142). -/
def rowsSPG : List RegRow := [
  ⟨"SPG_CTRL", 0x40060000, [], 0x0, [⟨"LOCK", 31, 1, .w1s⟩, ⟨"CLRCNT", 2, 1, .w1s⟩, ⟨"PILOT_EN", 1, 1, .rwl⟩, ⟨"EN", 0, 1, .rwl⟩]⟩,
  ⟨"SPG_STATUS", 0x40060004, [], 0x0, [⟨"PSTATE", 8, 3, .ro⟩, ⟨"ISRC", 4, 2, .ro⟩, ⟨"TABLE", 3, 1, .ro⟩, ⟨"REGEN", 2, 1, .ro⟩, ⟨"RATE", 0, 2, .ro⟩]⟩,
  ⟨"SPG_FOLDS", 0x40060008, [], 0x0, [⟨"COUNT", 0, 32, .ro⟩]⟩,
  ⟨"SPG_ABSENT", 0x4006000c, [], 0x0, [⟨"COUNT", 0, 32, .ro⟩]⟩,
  ⟨"SPG_REFSET", 0x40060010, [], 0x0, [⟨"COUNT", 0, 32, .ro⟩]⟩,
  ⟨"SPG_FIT_CFG", 0x40060014, [], 0xc000c, [⟨"MINBINS", 16, 8, .rwl⟩, ⟨"ITER", 0, 6, .rwl⟩]⟩,
  ⟨"SPG_FIT_CYCLE", 0x40060018, [], 0x0, [⟨"CYCLE", 0, 32, .ro⟩]⟩,
  ⟨"SPG_FIT_OVERRUN", 0x4006001c, [], 0x0, [⟨"COUNT", 0, 32, .ro⟩]⟩,
  ⟨"SPG_PILOT_CFG", 0x40060020, [], 0x13880e10, [⟨"AMP_MAX", 16, 16, .rwl⟩, ⟨"STARVE", 0, 16, .rwl⟩]⟩,
  ⟨"SPG_PILOT_REQ", 0x40060024, [], 0x0, [⟨"BIN", 16, 8, .ro⟩, ⟨"STATE", 0, 3, .ro⟩]⟩,
  ⟨"SPG_PILOT_AMP", 0x40060028, [], 0x0, [⟨"VALUE", 0, 32, .ro⟩]⟩,
  ⟨"SPG_PILOT_DUR", 0x4006002c, [], 0x0, [⟨"VALUE", 0, 32, .ro⟩]⟩,
  ⟨"SPG_IRQ", 0x40060030, [], 0x0, [⟨"FIT_OVERRUN", 3, 1, .w1c⟩, ⟨"PILOT", 2, 1, .w1c⟩, ⟨"STARVED", 1, 1, .w1c⟩, ⟨"TABLE", 0, 1, .w1c⟩]⟩,
  ⟨"SPG_IRQ_EN", 0x40060034, [], 0x0, [⟨"FIT_OVERRUN", 3, 1, .rw⟩, ⟨"PILOT", 2, 1, .rw⟩, ⟨"STARVED", 1, 1, .rw⟩, ⟨"TABLE", 0, 1, .rw⟩]⟩,
  ⟨"SPG_BIN_CFG", 0x40060400, [(4, 128)], 0xe6662401, [⟨"GATE", 16, 16, .rw⟩, ⟨"AVGSH_PILOT", 12, 4, .rw⟩, ⟨"AVGSH", 8, 4, .rw⟩, ⟨"ACTIVE", 0, 1, .ro⟩]⟩,
  ⟨"SPG_BIN_LIM", 0x40060600, [(4, 128)], 0xc8, [⟨"AGEMAX", 16, 16, .rw⟩, ⟨"IFLOOR", 0, 16, .rw⟩]⟩,
  ⟨"SPG_BIN_IRMS", 0x40060800, [(4, 128)], 0x0, [⟨"SEGIRMS", 16, 16, .ro⟩, ⟨"IRMS", 0, 16, .ro⟩]⟩,
  ⟨"SPG_BIN_STAT", 0x40060a00, [(4, 128)], 0x0, [⟨"STARVED", 31, 1, .ro⟩, ⟨"LOG2L", 18, 5, .ro⟩, ⟨"SEGPOS", 0, 18, .ro⟩]⟩]

/-- The LIM registers (R162). -/
def rowsLIM : List RegRow := [
  ⟨"LIM_CTRL", 0x40070000, [], 0x0, [⟨"LOCK", 31, 1, .w1s⟩, ⟨"CLRCNT", 2, 1, .w1s⟩, ⟨"PUB_EN", 1, 1, .rwl⟩, ⟨"EN", 0, 1, .rwl⟩]⟩,
  ⟨"LIM_STATUS", 0x40070004, [], 0x0, [⟨"QCEIL", 5, 1, .ro⟩, ⟨"STALE", 4, 1, .ro⟩, ⟨"OP_DIS", 3, 1, .ro⟩, ⟨"OP_CHG", 2, 1, .ro⟩, ⟨"CU_DIS", 1, 1, .ro⟩, ⟨"CU_CHG", 0, 1, .ro⟩]⟩,
  ⟨"LIM_BASE_CHG", 0x40070008, [], 0x0, [⟨"VALUE", 0, 16, .rw⟩]⟩,
  ⟨"LIM_BASE_DIS", 0x4007000c, [], 0x0, [⟨"VALUE", 0, 16, .rw⟩]⟩,
  ⟨"LIM_CUCAP_CHG", 0x40070010, [], 0x0, [⟨"LIFE", 16, 16, .rw⟩, ⟨"VALUE", 0, 16, .rw⟩]⟩,
  ⟨"LIM_CUCAP_DIS", 0x40070014, [], 0x0, [⟨"LIFE", 16, 16, .rw⟩, ⟨"VALUE", 0, 16, .rw⟩]⟩,
  ⟨"LIM_OPCAP_CHG", 0x40070018, [], 0x0, [⟨"LIFE", 16, 16, .rw⟩, ⟨"VALUE", 0, 16, .rw⟩]⟩,
  ⟨"LIM_OPCAP_DIS", 0x4007001c, [], 0x0, [⟨"LIFE", 16, 16, .rw⟩, ⟨"VALUE", 0, 16, .rw⟩]⟩,
  ⟨"LIM_REQ", 0x40070020, [], 0x0, [⟨"DIS", 16, 16, .ro⟩, ⟨"CHG", 0, 16, .ro⟩]⟩,
  ⟨"LIM_PUB", 0x40070024, [], 0x0, [⟨"DIS", 16, 16, .ro⟩, ⟨"CHG", 0, 16, .ro⟩]⟩,
  ⟨"LIM_VOLT", 0x40070028, [], 0x0, [⟨"V_DIS_MIN", 16, 16, .rw⟩, ⟨"V_CHG_MAX", 0, 16, .rw⟩]⟩,
  ⟨"LIM_INFO0", 0x4007002c, [], 0x0, [⟨"SOH", 16, 16, .rw⟩, ⟨"SOC", 0, 16, .rw⟩]⟩,
  ⟨"LIM_INFO1", 0x40070030, [], 0x0, [⟨"T_MAX", 16, 16, .rw⟩, ⟨"QUAR", 8, 8, .rw⟩, ⟨"WATCH", 0, 8, .rw⟩]⟩,
  ⟨"LIM_PUB_CFG", 0x40070034, [], 0x0, [⟨"CHAN", 31, 1, .rwl⟩, ⟨"IDE", 30, 1, .rwl⟩, ⟨"ID", 0, 29, .rwl⟩]⟩,
  ⟨"LIM_STALE_COUNT", 0x40070038, [], 0x0, [⟨"COUNT", 0, 32, .ro⟩]⟩,
  ⟨"LIM_OP_REFUSED", 0x4007003c, [], 0x0, [⟨"COUNT", 0, 32, .ro⟩]⟩,
  ⟨"LIM_PERIOD_LO", 0x40070040, [], 0x0, [⟨"STAMP", 0, 32, .ro⟩]⟩,
  ⟨"LIM_PERIOD_HI", 0x40070044, [], 0x0, [⟨"STAMP", 0, 32, .ro⟩]⟩,
  ⟨"LIM_IRQ", 0x40070048, [], 0x0, [⟨"OP_REFUSED", 3, 1, .w1c⟩, ⟨"CAP_LAPSE", 2, 1, .w1c⟩, ⟨"STALE", 1, 1, .w1c⟩, ⟨"PUBLISHED", 0, 1, .w1c⟩]⟩,
  ⟨"LIM_IRQ_EN", 0x4007004c, [], 0x0, [⟨"OP_REFUSED", 3, 1, .rw⟩, ⟨"CAP_LAPSE", 2, 1, .rw⟩, ⟨"STALE", 1, 1, .rw⟩, ⟨"PUBLISHED", 0, 1, .rw⟩]⟩]

/-- The MER registers (R183). -/
def rowsMER : List RegRow := [
  ⟨"MER_CTRL", 0x40090000, [], 0x0, [⟨"CLRCNT", 2, 1, .w1s⟩, ⟨"PULSE_EN", 1, 1, .rw⟩, ⟨"EN", 0, 1, .w1s⟩]⟩,
  ⟨"MER_STATUS", 0x40090004, [], 0x0, [⟨"RGCLASS", 18, 3, .ro⟩, ⟨"TPEND", 17, 1, .ro⟩, ⟨"TBANK", 16, 1, .ro⟩, ⟨"OVR", 12, 4, .ro⟩, ⟨"MODFLT", 8, 4, .ro⟩, ⟨"NOCAP", 5, 1, .ro⟩, ⟨"XDIS", 4, 1, .ro⟩, ⟨"XFAULT", 3, 1, .ro⟩, ⟨"VSUB", 2, 1, .ro⟩, ⟨"ISRC", 0, 2, .ro⟩]⟩,
  ⟨"MER_RATING", 0x40090008, [], 0x0, [⟨"CAP", 16, 16, .rw⟩, ⟨"I_RATED", 0, 16, .rw⟩]⟩,
  ⟨"MER_XC_CFG", 0x4009000c, [], 0x7d00a8a, [⟨"XC_ABS", 16, 16, .rw⟩, ⟨"NOLOAD", 8, 8, .rw⟩, ⟨"XC_EN", 7, 1, .rw⟩, ⟨"XC_REL", 0, 7, .rw⟩]⟩,
  ⟨"MER_PULSE_CFG", 0x40090010, [], 0x3e8, [⟨"SEL", 30, 2, .rw⟩, ⟨"BACKLOG", 24, 6, .ro⟩, ⟨"IMP", 0, 17, .rw⟩]⟩,
  ⟨"MER_RGCLASS", 0x40090014, [], 0x0, [⟨"CLASS", 0, 3, .rw⟩]⟩,
  ⟨"MER_XC_COUNT", 0x40090018, [], 0x0, [⟨"COUNT", 0, 32, .ro⟩]⟩,
  ⟨"MER_UNMET_TIME", 0x4009001c, [], 0x0, [⟨"COUNT", 0, 32, .ro⟩]⟩,
  ⟨"MER_UNMET_CHARGE", 0x40090020, [], 0x0, [⟨"COUNT", 0, 32, .ro⟩]⟩,
  ⟨"MER_WWE_CLAMPS", 0x40090024, [], 0x0, [⟨"COUNT", 0, 32, .ro⟩]⟩,
  ⟨"MER_CAL_REFUSED", 0x40090028, [], 0x0, [⟨"COUNT", 0, 32, .ro⟩]⟩,
  ⟨"MER_IRQ", 0x4009002c, [], 0x0, [⟨"TABLE", 4, 1, .w1c⟩, ⟨"UNMETERED", 3, 1, .w1c⟩, ⟨"CHANNEL", 2, 1, .w1c⟩, ⟨"MODFLT", 1, 1, .w1c⟩, ⟨"XFAULT", 0, 1, .w1c⟩]⟩,
  ⟨"MER_IRQ_EN", 0x40090030, [], 0x0, [⟨"TABLE", 4, 1, .rw⟩, ⟨"UNMETERED", 3, 1, .rw⟩, ⟨"CHANNEL", 2, 1, .rw⟩, ⟨"MODFLT", 1, 1, .rw⟩, ⟨"XFAULT", 0, 1, .rw⟩]⟩,
  ⟨"MER_CH_GAIN", 0x40090040, [(16, 4)], 0x0, [⟨"GAIN", 0, 32, .rw⟩]⟩,
  ⟨"MER_CH_OFS", 0x40090044, [(16, 4)], 0x0, [⟨"OFS", 0, 24, .rw⟩]⟩,
  ⟨"MER_CH_DLY", 0x40090048, [(16, 4)], 0x1000, [⟨"ENABLE", 12, 1, .rw⟩, ⟨"DLY", 0, 12, .rw⟩]⟩,
  ⟨"MER_CH_STAT", 0x4009004c, [(16, 4)], 0x0, [⟨"MODFLT", 31, 1, .ro⟩, ⟨"STUCK", 30, 1, .ro⟩, ⟨"OVR", 29, 1, .ro⟩, ⟨"CODE", 0, 24, .ro⟩]⟩,
  ⟨"MER_ACC_LO", 0x40090100, [(8, 10)], 0x0, [⟨"VALUE", 0, 32, .ro⟩]⟩,
  ⟨"MER_ACC_HI", 0x40090104, [(8, 10)], 0x0, [⟨"VALUE", 0, 32, .ro⟩]⟩,
  ⟨"MER_BASE_LO", 0x40090180, [(8, 10)], 0x0, [⟨"VALUE", 0, 32, .rw⟩]⟩,
  ⟨"MER_BASE_HI", 0x40090184, [(8, 10)], 0x0, [⟨"VALUE", 0, 32, .rw⟩]⟩,
  ⟨"MER_TBL", 0x40091000, [(4, 2824)], 0x0, [⟨"VALUE", 0, 32, .rw⟩]⟩]

/-- The SHT registers (R205). -/
def rowsSHT : List RegRow := [
  ⟨"SHT_CTRL", 0x40080000, [], 0x1, [⟨"LOCK", 31, 1, .w1s⟩, ⟨"CLRCNT", 1, 1, .w1s⟩, ⟨"FBCHK", 0, 1, .rwl⟩]⟩,
  ⟨"SHT_STATUS", 0x40080004, [], 0x0, [⟨"CFAULT", 12, 3, .ro⟩, ⟨"NORATE", 11, 1, .ro⟩, ⟨"HAZARD", 10, 1, .ro⟩, ⟨"LIMP", 9, 1, .ro⟩, ⟨"BOUNDED", 8, 1, .ro⟩, ⟨"HOLD", 7, 1, .ro⟩, ⟨"DRQ", 4, 3, .ro⟩, ⟨"DERATE", 3, 1, .ro⟩, ⟨"OUT", 0, 3, .ro⟩]⟩,
  ⟨"SHT_CTC_CMD", 0x40080008, [], 0x0, [⟨"STATE", 8, 1, .wo⟩, ⟨"OUTPUT", 0, 2, .wo⟩]⟩,
  ⟨"SHT_CTC_RESULT", 0x4008000c, [], 0x0, [⟨"VALID", 31, 1, .ro⟩, ⟨"WORLD", 18, 2, .ro⟩, ⟨"STATE", 17, 1, .ro⟩, ⟨"STATUS", 0, 16, .ro⟩]⟩,
  ⟨"SHT_DERATE_CU", 0x40080010, [], 0x0, [⟨"REQ", 0, 1, .rw⟩]⟩,
  ⟨"SHT_DERATE_OP", 0x40080014, [], 0x0, [⟨"REQ", 0, 1, .rw⟩]⟩,
  ⟨"SHT_PRE_CFG", 0x40080018, [], 0x12c0064, [⟨"PRE_MAX", 16, 16, .rwl⟩, ⟨"PRE_MIN", 0, 16, .rwl⟩]⟩,
  ⟨"SHT_LIMP", 0x4008001c, [], 0xa, [⟨"DEFER", 31, 1, .ro⟩, ⟨"PENDING", 8, 5, .ro⟩, ⟨"LIMP_PCT", 0, 5, .rw⟩]⟩,
  ⟨"SHT_HZ_CFG", 0x40080020, [(4, 4)], 0x140a4000, [⟨"PLAUS", 24, 8, .rwl⟩, ⟨"FILT", 16, 8, .rwl⟩, ⟨"ACTION", 14, 2, .rwl⟩, ⟨"OPEN_DLY", 0, 10, .rwl⟩]⟩,
  ⟨"SHT_HZ_STAT", 0x40080030, [], 0x0, [⟨"STUCK", 16, 4, .ro⟩, ⟨"SEEN", 12, 4, .ro⟩, ⟨"ASSERTED", 8, 4, .ro⟩, ⟨"PINLOW", 0, 4, .ro⟩]⟩,
  ⟨"SHT_IN_STAT", 0x40080034, [], 0x0, [⟨"CHATTER", 8, 3, .ro⟩, ⟨"FB", 0, 3, .ro⟩]⟩,
  ⟨"SHT_HOLD", 0x40080038, [], 0x0, [⟨"ACTIVE", 31, 1, .ro⟩, ⟨"POSTHZ", 30, 1, .ro⟩, ⟨"REMAIN", 0, 11, .ro⟩]⟩,
  ⟨"SHT_DWELL", 0x4008003c, [], 0x0, [⟨"PRE", 20, 10, .ro⟩, ⟨"MNEG", 10, 10, .ro⟩, ⟨"MPOS", 0, 10, .ro⟩]⟩,
  ⟨"SHT_REFUSED", 0x40080040, [], 0x0, [⟨"COUNT", 0, 32, .ro⟩]⟩,
  ⟨"SHT_HZ_COUNT", 0x40080044, [], 0x0, [⟨"COUNT", 0, 32, .ro⟩]⟩,
  ⟨"SHT_IRQ", 0x40080048, [], 0x0, [⟨"CHATTER", 5, 1, .w1c⟩, ⟨"CFAULT", 4, 1, .w1c⟩, ⟨"PRETIMEOUT", 3, 1, .w1c⟩, ⟨"STUCK", 2, 1, .w1c⟩, ⟨"HAZARD", 1, 1, .w1c⟩, ⟨"REFUSED", 0, 1, .w1c⟩]⟩,
  ⟨"SHT_IRQ_EN", 0x4008004c, [], 0x0, [⟨"CHATTER", 5, 1, .rw⟩, ⟨"CFAULT", 4, 1, .rw⟩, ⟨"PRETIMEOUT", 3, 1, .rw⟩, ⟨"STUCK", 2, 1, .rw⟩, ⟨"HAZARD", 1, 1, .rw⟩, ⟨"REFUSED", 0, 1, .rw⟩]⟩,
  ⟨"SHT_HZ_STAMP_LO", 0x40080050, [], 0x0, [⟨"STAMP", 0, 32, .ro⟩]⟩,
  ⟨"SHT_HZ_STAMP_HI", 0x40080054, [], 0x0, [⟨"STAMP", 0, 32, .ro⟩]⟩,
  ⟨"SHT_BLEED", 0x40080400, [(64, 8), (4, 16)], 0x0, [⟨"DUTY", 16, 8, .rw⟩, ⟨"MASK", 0, 16, .rw⟩]⟩]

/-- The LDG registers (R235). -/
def rowsLDG : List RegRow := [
  ⟨"LDG_CTRL", 0x400a0000, [], 0x0, [⟨"LOCK", 31, 1, .w1s⟩, ⟨"CLRCNT", 2, 1, .w1s⟩, ⟨"ARC_EN", 1, 1, .rwl⟩, ⟨"EN", 0, 1, .w1s⟩]⟩,
  ⟨"LDG_STATUS", 0x400a0004, [], 0x0, [⟨"NBAD", 24, 8, .ro⟩, ⟨"EVIDENCE", 15, 1, .ro⟩, ⟨"HOPREP", 14, 1, .ro⟩, ⟨"SEALING", 13, 1, .ro⟩, ⟨"ARC_STATE", 10, 2, .ro⟩, ⟨"KIND", 0, 3, .ro⟩]⟩,
  ⟨"LDG_HEAD_SEQ_LO", 0x400a0008, [], 0x0, [⟨"VALUE", 0, 32, .ro⟩]⟩,
  ⟨"LDG_HEAD_SEQ_HI", 0x400a000c, [], 0x0, [⟨"VALUE", 0, 32, .ro⟩]⟩,
  ⟨"LDG_HEAD_STAMP_LO", 0x400a0010, [], 0x0, [⟨"VALUE", 0, 32, .ro⟩]⟩,
  ⟨"LDG_HEAD_STAMP_HI", 0x400a0014, [], 0x0, [⟨"VALUE", 0, 32, .ro⟩]⟩,
  ⟨"LDG_SEAL_SEQ_LO", 0x400a0018, [], 0x0, [⟨"VALUE", 0, 32, .ro⟩]⟩,
  ⟨"LDG_SEAL_SEQ_HI", 0x400a001c, [], 0x0, [⟨"VALUE", 0, 32, .ro⟩]⟩,
  ⟨"LDG_CHAIN_ID", 0x400a0020, [], 0x0, [⟨"CHAIN_ID", 0, 32, .ro⟩]⟩,
  ⟨"LDG_ARC_CFG", 0x400a0024, [], 0x0, [⟨"SEAL", 28, 4, .ro⟩, ⟨"EVENT", 24, 4, .ro⟩, ⟨"BLOCK", 20, 4, .ro⟩, ⟨"ULOG", 16, 1, .ro⟩, ⟨"SIZE", 0, 9, .ro⟩]⟩,
  ⟨"LDG_ARC_FILL", 0x400a0028, [], 0x0, [⟨"SEAL", 24, 8, .ro⟩, ⟨"EVENT", 16, 8, .ro⟩, ⟨"BLOCK", 8, 8, .ro⟩]⟩,
  ⟨"LDG_HOLDQ", 0x400a002c, [], 0x0, [⟨"BYTES", 0, 19, .ro⟩]⟩,
  ⟨"LDG_ARC_OVERWRITTEN", 0x400a0030, [], 0x0, [⟨"COUNT", 0, 32, .ro⟩]⟩,
  ⟨"LDG_ARC_LOST", 0x400a0034, [], 0x0, [⟨"COUNT", 0, 32, .ro⟩]⟩,
  ⟨"LDG_CORR_EXTRA", 0x400a0038, [], 0x0, [⟨"COUNT", 0, 32, .ro⟩]⟩,
  ⟨"LDG_SEAL_LATE", 0x400a003c, [], 0x0, [⟨"COUNT", 0, 32, .ro⟩]⟩,
  ⟨"LDG_IRQ", 0x400a0040, [], 0x0, [⟨"CORR_EXTRA", 6, 1, .w1c⟩, ⟨"SEAL_LATE", 5, 1, .w1c⟩, ⟨"OVERWRITE", 4, 1, .w1c⟩, ⟨"GAP", 3, 1, .w1c⟩, ⟨"ARC_FAULT", 2, 1, .w1c⟩, ⟨"OFFLOAD", 1, 1, .w1c⟩, ⟨"SEALED", 0, 1, .w1c⟩]⟩,
  ⟨"LDG_IRQ_EN", 0x400a0044, [], 0x0, [⟨"CORR_EXTRA", 6, 1, .rw⟩, ⟨"SEAL_LATE", 5, 1, .rw⟩, ⟨"OVERWRITE", 4, 1, .rw⟩, ⟨"GAP", 3, 1, .rw⟩, ⟨"ARC_FAULT", 2, 1, .rw⟩, ⟨"OFFLOAD", 1, 1, .rw⟩, ⟨"SEALED", 0, 1, .rw⟩]⟩]

/-- The LE registers (R268). -/
def rowsLE : List RegRow := [
  ⟨"LE_CTRL", 0x400c0000, [(64, 256)], 0x0, [⟨"LOCK", 31, 1, .w1s⟩, ⟨"SKIP", 4, 1, .w1s⟩, ⟨"RESET", 3, 1, .w1s⟩, ⟨"SUSPEND", 2, 1, .w1s⟩, ⟨"STEP", 1, 1, .w1s⟩, ⟨"RUN", 0, 1, .w1s⟩]⟩,
  ⟨"LE_STATUS", 0x400c0004, [(64, 256)], 0x0, [⟨"EMU_PEND", 11, 1, .ro⟩, ⟨"STR_REFUSED", 10, 1, .ro⟩, ⟨"OV", 9, 1, .ro⟩, ⟨"MODE", 8, 1, .ro⟩, ⟨"LIMMN", 6, 2, .ro⟩, ⟨"DSLOT", 4, 2, .ro⟩, ⟨"G", 3, 1, .ro⟩, ⟨"STATE", 0, 3, .ro⟩]⟩,
  ⟨"LE_PC", 0x400c0008, [(64, 256)], 0x0, [⟨"WADDR", 2, 12, .rw⟩]⟩,
  ⟨"LE_CODE_LIM", 0x400c000c, [(64, 256)], 0x4000, [⟨"LIM", 0, 15, .rwl⟩]⟩,
  ⟨"LE_TRAP_CAUSE", 0x400c0010, [(64, 256)], 0x0, [⟨"DETAIL", 24, 8, .ro⟩, ⟨"SLOT", 16, 1, .ro⟩, ⟨"CAUSE", 0, 8, .ro⟩]⟩,
  ⟨"LE_TRAP_PC", 0x400c0014, [(64, 256)], 0x0, [⟨"VALUE", 0, 32, .ro⟩]⟩,
  ⟨"LE_TRAP_WORD", 0x400c0018, [(64, 256)], 0x0, [⟨"VALUE", 0, 32, .ro⟩]⟩,
  ⟨"LE_STR_CFG", 0x400c001c, [(64, 256)], 0x0, [⟨"MASK", 16, 16, .rw⟩, ⟨"SRC", 0, 4, .rw⟩]⟩,
  ⟨"LE_STR_POS", 0x400c0020, [(64, 256)], 0x0, [⟨"K", 0, 32, .rw⟩]⟩,
  ⟨"LE_EMU_RES", 0x400c0024, [(64, 256)], 0x0, [⟨"VALUE", 0, 32, .rw⟩]⟩,
  ⟨"LE_EMU_CTL", 0x400c0028, [(64, 256)], 0x0, [⟨"GO", 31, 1, .w1s⟩, ⟨"PORT", 8, 8, .rw⟩, ⟨"DIST", 0, 4, .rw⟩]⟩,
  ⟨"LE_ICOUNT", 0x400c002c, [(64, 256)], 0x0, [⟨"COUNT", 0, 32, .ro⟩]⟩]

/-- The VAT registers (R292). -/
def rowsVAT : List RegRow := [
  ⟨"VAT_CTRL", 0x400b0000, [(256, 16)], 0x2, [⟨"LOCK", 31, 1, .w1s⟩, ⟨"CLRCNT", 3, 1, .w1s⟩, ⟨"RESET", 2, 1, .w1s⟩, ⟨"SPARE_EN", 1, 1, .rwl⟩, ⟨"EN", 0, 1, .rw⟩]⟩,
  ⟨"VAT_STATUS", 0x400b0004, [(256, 16)], 0x0, [⟨"CKPT_VALID", 16, 16, .ro⟩, ⟨"FAILED", 12, 4, .ro⟩, ⟨"DTWR_IGN", 9, 1, .ro⟩, ⟨"SPARE_USED", 8, 1, .ro⟩, ⟨"VSTATE", 0, 2, .ro⟩]⟩,
  ⟨"VAT_PC", 0x400b0008, [(256, 16)], 0x0, [⟨"ADDR", 3, 14, .rw⟩]⟩,
  ⟨"VAT_VEC", 0x400b000c, [(256, 16)], 0x0, [⟨"ADDR", 3, 14, .rw⟩]⟩,
  ⟨"VAT_EPC", 0x400b0010, [(256, 16)], 0x0, [⟨"ADDR", 3, 14, .ro⟩]⟩,
  ⟨"VAT_TRAP_CAUSE", 0x400b0014, [(256, 16)], 0x0, [⟨"DETAIL", 24, 8, .ro⟩, ⟨"MICRO", 20, 3, .ro⟩, ⟨"SLOT", 16, 2, .ro⟩, ⟨"CAUSE", 0, 8, .ro⟩]⟩,
  ⟨"VAT_TRAP_PC", 0x400b0018, [(256, 16)], 0x0, [⟨"ADDR", 3, 14, .ro⟩]⟩,
  ⟨"VAT_JOB_BASE", 0x400b001c, [(256, 16)], 0x10000, [⟨"BASE", 11, 6, .rwl⟩]⟩,
  ⟨"VAT_LTRAP", 0x400b0020, [(256, 16)], 0x0, [⟨"VALID", 31, 1, .w1c⟩, ⟨"HIT", 30, 1, .ro⟩, ⟨"ENTRY", 16, 6, .ro⟩, ⟨"LANE", 8, 4, .ro⟩, ⟨"CAUSE", 0, 8, .ro⟩]⟩,
  ⟨"VAT_DT_CMD", 0x400b0024, [(256, 16)], 0x0, [⟨"GO", 31, 1, .w1s⟩, ⟨"OP", 28, 3, .rw⟩, ⟨"ENTRY", 16, 6, .rw⟩, ⟨"RESULT", 8, 8, .ro⟩]⟩,
  ⟨"VAT_DT_CRC", 0x400b0028, [(256, 16)], 0x0, [⟨"VALUE", 0, 32, .rw⟩]⟩,
  ⟨"VAT_DT_VALID_LO", 0x400b002c, [(256, 16)], 0x0, [⟨"VALUE", 0, 32, .ro⟩]⟩,
  ⟨"VAT_DT_VALID_HI", 0x400b0030, [(256, 16)], 0x0, [⟨"VALUE", 0, 32, .ro⟩]⟩,
  ⟨"VAT_MARK_BAD", 0x400b0034, [(256, 16)], 0x0, [⟨"VALUE", 0, 32, .ro⟩]⟩,
  ⟨"VAT_CKPT_MISS", 0x400b0038, [(256, 16)], 0x0, [⟨"VALUE", 0, 32, .ro⟩]⟩,
  ⟨"VAT_PROMOTED", 0x400b003c, [(256, 16)], 0x0, [⟨"VALUE", 0, 32, .ro⟩]⟩,
  ⟨"VAT_DEADLINE_MISS", 0x400b0040, [(256, 16)], 0x0, [⟨"VALUE", 0, 32, .ro⟩]⟩,
  ⟨"VAT_EMU_HIT", 0x400b0044, [(256, 16)], 0x0, [⟨"VALUE", 0, 32, .ro⟩]⟩,
  ⟨"VAT_EMU_MISS", 0x400b0048, [(256, 16)], 0x0, [⟨"VALUE", 0, 32, .ro⟩]⟩,
  ⟨"VAT_NOMARK", 0x400b004c, [(256, 16)], 0x0, [⟨"VALUE", 0, 32, .ro⟩]⟩,
  ⟨"VAT_SCRUB_STAMP_LO", 0x400b0050, [(256, 16)], 0x0, [⟨"VALUE", 0, 32, .ro⟩]⟩,
  ⟨"VAT_SCRUB_STAMP_HI", 0x400b0054, [(256, 16)], 0x0, [⟨"VALUE", 0, 32, .ro⟩]⟩,
  ⟨"VAT_IRQ", 0x400b0058, [(256, 16)], 0x0, [⟨"SCRUB", 5, 1, .w1c⟩, ⟨"SPARE", 4, 1, .w1c⟩, ⟨"CKPT", 3, 1, .w1c⟩, ⟨"MISSED", 2, 1, .w1c⟩, ⟨"VTRAP", 1, 1, .w1c⟩, ⟨"LTRAP", 0, 1, .w1c⟩]⟩,
  ⟨"VAT_IRQ_EN", 0x400b005c, [(256, 16)], 0x0, [⟨"SCRUB", 5, 1, .rw⟩, ⟨"SPARE", 4, 1, .rw⟩, ⟨"CKPT", 3, 1, .rw⟩, ⟨"MISSED", 2, 1, .rw⟩, ⟨"VTRAP", 1, 1, .rw⟩, ⟨"LTRAP", 0, 1, .rw⟩]⟩]

/-- The CORE registers (R317). -/
def rowsCORE : List RegRow := [
  ⟨"CORE_CTRL", 0x400e0000, [], 0x0, [⟨"LOCK", 31, 1, .w1s⟩, ⟨"CLRCNT", 0, 1, .w1s⟩]⟩,
  ⟨"CORE_STATUS", 0x400e0004, [], 0x0, [⟨"R0FAIL", 13, 1, .ro⟩, ⟨"SLICE", 12, 1, .ro⟩, ⟨"TSHARE", 11, 1, .ro⟩, ⟨"P1_LOST", 10, 1, .ro⟩, ⟨"P0_LOST", 9, 1, .ro⟩, ⟨"WMODE", 8, 1, .ro⟩, ⟨"CTX1", 4, 3, .ro⟩, ⟨"CTX0", 0, 3, .ro⟩]⟩,
  ⟨"CORE_TSHARE", 0x400e0008, [], 0x46, [⟨"CSHARE", 0, 7, .rwl⟩]⟩,
  ⟨"CORE_HOLD_OVR", 0x400e000c, [], 0x0, [⟨"COUNT", 0, 32, .ro⟩]⟩,
  ⟨"CORE_HOLD_LAST", 0x400e0010, [], 0x0, [⟨"LEN", 16, 12, .ro⟩, ⟨"PAIR", 4, 1, .ro⟩, ⟨"CTX", 0, 3, .ro⟩]⟩,
  ⟨"CORE_HOLD_PC", 0x400e0014, [], 0x0, [⟨"ADDR", 0, 32, .ro⟩]⟩,
  ⟨"CORE_GATE_REFUSED", 0x400e0018, [], 0x0, [⟨"COUNT", 0, 32, .ro⟩]⟩,
  ⟨"CORE_WR_REFUSED", 0x400e001c, [], 0x0, [⟨"COUNT", 0, 32, .ro⟩]⟩,
  ⟨"CORE_IRQ", 0x400e0020, [], 0x0, [⟨"WR_REFUSED", 3, 1, .w1c⟩, ⟨"PAIR_LOST", 2, 1, .w1c⟩, ⟨"GATE_REFUSED", 1, 1, .w1c⟩, ⟨"HOLD_OVR", 0, 1, .w1c⟩]⟩,
  ⟨"CORE_IRQ_EN", 0x400e0024, [], 0x0, [⟨"WR_REFUSED", 3, 1, .rw⟩, ⟨"PAIR_LOST", 2, 1, .rw⟩, ⟨"GATE_REFUSED", 1, 1, .rw⟩, ⟨"HOLD_OVR", 0, 1, .rw⟩]⟩,
  ⟨"CORE_VEC", 0x400e0040, [(4, 8)], 0x0, [⟨"ADDR", 3, 29, .rwl⟩]⟩,
  ⟨"CORE_XSTK", 0x400e0060, [(4, 8)], 0x0, [⟨"ADDR", 3, 29, .rwl⟩]⟩,
  ⟨"CORE_IPEND_LO", 0x400e0080, [(16, 2)], 0x0, [⟨"LINES", 0, 32, .ro⟩]⟩,
  ⟨"CORE_IPEND_HI", 0x400e0084, [(16, 2)], 0x0, [⟨"LINES", 0, 32, .ro⟩]⟩,
  ⟨"CORE_IEN_LO", 0x400e0088, [(16, 2)], 0x0, [⟨"LINES", 0, 32, .rw⟩]⟩,
  ⟨"CORE_IEN_HI", 0x400e008c, [(16, 2)], 0x0, [⟨"LINES", 0, 32, .rw⟩]⟩,
  ⟨"CORE_IPRI", 0x400e00a0, [(32, 2), (4, 8)], 0x11111111, [⟨"PRI0", 0, 2, .rw⟩, ⟨"PRI1", 4, 2, .rw⟩, ⟨"PRI2", 8, 2, .rw⟩, ⟨"PRI3", 12, 2, .rw⟩, ⟨"PRI4", 16, 2, .rw⟩, ⟨"PRI5", 20, 2, .rw⟩, ⟨"PRI6", 24, 2, .rw⟩, ⟨"PRI7", 28, 2, .rw⟩]⟩,
  ⟨"CORE_RGN_LO", 0x400e0100, [(64, 8), (8, 8)], 0x0, [⟨"BASE", 6, 26, .rw⟩, ⟨"X", 2, 1, .rw⟩, ⟨"W", 1, 1, .rw⟩, ⟨"R", 0, 1, .rw⟩]⟩,
  ⟨"CORE_RGN_HI", 0x400e0104, [(64, 8), (8, 8)], 0x0, [⟨"LAST", 6, 26, .rw⟩, ⟨"EN", 0, 1, .rw⟩]⟩,
  ⟨"CORE_GATE", 0x400e8000, [(64, 256), (4, 16)], 0x0, [⟨"VALUE", 0, 32, .rw⟩]⟩]

/-- The TG registers (R342). -/
def rowsTG : List RegRow := [
  ⟨"TG_CTRL", 0x40030000, [], 0x0, [⟨"LOCK", 31, 1, .w1s⟩, ⟨"CLRCNT", 1, 1, .w1s⟩]⟩,
  ⟨"TG_STATUS", 0x40030004, [], 0x0, [⟨"PAIRFLT", 10, 1, .ro⟩, ⟨"D2D_DOWN", 9, 1, .ro⟩, ⟨"D2D_UP", 8, 1, .ro⟩, ⟨"READY", 0, 8, .ro⟩]⟩,
  ⟨"TG_BUS_ERR", 0x40030008, [], 0x0, [⟨"COUNT", 0, 32, .ro⟩]⟩,
  ⟨"TG_ECC_CE", 0x4003000c, [], 0x0, [⟨"COUNT", 0, 32, .ro⟩]⟩,
  ⟨"TG_ECC_UE", 0x40030010, [], 0x0, [⟨"COUNT", 0, 32, .ro⟩]⟩,
  ⟨"TG_D2D_FAIL", 0x40030014, [], 0x0, [⟨"COUNT", 0, 32, .ro⟩]⟩,
  ⟨"TG_WR_REFUSED", 0x40030018, [], 0x0, [⟨"COUNT", 0, 32, .ro⟩]⟩,
  ⟨"TG_VSTAT", 0x40030020, [(4, 2)], 0x0, [⟨"LOST", 16, 16, .ro⟩, ⟨"DEPTH", 0, 4, .ro⟩]⟩,
  ⟨"TG_VPOP", 0x40030028, [(4, 2)], 0x0, [⟨"POP", 0, 1, .wo⟩]⟩,
  ⟨"TG_IRQ_EN", 0x40030030, [], 0x0, [⟨"EN", 0, 2, .rw⟩]⟩,
  ⟨"TG_PERM", 0x40030100, [(4, 96)], 0x0, [⟨"PERM", 0, 32, .rwl⟩]⟩,
  ⟨"TG_WIN_LO", 0x40030300, [(8, 16)], 0x0, [⟨"BASE", 12, 20, .rwl⟩, ⟨"OWNER", 3, 1, .rwl⟩, ⟨"XO", 2, 1, .rwl⟩]⟩,
  ⟨"TG_WIN_HI", 0x40030304, [(8, 16)], 0x0, [⟨"LAST", 12, 20, .rwl⟩, ⟨"EN", 0, 1, .rwl⟩]⟩,
  ⟨"TG_VLOG_ADDR", 0x40030400, [(128, 2), (16, 8)], 0x0, [⟨"VALUE", 0, 32, .ro⟩]⟩,
  ⟨"TG_VLOG_INFO", 0x40030404, [(128, 2), (16, 8)], 0x0, [⟨"GATE", 24, 8, .ro⟩, ⟨"ENGINE", 16, 8, .ro⟩, ⟨"CLASS", 13, 3, .ro⟩, ⟨"KIND", 11, 2, .ro⟩, ⟨"IMPRECISE", 10, 1, .ro⟩, ⟨"REASON", 8, 2, .ro⟩, ⟨"REPEAT", 0, 8, .ro⟩]⟩,
  ⟨"TG_VLOG_STAMP_LO", 0x40030408, [(128, 2), (16, 8)], 0x0, [⟨"VALUE", 0, 32, .ro⟩]⟩,
  ⟨"TG_VLOG_STAMP_HI", 0x4003040c, [(128, 2), (16, 8)], 0x0, [⟨"VALUE", 0, 32, .ro⟩]⟩]

/-- The FLC registers (R361). -/
def rowsFLC : List RegRow := [
  ⟨"FLC_CTRL", 0x400f0000, [], 0x0, [⟨"LOCK", 31, 1, .w1s⟩, ⟨"CLRCNT", 8, 1, .w1s⟩, ⟨"PROT", 0, 8, .rwl⟩]⟩,
  ⟨"FLC_STATUS", 0x400f0004, [], 0x0, [⟨"FALLBACK", 31, 1, .ro⟩, ⟨"ACTIVE", 30, 1, .ro⟩, ⟨"SUSP", 16, 8, .ro⟩, ⟨"BUSY", 8, 8, .ro⟩, ⟨"RELEASED", 0, 8, .ro⟩]⟩,
  ⟨"FLC_CMD", 0x400f0008, [], 0x0, [⟨"GO", 31, 1, .w1s⟩, ⟨"BUSY", 30, 1, .ro⟩, ⟨"MARGIN", 10, 2, .rw⟩, ⟨"OP", 0, 4, .rw⟩]⟩,
  ⟨"FLC_ADDR", 0x400f000c, [], 0x0, [⟨"VALUE", 0, 32, .rw⟩]⟩,
  ⟨"FLC_LEN", 0x400f0010, [], 0x0, [⟨"VALUE", 0, 32, .rw⟩]⟩,
  ⟨"FLC_SRC", 0x400f0014, [], 0x0, [⟨"VALUE", 0, 32, .rw⟩]⟩,
  ⟨"FLC_RESULT", 0x400f0018, [], 0x0, [⟨"VALID", 31, 1, .ro⟩, ⟨"OP", 16, 4, .ro⟩, ⟨"STATUS", 0, 16, .ro⟩]⟩,
  ⟨"FLC_FAILADDR", 0x400f001c, [], 0x0, [⟨"VALUE", 0, 32, .ro⟩]⟩,
  ⟨"FLC_BANK", 0x400f0020, [], 0x0, [⟨"RELEASE", 8, 8, .w1s⟩, ⟨"UNSETTLED", 0, 8, .ro⟩]⟩,
  ⟨"FLC_SELECT", 0x400f0024, [], 0x0, [⟨"VALUE", 0, 32, .ro⟩]⟩,
  ⟨"FLC_IMGVER", 0x400f0028, [], 0x0, [⟨"VALUE", 0, 32, .ro⟩]⟩,
  ⟨"FLC_ECC_CE", 0x400f002c, [], 0x0, [⟨"VALUE", 0, 32, .ro⟩]⟩,
  ⟨"FLC_ECC_UE", 0x400f0030, [], 0x0, [⟨"VALUE", 0, 32, .ro⟩]⟩,
  ⟨"FLC_SUSPENDS", 0x400f0034, [], 0x0, [⟨"VALUE", 0, 32, .ro⟩]⟩,
  ⟨"FLC_VERIFY_FAIL", 0x400f0038, [], 0x0, [⟨"VALUE", 0, 32, .ro⟩]⟩,
  ⟨"FLC_REFUSED", 0x400f003c, [], 0x0, [⟨"VALUE", 0, 32, .ro⟩]⟩,
  ⟨"FLC_IRQ", 0x400f0040, [], 0x0, [⟨"UE", 4, 1, .w1c⟩, ⟨"UNSETTLED", 3, 1, .w1c⟩, ⟨"VERIFY_FAIL", 2, 1, .w1c⟩, ⟨"REFUSED", 1, 1, .w1c⟩, ⟨"DONE", 0, 1, .w1c⟩]⟩,
  ⟨"FLC_IRQ_EN", 0x400f0044, [], 0x0, [⟨"UE", 4, 1, .rw⟩, ⟨"UNSETTLED", 3, 1, .rw⟩, ⟨"VERIFY_FAIL", 2, 1, .rw⟩, ⟨"REFUSED", 1, 1, .rw⟩, ⟨"DONE", 0, 1, .rw⟩]⟩,
  ⟨"FLC_JSTAT", 0x400f0100, [(4, 8)], 0x0, [⟨"JSECT", 29, 3, .ro⟩, ⟨"FIRST", 19, 10, .ro⟩, ⟨"UNSET", 0, 10, .ro⟩]⟩]

/-- The CEL registers (R381). -/
def rowsCEL : List RegRow := [
  ⟨"CEL_CTRL", 0x50180000, [], 0x0, [⟨"CLRCNT", 1, 1, .w1s⟩, ⟨"INC_CLOSE", 0, 1, .w1s⟩]⟩,
  ⟨"CEL_STATUS", 0x50180004, [], 0x0, [⟨"SCANNING", 9, 1, .ro⟩, ⟨"QDEPTH", 4, 5, .ro⟩, ⟨"BCLOST", 3, 1, .ro⟩, ⟨"QLATCH", 2, 1, .ro⟩, ⟨"VRES_OK", 1, 1, .ro⟩, ⟨"MAIN", 0, 1, .ro⟩]⟩,
  ⟨"CEL_BCOUNT_LO", 0x50180008, [], 0x0, [⟨"VALUE", 0, 32, .ro⟩]⟩,
  ⟨"CEL_BCOUNT_HI", 0x5018000c, [], 0x0, [⟨"VALUE", 0, 16, .ro⟩]⟩,
  ⟨"CEL_NEXT_ENO", 0x50180010, [], 0x0, [⟨"VALUE", 0, 32, .ro⟩]⟩,
  ⟨"CEL_INCIDENT", 0x50180014, [], 0x0, [⟨"COUNT", 16, 16, .ro⟩, ⟨"NUMBER", 0, 16, .ro⟩]⟩,
  ⟨"CEL_WCMD", 0x50180018, [], 0x0, [⟨"GO", 31, 1, .w1s⟩, ⟨"CONT", 1, 1, .rw⟩, ⟨"INC", 0, 1, .rw⟩]⟩,
  ⟨"CEL_WRESULT", 0x5018001c, [], 0x0, [⟨"VALID", 31, 1, .ro⟩, ⟨"STATUS", 0, 16, .ro⟩]⟩,
  ⟨"CEL_DISCARDED", 0x50180020, [], 0x0, [⟨"VALUE", 0, 32, .ro⟩]⟩,
  ⟨"CEL_REPAIRED", 0x50180024, [], 0x0, [⟨"VALUE", 0, 32, .ro⟩]⟩,
  ⟨"CEL_DROPPED", 0x50180028, [], 0x0, [⟨"VALUE", 0, 32, .ro⟩]⟩,
  ⟨"CEL_VRES", 0x5018002c, [], 0x0, [⟨"MV", 0, 13, .ro⟩]⟩,
  ⟨"CEL_HEAD", 0x50180040, [(4, 16)], 0x0, [⟨"VALUE", 0, 32, .rw⟩]⟩,
  ⟨"CEL_WBUF", 0x50180100, [(4, 16)], 0x0, [⟨"VALUE", 0, 32, .rw⟩]⟩]

/-- The KS registers (R407). -/
def rowsKS : List RegRow := [
  ⟨"KS_STATUS", 0x40100000, [], 0x0, [⟨"REEST_PEND", 3, 1, .ro⟩, ⟨"BRE_ZERO", 2, 1, .ro⟩, ⟨"HUKFAIL", 1, 1, .ro⟩, ⟨"READY", 0, 1, .ro⟩]⟩,
  ⟨"KS_ARG", 0x40100004, [], 0x0, [⟨"TARGET", 29, 3, .rw⟩, ⟨"ALG", 26, 3, .rw⟩, ⟨"USAGE", 23, 3, .rw⟩, ⟨"LEN", 16, 7, .rw⟩, ⟨"PARENT", 8, 6, .rw⟩, ⟨"SLOT", 0, 6, .rw⟩]⟩,
  ⟨"KS_CMD", 0x40100008, [], 0x0, [⟨"GO", 31, 1, .w1s⟩, ⟨"OP", 0, 3, .rw⟩]⟩,
  ⟨"KS_RESULT", 0x4010000c, [], 0x0, [⟨"VALID", 31, 1, .ro⟩, ⟨"STATUS", 0, 16, .ro⟩]⟩,
  ⟨"KS_IRQ", 0x40100010, [], 0x0, [⟨"BRE", 2, 1, .w1c⟩, ⟨"ORPHAN", 1, 1, .w1c⟩, ⟨"DONE", 0, 1, .w1c⟩]⟩,
  ⟨"KS_IRQ_EN", 0x40100014, [], 0x0, [⟨"BRE", 2, 1, .rw⟩, ⟨"ORPHAN", 1, 1, .rw⟩, ⟨"DONE", 0, 1, .rw⟩]⟩,
  ⟨"KS_BLOB", 0x40100080, [(4, 32)], 0x0, [⟨"VALUE", 0, 32, .rw⟩]⟩,
  ⟨"KS_SLOT", 0x40100100, [(4, 64)], 0x0, [⟨"STATE", 30, 2, .ro⟩, ⟨"WORLD", 28, 2, .ro⟩, ⟨"USAGE", 21, 3, .ro⟩, ⟨"ALG", 18, 3, .ro⟩, ⟨"PARENT", 8, 6, .ro⟩]⟩,
  ⟨"KS_EPOCH", 0x40100200, [(4, 64)], 0x0, [⟨"EPOCH", 0, 32, .ro⟩]⟩]

/-- The CB registers (R408). -/
def rowsCB : List RegRow := [
  ⟨"CB_CLAIM", 0x40110000, [(65536, 5)], 0x0, [⟨"WORLD", 0, 2, .rw⟩]⟩,
  ⟨"CB_KEYSRC", 0x40110004, [(65536, 5)], 0x0, [⟨"VALID", 31, 1, .ro⟩, ⟨"SLOT", 0, 6, .ro⟩]⟩,
  ⟨"CB_CMD", 0x40110008, [(65536, 5)], 0x0, [⟨"GO", 31, 1, .w1s⟩, ⟨"BUSY", 30, 1, .ro⟩, ⟨"FUNC", 0, 8, .rw⟩]⟩,
  ⟨"CB_SRC", 0x4011000c, [(65536, 5)], 0x0, [⟨"VALUE", 0, 32, .rw⟩]⟩,
  ⟨"CB_DST", 0x40110010, [(65536, 5)], 0x0, [⟨"VALUE", 0, 32, .rw⟩]⟩,
  ⟨"CB_LEN", 0x40110014, [(65536, 5)], 0x0, [⟨"VALUE", 0, 32, .rw⟩]⟩,
  ⟨"CB_AAD", 0x40110018, [(65536, 5)], 0x0, [⟨"VALUE", 0, 32, .rw⟩]⟩,
  ⟨"CB_RESULT", 0x4011001c, [(65536, 5)], 0x0, [⟨"VALUE", 0, 32, .ro⟩]⟩,
  ⟨"CB_IRQ", 0x40110020, [(65536, 5)], 0x0, [⟨"IRQ", 0, 2, .w1c⟩]⟩,
  ⟨"CB_IRQ_EN", 0x40110024, [(65536, 5)], 0x0, [⟨"IRQ_EN", 0, 2, .rw⟩]⟩,
  ⟨"CB_IV", 0x40110040, [(65536, 5), (4, 16)], 0x0, [⟨"VALUE", 0, 32, .rw⟩]⟩]

/-- The CUL registers (R409). -/
def rowsCUL : List RegRow := [
  ⟨"CUL_CTRL", 0x40160000, [], 0x0, [⟨"CLRCNT", 0, 1, .w1s⟩]⟩,
  ⟨"CUL_STATUS", 0x40160004, [], 0x0, [⟨"STALL", 9, 1, .ro⟩, ⟨"NOSEED", 8, 1, .ro⟩, ⟨"EXCLUDED", 4, 3, .ro⟩, ⟨"HEALTHY", 0, 3, .ro⟩]⟩,
  ⟨"CUL_SRC_STAT", 0x40160008, [(4, 3)], 0x0, [⟨"APT", 16, 16, .ro⟩, ⟨"RCT", 0, 16, .ro⟩]⟩,
  ⟨"CUL_RNG", 0x40160020, [(4, 2)], 0x0, [⟨"VALUE", 0, 32, .ro⟩]⟩,
  ⟨"CUL_VRNG", 0x40160040, [(4, 16)], 0x0, [⟨"VALUE", 0, 32, .ro⟩]⟩,
  ⟨"CUL_IRQ", 0x40160080, [], 0x0, [⟨"IRQ", 0, 3, .w1c⟩]⟩,
  ⟨"CUL_IRQ_EN", 0x40160084, [], 0x0, [⟨"IRQ_EN", 0, 3, .rw⟩]⟩]

/-- The TMP registers (R422). -/
def rowsTMP : List RegRow := [
  ⟨"TMP_CTRL", 0x40170000, [], 0x1, [⟨"LOCK", 31, 1, .w1s⟩, ⟨"CLRCNT", 1, 1, .w1s⟩, ⟨"TEST_EN", 0, 1, .rw⟩]⟩,
  ⟨"TMP_STATUS", 0x40170004, [], 0x0, [⟨"TESTING", 16, 1, .ro⟩, ⟨"TSRC", 8, 4, .ro⟩, ⟨"TUNIT", 0, 6, .ro⟩]⟩,
  ⟨"TMP_TRIP", 0x40170008, [], 0x0, [⟨"SRC", 0, 14, .w1c⟩]⟩,
  ⟨"TMP_ACTIVE", 0x4017000c, [], 0x0, [⟨"SRC", 0, 14, .ro⟩]⟩,
  ⟨"TMP_MONFAULT", 0x40170010, [], 0x0, [⟨"SRC", 0, 14, .w1c⟩]⟩,
  ⟨"TMP_DISABLED", 0x40170014, [], 0x0, [⟨"SRC", 0, 14, .ro⟩]⟩,
  ⟨"TMP_GRADE", 0x40170018, [], 0x9e5a6bf, [⟨"GRADE0", 0, 2, .rw⟩, ⟨"GRADE1", 2, 2, .rw⟩, ⟨"GRADE2", 4, 2, .rw⟩, ⟨"GRADE3", 6, 2, .rw⟩, ⟨"GRADE4", 8, 2, .rw⟩, ⟨"GRADE5", 10, 2, .rw⟩, ⟨"GRADE6", 12, 2, .rw⟩, ⟨"GRADE7", 14, 2, .rw⟩, ⟨"GRADE8", 16, 2, .rw⟩, ⟨"GRADE9", 18, 2, .rw⟩, ⟨"GRADE10", 20, 2, .rw⟩, ⟨"GRADE11", 22, 2, .rw⟩, ⟨"GRADE12", 24, 2, .rw⟩, ⟨"GRADE13", 26, 2, .rw⟩]⟩,
  ⟨"TMP_TEST", 0x4017001c, [], 0x1f4, [⟨"PERIOD", 0, 16, .rw⟩]⟩,
  ⟨"TMP_LAST", 0x40170020, [], 0x0, [⟨"INDEX", 16, 16, .ro⟩, ⟨"GRADE", 8, 2, .ro⟩, ⟨"SIDE", 7, 1, .ro⟩, ⟨"KIND", 4, 3, .ro⟩, ⟨"SRC", 0, 4, .ro⟩]⟩,
  ⟨"TMP_LAST_STAMP_LO", 0x40170024, [], 0x0, [⟨"STAMP", 0, 32, .ro⟩]⟩,
  ⟨"TMP_LAST_STAMP_HI", 0x40170028, [], 0x0, [⟨"STAMP", 0, 32, .ro⟩]⟩,
  ⟨"TMP_TEMP", 0x4017002c, [], 0x0, [⟨"TJ", 0, 16, .ro⟩]⟩,
  ⟨"TMP_IRQ", 0x40170030, [], 0x0, [⟨"BACKUP", 3, 1, .w1c⟩, ⟨"GRADE_REFUSED", 2, 1, .w1c⟩, ⟨"MONFAULT", 1, 1, .w1c⟩, ⟨"TRIP", 0, 1, .w1c⟩]⟩,
  ⟨"TMP_IRQ_EN", 0x40170034, [], 0x0, [⟨"BACKUP", 3, 1, .rw⟩, ⟨"GRADE_REFUSED", 2, 1, .rw⟩, ⟨"MONFAULT", 1, 1, .rw⟩, ⟨"TRIP", 0, 1, .rw⟩]⟩,
  ⟨"TMP_RIND_LO", 0x40170038, [], 0x0, [⟨"VALUE", 0, 32, .w1c⟩]⟩,
  ⟨"TMP_RIND_HI", 0x4017003c, [], 0x0, [⟨"VALUE", 0, 32, .w1c⟩]⟩,
  ⟨"TMP_COUNT", 0x40170040, [(4, 14)], 0x0, [⟨"VALUE", 0, 32, .ro⟩]⟩]

/-- The CMD registers (R448). -/
def rowsCMD : List RegRow := [
  ⟨"CMD_CTRL", 0x40190000, [], 0x2, [⟨"LOCK", 31, 1, .w1s⟩, ⟨"CLRCNT", 2, 1, .w1s⟩, ⟨"DIAG_EN", 1, 1, .rw⟩, ⟨"EN", 0, 1, .rw⟩]⟩,
  ⟨"CMD_STATUS", 0x40190004, [], 0x0, [⟨"PARTSIG", 16, 8, .ro⟩, ⟨"PENDING", 8, 8, .ro⟩, ⟨"OPEN", 0, 8, .ro⟩]⟩,
  ⟨"CMD_IDLE", 0x40190008, [], 0x258, [⟨"IDLE", 0, 32, .rwl⟩]⟩,
  ⟨"CMD_TAGFAIL", 0x4019000c, [], 0x0, [⟨"VALUE", 0, 32, .ro⟩]⟩,
  ⟨"CMD_REPLAYS", 0x40190010, [], 0x0, [⟨"VALUE", 0, 32, .ro⟩]⟩,
  ⟨"CMD_REFUSED", 0x40190014, [], 0x0, [⟨"VALUE", 0, 32, .ro⟩]⟩,
  ⟨"CMD_IRQ", 0x40190018, [(4, 2)], 0x0, [⟨"CLOSED", 3, 1, .w1c⟩, ⟨"QUEUE", 2, 1, .w1c⟩, ⟨"TAGFAIL", 1, 1, .w1c⟩, ⟨"CMD", 0, 1, .w1c⟩]⟩,
  ⟨"CMD_IRQ_EN", 0x40190020, [(4, 2)], 0x0, [⟨"CLOSED", 3, 1, .rw⟩, ⟨"QUEUE", 2, 1, .rw⟩, ⟨"TAGFAIL", 1, 1, .rw⟩, ⟨"CMD", 0, 1, .rw⟩]⟩,
  ⟨"CMD_SESS", 0x40190040, [(8, 8)], 0x0, [⟨"WORLD", 30, 2, .ro⟩, ⟨"TRANSPORT", 27, 3, .ro⟩, ⟨"OUTST", 20, 7, .ro⟩, ⟨"TAGF", 16, 4, .ro⟩, ⟨"IDLE", 0, 16, .ro⟩]⟩,
  ⟨"CMD_SESS_SEQ", 0x40190044, [(8, 8)], 0x0, [⟨"VALUE", 0, 32, .ro⟩]⟩,
  ⟨"CMD_OPAUTH", 0x40190080, [(4, 12)], 0x0, [⟨"VALUE", 0, 32, .rw⟩]⟩,
  ⟨"CMD_QBASE", 0x401900c0, [(16, 2)], 0x0, [⟨"VALUE", 0, 32, .rw⟩]⟩,
  ⟨"CMD_QHEAD", 0x401900c4, [(16, 2)], 0x0, [⟨"VALUE", 0, 32, .ro⟩]⟩,
  ⟨"CMD_RPLY_ADDR", 0x401900c8, [(16, 2)], 0x0, [⟨"VALUE", 0, 32, .rw⟩]⟩,
  ⟨"CMD_RPLY_CTL", 0x401900cc, [(16, 2)], 0x0, [⟨"GO", 31, 1, .w1s⟩, ⟨"INTERIM", 30, 1, .rw⟩, ⟨"INDEX", 17, 7, .rw⟩, ⟨"LEN", 0, 17, .rw⟩]⟩]

/-- The XP registers (R449). -/
def rowsXP : List RegRow := [
  ⟨"XP_CTRL", 0x401a0000, [(65536, 4)], 0x304, [⟨"LOCK", 31, 1, .w1s⟩, ⟨"WORLDS", 8, 2, .rwl⟩, ⟨"CLRCNT", 3, 1, .w1s⟩, ⟨"DIAG", 2, 1, .rw⟩, ⟨"EN", 0, 1, .rw⟩]⟩,
  ⟨"XP_STATUS", 0x401a0004, [(65536, 4)], 0x0, [⟨"TXQ", 16, 8, .ro⟩, ⟨"RXQ", 8, 8, .ro⟩, ⟨"G1000", 2, 1, .ro⟩, ⟨"BUSOFF", 1, 1, .ro⟩, ⟨"LINK", 0, 1, .ro⟩]⟩,
  ⟨"XP_CFG0", 0x401a0008, [(65536, 4)], 0x0, [⟨"VALUE", 0, 32, .rwl⟩]⟩,
  ⟨"XP_CFG1", 0x401a000c, [(65536, 4)], 0x0, [⟨"VALUE", 0, 32, .rwl⟩]⟩,
  ⟨"XP_CFG2", 0x401a0010, [(65536, 4)], 0x0, [⟨"VALUE", 0, 32, .rwl⟩]⟩,
  ⟨"XP_CFG3", 0x401a0014, [(65536, 4)], 0x0, [⟨"VALUE", 0, 32, .rwl⟩]⟩,
  ⟨"XP_RX", 0x401a0018, [(65536, 4)], 0x0, [⟨"COUNT", 0, 32, .ro⟩]⟩,
  ⟨"XP_ERR", 0x401a001c, [(65536, 4)], 0x0, [⟨"COUNT", 0, 32, .ro⟩]⟩,
  ⟨"XP_IRQ", 0x401a0020, [(65536, 4)], 0x0, [⟨"IRQ", 0, 3, .w1c⟩]⟩,
  ⟨"XP_IRQ_EN", 0x401a0024, [(65536, 4)], 0x0, [⟨"IRQ_EN", 0, 3, .rw⟩]⟩]

/-- The SVC registers (R465). -/
def rowsSVC : List RegRow := [
  ⟨"SVC_CTRL", 0x40200000, [], 0x3, [⟨"LOCK", 31, 1, .w1s⟩, ⟨"CLRCNT", 2, 1, .w1s⟩, ⟨"DIAG", 1, 1, .rwl⟩, ⟨"EN", 0, 1, .rwl⟩]⟩,
  ⟨"SVC_STATUS", 0x40200004, [], 0x0, [⟨"ATTEMPTS", 12, 4, .ro⟩, ⟨"DI", 8, 2, .ro⟩, ⟨"CLKSTOP", 7, 1, .ro⟩, ⟨"BUSY", 6, 1, .ro⟩, ⟨"ERASING", 5, 1, .ro⟩, ⟨"LOCKOUT", 4, 1, .ro⟩, ⟨"LOCKED", 3, 1, .ro⟩, ⟨"PWSET", 2, 1, .ro⟩, ⟨"CLASS", 1, 1, .ro⟩, ⟨"ACTIVE", 0, 1, .ro⟩]⟩,
  ⟨"SVC_LASTWR", 0x40200008, [], 0x0, [⟨"VALID", 31, 1, .ro⟩, ⟨"KIND", 28, 3, .ro⟩, ⟨"BLOCK", 22, 6, .ro⟩, ⟨"STATUS", 0, 16, .ro⟩]⟩,
  ⟨"SVC_UNDEF_LO", 0x4020000c, [], 0x0, [⟨"MASK", 0, 32, .ro⟩]⟩,
  ⟨"SVC_UNDEF_HI", 0x40200010, [], 0x0, [⟨"MASK", 0, 32, .ro⟩]⟩,
  ⟨"SVC_BLKERR", 0x40200014, [], 0x0, [⟨"COUNT", 0, 32, .ro⟩]⟩,
  ⟨"SVC_PWFAIL", 0x40200018, [], 0x0, [⟨"COUNT", 0, 32, .ro⟩]⟩,
  ⟨"SVC_IRQ", 0x4020001c, [], 0x0, [⟨"UNDEF", 4, 1, .w1c⟩, ⟨"ERASED", 3, 1, .w1c⟩, ⟨"LOCKOUT", 2, 1, .w1c⟩, ⟨"PWFAIL", 1, 1, .w1c⟩, ⟨"ACTIVATED", 0, 1, .w1c⟩]⟩,
  ⟨"SVC_IRQ_EN", 0x40200020, [], 0x0, [⟨"UNDEF", 4, 1, .rw⟩, ⟨"ERASED", 3, 1, .rw⟩, ⟨"LOCKOUT", 2, 1, .rw⟩, ⟨"PWFAIL", 1, 1, .rw⟩, ⟨"ACTIVATED", 0, 1, .rw⟩]⟩]

/-- The TAG registers (R481). -/
def rowsTAG : List RegRow := [
  ⟨"TAG_CTRL", 0x40210000, [], 0x29, [⟨"LOCK", 31, 1, .w1s⟩, ⟨"CLRCNT", 8, 1, .w1s⟩, ⟨"MAXRATE", 4, 2, .rwl⟩, ⟨"VHARV_EN", 3, 1, .rwl⟩, ⟨"RECORD", 2, 1, .rwl⟩, ⟨"EN", 0, 1, .rwl⟩]⟩,
  ⟨"TAG_STATUS", 0x40210004, [], 0x0, [⟨"VHARV_ON", 21, 1, .ro⟩, ⟨"ROLLING", 20, 1, .ro⟩, ⟨"STAGING", 19, 1, .ro⟩, ⟨"AUTH", 16, 1, .ro⟩, ⟨"ATTEMPTS", 11, 5, .ro⟩, ⟨"LOCKOUT", 10, 1, .ro⟩, ⟨"PWSET", 9, 1, .ro⟩, ⟨"FIELD", 8, 1, .ro⟩, ⟨"DR", 6, 2, .ro⟩, ⟨"DS", 4, 2, .ro⟩, ⟨"PROT", 3, 1, .ro⟩, ⟨"STATE", 0, 3, .ro⟩]⟩,
  ⟨"TAG_UID_LO", 0x40210008, [], 0x0, [⟨"VALUE", 0, 32, .ro⟩]⟩,
  ⟨"TAG_UID_HI", 0x4021000c, [], 0x0, [⟨"VALUE", 0, 32, .ro⟩]⟩,
  ⟨"TAG_WBUF", 0x40210010, [(4, 4)], 0x0, [⟨"VALUE", 0, 32, .rw⟩]⟩,
  ⟨"TAG_WCMD", 0x40210020, [], 0x0, [⟨"GO", 31, 1, .w1s⟩, ⟨"OP", 29, 2, .rw⟩, ⟨"BLOCK", 0, 9, .rw⟩]⟩,
  ⟨"TAG_WRESULT", 0x40210024, [], 0x0, [⟨"VALID", 31, 1, .ro⟩, ⟨"OP", 16, 2, .ro⟩, ⟨"STATUS", 0, 16, .ro⟩]⟩,
  ⟨"TAG_RFWRITES", 0x40210028, [], 0x0, [⟨"VALUE", 0, 32, .ro⟩]⟩,
  ⟨"TAG_PWFAIL", 0x4021002c, [], 0x0, [⟨"VALUE", 0, 32, .ro⟩]⟩,
  ⟨"TAG_WTX", 0x40210030, [], 0x0, [⟨"VALUE", 0, 32, .ro⟩]⟩,
  ⟨"TAG_IRQ", 0x40210034, [], 0x0, [⟨"WTX", 5, 1, .w1c⟩, ⟨"COMMITTED", 4, 1, .w1c⟩, ⟨"LOCKOUT", 3, 1, .w1c⟩, ⟨"PWFAIL", 2, 1, .w1c⟩, ⟨"RFWRITE", 1, 1, .w1c⟩, ⟨"FIELD", 0, 1, .w1c⟩]⟩,
  ⟨"TAG_IRQ_EN", 0x40210038, [], 0x0, [⟨"WTX", 5, 1, .rw⟩, ⟨"COMMITTED", 4, 1, .rw⟩, ⟨"LOCKOUT", 3, 1, .rw⟩, ⟨"PWFAIL", 2, 1, .rw⟩, ⟨"RFWRITE", 1, 1, .rw⟩, ⟨"FIELD", 0, 1, .rw⟩]⟩]

/-- The ASM registers (R501). -/
def rowsASM : List RegRow := [
  ⟨"ASM_CTRL", 0x401f0000, [], 0x4, [⟨"LOCK", 31, 1, .w1s⟩, ⟨"CLRCNT", 3, 1, .w1s⟩, ⟨"PROMOTE_EN", 2, 1, .rwl⟩]⟩,
  ⟨"ASM_STATUS", 0x401f0004, [], 0x0, [⟨"ROLE", 30, 2, .ro⟩, ⟨"DEMOTED", 29, 1, .ro⟩, ⟨"DEPUTY", 28, 1, .ro⟩, ⟨"CEDED", 27, 1, .ro⟩, ⟨"ADOPT_PEND", 26, 1, .ro⟩, ⟨"CONFLICT", 25, 1, .ro⟩, ⟨"MISPLACED", 24, 1, .ro⟩, ⟨"STRAP", 16, 2, .ro⟩, ⟨"DEVICE", 0, 7, .ro⟩]⟩,
  ⟨"ASM_TERM", 0x401f0008, [], 0x0, [⟨"VALUE", 0, 32, .ro⟩]⟩,
  ⟨"ASM_DEPUTY", 0x401f000c, [], 0x0, [⟨"DEVICE", 0, 7, .ro⟩]⟩,
  ⟨"ASM_PRESENT_LO", 0x401f0010, [], 0x0, [⟨"VALUE", 0, 32, .ro⟩]⟩,
  ⟨"ASM_PRESENT_HI", 0x401f0014, [], 0x0, [⟨"VALUE", 0, 32, .ro⟩]⟩,
  ⟨"ASM_MERGED", 0x401f0018, [], 0x0, [⟨"VALUE", 0, 32, .ro⟩]⟩,
  ⟨"ASM_SEAL_REQS", 0x401f001c, [], 0x0, [⟨"VALUE", 0, 32, .ro⟩]⟩,
  ⟨"ASM_REFUSED", 0x401f0020, [], 0x0, [⟨"VALUE", 0, 32, .ro⟩]⟩,
  ⟨"ASM_LOSS_STAMP_LO", 0x401f0024, [], 0x0, [⟨"VALUE", 0, 32, .ro⟩]⟩,
  ⟨"ASM_LOSS_STAMP_HI", 0x401f0028, [], 0x0, [⟨"VALUE", 0, 32, .ro⟩]⟩,
  ⟨"ASM_IRQ", 0x401f002c, [], 0x0, [⟨"CONFLICT", 4, 1, .w1c⟩, ⟨"DEMOTED", 3, 1, .w1c⟩, ⟨"PROMOTED", 2, 1, .w1c⟩, ⟨"LOSS", 1, 1, .w1c⟩, ⟨"WORKER", 0, 1, .w1c⟩]⟩,
  ⟨"ASM_IRQ_EN", 0x401f0030, [], 0x0, [⟨"CONFLICT", 4, 1, .rw⟩, ⟨"DEMOTED", 3, 1, .rw⟩, ⟨"PROMOTED", 2, 1, .rw⟩, ⟨"LOSS", 1, 1, .rw⟩, ⟨"WORKER", 0, 1, .rw⟩]⟩]

/-- The FLT registers (R518). -/
def rowsFLT : List RegRow := [
  ⟨"FLT_CTRL", 0x40020000, [], 0x0, [⟨"CLRCNT", 0, 1, .w1s⟩]⟩,
  ⟨"FLT_STATUS", 0x40020004, [], 0x0, [⟨"NEST", 12, 3, .ro⟩, ⟨"PVALID", 10, 1, .ro⟩, ⟨"PSEV", 8, 2, .ro⟩, ⟨"DEPTH", 0, 6, .ro⟩]⟩,
  ⟨"FLT_REC", 0x40020008, [(4, 6)], 0x0, [⟨"VALUE", 0, 32, .ro⟩]⟩,
  ⟨"FLT_ACK", 0x40020020, [], 0x0, [⟨"ACK", 0, 1, .wo⟩]⟩,
  ⟨"FLT_DECLARE", 0x40020024, [], 0x0, [⟨"KIND", 30, 2, .wo⟩, ⟨"UNIT", 0, 8, .wo⟩]⟩,
  ⟨"FLT_LOST", 0x40020028, [], 0x0, [⟨"COUNT", 0, 32, .ro⟩]⟩,
  ⟨"FLT_TRACE_DROP", 0x4002002c, [], 0x0, [⟨"COUNT", 0, 32, .ro⟩]⟩,
  ⟨"FLT_IRQ_EN", 0x40020030, [], 0x0, [⟨"OP", 1, 1, .rw⟩, ⟨"CU", 0, 1, .rw⟩]⟩,
  ⟨"FLT_COUNT", 0x40020040, [(4, 16)], 0x0, [⟨"COUNT", 0, 32, .ro⟩]⟩]

/-- The CPR registers (R537). -/
def rowsCPR : List RegRow := [
  ⟨"CPR_CTRL", 0x40010000, [], 0x0, [⟨"LOCK", 31, 1, .w1s⟩, ⟨"CLRCNT", 0, 1, .w1s⟩]⟩,
  ⟨"CPR_STATUS", 0x40010004, [], 0x0, [⟨"STAGE", 29, 3, .ro⟩, ⟨"STARTFAIL", 27, 2, .ro⟩, ⟨"PWR_EN", 26, 1, .ro⟩, ⟨"DQUEUE", 9, 1, .ro⟩, ⟨"DWAIT", 8, 1, .ro⟩, ⟨"XTAL_OK", 3, 1, .ro⟩, ⟨"ON_XTAL", 2, 1, .ro⟩, ⟨"LPLL_LOCK", 1, 1, .ro⟩, ⟨"RPLL_LOCK", 0, 1, .ro⟩]⟩,
  ⟨"CPR_RSTCAUSE", 0x40010008, [], 0x0, [⟨"RAILS", 16, 4, .ro⟩, ⟨"WCAUSE", 8, 4, .ro⟩, ⟨"KIND", 0, 2, .ro⟩]⟩,
  ⟨"CPR_RESET", 0x4001000c, [], 0x0, [⟨"KEY", 24, 8, .wo⟩, ⟨"KIND", 16, 2, .wo⟩, ⟨"DOMAIN", 0, 9, .wo⟩]⟩,
  ⟨"CPR_START_TO", 0x40010010, [], 0x7d0, [⟨"VALUE", 0, 32, .rwl⟩]⟩,
  ⟨"CPR_LAUNCH_TIME", 0x40010014, [], 0x0, [⟨"VALUE", 0, 32, .ro⟩]⟩,
  ⟨"CPR_WARMCNT", 0x40010018, [], 0x0, [⟨"VALUE", 0, 32, .ro⟩]⟩,
  ⟨"CPR_REFUSED", 0x4001001c, [], 0x0, [⟨"VALUE", 0, 32, .ro⟩]⟩,
  ⟨"CPR_IRQ", 0x40010020, [], 0x0, [⟨"WAKE", 1, 1, .w1c⟩, ⟨"REFUSED", 0, 1, .w1c⟩]⟩,
  ⟨"CPR_IRQ_EN", 0x40010024, [], 0x0, [⟨"WAKE", 1, 1, .rw⟩, ⟨"REFUSED", 0, 1, .rw⟩]⟩,
  ⟨"CPR_DOM", 0x40010400, [(4, 320)], 0x101, [⟨"PROT", 10, 1, .ro⟩, ⟨"INRESET", 9, 1, .ro⟩, ⟨"RUNNING", 8, 1, .ro⟩, ⟨"RST", 1, 1, .rw⟩, ⟨"CLKEN", 0, 1, .rw⟩]⟩]

/-- The BIST registers (R548). -/
def rowsBIST : List RegRow := [
  ⟨"BIST_CTRL", 0x40180000, [], 0x0, [⟨"CLRCNT", 0, 1, .w1s⟩]⟩,
  ⟨"BIST_STATUS", 0x40180004, [], 0x0, [⟨"RUN", 16, 16, .ro⟩, ⟨"TEST", 8, 8, .ro⟩, ⟨"FULL", 1, 1, .ro⟩, ⟨"BUSY", 0, 1, .ro⟩]⟩,
  ⟨"BIST_SOFTREP", 0x40180008, [], 0x0, [⟨"VALUE", 0, 32, .ro⟩]⟩,
  ⟨"BIST_FUSEREP", 0x4018000c, [], 0x0, [⟨"VALUE", 0, 32, .ro⟩]⟩,
  ⟨"BIST_IRQ", 0x40180010, [], 0x0, [⟨"UNREPAIRABLE", 2, 1, .w1c⟩, ⟨"FAIL", 1, 1, .w1c⟩, ⟨"DONE", 0, 1, .w1c⟩]⟩,
  ⟨"BIST_IRQ_EN", 0x40180014, [], 0x0, [⟨"UNREPAIRABLE", 2, 1, .rw⟩, ⟨"FAIL", 1, 1, .rw⟩, ⟨"DONE", 0, 1, .rw⟩]⟩,
  ⟨"BIST_LAST", 0x40180020, [(4, 8)], 0x0, [⟨"VALUE", 0, 32, .ro⟩]⟩]

/-- ALM_BADSTAMP.COUNT (R117). -/
abbrev f_ALM_BADSTAMP_COUNT : Fld := ⟨0x40050038, 0, 32⟩
/-- ALM_CTRL.CLRCNT (R117). -/
abbrev f_ALM_CTRL_CLRCNT : Fld := ⟨0x40050000, 1, 1⟩
/-- ALM_CTRL.LOCK (R117). -/
abbrev f_ALM_CTRL_LOCK : Fld := ⟨0x40050000, 31, 1⟩
/-- ALM_DISC_ERR.VALUE (R117). -/
abbrev f_ALM_DISC_ERR_VALUE : Fld := ⟨0x40050030, 0, 16⟩
/-- ALM_DISC_STEER.VALUE (R117). -/
abbrev f_ALM_DISC_STEER_VALUE : Fld := ⟨0x40050034, 0, 16⟩
/-- ALM_EPOCH_UTC_HI.VALUE (R117). -/
abbrev f_ALM_EPOCH_UTC_HI_VALUE : Fld := ⟨0x4005001c, 0, 32⟩
/-- ALM_EPOCH_UTC_LO.VALUE (R117). -/
abbrev f_ALM_EPOCH_UTC_LO_VALUE : Fld := ⟨0x40050018, 0, 32⟩
/-- ALM_IRQ.DISC_LOST (R117). -/
abbrev f_ALM_IRQ_DISC_LOST : Fld := ⟨0x40050028, 3, 1⟩
/-- ALM_IRQ_EN.DISC_LOST (R117). -/
abbrev f_ALM_IRQ_EN_DISC_LOST : Fld := ⟨0x4005002c, 3, 1⟩
/-- ALM_IRQ_EN.EXPIRY (R117). -/
abbrev f_ALM_IRQ_EN_EXPIRY : Fld := ⟨0x4005002c, 1, 1⟩
/-- ALM_IRQ_EN.LATE (R117). -/
abbrev f_ALM_IRQ_EN_LATE : Fld := ⟨0x4005002c, 0, 1⟩
/-- ALM_IRQ_EN.LQ_LOST (R117). -/
abbrev f_ALM_IRQ_EN_LQ_LOST : Fld := ⟨0x4005002c, 5, 1⟩
/-- ALM_IRQ_EN.LQ_OVF (R117). -/
abbrev f_ALM_IRQ_EN_LQ_OVF : Fld := ⟨0x4005002c, 4, 1⟩
/-- ALM_IRQ_EN.TIME_STEP (R117). -/
abbrev f_ALM_IRQ_EN_TIME_STEP : Fld := ⟨0x4005002c, 2, 1⟩
/-- ALM_IRQ.EXPIRY (R117). -/
abbrev f_ALM_IRQ_EXPIRY : Fld := ⟨0x40050028, 1, 1⟩
/-- ALM_IRQ.LATE (R117). -/
abbrev f_ALM_IRQ_LATE : Fld := ⟨0x40050028, 0, 1⟩
/-- ALM_IRQ.LQ_LOST (R117). -/
abbrev f_ALM_IRQ_LQ_LOST : Fld := ⟨0x40050028, 5, 1⟩
/-- ALM_IRQ.LQ_OVF (R117). -/
abbrev f_ALM_IRQ_LQ_OVF : Fld := ⟨0x40050028, 4, 1⟩
/-- ALM_IRQ.TIME_STEP (R117). -/
abbrev f_ALM_IRQ_TIME_STEP : Fld := ⟨0x40050028, 2, 1⟩
/-- ALM_LATE_COUNT.COUNT (R117). -/
abbrev f_ALM_LATE_COUNT_COUNT : Fld := ⟨0x40050040, 0, 32⟩
/-- ALM_LQ_ACK.COUNT (R117). -/
abbrev f_ALM_LQ_ACK_COUNT : Fld := ⟨0x40050024, 0, 11⟩
/-- ALM_LQ_STATUS.DEPTH (R117). -/
abbrev f_ALM_LQ_STATUS_DEPTH : Fld := ⟨0x40050020, 0, 13⟩
/-- ALM_LQ_STATUS.LOST (R117). -/
abbrev f_ALM_LQ_STATUS_LOST : Fld := ⟨0x40050020, 24, 8⟩
/-- ALM_LQ_STATUS.OVF (R117). -/
abbrev f_ALM_LQ_STATUS_OVF : Fld := ⟨0x40050020, 13, 11⟩
/-- ALM_NOW_HI.VALUE (R117). -/
abbrev f_ALM_NOW_HI_VALUE : Fld := ⟨0x4005000c, 0, 32⟩
/-- ALM_NOW_LO.VALUE (R117). -/
abbrev f_ALM_NOW_LO_VALUE : Fld := ⟨0x40050008, 0, 32⟩
/-- ALM_SRC_CFG.BOUND (R117). -/
abbrev f_ALM_SRC_CFG_BOUND (s : Nat) : Fld := ⟨0x40050100 + 16 * s, 0, 10⟩
/-- ALM_SRC_CFG.MEMBER (R117). -/
abbrev f_ALM_SRC_CFG_MEMBER (s : Nat) : Fld := ⟨0x40050100 + 16 * s, 31, 1⟩
/-- ALM_SRC_EXPIRED.COUNT (R117). -/
abbrev f_ALM_SRC_EXPIRED_COUNT (s : Nat) : Fld := ⟨0x4005010c + 16 * s, 0, 32⟩
/-- ALM_SRC_HZN_HI.HZN (R117). -/
abbrev f_ALM_SRC_HZN_HI_HZN (s : Nat) : Fld := ⟨0x40050108 + 16 * s, 0, 32⟩
/-- ALM_SRC_HZN_LO.HZN (R117). -/
abbrev f_ALM_SRC_HZN_LO_HZN (s : Nat) : Fld := ⟨0x40050104 + 16 * s, 0, 32⟩
/-- ALM_STALE.COUNT (R117). -/
abbrev f_ALM_STALE_COUNT : Fld := ⟨0x4005003c, 0, 32⟩
/-- ALM_STATUS.CHAN (R117). -/
abbrev f_ALM_STATUS_CHAN : Fld := ⟨0x40050004, 1, 1⟩
/-- ALM_STATUS.DISC_HOLDOVER (R117). -/
abbrev f_ALM_STATUS_DISC_HOLDOVER : Fld := ⟨0x40050004, 4, 1⟩
/-- ALM_STATUS.DISC_LOCK (R117). -/
abbrev f_ALM_STATUS_DISC_LOCK : Fld := ⟨0x40050004, 3, 1⟩
/-- ALM_STATUS.EXPIRED (R117). -/
abbrev f_ALM_STATUS_EXPIRED : Fld := ⟨0x40050004, 16, 9⟩
/-- ALM_STATUS.RUN (R117). -/
abbrev f_ALM_STATUS_RUN : Fld := ⟨0x40050004, 0, 1⟩
/-- ALM_STATUS.SLEWING (R117). -/
abbrev f_ALM_STATUS_SLEWING : Fld := ⟨0x40050004, 5, 1⟩
/-- ALM_STATUS.TIME_SUSPECT (R117). -/
abbrev f_ALM_STATUS_TIME_SUSPECT : Fld := ⟨0x40050004, 2, 1⟩
/-- ALM_WM_HI.VALUE (R117). -/
abbrev f_ALM_WM_HI_VALUE : Fld := ⟨0x40050014, 0, 32⟩
/-- ALM_WM_LO.VALUE (R117). -/
abbrev f_ALM_WM_LO_VALUE : Fld := ⟨0x40050010, 0, 32⟩
/-- ASM_CTRL.CLRCNT (R501). -/
abbrev f_ASM_CTRL_CLRCNT : Fld := ⟨0x401f0000, 3, 1⟩
/-- ASM_CTRL.LOCK (R501). -/
abbrev f_ASM_CTRL_LOCK : Fld := ⟨0x401f0000, 31, 1⟩
/-- ASM_CTRL.PROMOTE_EN (R501). -/
abbrev f_ASM_CTRL_PROMOTE_EN : Fld := ⟨0x401f0000, 2, 1⟩
/-- ASM_DEPUTY.DEVICE (R501). -/
abbrev f_ASM_DEPUTY_DEVICE : Fld := ⟨0x401f000c, 0, 7⟩
/-- ASM_IRQ.CONFLICT (R501). -/
abbrev f_ASM_IRQ_CONFLICT : Fld := ⟨0x401f002c, 4, 1⟩
/-- ASM_IRQ.DEMOTED (R501). -/
abbrev f_ASM_IRQ_DEMOTED : Fld := ⟨0x401f002c, 3, 1⟩
/-- ASM_IRQ_EN.CONFLICT (R501). -/
abbrev f_ASM_IRQ_EN_CONFLICT : Fld := ⟨0x401f0030, 4, 1⟩
/-- ASM_IRQ_EN.DEMOTED (R501). -/
abbrev f_ASM_IRQ_EN_DEMOTED : Fld := ⟨0x401f0030, 3, 1⟩
/-- ASM_IRQ_EN.LOSS (R501). -/
abbrev f_ASM_IRQ_EN_LOSS : Fld := ⟨0x401f0030, 1, 1⟩
/-- ASM_IRQ_EN.PROMOTED (R501). -/
abbrev f_ASM_IRQ_EN_PROMOTED : Fld := ⟨0x401f0030, 2, 1⟩
/-- ASM_IRQ_EN.WORKER (R501). -/
abbrev f_ASM_IRQ_EN_WORKER : Fld := ⟨0x401f0030, 0, 1⟩
/-- ASM_IRQ.LOSS (R501). -/
abbrev f_ASM_IRQ_LOSS : Fld := ⟨0x401f002c, 1, 1⟩
/-- ASM_IRQ.PROMOTED (R501). -/
abbrev f_ASM_IRQ_PROMOTED : Fld := ⟨0x401f002c, 2, 1⟩
/-- ASM_IRQ.WORKER (R501). -/
abbrev f_ASM_IRQ_WORKER : Fld := ⟨0x401f002c, 0, 1⟩
/-- ASM_LOSS_STAMP_HI.VALUE (R501). -/
abbrev f_ASM_LOSS_STAMP_HI_VALUE : Fld := ⟨0x401f0028, 0, 32⟩
/-- ASM_LOSS_STAMP_LO.VALUE (R501). -/
abbrev f_ASM_LOSS_STAMP_LO_VALUE : Fld := ⟨0x401f0024, 0, 32⟩
/-- ASM_MERGED.VALUE (R501). -/
abbrev f_ASM_MERGED_VALUE : Fld := ⟨0x401f0018, 0, 32⟩
/-- ASM_PRESENT_HI.VALUE (R501). -/
abbrev f_ASM_PRESENT_HI_VALUE : Fld := ⟨0x401f0014, 0, 32⟩
/-- ASM_PRESENT_LO.VALUE (R501). -/
abbrev f_ASM_PRESENT_LO_VALUE : Fld := ⟨0x401f0010, 0, 32⟩
/-- ASM_REFUSED.VALUE (R501). -/
abbrev f_ASM_REFUSED_VALUE : Fld := ⟨0x401f0020, 0, 32⟩
/-- ASM_SEAL_REQS.VALUE (R501). -/
abbrev f_ASM_SEAL_REQS_VALUE : Fld := ⟨0x401f001c, 0, 32⟩
/-- ASM_STATUS.ADOPT_PEND (R501). -/
abbrev f_ASM_STATUS_ADOPT_PEND : Fld := ⟨0x401f0004, 26, 1⟩
/-- ASM_STATUS.CEDED (R501). -/
abbrev f_ASM_STATUS_CEDED : Fld := ⟨0x401f0004, 27, 1⟩
/-- ASM_STATUS.CONFLICT (R501). -/
abbrev f_ASM_STATUS_CONFLICT : Fld := ⟨0x401f0004, 25, 1⟩
/-- ASM_STATUS.DEMOTED (R501). -/
abbrev f_ASM_STATUS_DEMOTED : Fld := ⟨0x401f0004, 29, 1⟩
/-- ASM_STATUS.DEPUTY (R501). -/
abbrev f_ASM_STATUS_DEPUTY : Fld := ⟨0x401f0004, 28, 1⟩
/-- ASM_STATUS.DEVICE (R501). -/
abbrev f_ASM_STATUS_DEVICE : Fld := ⟨0x401f0004, 0, 7⟩
/-- ASM_STATUS.MISPLACED (R501). -/
abbrev f_ASM_STATUS_MISPLACED : Fld := ⟨0x401f0004, 24, 1⟩
/-- ASM_STATUS.ROLE (R501). -/
abbrev f_ASM_STATUS_ROLE : Fld := ⟨0x401f0004, 30, 2⟩
/-- ASM_STATUS.STRAP (R501). -/
abbrev f_ASM_STATUS_STRAP : Fld := ⟨0x401f0004, 16, 2⟩
/-- ASM_TERM.VALUE (R501). -/
abbrev f_ASM_TERM_VALUE : Fld := ⟨0x401f0008, 0, 32⟩
/-- BIST_CTRL.CLRCNT (R548). -/
abbrev f_BIST_CTRL_CLRCNT : Fld := ⟨0x40180000, 0, 1⟩
/-- BIST_FUSEREP.VALUE (R548). -/
abbrev f_BIST_FUSEREP_VALUE : Fld := ⟨0x4018000c, 0, 32⟩
/-- BIST_IRQ.DONE (R548). -/
abbrev f_BIST_IRQ_DONE : Fld := ⟨0x40180010, 0, 1⟩
/-- BIST_IRQ_EN.DONE (R548). -/
abbrev f_BIST_IRQ_EN_DONE : Fld := ⟨0x40180014, 0, 1⟩
/-- BIST_IRQ_EN.FAIL (R548). -/
abbrev f_BIST_IRQ_EN_FAIL : Fld := ⟨0x40180014, 1, 1⟩
/-- BIST_IRQ_EN.UNREPAIRABLE (R548). -/
abbrev f_BIST_IRQ_EN_UNREPAIRABLE : Fld := ⟨0x40180014, 2, 1⟩
/-- BIST_IRQ.FAIL (R548). -/
abbrev f_BIST_IRQ_FAIL : Fld := ⟨0x40180010, 1, 1⟩
/-- BIST_IRQ.UNREPAIRABLE (R548). -/
abbrev f_BIST_IRQ_UNREPAIRABLE : Fld := ⟨0x40180010, 2, 1⟩
/-- BIST_LAST.VALUE (R548). -/
abbrev f_BIST_LAST_VALUE (i : Nat) : Fld := ⟨0x40180020 + 4 * i, 0, 32⟩
/-- BIST_SOFTREP.VALUE (R548). -/
abbrev f_BIST_SOFTREP_VALUE : Fld := ⟨0x40180008, 0, 32⟩
/-- BIST_STATUS.BUSY (R548). -/
abbrev f_BIST_STATUS_BUSY : Fld := ⟨0x40180004, 0, 1⟩
/-- BIST_STATUS.FULL (R548). -/
abbrev f_BIST_STATUS_FULL : Fld := ⟨0x40180004, 1, 1⟩
/-- BIST_STATUS.RUN (R548). -/
abbrev f_BIST_STATUS_RUN : Fld := ⟨0x40180004, 16, 16⟩
/-- BIST_STATUS.TEST (R548). -/
abbrev f_BIST_STATUS_TEST : Fld := ⟨0x40180004, 8, 8⟩
/-- CB_AAD.VALUE (R408). -/
abbrev f_CB_AAD_VALUE (b : Nat) : Fld := ⟨0x40110018 + 65536 * b, 0, 32⟩
/-- CB_CLAIM.WORLD (R408). -/
abbrev f_CB_CLAIM_WORLD (b : Nat) : Fld := ⟨0x40110000 + 65536 * b, 0, 2⟩
/-- CB_CMD.BUSY (R408). -/
abbrev f_CB_CMD_BUSY (b : Nat) : Fld := ⟨0x40110008 + 65536 * b, 30, 1⟩
/-- CB_CMD.FUNC (R408). -/
abbrev f_CB_CMD_FUNC (b : Nat) : Fld := ⟨0x40110008 + 65536 * b, 0, 8⟩
/-- CB_CMD.GO (R408). -/
abbrev f_CB_CMD_GO (b : Nat) : Fld := ⟨0x40110008 + 65536 * b, 31, 1⟩
/-- CB_DST.VALUE (R408). -/
abbrev f_CB_DST_VALUE (b : Nat) : Fld := ⟨0x40110010 + 65536 * b, 0, 32⟩
/-- CB_IRQ_EN.IRQ_EN (R408). -/
abbrev f_CB_IRQ_EN_IRQ_EN (b : Nat) : Fld := ⟨0x40110024 + 65536 * b, 0, 2⟩
/-- CB_IRQ.IRQ (R408). -/
abbrev f_CB_IRQ_IRQ (b : Nat) : Fld := ⟨0x40110020 + 65536 * b, 0, 2⟩
/-- CB_IV.VALUE (R408). -/
abbrev f_CB_IV_VALUE (b i : Nat) : Fld := ⟨0x40110040 + 65536 * b + 4 * i, 0, 32⟩
/-- CB_KEYSRC.SLOT (R408). -/
abbrev f_CB_KEYSRC_SLOT (b : Nat) : Fld := ⟨0x40110004 + 65536 * b, 0, 6⟩
/-- CB_KEYSRC.VALID (R408). -/
abbrev f_CB_KEYSRC_VALID (b : Nat) : Fld := ⟨0x40110004 + 65536 * b, 31, 1⟩
/-- CB_LEN.VALUE (R408). -/
abbrev f_CB_LEN_VALUE (b : Nat) : Fld := ⟨0x40110014 + 65536 * b, 0, 32⟩
/-- CB_RESULT.VALUE (R408). -/
abbrev f_CB_RESULT_VALUE (b : Nat) : Fld := ⟨0x4011001c + 65536 * b, 0, 32⟩
/-- CB_SRC.VALUE (R408). -/
abbrev f_CB_SRC_VALUE (b : Nat) : Fld := ⟨0x4011000c + 65536 * b, 0, 32⟩
/-- CEL_BCOUNT_HI.VALUE (R381). -/
abbrev f_CEL_BCOUNT_HI_VALUE : Fld := ⟨0x5018000c, 0, 16⟩
/-- CEL_BCOUNT_LO.VALUE (R381). -/
abbrev f_CEL_BCOUNT_LO_VALUE : Fld := ⟨0x50180008, 0, 32⟩
/-- CEL_CTRL.CLRCNT (R381). -/
abbrev f_CEL_CTRL_CLRCNT : Fld := ⟨0x50180000, 1, 1⟩
/-- CEL_CTRL.INC_CLOSE (R381). -/
abbrev f_CEL_CTRL_INC_CLOSE : Fld := ⟨0x50180000, 0, 1⟩
/-- CEL_DISCARDED.VALUE (R381). -/
abbrev f_CEL_DISCARDED_VALUE : Fld := ⟨0x50180020, 0, 32⟩
/-- CEL_DROPPED.VALUE (R381). -/
abbrev f_CEL_DROPPED_VALUE : Fld := ⟨0x50180028, 0, 32⟩
/-- CEL_HEAD.VALUE (R381). -/
abbrev f_CEL_HEAD_VALUE (i : Nat) : Fld := ⟨0x50180040 + 4 * i, 0, 32⟩
/-- CEL_INCIDENT.COUNT (R381). -/
abbrev f_CEL_INCIDENT_COUNT : Fld := ⟨0x50180014, 16, 16⟩
/-- CEL_INCIDENT.NUMBER (R381). -/
abbrev f_CEL_INCIDENT_NUMBER : Fld := ⟨0x50180014, 0, 16⟩
/-- CEL_NEXT_ENO.VALUE (R381). -/
abbrev f_CEL_NEXT_ENO_VALUE : Fld := ⟨0x50180010, 0, 32⟩
/-- CEL_REPAIRED.VALUE (R381). -/
abbrev f_CEL_REPAIRED_VALUE : Fld := ⟨0x50180024, 0, 32⟩
/-- CEL_STATUS.BCLOST (R381). -/
abbrev f_CEL_STATUS_BCLOST : Fld := ⟨0x50180004, 3, 1⟩
/-- CEL_STATUS.MAIN (R381). -/
abbrev f_CEL_STATUS_MAIN : Fld := ⟨0x50180004, 0, 1⟩
/-- CEL_STATUS.QDEPTH (R381). -/
abbrev f_CEL_STATUS_QDEPTH : Fld := ⟨0x50180004, 4, 5⟩
/-- CEL_STATUS.QLATCH (R381). -/
abbrev f_CEL_STATUS_QLATCH : Fld := ⟨0x50180004, 2, 1⟩
/-- CEL_STATUS.SCANNING (R381). -/
abbrev f_CEL_STATUS_SCANNING : Fld := ⟨0x50180004, 9, 1⟩
/-- CEL_STATUS.VRES_OK (R381). -/
abbrev f_CEL_STATUS_VRES_OK : Fld := ⟨0x50180004, 1, 1⟩
/-- CEL_VRES.MV (R381). -/
abbrev f_CEL_VRES_MV : Fld := ⟨0x5018002c, 0, 13⟩
/-- CEL_WBUF.VALUE (R381). -/
abbrev f_CEL_WBUF_VALUE (i : Nat) : Fld := ⟨0x50180100 + 4 * i, 0, 32⟩
/-- CEL_WCMD.CONT (R381). -/
abbrev f_CEL_WCMD_CONT : Fld := ⟨0x50180018, 1, 1⟩
/-- CEL_WCMD.GO (R381). -/
abbrev f_CEL_WCMD_GO : Fld := ⟨0x50180018, 31, 1⟩
/-- CEL_WCMD.INC (R381). -/
abbrev f_CEL_WCMD_INC : Fld := ⟨0x50180018, 0, 1⟩
/-- CEL_WRESULT.STATUS (R381). -/
abbrev f_CEL_WRESULT_STATUS : Fld := ⟨0x5018001c, 0, 16⟩
/-- CEL_WRESULT.VALID (R381). -/
abbrev f_CEL_WRESULT_VALID : Fld := ⟨0x5018001c, 31, 1⟩
/-- CMD_CTRL.CLRCNT (R448). -/
abbrev f_CMD_CTRL_CLRCNT : Fld := ⟨0x40190000, 2, 1⟩
/-- CMD_CTRL.DIAG_EN (R448). -/
abbrev f_CMD_CTRL_DIAG_EN : Fld := ⟨0x40190000, 1, 1⟩
/-- CMD_CTRL.EN (R448). -/
abbrev f_CMD_CTRL_EN : Fld := ⟨0x40190000, 0, 1⟩
/-- CMD_CTRL.LOCK (R448). -/
abbrev f_CMD_CTRL_LOCK : Fld := ⟨0x40190000, 31, 1⟩
/-- CMD_IDLE.IDLE (R448). -/
abbrev f_CMD_IDLE_IDLE : Fld := ⟨0x40190008, 0, 32⟩
/-- CMD_IRQ.CLOSED (R448). -/
abbrev f_CMD_IRQ_CLOSED (w : Nat) : Fld := ⟨0x40190018 + 4 * w, 3, 1⟩
/-- CMD_IRQ.CMD (R448). -/
abbrev f_CMD_IRQ_CMD (w : Nat) : Fld := ⟨0x40190018 + 4 * w, 0, 1⟩
/-- CMD_IRQ_EN.CLOSED (R448). -/
abbrev f_CMD_IRQ_EN_CLOSED (w : Nat) : Fld := ⟨0x40190020 + 4 * w, 3, 1⟩
/-- CMD_IRQ_EN.CMD (R448). -/
abbrev f_CMD_IRQ_EN_CMD (w : Nat) : Fld := ⟨0x40190020 + 4 * w, 0, 1⟩
/-- CMD_IRQ_EN.QUEUE (R448). -/
abbrev f_CMD_IRQ_EN_QUEUE (w : Nat) : Fld := ⟨0x40190020 + 4 * w, 2, 1⟩
/-- CMD_IRQ_EN.TAGFAIL (R448). -/
abbrev f_CMD_IRQ_EN_TAGFAIL (w : Nat) : Fld := ⟨0x40190020 + 4 * w, 1, 1⟩
/-- CMD_IRQ.QUEUE (R448). -/
abbrev f_CMD_IRQ_QUEUE (w : Nat) : Fld := ⟨0x40190018 + 4 * w, 2, 1⟩
/-- CMD_IRQ.TAGFAIL (R448). -/
abbrev f_CMD_IRQ_TAGFAIL (w : Nat) : Fld := ⟨0x40190018 + 4 * w, 1, 1⟩
/-- CMD_OPAUTH.VALUE (R448). -/
abbrev f_CMD_OPAUTH_VALUE (i : Nat) : Fld := ⟨0x40190080 + 4 * i, 0, 32⟩
/-- CMD_QBASE.VALUE (R448). -/
abbrev f_CMD_QBASE_VALUE (w : Nat) : Fld := ⟨0x401900c0 + 16 * w, 0, 32⟩
/-- CMD_QHEAD.VALUE (R448). -/
abbrev f_CMD_QHEAD_VALUE (w : Nat) : Fld := ⟨0x401900c4 + 16 * w, 0, 32⟩
/-- CMD_REFUSED.VALUE (R448). -/
abbrev f_CMD_REFUSED_VALUE : Fld := ⟨0x40190014, 0, 32⟩
/-- CMD_REPLAYS.VALUE (R448). -/
abbrev f_CMD_REPLAYS_VALUE : Fld := ⟨0x40190010, 0, 32⟩
/-- CMD_RPLY_ADDR.VALUE (R448). -/
abbrev f_CMD_RPLY_ADDR_VALUE (w : Nat) : Fld := ⟨0x401900c8 + 16 * w, 0, 32⟩
/-- CMD_RPLY_CTL.GO (R448). -/
abbrev f_CMD_RPLY_CTL_GO (w : Nat) : Fld := ⟨0x401900cc + 16 * w, 31, 1⟩
/-- CMD_RPLY_CTL.INDEX (R448). -/
abbrev f_CMD_RPLY_CTL_INDEX (w : Nat) : Fld := ⟨0x401900cc + 16 * w, 17, 7⟩
/-- CMD_RPLY_CTL.INTERIM (R448). -/
abbrev f_CMD_RPLY_CTL_INTERIM (w : Nat) : Fld := ⟨0x401900cc + 16 * w, 30, 1⟩
/-- CMD_RPLY_CTL.LEN (R448). -/
abbrev f_CMD_RPLY_CTL_LEN (w : Nat) : Fld := ⟨0x401900cc + 16 * w, 0, 17⟩
/-- CMD_SESS.IDLE (R448). -/
abbrev f_CMD_SESS_IDLE (s : Nat) : Fld := ⟨0x40190040 + 8 * s, 0, 16⟩
/-- CMD_SESS.OUTST (R448). -/
abbrev f_CMD_SESS_OUTST (s : Nat) : Fld := ⟨0x40190040 + 8 * s, 20, 7⟩
/-- CMD_SESS_SEQ.VALUE (R448). -/
abbrev f_CMD_SESS_SEQ_VALUE (s : Nat) : Fld := ⟨0x40190044 + 8 * s, 0, 32⟩
/-- CMD_SESS.TAGF (R448). -/
abbrev f_CMD_SESS_TAGF (s : Nat) : Fld := ⟨0x40190040 + 8 * s, 16, 4⟩
/-- CMD_SESS.TRANSPORT (R448). -/
abbrev f_CMD_SESS_TRANSPORT (s : Nat) : Fld := ⟨0x40190040 + 8 * s, 27, 3⟩
/-- CMD_SESS.WORLD (R448). -/
abbrev f_CMD_SESS_WORLD (s : Nat) : Fld := ⟨0x40190040 + 8 * s, 30, 2⟩
/-- CMD_STATUS.OPEN (R448). -/
abbrev f_CMD_STATUS_OPEN : Fld := ⟨0x40190004, 0, 8⟩
/-- CMD_STATUS.PARTSIG (R448). -/
abbrev f_CMD_STATUS_PARTSIG : Fld := ⟨0x40190004, 16, 8⟩
/-- CMD_STATUS.PENDING (R448). -/
abbrev f_CMD_STATUS_PENDING : Fld := ⟨0x40190004, 8, 8⟩
/-- CMD_TAGFAIL.VALUE (R448). -/
abbrev f_CMD_TAGFAIL_VALUE : Fld := ⟨0x4019000c, 0, 32⟩
/-- CORE_CTRL.CLRCNT (R317). -/
abbrev f_CORE_CTRL_CLRCNT : Fld := ⟨0x400e0000, 0, 1⟩
/-- CORE_CTRL.LOCK (R317). -/
abbrev f_CORE_CTRL_LOCK : Fld := ⟨0x400e0000, 31, 1⟩
/-- CORE_GATE_REFUSED.COUNT (R317). -/
abbrev f_CORE_GATE_REFUSED_COUNT : Fld := ⟨0x400e0018, 0, 32⟩
/-- CORE_GATE.VALUE (R317). -/
abbrev f_CORE_GATE_VALUE (g w : Nat) : Fld := ⟨0x400e8000 + 64 * g + 4 * w, 0, 32⟩
/-- CORE_HOLD_LAST.CTX (R317). -/
abbrev f_CORE_HOLD_LAST_CTX : Fld := ⟨0x400e0010, 0, 3⟩
/-- CORE_HOLD_LAST.LEN (R317). -/
abbrev f_CORE_HOLD_LAST_LEN : Fld := ⟨0x400e0010, 16, 12⟩
/-- CORE_HOLD_LAST.PAIR (R317). -/
abbrev f_CORE_HOLD_LAST_PAIR : Fld := ⟨0x400e0010, 4, 1⟩
/-- CORE_HOLD_OVR.COUNT (R317). -/
abbrev f_CORE_HOLD_OVR_COUNT : Fld := ⟨0x400e000c, 0, 32⟩
/-- CORE_HOLD_PC.ADDR (R317). -/
abbrev f_CORE_HOLD_PC_ADDR : Fld := ⟨0x400e0014, 0, 32⟩
/-- CORE_IEN_HI.LINES (R317). -/
abbrev f_CORE_IEN_HI_LINES (w : Nat) : Fld := ⟨0x400e008c + 16 * w, 0, 32⟩
/-- CORE_IEN_LO.LINES (R317). -/
abbrev f_CORE_IEN_LO_LINES (w : Nat) : Fld := ⟨0x400e0088 + 16 * w, 0, 32⟩
/-- CORE_IPEND_HI.LINES (R317). -/
abbrev f_CORE_IPEND_HI_LINES (w : Nat) : Fld := ⟨0x400e0084 + 16 * w, 0, 32⟩
/-- CORE_IPEND_LO.LINES (R317). -/
abbrev f_CORE_IPEND_LO_LINES (w : Nat) : Fld := ⟨0x400e0080 + 16 * w, 0, 32⟩
/-- CORE_IPRI.PRI0 (R317). -/
abbrev f_CORE_IPRI_PRI0 (w i : Nat) : Fld := ⟨0x400e00a0 + 32 * w + 4 * i, 0, 2⟩
/-- CORE_IPRI.PRI1 (R317). -/
abbrev f_CORE_IPRI_PRI1 (w i : Nat) : Fld := ⟨0x400e00a0 + 32 * w + 4 * i, 4, 2⟩
/-- CORE_IPRI.PRI2 (R317). -/
abbrev f_CORE_IPRI_PRI2 (w i : Nat) : Fld := ⟨0x400e00a0 + 32 * w + 4 * i, 8, 2⟩
/-- CORE_IPRI.PRI3 (R317). -/
abbrev f_CORE_IPRI_PRI3 (w i : Nat) : Fld := ⟨0x400e00a0 + 32 * w + 4 * i, 12, 2⟩
/-- CORE_IPRI.PRI4 (R317). -/
abbrev f_CORE_IPRI_PRI4 (w i : Nat) : Fld := ⟨0x400e00a0 + 32 * w + 4 * i, 16, 2⟩
/-- CORE_IPRI.PRI5 (R317). -/
abbrev f_CORE_IPRI_PRI5 (w i : Nat) : Fld := ⟨0x400e00a0 + 32 * w + 4 * i, 20, 2⟩
/-- CORE_IPRI.PRI6 (R317). -/
abbrev f_CORE_IPRI_PRI6 (w i : Nat) : Fld := ⟨0x400e00a0 + 32 * w + 4 * i, 24, 2⟩
/-- CORE_IPRI.PRI7 (R317). -/
abbrev f_CORE_IPRI_PRI7 (w i : Nat) : Fld := ⟨0x400e00a0 + 32 * w + 4 * i, 28, 2⟩
/-- CORE_IRQ_EN.GATE_REFUSED (R317). -/
abbrev f_CORE_IRQ_EN_GATE_REFUSED : Fld := ⟨0x400e0024, 1, 1⟩
/-- CORE_IRQ_EN.HOLD_OVR (R317). -/
abbrev f_CORE_IRQ_EN_HOLD_OVR : Fld := ⟨0x400e0024, 0, 1⟩
/-- CORE_IRQ_EN.PAIR_LOST (R317). -/
abbrev f_CORE_IRQ_EN_PAIR_LOST : Fld := ⟨0x400e0024, 2, 1⟩
/-- CORE_IRQ_EN.WR_REFUSED (R317). -/
abbrev f_CORE_IRQ_EN_WR_REFUSED : Fld := ⟨0x400e0024, 3, 1⟩
/-- CORE_IRQ.GATE_REFUSED (R317). -/
abbrev f_CORE_IRQ_GATE_REFUSED : Fld := ⟨0x400e0020, 1, 1⟩
/-- CORE_IRQ.HOLD_OVR (R317). -/
abbrev f_CORE_IRQ_HOLD_OVR : Fld := ⟨0x400e0020, 0, 1⟩
/-- CORE_IRQ.PAIR_LOST (R317). -/
abbrev f_CORE_IRQ_PAIR_LOST : Fld := ⟨0x400e0020, 2, 1⟩
/-- CORE_IRQ.WR_REFUSED (R317). -/
abbrev f_CORE_IRQ_WR_REFUSED : Fld := ⟨0x400e0020, 3, 1⟩
/-- CORE_RGN_HI.EN (R317). -/
abbrev f_CORE_RGN_HI_EN (c i : Nat) : Fld := ⟨0x400e0104 + 64 * c + 8 * i, 0, 1⟩
/-- CORE_RGN_HI.LAST (R317). -/
abbrev f_CORE_RGN_HI_LAST (c i : Nat) : Fld := ⟨0x400e0104 + 64 * c + 8 * i, 6, 26⟩
/-- CORE_RGN_LO.BASE (R317). -/
abbrev f_CORE_RGN_LO_BASE (c i : Nat) : Fld := ⟨0x400e0100 + 64 * c + 8 * i, 6, 26⟩
/-- CORE_RGN_LO.R (R317). -/
abbrev f_CORE_RGN_LO_R (c i : Nat) : Fld := ⟨0x400e0100 + 64 * c + 8 * i, 0, 1⟩
/-- CORE_RGN_LO.W (R317). -/
abbrev f_CORE_RGN_LO_W (c i : Nat) : Fld := ⟨0x400e0100 + 64 * c + 8 * i, 1, 1⟩
/-- CORE_RGN_LO.X (R317). -/
abbrev f_CORE_RGN_LO_X (c i : Nat) : Fld := ⟨0x400e0100 + 64 * c + 8 * i, 2, 1⟩
/-- CORE_STATUS.CTX0 (R317). -/
abbrev f_CORE_STATUS_CTX0 : Fld := ⟨0x400e0004, 0, 3⟩
/-- CORE_STATUS.CTX1 (R317). -/
abbrev f_CORE_STATUS_CTX1 : Fld := ⟨0x400e0004, 4, 3⟩
/-- CORE_STATUS.P0_LOST (R317). -/
abbrev f_CORE_STATUS_P0_LOST : Fld := ⟨0x400e0004, 9, 1⟩
/-- CORE_STATUS.P1_LOST (R317). -/
abbrev f_CORE_STATUS_P1_LOST : Fld := ⟨0x400e0004, 10, 1⟩
/-- CORE_STATUS.R0FAIL (R317). -/
abbrev f_CORE_STATUS_R0FAIL : Fld := ⟨0x400e0004, 13, 1⟩
/-- CORE_STATUS.SLICE (R317). -/
abbrev f_CORE_STATUS_SLICE : Fld := ⟨0x400e0004, 12, 1⟩
/-- CORE_STATUS.TSHARE (R317). -/
abbrev f_CORE_STATUS_TSHARE : Fld := ⟨0x400e0004, 11, 1⟩
/-- CORE_STATUS.WMODE (R317). -/
abbrev f_CORE_STATUS_WMODE : Fld := ⟨0x400e0004, 8, 1⟩
/-- CORE_TSHARE.CSHARE (R317). -/
abbrev f_CORE_TSHARE_CSHARE : Fld := ⟨0x400e0008, 0, 7⟩
/-- CORE_VEC.ADDR (R317). -/
abbrev f_CORE_VEC_ADDR (x : Nat) : Fld := ⟨0x400e0040 + 4 * x, 3, 29⟩
/-- CORE_WR_REFUSED.COUNT (R317). -/
abbrev f_CORE_WR_REFUSED_COUNT : Fld := ⟨0x400e001c, 0, 32⟩
/-- CORE_XSTK.ADDR (R317). -/
abbrev f_CORE_XSTK_ADDR (x : Nat) : Fld := ⟨0x400e0060 + 4 * x, 3, 29⟩
/-- CPR_CTRL.CLRCNT (R537). -/
abbrev f_CPR_CTRL_CLRCNT : Fld := ⟨0x40010000, 0, 1⟩
/-- CPR_CTRL.LOCK (R537). -/
abbrev f_CPR_CTRL_LOCK : Fld := ⟨0x40010000, 31, 1⟩
/-- CPR_DOM.CLKEN (R537). -/
abbrev f_CPR_DOM_CLKEN (d : Nat) : Fld := ⟨0x40010400 + 4 * d, 0, 1⟩
/-- CPR_DOM.INRESET (R537). -/
abbrev f_CPR_DOM_INRESET (d : Nat) : Fld := ⟨0x40010400 + 4 * d, 9, 1⟩
/-- CPR_DOM.PROT (R537). -/
abbrev f_CPR_DOM_PROT (d : Nat) : Fld := ⟨0x40010400 + 4 * d, 10, 1⟩
/-- CPR_DOM.RST (R537). -/
abbrev f_CPR_DOM_RST (d : Nat) : Fld := ⟨0x40010400 + 4 * d, 1, 1⟩
/-- CPR_DOM.RUNNING (R537). -/
abbrev f_CPR_DOM_RUNNING (d : Nat) : Fld := ⟨0x40010400 + 4 * d, 8, 1⟩
/-- CPR_IRQ_EN.REFUSED (R537). -/
abbrev f_CPR_IRQ_EN_REFUSED : Fld := ⟨0x40010024, 0, 1⟩
/-- CPR_IRQ_EN.WAKE (R537). -/
abbrev f_CPR_IRQ_EN_WAKE : Fld := ⟨0x40010024, 1, 1⟩
/-- CPR_IRQ.REFUSED (R537). -/
abbrev f_CPR_IRQ_REFUSED : Fld := ⟨0x40010020, 0, 1⟩
/-- CPR_IRQ.WAKE (R537). -/
abbrev f_CPR_IRQ_WAKE : Fld := ⟨0x40010020, 1, 1⟩
/-- CPR_LAUNCH_TIME.VALUE (R537). -/
abbrev f_CPR_LAUNCH_TIME_VALUE : Fld := ⟨0x40010014, 0, 32⟩
/-- CPR_REFUSED.VALUE (R537). -/
abbrev f_CPR_REFUSED_VALUE : Fld := ⟨0x4001001c, 0, 32⟩
/-- CPR_RESET.DOMAIN (R537). -/
abbrev f_CPR_RESET_DOMAIN : Fld := ⟨0x4001000c, 0, 9⟩
/-- CPR_RESET.KEY (R537). -/
abbrev f_CPR_RESET_KEY : Fld := ⟨0x4001000c, 24, 8⟩
/-- CPR_RESET.KIND (R537). -/
abbrev f_CPR_RESET_KIND : Fld := ⟨0x4001000c, 16, 2⟩
/-- CPR_RSTCAUSE.KIND (R537). -/
abbrev f_CPR_RSTCAUSE_KIND : Fld := ⟨0x40010008, 0, 2⟩
/-- CPR_RSTCAUSE.RAILS (R537). -/
abbrev f_CPR_RSTCAUSE_RAILS : Fld := ⟨0x40010008, 16, 4⟩
/-- CPR_RSTCAUSE.WCAUSE (R537). -/
abbrev f_CPR_RSTCAUSE_WCAUSE : Fld := ⟨0x40010008, 8, 4⟩
/-- CPR_START_TO.VALUE (R537). -/
abbrev f_CPR_START_TO_VALUE : Fld := ⟨0x40010010, 0, 32⟩
/-- CPR_STATUS.DQUEUE (R537). -/
abbrev f_CPR_STATUS_DQUEUE : Fld := ⟨0x40010004, 9, 1⟩
/-- CPR_STATUS.DWAIT (R537). -/
abbrev f_CPR_STATUS_DWAIT : Fld := ⟨0x40010004, 8, 1⟩
/-- CPR_STATUS.LPLL_LOCK (R537). -/
abbrev f_CPR_STATUS_LPLL_LOCK : Fld := ⟨0x40010004, 1, 1⟩
/-- CPR_STATUS.ON_XTAL (R537). -/
abbrev f_CPR_STATUS_ON_XTAL : Fld := ⟨0x40010004, 2, 1⟩
/-- CPR_STATUS.PWR_EN (R537). -/
abbrev f_CPR_STATUS_PWR_EN : Fld := ⟨0x40010004, 26, 1⟩
/-- CPR_STATUS.RPLL_LOCK (R537). -/
abbrev f_CPR_STATUS_RPLL_LOCK : Fld := ⟨0x40010004, 0, 1⟩
/-- CPR_STATUS.STAGE (R537). -/
abbrev f_CPR_STATUS_STAGE : Fld := ⟨0x40010004, 29, 3⟩
/-- CPR_STATUS.STARTFAIL (R537). -/
abbrev f_CPR_STATUS_STARTFAIL : Fld := ⟨0x40010004, 27, 2⟩
/-- CPR_STATUS.XTAL_OK (R537). -/
abbrev f_CPR_STATUS_XTAL_OK : Fld := ⟨0x40010004, 3, 1⟩
/-- CPR_WARMCNT.VALUE (R537). -/
abbrev f_CPR_WARMCNT_VALUE : Fld := ⟨0x40010018, 0, 32⟩
/-- CUL_CTRL.CLRCNT (R409). -/
abbrev f_CUL_CTRL_CLRCNT : Fld := ⟨0x40160000, 0, 1⟩
/-- CUL_IRQ_EN.IRQ_EN (R409). -/
abbrev f_CUL_IRQ_EN_IRQ_EN : Fld := ⟨0x40160084, 0, 3⟩
/-- CUL_IRQ.IRQ (R409). -/
abbrev f_CUL_IRQ_IRQ : Fld := ⟨0x40160080, 0, 3⟩
/-- CUL_RNG.VALUE (R409). -/
abbrev f_CUL_RNG_VALUE (w : Nat) : Fld := ⟨0x40160020 + 4 * w, 0, 32⟩
/-- CUL_SRC_STAT.APT (R409). -/
abbrev f_CUL_SRC_STAT_APT (s : Nat) : Fld := ⟨0x40160008 + 4 * s, 16, 16⟩
/-- CUL_SRC_STAT.RCT (R409). -/
abbrev f_CUL_SRC_STAT_RCT (s : Nat) : Fld := ⟨0x40160008 + 4 * s, 0, 16⟩
/-- CUL_STATUS.EXCLUDED (R409). -/
abbrev f_CUL_STATUS_EXCLUDED : Fld := ⟨0x40160004, 4, 3⟩
/-- CUL_STATUS.HEALTHY (R409). -/
abbrev f_CUL_STATUS_HEALTHY : Fld := ⟨0x40160004, 0, 3⟩
/-- CUL_STATUS.NOSEED (R409). -/
abbrev f_CUL_STATUS_NOSEED : Fld := ⟨0x40160004, 8, 1⟩
/-- CUL_STATUS.STALL (R409). -/
abbrev f_CUL_STATUS_STALL : Fld := ⟨0x40160004, 9, 1⟩
/-- CUL_VRNG.VALUE (R409). -/
abbrev f_CUL_VRNG_VALUE (v : Nat) : Fld := ⟨0x40160040 + 4 * v, 0, 32⟩
/-- DEV_BEHAVIOUR.ACTIVE (R502). -/
abbrev f_DEV_BEHAVIOUR_ACTIVE : Fld := ⟨0x40000010, 8, 8⟩
/-- DEV_BEHAVIOUR.LEVEL (R502). -/
abbrev f_DEV_BEHAVIOUR_LEVEL : Fld := ⟨0x40000010, 0, 8⟩
/-- DEV_BEHAVIOUR.MOVESET (R502). -/
abbrev f_DEV_BEHAVIOUR_MOVESET : Fld := ⟨0x40000010, 16, 8⟩
/-- FLC_ADDR.VALUE (R361). -/
abbrev f_FLC_ADDR_VALUE : Fld := ⟨0x400f000c, 0, 32⟩
/-- FLC_BANK.RELEASE (R361). -/
abbrev f_FLC_BANK_RELEASE : Fld := ⟨0x400f0020, 8, 8⟩
/-- FLC_BANK.UNSETTLED (R361). -/
abbrev f_FLC_BANK_UNSETTLED : Fld := ⟨0x400f0020, 0, 8⟩
/-- FLC_CMD.BUSY (R361). -/
abbrev f_FLC_CMD_BUSY : Fld := ⟨0x400f0008, 30, 1⟩
/-- FLC_CMD.GO (R361). -/
abbrev f_FLC_CMD_GO : Fld := ⟨0x400f0008, 31, 1⟩
/-- FLC_CMD.MARGIN (R361). -/
abbrev f_FLC_CMD_MARGIN : Fld := ⟨0x400f0008, 10, 2⟩
/-- FLC_CMD.OP (R361). -/
abbrev f_FLC_CMD_OP : Fld := ⟨0x400f0008, 0, 4⟩
/-- FLC_CTRL.CLRCNT (R361). -/
abbrev f_FLC_CTRL_CLRCNT : Fld := ⟨0x400f0000, 8, 1⟩
/-- FLC_CTRL.LOCK (R361). -/
abbrev f_FLC_CTRL_LOCK : Fld := ⟨0x400f0000, 31, 1⟩
/-- FLC_CTRL.PROT (R361). -/
abbrev f_FLC_CTRL_PROT : Fld := ⟨0x400f0000, 0, 8⟩
/-- FLC_ECC_CE.VALUE (R361). -/
abbrev f_FLC_ECC_CE_VALUE : Fld := ⟨0x400f002c, 0, 32⟩
/-- FLC_ECC_UE.VALUE (R361). -/
abbrev f_FLC_ECC_UE_VALUE : Fld := ⟨0x400f0030, 0, 32⟩
/-- FLC_FAILADDR.VALUE (R361). -/
abbrev f_FLC_FAILADDR_VALUE : Fld := ⟨0x400f001c, 0, 32⟩
/-- FLC_IMGVER.VALUE (R361). -/
abbrev f_FLC_IMGVER_VALUE : Fld := ⟨0x400f0028, 0, 32⟩
/-- FLC_IRQ.DONE (R361). -/
abbrev f_FLC_IRQ_DONE : Fld := ⟨0x400f0040, 0, 1⟩
/-- FLC_IRQ_EN.DONE (R361). -/
abbrev f_FLC_IRQ_EN_DONE : Fld := ⟨0x400f0044, 0, 1⟩
/-- FLC_IRQ_EN.REFUSED (R361). -/
abbrev f_FLC_IRQ_EN_REFUSED : Fld := ⟨0x400f0044, 1, 1⟩
/-- FLC_IRQ_EN.UE (R361). -/
abbrev f_FLC_IRQ_EN_UE : Fld := ⟨0x400f0044, 4, 1⟩
/-- FLC_IRQ_EN.UNSETTLED (R361). -/
abbrev f_FLC_IRQ_EN_UNSETTLED : Fld := ⟨0x400f0044, 3, 1⟩
/-- FLC_IRQ_EN.VERIFY_FAIL (R361). -/
abbrev f_FLC_IRQ_EN_VERIFY_FAIL : Fld := ⟨0x400f0044, 2, 1⟩
/-- FLC_IRQ.REFUSED (R361). -/
abbrev f_FLC_IRQ_REFUSED : Fld := ⟨0x400f0040, 1, 1⟩
/-- FLC_IRQ.UE (R361). -/
abbrev f_FLC_IRQ_UE : Fld := ⟨0x400f0040, 4, 1⟩
/-- FLC_IRQ.UNSETTLED (R361). -/
abbrev f_FLC_IRQ_UNSETTLED : Fld := ⟨0x400f0040, 3, 1⟩
/-- FLC_IRQ.VERIFY_FAIL (R361). -/
abbrev f_FLC_IRQ_VERIFY_FAIL : Fld := ⟨0x400f0040, 2, 1⟩
/-- FLC_JSTAT.FIRST (R361). -/
abbrev f_FLC_JSTAT_FIRST (b : Nat) : Fld := ⟨0x400f0100 + 4 * b, 19, 10⟩
/-- FLC_JSTAT.JSECT (R361). -/
abbrev f_FLC_JSTAT_JSECT (b : Nat) : Fld := ⟨0x400f0100 + 4 * b, 29, 3⟩
/-- FLC_JSTAT.UNSET (R361). -/
abbrev f_FLC_JSTAT_UNSET (b : Nat) : Fld := ⟨0x400f0100 + 4 * b, 0, 10⟩
/-- FLC_LEN.VALUE (R361). -/
abbrev f_FLC_LEN_VALUE : Fld := ⟨0x400f0010, 0, 32⟩
/-- FLC_REFUSED.VALUE (R361). -/
abbrev f_FLC_REFUSED_VALUE : Fld := ⟨0x400f003c, 0, 32⟩
/-- FLC_RESULT.OP (R361). -/
abbrev f_FLC_RESULT_OP : Fld := ⟨0x400f0018, 16, 4⟩
/-- FLC_RESULT.STATUS (R361). -/
abbrev f_FLC_RESULT_STATUS : Fld := ⟨0x400f0018, 0, 16⟩
/-- FLC_RESULT.VALID (R361). -/
abbrev f_FLC_RESULT_VALID : Fld := ⟨0x400f0018, 31, 1⟩
/-- FLC_SELECT.VALUE (R361). -/
abbrev f_FLC_SELECT_VALUE : Fld := ⟨0x400f0024, 0, 32⟩
/-- FLC_SRC.VALUE (R361). -/
abbrev f_FLC_SRC_VALUE : Fld := ⟨0x400f0014, 0, 32⟩
/-- FLC_STATUS.ACTIVE (R361). -/
abbrev f_FLC_STATUS_ACTIVE : Fld := ⟨0x400f0004, 30, 1⟩
/-- FLC_STATUS.BUSY (R361). -/
abbrev f_FLC_STATUS_BUSY : Fld := ⟨0x400f0004, 8, 8⟩
/-- FLC_STATUS.FALLBACK (R361). -/
abbrev f_FLC_STATUS_FALLBACK : Fld := ⟨0x400f0004, 31, 1⟩
/-- FLC_STATUS.RELEASED (R361). -/
abbrev f_FLC_STATUS_RELEASED : Fld := ⟨0x400f0004, 0, 8⟩
/-- FLC_STATUS.SUSP (R361). -/
abbrev f_FLC_STATUS_SUSP : Fld := ⟨0x400f0004, 16, 8⟩
/-- FLC_SUSPENDS.VALUE (R361). -/
abbrev f_FLC_SUSPENDS_VALUE : Fld := ⟨0x400f0034, 0, 32⟩
/-- FLC_VERIFY_FAIL.VALUE (R361). -/
abbrev f_FLC_VERIFY_FAIL_VALUE : Fld := ⟨0x400f0038, 0, 32⟩
/-- FLT_ACK.ACK (R518). -/
abbrev f_FLT_ACK_ACK : Fld := ⟨0x40020020, 0, 1⟩
/-- FLT_COUNT.COUNT (R518). -/
abbrev f_FLT_COUNT_COUNT (c : Nat) : Fld := ⟨0x40020040 + 4 * c, 0, 32⟩
/-- FLT_CTRL.CLRCNT (R518). -/
abbrev f_FLT_CTRL_CLRCNT : Fld := ⟨0x40020000, 0, 1⟩
/-- FLT_DECLARE.KIND (R518). -/
abbrev f_FLT_DECLARE_KIND : Fld := ⟨0x40020024, 30, 2⟩
/-- FLT_DECLARE.UNIT (R518). -/
abbrev f_FLT_DECLARE_UNIT : Fld := ⟨0x40020024, 0, 8⟩
/-- FLT_IRQ_EN.CU (R518). -/
abbrev f_FLT_IRQ_EN_CU : Fld := ⟨0x40020030, 0, 1⟩
/-- FLT_IRQ_EN.OP (R518). -/
abbrev f_FLT_IRQ_EN_OP : Fld := ⟨0x40020030, 1, 1⟩
/-- FLT_LOST.COUNT (R518). -/
abbrev f_FLT_LOST_COUNT : Fld := ⟨0x40020028, 0, 32⟩
/-- FLT_REC.VALUE (R518). -/
abbrev f_FLT_REC_VALUE (i : Nat) : Fld := ⟨0x40020008 + 4 * i, 0, 32⟩
/-- FLT_STATUS.DEPTH (R518). -/
abbrev f_FLT_STATUS_DEPTH : Fld := ⟨0x40020004, 0, 6⟩
/-- FLT_STATUS.NEST (R518). -/
abbrev f_FLT_STATUS_NEST : Fld := ⟨0x40020004, 12, 3⟩
/-- FLT_STATUS.PSEV (R518). -/
abbrev f_FLT_STATUS_PSEV : Fld := ⟨0x40020004, 8, 2⟩
/-- FLT_STATUS.PVALID (R518). -/
abbrev f_FLT_STATUS_PVALID : Fld := ⟨0x40020004, 10, 1⟩
/-- FLT_TRACE_DROP.COUNT (R518). -/
abbrev f_FLT_TRACE_DROP_COUNT : Fld := ⟨0x4002002c, 0, 32⟩
/-- KS_ARG.ALG (R407). -/
abbrev f_KS_ARG_ALG : Fld := ⟨0x40100004, 26, 3⟩
/-- KS_ARG.LEN (R407). -/
abbrev f_KS_ARG_LEN : Fld := ⟨0x40100004, 16, 7⟩
/-- KS_ARG.PARENT (R407). -/
abbrev f_KS_ARG_PARENT : Fld := ⟨0x40100004, 8, 6⟩
/-- KS_ARG.SLOT (R407). -/
abbrev f_KS_ARG_SLOT : Fld := ⟨0x40100004, 0, 6⟩
/-- KS_ARG.TARGET (R407). -/
abbrev f_KS_ARG_TARGET : Fld := ⟨0x40100004, 29, 3⟩
/-- KS_ARG.USAGE (R407). -/
abbrev f_KS_ARG_USAGE : Fld := ⟨0x40100004, 23, 3⟩
/-- KS_BLOB.VALUE (R407). -/
abbrev f_KS_BLOB_VALUE (i : Nat) : Fld := ⟨0x40100080 + 4 * i, 0, 32⟩
/-- KS_CMD.GO (R407). -/
abbrev f_KS_CMD_GO : Fld := ⟨0x40100008, 31, 1⟩
/-- KS_CMD.OP (R407). -/
abbrev f_KS_CMD_OP : Fld := ⟨0x40100008, 0, 3⟩
/-- KS_EPOCH.EPOCH (R407). -/
abbrev f_KS_EPOCH_EPOCH (n : Nat) : Fld := ⟨0x40100200 + 4 * n, 0, 32⟩
/-- KS_IRQ.BRE (R407). -/
abbrev f_KS_IRQ_BRE : Fld := ⟨0x40100010, 2, 1⟩
/-- KS_IRQ.DONE (R407). -/
abbrev f_KS_IRQ_DONE : Fld := ⟨0x40100010, 0, 1⟩
/-- KS_IRQ_EN.BRE (R407). -/
abbrev f_KS_IRQ_EN_BRE : Fld := ⟨0x40100014, 2, 1⟩
/-- KS_IRQ_EN.DONE (R407). -/
abbrev f_KS_IRQ_EN_DONE : Fld := ⟨0x40100014, 0, 1⟩
/-- KS_IRQ_EN.ORPHAN (R407). -/
abbrev f_KS_IRQ_EN_ORPHAN : Fld := ⟨0x40100014, 1, 1⟩
/-- KS_IRQ.ORPHAN (R407). -/
abbrev f_KS_IRQ_ORPHAN : Fld := ⟨0x40100010, 1, 1⟩
/-- KS_RESULT.STATUS (R407). -/
abbrev f_KS_RESULT_STATUS : Fld := ⟨0x4010000c, 0, 16⟩
/-- KS_RESULT.VALID (R407). -/
abbrev f_KS_RESULT_VALID : Fld := ⟨0x4010000c, 31, 1⟩
/-- KS_SLOT.ALG (R407). -/
abbrev f_KS_SLOT_ALG (n : Nat) : Fld := ⟨0x40100100 + 4 * n, 18, 3⟩
/-- KS_SLOT.PARENT (R407). -/
abbrev f_KS_SLOT_PARENT (n : Nat) : Fld := ⟨0x40100100 + 4 * n, 8, 6⟩
/-- KS_SLOT.STATE (R407). -/
abbrev f_KS_SLOT_STATE (n : Nat) : Fld := ⟨0x40100100 + 4 * n, 30, 2⟩
/-- KS_SLOT.USAGE (R407). -/
abbrev f_KS_SLOT_USAGE (n : Nat) : Fld := ⟨0x40100100 + 4 * n, 21, 3⟩
/-- KS_SLOT.WORLD (R407). -/
abbrev f_KS_SLOT_WORLD (n : Nat) : Fld := ⟨0x40100100 + 4 * n, 28, 2⟩
/-- KS_STATUS.BRE_ZERO (R407). -/
abbrev f_KS_STATUS_BRE_ZERO : Fld := ⟨0x40100000, 2, 1⟩
/-- KS_STATUS.HUKFAIL (R407). -/
abbrev f_KS_STATUS_HUKFAIL : Fld := ⟨0x40100000, 1, 1⟩
/-- KS_STATUS.READY (R407). -/
abbrev f_KS_STATUS_READY : Fld := ⟨0x40100000, 0, 1⟩
/-- KS_STATUS.REEST_PEND (R407). -/
abbrev f_KS_STATUS_REEST_PEND : Fld := ⟨0x40100000, 3, 1⟩
/-- LC_STATE.FR (R52). -/
abbrev f_LC_STATE_FR : Fld := ⟨0x40000200, 5, 1⟩
/-- LC_STATE.STATE (R52). -/
abbrev f_LC_STATE_STATE : Fld := ⟨0x40000200, 0, 3⟩
/-- LC_STATE.TORN (R52). -/
abbrev f_LC_STATE_TORN : Fld := ⟨0x40000200, 6, 1⟩
/-- LDG_ARC_CFG.BLOCK (R235). -/
abbrev f_LDG_ARC_CFG_BLOCK : Fld := ⟨0x400a0024, 20, 4⟩
/-- LDG_ARC_CFG.EVENT (R235). -/
abbrev f_LDG_ARC_CFG_EVENT : Fld := ⟨0x400a0024, 24, 4⟩
/-- LDG_ARC_CFG.SEAL (R235). -/
abbrev f_LDG_ARC_CFG_SEAL : Fld := ⟨0x400a0024, 28, 4⟩
/-- LDG_ARC_CFG.SIZE (R235). -/
abbrev f_LDG_ARC_CFG_SIZE : Fld := ⟨0x400a0024, 0, 9⟩
/-- LDG_ARC_CFG.ULOG (R235). -/
abbrev f_LDG_ARC_CFG_ULOG : Fld := ⟨0x400a0024, 16, 1⟩
/-- LDG_ARC_FILL.BLOCK (R235). -/
abbrev f_LDG_ARC_FILL_BLOCK : Fld := ⟨0x400a0028, 8, 8⟩
/-- LDG_ARC_FILL.EVENT (R235). -/
abbrev f_LDG_ARC_FILL_EVENT : Fld := ⟨0x400a0028, 16, 8⟩
/-- LDG_ARC_FILL.SEAL (R235). -/
abbrev f_LDG_ARC_FILL_SEAL : Fld := ⟨0x400a0028, 24, 8⟩
/-- LDG_ARC_LOST.COUNT (R235). -/
abbrev f_LDG_ARC_LOST_COUNT : Fld := ⟨0x400a0034, 0, 32⟩
/-- LDG_ARC_OVERWRITTEN.COUNT (R235). -/
abbrev f_LDG_ARC_OVERWRITTEN_COUNT : Fld := ⟨0x400a0030, 0, 32⟩
/-- LDG_CHAIN_ID.CHAIN_ID (R235). -/
abbrev f_LDG_CHAIN_ID_CHAIN_ID : Fld := ⟨0x400a0020, 0, 32⟩
/-- LDG_CORR_EXTRA.COUNT (R235). -/
abbrev f_LDG_CORR_EXTRA_COUNT : Fld := ⟨0x400a0038, 0, 32⟩
/-- LDG_CTRL.ARC_EN (R235). -/
abbrev f_LDG_CTRL_ARC_EN : Fld := ⟨0x400a0000, 1, 1⟩
/-- LDG_CTRL.CLRCNT (R235). -/
abbrev f_LDG_CTRL_CLRCNT : Fld := ⟨0x400a0000, 2, 1⟩
/-- LDG_CTRL.EN (R235). -/
abbrev f_LDG_CTRL_EN : Fld := ⟨0x400a0000, 0, 1⟩
/-- LDG_CTRL.LOCK (R235). -/
abbrev f_LDG_CTRL_LOCK : Fld := ⟨0x400a0000, 31, 1⟩
/-- LDG_HEAD_SEQ_HI.VALUE (R235). -/
abbrev f_LDG_HEAD_SEQ_HI_VALUE : Fld := ⟨0x400a000c, 0, 32⟩
/-- LDG_HEAD_SEQ_LO.VALUE (R235). -/
abbrev f_LDG_HEAD_SEQ_LO_VALUE : Fld := ⟨0x400a0008, 0, 32⟩
/-- LDG_HEAD_STAMP_HI.VALUE (R235). -/
abbrev f_LDG_HEAD_STAMP_HI_VALUE : Fld := ⟨0x400a0014, 0, 32⟩
/-- LDG_HEAD_STAMP_LO.VALUE (R235). -/
abbrev f_LDG_HEAD_STAMP_LO_VALUE : Fld := ⟨0x400a0010, 0, 32⟩
/-- LDG_HOLDQ.BYTES (R235). -/
abbrev f_LDG_HOLDQ_BYTES : Fld := ⟨0x400a002c, 0, 19⟩
/-- LDG_IRQ.ARC_FAULT (R235). -/
abbrev f_LDG_IRQ_ARC_FAULT : Fld := ⟨0x400a0040, 2, 1⟩
/-- LDG_IRQ.CORR_EXTRA (R235). -/
abbrev f_LDG_IRQ_CORR_EXTRA : Fld := ⟨0x400a0040, 6, 1⟩
/-- LDG_IRQ_EN.ARC_FAULT (R235). -/
abbrev f_LDG_IRQ_EN_ARC_FAULT : Fld := ⟨0x400a0044, 2, 1⟩
/-- LDG_IRQ_EN.CORR_EXTRA (R235). -/
abbrev f_LDG_IRQ_EN_CORR_EXTRA : Fld := ⟨0x400a0044, 6, 1⟩
/-- LDG_IRQ_EN.GAP (R235). -/
abbrev f_LDG_IRQ_EN_GAP : Fld := ⟨0x400a0044, 3, 1⟩
/-- LDG_IRQ_EN.OFFLOAD (R235). -/
abbrev f_LDG_IRQ_EN_OFFLOAD : Fld := ⟨0x400a0044, 1, 1⟩
/-- LDG_IRQ_EN.OVERWRITE (R235). -/
abbrev f_LDG_IRQ_EN_OVERWRITE : Fld := ⟨0x400a0044, 4, 1⟩
/-- LDG_IRQ_EN.SEALED (R235). -/
abbrev f_LDG_IRQ_EN_SEALED : Fld := ⟨0x400a0044, 0, 1⟩
/-- LDG_IRQ_EN.SEAL_LATE (R235). -/
abbrev f_LDG_IRQ_EN_SEAL_LATE : Fld := ⟨0x400a0044, 5, 1⟩
/-- LDG_IRQ.GAP (R235). -/
abbrev f_LDG_IRQ_GAP : Fld := ⟨0x400a0040, 3, 1⟩
/-- LDG_IRQ.OFFLOAD (R235). -/
abbrev f_LDG_IRQ_OFFLOAD : Fld := ⟨0x400a0040, 1, 1⟩
/-- LDG_IRQ.OVERWRITE (R235). -/
abbrev f_LDG_IRQ_OVERWRITE : Fld := ⟨0x400a0040, 4, 1⟩
/-- LDG_IRQ.SEALED (R235). -/
abbrev f_LDG_IRQ_SEALED : Fld := ⟨0x400a0040, 0, 1⟩
/-- LDG_IRQ.SEAL_LATE (R235). -/
abbrev f_LDG_IRQ_SEAL_LATE : Fld := ⟨0x400a0040, 5, 1⟩
/-- LDG_SEAL_LATE.COUNT (R235). -/
abbrev f_LDG_SEAL_LATE_COUNT : Fld := ⟨0x400a003c, 0, 32⟩
/-- LDG_SEAL_SEQ_HI.VALUE (R235). -/
abbrev f_LDG_SEAL_SEQ_HI_VALUE : Fld := ⟨0x400a001c, 0, 32⟩
/-- LDG_SEAL_SEQ_LO.VALUE (R235). -/
abbrev f_LDG_SEAL_SEQ_LO_VALUE : Fld := ⟨0x400a0018, 0, 32⟩
/-- LDG_STATUS.ARC_STATE (R235). -/
abbrev f_LDG_STATUS_ARC_STATE : Fld := ⟨0x400a0004, 10, 2⟩
/-- LDG_STATUS.EVIDENCE (R235). -/
abbrev f_LDG_STATUS_EVIDENCE : Fld := ⟨0x400a0004, 15, 1⟩
/-- LDG_STATUS.HOPREP (R235). -/
abbrev f_LDG_STATUS_HOPREP : Fld := ⟨0x400a0004, 14, 1⟩
/-- LDG_STATUS.KIND (R235). -/
abbrev f_LDG_STATUS_KIND : Fld := ⟨0x400a0004, 0, 3⟩
/-- LDG_STATUS.NBAD (R235). -/
abbrev f_LDG_STATUS_NBAD : Fld := ⟨0x400a0004, 24, 8⟩
/-- LDG_STATUS.SEALING (R235). -/
abbrev f_LDG_STATUS_SEALING : Fld := ⟨0x400a0004, 13, 1⟩
/-- LE_CODE_LIM.LIM (R268). -/
abbrev f_LE_CODE_LIM_LIM (e : Nat) : Fld := ⟨0x400c000c + 64 * e, 0, 15⟩
/-- LE_CTRL.LOCK (R268). -/
abbrev f_LE_CTRL_LOCK (e : Nat) : Fld := ⟨0x400c0000 + 64 * e, 31, 1⟩
/-- LE_CTRL.RESET (R268). -/
abbrev f_LE_CTRL_RESET (e : Nat) : Fld := ⟨0x400c0000 + 64 * e, 3, 1⟩
/-- LE_CTRL.RUN (R268). -/
abbrev f_LE_CTRL_RUN (e : Nat) : Fld := ⟨0x400c0000 + 64 * e, 0, 1⟩
/-- LE_CTRL.SKIP (R268). -/
abbrev f_LE_CTRL_SKIP (e : Nat) : Fld := ⟨0x400c0000 + 64 * e, 4, 1⟩
/-- LE_CTRL.STEP (R268). -/
abbrev f_LE_CTRL_STEP (e : Nat) : Fld := ⟨0x400c0000 + 64 * e, 1, 1⟩
/-- LE_CTRL.SUSPEND (R268). -/
abbrev f_LE_CTRL_SUSPEND (e : Nat) : Fld := ⟨0x400c0000 + 64 * e, 2, 1⟩
/-- LE_EMU_CTL.DIST (R268). -/
abbrev f_LE_EMU_CTL_DIST (e : Nat) : Fld := ⟨0x400c0028 + 64 * e, 0, 4⟩
/-- LE_EMU_CTL.GO (R268). -/
abbrev f_LE_EMU_CTL_GO (e : Nat) : Fld := ⟨0x400c0028 + 64 * e, 31, 1⟩
/-- LE_EMU_CTL.PORT (R268). -/
abbrev f_LE_EMU_CTL_PORT (e : Nat) : Fld := ⟨0x400c0028 + 64 * e, 8, 8⟩
/-- LE_EMU_RES.VALUE (R268). -/
abbrev f_LE_EMU_RES_VALUE (e : Nat) : Fld := ⟨0x400c0024 + 64 * e, 0, 32⟩
/-- LE_ICOUNT.COUNT (R268). -/
abbrev f_LE_ICOUNT_COUNT (e : Nat) : Fld := ⟨0x400c002c + 64 * e, 0, 32⟩
/-- LE_PC.WADDR (R268). -/
abbrev f_LE_PC_WADDR (e : Nat) : Fld := ⟨0x400c0008 + 64 * e, 2, 12⟩
/-- LE_STATUS.DSLOT (R268). -/
abbrev f_LE_STATUS_DSLOT (e : Nat) : Fld := ⟨0x400c0004 + 64 * e, 4, 2⟩
/-- LE_STATUS.EMU_PEND (R268). -/
abbrev f_LE_STATUS_EMU_PEND (e : Nat) : Fld := ⟨0x400c0004 + 64 * e, 11, 1⟩
/-- LE_STATUS.G (R268). -/
abbrev f_LE_STATUS_G (e : Nat) : Fld := ⟨0x400c0004 + 64 * e, 3, 1⟩
/-- LE_STATUS.LIMMN (R268). -/
abbrev f_LE_STATUS_LIMMN (e : Nat) : Fld := ⟨0x400c0004 + 64 * e, 6, 2⟩
/-- LE_STATUS.MODE (R268). -/
abbrev f_LE_STATUS_MODE (e : Nat) : Fld := ⟨0x400c0004 + 64 * e, 8, 1⟩
/-- LE_STATUS.OV (R268). -/
abbrev f_LE_STATUS_OV (e : Nat) : Fld := ⟨0x400c0004 + 64 * e, 9, 1⟩
/-- LE_STATUS.STATE (R268). -/
abbrev f_LE_STATUS_STATE (e : Nat) : Fld := ⟨0x400c0004 + 64 * e, 0, 3⟩
/-- LE_STATUS.STR_REFUSED (R268). -/
abbrev f_LE_STATUS_STR_REFUSED (e : Nat) : Fld := ⟨0x400c0004 + 64 * e, 10, 1⟩
/-- LE_STR_CFG.MASK (R268). -/
abbrev f_LE_STR_CFG_MASK (e : Nat) : Fld := ⟨0x400c001c + 64 * e, 16, 16⟩
/-- LE_STR_CFG.SRC (R268). -/
abbrev f_LE_STR_CFG_SRC (e : Nat) : Fld := ⟨0x400c001c + 64 * e, 0, 4⟩
/-- LE_STR_POS.K (R268). -/
abbrev f_LE_STR_POS_K (e : Nat) : Fld := ⟨0x400c0020 + 64 * e, 0, 32⟩
/-- LE_TRAP_CAUSE.CAUSE (R268). -/
abbrev f_LE_TRAP_CAUSE_CAUSE (e : Nat) : Fld := ⟨0x400c0010 + 64 * e, 0, 8⟩
/-- LE_TRAP_CAUSE.DETAIL (R268). -/
abbrev f_LE_TRAP_CAUSE_DETAIL (e : Nat) : Fld := ⟨0x400c0010 + 64 * e, 24, 8⟩
/-- LE_TRAP_CAUSE.SLOT (R268). -/
abbrev f_LE_TRAP_CAUSE_SLOT (e : Nat) : Fld := ⟨0x400c0010 + 64 * e, 16, 1⟩
/-- LE_TRAP_PC.VALUE (R268). -/
abbrev f_LE_TRAP_PC_VALUE (e : Nat) : Fld := ⟨0x400c0014 + 64 * e, 0, 32⟩
/-- LE_TRAP_WORD.VALUE (R268). -/
abbrev f_LE_TRAP_WORD_VALUE (e : Nat) : Fld := ⟨0x400c0018 + 64 * e, 0, 32⟩
/-- LIM_BASE_CHG.VALUE (R162). -/
abbrev f_LIM_BASE_CHG_VALUE : Fld := ⟨0x40070008, 0, 16⟩
/-- LIM_BASE_DIS.VALUE (R162). -/
abbrev f_LIM_BASE_DIS_VALUE : Fld := ⟨0x4007000c, 0, 16⟩
/-- LIM_CTRL.CLRCNT (R162). -/
abbrev f_LIM_CTRL_CLRCNT : Fld := ⟨0x40070000, 2, 1⟩
/-- LIM_CTRL.EN (R162). -/
abbrev f_LIM_CTRL_EN : Fld := ⟨0x40070000, 0, 1⟩
/-- LIM_CTRL.LOCK (R162). -/
abbrev f_LIM_CTRL_LOCK : Fld := ⟨0x40070000, 31, 1⟩
/-- LIM_CTRL.PUB_EN (R162). -/
abbrev f_LIM_CTRL_PUB_EN : Fld := ⟨0x40070000, 1, 1⟩
/-- LIM_CUCAP_CHG.LIFE (R162). -/
abbrev f_LIM_CUCAP_CHG_LIFE : Fld := ⟨0x40070010, 16, 16⟩
/-- LIM_CUCAP_CHG.VALUE (R162). -/
abbrev f_LIM_CUCAP_CHG_VALUE : Fld := ⟨0x40070010, 0, 16⟩
/-- LIM_CUCAP_DIS.LIFE (R162). -/
abbrev f_LIM_CUCAP_DIS_LIFE : Fld := ⟨0x40070014, 16, 16⟩
/-- LIM_CUCAP_DIS.VALUE (R162). -/
abbrev f_LIM_CUCAP_DIS_VALUE : Fld := ⟨0x40070014, 0, 16⟩
/-- LIM_INFO0.SOC (R162). -/
abbrev f_LIM_INFO0_SOC : Fld := ⟨0x4007002c, 0, 16⟩
/-- LIM_INFO0.SOH (R162). -/
abbrev f_LIM_INFO0_SOH : Fld := ⟨0x4007002c, 16, 16⟩
/-- LIM_INFO1.QUAR (R162). -/
abbrev f_LIM_INFO1_QUAR : Fld := ⟨0x40070030, 8, 8⟩
/-- LIM_INFO1.T_MAX (R162). -/
abbrev f_LIM_INFO1_T_MAX : Fld := ⟨0x40070030, 16, 16⟩
/-- LIM_INFO1.WATCH (R162). -/
abbrev f_LIM_INFO1_WATCH : Fld := ⟨0x40070030, 0, 8⟩
/-- LIM_IRQ.CAP_LAPSE (R162). -/
abbrev f_LIM_IRQ_CAP_LAPSE : Fld := ⟨0x40070048, 2, 1⟩
/-- LIM_IRQ_EN.CAP_LAPSE (R162). -/
abbrev f_LIM_IRQ_EN_CAP_LAPSE : Fld := ⟨0x4007004c, 2, 1⟩
/-- LIM_IRQ_EN.OP_REFUSED (R162). -/
abbrev f_LIM_IRQ_EN_OP_REFUSED : Fld := ⟨0x4007004c, 3, 1⟩
/-- LIM_IRQ_EN.PUBLISHED (R162). -/
abbrev f_LIM_IRQ_EN_PUBLISHED : Fld := ⟨0x4007004c, 0, 1⟩
/-- LIM_IRQ_EN.STALE (R162). -/
abbrev f_LIM_IRQ_EN_STALE : Fld := ⟨0x4007004c, 1, 1⟩
/-- LIM_IRQ.OP_REFUSED (R162). -/
abbrev f_LIM_IRQ_OP_REFUSED : Fld := ⟨0x40070048, 3, 1⟩
/-- LIM_IRQ.PUBLISHED (R162). -/
abbrev f_LIM_IRQ_PUBLISHED : Fld := ⟨0x40070048, 0, 1⟩
/-- LIM_IRQ.STALE (R162). -/
abbrev f_LIM_IRQ_STALE : Fld := ⟨0x40070048, 1, 1⟩
/-- LIM_OPCAP_CHG.LIFE (R162). -/
abbrev f_LIM_OPCAP_CHG_LIFE : Fld := ⟨0x40070018, 16, 16⟩
/-- LIM_OPCAP_CHG.VALUE (R162). -/
abbrev f_LIM_OPCAP_CHG_VALUE : Fld := ⟨0x40070018, 0, 16⟩
/-- LIM_OPCAP_DIS.LIFE (R162). -/
abbrev f_LIM_OPCAP_DIS_LIFE : Fld := ⟨0x4007001c, 16, 16⟩
/-- LIM_OPCAP_DIS.VALUE (R162). -/
abbrev f_LIM_OPCAP_DIS_VALUE : Fld := ⟨0x4007001c, 0, 16⟩
/-- LIM_OP_REFUSED.COUNT (R162). -/
abbrev f_LIM_OP_REFUSED_COUNT : Fld := ⟨0x4007003c, 0, 32⟩
/-- LIM_PERIOD_HI.STAMP (R162). -/
abbrev f_LIM_PERIOD_HI_STAMP : Fld := ⟨0x40070044, 0, 32⟩
/-- LIM_PERIOD_LO.STAMP (R162). -/
abbrev f_LIM_PERIOD_LO_STAMP : Fld := ⟨0x40070040, 0, 32⟩
/-- LIM_PUB_CFG.CHAN (R162). -/
abbrev f_LIM_PUB_CFG_CHAN : Fld := ⟨0x40070034, 31, 1⟩
/-- LIM_PUB_CFG.ID (R162). -/
abbrev f_LIM_PUB_CFG_ID : Fld := ⟨0x40070034, 0, 29⟩
/-- LIM_PUB_CFG.IDE (R162). -/
abbrev f_LIM_PUB_CFG_IDE : Fld := ⟨0x40070034, 30, 1⟩
/-- LIM_PUB.CHG (R162). -/
abbrev f_LIM_PUB_CHG : Fld := ⟨0x40070024, 0, 16⟩
/-- LIM_PUB.DIS (R162). -/
abbrev f_LIM_PUB_DIS : Fld := ⟨0x40070024, 16, 16⟩
/-- LIM_REQ.CHG (R162). -/
abbrev f_LIM_REQ_CHG : Fld := ⟨0x40070020, 0, 16⟩
/-- LIM_REQ.DIS (R162). -/
abbrev f_LIM_REQ_DIS : Fld := ⟨0x40070020, 16, 16⟩
/-- LIM_STALE_COUNT.COUNT (R162). -/
abbrev f_LIM_STALE_COUNT_COUNT : Fld := ⟨0x40070038, 0, 32⟩
/-- LIM_STATUS.CU_CHG (R162). -/
abbrev f_LIM_STATUS_CU_CHG : Fld := ⟨0x40070004, 0, 1⟩
/-- LIM_STATUS.CU_DIS (R162). -/
abbrev f_LIM_STATUS_CU_DIS : Fld := ⟨0x40070004, 1, 1⟩
/-- LIM_STATUS.OP_CHG (R162). -/
abbrev f_LIM_STATUS_OP_CHG : Fld := ⟨0x40070004, 2, 1⟩
/-- LIM_STATUS.OP_DIS (R162). -/
abbrev f_LIM_STATUS_OP_DIS : Fld := ⟨0x40070004, 3, 1⟩
/-- LIM_STATUS.QCEIL (R162). -/
abbrev f_LIM_STATUS_QCEIL : Fld := ⟨0x40070004, 5, 1⟩
/-- LIM_STATUS.STALE (R162). -/
abbrev f_LIM_STATUS_STALE : Fld := ⟨0x40070004, 4, 1⟩
/-- LIM_VOLT.V_CHG_MAX (R162). -/
abbrev f_LIM_VOLT_V_CHG_MAX : Fld := ⟨0x40070028, 0, 16⟩
/-- LIM_VOLT.V_DIS_MIN (R162). -/
abbrev f_LIM_VOLT_V_DIS_MIN : Fld := ⟨0x40070028, 16, 16⟩
/-- MER_ACC_HI.VALUE (R183). -/
abbrev f_MER_ACC_HI_VALUE (j : Nat) : Fld := ⟨0x40090104 + 8 * j, 0, 32⟩
/-- MER_ACC_LO.VALUE (R183). -/
abbrev f_MER_ACC_LO_VALUE (j : Nat) : Fld := ⟨0x40090100 + 8 * j, 0, 32⟩
/-- MER_BASE_HI.VALUE (R183). -/
abbrev f_MER_BASE_HI_VALUE (j : Nat) : Fld := ⟨0x40090184 + 8 * j, 0, 32⟩
/-- MER_BASE_LO.VALUE (R183). -/
abbrev f_MER_BASE_LO_VALUE (j : Nat) : Fld := ⟨0x40090180 + 8 * j, 0, 32⟩
/-- MER_CAL_REFUSED.COUNT (R183). -/
abbrev f_MER_CAL_REFUSED_COUNT : Fld := ⟨0x40090028, 0, 32⟩
/-- MER_CH_DLY.DLY (R183). -/
abbrev f_MER_CH_DLY_DLY (i : Nat) : Fld := ⟨0x40090048 + 16 * i, 0, 12⟩
/-- MER_CH_DLY.ENABLE (R183). -/
abbrev f_MER_CH_DLY_ENABLE (i : Nat) : Fld := ⟨0x40090048 + 16 * i, 12, 1⟩
/-- MER_CH_GAIN.GAIN (R183). -/
abbrev f_MER_CH_GAIN_GAIN (i : Nat) : Fld := ⟨0x40090040 + 16 * i, 0, 32⟩
/-- MER_CH_OFS.OFS (R183). -/
abbrev f_MER_CH_OFS_OFS (i : Nat) : Fld := ⟨0x40090044 + 16 * i, 0, 24⟩
/-- MER_CH_STAT.CODE (R183). -/
abbrev f_MER_CH_STAT_CODE (i : Nat) : Fld := ⟨0x4009004c + 16 * i, 0, 24⟩
/-- MER_CH_STAT.MODFLT (R183). -/
abbrev f_MER_CH_STAT_MODFLT (i : Nat) : Fld := ⟨0x4009004c + 16 * i, 31, 1⟩
/-- MER_CH_STAT.OVR (R183). -/
abbrev f_MER_CH_STAT_OVR (i : Nat) : Fld := ⟨0x4009004c + 16 * i, 29, 1⟩
/-- MER_CH_STAT.STUCK (R183). -/
abbrev f_MER_CH_STAT_STUCK (i : Nat) : Fld := ⟨0x4009004c + 16 * i, 30, 1⟩
/-- MER_CTRL.CLRCNT (R183). -/
abbrev f_MER_CTRL_CLRCNT : Fld := ⟨0x40090000, 2, 1⟩
/-- MER_CTRL.EN (R183). -/
abbrev f_MER_CTRL_EN : Fld := ⟨0x40090000, 0, 1⟩
/-- MER_CTRL.PULSE_EN (R183). -/
abbrev f_MER_CTRL_PULSE_EN : Fld := ⟨0x40090000, 1, 1⟩
/-- MER_IRQ.CHANNEL (R183). -/
abbrev f_MER_IRQ_CHANNEL : Fld := ⟨0x4009002c, 2, 1⟩
/-- MER_IRQ_EN.CHANNEL (R183). -/
abbrev f_MER_IRQ_EN_CHANNEL : Fld := ⟨0x40090030, 2, 1⟩
/-- MER_IRQ_EN.MODFLT (R183). -/
abbrev f_MER_IRQ_EN_MODFLT : Fld := ⟨0x40090030, 1, 1⟩
/-- MER_IRQ_EN.TABLE (R183). -/
abbrev f_MER_IRQ_EN_TABLE : Fld := ⟨0x40090030, 4, 1⟩
/-- MER_IRQ_EN.UNMETERED (R183). -/
abbrev f_MER_IRQ_EN_UNMETERED : Fld := ⟨0x40090030, 3, 1⟩
/-- MER_IRQ_EN.XFAULT (R183). -/
abbrev f_MER_IRQ_EN_XFAULT : Fld := ⟨0x40090030, 0, 1⟩
/-- MER_IRQ.MODFLT (R183). -/
abbrev f_MER_IRQ_MODFLT : Fld := ⟨0x4009002c, 1, 1⟩
/-- MER_IRQ.TABLE (R183). -/
abbrev f_MER_IRQ_TABLE : Fld := ⟨0x4009002c, 4, 1⟩
/-- MER_IRQ.UNMETERED (R183). -/
abbrev f_MER_IRQ_UNMETERED : Fld := ⟨0x4009002c, 3, 1⟩
/-- MER_IRQ.XFAULT (R183). -/
abbrev f_MER_IRQ_XFAULT : Fld := ⟨0x4009002c, 0, 1⟩
/-- MER_PULSE_CFG.BACKLOG (R183). -/
abbrev f_MER_PULSE_CFG_BACKLOG : Fld := ⟨0x40090010, 24, 6⟩
/-- MER_PULSE_CFG.IMP (R183). -/
abbrev f_MER_PULSE_CFG_IMP : Fld := ⟨0x40090010, 0, 17⟩
/-- MER_PULSE_CFG.SEL (R183). -/
abbrev f_MER_PULSE_CFG_SEL : Fld := ⟨0x40090010, 30, 2⟩
/-- MER_RATING.CAP (R183). -/
abbrev f_MER_RATING_CAP : Fld := ⟨0x40090008, 16, 16⟩
/-- MER_RATING.I_RATED (R183). -/
abbrev f_MER_RATING_I_RATED : Fld := ⟨0x40090008, 0, 16⟩
/-- MER_RGCLASS.CLASS (R183). -/
abbrev f_MER_RGCLASS_CLASS : Fld := ⟨0x40090014, 0, 3⟩
/-- MER_STATUS.ISRC (R183). -/
abbrev f_MER_STATUS_ISRC : Fld := ⟨0x40090004, 0, 2⟩
/-- MER_STATUS.MODFLT (R183). -/
abbrev f_MER_STATUS_MODFLT : Fld := ⟨0x40090004, 8, 4⟩
/-- MER_STATUS.NOCAP (R183). -/
abbrev f_MER_STATUS_NOCAP : Fld := ⟨0x40090004, 5, 1⟩
/-- MER_STATUS.OVR (R183). -/
abbrev f_MER_STATUS_OVR : Fld := ⟨0x40090004, 12, 4⟩
/-- MER_STATUS.RGCLASS (R183). -/
abbrev f_MER_STATUS_RGCLASS : Fld := ⟨0x40090004, 18, 3⟩
/-- MER_STATUS.TBANK (R183). -/
abbrev f_MER_STATUS_TBANK : Fld := ⟨0x40090004, 16, 1⟩
/-- MER_STATUS.TPEND (R183). -/
abbrev f_MER_STATUS_TPEND : Fld := ⟨0x40090004, 17, 1⟩
/-- MER_STATUS.VSUB (R183). -/
abbrev f_MER_STATUS_VSUB : Fld := ⟨0x40090004, 2, 1⟩
/-- MER_STATUS.XDIS (R183). -/
abbrev f_MER_STATUS_XDIS : Fld := ⟨0x40090004, 4, 1⟩
/-- MER_STATUS.XFAULT (R183). -/
abbrev f_MER_STATUS_XFAULT : Fld := ⟨0x40090004, 3, 1⟩
/-- MER_TBL.VALUE (R183). -/
abbrev f_MER_TBL_VALUE (i : Nat) : Fld := ⟨0x40091000 + 4 * i, 0, 32⟩
/-- MER_UNMET_CHARGE.COUNT (R183). -/
abbrev f_MER_UNMET_CHARGE_COUNT : Fld := ⟨0x40090020, 0, 32⟩
/-- MER_UNMET_TIME.COUNT (R183). -/
abbrev f_MER_UNMET_TIME_COUNT : Fld := ⟨0x4009001c, 0, 32⟩
/-- MER_WWE_CLAMPS.COUNT (R183). -/
abbrev f_MER_WWE_CLAMPS_COUNT : Fld := ⟨0x40090024, 0, 32⟩
/-- MER_XC_CFG.NOLOAD (R183). -/
abbrev f_MER_XC_CFG_NOLOAD : Fld := ⟨0x4009000c, 8, 8⟩
/-- MER_XC_CFG.XC_ABS (R183). -/
abbrev f_MER_XC_CFG_XC_ABS : Fld := ⟨0x4009000c, 16, 16⟩
/-- MER_XC_CFG.XC_EN (R183). -/
abbrev f_MER_XC_CFG_XC_EN : Fld := ⟨0x4009000c, 7, 1⟩
/-- MER_XC_CFG.XC_REL (R183). -/
abbrev f_MER_XC_CFG_XC_REL : Fld := ⟨0x4009000c, 0, 7⟩
/-- MER_XC_COUNT.COUNT (R183). -/
abbrev f_MER_XC_COUNT_COUNT : Fld := ⟨0x40090018, 0, 32⟩
/-- MODE_CAUSE.CAUSE (R52). -/
abbrev f_MODE_CAUSE_CAUSE : Fld := ⟨0x40000210, 0, 8⟩
/-- MODE_CAUSE.DETAIL (R52). -/
abbrev f_MODE_CAUSE_DETAIL : Fld := ⟨0x40000210, 16, 16⟩
/-- MODE_CAUSE.WORLD (R52). -/
abbrev f_MODE_CAUSE_WORLD : Fld := ⟨0x40000210, 8, 8⟩
/-- MODE_ENTRY_STAMP_HI.VALUE (R52). -/
abbrev f_MODE_ENTRY_STAMP_HI_VALUE : Fld := ⟨0x4000020c, 0, 32⟩
/-- MODE_ENTRY_STAMP_LO.VALUE (R52). -/
abbrev f_MODE_ENTRY_STAMP_LO_VALUE : Fld := ⟨0x40000208, 0, 32⟩
/-- MODE_IRQ.CHANGED (R52). -/
abbrev f_MODE_IRQ_CHANGED : Fld := ⟨0x40000214, 0, 1⟩
/-- MODE_IRQ_EN.CHANGED (R52). -/
abbrev f_MODE_IRQ_EN_CHANGED : Fld := ⟨0x40000218, 0, 1⟩
/-- MODE_IRQ_EN.QENTRY (R52). -/
abbrev f_MODE_IRQ_EN_QENTRY : Fld := ⟨0x40000218, 2, 1⟩
/-- MODE_IRQ_EN.REFUSED (R52). -/
abbrev f_MODE_IRQ_EN_REFUSED : Fld := ⟨0x40000218, 1, 1⟩
/-- MODE_IRQ.QENTRY (R52). -/
abbrev f_MODE_IRQ_QENTRY : Fld := ⟨0x40000214, 2, 1⟩
/-- MODE_IRQ.REFUSED (R52). -/
abbrev f_MODE_IRQ_REFUSED : Fld := ⟨0x40000214, 1, 1⟩
/-- MODE_STATUS.MODE (R52). -/
abbrev f_MODE_STATUS_MODE : Fld := ⟨0x40000204, 0, 3⟩
/-- MODE_STATUS.PENDING (R52). -/
abbrev f_MODE_STATUS_PENDING : Fld := ⟨0x40000204, 4, 3⟩
/-- MODE_STATUS.PVALID (R52). -/
abbrev f_MODE_STATUS_PVALID : Fld := ⟨0x40000204, 7, 1⟩
/-- MODE_STATUS.QLATCH (R52). -/
abbrev f_MODE_STATUS_QLATCH : Fld := ⟨0x40000204, 8, 1⟩
/-- SHT_BLEED.DUTY (R205). -/
abbrev f_SHT_BLEED_DUTY (r n : Nat) : Fld := ⟨0x40080400 + 64 * r + 4 * n, 16, 8⟩
/-- SHT_BLEED.MASK (R205). -/
abbrev f_SHT_BLEED_MASK (r n : Nat) : Fld := ⟨0x40080400 + 64 * r + 4 * n, 0, 16⟩
/-- SHT_CTC_CMD.OUTPUT (R205). -/
abbrev f_SHT_CTC_CMD_OUTPUT : Fld := ⟨0x40080008, 0, 2⟩
/-- SHT_CTC_CMD.STATE (R205). -/
abbrev f_SHT_CTC_CMD_STATE : Fld := ⟨0x40080008, 8, 1⟩
/-- SHT_CTC_RESULT.STATE (R205). -/
abbrev f_SHT_CTC_RESULT_STATE : Fld := ⟨0x4008000c, 17, 1⟩
/-- SHT_CTC_RESULT.STATUS (R205). -/
abbrev f_SHT_CTC_RESULT_STATUS : Fld := ⟨0x4008000c, 0, 16⟩
/-- SHT_CTC_RESULT.VALID (R205). -/
abbrev f_SHT_CTC_RESULT_VALID : Fld := ⟨0x4008000c, 31, 1⟩
/-- SHT_CTC_RESULT.WORLD (R205). -/
abbrev f_SHT_CTC_RESULT_WORLD : Fld := ⟨0x4008000c, 18, 2⟩
/-- SHT_CTRL.CLRCNT (R205). -/
abbrev f_SHT_CTRL_CLRCNT : Fld := ⟨0x40080000, 1, 1⟩
/-- SHT_CTRL.FBCHK (R205). -/
abbrev f_SHT_CTRL_FBCHK : Fld := ⟨0x40080000, 0, 1⟩
/-- SHT_CTRL.LOCK (R205). -/
abbrev f_SHT_CTRL_LOCK : Fld := ⟨0x40080000, 31, 1⟩
/-- SHT_DERATE_CU.REQ (R205). -/
abbrev f_SHT_DERATE_CU_REQ : Fld := ⟨0x40080010, 0, 1⟩
/-- SHT_DERATE_OP.REQ (R205). -/
abbrev f_SHT_DERATE_OP_REQ : Fld := ⟨0x40080014, 0, 1⟩
/-- SHT_DWELL.MNEG (R205). -/
abbrev f_SHT_DWELL_MNEG : Fld := ⟨0x4008003c, 10, 10⟩
/-- SHT_DWELL.MPOS (R205). -/
abbrev f_SHT_DWELL_MPOS : Fld := ⟨0x4008003c, 0, 10⟩
/-- SHT_DWELL.PRE (R205). -/
abbrev f_SHT_DWELL_PRE : Fld := ⟨0x4008003c, 20, 10⟩
/-- SHT_HOLD.ACTIVE (R205). -/
abbrev f_SHT_HOLD_ACTIVE : Fld := ⟨0x40080038, 31, 1⟩
/-- SHT_HOLD.POSTHZ (R205). -/
abbrev f_SHT_HOLD_POSTHZ : Fld := ⟨0x40080038, 30, 1⟩
/-- SHT_HOLD.REMAIN (R205). -/
abbrev f_SHT_HOLD_REMAIN : Fld := ⟨0x40080038, 0, 11⟩
/-- SHT_HZ_CFG.ACTION (R205). -/
abbrev f_SHT_HZ_CFG_ACTION (h : Nat) : Fld := ⟨0x40080020 + 4 * h, 14, 2⟩
/-- SHT_HZ_CFG.FILT (R205). -/
abbrev f_SHT_HZ_CFG_FILT (h : Nat) : Fld := ⟨0x40080020 + 4 * h, 16, 8⟩
/-- SHT_HZ_CFG.OPEN_DLY (R205). -/
abbrev f_SHT_HZ_CFG_OPEN_DLY (h : Nat) : Fld := ⟨0x40080020 + 4 * h, 0, 10⟩
/-- SHT_HZ_CFG.PLAUS (R205). -/
abbrev f_SHT_HZ_CFG_PLAUS (h : Nat) : Fld := ⟨0x40080020 + 4 * h, 24, 8⟩
/-- SHT_HZ_COUNT.COUNT (R205). -/
abbrev f_SHT_HZ_COUNT_COUNT : Fld := ⟨0x40080044, 0, 32⟩
/-- SHT_HZ_STAMP_HI.STAMP (R205). -/
abbrev f_SHT_HZ_STAMP_HI_STAMP : Fld := ⟨0x40080054, 0, 32⟩
/-- SHT_HZ_STAMP_LO.STAMP (R205). -/
abbrev f_SHT_HZ_STAMP_LO_STAMP : Fld := ⟨0x40080050, 0, 32⟩
/-- SHT_HZ_STAT.ASSERTED (R205). -/
abbrev f_SHT_HZ_STAT_ASSERTED : Fld := ⟨0x40080030, 8, 4⟩
/-- SHT_HZ_STAT.PINLOW (R205). -/
abbrev f_SHT_HZ_STAT_PINLOW : Fld := ⟨0x40080030, 0, 4⟩
/-- SHT_HZ_STAT.SEEN (R205). -/
abbrev f_SHT_HZ_STAT_SEEN : Fld := ⟨0x40080030, 12, 4⟩
/-- SHT_HZ_STAT.STUCK (R205). -/
abbrev f_SHT_HZ_STAT_STUCK : Fld := ⟨0x40080030, 16, 4⟩
/-- SHT_IN_STAT.CHATTER (R205). -/
abbrev f_SHT_IN_STAT_CHATTER : Fld := ⟨0x40080034, 8, 3⟩
/-- SHT_IN_STAT.FB (R205). -/
abbrev f_SHT_IN_STAT_FB : Fld := ⟨0x40080034, 0, 3⟩
/-- SHT_IRQ.CFAULT (R205). -/
abbrev f_SHT_IRQ_CFAULT : Fld := ⟨0x40080048, 4, 1⟩
/-- SHT_IRQ.CHATTER (R205). -/
abbrev f_SHT_IRQ_CHATTER : Fld := ⟨0x40080048, 5, 1⟩
/-- SHT_IRQ_EN.CFAULT (R205). -/
abbrev f_SHT_IRQ_EN_CFAULT : Fld := ⟨0x4008004c, 4, 1⟩
/-- SHT_IRQ_EN.CHATTER (R205). -/
abbrev f_SHT_IRQ_EN_CHATTER : Fld := ⟨0x4008004c, 5, 1⟩
/-- SHT_IRQ_EN.HAZARD (R205). -/
abbrev f_SHT_IRQ_EN_HAZARD : Fld := ⟨0x4008004c, 1, 1⟩
/-- SHT_IRQ_EN.PRETIMEOUT (R205). -/
abbrev f_SHT_IRQ_EN_PRETIMEOUT : Fld := ⟨0x4008004c, 3, 1⟩
/-- SHT_IRQ_EN.REFUSED (R205). -/
abbrev f_SHT_IRQ_EN_REFUSED : Fld := ⟨0x4008004c, 0, 1⟩
/-- SHT_IRQ_EN.STUCK (R205). -/
abbrev f_SHT_IRQ_EN_STUCK : Fld := ⟨0x4008004c, 2, 1⟩
/-- SHT_IRQ.HAZARD (R205). -/
abbrev f_SHT_IRQ_HAZARD : Fld := ⟨0x40080048, 1, 1⟩
/-- SHT_IRQ.PRETIMEOUT (R205). -/
abbrev f_SHT_IRQ_PRETIMEOUT : Fld := ⟨0x40080048, 3, 1⟩
/-- SHT_IRQ.REFUSED (R205). -/
abbrev f_SHT_IRQ_REFUSED : Fld := ⟨0x40080048, 0, 1⟩
/-- SHT_IRQ.STUCK (R205). -/
abbrev f_SHT_IRQ_STUCK : Fld := ⟨0x40080048, 2, 1⟩
/-- SHT_LIMP.DEFER (R205). -/
abbrev f_SHT_LIMP_DEFER : Fld := ⟨0x4008001c, 31, 1⟩
/-- SHT_LIMP.LIMP_PCT (R205). -/
abbrev f_SHT_LIMP_LIMP_PCT : Fld := ⟨0x4008001c, 0, 5⟩
/-- SHT_LIMP.PENDING (R205). -/
abbrev f_SHT_LIMP_PENDING : Fld := ⟨0x4008001c, 8, 5⟩
/-- SHT_PRE_CFG.PRE_MAX (R205). -/
abbrev f_SHT_PRE_CFG_PRE_MAX : Fld := ⟨0x40080018, 16, 16⟩
/-- SHT_PRE_CFG.PRE_MIN (R205). -/
abbrev f_SHT_PRE_CFG_PRE_MIN : Fld := ⟨0x40080018, 0, 16⟩
/-- SHT_REFUSED.COUNT (R205). -/
abbrev f_SHT_REFUSED_COUNT : Fld := ⟨0x40080040, 0, 32⟩
/-- SHT_STATUS.BOUNDED (R205). -/
abbrev f_SHT_STATUS_BOUNDED : Fld := ⟨0x40080004, 8, 1⟩
/-- SHT_STATUS.CFAULT (R205). -/
abbrev f_SHT_STATUS_CFAULT : Fld := ⟨0x40080004, 12, 3⟩
/-- SHT_STATUS.DERATE (R205). -/
abbrev f_SHT_STATUS_DERATE : Fld := ⟨0x40080004, 3, 1⟩
/-- SHT_STATUS.DRQ (R205). -/
abbrev f_SHT_STATUS_DRQ : Fld := ⟨0x40080004, 4, 3⟩
/-- SHT_STATUS.HAZARD (R205). -/
abbrev f_SHT_STATUS_HAZARD : Fld := ⟨0x40080004, 10, 1⟩
/-- SHT_STATUS.HOLD (R205). -/
abbrev f_SHT_STATUS_HOLD : Fld := ⟨0x40080004, 7, 1⟩
/-- SHT_STATUS.LIMP (R205). -/
abbrev f_SHT_STATUS_LIMP : Fld := ⟨0x40080004, 9, 1⟩
/-- SHT_STATUS.NORATE (R205). -/
abbrev f_SHT_STATUS_NORATE : Fld := ⟨0x40080004, 11, 1⟩
/-- SHT_STATUS.OUT (R205). -/
abbrev f_SHT_STATUS_OUT : Fld := ⟨0x40080004, 0, 3⟩
/-- SPG_ABSENT.COUNT (R142). -/
abbrev f_SPG_ABSENT_COUNT : Fld := ⟨0x4006000c, 0, 32⟩
/-- SPG_BIN_CFG.ACTIVE (R142). -/
abbrev f_SPG_BIN_CFG_ACTIVE (n : Nat) : Fld := ⟨0x40060400 + 4 * n, 0, 1⟩
/-- SPG_BIN_CFG.AVGSH (R142). -/
abbrev f_SPG_BIN_CFG_AVGSH (n : Nat) : Fld := ⟨0x40060400 + 4 * n, 8, 4⟩
/-- SPG_BIN_CFG.AVGSH_PILOT (R142). -/
abbrev f_SPG_BIN_CFG_AVGSH_PILOT (n : Nat) : Fld := ⟨0x40060400 + 4 * n, 12, 4⟩
/-- SPG_BIN_CFG.GATE (R142). -/
abbrev f_SPG_BIN_CFG_GATE (n : Nat) : Fld := ⟨0x40060400 + 4 * n, 16, 16⟩
/-- SPG_BIN_IRMS.IRMS (R142). -/
abbrev f_SPG_BIN_IRMS_IRMS (n : Nat) : Fld := ⟨0x40060800 + 4 * n, 0, 16⟩
/-- SPG_BIN_IRMS.SEGIRMS (R142). -/
abbrev f_SPG_BIN_IRMS_SEGIRMS (n : Nat) : Fld := ⟨0x40060800 + 4 * n, 16, 16⟩
/-- SPG_BIN_LIM.AGEMAX (R142). -/
abbrev f_SPG_BIN_LIM_AGEMAX (n : Nat) : Fld := ⟨0x40060600 + 4 * n, 16, 16⟩
/-- SPG_BIN_LIM.IFLOOR (R142). -/
abbrev f_SPG_BIN_LIM_IFLOOR (n : Nat) : Fld := ⟨0x40060600 + 4 * n, 0, 16⟩
/-- SPG_BIN_STAT.LOG2L (R142). -/
abbrev f_SPG_BIN_STAT_LOG2L (n : Nat) : Fld := ⟨0x40060a00 + 4 * n, 18, 5⟩
/-- SPG_BIN_STAT.SEGPOS (R142). -/
abbrev f_SPG_BIN_STAT_SEGPOS (n : Nat) : Fld := ⟨0x40060a00 + 4 * n, 0, 18⟩
/-- SPG_BIN_STAT.STARVED (R142). -/
abbrev f_SPG_BIN_STAT_STARVED (n : Nat) : Fld := ⟨0x40060a00 + 4 * n, 31, 1⟩
/-- SPG_CTRL.CLRCNT (R142). -/
abbrev f_SPG_CTRL_CLRCNT : Fld := ⟨0x40060000, 2, 1⟩
/-- SPG_CTRL.EN (R142). -/
abbrev f_SPG_CTRL_EN : Fld := ⟨0x40060000, 0, 1⟩
/-- SPG_CTRL.LOCK (R142). -/
abbrev f_SPG_CTRL_LOCK : Fld := ⟨0x40060000, 31, 1⟩
/-- SPG_CTRL.PILOT_EN (R142). -/
abbrev f_SPG_CTRL_PILOT_EN : Fld := ⟨0x40060000, 1, 1⟩
/-- SPG_FIT_CFG.ITER (R142). -/
abbrev f_SPG_FIT_CFG_ITER : Fld := ⟨0x40060014, 0, 6⟩
/-- SPG_FIT_CFG.MINBINS (R142). -/
abbrev f_SPG_FIT_CFG_MINBINS : Fld := ⟨0x40060014, 16, 8⟩
/-- SPG_FIT_CYCLE.CYCLE (R142). -/
abbrev f_SPG_FIT_CYCLE_CYCLE : Fld := ⟨0x40060018, 0, 32⟩
/-- SPG_FIT_OVERRUN.COUNT (R142). -/
abbrev f_SPG_FIT_OVERRUN_COUNT : Fld := ⟨0x4006001c, 0, 32⟩
/-- SPG_FOLDS.COUNT (R142). -/
abbrev f_SPG_FOLDS_COUNT : Fld := ⟨0x40060008, 0, 32⟩
/-- SPG_IRQ_EN.FIT_OVERRUN (R142). -/
abbrev f_SPG_IRQ_EN_FIT_OVERRUN : Fld := ⟨0x40060034, 3, 1⟩
/-- SPG_IRQ_EN.PILOT (R142). -/
abbrev f_SPG_IRQ_EN_PILOT : Fld := ⟨0x40060034, 2, 1⟩
/-- SPG_IRQ_EN.STARVED (R142). -/
abbrev f_SPG_IRQ_EN_STARVED : Fld := ⟨0x40060034, 1, 1⟩
/-- SPG_IRQ_EN.TABLE (R142). -/
abbrev f_SPG_IRQ_EN_TABLE : Fld := ⟨0x40060034, 0, 1⟩
/-- SPG_IRQ.FIT_OVERRUN (R142). -/
abbrev f_SPG_IRQ_FIT_OVERRUN : Fld := ⟨0x40060030, 3, 1⟩
/-- SPG_IRQ.PILOT (R142). -/
abbrev f_SPG_IRQ_PILOT : Fld := ⟨0x40060030, 2, 1⟩
/-- SPG_IRQ.STARVED (R142). -/
abbrev f_SPG_IRQ_STARVED : Fld := ⟨0x40060030, 1, 1⟩
/-- SPG_IRQ.TABLE (R142). -/
abbrev f_SPG_IRQ_TABLE : Fld := ⟨0x40060030, 0, 1⟩
/-- SPG_PILOT_AMP.VALUE (R142). -/
abbrev f_SPG_PILOT_AMP_VALUE : Fld := ⟨0x40060028, 0, 32⟩
/-- SPG_PILOT_CFG.AMP_MAX (R142). -/
abbrev f_SPG_PILOT_CFG_AMP_MAX : Fld := ⟨0x40060020, 16, 16⟩
/-- SPG_PILOT_CFG.STARVE (R142). -/
abbrev f_SPG_PILOT_CFG_STARVE : Fld := ⟨0x40060020, 0, 16⟩
/-- SPG_PILOT_DUR.VALUE (R142). -/
abbrev f_SPG_PILOT_DUR_VALUE : Fld := ⟨0x4006002c, 0, 32⟩
/-- SPG_PILOT_REQ.BIN (R142). -/
abbrev f_SPG_PILOT_REQ_BIN : Fld := ⟨0x40060024, 16, 8⟩
/-- SPG_PILOT_REQ.STATE (R142). -/
abbrev f_SPG_PILOT_REQ_STATE : Fld := ⟨0x40060024, 0, 3⟩
/-- SPG_REFSET.COUNT (R142). -/
abbrev f_SPG_REFSET_COUNT : Fld := ⟨0x40060010, 0, 32⟩
/-- SPG_STATUS.ISRC (R142). -/
abbrev f_SPG_STATUS_ISRC : Fld := ⟨0x40060004, 4, 2⟩
/-- SPG_STATUS.PSTATE (R142). -/
abbrev f_SPG_STATUS_PSTATE : Fld := ⟨0x40060004, 8, 3⟩
/-- SPG_STATUS.RATE (R142). -/
abbrev f_SPG_STATUS_RATE : Fld := ⟨0x40060004, 0, 2⟩
/-- SPG_STATUS.REGEN (R142). -/
abbrev f_SPG_STATUS_REGEN : Fld := ⟨0x40060004, 2, 1⟩
/-- SPG_STATUS.TABLE (R142). -/
abbrev f_SPG_STATUS_TABLE : Fld := ⟨0x40060004, 3, 1⟩
/-- SVC_BLKERR.COUNT (R465). -/
abbrev f_SVC_BLKERR_COUNT : Fld := ⟨0x40200014, 0, 32⟩
/-- SVC_CTRL.CLRCNT (R465). -/
abbrev f_SVC_CTRL_CLRCNT : Fld := ⟨0x40200000, 2, 1⟩
/-- SVC_CTRL.DIAG (R465). -/
abbrev f_SVC_CTRL_DIAG : Fld := ⟨0x40200000, 1, 1⟩
/-- SVC_CTRL.EN (R465). -/
abbrev f_SVC_CTRL_EN : Fld := ⟨0x40200000, 0, 1⟩
/-- SVC_CTRL.LOCK (R465). -/
abbrev f_SVC_CTRL_LOCK : Fld := ⟨0x40200000, 31, 1⟩
/-- SVC_IRQ.ACTIVATED (R465). -/
abbrev f_SVC_IRQ_ACTIVATED : Fld := ⟨0x4020001c, 0, 1⟩
/-- SVC_IRQ_EN.ACTIVATED (R465). -/
abbrev f_SVC_IRQ_EN_ACTIVATED : Fld := ⟨0x40200020, 0, 1⟩
/-- SVC_IRQ_EN.ERASED (R465). -/
abbrev f_SVC_IRQ_EN_ERASED : Fld := ⟨0x40200020, 3, 1⟩
/-- SVC_IRQ_EN.LOCKOUT (R465). -/
abbrev f_SVC_IRQ_EN_LOCKOUT : Fld := ⟨0x40200020, 2, 1⟩
/-- SVC_IRQ_EN.PWFAIL (R465). -/
abbrev f_SVC_IRQ_EN_PWFAIL : Fld := ⟨0x40200020, 1, 1⟩
/-- SVC_IRQ_EN.UNDEF (R465). -/
abbrev f_SVC_IRQ_EN_UNDEF : Fld := ⟨0x40200020, 4, 1⟩
/-- SVC_IRQ.ERASED (R465). -/
abbrev f_SVC_IRQ_ERASED : Fld := ⟨0x4020001c, 3, 1⟩
/-- SVC_IRQ.LOCKOUT (R465). -/
abbrev f_SVC_IRQ_LOCKOUT : Fld := ⟨0x4020001c, 2, 1⟩
/-- SVC_IRQ.PWFAIL (R465). -/
abbrev f_SVC_IRQ_PWFAIL : Fld := ⟨0x4020001c, 1, 1⟩
/-- SVC_IRQ.UNDEF (R465). -/
abbrev f_SVC_IRQ_UNDEF : Fld := ⟨0x4020001c, 4, 1⟩
/-- SVC_LASTWR.BLOCK (R465). -/
abbrev f_SVC_LASTWR_BLOCK : Fld := ⟨0x40200008, 22, 6⟩
/-- SVC_LASTWR.KIND (R465). -/
abbrev f_SVC_LASTWR_KIND : Fld := ⟨0x40200008, 28, 3⟩
/-- SVC_LASTWR.STATUS (R465). -/
abbrev f_SVC_LASTWR_STATUS : Fld := ⟨0x40200008, 0, 16⟩
/-- SVC_LASTWR.VALID (R465). -/
abbrev f_SVC_LASTWR_VALID : Fld := ⟨0x40200008, 31, 1⟩
/-- SVC_PWFAIL.COUNT (R465). -/
abbrev f_SVC_PWFAIL_COUNT : Fld := ⟨0x40200018, 0, 32⟩
/-- SVC_STATUS.ACTIVE (R465). -/
abbrev f_SVC_STATUS_ACTIVE : Fld := ⟨0x40200004, 0, 1⟩
/-- SVC_STATUS.ATTEMPTS (R465). -/
abbrev f_SVC_STATUS_ATTEMPTS : Fld := ⟨0x40200004, 12, 4⟩
/-- SVC_STATUS.BUSY (R465). -/
abbrev f_SVC_STATUS_BUSY : Fld := ⟨0x40200004, 6, 1⟩
/-- SVC_STATUS.CLASS (R465). -/
abbrev f_SVC_STATUS_CLASS : Fld := ⟨0x40200004, 1, 1⟩
/-- SVC_STATUS.CLKSTOP (R465). -/
abbrev f_SVC_STATUS_CLKSTOP : Fld := ⟨0x40200004, 7, 1⟩
/-- SVC_STATUS.DI (R465). -/
abbrev f_SVC_STATUS_DI : Fld := ⟨0x40200004, 8, 2⟩
/-- SVC_STATUS.ERASING (R465). -/
abbrev f_SVC_STATUS_ERASING : Fld := ⟨0x40200004, 5, 1⟩
/-- SVC_STATUS.LOCKED (R465). -/
abbrev f_SVC_STATUS_LOCKED : Fld := ⟨0x40200004, 3, 1⟩
/-- SVC_STATUS.LOCKOUT (R465). -/
abbrev f_SVC_STATUS_LOCKOUT : Fld := ⟨0x40200004, 4, 1⟩
/-- SVC_STATUS.PWSET (R465). -/
abbrev f_SVC_STATUS_PWSET : Fld := ⟨0x40200004, 2, 1⟩
/-- SVC_UNDEF_HI.MASK (R465). -/
abbrev f_SVC_UNDEF_HI_MASK : Fld := ⟨0x40200010, 0, 32⟩
/-- SVC_UNDEF_LO.MASK (R465). -/
abbrev f_SVC_UNDEF_LO_MASK : Fld := ⟨0x4020000c, 0, 32⟩
/-- TAG_CTRL.CLRCNT (R481). -/
abbrev f_TAG_CTRL_CLRCNT : Fld := ⟨0x40210000, 8, 1⟩
/-- TAG_CTRL.EN (R481). -/
abbrev f_TAG_CTRL_EN : Fld := ⟨0x40210000, 0, 1⟩
/-- TAG_CTRL.LOCK (R481). -/
abbrev f_TAG_CTRL_LOCK : Fld := ⟨0x40210000, 31, 1⟩
/-- TAG_CTRL.MAXRATE (R481). -/
abbrev f_TAG_CTRL_MAXRATE : Fld := ⟨0x40210000, 4, 2⟩
/-- TAG_CTRL.RECORD (R481). -/
abbrev f_TAG_CTRL_RECORD : Fld := ⟨0x40210000, 2, 1⟩
/-- TAG_CTRL.VHARV_EN (R481). -/
abbrev f_TAG_CTRL_VHARV_EN : Fld := ⟨0x40210000, 3, 1⟩
/-- TAG_IRQ.COMMITTED (R481). -/
abbrev f_TAG_IRQ_COMMITTED : Fld := ⟨0x40210034, 4, 1⟩
/-- TAG_IRQ_EN.COMMITTED (R481). -/
abbrev f_TAG_IRQ_EN_COMMITTED : Fld := ⟨0x40210038, 4, 1⟩
/-- TAG_IRQ_EN.FIELD (R481). -/
abbrev f_TAG_IRQ_EN_FIELD : Fld := ⟨0x40210038, 0, 1⟩
/-- TAG_IRQ_EN.LOCKOUT (R481). -/
abbrev f_TAG_IRQ_EN_LOCKOUT : Fld := ⟨0x40210038, 3, 1⟩
/-- TAG_IRQ_EN.PWFAIL (R481). -/
abbrev f_TAG_IRQ_EN_PWFAIL : Fld := ⟨0x40210038, 2, 1⟩
/-- TAG_IRQ_EN.RFWRITE (R481). -/
abbrev f_TAG_IRQ_EN_RFWRITE : Fld := ⟨0x40210038, 1, 1⟩
/-- TAG_IRQ_EN.WTX (R481). -/
abbrev f_TAG_IRQ_EN_WTX : Fld := ⟨0x40210038, 5, 1⟩
/-- TAG_IRQ.FIELD (R481). -/
abbrev f_TAG_IRQ_FIELD : Fld := ⟨0x40210034, 0, 1⟩
/-- TAG_IRQ.LOCKOUT (R481). -/
abbrev f_TAG_IRQ_LOCKOUT : Fld := ⟨0x40210034, 3, 1⟩
/-- TAG_IRQ.PWFAIL (R481). -/
abbrev f_TAG_IRQ_PWFAIL : Fld := ⟨0x40210034, 2, 1⟩
/-- TAG_IRQ.RFWRITE (R481). -/
abbrev f_TAG_IRQ_RFWRITE : Fld := ⟨0x40210034, 1, 1⟩
/-- TAG_IRQ.WTX (R481). -/
abbrev f_TAG_IRQ_WTX : Fld := ⟨0x40210034, 5, 1⟩
/-- TAG_PWFAIL.VALUE (R481). -/
abbrev f_TAG_PWFAIL_VALUE : Fld := ⟨0x4021002c, 0, 32⟩
/-- TAG_RFWRITES.VALUE (R481). -/
abbrev f_TAG_RFWRITES_VALUE : Fld := ⟨0x40210028, 0, 32⟩
/-- TAG_STATUS.ATTEMPTS (R481). -/
abbrev f_TAG_STATUS_ATTEMPTS : Fld := ⟨0x40210004, 11, 5⟩
/-- TAG_STATUS.AUTH (R481). -/
abbrev f_TAG_STATUS_AUTH : Fld := ⟨0x40210004, 16, 1⟩
/-- TAG_STATUS.DR (R481). -/
abbrev f_TAG_STATUS_DR : Fld := ⟨0x40210004, 6, 2⟩
/-- TAG_STATUS.DS (R481). -/
abbrev f_TAG_STATUS_DS : Fld := ⟨0x40210004, 4, 2⟩
/-- TAG_STATUS.FIELD (R481). -/
abbrev f_TAG_STATUS_FIELD : Fld := ⟨0x40210004, 8, 1⟩
/-- TAG_STATUS.LOCKOUT (R481). -/
abbrev f_TAG_STATUS_LOCKOUT : Fld := ⟨0x40210004, 10, 1⟩
/-- TAG_STATUS.PROT (R481). -/
abbrev f_TAG_STATUS_PROT : Fld := ⟨0x40210004, 3, 1⟩
/-- TAG_STATUS.PWSET (R481). -/
abbrev f_TAG_STATUS_PWSET : Fld := ⟨0x40210004, 9, 1⟩
/-- TAG_STATUS.ROLLING (R481). -/
abbrev f_TAG_STATUS_ROLLING : Fld := ⟨0x40210004, 20, 1⟩
/-- TAG_STATUS.STAGING (R481). -/
abbrev f_TAG_STATUS_STAGING : Fld := ⟨0x40210004, 19, 1⟩
/-- TAG_STATUS.STATE (R481). -/
abbrev f_TAG_STATUS_STATE : Fld := ⟨0x40210004, 0, 3⟩
/-- TAG_STATUS.VHARV_ON (R481). -/
abbrev f_TAG_STATUS_VHARV_ON : Fld := ⟨0x40210004, 21, 1⟩
/-- TAG_UID_HI.VALUE (R481). -/
abbrev f_TAG_UID_HI_VALUE : Fld := ⟨0x4021000c, 0, 32⟩
/-- TAG_UID_LO.VALUE (R481). -/
abbrev f_TAG_UID_LO_VALUE : Fld := ⟨0x40210008, 0, 32⟩
/-- TAG_WBUF.VALUE (R481). -/
abbrev f_TAG_WBUF_VALUE (i : Nat) : Fld := ⟨0x40210010 + 4 * i, 0, 32⟩
/-- TAG_WCMD.BLOCK (R481). -/
abbrev f_TAG_WCMD_BLOCK : Fld := ⟨0x40210020, 0, 9⟩
/-- TAG_WCMD.GO (R481). -/
abbrev f_TAG_WCMD_GO : Fld := ⟨0x40210020, 31, 1⟩
/-- TAG_WCMD.OP (R481). -/
abbrev f_TAG_WCMD_OP : Fld := ⟨0x40210020, 29, 2⟩
/-- TAG_WRESULT.OP (R481). -/
abbrev f_TAG_WRESULT_OP : Fld := ⟨0x40210024, 16, 2⟩
/-- TAG_WRESULT.STATUS (R481). -/
abbrev f_TAG_WRESULT_STATUS : Fld := ⟨0x40210024, 0, 16⟩
/-- TAG_WRESULT.VALID (R481). -/
abbrev f_TAG_WRESULT_VALID : Fld := ⟨0x40210024, 31, 1⟩
/-- TAG_WTX.VALUE (R481). -/
abbrev f_TAG_WTX_VALUE : Fld := ⟨0x40210030, 0, 32⟩
/-- TG_BUS_ERR.COUNT (R342). -/
abbrev f_TG_BUS_ERR_COUNT : Fld := ⟨0x40030008, 0, 32⟩
/-- TG_CTRL.CLRCNT (R342). -/
abbrev f_TG_CTRL_CLRCNT : Fld := ⟨0x40030000, 1, 1⟩
/-- TG_CTRL.LOCK (R342). -/
abbrev f_TG_CTRL_LOCK : Fld := ⟨0x40030000, 31, 1⟩
/-- TG_D2D_FAIL.COUNT (R342). -/
abbrev f_TG_D2D_FAIL_COUNT : Fld := ⟨0x40030014, 0, 32⟩
/-- TG_ECC_CE.COUNT (R342). -/
abbrev f_TG_ECC_CE_COUNT : Fld := ⟨0x4003000c, 0, 32⟩
/-- TG_ECC_UE.COUNT (R342). -/
abbrev f_TG_ECC_UE_COUNT : Fld := ⟨0x40030010, 0, 32⟩
/-- TG_IRQ_EN.EN (R342). -/
abbrev f_TG_IRQ_EN_EN : Fld := ⟨0x40030030, 0, 2⟩
/-- TG_PERM.PERM (R342). -/
abbrev f_TG_PERM_PERM (g : Nat) : Fld := ⟨0x40030100 + 4 * g, 0, 32⟩
/-- TG_STATUS.D2D_DOWN (R342). -/
abbrev f_TG_STATUS_D2D_DOWN : Fld := ⟨0x40030004, 9, 1⟩
/-- TG_STATUS.D2D_UP (R342). -/
abbrev f_TG_STATUS_D2D_UP : Fld := ⟨0x40030004, 8, 1⟩
/-- TG_STATUS.PAIRFLT (R342). -/
abbrev f_TG_STATUS_PAIRFLT : Fld := ⟨0x40030004, 10, 1⟩
/-- TG_STATUS.READY (R342). -/
abbrev f_TG_STATUS_READY : Fld := ⟨0x40030004, 0, 8⟩
/-- TG_VLOG_ADDR.VALUE (R342). -/
abbrev f_TG_VLOG_ADDR_VALUE (w j : Nat) : Fld := ⟨0x40030400 + 128 * w + 16 * j, 0, 32⟩
/-- TG_VLOG_INFO.CLASS (R342). -/
abbrev f_TG_VLOG_INFO_CLASS (w j : Nat) : Fld := ⟨0x40030404 + 128 * w + 16 * j, 13, 3⟩
/-- TG_VLOG_INFO.ENGINE (R342). -/
abbrev f_TG_VLOG_INFO_ENGINE (w j : Nat) : Fld := ⟨0x40030404 + 128 * w + 16 * j, 16, 8⟩
/-- TG_VLOG_INFO.GATE (R342). -/
abbrev f_TG_VLOG_INFO_GATE (w j : Nat) : Fld := ⟨0x40030404 + 128 * w + 16 * j, 24, 8⟩
/-- TG_VLOG_INFO.IMPRECISE (R342). -/
abbrev f_TG_VLOG_INFO_IMPRECISE (w j : Nat) : Fld := ⟨0x40030404 + 128 * w + 16 * j, 10, 1⟩
/-- TG_VLOG_INFO.KIND (R342). -/
abbrev f_TG_VLOG_INFO_KIND (w j : Nat) : Fld := ⟨0x40030404 + 128 * w + 16 * j, 11, 2⟩
/-- TG_VLOG_INFO.REASON (R342). -/
abbrev f_TG_VLOG_INFO_REASON (w j : Nat) : Fld := ⟨0x40030404 + 128 * w + 16 * j, 8, 2⟩
/-- TG_VLOG_INFO.REPEAT (R342). -/
abbrev f_TG_VLOG_INFO_REPEAT (w j : Nat) : Fld := ⟨0x40030404 + 128 * w + 16 * j, 0, 8⟩
/-- TG_VLOG_STAMP_HI.VALUE (R342). -/
abbrev f_TG_VLOG_STAMP_HI_VALUE (w j : Nat) : Fld := ⟨0x4003040c + 128 * w + 16 * j, 0, 32⟩
/-- TG_VLOG_STAMP_LO.VALUE (R342). -/
abbrev f_TG_VLOG_STAMP_LO_VALUE (w j : Nat) : Fld := ⟨0x40030408 + 128 * w + 16 * j, 0, 32⟩
/-- TG_VPOP.POP (R342). -/
abbrev f_TG_VPOP_POP (w : Nat) : Fld := ⟨0x40030028 + 4 * w, 0, 1⟩
/-- TG_VSTAT.DEPTH (R342). -/
abbrev f_TG_VSTAT_DEPTH (w : Nat) : Fld := ⟨0x40030020 + 4 * w, 0, 4⟩
/-- TG_VSTAT.LOST (R342). -/
abbrev f_TG_VSTAT_LOST (w : Nat) : Fld := ⟨0x40030020 + 4 * w, 16, 16⟩
/-- TG_WIN_HI.EN (R342). -/
abbrev f_TG_WIN_HI_EN (i : Nat) : Fld := ⟨0x40030304 + 8 * i, 0, 1⟩
/-- TG_WIN_HI.LAST (R342). -/
abbrev f_TG_WIN_HI_LAST (i : Nat) : Fld := ⟨0x40030304 + 8 * i, 12, 20⟩
/-- TG_WIN_LO.BASE (R342). -/
abbrev f_TG_WIN_LO_BASE (i : Nat) : Fld := ⟨0x40030300 + 8 * i, 12, 20⟩
/-- TG_WIN_LO.OWNER (R342). -/
abbrev f_TG_WIN_LO_OWNER (i : Nat) : Fld := ⟨0x40030300 + 8 * i, 3, 1⟩
/-- TG_WIN_LO.XO (R342). -/
abbrev f_TG_WIN_LO_XO (i : Nat) : Fld := ⟨0x40030300 + 8 * i, 2, 1⟩
/-- TG_WR_REFUSED.COUNT (R342). -/
abbrev f_TG_WR_REFUSED_COUNT : Fld := ⟨0x40030018, 0, 32⟩
/-- TMP_ACTIVE.SRC (R422). -/
abbrev f_TMP_ACTIVE_SRC : Fld := ⟨0x4017000c, 0, 14⟩
/-- TMP_COUNT.VALUE (R422). -/
abbrev f_TMP_COUNT_VALUE (s : Nat) : Fld := ⟨0x40170040 + 4 * s, 0, 32⟩
/-- TMP_CTRL.CLRCNT (R422). -/
abbrev f_TMP_CTRL_CLRCNT : Fld := ⟨0x40170000, 1, 1⟩
/-- TMP_CTRL.LOCK (R422). -/
abbrev f_TMP_CTRL_LOCK : Fld := ⟨0x40170000, 31, 1⟩
/-- TMP_CTRL.TEST_EN (R422). -/
abbrev f_TMP_CTRL_TEST_EN : Fld := ⟨0x40170000, 0, 1⟩
/-- TMP_DISABLED.SRC (R422). -/
abbrev f_TMP_DISABLED_SRC : Fld := ⟨0x40170014, 0, 14⟩
/-- TMP_GRADE.GRADE0 (R422). -/
abbrev f_TMP_GRADE_GRADE0 : Fld := ⟨0x40170018, 0, 2⟩
/-- TMP_GRADE.GRADE1 (R422). -/
abbrev f_TMP_GRADE_GRADE1 : Fld := ⟨0x40170018, 2, 2⟩
/-- TMP_GRADE.GRADE10 (R422). -/
abbrev f_TMP_GRADE_GRADE10 : Fld := ⟨0x40170018, 20, 2⟩
/-- TMP_GRADE.GRADE11 (R422). -/
abbrev f_TMP_GRADE_GRADE11 : Fld := ⟨0x40170018, 22, 2⟩
/-- TMP_GRADE.GRADE12 (R422). -/
abbrev f_TMP_GRADE_GRADE12 : Fld := ⟨0x40170018, 24, 2⟩
/-- TMP_GRADE.GRADE13 (R422). -/
abbrev f_TMP_GRADE_GRADE13 : Fld := ⟨0x40170018, 26, 2⟩
/-- TMP_GRADE.GRADE2 (R422). -/
abbrev f_TMP_GRADE_GRADE2 : Fld := ⟨0x40170018, 4, 2⟩
/-- TMP_GRADE.GRADE3 (R422). -/
abbrev f_TMP_GRADE_GRADE3 : Fld := ⟨0x40170018, 6, 2⟩
/-- TMP_GRADE.GRADE4 (R422). -/
abbrev f_TMP_GRADE_GRADE4 : Fld := ⟨0x40170018, 8, 2⟩
/-- TMP_GRADE.GRADE5 (R422). -/
abbrev f_TMP_GRADE_GRADE5 : Fld := ⟨0x40170018, 10, 2⟩
/-- TMP_GRADE.GRADE6 (R422). -/
abbrev f_TMP_GRADE_GRADE6 : Fld := ⟨0x40170018, 12, 2⟩
/-- TMP_GRADE.GRADE7 (R422). -/
abbrev f_TMP_GRADE_GRADE7 : Fld := ⟨0x40170018, 14, 2⟩
/-- TMP_GRADE.GRADE8 (R422). -/
abbrev f_TMP_GRADE_GRADE8 : Fld := ⟨0x40170018, 16, 2⟩
/-- TMP_GRADE.GRADE9 (R422). -/
abbrev f_TMP_GRADE_GRADE9 : Fld := ⟨0x40170018, 18, 2⟩
/-- TMP_IRQ.BACKUP (R422). -/
abbrev f_TMP_IRQ_BACKUP : Fld := ⟨0x40170030, 3, 1⟩
/-- TMP_IRQ_EN.BACKUP (R422). -/
abbrev f_TMP_IRQ_EN_BACKUP : Fld := ⟨0x40170034, 3, 1⟩
/-- TMP_IRQ_EN.GRADE_REFUSED (R422). -/
abbrev f_TMP_IRQ_EN_GRADE_REFUSED : Fld := ⟨0x40170034, 2, 1⟩
/-- TMP_IRQ_EN.MONFAULT (R422). -/
abbrev f_TMP_IRQ_EN_MONFAULT : Fld := ⟨0x40170034, 1, 1⟩
/-- TMP_IRQ_EN.TRIP (R422). -/
abbrev f_TMP_IRQ_EN_TRIP : Fld := ⟨0x40170034, 0, 1⟩
/-- TMP_IRQ.GRADE_REFUSED (R422). -/
abbrev f_TMP_IRQ_GRADE_REFUSED : Fld := ⟨0x40170030, 2, 1⟩
/-- TMP_IRQ.MONFAULT (R422). -/
abbrev f_TMP_IRQ_MONFAULT : Fld := ⟨0x40170030, 1, 1⟩
/-- TMP_IRQ.TRIP (R422). -/
abbrev f_TMP_IRQ_TRIP : Fld := ⟨0x40170030, 0, 1⟩
/-- TMP_LAST.GRADE (R422). -/
abbrev f_TMP_LAST_GRADE : Fld := ⟨0x40170020, 8, 2⟩
/-- TMP_LAST.INDEX (R422). -/
abbrev f_TMP_LAST_INDEX : Fld := ⟨0x40170020, 16, 16⟩
/-- TMP_LAST.KIND (R422). -/
abbrev f_TMP_LAST_KIND : Fld := ⟨0x40170020, 4, 3⟩
/-- TMP_LAST.SIDE (R422). -/
abbrev f_TMP_LAST_SIDE : Fld := ⟨0x40170020, 7, 1⟩
/-- TMP_LAST.SRC (R422). -/
abbrev f_TMP_LAST_SRC : Fld := ⟨0x40170020, 0, 4⟩
/-- TMP_LAST_STAMP_HI.STAMP (R422). -/
abbrev f_TMP_LAST_STAMP_HI_STAMP : Fld := ⟨0x40170028, 0, 32⟩
/-- TMP_LAST_STAMP_LO.STAMP (R422). -/
abbrev f_TMP_LAST_STAMP_LO_STAMP : Fld := ⟨0x40170024, 0, 32⟩
/-- TMP_MONFAULT.SRC (R422). -/
abbrev f_TMP_MONFAULT_SRC : Fld := ⟨0x40170010, 0, 14⟩
/-- TMP_RIND_HI.VALUE (R422). -/
abbrev f_TMP_RIND_HI_VALUE : Fld := ⟨0x4017003c, 0, 32⟩
/-- TMP_RIND_LO.VALUE (R422). -/
abbrev f_TMP_RIND_LO_VALUE : Fld := ⟨0x40170038, 0, 32⟩
/-- TMP_STATUS.TESTING (R422). -/
abbrev f_TMP_STATUS_TESTING : Fld := ⟨0x40170004, 16, 1⟩
/-- TMP_STATUS.TSRC (R422). -/
abbrev f_TMP_STATUS_TSRC : Fld := ⟨0x40170004, 8, 4⟩
/-- TMP_STATUS.TUNIT (R422). -/
abbrev f_TMP_STATUS_TUNIT : Fld := ⟨0x40170004, 0, 6⟩
/-- TMP_TEMP.TJ (R422). -/
abbrev f_TMP_TEMP_TJ : Fld := ⟨0x4017002c, 0, 16⟩
/-- TMP_TEST.PERIOD (R422). -/
abbrev f_TMP_TEST_PERIOD : Fld := ⟨0x4017001c, 0, 16⟩
/-- TMP_TRIP.SRC (R422). -/
abbrev f_TMP_TRIP_SRC : Fld := ⟨0x40170008, 0, 14⟩
/-- TRG_CTRL.ASM (R89). -/
abbrev f_TRG_CTRL_ASM : Fld := ⟨0x40040800, 4, 4⟩
/-- TRG_CTRL.LOCK (R89). -/
abbrev f_TRG_CTRL_LOCK : Fld := ⟨0x40040800, 31, 1⟩
/-- TRG_CTRL.RATE (R89). -/
abbrev f_TRG_CTRL_RATE : Fld := ⟨0x40040800, 0, 2⟩
/-- TRG_CTRL.UPLINK (R89). -/
abbrev f_TRG_CTRL_UPLINK : Fld := ⟨0x40040800, 8, 1⟩
/-- TRG_RATE_STAMP_HI.VALUE (R89). -/
abbrev f_TRG_RATE_STAMP_HI_VALUE : Fld := ⟨0x4004080c, 0, 32⟩
/-- TRG_RATE_STAMP_LO.VALUE (R89). -/
abbrev f_TRG_RATE_STAMP_LO_VALUE : Fld := ⟨0x40040808, 0, 32⟩
/-- TRG_STATUS.BROKEN (R89). -/
abbrev f_TRG_STATUS_BROKEN : Fld := ⟨0x40040804, 16, 8⟩
/-- TRG_STATUS.RATE (R89). -/
abbrev f_TRG_STATUS_RATE : Fld := ⟨0x40040804, 0, 2⟩
/-- TRG_STATUS.RPEND (R89). -/
abbrev f_TRG_STATUS_RPEND : Fld := ⟨0x40040804, 2, 1⟩
/-- TRG_STATUS.UP (R89). -/
abbrev f_TRG_STATUS_UP : Fld := ⟨0x40040804, 8, 8⟩
/-- TR_BREAK.ACTIVE (R89). -/
abbrev f_TR_BREAK_ACTIVE (r : Nat) : Fld := ⟨0x4004000c + 256 * r, 31, 1⟩
/-- TR_BREAK.BREAKS (R89). -/
abbrev f_TR_BREAK_BREAKS (r : Nat) : Fld := ⟨0x4004000c + 256 * r, 16, 8⟩
/-- TR_BREAK.FIRST_B (R89). -/
abbrev f_TR_BREAK_FIRST_B (r : Nat) : Fld := ⟨0x4004000c + 256 * r, 8, 5⟩
/-- TR_BREAK.LAST_A (R89). -/
abbrev f_TR_BREAK_LAST_A (r : Nat) : Fld := ⟨0x4004000c + 256 * r, 0, 5⟩
/-- TR_CMD_DATA.VALUE (R89). -/
abbrev f_TR_CMD_DATA_VALUE (r i : Nat) : Fld := ⟨0x4004002c + 256 * r + 4 * i, 0, 32⟩
/-- TR_CMD_HDR.ADDR (R89). -/
abbrev f_TR_CMD_HDR_ADDR (r : Nat) : Fld := ⟨0x40040028 + 256 * r, 8, 5⟩
/-- TR_CMD_HDR.BUSY (R89). -/
abbrev f_TR_CMD_HDR_BUSY (r : Nat) : Fld := ⟨0x40040028 + 256 * r, 30, 1⟩
/-- TR_CMD_HDR.END (R89). -/
abbrev f_TR_CMD_HDR_END (r : Nat) : Fld := ⟨0x40040028 + 256 * r, 29, 1⟩
/-- TR_CMD_HDR.GO (R89). -/
abbrev f_TR_CMD_HDR_GO (r : Nat) : Fld := ⟨0x40040028 + 256 * r, 31, 1⟩
/-- TR_CMD_HDR.LEN (R89). -/
abbrev f_TR_CMD_HDR_LEN (r : Nat) : Fld := ⟨0x40040028 + 256 * r, 16, 5⟩
/-- TR_CMD_HDR.OPC (R89). -/
abbrev f_TR_CMD_HDR_OPC (r : Nat) : Fld := ⟨0x40040028 + 256 * r, 0, 8⟩
/-- TR_CRC_ERRORS.COUNT (R89). -/
abbrev f_TR_CRC_ERRORS_COUNT (r : Nat) : Fld := ⟨0x40040018 + 256 * r, 0, 32⟩
/-- TR_CTRL.AUTOBREAK (R89). -/
abbrev f_TR_CTRL_AUTOBREAK (r : Nat) : Fld := ⟨0x40040000 + 256 * r, 1, 1⟩
/-- TR_CTRL.AUTOREJOIN (R89). -/
abbrev f_TR_CTRL_AUTOREJOIN (r : Nat) : Fld := ⟨0x40040000 + 256 * r, 2, 1⟩
/-- TR_CTRL.CLRCNT (R89). -/
abbrev f_TR_CTRL_CLRCNT (r : Nat) : Fld := ⟨0x40040000 + 256 * r, 3, 1⟩
/-- TR_CTRL.EN (R89). -/
abbrev f_TR_CTRL_EN (r : Nat) : Fld := ⟨0x40040000 + 256 * r, 0, 1⟩
/-- TR_DELAY_A.EVEN (R89). -/
abbrev f_TR_DELAY_A_EVEN (r i : Nat) : Fld := ⟨0x40040058 + 256 * r + 4 * i, 0, 16⟩
/-- TR_DELAY_A.ODD (R89). -/
abbrev f_TR_DELAY_A_ODD (r i : Nat) : Fld := ⟨0x40040058 + 256 * r + 4 * i, 16, 16⟩
/-- TR_DELAY_B.EVEN (R89). -/
abbrev f_TR_DELAY_B_EVEN (r i : Nat) : Fld := ⟨0x40040078 + 256 * r + 4 * i, 0, 16⟩
/-- TR_DELAY_B.ODD (R89). -/
abbrev f_TR_DELAY_B_ODD (r i : Nat) : Fld := ⟨0x40040078 + 256 * r + 4 * i, 16, 16⟩
/-- TR_HOLDOVERS.COUNT (R89). -/
abbrev f_TR_HOLDOVERS_COUNT (r : Nat) : Fld := ⟨0x40040024 + 256 * r, 0, 32⟩
/-- TR_IRQ.BREAK (R89). -/
abbrev f_TR_IRQ_BREAK (r : Nat) : Fld := ⟨0x40040010 + 256 * r, 0, 1⟩
/-- TR_IRQ.CMD_DONE (R89). -/
abbrev f_TR_IRQ_CMD_DONE (r : Nat) : Fld := ⟨0x40040010 + 256 * r, 5, 1⟩
/-- TR_IRQ_EN.BREAK (R89). -/
abbrev f_TR_IRQ_EN_BREAK (r : Nat) : Fld := ⟨0x40040014 + 256 * r, 0, 1⟩
/-- TR_IRQ_EN.CMD_DONE (R89). -/
abbrev f_TR_IRQ_EN_CMD_DONE (r : Nat) : Fld := ⟨0x40040014 + 256 * r, 5, 1⟩
/-- TR_IRQ_EN.LOOP_LONG (R89). -/
abbrev f_TR_IRQ_EN_LOOP_LONG (r : Nat) : Fld := ⟨0x40040014 + 256 * r, 6, 1⟩
/-- TR_IRQ_EN.NODE_LOST (R89). -/
abbrev f_TR_IRQ_EN_NODE_LOST (r : Nat) : Fld := ⟨0x40040014 + 256 * r, 2, 1⟩
/-- TR_IRQ_EN.NODE_NEW (R89). -/
abbrev f_TR_IRQ_EN_NODE_NEW (r : Nat) : Fld := ⟨0x40040014 + 256 * r, 3, 1⟩
/-- TR_IRQ_EN.REJOIN (R89). -/
abbrev f_TR_IRQ_EN_REJOIN (r : Nat) : Fld := ⟨0x40040014 + 256 * r, 1, 1⟩
/-- TR_IRQ_EN.ROSTER (R89). -/
abbrev f_TR_IRQ_EN_ROSTER (r : Nat) : Fld := ⟨0x40040014 + 256 * r, 4, 1⟩
/-- TR_IRQ.LOOP_LONG (R89). -/
abbrev f_TR_IRQ_LOOP_LONG (r : Nat) : Fld := ⟨0x40040010 + 256 * r, 6, 1⟩
/-- TR_IRQ.NODE_LOST (R89). -/
abbrev f_TR_IRQ_NODE_LOST (r : Nat) : Fld := ⟨0x40040010 + 256 * r, 2, 1⟩
/-- TR_IRQ.NODE_NEW (R89). -/
abbrev f_TR_IRQ_NODE_NEW (r : Nat) : Fld := ⟨0x40040010 + 256 * r, 3, 1⟩
/-- TR_IRQ.REJOIN (R89). -/
abbrev f_TR_IRQ_REJOIN (r : Nat) : Fld := ⟨0x40040010 + 256 * r, 1, 1⟩
/-- TR_IRQ.ROSTER (R89). -/
abbrev f_TR_IRQ_ROSTER (r : Nat) : Fld := ⟨0x40040010 + 256 * r, 4, 1⟩
/-- TR_LOOP_TIME.LOOP (R89). -/
abbrev f_TR_LOOP_TIME_LOOP (r : Nat) : Fld := ⟨0x40040050 + 256 * r, 0, 16⟩
/-- TR_MISSING.COUNT (R89). -/
abbrev f_TR_MISSING_COUNT (r : Nat) : Fld := ⟨0x40040020 + 256 * r, 0, 32⟩
/-- TR_NODES.COUNT (R89). -/
abbrev f_TR_NODES_COUNT (r : Nat) : Fld := ⟨0x40040008 + 256 * r, 0, 5⟩
/-- TR_NODES.PRESENT (R89). -/
abbrev f_TR_NODES_PRESENT (r : Nat) : Fld := ⟨0x40040008 + 256 * r, 16, 16⟩
/-- TR_REJOIN_STAMP.TSTAMP (R89). -/
abbrev f_TR_REJOIN_STAMP_TSTAMP (r : Nat) : Fld := ⟨0x40040054 + 256 * r, 0, 32⟩
/-- TR_RETRANSMITS.COUNT (R89). -/
abbrev f_TR_RETRANSMITS_COUNT (r : Nat) : Fld := ⟨0x4004001c + 256 * r, 0, 32⟩
/-- TR_RSP_DATA.VALUE (R89). -/
abbrev f_TR_RSP_DATA_VALUE (r i : Nat) : Fld := ⟨0x40040040 + 256 * r + 4 * i, 0, 32⟩
/-- TR_RSP_HDR.LEN (R89). -/
abbrev f_TR_RSP_HDR_LEN (r : Nat) : Fld := ⟨0x4004003c + 256 * r, 16, 5⟩
/-- TR_RSP_HDR.NODE (R89). -/
abbrev f_TR_RSP_HDR_NODE (r : Nat) : Fld := ⟨0x4004003c + 256 * r, 24, 5⟩
/-- TR_RSP_HDR.NSTAT (R89). -/
abbrev f_TR_RSP_HDR_NSTAT (r : Nat) : Fld := ⟨0x4004003c + 256 * r, 8, 8⟩
/-- TR_RSP_HDR.OPC (R89). -/
abbrev f_TR_RSP_HDR_OPC (r : Nat) : Fld := ⟨0x4004003c + 256 * r, 0, 8⟩
/-- TR_RSP_HDR.TIMEOUT (R89). -/
abbrev f_TR_RSP_HDR_TIMEOUT (r : Nat) : Fld := ⟨0x4004003c + 256 * r, 30, 1⟩
/-- TR_RSP_HDR.VALID (R89). -/
abbrev f_TR_RSP_HDR_VALID (r : Nat) : Fld := ⟨0x4004003c + 256 * r, 31, 1⟩
/-- TR_STATUS.A_LOCK (R89). -/
abbrev f_TR_STATUS_A_LOCK (r : Nat) : Fld := ⟨0x40040004 + 256 * r, 10, 1⟩
/-- TR_STATUS.B_LOCK (R89). -/
abbrev f_TR_STATUS_B_LOCK (r : Nat) : Fld := ⟨0x40040004 + 256 * r, 11, 1⟩
/-- TR_STATUS.LOOP_LONG (R89). -/
abbrev f_TR_STATUS_LOOP_LONG (r : Nat) : Fld := ⟨0x40040004 + 256 * r, 8, 1⟩
/-- TR_STATUS.OVERPOP (R89). -/
abbrev f_TR_STATUS_OVERPOP (r : Nat) : Fld := ⟨0x40040004 + 256 * r, 3, 1⟩
/-- TR_STATUS.RETX_PEND (R89). -/
abbrev f_TR_STATUS_RETX_PEND (r : Nat) : Fld := ⟨0x40040004 + 256 * r, 12, 1⟩
/-- TR_STATUS.ROSTER_MISMATCH (R89). -/
abbrev f_TR_STATUS_ROSTER_MISMATCH (r : Nat) : Fld := ⟨0x40040004 + 256 * r, 9, 1⟩
/-- TR_STATUS.STATE (R89). -/
abbrev f_TR_STATUS_STATE (r : Nat) : Fld := ⟨0x40040004 + 256 * r, 0, 3⟩
/-- VAT_CKPT_MISS.VALUE (R292). -/
abbrev f_VAT_CKPT_MISS_VALUE (v : Nat) : Fld := ⟨0x400b0038 + 256 * v, 0, 32⟩
/-- VAT_CTRL.CLRCNT (R292). -/
abbrev f_VAT_CTRL_CLRCNT (v : Nat) : Fld := ⟨0x400b0000 + 256 * v, 3, 1⟩
/-- VAT_CTRL.EN (R292). -/
abbrev f_VAT_CTRL_EN (v : Nat) : Fld := ⟨0x400b0000 + 256 * v, 0, 1⟩
/-- VAT_CTRL.LOCK (R292). -/
abbrev f_VAT_CTRL_LOCK (v : Nat) : Fld := ⟨0x400b0000 + 256 * v, 31, 1⟩
/-- VAT_CTRL.RESET (R292). -/
abbrev f_VAT_CTRL_RESET (v : Nat) : Fld := ⟨0x400b0000 + 256 * v, 2, 1⟩
/-- VAT_CTRL.SPARE_EN (R292). -/
abbrev f_VAT_CTRL_SPARE_EN (v : Nat) : Fld := ⟨0x400b0000 + 256 * v, 1, 1⟩
/-- VAT_DEADLINE_MISS.VALUE (R292). -/
abbrev f_VAT_DEADLINE_MISS_VALUE (v : Nat) : Fld := ⟨0x400b0040 + 256 * v, 0, 32⟩
/-- VAT_DT_CMD.ENTRY (R292). -/
abbrev f_VAT_DT_CMD_ENTRY (v : Nat) : Fld := ⟨0x400b0024 + 256 * v, 16, 6⟩
/-- VAT_DT_CMD.GO (R292). -/
abbrev f_VAT_DT_CMD_GO (v : Nat) : Fld := ⟨0x400b0024 + 256 * v, 31, 1⟩
/-- VAT_DT_CMD.OP (R292). -/
abbrev f_VAT_DT_CMD_OP (v : Nat) : Fld := ⟨0x400b0024 + 256 * v, 28, 3⟩
/-- VAT_DT_CMD.RESULT (R292). -/
abbrev f_VAT_DT_CMD_RESULT (v : Nat) : Fld := ⟨0x400b0024 + 256 * v, 8, 8⟩
/-- VAT_DT_CRC.VALUE (R292). -/
abbrev f_VAT_DT_CRC_VALUE (v : Nat) : Fld := ⟨0x400b0028 + 256 * v, 0, 32⟩
/-- VAT_DT_VALID_HI.VALUE (R292). -/
abbrev f_VAT_DT_VALID_HI_VALUE (v : Nat) : Fld := ⟨0x400b0030 + 256 * v, 0, 32⟩
/-- VAT_DT_VALID_LO.VALUE (R292). -/
abbrev f_VAT_DT_VALID_LO_VALUE (v : Nat) : Fld := ⟨0x400b002c + 256 * v, 0, 32⟩
/-- VAT_EMU_HIT.VALUE (R292). -/
abbrev f_VAT_EMU_HIT_VALUE (v : Nat) : Fld := ⟨0x400b0044 + 256 * v, 0, 32⟩
/-- VAT_EMU_MISS.VALUE (R292). -/
abbrev f_VAT_EMU_MISS_VALUE (v : Nat) : Fld := ⟨0x400b0048 + 256 * v, 0, 32⟩
/-- VAT_EPC.ADDR (R292). -/
abbrev f_VAT_EPC_ADDR (v : Nat) : Fld := ⟨0x400b0010 + 256 * v, 3, 14⟩
/-- VAT_IRQ.CKPT (R292). -/
abbrev f_VAT_IRQ_CKPT (v : Nat) : Fld := ⟨0x400b0058 + 256 * v, 3, 1⟩
/-- VAT_IRQ_EN.CKPT (R292). -/
abbrev f_VAT_IRQ_EN_CKPT (v : Nat) : Fld := ⟨0x400b005c + 256 * v, 3, 1⟩
/-- VAT_IRQ_EN.LTRAP (R292). -/
abbrev f_VAT_IRQ_EN_LTRAP (v : Nat) : Fld := ⟨0x400b005c + 256 * v, 0, 1⟩
/-- VAT_IRQ_EN.MISSED (R292). -/
abbrev f_VAT_IRQ_EN_MISSED (v : Nat) : Fld := ⟨0x400b005c + 256 * v, 2, 1⟩
/-- VAT_IRQ_EN.SCRUB (R292). -/
abbrev f_VAT_IRQ_EN_SCRUB (v : Nat) : Fld := ⟨0x400b005c + 256 * v, 5, 1⟩
/-- VAT_IRQ_EN.SPARE (R292). -/
abbrev f_VAT_IRQ_EN_SPARE (v : Nat) : Fld := ⟨0x400b005c + 256 * v, 4, 1⟩
/-- VAT_IRQ_EN.VTRAP (R292). -/
abbrev f_VAT_IRQ_EN_VTRAP (v : Nat) : Fld := ⟨0x400b005c + 256 * v, 1, 1⟩
/-- VAT_IRQ.LTRAP (R292). -/
abbrev f_VAT_IRQ_LTRAP (v : Nat) : Fld := ⟨0x400b0058 + 256 * v, 0, 1⟩
/-- VAT_IRQ.MISSED (R292). -/
abbrev f_VAT_IRQ_MISSED (v : Nat) : Fld := ⟨0x400b0058 + 256 * v, 2, 1⟩
/-- VAT_IRQ.SCRUB (R292). -/
abbrev f_VAT_IRQ_SCRUB (v : Nat) : Fld := ⟨0x400b0058 + 256 * v, 5, 1⟩
/-- VAT_IRQ.SPARE (R292). -/
abbrev f_VAT_IRQ_SPARE (v : Nat) : Fld := ⟨0x400b0058 + 256 * v, 4, 1⟩
/-- VAT_IRQ.VTRAP (R292). -/
abbrev f_VAT_IRQ_VTRAP (v : Nat) : Fld := ⟨0x400b0058 + 256 * v, 1, 1⟩
/-- VAT_JOB_BASE.BASE (R292). -/
abbrev f_VAT_JOB_BASE_BASE (v : Nat) : Fld := ⟨0x400b001c + 256 * v, 11, 6⟩
/-- VAT_LTRAP.CAUSE (R292). -/
abbrev f_VAT_LTRAP_CAUSE (v : Nat) : Fld := ⟨0x400b0020 + 256 * v, 0, 8⟩
/-- VAT_LTRAP.ENTRY (R292). -/
abbrev f_VAT_LTRAP_ENTRY (v : Nat) : Fld := ⟨0x400b0020 + 256 * v, 16, 6⟩
/-- VAT_LTRAP.HIT (R292). -/
abbrev f_VAT_LTRAP_HIT (v : Nat) : Fld := ⟨0x400b0020 + 256 * v, 30, 1⟩
/-- VAT_LTRAP.LANE (R292). -/
abbrev f_VAT_LTRAP_LANE (v : Nat) : Fld := ⟨0x400b0020 + 256 * v, 8, 4⟩
/-- VAT_LTRAP.VALID (R292). -/
abbrev f_VAT_LTRAP_VALID (v : Nat) : Fld := ⟨0x400b0020 + 256 * v, 31, 1⟩
/-- VAT_MARK_BAD.VALUE (R292). -/
abbrev f_VAT_MARK_BAD_VALUE (v : Nat) : Fld := ⟨0x400b0034 + 256 * v, 0, 32⟩
/-- VAT_NOMARK.VALUE (R292). -/
abbrev f_VAT_NOMARK_VALUE (v : Nat) : Fld := ⟨0x400b004c + 256 * v, 0, 32⟩
/-- VAT_PC.ADDR (R292). -/
abbrev f_VAT_PC_ADDR (v : Nat) : Fld := ⟨0x400b0008 + 256 * v, 3, 14⟩
/-- VAT_PROMOTED.VALUE (R292). -/
abbrev f_VAT_PROMOTED_VALUE (v : Nat) : Fld := ⟨0x400b003c + 256 * v, 0, 32⟩
/-- VAT_SCRUB_STAMP_HI.VALUE (R292). -/
abbrev f_VAT_SCRUB_STAMP_HI_VALUE (v : Nat) : Fld := ⟨0x400b0054 + 256 * v, 0, 32⟩
/-- VAT_SCRUB_STAMP_LO.VALUE (R292). -/
abbrev f_VAT_SCRUB_STAMP_LO_VALUE (v : Nat) : Fld := ⟨0x400b0050 + 256 * v, 0, 32⟩
/-- VAT_STATUS.CKPT_VALID (R292). -/
abbrev f_VAT_STATUS_CKPT_VALID (v : Nat) : Fld := ⟨0x400b0004 + 256 * v, 16, 16⟩
/-- VAT_STATUS.DTWR_IGN (R292). -/
abbrev f_VAT_STATUS_DTWR_IGN (v : Nat) : Fld := ⟨0x400b0004 + 256 * v, 9, 1⟩
/-- VAT_STATUS.FAILED (R292). -/
abbrev f_VAT_STATUS_FAILED (v : Nat) : Fld := ⟨0x400b0004 + 256 * v, 12, 4⟩
/-- VAT_STATUS.SPARE_USED (R292). -/
abbrev f_VAT_STATUS_SPARE_USED (v : Nat) : Fld := ⟨0x400b0004 + 256 * v, 8, 1⟩
/-- VAT_STATUS.VSTATE (R292). -/
abbrev f_VAT_STATUS_VSTATE (v : Nat) : Fld := ⟨0x400b0004 + 256 * v, 0, 2⟩
/-- VAT_TRAP_CAUSE.CAUSE (R292). -/
abbrev f_VAT_TRAP_CAUSE_CAUSE (v : Nat) : Fld := ⟨0x400b0014 + 256 * v, 0, 8⟩
/-- VAT_TRAP_CAUSE.DETAIL (R292). -/
abbrev f_VAT_TRAP_CAUSE_DETAIL (v : Nat) : Fld := ⟨0x400b0014 + 256 * v, 24, 8⟩
/-- VAT_TRAP_CAUSE.MICRO (R292). -/
abbrev f_VAT_TRAP_CAUSE_MICRO (v : Nat) : Fld := ⟨0x400b0014 + 256 * v, 20, 3⟩
/-- VAT_TRAP_CAUSE.SLOT (R292). -/
abbrev f_VAT_TRAP_CAUSE_SLOT (v : Nat) : Fld := ⟨0x400b0014 + 256 * v, 16, 2⟩
/-- VAT_TRAP_PC.ADDR (R292). -/
abbrev f_VAT_TRAP_PC_ADDR (v : Nat) : Fld := ⟨0x400b0018 + 256 * v, 3, 14⟩
/-- VAT_VEC.ADDR (R292). -/
abbrev f_VAT_VEC_ADDR (v : Nat) : Fld := ⟨0x400b000c + 256 * v, 3, 14⟩
/-- XP_CFG0.VALUE (R449). -/
abbrev f_XP_CFG0_VALUE (x : Nat) : Fld := ⟨0x401a0008 + 65536 * x, 0, 32⟩
/-- XP_CFG1.VALUE (R449). -/
abbrev f_XP_CFG1_VALUE (x : Nat) : Fld := ⟨0x401a000c + 65536 * x, 0, 32⟩
/-- XP_CFG2.VALUE (R449). -/
abbrev f_XP_CFG2_VALUE (x : Nat) : Fld := ⟨0x401a0010 + 65536 * x, 0, 32⟩
/-- XP_CFG3.VALUE (R449). -/
abbrev f_XP_CFG3_VALUE (x : Nat) : Fld := ⟨0x401a0014 + 65536 * x, 0, 32⟩
/-- XP_CTRL.CLRCNT (R449). -/
abbrev f_XP_CTRL_CLRCNT (x : Nat) : Fld := ⟨0x401a0000 + 65536 * x, 3, 1⟩
/-- XP_CTRL.DIAG (R449). -/
abbrev f_XP_CTRL_DIAG (x : Nat) : Fld := ⟨0x401a0000 + 65536 * x, 2, 1⟩
/-- XP_CTRL.EN (R449). -/
abbrev f_XP_CTRL_EN (x : Nat) : Fld := ⟨0x401a0000 + 65536 * x, 0, 1⟩
/-- XP_CTRL.LOCK (R449). -/
abbrev f_XP_CTRL_LOCK (x : Nat) : Fld := ⟨0x401a0000 + 65536 * x, 31, 1⟩
/-- XP_CTRL.WORLDS (R449). -/
abbrev f_XP_CTRL_WORLDS (x : Nat) : Fld := ⟨0x401a0000 + 65536 * x, 8, 2⟩
/-- XP_ERR.COUNT (R449). -/
abbrev f_XP_ERR_COUNT (x : Nat) : Fld := ⟨0x401a001c + 65536 * x, 0, 32⟩
/-- XP_IRQ_EN.IRQ_EN (R449). -/
abbrev f_XP_IRQ_EN_IRQ_EN (x : Nat) : Fld := ⟨0x401a0024 + 65536 * x, 0, 3⟩
/-- XP_IRQ.IRQ (R449). -/
abbrev f_XP_IRQ_IRQ (x : Nat) : Fld := ⟨0x401a0020 + 65536 * x, 0, 3⟩
/-- XP_RX.COUNT (R449). -/
abbrev f_XP_RX_COUNT (x : Nat) : Fld := ⟨0x401a0018 + 65536 * x, 0, 32⟩
/-- XP_STATUS.BUSOFF (R449). -/
abbrev f_XP_STATUS_BUSOFF (x : Nat) : Fld := ⟨0x401a0004 + 65536 * x, 1, 1⟩
/-- XP_STATUS.G1000 (R449). -/
abbrev f_XP_STATUS_G1000 (x : Nat) : Fld := ⟨0x401a0004 + 65536 * x, 2, 1⟩
/-- XP_STATUS.LINK (R449). -/
abbrev f_XP_STATUS_LINK (x : Nat) : Fld := ⟨0x401a0004 + 65536 * x, 0, 1⟩
/-- XP_STATUS.RXQ (R449). -/
abbrev f_XP_STATUS_RXQ (x : Nat) : Fld := ⟨0x401a0004 + 65536 * x, 8, 8⟩
/-- XP_STATUS.TXQ (R449). -/
abbrev f_XP_STATUS_TXQ (x : Nat) : Fld := ⟨0x401a0004 + 65536 * x, 16, 8⟩
abbrev r_ALM_BADSTAMP : Nat := 0x40050038
abbrev r_ALM_CTRL : Nat := 0x40050000
abbrev r_ALM_DISC_ERR : Nat := 0x40050030
abbrev r_ALM_DISC_STEER : Nat := 0x40050034
abbrev r_ALM_EPOCH_UTC_HI : Nat := 0x4005001c
abbrev r_ALM_EPOCH_UTC_LO : Nat := 0x40050018
abbrev r_ALM_IRQ : Nat := 0x40050028
abbrev r_ALM_IRQ_EN : Nat := 0x4005002c
abbrev r_ALM_LATE_COUNT : Nat := 0x40050040
abbrev r_ALM_LQ_ACK : Nat := 0x40050024
abbrev r_ALM_LQ_STATUS : Nat := 0x40050020
abbrev r_ALM_NOW_HI : Nat := 0x4005000c
abbrev r_ALM_NOW_LO : Nat := 0x40050008
abbrev r_ALM_SRC_CFG (s : Nat) : Nat := 0x40050100 + 16 * s
abbrev r_ALM_SRC_EXPIRED (s : Nat) : Nat := 0x4005010c + 16 * s
abbrev r_ALM_SRC_HZN_HI (s : Nat) : Nat := 0x40050108 + 16 * s
abbrev r_ALM_SRC_HZN_LO (s : Nat) : Nat := 0x40050104 + 16 * s
abbrev r_ALM_STALE : Nat := 0x4005003c
abbrev r_ALM_STATUS : Nat := 0x40050004
abbrev r_ALM_WM_HI : Nat := 0x40050014
abbrev r_ALM_WM_LO : Nat := 0x40050010
abbrev r_ASM_CTRL : Nat := 0x401f0000
abbrev r_ASM_DEPUTY : Nat := 0x401f000c
abbrev r_ASM_IRQ : Nat := 0x401f002c
abbrev r_ASM_IRQ_EN : Nat := 0x401f0030
abbrev r_ASM_LOSS_STAMP_HI : Nat := 0x401f0028
abbrev r_ASM_LOSS_STAMP_LO : Nat := 0x401f0024
abbrev r_ASM_MERGED : Nat := 0x401f0018
abbrev r_ASM_PRESENT_HI : Nat := 0x401f0014
abbrev r_ASM_PRESENT_LO : Nat := 0x401f0010
abbrev r_ASM_REFUSED : Nat := 0x401f0020
abbrev r_ASM_SEAL_REQS : Nat := 0x401f001c
abbrev r_ASM_STATUS : Nat := 0x401f0004
abbrev r_ASM_TERM : Nat := 0x401f0008
abbrev r_BIST_CTRL : Nat := 0x40180000
abbrev r_BIST_FUSEREP : Nat := 0x4018000c
abbrev r_BIST_IRQ : Nat := 0x40180010
abbrev r_BIST_IRQ_EN : Nat := 0x40180014
abbrev r_BIST_LAST (i : Nat) : Nat := 0x40180020 + 4 * i
abbrev r_BIST_SOFTREP : Nat := 0x40180008
abbrev r_BIST_STATUS : Nat := 0x40180004
abbrev r_CB_AAD (b : Nat) : Nat := 0x40110018 + 65536 * b
abbrev r_CB_CLAIM (b : Nat) : Nat := 0x40110000 + 65536 * b
abbrev r_CB_CMD (b : Nat) : Nat := 0x40110008 + 65536 * b
abbrev r_CB_DST (b : Nat) : Nat := 0x40110010 + 65536 * b
abbrev r_CB_IRQ (b : Nat) : Nat := 0x40110020 + 65536 * b
abbrev r_CB_IRQ_EN (b : Nat) : Nat := 0x40110024 + 65536 * b
abbrev r_CB_IV (b i : Nat) : Nat := 0x40110040 + 65536 * b + 4 * i
abbrev r_CB_KEYSRC (b : Nat) : Nat := 0x40110004 + 65536 * b
abbrev r_CB_LEN (b : Nat) : Nat := 0x40110014 + 65536 * b
abbrev r_CB_RESULT (b : Nat) : Nat := 0x4011001c + 65536 * b
abbrev r_CB_SRC (b : Nat) : Nat := 0x4011000c + 65536 * b
abbrev r_CEL_BCOUNT_HI : Nat := 0x5018000c
abbrev r_CEL_BCOUNT_LO : Nat := 0x50180008
abbrev r_CEL_CTRL : Nat := 0x50180000
abbrev r_CEL_DISCARDED : Nat := 0x50180020
abbrev r_CEL_DROPPED : Nat := 0x50180028
abbrev r_CEL_HEAD (i : Nat) : Nat := 0x50180040 + 4 * i
abbrev r_CEL_INCIDENT : Nat := 0x50180014
abbrev r_CEL_NEXT_ENO : Nat := 0x50180010
abbrev r_CEL_REPAIRED : Nat := 0x50180024
abbrev r_CEL_STATUS : Nat := 0x50180004
abbrev r_CEL_VRES : Nat := 0x5018002c
abbrev r_CEL_WBUF (i : Nat) : Nat := 0x50180100 + 4 * i
abbrev r_CEL_WCMD : Nat := 0x50180018
abbrev r_CEL_WRESULT : Nat := 0x5018001c
abbrev r_CMD_CTRL : Nat := 0x40190000
abbrev r_CMD_IDLE : Nat := 0x40190008
abbrev r_CMD_IRQ (w : Nat) : Nat := 0x40190018 + 4 * w
abbrev r_CMD_IRQ_EN (w : Nat) : Nat := 0x40190020 + 4 * w
abbrev r_CMD_OPAUTH (i : Nat) : Nat := 0x40190080 + 4 * i
abbrev r_CMD_QBASE (w : Nat) : Nat := 0x401900c0 + 16 * w
abbrev r_CMD_QHEAD (w : Nat) : Nat := 0x401900c4 + 16 * w
abbrev r_CMD_REFUSED : Nat := 0x40190014
abbrev r_CMD_REPLAYS : Nat := 0x40190010
abbrev r_CMD_RPLY_ADDR (w : Nat) : Nat := 0x401900c8 + 16 * w
abbrev r_CMD_RPLY_CTL (w : Nat) : Nat := 0x401900cc + 16 * w
abbrev r_CMD_SESS (s : Nat) : Nat := 0x40190040 + 8 * s
abbrev r_CMD_SESS_SEQ (s : Nat) : Nat := 0x40190044 + 8 * s
abbrev r_CMD_STATUS : Nat := 0x40190004
abbrev r_CMD_TAGFAIL : Nat := 0x4019000c
abbrev r_CORE_CTRL : Nat := 0x400e0000
abbrev r_CORE_GATE (g w : Nat) : Nat := 0x400e8000 + 64 * g + 4 * w
abbrev r_CORE_GATE_REFUSED : Nat := 0x400e0018
abbrev r_CORE_HOLD_LAST : Nat := 0x400e0010
abbrev r_CORE_HOLD_OVR : Nat := 0x400e000c
abbrev r_CORE_HOLD_PC : Nat := 0x400e0014
abbrev r_CORE_IEN_HI (w : Nat) : Nat := 0x400e008c + 16 * w
abbrev r_CORE_IEN_LO (w : Nat) : Nat := 0x400e0088 + 16 * w
abbrev r_CORE_IPEND_HI (w : Nat) : Nat := 0x400e0084 + 16 * w
abbrev r_CORE_IPEND_LO (w : Nat) : Nat := 0x400e0080 + 16 * w
abbrev r_CORE_IPRI (w i : Nat) : Nat := 0x400e00a0 + 32 * w + 4 * i
abbrev r_CORE_IRQ : Nat := 0x400e0020
abbrev r_CORE_IRQ_EN : Nat := 0x400e0024
abbrev r_CORE_RGN_HI (c i : Nat) : Nat := 0x400e0104 + 64 * c + 8 * i
abbrev r_CORE_RGN_LO (c i : Nat) : Nat := 0x400e0100 + 64 * c + 8 * i
abbrev r_CORE_STATUS : Nat := 0x400e0004
abbrev r_CORE_TSHARE : Nat := 0x400e0008
abbrev r_CORE_VEC (x : Nat) : Nat := 0x400e0040 + 4 * x
abbrev r_CORE_WR_REFUSED : Nat := 0x400e001c
abbrev r_CORE_XSTK (x : Nat) : Nat := 0x400e0060 + 4 * x
abbrev r_CPR_CTRL : Nat := 0x40010000
abbrev r_CPR_DOM (d : Nat) : Nat := 0x40010400 + 4 * d
abbrev r_CPR_IRQ : Nat := 0x40010020
abbrev r_CPR_IRQ_EN : Nat := 0x40010024
abbrev r_CPR_LAUNCH_TIME : Nat := 0x40010014
abbrev r_CPR_REFUSED : Nat := 0x4001001c
abbrev r_CPR_RESET : Nat := 0x4001000c
abbrev r_CPR_RSTCAUSE : Nat := 0x40010008
abbrev r_CPR_START_TO : Nat := 0x40010010
abbrev r_CPR_STATUS : Nat := 0x40010004
abbrev r_CPR_WARMCNT : Nat := 0x40010018
abbrev r_CUL_CTRL : Nat := 0x40160000
abbrev r_CUL_IRQ : Nat := 0x40160080
abbrev r_CUL_IRQ_EN : Nat := 0x40160084
abbrev r_CUL_RNG (w : Nat) : Nat := 0x40160020 + 4 * w
abbrev r_CUL_SRC_STAT (s : Nat) : Nat := 0x40160008 + 4 * s
abbrev r_CUL_STATUS : Nat := 0x40160004
abbrev r_CUL_VRNG (v : Nat) : Nat := 0x40160040 + 4 * v
abbrev r_DEV_BEHAVIOUR : Nat := 0x40000010
abbrev r_FLC_ADDR : Nat := 0x400f000c
abbrev r_FLC_BANK : Nat := 0x400f0020
abbrev r_FLC_CMD : Nat := 0x400f0008
abbrev r_FLC_CTRL : Nat := 0x400f0000
abbrev r_FLC_ECC_CE : Nat := 0x400f002c
abbrev r_FLC_ECC_UE : Nat := 0x400f0030
abbrev r_FLC_FAILADDR : Nat := 0x400f001c
abbrev r_FLC_IMGVER : Nat := 0x400f0028
abbrev r_FLC_IRQ : Nat := 0x400f0040
abbrev r_FLC_IRQ_EN : Nat := 0x400f0044
abbrev r_FLC_JSTAT (b : Nat) : Nat := 0x400f0100 + 4 * b
abbrev r_FLC_LEN : Nat := 0x400f0010
abbrev r_FLC_REFUSED : Nat := 0x400f003c
abbrev r_FLC_RESULT : Nat := 0x400f0018
abbrev r_FLC_SELECT : Nat := 0x400f0024
abbrev r_FLC_SRC : Nat := 0x400f0014
abbrev r_FLC_STATUS : Nat := 0x400f0004
abbrev r_FLC_SUSPENDS : Nat := 0x400f0034
abbrev r_FLC_VERIFY_FAIL : Nat := 0x400f0038
abbrev r_FLT_ACK : Nat := 0x40020020
abbrev r_FLT_COUNT (c : Nat) : Nat := 0x40020040 + 4 * c
abbrev r_FLT_CTRL : Nat := 0x40020000
abbrev r_FLT_DECLARE : Nat := 0x40020024
abbrev r_FLT_IRQ_EN : Nat := 0x40020030
abbrev r_FLT_LOST : Nat := 0x40020028
abbrev r_FLT_REC (i : Nat) : Nat := 0x40020008 + 4 * i
abbrev r_FLT_STATUS : Nat := 0x40020004
abbrev r_FLT_TRACE_DROP : Nat := 0x4002002c
abbrev r_KS_ARG : Nat := 0x40100004
abbrev r_KS_BLOB (i : Nat) : Nat := 0x40100080 + 4 * i
abbrev r_KS_CMD : Nat := 0x40100008
abbrev r_KS_EPOCH (n : Nat) : Nat := 0x40100200 + 4 * n
abbrev r_KS_IRQ : Nat := 0x40100010
abbrev r_KS_IRQ_EN : Nat := 0x40100014
abbrev r_KS_RESULT : Nat := 0x4010000c
abbrev r_KS_SLOT (n : Nat) : Nat := 0x40100100 + 4 * n
abbrev r_KS_STATUS : Nat := 0x40100000
abbrev r_LC_STATE : Nat := 0x40000200
abbrev r_LDG_ARC_CFG : Nat := 0x400a0024
abbrev r_LDG_ARC_FILL : Nat := 0x400a0028
abbrev r_LDG_ARC_LOST : Nat := 0x400a0034
abbrev r_LDG_ARC_OVERWRITTEN : Nat := 0x400a0030
abbrev r_LDG_CHAIN_ID : Nat := 0x400a0020
abbrev r_LDG_CORR_EXTRA : Nat := 0x400a0038
abbrev r_LDG_CTRL : Nat := 0x400a0000
abbrev r_LDG_HEAD_SEQ_HI : Nat := 0x400a000c
abbrev r_LDG_HEAD_SEQ_LO : Nat := 0x400a0008
abbrev r_LDG_HEAD_STAMP_HI : Nat := 0x400a0014
abbrev r_LDG_HEAD_STAMP_LO : Nat := 0x400a0010
abbrev r_LDG_HOLDQ : Nat := 0x400a002c
abbrev r_LDG_IRQ : Nat := 0x400a0040
abbrev r_LDG_IRQ_EN : Nat := 0x400a0044
abbrev r_LDG_SEAL_LATE : Nat := 0x400a003c
abbrev r_LDG_SEAL_SEQ_HI : Nat := 0x400a001c
abbrev r_LDG_SEAL_SEQ_LO : Nat := 0x400a0018
abbrev r_LDG_STATUS : Nat := 0x400a0004
abbrev r_LE_CODE_LIM (e : Nat) : Nat := 0x400c000c + 64 * e
abbrev r_LE_CTRL (e : Nat) : Nat := 0x400c0000 + 64 * e
abbrev r_LE_EMU_CTL (e : Nat) : Nat := 0x400c0028 + 64 * e
abbrev r_LE_EMU_RES (e : Nat) : Nat := 0x400c0024 + 64 * e
abbrev r_LE_ICOUNT (e : Nat) : Nat := 0x400c002c + 64 * e
abbrev r_LE_PC (e : Nat) : Nat := 0x400c0008 + 64 * e
abbrev r_LE_STATUS (e : Nat) : Nat := 0x400c0004 + 64 * e
abbrev r_LE_STR_CFG (e : Nat) : Nat := 0x400c001c + 64 * e
abbrev r_LE_STR_POS (e : Nat) : Nat := 0x400c0020 + 64 * e
abbrev r_LE_TRAP_CAUSE (e : Nat) : Nat := 0x400c0010 + 64 * e
abbrev r_LE_TRAP_PC (e : Nat) : Nat := 0x400c0014 + 64 * e
abbrev r_LE_TRAP_WORD (e : Nat) : Nat := 0x400c0018 + 64 * e
abbrev r_LIM_BASE_CHG : Nat := 0x40070008
abbrev r_LIM_BASE_DIS : Nat := 0x4007000c
abbrev r_LIM_CTRL : Nat := 0x40070000
abbrev r_LIM_CUCAP_CHG : Nat := 0x40070010
abbrev r_LIM_CUCAP_DIS : Nat := 0x40070014
abbrev r_LIM_INFO0 : Nat := 0x4007002c
abbrev r_LIM_INFO1 : Nat := 0x40070030
abbrev r_LIM_IRQ : Nat := 0x40070048
abbrev r_LIM_IRQ_EN : Nat := 0x4007004c
abbrev r_LIM_OPCAP_CHG : Nat := 0x40070018
abbrev r_LIM_OPCAP_DIS : Nat := 0x4007001c
abbrev r_LIM_OP_REFUSED : Nat := 0x4007003c
abbrev r_LIM_PERIOD_HI : Nat := 0x40070044
abbrev r_LIM_PERIOD_LO : Nat := 0x40070040
abbrev r_LIM_PUB : Nat := 0x40070024
abbrev r_LIM_PUB_CFG : Nat := 0x40070034
abbrev r_LIM_REQ : Nat := 0x40070020
abbrev r_LIM_STALE_COUNT : Nat := 0x40070038
abbrev r_LIM_STATUS : Nat := 0x40070004
abbrev r_LIM_VOLT : Nat := 0x40070028
abbrev r_MER_ACC_HI (j : Nat) : Nat := 0x40090104 + 8 * j
abbrev r_MER_ACC_LO (j : Nat) : Nat := 0x40090100 + 8 * j
abbrev r_MER_BASE_HI (j : Nat) : Nat := 0x40090184 + 8 * j
abbrev r_MER_BASE_LO (j : Nat) : Nat := 0x40090180 + 8 * j
abbrev r_MER_CAL_REFUSED : Nat := 0x40090028
abbrev r_MER_CH_DLY (i : Nat) : Nat := 0x40090048 + 16 * i
abbrev r_MER_CH_GAIN (i : Nat) : Nat := 0x40090040 + 16 * i
abbrev r_MER_CH_OFS (i : Nat) : Nat := 0x40090044 + 16 * i
abbrev r_MER_CH_STAT (i : Nat) : Nat := 0x4009004c + 16 * i
abbrev r_MER_CTRL : Nat := 0x40090000
abbrev r_MER_IRQ : Nat := 0x4009002c
abbrev r_MER_IRQ_EN : Nat := 0x40090030
abbrev r_MER_PULSE_CFG : Nat := 0x40090010
abbrev r_MER_RATING : Nat := 0x40090008
abbrev r_MER_RGCLASS : Nat := 0x40090014
abbrev r_MER_STATUS : Nat := 0x40090004
abbrev r_MER_TBL (i : Nat) : Nat := 0x40091000 + 4 * i
abbrev r_MER_UNMET_CHARGE : Nat := 0x40090020
abbrev r_MER_UNMET_TIME : Nat := 0x4009001c
abbrev r_MER_WWE_CLAMPS : Nat := 0x40090024
abbrev r_MER_XC_CFG : Nat := 0x4009000c
abbrev r_MER_XC_COUNT : Nat := 0x40090018
abbrev r_MODE_CAUSE : Nat := 0x40000210
abbrev r_MODE_ENTRY_STAMP_HI : Nat := 0x4000020c
abbrev r_MODE_ENTRY_STAMP_LO : Nat := 0x40000208
abbrev r_MODE_IRQ : Nat := 0x40000214
abbrev r_MODE_IRQ_EN : Nat := 0x40000218
abbrev r_MODE_STATUS : Nat := 0x40000204
abbrev r_SHT_BLEED (r n : Nat) : Nat := 0x40080400 + 64 * r + 4 * n
abbrev r_SHT_CTC_CMD : Nat := 0x40080008
abbrev r_SHT_CTC_RESULT : Nat := 0x4008000c
abbrev r_SHT_CTRL : Nat := 0x40080000
abbrev r_SHT_DERATE_CU : Nat := 0x40080010
abbrev r_SHT_DERATE_OP : Nat := 0x40080014
abbrev r_SHT_DWELL : Nat := 0x4008003c
abbrev r_SHT_HOLD : Nat := 0x40080038
abbrev r_SHT_HZ_CFG (h : Nat) : Nat := 0x40080020 + 4 * h
abbrev r_SHT_HZ_COUNT : Nat := 0x40080044
abbrev r_SHT_HZ_STAMP_HI : Nat := 0x40080054
abbrev r_SHT_HZ_STAMP_LO : Nat := 0x40080050
abbrev r_SHT_HZ_STAT : Nat := 0x40080030
abbrev r_SHT_IN_STAT : Nat := 0x40080034
abbrev r_SHT_IRQ : Nat := 0x40080048
abbrev r_SHT_IRQ_EN : Nat := 0x4008004c
abbrev r_SHT_LIMP : Nat := 0x4008001c
abbrev r_SHT_PRE_CFG : Nat := 0x40080018
abbrev r_SHT_REFUSED : Nat := 0x40080040
abbrev r_SHT_STATUS : Nat := 0x40080004
abbrev r_SPG_ABSENT : Nat := 0x4006000c
abbrev r_SPG_BIN_CFG (n : Nat) : Nat := 0x40060400 + 4 * n
abbrev r_SPG_BIN_IRMS (n : Nat) : Nat := 0x40060800 + 4 * n
abbrev r_SPG_BIN_LIM (n : Nat) : Nat := 0x40060600 + 4 * n
abbrev r_SPG_BIN_STAT (n : Nat) : Nat := 0x40060a00 + 4 * n
abbrev r_SPG_CTRL : Nat := 0x40060000
abbrev r_SPG_FIT_CFG : Nat := 0x40060014
abbrev r_SPG_FIT_CYCLE : Nat := 0x40060018
abbrev r_SPG_FIT_OVERRUN : Nat := 0x4006001c
abbrev r_SPG_FOLDS : Nat := 0x40060008
abbrev r_SPG_IRQ : Nat := 0x40060030
abbrev r_SPG_IRQ_EN : Nat := 0x40060034
abbrev r_SPG_PILOT_AMP : Nat := 0x40060028
abbrev r_SPG_PILOT_CFG : Nat := 0x40060020
abbrev r_SPG_PILOT_DUR : Nat := 0x4006002c
abbrev r_SPG_PILOT_REQ : Nat := 0x40060024
abbrev r_SPG_REFSET : Nat := 0x40060010
abbrev r_SPG_STATUS : Nat := 0x40060004
abbrev r_SVC_BLKERR : Nat := 0x40200014
abbrev r_SVC_CTRL : Nat := 0x40200000
abbrev r_SVC_IRQ : Nat := 0x4020001c
abbrev r_SVC_IRQ_EN : Nat := 0x40200020
abbrev r_SVC_LASTWR : Nat := 0x40200008
abbrev r_SVC_PWFAIL : Nat := 0x40200018
abbrev r_SVC_STATUS : Nat := 0x40200004
abbrev r_SVC_UNDEF_HI : Nat := 0x40200010
abbrev r_SVC_UNDEF_LO : Nat := 0x4020000c
abbrev r_TAG_CTRL : Nat := 0x40210000
abbrev r_TAG_IRQ : Nat := 0x40210034
abbrev r_TAG_IRQ_EN : Nat := 0x40210038
abbrev r_TAG_PWFAIL : Nat := 0x4021002c
abbrev r_TAG_RFWRITES : Nat := 0x40210028
abbrev r_TAG_STATUS : Nat := 0x40210004
abbrev r_TAG_UID_HI : Nat := 0x4021000c
abbrev r_TAG_UID_LO : Nat := 0x40210008
abbrev r_TAG_WBUF (i : Nat) : Nat := 0x40210010 + 4 * i
abbrev r_TAG_WCMD : Nat := 0x40210020
abbrev r_TAG_WRESULT : Nat := 0x40210024
abbrev r_TAG_WTX : Nat := 0x40210030
abbrev r_TG_BUS_ERR : Nat := 0x40030008
abbrev r_TG_CTRL : Nat := 0x40030000
abbrev r_TG_D2D_FAIL : Nat := 0x40030014
abbrev r_TG_ECC_CE : Nat := 0x4003000c
abbrev r_TG_ECC_UE : Nat := 0x40030010
abbrev r_TG_IRQ_EN : Nat := 0x40030030
abbrev r_TG_PERM (g : Nat) : Nat := 0x40030100 + 4 * g
abbrev r_TG_STATUS : Nat := 0x40030004
abbrev r_TG_VLOG_ADDR (w j : Nat) : Nat := 0x40030400 + 128 * w + 16 * j
abbrev r_TG_VLOG_INFO (w j : Nat) : Nat := 0x40030404 + 128 * w + 16 * j
abbrev r_TG_VLOG_STAMP_HI (w j : Nat) : Nat := 0x4003040c + 128 * w + 16 * j
abbrev r_TG_VLOG_STAMP_LO (w j : Nat) : Nat := 0x40030408 + 128 * w + 16 * j
abbrev r_TG_VPOP (w : Nat) : Nat := 0x40030028 + 4 * w
abbrev r_TG_VSTAT (w : Nat) : Nat := 0x40030020 + 4 * w
abbrev r_TG_WIN_HI (i : Nat) : Nat := 0x40030304 + 8 * i
abbrev r_TG_WIN_LO (i : Nat) : Nat := 0x40030300 + 8 * i
abbrev r_TG_WR_REFUSED : Nat := 0x40030018
abbrev r_TMP_ACTIVE : Nat := 0x4017000c
abbrev r_TMP_COUNT (s : Nat) : Nat := 0x40170040 + 4 * s
abbrev r_TMP_CTRL : Nat := 0x40170000
abbrev r_TMP_DISABLED : Nat := 0x40170014
abbrev r_TMP_GRADE : Nat := 0x40170018
abbrev r_TMP_IRQ : Nat := 0x40170030
abbrev r_TMP_IRQ_EN : Nat := 0x40170034
abbrev r_TMP_LAST : Nat := 0x40170020
abbrev r_TMP_LAST_STAMP_HI : Nat := 0x40170028
abbrev r_TMP_LAST_STAMP_LO : Nat := 0x40170024
abbrev r_TMP_MONFAULT : Nat := 0x40170010
abbrev r_TMP_RIND_HI : Nat := 0x4017003c
abbrev r_TMP_RIND_LO : Nat := 0x40170038
abbrev r_TMP_STATUS : Nat := 0x40170004
abbrev r_TMP_TEMP : Nat := 0x4017002c
abbrev r_TMP_TEST : Nat := 0x4017001c
abbrev r_TMP_TRIP : Nat := 0x40170008
abbrev r_TRG_CTRL : Nat := 0x40040800
abbrev r_TRG_RATE_STAMP_HI : Nat := 0x4004080c
abbrev r_TRG_RATE_STAMP_LO : Nat := 0x40040808
abbrev r_TRG_STATUS : Nat := 0x40040804
abbrev r_TR_BREAK (r : Nat) : Nat := 0x4004000c + 256 * r
abbrev r_TR_CMD_DATA (r i : Nat) : Nat := 0x4004002c + 256 * r + 4 * i
abbrev r_TR_CMD_HDR (r : Nat) : Nat := 0x40040028 + 256 * r
abbrev r_TR_CRC_ERRORS (r : Nat) : Nat := 0x40040018 + 256 * r
abbrev r_TR_CTRL (r : Nat) : Nat := 0x40040000 + 256 * r
abbrev r_TR_DELAY_A (r i : Nat) : Nat := 0x40040058 + 256 * r + 4 * i
abbrev r_TR_DELAY_B (r i : Nat) : Nat := 0x40040078 + 256 * r + 4 * i
abbrev r_TR_HOLDOVERS (r : Nat) : Nat := 0x40040024 + 256 * r
abbrev r_TR_IRQ (r : Nat) : Nat := 0x40040010 + 256 * r
abbrev r_TR_IRQ_EN (r : Nat) : Nat := 0x40040014 + 256 * r
abbrev r_TR_LOOP_TIME (r : Nat) : Nat := 0x40040050 + 256 * r
abbrev r_TR_MISSING (r : Nat) : Nat := 0x40040020 + 256 * r
abbrev r_TR_NODES (r : Nat) : Nat := 0x40040008 + 256 * r
abbrev r_TR_REJOIN_STAMP (r : Nat) : Nat := 0x40040054 + 256 * r
abbrev r_TR_RETRANSMITS (r : Nat) : Nat := 0x4004001c + 256 * r
abbrev r_TR_RSP_DATA (r i : Nat) : Nat := 0x40040040 + 256 * r + 4 * i
abbrev r_TR_RSP_HDR (r : Nat) : Nat := 0x4004003c + 256 * r
abbrev r_TR_STATUS (r : Nat) : Nat := 0x40040004 + 256 * r
abbrev r_VAT_CKPT_MISS (v : Nat) : Nat := 0x400b0038 + 256 * v
abbrev r_VAT_CTRL (v : Nat) : Nat := 0x400b0000 + 256 * v
abbrev r_VAT_DEADLINE_MISS (v : Nat) : Nat := 0x400b0040 + 256 * v
abbrev r_VAT_DT_CMD (v : Nat) : Nat := 0x400b0024 + 256 * v
abbrev r_VAT_DT_CRC (v : Nat) : Nat := 0x400b0028 + 256 * v
abbrev r_VAT_DT_VALID_HI (v : Nat) : Nat := 0x400b0030 + 256 * v
abbrev r_VAT_DT_VALID_LO (v : Nat) : Nat := 0x400b002c + 256 * v
abbrev r_VAT_EMU_HIT (v : Nat) : Nat := 0x400b0044 + 256 * v
abbrev r_VAT_EMU_MISS (v : Nat) : Nat := 0x400b0048 + 256 * v
abbrev r_VAT_EPC (v : Nat) : Nat := 0x400b0010 + 256 * v
abbrev r_VAT_IRQ (v : Nat) : Nat := 0x400b0058 + 256 * v
abbrev r_VAT_IRQ_EN (v : Nat) : Nat := 0x400b005c + 256 * v
abbrev r_VAT_JOB_BASE (v : Nat) : Nat := 0x400b001c + 256 * v
abbrev r_VAT_LTRAP (v : Nat) : Nat := 0x400b0020 + 256 * v
abbrev r_VAT_MARK_BAD (v : Nat) : Nat := 0x400b0034 + 256 * v
abbrev r_VAT_NOMARK (v : Nat) : Nat := 0x400b004c + 256 * v
abbrev r_VAT_PC (v : Nat) : Nat := 0x400b0008 + 256 * v
abbrev r_VAT_PROMOTED (v : Nat) : Nat := 0x400b003c + 256 * v
abbrev r_VAT_SCRUB_STAMP_HI (v : Nat) : Nat := 0x400b0054 + 256 * v
abbrev r_VAT_SCRUB_STAMP_LO (v : Nat) : Nat := 0x400b0050 + 256 * v
abbrev r_VAT_STATUS (v : Nat) : Nat := 0x400b0004 + 256 * v
abbrev r_VAT_TRAP_CAUSE (v : Nat) : Nat := 0x400b0014 + 256 * v
abbrev r_VAT_TRAP_PC (v : Nat) : Nat := 0x400b0018 + 256 * v
abbrev r_VAT_VEC (v : Nat) : Nat := 0x400b000c + 256 * v
abbrev r_XP_CFG0 (x : Nat) : Nat := 0x401a0008 + 65536 * x
abbrev r_XP_CFG1 (x : Nat) : Nat := 0x401a000c + 65536 * x
abbrev r_XP_CFG2 (x : Nat) : Nat := 0x401a0010 + 65536 * x
abbrev r_XP_CFG3 (x : Nat) : Nat := 0x401a0014 + 65536 * x
abbrev r_XP_CTRL (x : Nat) : Nat := 0x401a0000 + 65536 * x
abbrev r_XP_ERR (x : Nat) : Nat := 0x401a001c + 65536 * x
abbrev r_XP_IRQ (x : Nat) : Nat := 0x401a0020 + 65536 * x
abbrev r_XP_IRQ_EN (x : Nat) : Nat := 0x401a0024 + 65536 * x
abbrev r_XP_RX (x : Nat) : Nat := 0x401a0018 + 65536 * x
abbrev r_XP_STATUS (x : Nat) : Nat := 0x401a0004 + 65536 * x

end Sys2Proof.Machine
end

