-- ==== Sys2Proof/Machine/Wave.lean ====
section
/-!
DEFINITION. Machine/Wave.lean: the fixed real numbers of the Spectrograph (R119–R126): bin frequencies, twiddles, rotations, windows and gains,
computed in fixed point with 64 fraction bits and rounded as R123 says.
-/
namespace Sys2Proof.Machine

/-- π × 2^64. -/
def piFx : Int := 57952155664616982739

/-- A Taylor series whose next term is the last × (−x²) / ((k + 1)(k + 2)); `x2` is x² with 64 fraction bits. -/
def taylor (x2 : Int) : Nat → Nat → Int → Int
  | 0, _, _ => 0
  | n + 1, k, t => t + taylor x2 n (k + 2) (-(t * x2 / 2 ^ 64) / ((k + 1 : Nat) * (k + 2 : Nat) : Int))

/-- Cosine and sine of `u` / 2^64 turns, each × 2^64. -/
def cosSin (u : Nat) : Int × Int :=
  let x : Int := ((u % 2 ^ 62 : Nat) : Int) * 2 * piFx / 2 ^ 64
  let x2 := x * x / 2 ^ 64
  let c := taylor x2 16 0 (2 ^ 64)
  let s := taylor x2 16 1 x
  match u % 2 ^ 64 / 2 ^ 62 with
  | 0 => (c, s)
  | 1 => (-s, c)
  | 2 => (-c, -s)
  | _ => (s, -c)

/-- The largest `g` below 2^bits above `acc` with g^127 ≤ N, bit by bit. -/
def root127 (N : Nat) : Nat → Nat → Nat
  | 0, acc => acc
  | b + 1, acc => if (acc + 2 ^ b) ^ 127 ≤ N then root127 N b (acc + 2 ^ b) else root127 N b acc

/-- f_n / 0.01 Hz = 320,000^(n/127), × 2^64 (R119). -/
def ratioFx (n : Nat) : Nat := root127 (320000 ^ n * 2 ^ (64 * 127)) 84 0

/-- f_n in µHz, rounded. -/
def microHz (n : Nat) : Nat := (ratioFx n * 10000 + 2 ^ 63) / 2 ^ 64

/-- f_n / fs in turns per sample, × 2^64; fs = 8,000 / 2^RATE. -/
def turnFx (n rate : Nat) : Nat := ratioFx n * 2 ^ rate / 800000

/-- Whether bin `n` is active (R120). -/
def binActive (n rate : Nat) : Bool := decide (n + 7 * rate ≤ 127)

/-- The smallest `q` up to 17 with 2^q × f_n ≥ 1,000 Hz: L_n at 8 kS/s is 2^q (R124), in exact integers. -/
def log2L8 (n : Nat) : Nat :=
  ((List.range 18).find? (fun q => decide (100000 ^ 127 ≤ 2 ^ (q * 127) * 320000 ^ n))).getD 17

/-- log2 L_n at a RATE code: halving the rate halves L_n, which is at least 1. -/
def log2L (n rate : Nat) : Nat := log2L8 n - rate

/-- R123: rnd(a, s). -/
def rnd (a : Int) (s : Nat) : Int := if s = 0 then a else (a + 2 ^ (s - 1)) / 2 ^ s

/-- wt(n, τ) (R123). -/
def twiddle (n rate τ : Nat) : Int × Int :=
  let (c, s) := cosSin (turnFx n rate * τ)
  let tri : Int := 128 - ((2 * τ : Int) - 127).natAbs
  (roundDiv (32767 * tri * c) (128 * 2 ^ 64), - roundDiv (32767 * tri * s) (128 * 2 ^ 64))

/-- ph(n). -/
def phaseStep (n rate : Nat) : Nat := (turnFx n rate + 2 ^ 31) / 2 ^ 32

/-- The rotation r of dump m (R123). -/
def rotation (n rate m : Nat) : Int × Int :=
  let φ := 64 * (m - 1) * phaseStep n rate % 2 ^ 32
  let (c, s) := cosSin (φ * 2 ^ 32)
  (roundDiv (32767 * c) (2 ^ 64), - roundDiv (32767 * s) (2 ^ 64))

/-- h(i) for a segment of 2^p dumps (R124), by sin² x = (1 − cos 2x) / 2, which is exact where the value lies halfway. -/
def hann (p i : Nat) : Int :=
  let (c, _) := cosSin (2 ^ 63 * (2 * i + 1) / 2 ^ p)
  roundDiv (32767 * (2 ^ 64 - c)) (2 ^ 65)

/-- Stage 1 over a window of 128 samples: p, q and the rotated dump (R123). -/
def dumpOf (n rate m : Nat) (xs : List Int) : Int × Int :=
  let p := (xs.zip (List.range 128)).foldl (fun (a : Int × Int) (x, τ) => let w := twiddle n rate τ; (a.1 + x * w.1, a.2 + x * w.2)) (0, 0)
  let q : Int × Int := (rnd p.1 13, rnd p.2 13)
  let r := rotation n rate m
  (rnd (q.1 * r.1 - q.2 * r.2) 15, rnd (q.1 * r.2 + q.2 * r.1) 15)

/-- G_n² as a fraction (R126): the gain of R123 and R124 for 1 mA rms, without rounding and without the image the windows suppress. -/
def gainSq (p : Nat) : Nat × Nat :=
  let stage1 := 32767 * 64 * 32767
  if p = 0 then (stage1 ^ 2, 2 * (2 ^ 28) ^ 2) else ((stage1 * 32767) ^ 2, 2 * (2 ^ 40) ^ 2)

/-- √(v) / G_n in units of 10 mA, rounded to nearest; `v` is a squared magnitude. -/
def irms10 (p v : Nat) : Nat :=
  let g := gainSq p
  (Nat.sqrt (4 * v * g.2 / (100 * g.1)) + 1) / 2

/-- |A_I| / G_n < floor, in mA. -/
def belowFloor (p v floor : Nat) : Bool := let g := gainSq p; decide (v * g.2 < floor * floor * g.1)

/-- atan2(im, re) in units of 0.01°, rounded to nearest, half away from zero (R139): the count of half-units not above the angle. -/
def anglePos (re im : Int) : Nat → Nat → Nat
  | 0, acc => acc
  | b + 1, acc =>
    let k := acc + 2 ^ b
    let (c, s) := cosSin ((2 * k - 1) * 2 ^ 64 / 72000)
    if k ≤ 18000 ∧ 0 ≤ im * c - re * s then anglePos re im b k else anglePos re im b acc

def angle (re im : Int) : Int := if im < 0 then - (anglePos re (-im) 15 0 : Int) else anglePos re im 15 0

end Sys2Proof.Machine
end

