-- ==== Sys2Proof/Machine/RegFile.lean ====
section
/-!
DEFINITION. Machine/RegFile.lean: the register file as a sparse store over the register map: which row an address belongs to, what an
unlisted register reads as (its reset value), which lock bit guards it (R7), and what a write does by access code (R6, R9).
-/
namespace Sys2Proof.Machine

/-- Whether `off` falls on an element of an array with these strides and counts. -/
def inDims : List (Nat × Nat) → Nat → Bool
  | [], off => off == 0
  | (stride, count) :: t, off => decide (off / stride < count) && inDims t (off % stride)

/-- Whether a row of the map holds the register at `a`. -/
def RegRow.covers (r : RegRow) (a : Nat) : Bool := decide (r.addr ≤ a) && inDims r.dims (a - r.addr)

/-- The map table of the block that an address lies in (R320: slot n at 0x4000_0000 + n × 0x1_0000; R381 for the Cellar window). -/
def blockRows (a : Nat) : List RegRow :=
  match a / 0x10000 with
  | 0x4000 => rowsMODE
  | 0x4001 => rowsCPR
  | 0x4002 => rowsFLT
  | 0x4003 => rowsTG
  | 0x4004 => rowsTR
  | 0x4005 => rowsALM
  | 0x4006 => rowsSPG
  | 0x4007 => rowsLIM
  | 0x4008 => rowsSHT
  | 0x4009 => rowsMER
  | 0x400a => rowsLDG
  | 0x400b => rowsVAT
  | 0x400c => rowsLE
  | 0x400e => rowsCORE
  | 0x400f => rowsFLC
  | 0x4010 => rowsKS
  | 0x4011 => rowsCB
  | 0x4012 => rowsCB
  | 0x4013 => rowsCB
  | 0x4014 => rowsCB
  | 0x4015 => rowsCB
  | 0x4016 => rowsCUL
  | 0x4017 => rowsTMP
  | 0x4018 => rowsBIST
  | 0x4019 => rowsCMD
  | 0x401a => rowsXP
  | 0x401b => rowsXP
  | 0x401c => rowsXP
  | 0x401d => rowsXP
  | 0x401f => rowsASM
  | 0x4020 => rowsSVC
  | 0x4021 => rowsTAG
  | 0x5018 => rowsCEL
  | _ => []

/-- The row of the register at `a`. -/
def rowAt (a : Nat) : Option RegRow := (blockRows a).find? (·.covers a)

/-- R322, R324, and the fixed admission rules of the chapters: what TG_PERM[g] reads as after reset. -/
def permReset (g : Nat) : Nat :=
  match g with
  | 0 | 1 | 4 | 5 | 15 | 21 | 23 | 24 | 26 | 27 | 28 | 29 | 31 | 32 | 33 => 0x1030
  | 6 | 9 | 10 => 0x1133
  | 7 | 8 => 0x3333
  | 14 => 0x3333
  | 2 | 3 | 16 | 25 => 0x3030
  | 11 => 0x301030
  | 12 => 0x301030
  | 13 => 0x100020
  | 17 => 0x1030
  | 18 => 0x3010
  | 19 | 20 => 0x3030
  | 22 => 0x101131
  | 30 => 0x30
  | 34 => 0x30000000
  | 64 => 0x50
  | 65 => 0x50
  | 66 => 0x1000010
  | 67 => 0x10
  | 68 => 0x70
  | 69 => 0x10
  | 70 => 0x11011
  | 71 => 0x1011010
  | 72 => 0x3701030
  | 73 => 0x3301030
  | 74 => 0x3001030
  | 75 => 0x1000010
  | 76 => 0x2020
  | _ => 0

/-- R527: the clock domains that no write may gate or reset. -/
def protectedDomain (d : Nat) : Bool :=
  decide (272 ≤ d ∧ d ≤ 275) || d == 299 || d == 301 || d == 302 || d == 306 || decide (316 ≤ d ∧ d ≤ 318)

/-- The reset value of registers whose map row gives one per element. -/
def resetOverride (a : Nat) : Option Nat :=
  if a = 0x40010004 then some 0x04000000                                   -- CPR_STATUS: PWR_EN (log entry 43)
  else if a = 0x40000010 then some 0x10001                                      -- DEV_BEHAVIOUR: MOVESET 1, ACTIVE fused, LEVEL 1
  else if a = 0x40050180 then some 4                                            -- ALM_SRC_CFG[8]
  else if a = 0x40080020 then some 0x140A8000                              -- SHT_HZ_CFG[0]
  else if 0x40010400 ≤ a ∧ a < 0x40010400 + 4 * 320 then
    if protectedDomain ((a - 0x40010400) / 4) then some 0x501 else none    -- CPR_DOM
  else if 0x40030100 ≤ a ∧ a < 0x40030100 + 4 * 96 then some (permReset ((a - 0x40030100) / 4))
  else if 0x40060A00 ≤ a ∧ a < 0x40060A00 + 4 * 128 then some (log2L8 ((a - 0x40060A00) / 4) * 2 ^ 18)
  else if a = 0x40110000 ∨ a = 0x40150000 then some 1                     -- CB_CLAIM of the blocks with a fixed claim (R396)
  else if a = 0x40120000 then some 2
  else if a = 0x401B0008 ∨ a = 0x401C0008 then some 0x070E3C04             -- CAN XP_CFG0
  else if a = 0x401B000C ∨ a = 0x401C000C then some 0x000911A0             -- CAN XP_CFG1
  else if a = 0x401D0008 then some (Config.mac.toNat % 2 ^ 32)             -- Ethernet XP_CFG0: the MAC address as fused (log entry 106)
  else if a = 0x401D000C then some (51730 * 2 ^ 16 + Config.mac.toNat / 2 ^ 32) -- Ethernet XP_CFG1: UDP port and MAC address
  else if a = 0x401D0014 then some 0x100                                   -- Ethernet XP_CFG3: ARP
  else none

/-- What an unlisted register reads as: its reset value (R8). -/
def regDefault (a : Nat) : Word :=
  match resetOverride a with
  | some v => BitVec.ofNat 32 v
  | none => match rowAt a with
    | some r => BitVec.ofNat 32 r.rst
    | none => 0

/-- The register that holds the lock bit (bit 31) of the block that `a` lies in (R7). -/
def lockReg (a : Nat) : Option Nat :=
  let base := a / 0x10000 * 0x10000
  match a / 0x10000 with
  | 0x4004 => some (base + 0x800)
  | 0x400b => some (base + (a - base) / 0x100 * 0x100)
  | 0x400c => some (base + (a - base) / 0x40 * 0x40)
  | 0x4001 | 0x4003 | 0x4005 | 0x4006 | 0x4007 | 0x4008 | 0x400a | 0x400e | 0x400f | 0x4017 | 0x4019
  | 0x401a | 0x401b | 0x401c | 0x401d | 0x401f | 0x4020 | 0x4021 => some base
  | _ => none

/-- One field of a register written: R6 by access code, R7 for a locked RWL field. -/
def writeField (locked : Bool) (v : Word) (w : Word) (f : FieldRow) : Word :=
  let new := bitsOf v f.lsb f.width
  let old := bitsOf w f.lsb f.width
  match f.acc with
  | .ro | .wo => w
  | .rw => withBits w f.lsb f.width new
  | .rwl => if locked then w else withBits w f.lsb f.width new
  | .w1c => withBits w f.lsb f.width ((BitVec.ofNat 32 old &&& ~~~ BitVec.ofNat 32 new).toNat)
  | .w1s => withBits w f.lsb f.width ((BitVec.ofNat 32 old ||| BitVec.ofNat 32 new).toNat)

/-- A write of `v` over `old` by the fields of a row; bits of no field are reserved and keep (R9). -/
def writeRow (r : RegRow) (locked : Bool) (old v : Word) : Word := r.fields.foldl (writeField locked v) old

/-- A W1S bit that triggers an action and reads 0 afterwards: CLRCNT, VAT_CTRL.RESET, CEL_CTRL.INC_CLOSE, FLC_BANK.RELEASE, LE_CTRL bits. -/
def selfClearing (name : String) : Bool :=
  name == "CLRCNT" || name == "RESET" || name == "INC_CLOSE" || name == "RELEASE" || name == "RUN" || name == "STEP" ||
  name == "SUSPEND" || name == "SKIP"

/-- The word with its self-clearing bits at 0. -/
def clearTriggers (r : RegRow) (w : Word) : Word :=
  r.fields.foldl (fun acc f => if selfClearing f.name then withBits acc f.lsb f.width 0 else acc) w

/-- The counters that a block's CLRCNT bit clears: the address of the control register and the counters. -/
def counterSets : List (Nat × List Nat) := [
  (0x40050000, [0x40050038, 0x4005003C, 0x40050040] ++ (List.range 9).map (fun s => 0x4005010C + 0x10 * s)),
  (0x40060000, [0x40060008, 0x4006000C, 0x40060010, 0x4006001C]),
  (0x40070000, [0x40070038, 0x4007003C]),
  (0x40090000, [0x40090018, 0x40090024, 0x40090028]),
  (0x40080000, [0x40080040, 0x40080044]),
  (0x400a0000, [0x400a0030, 0x400a0034, 0x400a0038, 0x400a003C]),
  (0x400e0000, [0x400e000C, 0x400e0018, 0x400e001C]),
  (0x40030000, [0x40030008, 0x4003000C, 0x40030010, 0x40030014, 0x40030018]),
  (0x400f0000, [0x400f002C, 0x400f0030, 0x400f0034, 0x400f0038, 0x400f003C]),
  (0x50180000, [0x50180020, 0x50180024, 0x50180028]),
  (0x40160000, [0x40160008, 0x4016000C, 0x40160010]),
  (0x40170000, (List.range 14).map (fun s => 0x40170040 + 4 * s)),
  (0x40190000, [0x4019000C, 0x40190010, 0x40190014]),
  (0x401a0000, [0x401a0018, 0x401a001C]), (0x401b0000, [0x401b0018, 0x401b001C]),
  (0x401c0000, [0x401c0018, 0x401c001C]), (0x401d0000, [0x401d0018, 0x401d001C]),
  (0x40200000, [0x40200014, 0x40200018]),
  (0x40210000, [0x40210028, 0x4021002C, 0x40210030]),
  (0x401f0000, [0x401f0018, 0x401f001C, 0x401f0020]),
  (0x40020000, [0x40020028, 0x4002002C] ++ (List.range 16).map (fun c => 0x40020040 + 4 * c)),
  (0x40010000, [0x40010018, 0x4001001C]),
  (0x40180000, (List.range 8).map (fun i => 0x40180020 + 4 * i))]

/-- The counters cleared by a CLRCNT write at `a`: Transit rings and vats have one control register each. -/
def countersOf (a : Nat) : List Nat :=
  if 0x40040000 ≤ a ∧ a < 0x40040800 ∧ a % 0x100 = 0 then [a + 0x18, a + 0x1C, a + 0x20, a + 0x24]
  else if 0x400b0000 ≤ a ∧ a < 0x400b1000 ∧ a % 0x100 = 0 then (List.range 7).map (fun i => a + 0x34 + 4 * i)
  else match counterSets.find? (·.1 == a) with
    | some (_, l) => l
    | none => []

end Sys2Proof.Machine
end

