-- ==== Sys2Proof/Machine/State.lean ====
section
/-!
DEFINITION. Machine/State.lean: everything the spec gives the part, as plain data, and the state right after reset.
-/
namespace Sys2Proof.Machine

/-! ### Command interface (chapter 18) -/

/-- A packet that waits for the host on a transport, or a reply of the part (R426). -/
structure Reply where
  path    : Nat
  slot    : Nat          -- session slot, or 8 for unsecured
  opcode  : Nat
  seq     : Nat
  world   : Nat
  status  : Nat
  interim : Bool
  unsol   : Bool
  ridx    : Nat
  body    : List Byte    -- what follows the status and its two zero bytes, or the whole body of an unsolicited packet
  wire    : List Byte    -- the packet as sealed when it was queued
  deriving DecidableEq, Repr

/-- A challenge outstanding on a session or transport (R401): its nonce and the stamp it was drawn at. -/
structure Challenge where
  nonce : Nat
  drawn : Nat
  deriving DecidableEq, Repr

/-- A session slot (R428–R435). `phase`: 0 free, 1 handshake pending, 2 established. -/
structure Session where
  phase     : Nat
  world     : Nat
  path      : Nat
  peer      : Nat
  ident     : Nat
  partsig   : Bool
  seqHi     : Nat
  outst     : Nat
  tagf      : Nat
  last      : Nat          -- stamp of the last accepted packet, or of SESSION.OPEN's reply while pending
  unsol     : Nat
  challenge : Option Challenge
  closing   : Option Req   -- SESSION.CLOSE accepted, its reply owed once the commands started have theirs (R435)
  th1       : BitVec 384
  keys      : BitVec 512   -- K_HP in the low 256 bits, K_PH in the high
  deriving DecidableEq, Repr

/-- A segmented packet in reassembly (R441, R442). -/
structure Reassembly where
  src   : Nat
  index : Nat
  bytes : List Byte
  last  : Nat
  deriving DecidableEq, Repr

/-- A packet awaiting check (XP_STATUS.RXQ). -/
structure RxPacket where
  path  : Nat
  peer  : Nat
  bytes : List Byte
  deriving DecidableEq, Repr

/-- An event record (R514) with the locus it is emitted at. -/
structure EventRec where
  stamp  : Nat
  locus  : Nat
  block  : Nat
  ecode  : Nat
  detail : List Byte
  deriving DecidableEq, Repr

/-- The host trace (R516). -/
structure Trace where
  slot    : Nat
  mask    : Nat
  items   : List (Nat × EventRec)          -- (EVNO, record), in canonical order
  size    : Nat
  gap     : Option (Nat × Nat × Nat × Nat) -- FIRST_EVNO, COUNT, FIRST_STAMP, LAST_STAMP
  deriving DecidableEq, Repr

structure CmdState where
  sessions  : List Session          -- 8
  unsecOut  : List Nat              -- outstanding unsecured commands per transport, 5
  unsecChal : List (Option Challenge)
  rx        : List RxPacket
  tx        : List Reply            -- queued for the host, oldest first
  rxErr     : Bool                  -- SPI STATUS.RXERR
  can       : List (Option Reassembly)  -- channels 0 and 1
  eth       : List Reassembly       -- at most four sources
  trace     : Option Trace
  arp       : List (Nat × Nat)      -- ARP replies sent: (target protocol address, target MAC)
  bodyPtr   : List Nat              -- per world, next free offset of the body area (log entry 22)
  interims  : List (Nat × Nat × Nat × Nat) -- (world, descriptor index, interim replies issued, identifier of its session)
  out       : List Byte             -- bytes the last SPI READ or STATUS returned
  sent      : List (Nat × Nat × List Byte) -- CAN FD frames and UDP datagrams sent: (transport 1–3, identifier or receiver, payload)
  peers     : List (Nat × Nat)      -- unsecured commands outstanding on Ethernet: (SEQ, sender)
  deriving DecidableEq, Repr

def freeSession : Session := ⟨0, 0, 0, 0, 0, false, 0, 0, 0, 0, 0, none, none, 0, 0⟩

def CmdState.reset : CmdState :=
  ⟨List.replicate 8 freeSession, [0, 0, 0, 0, 0], [none, none, none, none, none], [], [], false, [none, none], [], none, [], [0, 0], [], [], [], []⟩

/-! ### Fault controller (chapter 22) -/

/-- A fault record (R509); RTIME 0xFFFF until recovery ends. -/
structure FaultRec where
  stamp  : Nat
  cls    : Nat
  sev    : Nat
  rflags : Nat
  unit   : Nat
  rtime  : Nat
  detail : Nat
  count  : Nat
  deriving DecidableEq, Repr

structure FaultState where
  queue     : List FaultRec        -- in order of queuing
  lastVce   : List Nat             -- per vat, stamp of the last engine fault; 2^64 none
  lastAlm   : List Nat             -- per Almanac channel, stamp of the last retirement; 2^64 none
  almOut    : List Bool            -- channel out until the Almanac domain is reset
  sramCopy  : List Nat             -- per SRAM bank, controller copies retired (bit mask)
  unended   : List FaultRec        -- faults whose recovery has not ended, as recorded, the newest first
  busy      : List (Nat × Nat × Nat) -- elements recovering: class, UNIT, and the stamp at which they are back in service
  deriving DecidableEq, Repr

def never : Nat := 2 ^ 64

def FaultState.reset : FaultState :=
  ⟨[], List.replicate 16 never, [never, never], [false, false], List.replicate 8 0, [], []⟩

/-! ### Cellar die (chapter 15) -/

/-- An entry of the Cellar record (R368). -/
structure CelEntry where
  stamp    : Nat
  eno      : Nat
  type     : Nat
  flags    : Nat
  incident : Nat
  payload  : List Byte
  deriving DecidableEq, Repr

/-- A slot of the record: the entry, and which of copy A, copy B and the commit word are good (R369). -/
structure CelSlot where
  entry  : CelEntry
  copyA  : Bool
  copyB  : Bool
  commit : Bool
  deriving DecidableEq, Repr

/-- An entry accepted and not yet committed (R369). -/
structure CelQueued where
  stamp   : Nat
  type    : Nat
  flags   : Nat
  inc     : Bool
  payload : List Byte
  deriving DecidableEq, Repr

/-- An open incident (R373). -/
structure Incident where
  number      : Nat
  offered     : Nat
  stored      : Nat
  overwritten : Nat
  dropped     : Nat
  firstEno    : Nat
  lastEno     : Nat
  firstStamp  : Nat
  lastStamp   : Nat
  tailBase    : Option Nat
  lastCount   : Nat          -- backup count of the last entry
  deriving DecidableEq, Repr

structure CellarState where
  record    : List (Nat × CelSlot)     -- by slot number, rising
  queue     : List CelQueued
  nextPin   : Nat
  nextRing  : Nat
  incident  : Option Incident
  lastInc   : Nat                      -- number of the last incident
  incCount  : Nat
  mirror    : List (Nat × Nat × List Byte)  -- (SEAL_SEQ mod 64, SEAL_SEQ, seal bytes), rising
  headNvm   : List Byte                -- NVM copy of CEL_HEAD
  headKept  : Bool                     -- CEL_HEAD retained since it was written
  qlatch    : Bool
  bcount    : Nat                      -- 48 bits, at the stamp `countAt`
  countAt   : Nat                      -- stamp at which `bcount` was the count (log entry 84)
  vres      : Nat                      -- mV
  charging  : Bool                     -- reserve keeper charging
  stopLevel : Nat                      -- mV at which it last stopped
  grades    : Nat                      -- NVM copy of TMP_GRADE (R415)
  anchored  : List Nat                 -- epochs of slots 4–11 (R384)
  bre       : BitVec 64                -- 0 is cleared (R392)
  reest     : Bool                     -- always-on flag REEST_PEND
  breDone   : Bool                     -- step 2 of R393 had committed while reest is set
  lcs       : Nat                      -- To state of the newest LC_DONE entry, 0xFF none
  scanTo    : Nat                      -- stamp until which the scan of a start runs (R371)
  tally     : List Byte                -- newest committed tally group, 100 bytes: HEAD_SEQ, CHAIN_ID, four energies, MODE_SECS, HEAD_STAMP
  lastTamper : Nat                     -- ENO of the newest TAMPER entry, 2^32-1 none
  main      : Bool                     -- main power present
  vbak      : Bool                     -- VBAK present
  deriving DecidableEq, Repr

def CellarState.reset : CellarState :=
  { record := [], queue := [], nextPin := 0, nextRing := 256, incident := none, lastInc := 0, incCount := 0, mirror := [],
    headNvm := zeros 64, headKept := false, qlatch := false, bcount := 0, countAt := 0, vres := 0, charging := true, stopLevel := 4900,
    grades := 0x09E5A6BF, anchored := List.replicate 8 0, bre := 0, reest := false, breDone := false, lcs := 0xFF, scanTo := 0, tally := zeros 100,
    lastTamper := 2 ^ 32 - 1, main := true, vbak := true }

/-! ### Keys, cipher blocks, Culture (chapter 16) -/

/-- A key slot (R383–R385): `loaded` false is EMPTY; ORPHANED is computed from the parents' epochs. -/
structure KeySlot where
  loaded : Bool
  world  : Nat
  usage  : Nat
  alg    : Nat
  parent : Nat
  len    : Nat
  epoch  : Nat
  pepoch : Nat
  key    : BitVec 512
  deriving DecidableEq, Repr

/-- A cipher block (R395–R397). -/
structure CipherBlk where
  key      : BitVec 512
  source   : Option Nat       -- slot whose key is loaded
  busy     : Option (Nat × Nat × List Byte) -- running function, its status and output
  lastEnd  : Nat
  gcmCount : Nat
  gcmIv    : Option (Nat × Nat)
  deriving DecidableEq, Repr

/-- A raw entropy source of Culture (R403). -/
structure Source where
  fails    : List Nat         -- stamps of failures within the last 60 s
  excluded : Bool
  deriving DecidableEq, Repr

/-- A starter (R405). -/
structure Starter where
  requests : Nat              -- since the last reseed
  reseeded : Nat              -- stamp of the last reseed
  deriving DecidableEq, Repr

/-- An entry of the owner root table (R399). -/
structure OwnerRoot where
  written : Bool
  root    : BitVec 384
  crcOk   : Bool
  commitA : Bool
  commitB : Bool
  deriving DecidableEq, Repr

structure KeyState where
  slots    : List KeySlot               -- 64
  staging  : List (List Byte × Nat)     -- per world, bytes and stamp of the last write
  op       : Option (Nat × Nat × Nat)   -- operation running: OP, KS_ARG, status it will report
  raising  : List (Nat × Req)           -- KEYS.RAISE_EPOCH of an anchored slot, before its Cellar counter commits (R390)
  reestReq : Option Req                 -- the KEYS.REESTABLISH whose procedure runs
  reestStep : Nat                       -- steps of R393 that it has done; 0 none runs
  pairing  : BitVec 512                 -- slot 2's key P, for the link
  ciphers  : List CipherBlk             -- slots 17–21
  certs    : List (Option Cert)     -- by ROLE 1–4
  roots    : List OwnerRoot             -- 4
  sources  : List Source                -- 3
  starters : List Starter               -- 24
  deriving DecidableEq, Repr

def emptySlot : KeySlot := ⟨false, 0, 0, 0, 0, 0, 0, 0, 0⟩
def freeRoot : OwnerRoot := ⟨false, 0, false, false, false⟩
def idleCipher : CipherBlk := ⟨0, none, none, 0, 0, none⟩

def KeyState.reset : KeyState :=
  { slots := List.replicate 64 emptySlot, staging := [(zeros 64, never), (zeros 64, never)], op := none, raising := [], reestReq := none, reestStep := 0, pairing := 0,
    ciphers := List.replicate 5 idleCipher, certs := [none, none, none, none], roots := List.replicate 4 freeRoot,
    sources := List.replicate 3 ⟨[], false⟩, starters := List.replicate 24 ⟨0, 0⟩ }

/-! ### Tamper monitors (chapter 17) -/

/-- A trip of a source that is in TMP_ACTIVE: the source, its monitor, the grade applied at the trip, whether the trip wrote an entry, and whether
the monitor's condition is still there. -/
structure ActiveTrip where
  src   : Nat
  index : Nat
  grade : Nat
  entry : Bool
  here  : Bool
  deriving DecidableEq, Repr

structure TamperState where
  tripped  : List Nat          -- sources that have tripped in the open Cellar incident
  incTrips : List Nat          -- per source, trips in that incident
  active   : List ActiveTrip
  fuses    : List (Bool × Bool) -- disable fuse pairs, 14
  net      : Nat               -- next Rind net to test
  diode    : Nat               -- next photodiode
  nextSrc  : Nat               -- next source to test
  backNext : Nat               -- next net or port tested on backup
  testAt   : Nat               -- when the last stimulated test began
  seeds    : List Nat          -- what the LFSRs of the 64 Rind nets and of mesh ports 0 and 1 were seeded with (R411, R412)
  stepsAt  : Nat               -- when their step `steps` began: a stamp in service, a backup count on backup
  steps    : Nat
  deriving DecidableEq, Repr

/-- No LFSR is ever loaded with zero (R411). -/
def TamperState.reset : TamperState :=
  { tripped := [], incTrips := List.replicate 14 0, active := [], fuses := List.replicate 14 (false, false), net := 0, diode := 0, nextSrc := 0, backNext := 0,
    testAt := 0, seeds := List.replicate 66 1, stepsAt := 0, steps := 0 }

/-! ### Modes and life cycle (chapter 2) -/

/-- A life-cycle transition accepted, with steps 1 and 2 of R39 done or under way: the states, the opcode, the session identifier and the
command whose reply waits. -/
structure Transition where
  src     : Nat
  dst     : Nat
  op      : Nat
  session : Nat
  req     : Option Req
  step    : Nat                        -- 4 once the fuses are blown and the done entry is awaited, else 0
  deriving DecidableEq, Repr

structure LifeState where
  fuses      : List (Bool × Bool)   -- main counter, four pairs
  frPair     : Bool × Bool
  transition : Option Transition
  epochUtc   : Nat                   -- fused UTC of the assembly epoch
  assembly   : Nat                   -- fused assembly number
  modeReq    : Option Req            -- the MODE.SET whose reply waits (R45)
  relReq     : Option Req            -- the MODE.RELEASE_QUARANTINE whose mode change waits (R49)
  custodyLost : Bool                 -- R222
  level      : Nat                   -- behaviour level in force, fused at commissioning; 0 before (R498)
  reread     : Option (Nat × Nat)    -- LC_STATE reads 7 until this stamp, then this code again (R337)
  above50    : Nat                   -- stamp up to which |I| exceeded 50 A on the shunt channel last (R44); 0 never
  deriving DecidableEq, Repr

def LifeState.reset : LifeState :=
  ⟨List.replicate 4 (false, false), (false, false), none, 0, 0, none, none, false, 0, none, 0⟩

/-! ### Target gates and the die-to-die link (chapter 13) -/

/-- What one die has for the other and cannot send while no session of the link is up (R18): entries of the record, one group at a time; a seal for
the mirror, with its SEAL_SEQ; a packet of the service port on its way to the logic die, or the logic die's answer to one. -/
inductive LinkItem where
  | entries (l : List CelQueued)
  | seal (n : Nat) (bytes : List Byte)
  | packet (bytes : List Byte)
  | reply (p : Reply)
  deriving DecidableEq, Repr

structure GateState where
  staged   : List Word              -- staged TG_WIN_LO, 16
  nonceL   : Nat
  nonceC   : Nat
  ks       : BitVec 512             -- K_S
  cntOut   : Nat                    -- logic die to Cellar die
  cntIn    : Nat
  attempts : Nat                    -- consecutive failed attempts
  waiting  : Bool                   -- HELLO sent, reply awaited
  bankOps  : List Bool              -- bank initialisation running, 8
  bankKeys : List Nat               -- the banks' scrambling keys, 8 (R333)
  writes   : List (Wr × Nat)        -- writes admitted that wait for their bank's initialisation, oldest first, with their addresses (R331)
  held     : List LinkItem          -- what waits for the next session of the link, oldest first (R18, R341)
  copies   : List (Nat × Word)      -- while no session is up: the copies of Cellar-die state as they were when the last one ended (R465, R481)
  deriving DecidableEq, Repr

def GateState.reset : GateState :=
  ⟨List.replicate 16 0, 0, 0, 0, 0, 0, 0, false, List.replicate 8 true, List.replicate 8 0, [], [], []⟩

/-! ### Transit rings (chapter 3) -/

/-- A command frame to a node (R72): address 0–15, 0x1E all, 0x1F unaddressed; sent from end B when `endB`. -/
structure NodeCmd where
  addr    : Nat
  opc     : Nat
  payload : List Byte
  endB    : Bool
  deriving DecidableEq, Repr

/-- What left an end last (R62, R63): the instant it heads, FLAGS, RCAP or MAXF, whether it is a COLLECT train, its command frame, and its
characters as they leave the end. -/
structure Train where
  k       : Nat
  flags   : Nat
  rcap    : Nat
  collect : Bool
  cmd     : Option NodeCmd
  chars   : List LineChar
  deriving DecidableEq, Repr

/-- A frame that is expected and neither captured nor declared missing (R77, R102). -/
structure Expected where
  k     : Nat
  node  : Nat
  tries : Nat
  due   : Nat                       -- train whose end it may next be asked for after; 2^64 while a RETX for it waits in the queue
  deriving DecidableEq, Repr

structure RingState where
  roster    : List (Option Nat)     -- non-volatile, node serials (R80)
  rosterSet : Bool
  serials   : List (Option Nat)     -- nodes enumerated now
  popMask   : List Nat              -- per position, the populated-cell mask its node last gave in READ_ID (R73)
  cmds      : List NodeCmd          -- the part's own commands, waiting for a command slot
  step      : Nat                   -- 0 none, 1 awaiting lock, 2 ENUM from end A, 3 probe, 4 ENUM from end B, 5 delays and identities (R78)
  isOpen    : Bool                  -- enumeration of an open ring (step 7)
  next      : Nat                   -- position the next ENUM names
  probeB    : Bool                  -- the probe of R79 goes from end B
  fromEnd   : List (Nat × Bool)     -- positions assigned in this enumeration, newest first; true from end B
  fresh     : List Nat              -- nodes addressed and not heard since: their FIRST is no reset (R81)
  waited    : Nat                   -- trains since that ENUM; 0 not sent
  started   : Nat                   -- stamp of step 1
  frames    : List Expected
  missed    : List (Nat × Nat)      -- (instant, node) declared missing
  good      : List (Option (Nat × Nat)) -- per node, instant and SEQ of the last captured frame with HOLDOVER 0 (R95)
  seen      : List (Option Nat)     -- per node, stamp of its last captured frame
  goodTrains : Nat                  -- consecutive trains on which every node reported LINKFLT 0 (R86)
  clear     : List (Nat × Nat)      -- (instant, nodes whose frame of it reported LINKFLT 0), of instants not judged yet
  brokeAt   : Nat                   -- stamp of the declaration of the break in force
  resent    : Bool                  -- step 3 of R83 has begun for it
  askRejoin : Bool                  -- a rejoin waits until no retransmission is outstanding (R86)
  rejoin    : Option Nat            -- train at which a rejoin takes effect
  sdly      : List (Option (Nat × Nat)) -- per node, SDLY_A and SDLY_B last sent, 16 bits
  mbTrains  : Nat                   -- trains since the mailbox command was sent
  nodeReq   : Option Req            -- the TRANSIT.NODE_REQUEST that the mailbox serves
  sentA     : Option Train
  sentB     : Option Train
  deriving DecidableEq, Repr

/-- A worker's node side on its uplink (R73, R82, R88). -/
structure Uplink where
  addr    : Option Nat
  sdlyA   : Nat
  sdlyB   : Nat
  resp    : List (Nat × Nat × Nat × List Byte) -- responses for the next trains: NODE, OPC, NSTAT, payload, oldest first
  retx    : List (List Byte)                 -- held frames queued for retransmission, in the order of their insertion
  history : List (Nat × List Byte)           -- last 32 assembly frames: the stamp they take and their bytes
  wrapped : Bool
  unwrap  : Option Nat                       -- TSTAMP from which it unwraps
  bleed   : Nat × Nat × Nat                  -- cell mask, duty and stamp of the last SET_BLEED
  breaks  : List (Nat × Bool)                -- BREAK sets sent: address, upstream LOS
  out     : List LineChar                    -- what it inserted before the ETR of the last train, or its last ordered set
  deriving DecidableEq, Repr

structure TransitState where
  rings   : List RingState
  pending : Option (Nat × Nat)     -- requested RATE and the instant it takes effect (R60)
  rates   : List (Nat × Nat)       -- (first instant, RATE), newest first
  up      : Uplink
  deriving DecidableEq, Repr

def RingState.reset : RingState :=
  { roster := List.replicate 16 none, rosterSet := false, serials := List.replicate 16 none, popMask := List.replicate 16 0, cmds := [], step := 0, isOpen := false, next := 0,
    probeB := false, fromEnd := [], fresh := [], waited := 0, started := 0, frames := [], missed := [], good := List.replicate 16 none, seen := List.replicate 16 none, goodTrains := 0,
    clear := [], brokeAt := 0, resent := false, askRejoin := false, rejoin := none, sdly := List.replicate 16 none, mbTrains := 0, nodeReq := none, sentA := none, sentB := none }

def TransitState.reset : TransitState :=
  ⟨List.replicate 8 RingState.reset, none, [(0, 0)], ⟨none, 0, 0, [], [], [], false, none, (0, 0, 0), [], []⟩⟩

/-! ### Almanac (chapter 4) -/

/-- A late entry not folded yet (R108): ring 0–7 or 8 for the pack segment, instant, node, stamp of its capture and the entry's bytes. -/
structure LateRef where
  ring  : Nat
  k     : Nat
  node  : Nat
  at_   : Nat
  bytes : List Byte
  deriving DecidableEq, Repr

structure AlmState where
  inst    : Nat                 -- newest instant
  w       : Nat                 -- watermark
  queue   : List LateRef        -- late queue, at most 4,096
  unq     : List LateRef        -- entries stored UNQUEUED and not folded
  packK   : Option Nat          -- latest instant Meridian delivered; none before the first
  packH   : Nat                 -- the instant at which the pack segment's horizon stands
  epochUtc : Nat                -- UTC seconds of the epoch
  okTrains  : Nat               -- consecutive trains within ±3 ns (R115)
  badTrains : Nat               -- consecutive trains beyond ±5 ns
  missedSync : Nat
  slew    : Nat                 -- ticks the worker is ahead and slews off (R114)
  syncAt  : Nat                 -- stamp at which the last valid uplink SYNC arrived
  step    : Option Nat          -- ticks by which the worker steps forward at the next instant (R114)
  deriving DecidableEq, Repr

def AlmState.reset : AlmState := ⟨0, 0, [], [], none, 0, 0, 0, 0, 0, 0, 0, none⟩

/-! ### Spectrograph (chapter 5) -/

/-- One bin of one cell: the segment in progress (R124, R125), the averages of R127 and the impedance record of R140. -/
structure BinAcc where
  re     : Int
  im     : Int
  absent : Nat
  void   : Bool
  mr     : Int
  mi     : Int
  mv     : Nat
  e      : Nat
  nseg   : Nat
  stamp  : Nat
  zre    : Int
  zim    : Int
  coh    : Nat
  irms   : Nat
  zStamp : Nat                         -- stamp of the fold that updated Z last; never none
  flags  : Nat
  deriving DecidableEq, Repr

/-- One cell, or the pack current: REF_c, the last 128 samples (newest first), and its bins by number. -/
structure SpgCell where
  ref  : Option Int
  win  : List (Option Int)
  bins : Sparse BinAcc
  deriving DecidableEq, Repr

/-- A fit cycle whose boundary W has passed (R135): j, the RATE code, and the cells as they stood after every fold stamped no later than B_j. -/
structure FitDue where
  j     : Nat
  rate  : Nat
  cells : Sparse SpgCell
  deriving DecidableEq, Repr

structure SpgState where
  origin   : Option Nat                -- the instant at the integration origin, t = 0
  count    : Nat                       -- samples since then
  cells    : Sparse SpgCell            -- by cell index (R211); 2,048 is the pack current
  sii      : List Nat                  -- 128
  chem     : List (Option (List Byte)) -- 4 chemistry tables
  nodeChem : List (Option Nat)         -- by 16 × ring + node
  nodeSerial : List (Option Nat)       -- by 16 × ring + node: the serial whose samples the averages hold
  lastJ    : Nat                       -- last fit cycle begun
  due      : List FitDue               -- cycles whose boundary W has passed and that have not run, oldest first
  fits     : Sparse (List Byte)        -- fit records
  fitted   : Sparse (List Rat)         -- the parameters of the last fit that ran
  temps    : Sparse (List Byte)        -- temperature records; AGE is computed when read
  pilotAt  : Nat                       -- stamp of the request
  pilotFolds : Nat                     -- folds of its bin since STARTED
  holdoff  : List (Nat × Nat)          -- (bin, stamp until which it is not requested again)
  configured : List (Nat × Nat)        -- GATE and AVGSH last written by SPECTRO.SET_BIN
  cycle    : List (Nat × Nat)          -- per bin, folds and gated folds of the fit cycle in progress
  history  : List (List (Nat × Nat))   -- the same per completed fit cycle, newest first, at most 360
  deriving DecidableEq, Repr

def idleBin : BinAcc := ⟨0, 0, 0, false, 0, 0, 0, 0, 0, 0, 0, 0, 0, 0, never, 0⟩
def newCell : SpgCell := ⟨none, [], []⟩
def SpgState.reset : SpgState :=
  { origin := none, count := 0, cells := [], sii := List.replicate 128 0, chem := [none, none, none, none], nodeChem := List.replicate 128 none, nodeSerial := List.replicate 128 none,
    lastJ := 0, due := [], fits := [], fitted := [], temps := [], pilotAt := 0, pilotFolds := 0, holdoff := [], configured := List.replicate 128 (0xE666, 4),
    cycle := List.replicate 128 (0, 0), history := [] }

/-! ### Estimators, cell states and the limit arbiter (chapter 6) -/

/-- An OCV correction (R147): its stamp, the SoC found, the charge counted so far, and of how many sampled instants with how many currents. -/
structure OcvPoint where
  stamp  : Nat
  soc    : Rat
  charge : Rat
  got    : Nat
  due    : Nat
  deriving DecidableEq, Repr

structure EstCell where
  soc      : Rat                       -- 0 to 1
  cap      : Rat                       -- mAh
  caps     : List (Nat × Rat)          -- last 16 capacities with the powered time in s, newest first
  charge   : Rat                       -- mAh counted since profile use began
  got      : Nat                       -- sampled instants counted with a current in service
  due      : Nat                       -- sampled instants counted
  ocvs     : List OcvPoint             -- OCV corrections since the last capacity update, newest first
  restFrom : Nat                       -- stamp from which the rest current has been respected
  rested   : Nat                       -- corrections made in this rest
  r25      : Rat
  base     : Option (List Rat)         -- R25 of the first 100 fits, while they are collected
  baseMean : Option Rat
  drop     : Bool                      -- the last capacity update lowered C by more than 2 % of rated
  rests    : List (Nat × Rat)          -- stamps of rest corrections, newest first, and the SoC found less the ring median
  fails    : List Nat                  -- per check of R151, evaluations in a row that failed
  present  : Nat                       -- stamp of the last present voltage
  volt     : Int                       -- µV, last present
  seen     : Nat × Nat                 -- sampled instants passed since the last period boundary: with a present voltage, and all
  here     : Bool                      -- the last period with sampled instants gave a present voltage
  aux      : Nat                       -- last AUX field, 48 bits
  status   : Nat                       -- last STATUS
  state    : Nat                       -- 0 normal, 1 watch, 2 cell quarantine
  states   : List (Nat × Nat)          -- its last changes, newest first: stamp, state
  cause    : Nat
  watchFrom : Nat                      -- stamp at which WATCH_TIME was 0
  cleanFrom : Nat                      -- stamp from which every check has passed
  vals     : List (Nat × Int × Nat × Nat) -- estimates 0–6: stamp, VALUE, QUAL, EFLAGS
  deriving DecidableEq, Repr

/-- The pack's figures of one period (R149, R154): the limits in 0.1 A, the voltages in 0.1 V, SoC and SoH in 0.01 %, cells in watch and in cell
quarantine, T_MAX in s9.7. -/
structure PackFigures where
  chg   : Nat
  dis   : Nat
  vChg  : Nat
  vDis  : Nat
  soc   : Nat
  soh   : Nat
  watch : Nat
  quar  : Nat
  tMax  : Nat
  deriving DecidableEq, Repr

structure EstState where
  profiles  : List (Option (List Byte))  -- 4
  cells     : Sparse EstCell
  balStart  : Nat                        -- 0.1 %
  balStop   : Nat                        -- 0.1 %
  tBal      : Nat                        -- °C
  qfactor   : Nat                        -- %
  watchExit : Nat                        -- s
  bleed     : List (Nat × Nat)           -- current decision per node, by 16 × ring + node: cells that bleed, and those of them at duty 0x80
  adapt     : Bool
  gateMin   : Nat
  rgClass   : Nat
  unpowered : Nat                        -- ticks without power so far, which WATCH_TIME does not count
  upTo      : Nat                        -- stamp of the newest sampled instant that W has passed
  current   : Option Int                 -- current in service at that instant, mA
  vPack     : Option Int                 -- V_PACK of the newest such instant that had one, mV
  curSeen   : Nat × Nat                  -- sampled instants passed since the last period boundary: with a current in service, and all
  pack      : PackFigures                -- what the custody world is to write for the next boundary
  deriving DecidableEq, Repr

def EstState.reset : EstState :=
  { profiles := [none, none, none, none], cells := [], balStart := 10, balStop := 3, tBal := 55, qfactor := 50, watchExit := 1800,
    bleed := List.replicate 128 (0, 0), adapt := false, gateMin := 55706, rgClass := 0, unpowered := 0, upTo := 0, current := none, vPack := none,
    curSeen := (0, 0), pack := ⟨0, 0, 0, 0, 0, 0, 0, 0, 0⟩ }

structure LimState where
  wroteChg : Bool                      -- base written since the last boundary
  wroteDis : Bool
  base     : Nat × Nat                 -- BASE in force: charge, discharge
  stale    : Nat                       -- consecutive stale periods
  caps     : List (Option (Nat × Nat)) -- CUCAP_CHG, CUCAP_DIS, OPCAP_CHG, OPCAP_DIS: value and end of lifetime
  qceil    : Option (Nat × Nat)
  frames   : Nat                       -- CNT of the next frame
  frame    : List Byte                 -- last frame
  period   : Nat                       -- p of the last boundary
  sent     : List (Nat × Nat × List Byte) -- frames queued on CAN FD: channel, identifier word, bytes
  deriving DecidableEq, Repr

def LimState.reset : LimState := ⟨false, false, (0, 0), 0, [none, none, none, none], none, 0, zeros 32, 0, []⟩

/-! ### Meridian (chapter 7) -/

/-- A calibration in progress (R168): input, form (0 ZERO, 1 SPAN), reference, sum and count of codes, and its command. -/
structure Calib where
  input : Nat
  span  : Bool
  ref   : Nat
  sum   : Int
  count : Nat
  req   : Req
  deriving DecidableEq, Repr

/-- An intermediate sample whose instant has no entry yet (R173): its stamp, the period it arrived in, and the current in service, on the shunt and on
the fluxgate. -/
structure MerSample where
  stamp : Nat
  per   : Nat
  svc   : Option Int
  shunt : Option Int
  flux  : Option Int
  deriving DecidableEq, Repr

/-- The calibration group from a stamp on (R167): GAIN, OFS and DLY of each input, and CAP. -/
structure Conv where
  start : Nat
  gain  : List Nat
  ofs   : List Nat
  dly   : List Nat
  cap   : Nat
  deriving DecidableEq, Repr

structure MerState where
  count   : List Nat                   -- ten registers: whole mWh since EN
  rem     : List Nat                   -- their remainders
  period  : List Nat                   -- registers 0–5: units of the open period, held back until its mean is known
  sums    : List (Int × Nat × Nat)     -- in service, shunt, fluxgate: Σ I, Σ |I| and samples of the open period
  ovr     : Nat                        -- inputs with an OVR sample in the open period
  spoiled : Bool                       -- MODFLT on a current input in the open period
  disagree : Nat                       -- consecutive disagreeing periods
  agree   : Nat
  svc     : List (Nat × Nat × Nat)     -- channels in service, newest first: (stamp from which, 0 none 1 shunt 2 fluxgate, stamp it was chosen at)
  bits    : List Nat                   -- per input, the last 250 bits of its bitstream, the oldest in bit 0
  run     : List Nat                   -- per input, MCLK cycles since the last transition
  codes   : List (Nat × List Int)      -- intermediate codes with their stamps, newest first
  convs   : List Conv                  -- calibration groups written, newest first
  samples : List MerSample             -- oldest first
  per     : Nat                        -- the open period, counted from reset
  loads   : List (Nat × List Bool)     -- closed periods with samples waiting: per channel, below NOLOAD
  recent  : List (Nat × Nat)           -- (stamp, |I|) in service over the preceding 1 ms, newest first
  current : Option Int                 -- current in service at the last intermediate sample, mA
  stuckAt : List Nat                   -- per input, stamp at which STUCK was set
  freeAt  : List Nat                   -- per input, stamp at which STUCK was clear first since then
  timeRem : Nat                        -- unmetered intermediate samples below 1 ms
  chargeRem : Nat                      -- unmetered charge below 1 A·s, in mA × 1/160,000 s
  tables  : List (Sparse Byte)         -- two banks of the WWE table
  loaded  : Bool                       -- some table has been activated
  prior   : Bool                       -- the bank active before the last exchange had been activated too
  tableAt : Nat                        -- stamp from which the active bank applies
  digest  : List Byte                  -- of the pending activation
  classes : List (Nat × Nat)           -- (stamp, class in force), newest first
  ctx     : List (Nat × Nat × Nat)     -- (P_p, SOC, T_MAX) of the last 64 periods, newest first
  wweFrom : Nat                        -- stamp at which the WWE stage started
  cal     : Option Calib
  pulseAcc : Nat                       -- energy towards the next pulse, in units of mWh × IMP
  pulses  : Nat                        -- pulses queued
  pulseAt : Option Nat                 -- stamp of the last pulse
  deriving DecidableEq, Repr

def MerState.reset : MerState :=
  { count := List.replicate 10 0, rem := List.replicate 10 0, period := List.replicate 6 0, sums := List.replicate 3 (0, 0, 0), ovr := 0, spoiled := false,
    disagree := 0, agree := 0, svc := [(0, 1, 0)], bits := List.replicate 4 0, run := List.replicate 4 0, codes := [], convs := [], samples := [], per := 0, loads := [],
    recent := [], current := none, stuckAt := List.replicate 4 0, freeAt := List.replicate 4 0, timeRem := 0, chargeRem := 0, tables := [[], []], loaded := false, prior := false, tableAt := 0, digest := [], classes := [],
    ctx := [], wweFrom := 0, cal := none, pulseAcc := 0, pulses := 0, pulseAt := none }

/-! ### Shutter (chapter 8) -/

structure ShtState where
  changed  : List Nat                  -- per output, stamp of the last change; never none
  preAt    : Nat                       -- stamp at which SHT_PRE closed
  mposAt   : Nat                       -- stamp at which a close of SHT_MPOS was accepted
  derateAt : Nat                       -- most recent low-to-high edge of SHT_DERATE
  hold     : Option Nat                -- P_p at which it ends
  posthold : Option Nat
  shaped   : List (Bool × Nat × Bool)  -- the last 10 periods, newest first: shaped, pd, a hazard asserted
  assertAt : List Nat                  -- and the input became asserted
  lowAt    : List Nat                  -- per hazard input, stamp at which its pin was last known low
  overAt   : Nat                       -- stamp from which |I| has exceeded 50 A
  opened   : List Bool                 -- per hazard input, its opening has been made in this assertion
  bleedWait : List (Nat × Nat)         -- (ring, node) of settings to be sent
  deriving DecidableEq, Repr

def ShtState.reset : ShtState :=
  { changed := List.replicate 3 never, preAt := 0, mposAt := 0, derateAt := 0, hold := none, posthold := none, shaped := [], assertAt := List.replicate 4 0, lowAt := List.replicate 4 0, overAt := 0, opened := List.replicate 4 false, bleedWait := [] }

/-! ### Flash array (chapter 14) -/

/-- A bank's journal (R352): the current journal sector, the lines used in it, the newest JSEQ, and the sectors whose newest intent has no later
settled entry. -/
structure Journal where
  sect      : Nat
  fill      : Nat
  jseq      : Nat
  unsettled : List Nat
  deriving DecidableEq, Repr

/-- A firmware-channel operation in progress (R347): `data` is the program data or the expected data; `req` the command that waits for its status. -/
structure FlashOp where
  op     : Nat
  addr   : Nat
  len    : Nat
  src    : Nat
  margin : Nat
  data   : List Byte
  req    : Option (Req × Nat)
  deriving DecidableEq, Repr

structure FlashState where
  lines    : Sparse Nat            -- lines programmed since their sector's last erase, by address div 16
  journals : List Journal          -- 8
  op       : Option FlashOp
  twin     : Nat                   -- selector in force: 0 A, 1 B
  count    : Nat
  imgver   : Nat
  selSect  : Nat                   -- current selector sector, S0 or S1
  selFill  : Nat                   -- lines used in it
  deriving DecidableEq, Repr

def FlashState.reset : FlashState := ⟨[], List.replicate 8 ⟨0, 1, 1, []⟩, none, 0, 0, 0, 0, 0⟩

/-! ### Ledger (chapter 9) -/

/-- What is latched at a period boundary or at a Quarantine entry, for the blocks that end or span there (R210). -/
structure Snap where
  stamp  : Nat
  period : Bool                    -- a period boundary
  energy : List Nat                -- MER registers 0–5
  unmet  : Nat × Nat
  status : Nat                     -- MER_STATUS
  class_ : Nat
  pub    : Nat × Nat               -- published limits
  flags  : Nat
  stale  : Bool
  info   : List Byte               -- SOC, SOH, T_MAX, WATCH, QUAR
  late   : Nat                     -- late entries so far
  missed : Nat                     -- frames declared missing so far
  table  : List Byte               -- digest of the active WWE table
  deriving DecidableEq, Repr

/-- A block that has closed and is not assembled. -/
structure Closed where
  seq    : Nat
  from_  : Nat
  to_    : Nat
  mode   : Nat
  lcs    : Nat
  bflags : Nat
  close  : Nat                     -- stamp of the close
  meter  : List Byte               -- METER body
  pack   : List Byte               -- PACK body
  modeSecs : List Byte
  cells  : List (Nat × List Byte)  -- records of the rotation, by cell index, as at the close
  specials : List Nat              -- 3 handover, 4 retirement, 5 last block before Field-return, 6 before Dormant, 7 succession, 8 head of the test chain
  deriving DecidableEq, Repr

/-- A seal asked for (R215). -/
structure SealJob where
  kind   : Nat
  sflags : Nat                     -- RELEASE, GAP and TIME_SUSPECT of SFLAGS
  head   : Nat
  stamp  : Nat
  hash   : BitVec 384
  tally  : List Byte
  chain  : Nat
  due    : Nat                     -- latest stamp of R219
  req    : Option (Req × Nat)      -- the command whose reply follows the seal, and its opcode
  deriving DecidableEq, Repr

/-- An entry that waits for the archive (R225, R227): `seq` is the block it belongs to. -/
structure ArcItem where
  type : Nat
  seq  : Nat
  body : List Byte
  hash : BitVec 384
  deriving DecidableEq, Repr

/-- An entry in a log: its address on the device and its whole length. -/
structure ArcEntry where
  lseq : Nat
  type : Nat
  addr : Nat
  len  : Nat
  deriving DecidableEq, Repr

structure ArcLog where
  first   : Nat                    -- first unit
  units   : Nat
  pos     : Nat                    -- next byte in the log
  next    : Nat                    -- LSEQ of the next entry
  ack     : Nat                    -- entries below it are acknowledged
  entries : List ArcEntry          -- oldest first
  deriving DecidableEq, Repr

/-- The archive device and its controller. -/
structure ArcState where
  size   : Nat                     -- MiB in use; 0 none discovered
  ulog   : Nat                     -- 12 or 16
  hseq   : Nat
  serial : Nat                     -- SERIAL and CHAIN_ID of the current header; HSEQ 0 when there is none
  chain  : Nat
  shares : Nat × Nat × Nat         -- block, event, seal, in sixteenths
  bad    : List Nat
  failed : List Nat                -- units that have failed once
  logs   : List ArcLog             -- block, event, seal
  queue  : List ArcItem
  last   : Nat                     -- stamp of the last entry written, or of the start
  lastBlock : Nat                  -- SEQ + 1 of the newest block of the chain that was written or that a gap entry covers, 0 none
  deriving DecidableEq, Repr

/-- A handover statement outstanding (R231): its bytes and the part's signatures over it. -/
structure Handover where
  hs      : List Byte
  nonce   : Nat
  newRoot : BitVec 384
  expiry  : Nat
  sigEc   : List Byte
  sigPq   : List Byte
  deriving DecidableEq, Repr

structure LdgState where
  chain    : Option Nat            -- CHAIN_ID of the open chain
  test     : Bool                  -- it is the test chain
  ended    : Bool                  -- the chain is closed (R230, R493)
  hold     : Bool                  -- its last block has closed, and what closes the chain is under way
  origin   : Nat × List Nat        -- STAMP_FROM of the genesis block and the ticks per mode code before it
  seq      : Nat                   -- SEQ of the block in progress
  from_    : Nat                   -- its STAMP_FROM
  counted  : Nat                   -- only stamps later than this end it
  prev     : BitVec 384            -- hash of the block before it, when every closed block is assembled
  bflags   : Nat                   -- BFLAGS the block in progress carries
  modes    : List (Nat × Nat)      -- (stamp, mode in force from it), newest first
  lcs      : List (Nat × Nat)      -- (stamp, life-cycle code from it), newest first
  ends     : List (Nat × Nat)      -- further stamps at which a block ends, and what is special about it
  modeTicks : List Nat             -- ticks per mode code, as at `from_`
  snaps    : List Snap             -- newest first
  expired  : Nat                   -- OR of ALM_STATUS.EXPIRED since the last close
  late     : Nat                   -- late entries so far
  missed   : Nat                   -- frames declared missing so far
  base     : Nat × Nat             -- both, as at the last close
  closed   : List Closed           -- oldest first
  head     : Option (Nat × Nat × BitVec 384) -- SEQ, STAMP_TO and hash of the head
  headMeter : List Byte            -- METER body of the head
  headModes : List Byte            -- MODE_SECS of the head
  corrs    : List (Nat × Nat × List Byte) -- correction records of the open block: stamp, locus, record
  corrNo   : Nat                   -- per-chain number of the next overflow correction
  workers  : List (Nat × Nat × BitVec 384) -- seal digests merged for the open block: DEVICE, SEAL_SEQ, digest
  evidence : Bool                  -- the newest assembled block, or the time since, was under evidence-only sealing
  suspect  : Bool                  -- TIME_SUSPECT to be carried
  jobs     : List SealJob
  sealSeq  : Nat                   -- SEAL_SEQ of the next seal
  sealHash : BitVec 384            -- SHA-384 of the last seal
  sealAt   : Nat                   -- stamp of the last seal; never none
  keyIds   : Nat × Nat             -- of the previous signed seal
  gap      : Bool                  -- a gap entry lies after the head of the newest seal asked for
  timeSus  : Bool                  -- a block with TIME_SUSPECT lies after the head of the newest seal asked for
  tallySlot : Nat                  -- next slot of the tally log
  handover : Option Handover
  hoSeq    : Nat                   -- SEQ of the handover block (R232), 0 none
  hoBody   : List Byte             -- HANDOVER section of the block that ends next
  arc      : ArcState
  deriving DecidableEq, Repr

def emptyLog : ArcLog := ⟨0, 0, 0, 0, 0, []⟩

def ArcState.reset : ArcState := ⟨0, 12, 0, 0, 0, (12, 2, 2), [], [], [emptyLog, emptyLog, emptyLog], [], 0, 0⟩

def LdgState.reset : LdgState :=
  { chain := none, test := false, ended := false, hold := false, origin := (0, List.replicate 6 0), seq := 0, from_ := 0, counted := 0, prev := 0, bflags := 0, modes := [(0, 0)], lcs := [(0, 0)], ends := [],
    modeTicks := List.replicate 6 0, snaps := [], expired := 0, late := 0, missed := 0, base := (0, 0), closed := [], head := none, headMeter := zeros 128, headModes := zeros 24,
    corrs := [], corrNo := 0, workers := [], evidence := false, suspect := false, jobs := [], sealSeq := 0, sealHash := 0, sealAt := never,
    keyIds := (0, 0), gap := false, timeSus := false, tallySlot := 0, handover := none, hoSeq := 0, hoBody := [], arc := ArcState.reset }

/-! ### Manager, workers and succession (chapter 21) -/

/-- What the part knows of a worker, by DEVICE. -/
structure Worker where
  seen    : Nat                    -- stamp of its last STATUS; never none
  status  : List Byte              -- last STATUS payload
  merged  : Option Nat             -- last merged SEAL_SEQ
  half    : Option (Nat × Nat × List Byte) -- PTYPE, SEAL_SEQ and bytes of the half of a digest that waits for the other
  deriving DecidableEq, Repr

structure AsmState where
  strap    : Nat
  role     : Nat                   -- stored by ASSEMBLY.SET_ROLE, with its ring mask
  mask     : Nat
  inForce  : Nat                   -- role that the last main power-up gave (R483)
  clashes  : List (Nat × Nat)      -- succession conflicts answered since reset: CAUSE and the other serial (R497)
  highTerm : Nat                   -- highest TERM seen
  demoted  : List Nat              -- rings this manager stopped driving
  workers  : List Worker           -- 64
  reqs     : List (Nat × Nat × Bool) -- seals asked for and not merged: DEVICE, SEAL_SEQ, whether the SEAL_REQ is sent
  announce : Bool                  -- the next train carries ASM_ANNOUNCE, as the first after a promotion
  conflicts : List Nat             -- workers whose seals are not merged (R497)
  digests  : List (List Byte)      -- this worker's frames to be sent, oldest first
  device   : Nat                   -- DEVICE value stored in flash
  adopt    : Option (SuccCert × List Byte) -- certificate and head block of an adoption accepted
  adopted  : List Nat              -- OLD_SERIALs that an adoption of this part names
  ceded    : Nat                   -- progress of SUCCESSION_SEAL: 0 none, 1 in step 1, 2 done
  newSerial : Nat                  -- NEW_SERIAL of the SUCCESSION_SEAL in progress
  req      : Option Req            -- and its command
  deriving DecidableEq, Repr

def AsmState.reset : AsmState :=
  { strap := 0, role := 0, mask := 0, inForce := 0, clashes := [], highTerm := 0, demoted := [], workers := List.replicate 64 ⟨never, [], none, none⟩, reqs := [], announce := false, conflicts := [], digests := [], device := 0,
    adopt := none, adopted := [], ceded := 0, newSerial := 0, req := none }


/-! ### Engines (chapters 10–12) -/

/-- Where a result lands (R246, R247): on a result port, by its wide number, or in the accumulator with OV, MODE and the SH sampled. -/
inductive Landing where
  | port (p : Nat) (v : Word)
  | mac (acc : Nat) (ov cm : Bool) (sh : Nat)
  deriving DecidableEq, Repr

/-- A result in flight: it lands `dist` instructions from now. -/
structure Flight where
  dist : Nat
  what : Landing
  deriving DecidableEq, Repr

/-- The registers, operands, result ports and pipeline of one engine (R242–R248, R273, R275). -/
structure Units where
  t       : Sparse Word            -- T0–T31 or T0–T63
  aluA    : Word
  aluR    : Word
  shfA    : Word
  shfR    : Word
  macB    : Word
  macSh   : Nat
  acc     : Nat                    -- 72 bits
  ov      : Bool
  cm      : Bool                   -- MODE: complex
  rndSh   : Nat                    -- SH sampled by the latest delivered trigger
  rnd     : Option Word            -- a deposit on MAC.RND, until the next delivery
  rndi    : Option Word
  lsuD    : Word
  lsuP    : Word
  lsuR    : Word
  cmpB    : Word
  g       : Bool
  strR    : Word
  strStat : Word
  pre     : Word                   -- LIMM prefix, and the LIMM moves of its chain
  preN    : Nat
  link    : Word
  target  : Nat                    -- pending branch target, with the delay slots left
  dslot   : Nat
  flight  : List Flight            -- in order of origin
  icount  : Nat
  pc      : Nat                    -- address of the next instruction
  busD    : Word
  busR    : Word
  busDone : Bool
  busErr  : Bool
  busColl : Bool
  busAddr : Option (Nat × Nat × Nat) -- load outstanding: address, and the class and context it was issued with
  lswD    : Word
  lswR    : Word
  lswRef  : Bool
  deriving DecidableEq, Repr

def Units.reset : Units :=
  { t := [], aluA := 0, aluR := 0, shfA := 0, shfR := 0, macB := 0, macSh := 0, acc := 0, ov := false, cm := false, rndSh := 0, rnd := none, rndi := none,
    lsuD := 0, lsuP := 0, lsuR := 0, cmpB := 0, g := false, strR := 0, strStat := 0, pre := 0, preN := 0, link := 0, target := 0, dslot := 0, flight := [],
    icount := 0, pc := 0, busD := 0, busR := 0, busDone := false, busErr := false, busColl := false, busAddr := none, lswD := 0, lswR := 0, lswRef := false }

/-- A checkpoint (R287): the lane's state, its cursor and OVERRUN. -/
structure Checkpoint where
  u       : Units
  k       : Nat
  node    : Nat
  overrun : Bool
  deriving DecidableEq, Repr

/-- A lane, by its number: a spare that takes over a job takes its lane's number (R16, R289). -/
structure LaneState where
  u       : Units
  stat    : Nat                    -- LE_STATUS.STATE
  k       : Nat                    -- stream cursor
  node    : Nat
  overrun : Bool
  refused : Bool
  dep     : Option (Nat × Word × Nat) -- deposit armed: wide port, value, distance
  ck      : Option Checkpoint
  undo    : List (Nat × Word)      -- newest first
  since   : Nat                    -- instructions since the last accepted MARK
  disp    : Nat                    -- instructions since the dispatch
  job     : Option Nat
  seen    : Bool                   -- its trap is acknowledged
  hit     : Option Nat             -- the decode-table entry that the search for its trap found (R280, R291)
  deriving DecidableEq, Repr

def LaneState.reset : LaneState := ⟨Units.reset, 0, 0, 0, false, false, none, none, [], 0, 0, none, false, none⟩

/-- A vat: its control engine, ARG, whether its LTRAP handler runs, the jobs whose captured state is in their save areas, and retirement (R505). -/
structure VatState where
  u       : Units
  arg     : Word
  handler : Bool
  saved   : List Nat
  retired : Bool
  deriving DecidableEq, Repr

def VatState.reset : VatState := ⟨Units.reset, 0, false, [], false⟩

/-- A frame of a thread's stack (R304, R307). -/
structure Frame where
  exc    : Bool
  ret    : Nat
  ctx    : Nat
  sp     : Word
  gate   : Nat
  busy   : Bool                    -- the call set the gate's BUSY
  pair   : Nat
  cpri   : Nat
  target : Nat
  dslot  : Nat
  deriving DecidableEq, Repr

/-- A world's thread (R295–R315); before the launch the thread of world 0 runs the ring contexts. -/
structure Thread where
  u       : Units
  ctx     : Nat
  frames  : List Frame             -- top first
  cpri    : Nat
  gateSt  : Word
  cause   : Word
  from_   : Word
  hold    : Option (Nat × Nat × Nat) -- stamp of its opening, length in core cycles, context that opened it
  waiting : Bool                   -- in SYS HALT
  stopped : Bool
  deriving DecidableEq, Repr

def Thread.reset : Thread := ⟨Units.reset, 0, [], 0, 0, 0, 0, none, false, false⟩

structure EngineState where
  lanes   : Sparse LaneState
  vats    : Sparse VatState
  threads : List Thread
  ie      : List Bool              -- custody world, operator world, ring mode
  p1      : Bool                   -- pair 1 has left its halt
  sliceAt : Nat                    -- stamp at which the running slice ends
  rgnLo   : Sparse Word            -- staged CORE_RGN_LO, by 8 × context + region
  deriving DecidableEq, Repr

def EngineState.reset : EngineState := ⟨[], [], [Thread.reset, Thread.reset], [false, false, false], false, 0, []⟩

/-! ### Service port (chapter 19) -/

/-- A write received and not yet finished, without main power (R462, R463): its kind, the first block and what is written. -/
structure SvcWrite where
  kind  : Nat
  block : Nat
  data  : List (List Byte)
  deriving DecidableEq, Repr

structure SvcState where
  atr      : Bool                   -- activated and ATR sent
  mode     : Nat                    -- code of the mode in force at the ATR (R458)
  nsHost   : Nat                    -- N(S) expected from the host
  nsPart   : Nat                    -- N(S) of the part's next I-block
  chain    : List Byte              -- INF of a chain being received
  replies  : List (List Byte)       -- INF of the blocks of the reply chain still to be acknowledged, the one sent first
  last     : List Byte              -- last block sent
  failures : Nat                    -- consecutive failures of one block (R453)
  cmdOut   : Bool                   -- a command is outstanding (R455)
  owed     : Bool                   -- the answer to the host's last block is still to come
  unlocked : Bool
  password : Option Nat             -- NVM, with the count and the flags
  attempts : Nat
  lockout  : Bool
  erasing  : Bool
  area     : Sparse (Bool × List Byte) -- blocks of the user area, with DEFINED
  writing  : Option SvcWrite
  deriving DecidableEq, Repr

def SvcState.reset : SvcState :=
  { atr := false, mode := 5, nsHost := 0, nsPart := 0, chain := [], replies := [], last := [], failures := 0, cmdOut := false, owed := false, unlocked := false, password := none,
    attempts := 0, lockout := false, erasing := false, area := [], writing := none }

/-! ### Passport tag (chapter 20) -/

/-- One physical copy of a block: its commit word's GEN, whether the word is valid, and the data (R475). -/
structure TagCopy where
  gen   : Nat
  valid : Bool
  data  : List Byte
  deriving DecidableEq, Repr

/-- A block: copy 0 and copy 1. -/
structure TagBlock where
  c0 : TagCopy
  c1 : TagCopy
  deriving DecidableEq, Repr

/-- A wired item (R477). `done` is the firmware command it finishes (OP, BLOCK). -/
inductive TagItem where
  | stage (block : Nat) (data : List Byte)
  | commit
  | discard
  deriving DecidableEq, Repr

structure TagState where
  rf       : Nat                    -- 0 no field, 1 IDLE, 2 READY, 3 ACTIVE, 4 HALT
  level    : Nat                    -- cascade level selected, in READY
  prot     : Bool                   -- layer 4 active
  ds       : Nat
  dr       : Nat
  fsd      : Nat
  auth     : Bool
  strength : Nat                    -- field, mA/m
  store    : Nat                    -- field store, mV
  password : Option (Nat × Nat)     -- password and ECHO
  attempts : Nat
  lockout  : Bool
  blocks   : Sparse TagBlock
  staged   : List (Nat × List Byte) -- staging area, in order of staging
  group    : Bool                   -- its group word is valid
  rolled   : Nat                    -- blocks of the group copied
  items    : List (TagItem × Nat)   -- wired items, with the stamp they were queued at
  req      : Option (Req × Nat)     -- PASSPORT command whose reply follows the group word, and its opcode
  wtx      : Nat                    -- 1 S(WTX) owed to the reader's next block, 2 sent
  held     : Option (Nat × List Byte × Bool) -- reader's block that waits for the answer to S(WTX)
  cmd      : List Byte              -- INF of a command chain being received
  resp     : List (List Byte)       -- INF of the response blocks still to be acknowledged, the one sent first
  bno      : Nat                    -- block number of the last I-block answered
  out      : List Byte              -- last answer
  deriving DecidableEq, Repr

def TagState.reset : TagState :=
  { rf := 0, level := 0, prot := false, ds := 0, dr := 0, fsd := 256, auth := false, strength := 0, store := 0, password := none, attempts := 0, lockout := false,
    blocks := [], staged := [], group := false, rolled := 0, items := [], req := none, wtx := 0, held := none, cmd := [], resp := [], bno := 0, out := [] }

/-! ### Power, clocks and reset (chapter 23) -/

structure PwrState where
  up       : Bool                   -- the logic die is out of reset
  pwrEn    : Bool                   -- PWR_EN
  started  : Nat                    -- stamp of the start
  armed    : Option Nat             -- stamp of loader entry, while the start watchdog runs
  loops    : Nat                    -- failed relock attempts hold the die (R524): 1 held
  requests : List (Nat × Nat × Nat) -- DEVICE.RESETs whose replies are queued: kind, domain, stamp
  phase    : Nat                    -- step of R534 in progress, 0 none
  phaseAt  : Nat                    -- B
  brown    : Option Nat             -- rails of the brown-out that holds the die in reset
  offAt    : Nat                    -- stamp at which the die was reset by the loss
  deriving DecidableEq, Repr

def PwrState.reset : PwrState := ⟨true, true, 0, none, 0, [], 0, 0, none, 0⟩

/-! ### Self-test (chapter 24) -/

structure BistState where
  run     : Nat                     -- number of the last accepted run
  left    : List Nat                -- tests of the run still to end, the one in progress first
  fuse    : Bool
  stop    : Nat                     -- 1 a mode change or tamper response ends the run, 2 SELFTEST.ABORT does
  cut     : Option Nat              -- vat whose spare left LANE_SPARE (R545)
  begun   : Nat                     -- stamp the test in progress began at
  records : List (List Byte)        -- newest first
  soft    : List (Nat × Nat × Nat × Bool) -- soft repairs: test, unit, group of spares, and whether a fuse entry names the same spare
  fuses   : List (Nat × Nat × Nat)  -- fuse repair entries: test, unit, group
  bank    : Nat                     -- flash bank that FLASH_ARRAY holds
  deriving DecidableEq, Repr

def BistState.reset : BistState := ⟨0, [], false, 0, none, 0, [], [], [], 0⟩


/-! ### The debug TAP (R555) -/

/-- The instructions of the debug TAP. -/
inductive TapInstr where
  | bypass
  | idcode
  | samplePreload
  | extest
  deriving DecidableEq, Repr

/-- The balls that the part drives with a level of one bit that its state holds. -/
inductive OutBall where
  /-- SHT_MPOS, SHT_MNEG, SHT_PRE. -/
  | contactor (o : Fin 3)
  /-- SHT_DERATE. -/
  | derate
  /-- PWR_EN. -/
  | pwrEn
  /-- MER_PULSE. -/
  | pulse
  /-- SPI_IRQ_N. -/
  | spiIrq
  /-- MESHm_OUT. -/
  | mesh (m : Fin 2)
  deriving DecidableEq, Repr

structure TapState where
  instr    : TapInstr               -- the instruction register
  boundary : List OutBall           -- the boundary register: the balls it holds high
  deriving DecidableEq, Repr

def TapState.reset : TapState := ⟨.idcode, []⟩

/-! ### The whole part -/

/-- The state: the queue of waiting commands, the register file, memory, and each block's state that no register holds. -/
structure State where
  pending : List Instr  -- commands waiting, first in first out
  now : Nat  -- the stamp counter (R92)
  fresh : Nat  -- the model's own counter of free values
  regs : Sparse Word  -- registers by address
  latched : Sparse Word  -- HI words latched by a read of their LO register, by the HI address
  mem : Sparse Byte  -- the byte space of R318
  upsets : Sparse Nat  -- by the address of a protected unit of memory, the bits in error that its check finds: 1, or 2 for more (R334, R335, R345)
  readback : Nat  -- the word last returned to a read on the spine
  cmd : CmdState
  flt : FaultState
  events : List EventRec  -- event records emitted and not yet digested by a block (R212)
  evno : Nat  -- EVNO of the next event item (R212)
  recs : Sparse (List Byte)  -- by locus, the last record of a quantity that the ledger does not digest: estimates and published limits (R146, R158)
  cel : CellarState
  keys : KeyState
  tmp : TamperState
  life : LifeState
  gates : GateState
  tr : TransitState
  alm : AlmState
  spg : SpgState
  est : EstState
  lim : LimState
  mer : MerState
  sht : ShtState
  flc : FlashState
  ldg : LdgState
  asm : AsmState
  eng : EngineState
  svc : SvcState
  tag : TagState
  pwr : PwrState
  bist : BistState
  tap : TapState
  deriving DecidableEq, Repr

/-- Why the machine stops. Raised by no command: the spec describes what the part does in every case the table lists. Safe: a stop
would only make claims unprovable. -/
inductive Fault where
  /-- Raised by a command whose address the spec says does not exist, where no refusal is described. Safe. -/
  | unmapped (addr : Nat)
  deriving DecidableEq, Repr

/-- Why a command has no meaning. -/
inductive Refusal where
  /-- Raised by a command that the model gives no meaning yet, by its mnemonic. Safe. -/
  | notModelled (mnemonic : String)
  deriving DecidableEq, Repr

/-- The part right after power-on reset and before any command, as the spec gives it; the log says what it leaves open. -/
def State.reset : State :=
  { pending := [],
    now := 0,
    fresh := 0,
    regs := [],
    latched := [],
    mem := [],
    upsets := [],
    readback := 0,
    cmd := CmdState.reset,
    flt := FaultState.reset,
    events := [],
    evno := 0,
    recs := [],
    cel := CellarState.reset,
    keys := KeyState.reset,
    tmp := TamperState.reset,
    life := LifeState.reset,
    gates := GateState.reset,
    tr := TransitState.reset,
    alm := AlmState.reset,
    spg := SpgState.reset,
    est := EstState.reset,
    lim := LimState.reset,
    mer := MerState.reset,
    sht := ShtState.reset,
    flc := FlashState.reset,
    ldg := LdgState.reset,
    asm := AsmState.reset,
    eng := EngineState.reset,
    svc := SvcState.reset,
    tag := TagState.reset,
    pwr := PwrState.reset,
    bist := BistState.reset,
    tap := TapState.reset }

end Sys2Proof.Machine
end

