-- ==== Sys2Proof/Machine/Ops.lean ====
section
/-!
DEFINITION. Machine/Ops.lean: the named operations over the whole part that every family uses: registers and memory, time, free values,
replies and the checks of R437, event records (R514), fault records (R512), Cellar entries (R369, R373), interrupts and loci.
-/
namespace Sys2Proof.Machine

/-- The two outcomes a meaning builds: this model's commands always answer a next state. -/
abbrev Out := Host.Outcome State Fault Refusal

/-! ### Registers and memory -/

/-- The stored word of a register. -/
def State.reg (s : State) (a : Nat) : Word := Sparse.get regDefault s.regs a

def State.setReg (s : State) (a : Nat) (w : Word) : State := { s with regs := Sparse.set regDefault s.regs a w }

/-- A field's value. -/
def State.fget (s : State) (f : Fld) : Nat := bitsOf (s.reg f.addr) f.lsb f.width

/-- A field written by hardware. -/
def State.fput (s : State) (f : Fld) (v : Nat) : State := s.setReg f.addr (withBits (s.reg f.addr) f.lsb f.width v)

def State.fputs (s : State) : List (Fld × Nat) → State
  | [] => s
  | (f, v) :: t => (s.fput f v).fputs t

/-- A counter of events: one more, saturating at its field's greatest value. -/
def State.bump (s : State) (f : Fld) : State := s.fput f (satU f.width (s.fget f + 1))

def State.bumpBy (s : State) (f : Fld) (n : Nat) : State := s.fput f (satU f.width (s.fget f + n))

/-- A bit set by hardware: an interrupt cause (R515) or a status flag. -/
def State.raise (s : State) (f : Fld) : State := s.fput f 1

def State.isSet (s : State) (f : Fld) : Bool := s.fget f == 1

def State.regN (s : State) (a : Nat) : Nat := (s.reg a).toNat
def State.setRegN (s : State) (a v : Nat) : State := s.setReg a (BitVec.ofNat 32 v)

/-- A cause bit of a register without named fields. -/
def State.orReg (s : State) (a v : Nat) : State := s.setRegN a (s.regN a ||| v)

/-- A 64-bit value in two registers, low word first. -/
def State.get64 (s : State) (lo hi : Nat) : Nat := s.regN lo + 2 ^ 32 * s.regN hi
def State.put64 (s : State) (lo hi v : Nat) : State := (s.setRegN lo (v % 2 ^ 32)).setRegN hi (v / 2 ^ 32)

/-- Bit `i` of a field that holds one bit per element. -/
def State.bitOf (s : State) (f : Fld) (i : Nat) : Bool := bit (s.fget f) i
def setBitIn (n i : Nat) (b : Bool) : Nat :=
  if b then (if bit n i then n else n + 2 ^ i) else (if bit n i then n - 2 ^ i else n)
def State.putBit (s : State) (f : Fld) (i : Nat) (b : Bool) : State := s.fput f (setBitIn (s.fget f) i b)

/-- A field that software may write is locked (R7). -/
def State.locked (s : State) (a : Nat) : Bool := match lockReg a with | some l => bit (s.regN l) 31 | none => false

/-- A register write by the access codes of its fields (R6, R7, R9); bits that trigger read 0 again, and CLRCNT clears its counters. -/
def State.writeWord (s : State) (a v : Nat) : State :=
  match rowAt a with
  | none => s
  | some r =>
    let s1 := s.setReg a (clearTriggers r (writeRow r (s.locked a) (s.reg a) (BitVec.ofNat 32 v)))
    if r.fields.any (fun f => f.name == "CLRCNT" && bit v f.lsb) then (countersOf a).foldl (fun t c => t.setRegN c 0) s1 else s1

/-- Registers of a range forget what was written: they read their reset values again (R8). -/
def State.resetRegs (s : State) (p : Nat → Bool) : State := { s with regs := Sparse.drop p s.regs, latched := Sparse.drop p s.latched }

/-- What an unlisted byte reads as: boot ROM's content (log entry 47), an erased flash or archive cell (log entry 5), or a zeroised SRAM byte
(R333). -/
def memDefault (a : Nat) : Byte :=
  if a < 0x10000 then Config.romByte a
  else if (0x04000000 ≤ a ∧ a < 0x05000000) ∨ (0x60000000 ≤ a ∧ a < 0x70000000) then Config.erasedByte else 0

abbrev Memory.wf (m : Sparse Byte) : Bool := Sparse.wf memDefault m

def State.byte (s : State) (a : Nat) : Byte := Sparse.get memDefault s.mem a
def State.setByte (s : State) (a : Nat) (b : Byte) : State := { s with mem := Sparse.set memDefault s.mem a b }

/-- `n` bytes from address `a` (R4). -/
def State.load (s : State) (a : Nat) : Nat → List Byte
  | 0 => []
  | n + 1 => s.byte a :: s.load (a + 1) n

/-- Bytes stored from address `a` up. -/
def State.store (s : State) (a : Nat) : List Byte → State
  | [] => s
  | b :: t => (s.setByte a b).store (a + 1) t

def State.loadN (s : State) (a n : Nat) : Nat := leNat (s.load a n)

/-! ### Protected words (R332, R334, R335, R345) -/

/-- The unit of memory with its own check bits that an address lies in: 64 bytes of boot ROM, a 64-bit word of flash, a 32-bit word of SRAM. -/
def upsetUnit (a : Nat) : Nat := if a < 0x10000 then a / 64 * 64 else if 0x04000000 ≤ a ∧ a < 0x05000000 then a / 8 * 8 else a / 4 * 4

/-- The bits in error of the unit that holds an address, as its check finds them: 0, 1, or 2 for what cannot be corrected. -/
def State.upset (s : State) (a : Nat) : Nat := Sparse.get (fun _ => 0) s.upsets (upsetUnit a)
def State.setUpset (s : State) (a n : Nat) : State := { s with upsets := Sparse.set (fun _ => 0) s.upsets (upsetUnit a) n }

/-- Units written whole, or whose array starts afresh, have sound check bits. -/
def State.heal (s : State) (a n : Nat) : State := { s with upsets := Sparse.drop (fun k => decide (a ≤ k ∧ k < a + n)) s.upsets }

/-- A read of an address cannot be corrected. The check word of boot ROM corrects nothing (R335). -/
def State.spoiled (s : State) (a : Nat) : Bool := decide ((if a < 0x10000 then 1 else 2) ≤ s.upset a)

/-- A byte as a read gives it: zero where it cannot be corrected (R334, R345). -/
def State.peekByte (s : State) (a : Nat) : Byte := if s.spoiled a then 0 else s.byte a

/-- `n` bytes as a read gives them. -/
def State.peek (s : State) (a : Nat) : Nat → List Byte
  | 0 => []
  | n + 1 => s.peekByte a :: s.peek (a + 1) n

def State.peekN (s : State) (a n : Nat) : Nat := leNat (s.peek a n)

/-- The units in error that a read of `n` bytes meets. -/
def State.upsetsIn (s : State) (a n : Nat) : List Nat := (s.upsets.filter (fun p => decide (upsetUnit a ≤ p.1 ∧ p.1 < a + n))).map (·.1)

/-- Bytes written with fresh check bits. -/
def State.write (s : State) (a : Nat) (bs : List Byte) : State := (s.heal a bs.length).store a bs
def State.storeN (s : State) (a n v : Nat) : State := s.write a (leBytes n v)

/-- The SRAM bank that holds an address (R332). -/
def sramBank (a : Nat) : Option Nat :=
  if 0x20000000 ≤ a ∧ a < 0x20800000 then some ((a - 0x20000000) / 0x200000)
  else if 0x38000000 ≤ a ∧ a < 0x39000000 then some (4 + (a - 0x38000000) / 0x800000)
  else if 0x30000000 ≤ a ∧ a < 0x31000000 then some 6
  else if 0x10000000 ≤ a ∧ a < 0x10100000 then some 7
  else none

/-- The bank of an address has been initialised since its last reset (R333). -/
def State.bankUp (s : State) (a : Nat) : Bool := match sramBank a with | some b => s.bitOf f_TG_STATUS_READY b | none => true

/-! ### Keyed lists -/

/-- The entry of a key. -/
def keyed (l : Sparse α) (k : Nat) : Option α := (l.find? (fun p => p.1 == k)).map (·.2)
/-- The entry of a key replaced or added; keys stay rising. -/
def putKeyed (l : Sparse α) (k : Nat) (x : α) : Sparse α := Sparse.insert (Sparse.erase l k) k x

/-! ### Time and free values -/

/-- The stamp counter moves on; it never steps back (R92). -/
def State.clock (s : State) (t : Nat) : State := { s with now := if s.now < t then t else s.now }

/-- The life-cycle state has been read again from the fuses (R337). -/
def State.lcReread (s : State) : State :=
  match s.life.reread with
  | some (t, code) => if t ≤ s.now then { s with life := { s.life with reread := none } }.fput f_LC_STATE_STATE code else s
  | none => s

/-- A command arrives at its stamp. -/
def State.at (s : State) (t : Nat) : State := (s.clock t).lcReread

/-- Ticks of 2.56 ns in a time (R92). -/
def ticksPerMs : Nat := 390625
def ticksPerS : Nat := 390625000
/-- 10 ms: a limit publication period (R155). -/
def ticksPerPeriod : Nat := 3906250

/-- A free value of `w` bits: nothing constrains it (log entry 4). -/
def State.draw (s : State) (w : Nat) : Nat := (Config.freeValue w s.fresh).toNat
/-- The next free value differs from this one's place in the sequence. -/
def State.drawn (s : State) : State := { s with fresh := s.fresh + 1 }

/-! ### Mode and life cycle as other rules read them -/

/-- MODE_STATUS.MODE (R42). -/
def State.mode (s : State) : Nat := s.fget f_MODE_STATUS_MODE
/-- LC_STATE.STATE (R31). -/
def State.lc (s : State) : Nat := s.fget f_LC_STATE_STATE

/-- The life-cycle state that the fuse pairs spell (R31, R32): a pair counts once both its fuses are blown. -/
def fusedLc (l : LifeState) : Nat :=
  if l.frPair == (true, true) then 5
  else match (List.range 4).reverse.find? (fun i => at! l.fuses i (false, false) == (true, true)) with
    | some i => i + 1
    | none => 0

/-- The logic die is powered, and no failed relock holds it in reset (R520, R524). -/
def State.alive (s : State) : Bool := s.pwr.up && s.pwr.loops == 0

/-- The locus word of this part (R26, R29). -/
def State.locus (s : State) (ring node cell chan : Nat) : Nat :=
  s.life.assembly * 2 ^ 48 + s.fget f_ASM_STATUS_DEVICE * 2 ^ 41 + ring * 2 ^ 38 + node * 2 ^ 33 + cell * 2 ^ 28 + chan * 2 ^ 20

def State.packLocus (s : State) (chan : Nat) : Nat := s.locus 7 31 31 chan

/-- The quantities a channel code is valid for (R29): 0 any kind, 1 cell, 2 node, 3 pack, none reserved. -/
def channelKind (c : Nat) : Option Nat :=
  if c = 0 then some 0
  else if c ≤ 3 then some 1
  else if c ≤ 7 then none
  else if c ≤ 0x0C then some 2
  else if c ≤ 0x0F then none
  else if c ≤ 0x16 then some 1
  else if c ≤ 0x1F then none
  else if c ≤ 0x27 then some 3
  else if c ≤ 0x3F then none
  else if c ≤ 0x46 then some 1
  else if c ≤ 0x7F then none
  else some 1

/-- A command parameter holding a locus is well formed (R11, R27). -/
def locusOk (l : Nat) : Bool :=
  let asm := l / 2 ^ 48 % 2 ^ 16
  let dev := l / 2 ^ 41 % 128
  let ring := l / 2 ^ 38 % 8
  let node := l / 2 ^ 33 % 32
  let cell := l / 2 ^ 28 % 32
  let chan := l / 2 ^ 20 % 256
  decide (l < 2 ^ 64) && decide (l % 2 ^ 20 = 0) && asm != 0xFFFF && decide (dev ≤ 64) &&
  (if node = 31 ∨ cell = 31 then node == 31 && cell == 31 && ring == 7 else decide (node < 16) && decide (cell < 16)) &&
  (match channelKind chan with
   | none => false
   | some 0 => true
   | some 1 => decide (node < 16)
   | some 2 => decide (node < 16) && cell == 0
   | some _ => node == 31)

def locusRing (l : Nat) : Nat := l / 2 ^ 38 % 8
def locusNode (l : Nat) : Nat := l / 2 ^ 33 % 32
def locusCell (l : Nat) : Nat := l / 2 ^ 28 % 32
def locusChan (l : Nat) : Nat := l / 2 ^ 20 % 256

/-- The cell index of R211, when a locus names a cell or node position of this very part. -/
def State.ownCell (s : State) (l : Nat) : Option Nat :=
  if locusNode l < 16 ∧ l / 2 ^ 48 = s.life.assembly ∧ l / 2 ^ 41 % 128 = s.fget f_ASM_STATUS_DEVICE then
    some (256 * locusRing l + 16 * locusNode l + locusCell l) else none

/-- A locus parameter that must name a cell. -/
def cellLocusOk (l : Nat) : Bool := locusOk l && decide (locusNode l < 16)

/-- A locus with its channel replaced. -/
def withChan (l c : Nat) : Nat := l / 2 ^ 28 * 2 ^ 28 + c * 2 ^ 20

/-! ### Status codes (R447) -/

def OK : Nat := 0x0000
def E_LENGTH : Nat := 0x0101
def E_OPCODE : Nat := 0x0102
def E_PARAM_RANGE : Nat := 0x0103
def E_PARAM_MISSING : Nat := 0x0104
def E_PARAM_CONFLICT : Nat := 0x0105
def E_VERSION : Nat := 0x0106
def E_SESSION : Nat := 0x0201
def E_WORLD : Nat := 0x0202
def E_LIFECYCLE : Nat := 0x0203
def E_MODE : Nat := 0x0204
def E_LOCKED : Nat := 0x0205
def E_BUSY : Nat := 0x0301
def E_QUEUE_FULL : Nat := 0x0302
def E_ABORTED : Nat := 0x0303
def E_BANK_SELF : Nat := 0x0401
def E_SECTOR_UNSETTLED : Nat := 0x0402
def E_VERIFY : Nat := 0x0403
def E_BLOCK_UNDEFINED : Nat := 0x0404
def E_KEY_ORPHANED : Nat := 0x0501
def E_KEY_EMPTY : Nat := 0x0502
def E_BOUND : Nat := 0x0601
def E_RATE : Nat := 0x0602
def E_ASSEMBLY_ROLE : Nat := 0x0701
def E_SUCCESSION : Nat := 0x0702
def E_TEST_FAIL : Nat := 0x0801
def E_TEST_ABORTED : Nat := 0x0802

/-! ### CRCs (R71) -/

/-- One bit of the reflected Castagnoli CRC. -/
def crc32cBit : Nat → BitVec 32 → BitVec 32
  | 0, c => c
  | n + 1, c => crc32cBit n (if c.getLsbD 0 then (c >>> 1) ^^^ 0x82F63B78#32 else c >>> 1)

def crc32cBytes (c : BitVec 32) : List Byte → BitVec 32
  | [] => c
  | b :: t => crc32cBytes (crc32cBit 8 (c ^^^ b.setWidth 32)) t

/-- CRC-32C, initial value and final XOR 0xFFFF_FFFF. -/
def crc32c (bs : List Byte) : Nat := (crc32cBytes 0xFFFFFFFF#32 bs ^^^ 0xFFFFFFFF#32).toNat

def crc8Bit : Nat → BitVec 8 → BitVec 8
  | 0, c => c
  | n + 1, c => crc8Bit n (if c.getLsbD 7 then (c <<< 1) ^^^ 0x07#8 else c <<< 1)

/-- CRC-8, polynomial 0x07, initial value 0. -/
def crc8 (bs : List Byte) : Nat := (bs.foldl (fun c b => crc8Bit 8 (c ^^^ b)) 0#8).toNat

/-! ### Event records and the host trace (R212, R514, R516) -/

/-- Bytes of an event record (R514). ECODE 0, which R514 leaves unused, stands for a record of another channel than 0x00: its bytes are
STAMP and what follows (R152, R158, R203). -/
def EventRec.bytes (e : EventRec) : List Byte :=
  if e.ecode = 0 then leBytes 8 e.stamp ++ e.detail
  else leBytes 8 e.stamp ++ leBytes 1 e.block ++ leBytes 1 e.ecode ++ zeros 2 ++ e.detail

/-- An event item (R212). -/
def eventItem (evno : Nat) (e : EventRec) : List Byte :=
  let r := e.bytes
  leBytes 8 e.locus ++ leBytes 8 evno ++ leBytes 2 r.length ++ zeros 2 ++ r ++ zeros ((4 - r.length % 4) % 4)

/-- R516: an item joins the trace buffer of 32 KiB in its place (R22), or is dropped and counted. An item that it comes before is numbered on. -/
def Trace.take (t : Trace) (evno : Nat) (e : EventRec) : Trace × Bool :=
  let n := (eventItem evno e).length
  if t.size + n ≤ 32768 then
    ({ t with items := t.items.filter (fun x => decide (x.1 < evno)) ++ [(evno, e)] ++ (t.items.filter (fun x => decide (evno ≤ x.1))).map (fun x => (x.1 + 1, x.2)),
              size := t.size + n }, true)
  else
    ({ t with gap := match t.gap with
      | none => some (evno, 1, e.stamp, e.stamp)
      | some (f, c, fs, _) => some (f, c + 1, fs, e.stamp) }, false)

/-- Canonical order (R22): ascending stamp, then locus. -/
def EventRec.before (a b : EventRec) : Bool := decide (a.stamp < b.stamp ∨ (a.stamp = b.stamp ∧ a.locus < b.locus))

/-- The stamp of a record at a locus: now, or the first tick after it that no record waiting at that locus has. No two records share a stamp and a
locus (R22, log entry 96). -/
def State.recordStamp (s : State) (locus : Nat) : Nat :=
  let used := (s.events.filter (fun e => e.locus == locus)).map (·.stamp)
  (((List.range (used.length + 1)).map (s.now + ·)).find? (fun t => !used.contains t)).getD s.now

/-- A block emits an event record: it awaits the ledger's digest in its canonical place, and it reaches the trace when its slot is selected. -/
def State.emit (s : State) (locus block ecode : Nat) (detail : List Byte) : State :=
  let e : EventRec := ⟨s.recordStamp locus, locus, block, ecode, detail⟩
  let earlier := s.events.filter (fun x => !e.before x)
  let s1 := { s with events := earlier ++ [e] ++ s.events.filter (fun x => e.before x) }
  match s1.cmd.trace with
  | none => s1
  | some t =>
    if bit t.mask block then
      let (t', kept) := t.take (s1.evno + earlier.length) e
      let s2 := { s1 with cmd := { s1.cmd with trace := some t' } }
      if kept then s2 else s2.bump f_FLT_TRACE_DROP_COUNT
    else s1

/-- A record of a channel other than 0x00 is emitted by a block and digested into the ledger. -/
def State.emitRecord (s : State) (locus block : Nat) (rest : List Byte) : State := s.emit locus block 0 rest

/-- A record of a quantity that the ledger does not digest is emitted at its locus (R146, R158). -/
def State.emitValue (s : State) (locus : Nat) (record : List Byte) : State := { s with recs := putKeyed s.recs locus record }

/-! ### Cellar entries (R368–R374) -/

/-- R372: the entry types a write may name. -/
def celTypeOk (t : Nat) : Bool :=
  [0x01, 0x02, 0x03, 0x10, 0x11, 0x12, 0x13, 0x14, 0x15, 0x20, 0x21, 0x22, 0x23, 0x30, 0x31, 0x3F].contains t

/-- R372: the types of the pinned area. -/
def celPinned (t : Nat) : Bool := decide (0x10 ≤ t ∧ t ≤ 0x15)

/-- VRES is at least 4.6 V (R363). -/
def State.vresOk (s : State) : Bool := decide (4600 ≤ s.cel.vres)

/-- The next incident number, 1–65,535 (R368). -/
def nextIncident (n : Nat) : Nat := if n ≥ 65535 then 1 else n + 1

/-- The backup counter at a stamp (R366): 48 bits at 32.768 kHz, 4,096 counts to 48,828,125 ticks (R92, log entry 84). -/
def countAt (c : CellarState) (t : Nat) : Nat := (c.bcount + (t - c.countAt) * 4096 / 48828125) % 2 ^ 48

/-- The backup counter now. -/
def State.backupCount (s : State) : Nat := countAt s.cel s.now

/-- The step that the LFSRs of the Rind nets and mesh ports have reached (R411): one each 500 ticks in service, one each 328 backup counts on backup. -/
def State.netSteps (s : State) : Nat :=
  s.tmp.steps + (if s.cel.main then (s.now - s.tmp.stepsAt) / 500 else (s.backupCount + 2 ^ 48 - s.tmp.stepsAt) % 2 ^ 48 / 328)

/-- The backup counter holds `n` now. -/
def State.setCount (s : State) (n : Nat) : State := { s with cel := { s.cel with bcount := n % 2 ^ 48, countAt := s.now } }

/-- The stamp counter is loaded with `t`; the backup counter runs on (R92). -/
def State.loadStamp (s : State) (t : Nat) : State :=
  { s with now := t, cel := { s.cel with bcount := s.backupCount, countAt := t }, tmp := { s.tmp with steps := s.netSteps, stepsAt := t, testAt := min t s.tmp.testAt } }

/-- The incident that an INC write belongs to (R373), opened if none is. -/
def State.openIncident (s : State) (stamp : Nat) : State × Incident :=
  match s.cel.incident with
  | some i => (s, i)
  | none =>
    let n := nextIncident s.cel.lastInc
    ({ s with cel := { s.cel with lastInc := n, incCount := satU 16 (s.cel.incCount + 1) },
              tmp := { s.tmp with tripped := [], incTrips := List.replicate 14 0 } },
     ⟨n, 0, 0, 0, 0, 0, 0, stamp, stamp, none, s.backupCount⟩)

/-- The scan of a start of the Cellar die runs (R371). -/
def State.scanning (s : State) : Bool := decide (s.now < s.cel.scanTo)

/-- An entry is offered to the Cellar write queue (R365, R369, R371, R373): the state after, and the status. -/
def State.celAccept (s : State) (e : CelQueued) : State × Nat :=
  if !celTypeOk e.type then (s, E_PARAM_RANGE)
  else if !s.vresOk || s.scanning then (s, E_BUSY)
  else if e.inc then
    let (s1, i) := s.openIncident e.stamp
    let i1 := { i with offered := satU 32 (i.offered + 1), lastCount := s.backupCount }
    if s1.cel.queue.length ≥ 16 then
      ({ s1 with cel := { s1.cel with incident := some { i1 with dropped := satU 32 (i1.dropped + 1) } } }.bump f_CEL_DROPPED_VALUE, E_BUSY)
    else
      ({ s1 with cel := { s1.cel with incident := some i1, queue := s1.cel.queue ++ [e] } }, OK)
  else if s.cel.queue.length ≥ 16 then (s, E_BUSY)
  else ({ s with cel := { s.cel with queue := s.cel.queue ++ [e] } }, OK)

/-- Source field of EFLAGS (R368). -/
def srcFlags (src : Nat) : Nat := src * 16

/-- A session of the die-to-die link is up (R339). -/
def State.linkUp (s : State) : Bool := s.isSet f_TG_STATUS_D2D_UP

/-- The logic die offers an entry, which no link takes across while no session is up (R18). -/
def State.celOffer (s : State) (e : CelQueued) : State × Nat := if s.linkUp then s.celAccept e else (s, E_BUSY)

/-- A group of entries in turn: the second only once the first is taken (R370). -/
def State.celGroup (s : State) : List CelQueued → State
  | [] => s
  | e :: t => let (s1, st) := s.celAccept e; if st = OK then s1.celGroup t else s1

/-- What cannot cross the link waits for its next session, first come, first sent (R18, R341). -/
def State.hold (s : State) (x : LinkItem) : State := { s with gates := { s.gates with held := s.gates.held ++ [x] } }

/-- What the logic die's hardware writes waits while no session is up. -/
def State.celSend (s : State) (l : List CelQueued) : State := if s.linkUp then s.celGroup l else s.hold (.entries l)

/-- Registers of the logic die that show a copy of the Cellar die's state, brought up to date over the link (R465, R481). -/
def copyRegs : List Nat :=
  [r_SVC_STATUS, r_SVC_LASTWR, r_SVC_UNDEF_LO, r_SVC_UNDEF_HI, r_SVC_BLKERR, r_SVC_PWFAIL, r_TAG_STATUS, r_TAG_WRESULT, r_TAG_RFWRITES, r_TAG_PWFAIL, r_TAG_WTX]

/-- The session of the link is gone: the copies stay as they are. -/
def State.linkLost (s : State) : State :=
  if s.linkUp then State.fput { s with gates := { s.gates with copies := copyRegs.map (fun a => (a, s.reg a)) } } f_TG_STATUS_D2D_UP 0 else s

/-- Logic-die hardware writes an entry, stamped now. -/
def State.celWrite (s : State) (type : Nat) (inc : Bool) (payload : List Byte) : State :=
  s.celSend [⟨s.now, type, srcFlags 1, inc, padTo 44 payload⟩]

/-- A group of two entries (R370). -/
def State.celWrite2 (s : State) (t1 t2 : Nat) (p1 p2 : List Byte) : State :=
  s.celSend [⟨s.now, t1, srcFlags 1 + 2, false, padTo 44 p1⟩, ⟨s.now, t2, srcFlags 1, false, padTo 44 p2⟩]

/-! ### Fault records (R509–R513) -/

/-- R510: classes whose faults have a recovery that ends. -/
def recoverable (cls : Nat) : Bool := decide (1 ≤ cls ∧ cls ≤ 7) && cls != 5

/-- The newest record is replaced, or the new one is not stored (R513). -/
def replaceNewest (q : List FaultRec) (r : FaultRec) : List FaultRec :=
  match q.getLast? with
  | none => [r]
  | some l => if bit l.rflags 5 || decide (r.sev < l.sev) then q else q.dropLast ++ [r]

/-- Bytes of a fault record (R509). -/
def FaultRec.bytes (r : FaultRec) : List Byte :=
  leBytes 8 r.stamp ++ leBytes 1 r.cls ++ leBytes 1 r.sev ++ leBytes 1 r.rflags ++ zeros 1 ++ leBytes 2 r.unit ++
  leBytes 2 r.rtime ++ leBytes 4 r.detail ++ leBytes 2 r.count ++ zeros 2

/-- The event of a fault (block 2, code 1): bytes 8–23 of its record. -/
def State.faultEvent (s : State) (r : FaultRec) : State := s.emit (s.packLocus 0) 2 1 (r.bytes.drop 8)

/-- A fault whose recovery will end is kept until it has, whatever becomes of its record. -/
def State.noteUnended (s : State) (r : FaultRec) : State :=
  if recoverable r.cls && !bit r.rflags 3 then
    { s with flt := { s.flt with unended := r :: s.flt.unended.filter (fun x => !(x.cls == r.cls && x.unit == r.unit)) } }
  else s

/-- A detected fault is escalated, coalesced or queued (R512, R513); every one of severity 2 or 3 writes its Cellar entry (log entry 108). -/
def State.takeFault (s : State) (cls sev unit detail rflags : Nat) : State :=
  let s := s.bump (f_FLT_COUNT_COUNT cls)
  let insvc := s.flt.queue.find? (fun r => r.cls == cls && bit r.rflags 5)
  let (sev', fl) := match insvc with
    | some r => (min 3 (r.sev + 1), setBitIn rflags 0 true)
    | none => (sev, rflags)
  let r : FaultRec := ⟨s.now, cls, sev', fl, unit, 0xFFFF, detail, 0⟩
  let same : FaultRec → Bool := fun x => x.cls == cls && x.unit == unit && x.sev == sev' && !bit x.rflags 5
  let s1 :=
    if insvc.isNone && s.flt.queue.any same then
      { s with flt := { s.flt with queue := s.flt.queue.map (fun x => if same x then { x with count := satU 16 (x.count + 1) } else x) } }
    else if s.flt.queue.length < 32 then { s with flt := { s.flt with queue := s.flt.queue ++ [r] } }
    else { s with flt := { s.flt with queue := replaceNewest s.flt.queue r } }.bump f_FLT_LOST_COUNT
  let s2 := if sev' ≥ 2 then (s1.noteUnended r).celWrite 0x03 true (leBytes 8 (s1.packLocus 0) ++ ((⟨s1.now, s1.packLocus 0, 2, 1, r.bytes.drop 8⟩ : EventRec).bytes).take 36) else s1.noteUnended r
  if recoverable cls then s2 else s2.faultEvent r

/-- A recovery ends: its event, with RTIME and RECOVERED, which the controller fills into the record while that is queued (R509, R514). -/
def State.faultRecovered (s : State) (cls unit rtime : Nat) (more : Nat) : State :=
  let mine (x : FaultRec) : Bool := x.cls == cls && x.unit == unit && !bit x.rflags 1
  let fill (x : FaultRec) : FaultRec := { x with rtime := satU 16 rtime, rflags := setBitIn (x.rflags ||| more) 1 true }
  match s.flt.unended.find? mine with
  | none => s
  | some r =>
    let s1 : State := { s with flt := { s.flt with unended := s.flt.unended.erase r, queue := s.flt.queue.map (fun x => if mine x then fill x else x) } }
    s1.faultEvent (fill (((s.flt.queue.filter mine).getLast?).getD r))

/-- A recovery ends now: RTIME is the time since detection in µs, at most 0xFFFE (R509). -/
def State.recoverNow (s : State) (cls unit more : Nat) : State :=
  match s.flt.unended.find? (fun x => x.cls == cls && x.unit == unit) with
  | none => s
  | some r => s.faultRecovered cls unit (min 0xFFFE ((s.now - r.stamp) * 8 / 3125)) more

/-- A recovery that the part makes by itself: RTIME, when the element is back in service, is a free value within its bound (log entry 4). -/
def State.recoverWithin (s : State) (cls unit bound more : Nat) : State :=
  let us := s.draw 16 % (bound + 1)
  let busy := (cls, unit, s.now + (us * 3125 + 7) / 8) :: s.flt.busy.filter (fun x => decide (s.now < x.2.2) && !(x.1 == cls && x.2.1 == unit))
  State.drawn { (s.faultRecovered cls unit us more) with flt := { (s.faultRecovered cls unit us more).flt with busy := busy } }

/-- The recovery domain of an element (R508): its vat, SRAM bank or ring, the Almanac, or the custody pairs. -/
def recoveryDomain (cls unit : Nat) : Nat × Nat :=
  match cls with
  | 1 => (1, unit / 16)
  | 2 => (1, unit)
  | 6 => (6, 0)
  | 3 => (3, 0)
  | c => (c, unit)

/-- A double fault (R508): its own record with DOUBLE, and one of class DOUBLE. -/
def State.doubleFault (s : State) (cls sev unit detail rflags first : Nat) (firstUnit : Nat) : State :=
  (s.takeFault cls sev unit detail (setBitIn rflags 4 true)).takeFault 0x0C 3 first firstUnit 0

/-- A fault of an element: a double fault while another recovers in the same recovery domain (R508). -/
def State.elementFault (s : State) (cls sev unit detail rflags : Nat) : State :=
  match s.flt.busy.find? (fun x => recoveryDomain x.1 x.2.1 == recoveryDomain cls unit && decide (s.now < x.2.2)) with
  | some x => s.doubleFault cls sev unit detail rflags x.1 x.2.1
  | none => s.takeFault cls sev unit detail rflags

/-- R511: the presented record: of highest severity, and among equals the oldest. -/
def presented : List FaultRec → Option FaultRec
  | [] => none
  | r :: t => match presented t with
    | none => some r
    | some x => if x.sev > r.sev then some x else some r

/-! ### Reads of protected words (R334, R345) -/

/-- A read meets a unit in error: a single bit is corrected, in SRAM also in the array; more is counted, and the fault controller receives it. What a
mismatch of boot ROM brings is left to the reader (R335). -/
def State.checkUnit (s : State) (a : Nat) : State :=
  let flash := decide (0x04000000 ≤ a ∧ a < 0x05000000)
  if a < 0x10000 then s
  else if s.spoiled a then
    if flash then (((s.bump f_FLC_ECC_UE_VALUE).raise f_FLC_IRQ_UE).takeFault 9 1 ((a - 0x04000000) / 0x200000) a 0)
    else (s.bump f_TG_ECC_UE_COUNT).takeFault 5 1 ((sramBank a).getD 7) a 0
  else if s.upset a = 1 then (if flash then s.bump f_FLC_ECC_CE_VALUE else (s.setUpset a 0).bump f_TG_ECC_CE_COUNT)
  else s

/-- `n` bytes are read: the state after, and whether any could not be corrected. -/
def State.checkRead (s : State) (a n : Nat) : State × Bool :=
  let hit := s.upsetsIn a n
  (hit.foldl State.checkUnit s, hit.any s.spoiled)

/-! ### Sessions and replies (R426, R434, R435) -/

def State.session (s : State) (i : Nat) : Session := s.cmd.sessions.getD i freeSession
def State.setSession (s : State) (i : Nat) (x : Session) : State :=
  { s with cmd := { s.cmd with sessions := setAt s.cmd.sessions i x } }

/-- A packet's header fields (R423). -/
structure Header where
  ver     : Nat
  flags   : Nat
  opcode  : Nat
  seq     : Nat
  session : Nat
  plen    : Nat
  world   : Nat
  ridx    : Nat
  deriving DecidableEq, Repr

def headerOf (bs : List Byte) : Header :=
  let f (o n : Nat) : Nat := leNat ((bs.drop o).take n)
  ⟨f 0 1, f 1 1, f 2 2, f 4 4, f 8 4, f 12 2, f 14 1, f 15 1⟩

def Header.secured (h : Header) : Bool := bit h.flags 0

/-- The header's bytes. -/
def Header.bytes (h : Header) : List Byte :=
  leBytes 1 h.ver ++ leBytes 1 h.flags ++ leBytes 2 h.opcode ++ leBytes 4 h.seq ++ leBytes 4 h.session ++ leBytes 2 h.plen ++
  leBytes 1 h.world ++ leBytes 1 h.ridx

/-- The 12-byte IV (R427). -/
def packetIv (h : Header) : List Byte := leBytes 4 h.session ++ leBytes 4 h.seq ++ leBytes 1 h.flags ++ leBytes 1 h.ridx ++ zeros 2

/-- K_HP and K_PH of a session (R430). -/
def keyHp (x : Session) : BitVec 512 := BitVec.ofNat 512 (x.keys.toNat % 2 ^ 256)
def keyPh (x : Session) : BitVec 512 := BitVec.ofNat 512 (x.keys.toNat / 2 ^ 256)

/-- The bytes of a queued packet as they leave (R423, R426, R427). -/
def packetBytes (s : State) (p : Reply) : List Byte :=
  let x := s.session p.slot
  let sec := decide (p.slot < 8)
  let body := if p.unsol then p.body else leBytes 2 p.status ++ zeros 2 ++ p.body
  let h : Header := ⟨1, flag sec + 2 * flag p.interim + 4 * flag p.unsol + 128 * flag (!p.unsol), p.opcode, p.seq,
    if sec then p.slot + 8 * x.ident else 0, body.length, p.world, p.ridx⟩
  if sec then
    let (ct, tag) := Config.gcmSeal (keyPh x) (packetIv h) h.bytes body
    h.bytes ++ ct ++ beBytes 16 tag.toNat
  else h.bytes ++ body ++ leBytes 4 (crc32c (h.bytes ++ body))

/-! ### The service port's answers (R452, R454, R455) -/

/-- A block of the service port (R452): PCB, LEN, INF and EDC. -/
def svcBlock (pcb : Nat) (inf : List Byte) : List Byte :=
  let b := leBytes 1 pcb ++ leBytes 1 inf.length ++ inf
  b ++ leBytes 4 (crc32c b)

/-- A chain's bytes cut into INF fields of at most `n` bytes; `fuel` bounds their number. -/
def chunks (n : Nat) : Nat → List Byte → List (List Byte)
  | 0, bs => [bs]
  | fuel + 1, bs => if bs.length ≤ n then [bs] else bs.take n :: chunks n fuel (bs.drop n)

/-- The first block of the reply chain goes out. -/
def State.svcFirst (s : State) : State :=
  match s.svc.replies with
  | [] => s
  | b :: rest => { s with svc := { s.svc with last := svcBlock (s.svc.nsPart * 64 + 32 * flag (!rest.isEmpty)) b, owed := false } }

/-- The oldest reply queued for the port becomes its reply chain, while no other chain is under way. -/
def State.svcLoad (s : State) : State :=
  match s.cmd.tx.find? (fun p => p.path == 4) with
  | none => s
  | some p => { s with cmd := { s.cmd with tx := s.cmd.tx.erase p }, svc := { s.svc with replies := chunks 254 300 p.wire } }.svcFirst

/-- An answer owed to the host goes out once a reply is queued and the clock runs. -/
def State.svcPump (s : State) : State :=
  if s.linkUp && s.svc.owed && s.svc.replies.isEmpty && !s.isSet f_SVC_STATUS_CLKSTOP then s.svcLoad else s

def State.queueTx (s : State) (q : Reply) : State := { s with cmd := { s.cmd with tx := s.cmd.tx ++ [q] } }

/-- A reply reaches the service port. -/
def State.svcSendReply (s : State) (q : Reply) : State :=
  let s1 := s.queueTx q
  if q.interim then (s1.fput f_SVC_STATUS_BUSY 0).svcPump
  else (State.fputs { s1 with svc := { s1.svc with cmdOut := false } }
    [(f_SVC_STATUS_BUSY, 0), (f_SVC_LASTWR_VALID, 1), (f_SVC_LASTWR_KIND, 4), (f_SVC_LASTWR_BLOCK, 0), (f_SVC_LASTWR_STATUS, q.status)]).svcPump

/-- The data bytes that a CAN FD frame can hold, the smallest for `n`. -/
def fdLength (n : Nat) : Nat := if n ≤ 8 then n else ([12, 16, 20, 24, 32, 48, 64].find? (fun l => decide (n ≤ l))).getD 64

/-- A packet cut into CAN FD frames (R441): FIRST, LAST and INDEX, up to 63 bytes of it, and zero bytes to a length that a frame can have. -/
def canFrames (packet : List Byte) : List (List Byte) :=
  let cut := chunks 63 1100 packet
  cut.zipIdx.map (fun (b, i) => padTo (fdLength (b.length + 1)) (leBytes 1 (128 * flag (i == 0) + 64 * flag (i + 1 == cut.length) + i % 64) ++ b))

/-- A packet cut into UDP datagrams (R442): INDEX, FLAGS.LAST, and up to 1,400 bytes of it. -/
def udpDatagrams (packet : List Byte) : List (List Byte) :=
  let cut := chunks 1400 50 packet
  cut.zipIdx.map (fun (b, i) => leBytes 2 i ++ leBytes 1 (flag (i + 1 == cut.length)) ++ zeros 1 ++ b)

/-- CAN FD and Ethernet send while they run and their bus or link is up. -/
def xpSends (s : State) (path : Nat) : Bool := decide (1 ≤ path ∧ path ≤ 3) && s.isSet (f_XP_CTRL_EN path) && s.isSet (f_XP_STATUS_LINK path)

/-- Where a packet goes: on CAN the channel's TXID; on Ethernet the sender of the command, or of the SESSION.OPEN that opened its session. -/
def receiver (s : State) (p : Reply) : Nat :=
  if p.path < 3 then s.regN (r_XP_CFG3 p.path)
  else if p.slot < 8 then (s.session p.slot).peer
  else ((s.cmd.peers.find? (fun x => x.1 == p.seq)).map (·.2)).getD 0

/-- The packet's segments go out, none of another packet's between them (R441, R442). -/
def State.transmit (s : State) (p : Reply) : State :=
  let segs := (if p.path < 3 then canFrames p.wire else udpDatagrams p.wire).map (fun b => (p.path, receiver s p, b))
  { s with cmd := { s.cmd with sent := s.cmd.sent ++ segs, peers := if p.slot < 8 || p.interim then s.cmd.peers else s.cmd.peers.filter (fun x => x.1 != p.seq) } }

/-- A packet for a host transport: sent, or kept while the transport does not run, and on SPI until a READ takes it. -/
def State.dispatchTx (s : State) (q : Reply) : State := if xpSends s q.path then s.transmit q else s.queueTx q

/-- What a transport has kept goes out once it runs. -/
def State.flushTx (s : State) (path : Nat) : State :=
  if xpSends s path then
    (s.cmd.tx.filter (fun q => q.path == path)).foldl State.transmit { s with cmd := { s.cmd with tx := s.cmd.tx.filter (fun q => q.path != path) } }
  else s

/-- A packet is queued for the host on a transport. On the service port a reply ends the busy signal and is the answer owed; a final one frees the
port for the next command, and its status is the outcome of the write (R455, R462). -/
def State.send (s : State) (p : Reply) : State :=
  let q : Reply := { p with wire := packetBytes s p }
  if p.path ≠ 4 then s.dispatchTx q
  else if s.linkUp then s.svcSendReply q
  else s.hold (.reply q)

/-- A command of the requester has its final reply: it is outstanding no more (R434). -/
def State.settle (s : State) (r : Req) : State :=
  if r.slot < 8 then s.setSession r.slot { s.session r.slot with outst := (s.session r.slot).outst - 1 }
  else { s with cmd := { s.cmd with unsecOut := setAt s.cmd.unsecOut r.path (at! s.cmd.unsecOut r.path 0 - 1) } }

/-- A session closes (R435): its keys are cleared, its challenge lapses, the trace it held ends; any close but SESSION.CLOSE is told to
its world. -/
def State.closeSession (s : State) (i : Nat) (told : Bool) : State :=
  let x := s.session i
  if x.phase = 0 then s
  else
    let s1 := s.setSession i freeSession
    let s2 := match s1.cmd.trace with
      | some t => if t.slot = i then { s1 with cmd := { s1.cmd with trace := none } } else s1
      | none => s1
    if told && x.phase == 2 then s2.raise (f_CMD_IRQ_CLOSED (x.world - 1)) else s2

/-- A TLV (R424): type, length, value and zero padding to a multiple of 4 bytes. -/
def tlv (type : Nat) (bs : List Byte) : List Byte := leBytes 2 type ++ leBytes 2 bs.length ++ bs ++ zeros ((4 - bs.length % 4) % 4)

def tlvBytes (x : Nat × List Byte) : List Byte := tlv x.1 x.2

/-- The type of a public key by its length: EC_PUB, PQ_PUB, or a value of its own (R425). -/
def publicType (len : Nat) : Nat := if len = 97 then 3 else if len = 1952 then 4 else 0x0100

/-- The result values of a command in the order its "Returns" names them (R425; log entry 11): type and length; length 0 takes what is left. `len` is
the length of them all. -/
def resultShape (op len : Nat) : List (Nat × Nat) :=
  match op with
  | 0x0101 => [(0x100, 8), (0x101, 2), (0x102, 4), (0x103, 1), (0x104, 4), (0x105, 4), (0x106, 4)]
  | 0x0102 => [(0x100, 4), (0x101, 4), (0x102, 4), (0x103, 4), (0x104, 4), (0x105, 4)]
  | 0x0203 => [(0x100, 4), (0x101, 4), (0x102, 8)]
  | 0x0306 => [(0x100, 4), (0x101, 4), (0x102, 4), (0x103, 16), (0x104, 0)]
  | 0x0307 => [(0x100, 4), (0x101, 0)]
  | 0x0406 => [(0x100, 1), (0x101, 1), (0x102, 4), (0x103, 4), (0x104, 4)]
  | 0x0501 => [(0x100, 80), (0x101, 4), (0x102, 8)]
  | 0x0507 => [(8, len - 32), (0x100, 0)]
  | 0x0607 => [(0x100, 4), (0x101, 4), (0x102, 4), (0x103, 4), (0x104, 4)]
  | 0x0642 => [(0x100, 4), (0x101, 16), (0x102, 4), (0x103, 0)]
  | 0x0702 => [(0x100, 8), (0x101, 8), (0x102, 48), (0x103, 4), (0x104, 8)]
  | 0x0708 => [(0x100, 256), (6, 96), (7, 0)]
  | 0x0802 => [(publicType (len - 128), len - 128), (8, 0)]
  | 0x0803 => [(publicType len, 0)]
  | 0x0807 => [(0x100, 256), (0x101, 256)]
  | 0x0901 => [(0x100, 4), (0x101, 4), (0x102, 4), (0x103, 8), (0x104, 4)]
  | 0x0906 => [(0x100, 32), (0x101, 8)]
  | 0x0A06 => [(0x100, 4), (0x101, 4), (0x102, 4), (0x103, 4), (0x104, 32)]
  | 0x0D01 => [(0x100, 4), (0x101, 4), (0x102, 7)]
  | 0x0113 | 0x0120 | 0x0505 | 0x0707 | 0x0801 | 0x0B01 | 0x0D06 => [(0x100, 0)]
  | _ => [(8, 0)]

/-- The values cut out of the results. -/
def cutResults : List (Nat × Nat) → List Byte → List (Nat × List Byte)
  | [], _ => []
  | (ty, n) :: t, bs =>
    let k := if t.isEmpty then bs.length else n
    if bs.isEmpty || k == 0 then cutResults t bs else (ty, bs.take k) :: cutResults t (bs.drop k)

/-- TLVs stand in ascending type (R424). -/
def insTlv (x : Nat × List Byte) : List (Nat × List Byte) → List (Nat × List Byte)
  | [] => [x]
  | y :: t => if x.1 < y.1 then x :: y :: t else y :: insTlv x t

def frameTlvs (l : List (Nat × List Byte)) : List Byte := (l.foldl (fun m x => insTlv x m) []).flatMap tlvBytes

/-- The result TLVs of a reply (R424–R426). SESSION.OPEN gives its own (R429). -/
def frameResults (op : Nat) (body : List Byte) : List Byte :=
  if op = 0x0110 then body else frameTlvs (cutResults (resultShape op body.length) body)

/-- A refusal that names the parameter at fault (R426): the status in the low 16 bits, the parameter's type (R425) above them. -/
def blame (status type : Nat) : Nat := status + 0x10000 * type

/-- The value of FAILED_TYPE: the type that a refusal names, if it names one. -/
def blamed (e : Nat) : List Byte := if e < 0x10000 then [] else leBytes 2 (e / 0x10000)

/-- The statuses that FAILED_TYPE may accompany (R426). -/
def namesType (status : Nat) : Bool := [E_LENGTH, E_PARAM_RANGE, E_PARAM_MISSING, E_PARAM_CONFLICT].contains status

/-- The TLVs of a reply: the results, or FAILED_TYPE where one parameter is at fault (log entry 11). -/
def replyTlvs (op status : Nat) (body : List Byte) : List Byte :=
  if namesType status then (if body.isEmpty then [] else tlv 0x00F0 body) else frameResults op body

/-- A final reply (R426). One to a session that has closed meanwhile is discarded (R435); one with another status than OK
counts in CMD_REFUSED. -/
def State.answer (s : State) (r : Req) (op status : Nat) (body : List Byte) : State :=
  let s1 := s.settle r
  let s2 := if r.slot < 8 ∧ (s1.session r.slot).phase = 0 then s1
    else s1.send ⟨r.path, r.slot, op, r.seq, r.world, status, false, false, 0, replyTlvs op status body, []⟩
  if status = OK then s2 else s2.bump f_CMD_REFUSED_VALUE

/-- The reply of a SESSION.CLOSE follows those of the commands started before it, and the session closes (R435). -/
def State.endClose (s : State) (slot : Nat) : State :=
  match (s.session slot).closing with
  | some c => if slot < 8 ∧ (s.session slot).outst ≤ 1 then (s.answer c 0x0112 OK []).closeSession slot false else s
  | none => s

/-- A session closes after the reply to its last SEQ (R433), and after the last of those that its SESSION.CLOSE waits for. -/
def State.closeLast (s : State) (slot seq : Nat) : State := if slot < 8 ∧ seq = 0xFFFFFFFF then s.closeSession slot true else s.endClose slot

/-- A final reply, and the end of a session that has used its last SEQ. -/
def State.reply (s : State) (r : Req) (op status : Nat) (body : List Byte) : State := (s.answer r op status body).closeLast r.slot r.seq

/-- A final reply that refuses a command: its status, and FAILED_TYPE where the refusal names a parameter. -/
def State.refuse (s : State) (r : Req) (op e : Nat) : State := s.reply r op (e % 0x10000) (blamed e)

/-- Every session of a world closes. -/
def State.closeWorld (s : State) (w : Nat) : State := (List.range 8).foldl (fun t i => if (t.session i).world = w then t.closeSession i true else t) s

def State.closeAll (s : State) : State := (List.range 8).foldl (fun t i => t.closeSession i true) s

/-! ### The checks of R437 that a command's own row still makes -/

/-- Opcodes whose World column names the custody world alone (R25, R34, R141, R161, R182, R204, R234, R360, R406, R421, R446). -/
def custodyOnly : List Nat := [
  0x0106, 0x0121, 0x0210, 0x0211, 0x0212, 0x0213,
  0x0305, 0x0307, 0x0310,
  0x0401, 0x0408, 0x0409, 0x040A,
  0x0502, 0x0503, 0x0504, 0x0505, 0x0506, 0x0508, 0x0509,
  0x0603, 0x0604, 0x0605, 0x0606, 0x0641, 0x0643, 0x0648, 0x064B, 0x064C, 0x064E, 0x064F,
  0x0701, 0x0705, 0x0706, 0x0708,
  0x0805, 0x0902, 0x0903, 0x0904, 0x0905, 0x0A02, 0x0A03, 0x0A05,
  0x0B01, 0x0B03, 0x0C04, 0x0D02, 0x0D04, 0x0D05, 0x0D07, 0x0D09]

/-- R445: the read commands of each class. -/
def readOps : List Nat := [
  0x0101, 0x0102, 0x0103, 0x0104, 0x0105, 0x0113, 0x0120, 0x0203, 0x0306, 0x0311, 0x0402, 0x0403, 0x0404, 0x0405, 0x0406,
  0x0501, 0x0507, 0x0607, 0x0642, 0x0649, 0x064A, 0x064D, 0x0702, 0x0703, 0x0704, 0x0707, 0x0803, 0x0807, 0x0901, 0x0906,
  0x0A01, 0x0A04, 0x0A06, 0x0B02, 0x0C01, 0x0C02, 0x0C03, 0x0D01, 0x0D03, 0x0D06, 0x0D08]

def isRead (op : Nat) : Bool := readOps.contains op

/-- R436: the read-only diagnostic set. -/
def diagnosticSet : List Nat := [0x0101, 0x0102, 0x0203, 0x0501, 0x0642, 0x0702, 0x0703, 0x0707, 0x0803, 0x0A06, 0x0C01]

/-- The world a requester counts as in world checks: the provisioning path counts as the custody world (R436), and so does the service
port's restricted set (R456). -/
def worldOf (r : Req) : Nat := if r.world = 3 ∨ r.world = 4 then 1 else r.world

/-- R47: the commands Quarantine accepts. -/
def quarantineAdmits (op : Nat) : Bool :=
  isRead op || [0x0110, 0x0111, 0x0112, 0x0201, 0x0202, 0x0214, 0x0601, 0x0602, 0x0640, 0x064B, 0x0801, 0x0802, 0x0804, 0x0805, 0x0806].contains op

/-- R52: the opcode classes accepted per mode. Self-test requests are left to R50. -/
def modeAdmits (mode op : Nat) : Bool :=
  let cls := op / 256
  if 0x0110 ≤ op ∧ op ≤ 0x0112 then true
  else match mode with
    | 0 => if cls = 6 then false else if cls = 7 then isRead op else true
    | 1 =>
      if cls = 2 then op == 0x0201 || isRead op
      else if cls = 4 then op != 0x0407
      else if cls = 5 then isRead op || op == 0x0505 || op == 0x0506
      else if cls = 8 ∨ cls = 0xA ∨ cls = 0xC ∨ cls = 0xD then isRead op
      else if cls = 0xB then false
      else true
    | 4 => if cls = 0xB then false else quarantineAdmits op
    | _ => true

/-- Slot of a transport's registers (R449). -/
def xpIndex (path : Nat) : Nat := path

/-- The service port's own commands under WORLD 4 (R458), with and without main power. -/
def svcDiagnostic : List Nat := [0x0C02, 0x0C03, 0x0D06, 0x0D08]
def svcDormant : List Nat := [0x0C01, 0x0C02, 0x0C03]

/-- The port's sets follow the mode in force at the ATR; without main power, in Dormant, or with EN 0 they are the Dormant sets (R458). -/
def svcMode (s : State) : Nat := if s.svc.mode = 5 ∨ !s.isSet f_SVC_CTRL_EN ∨ !s.alive then 5 else s.svc.mode

/-- R458: whether the port's set in force holds a command presented with a world code, secured when `sec`. -/
def svcSet (s : State) (sec : Bool) (world op : Nat) : Bool :=
  let m := svcMode s
  if m = 5 then !sec && world == 4 && svcDormant.contains op
  else
    let sessions := if m = 0 then true else (m == 2 || m == 3) && !([0x0104, 0x0A02, 0x0A03, 0x0A05].contains op)
    if sec || op == 0x0110 || op == 0x0111 then sessions
    else match world with
      | 0 => diagnosticSet.contains op && s.isSet f_SVC_CTRL_DIAG
      | 3 => m == 0
      | 4 => svcDiagnostic.contains op
      | _ => true

/-- R51, R458: a command outside the port's set is answered with E_MODE. -/
def svcCheck (s : State) (r : Req) (op : Nat) : Option Nat :=
  if r.path = 4 ∧ !svcSet s (decide (r.slot < 8)) r.world op then some E_MODE else none

/-- Check 10 (R459–R461): while the service port is locked or locked out, or a forced erase is unfinished, it takes no packet. -/
def lockCheck (s : State) (r : Req) : Option Nat :=
  if r.path = 4 ∧ ((s.svc.password.isSome && !s.svc.unlocked) || s.svc.lockout || s.svc.erasing) then some E_LOCKED else none

/-- Checks 3, 6 and 9 of R437 for a command presented to its world: the session stands as the requester names it, or the unsecured path
admits the opcode (R436). The recovery monitor accepts unsecured packets of WORLD 3 only (R533). -/
def pathCheck (s : State) (r : Req) (op : Nat) : Option Nat :=
  if s.fget f_CPR_STATUS_STAGE = 3 ∧ r.world ≠ 3 then some E_SESSION
  else if op = 0x0110 then
    if r.slot = 8 ∧ (r.world = 1 ∨ r.world = 2) ∧ (r.path = 4 ∨ bit (s.fget (f_XP_CTRL_WORLDS (xpIndex r.path))) (r.world - 1)) then none
    else some E_SESSION
  else if op = 0x0111 then
    if r.slot < 8 ∧ (s.session r.slot).phase = 1 ∧ (s.session r.slot).path = r.path then none else some E_SESSION
  else if r.slot < 8 then
    let x := s.session r.slot
    if x.phase = 2 ∧ x.path = r.path ∧ x.world = r.world then none else some E_SESSION
  else match r.world with
    | 0 => if diagnosticSet.contains op && s.isSet f_CMD_CTRL_DIAG_EN && (r.path == 4 || s.isSet (f_XP_CTRL_DIAG (xpIndex r.path)))
           then none else some E_SESSION
    | 3 => if (s.mode = 0 ∨ s.fget f_CPR_STATUS_STAGE = 3) ∧ (r.path = 0 ∨ r.path = 4) then none else some E_SESSION
    | 4 => if r.path = 4 then none else some E_SESSION
    | _ => some E_SESSION

/-- Check 12. -/
def worldCheck (r : Req) (op : Nat) : Option Nat :=
  if custodyOnly.contains op && worldOf r != 1 then some E_WORLD else none

/-- Check 13 for a capability the life-cycle state must permit (R36); while the state is re-read every check refuses (R337). -/
def lcCheck (s : State) (ok : Nat → Bool) : Option Nat :=
  if ok s.lc then none else some E_LIFECYCLE

/-- Check 14. SHUTTER.SET_CONTACTOR is checked as R187 says. -/
def modeCheck (s : State) (op : Nat) : Option Nat := if op = 0x0601 ∨ modeAdmits s.mode op = true then none else some E_MODE

/-- R534: while the Dormant entry phase runs the part accepts reads, SHUTTER.SET_CONTACTOR and SHUTTER.DERATE; MODE.SET finds it busy. -/
def phaseCheck (s : State) (op : Nat) : Option Nat :=
  if s.pwr.phase = 0 ∨ isRead op ∨ op = 0x0601 ∨ op = 0x0602 then none else some (if op = 0x0201 then E_BUSY else E_MODE)

/-- R533: what the recovery monitor admits. -/
def recoveryCheck (s : State) (op : Nat) : Option Nat :=
  if s.fget f_CPR_STATUS_STAGE = 3 ∧ !([0x0101, 0x0102, 0x0106, 0x0A01, 0x0A02, 0x0A03, 0x0A04, 0x0A05, 0x0A06].contains op) then some E_MODE else none

/-- Commands whose effect or answer lies on the Cellar die. -/
def cellarOps : List Nat := [0x0C01, 0x0C02, 0x0C03, 0x0C04, 0x0D03, 0x0D04, 0x0D05, 0x0D07, 0x0D08, 0x0D09]

/-- R18: they find it out of reach while no session of the link is up (log entry 99). -/
def linkCheck (s : State) (op : Nat) : Option Nat := if cellarOps.contains op && !s.linkUp then some E_BUSY else none

/-- The first failure decides. -/
def firstOf : List (Option Nat) → Option Nat
  | [] => none
  | some e :: _ => some e
  | none :: t => firstOf t

/-- A check of a command's chapter: refused with `e`, a status or a `blame`, unless `ok`. -/
def need (ok : Bool) (e : Nat) : Option Nat := if ok then none else some e

/-- What a command does once every check has passed: the state, and the reply's status and results, or none when the reply comes later. -/
abbrev Effect := State → State × Option (Nat × List Byte)

/-- The status a command is refused with, if any check fails: of its path, world, life cycle and mode, then its chapter's, in order. -/
def refusal (s : State) (r : Req) (op : Nat) (lc : Nat → Bool) (chk : State → List (Option Nat)) : Option Nat :=
  firstOf ([pathCheck s r op, svcCheck s r op, recoveryCheck s op, lockCheck s r, worldCheck r op, lcCheck s lc, modeCheck s op, phaseCheck s op, linkCheck s op] ++ chk s)

/-- A command of the tables (R437, R438): the checks of its path, world, life cycle and mode, then `chk`, its chapter's, in order; a failure
is answered and changes nothing else; otherwise the effect, and its reply. While the logic die is held in reset only the service port answers. -/
def runCmd (s : State) (r : Req) (op : Nat) (lc : Nat → Bool) (chk : State → List (Option Nat)) (eff : Effect) : State :=
  let s0 := s.at r.at_
  if !s0.alive && r.path != 4 then s0
  else match refusal s0 r op lc chk with
  | some e => s0.refuse r op e
  | none => match eff s0 with
    | (s1, some (st, body)) => s1.reply r op st body
    | (s1, none) => s1

/-- Every life-cycle state permits it. -/
def anyLc : Nat → Bool := fun _ => true

/-- A command with an effect that always ends OK with no results. -/
def okEff (f : State → State) : Effect := fun s => (f s, some (OK, []))

/-- A read command: results only. -/
def readEff (f : State → List Byte) : Effect := fun s => (s, some (OK, f s))

/-- Tokens (R400, R401): accepted when its kind, opcode, serial and digest match, its nonce is the outstanding challenge, it has not expired,
and both signatures verify. The challenge is consumed whatever the outcome. -/
def tokenContext : Nat := 1
def tokenMessage (t : Token) : List Nat := [t.head, t.kind, t.op, t.serial, t.nonce, t.expiry, t.digest]

def State.challenge (s : State) (r : Req) : Option Challenge :=
  if r.slot < 8 then (s.session r.slot).challenge else at! s.cmd.unsecChal r.path none

def State.setChallenge (s : State) (r : Req) (c : Option Challenge) : State :=
  if r.slot < 8 then s.setSession r.slot { s.session r.slot with challenge := c }
  else { s with cmd := { s.cmd with unsecChal := setAt s.cmd.unsecChal r.path c } }

/-- Bytes 0–4 of a token: "DZTK" and VER 1. -/
def tokenHead : Nat := 0x014B545A44

/-- `root` is the hash of the keys the token's kind asks for. -/
def tokenOk (s : State) (r : Req) (op kind digest : Nat) (root : BitVec 384) (t : Token) : Bool :=
  t.head == tokenHead && t.kind == kind && t.op == op && t.serial == Config.serial.toNat && t.digest == digest &&
  (match s.challenge r with
   | some c => c.nonce == t.nonce && decide (s.now < c.drawn + 600 * ticksPerS)
   | none => false) &&
  decide (s.now < t.expiry) && Config.sigValid root tokenContext (tokenMessage t) t.sig.ec t.sig.pq

/-- The token check of check 16: the state with the challenge consumed, and whether the token is accepted. -/
def State.checkToken (s : State) (r : Req) (op kind digest : Nat) (root : BitVec 384) (t : Token) : State × Bool :=
  (s.setChallenge r none, tokenOk s r op kind digest root t)

/-- SHA-384 over the parameters of a command, other than the token and the signer's keys (R400). -/
def paramDigest (bs : List Byte) : Nat := (Config.sha384 bs).toNat

/-- The owner root in force (R399): the newest entry whose CRC holds and whose commit pair is fully blown. -/
def State.ownerRoot (s : State) : Option (BitVec 384) :=
  (s.keys.roots.reverse.find? (fun o => o.written && o.crcOk && o.commitA && o.commitB)).map (·.root)

/-- An owner token with the keys it comes with (R400). -/
def State.checkOwnerToken (s : State) (r : Req) (op digest : Nat) (t : Token) (k : PubKeys) : State × Bool :=
  let h := Config.ownerKeyHash k.ec k.pq
  let (s1, ok) := s.checkToken r op 1 digest h t
  (s1, ok && s.ownerRoot == some h)

/-- A 32-bit word as reply bytes. -/
def w4 (s : State) (a : Nat) : List Byte := leBytes 4 (s.regN a)

/-- A meaning's outcome. -/
def done (s : State) : Out := .next s

end Sys2Proof.Machine
end

