-- ==== Sys2Proof/Machine/Line.lean ====
section
/-!
DEFINITION. Machine/Line.lean: the line of a Transit ring (R55, R56, R62, R63, R66, R69, R72, R82, R88): 8b/10b code groups, ordered sets and
frames. R55 takes the code groups and the disparity rules from IEEE 802.3 clause 36: the two tables below are that standard's (PRESUMED: the
spec names it and does not print it; log entry 86).
-/
namespace Sys2Proof.Machine

/-! ### Code groups (R55) -/

/-- The 6-bit sub-blocks abcdei of D.x, with bit a the most significant: at negative and at positive running disparity. -/
def sixTable : List (Nat × Nat) :=
  [(0b100111, 0b011000), (0b011101, 0b100010), (0b101101, 0b010010), (0b110001, 0b110001), (0b110101, 0b001010), (0b101001, 0b101001),
   (0b011001, 0b011001), (0b111000, 0b000111), (0b111001, 0b000110), (0b100101, 0b100101), (0b010101, 0b010101), (0b110100, 0b110100),
   (0b001101, 0b001101), (0b101100, 0b101100), (0b011100, 0b011100), (0b010111, 0b101000)] ++
  [(0b011011, 0b100100), (0b100011, 0b100011), (0b010011, 0b010011), (0b110010, 0b110010), (0b001011, 0b001011), (0b101010, 0b101010),
   (0b011010, 0b011010), (0b111010, 0b000101), (0b110011, 0b001100), (0b100110, 0b100110), (0b010110, 0b010110), (0b110110, 0b001001),
   (0b001110, 0b001110), (0b101110, 0b010001), (0b011110, 0b100001), (0b101011, 0b010100)]

/-- The 6-bit sub-block of K.28. -/
def sixK28 : Nat × Nat := (0b001111, 0b110000)

/-- The 4-bit sub-blocks fghj of D.x.y, y = 0–6, then the primary and the alternate one of y = 7. -/
def fourTable : List (Nat × Nat) :=
  [(0b1011, 0b0100), (0b1001, 0b1001), (0b0101, 0b0101), (0b1100, 0b0011), (0b1101, 0b0010), (0b1010, 0b1010), (0b0110, 0b0110),
   (0b1110, 0b0001), (0b0111, 0b1000)]

/-- The 4-bit sub-blocks of K.x.y. -/
def fourKTable : List (Nat × Nat) :=
  [(0b1011, 0b0100), (0b0110, 0b1001), (0b1010, 0b0101), (0b1100, 0b0011), (0b1101, 0b0010), (0b0101, 0b1010), (0b1001, 0b0110), (0b0111, 0b1000)]

/-- The sub-block of a pair at a running disparity: true is positive. -/
def atDisparity (p : Nat × Nat) (rd : Bool) : Nat := if rd then p.2 else p.1

/-- Ones in a sub-block. -/
def onesIn : Nat → Nat → Nat
  | 0, _ => 0
  | n + 1, v => v % 2 + onesIn n (v / 2)

/-- The running disparity after a sub-block of `n` bits: the sign of a sub-block that is not balanced, else as before. -/
def disparityAfter (n v : Nat) (rd : Bool) : Bool := if 2 * onesIn n v = n then rd else decide (n < 2 * onesIn n v)

/-- D.x.7 takes the alternate sub-block for these x: it would else make five equal bits in a row. -/
def alternate7 (x : Nat) (rd : Bool) : Bool := if rd then [11, 13, 14].contains x else [17, 18, 20].contains x

/-- R56: the control bytes a ring uses: K28.y, K23.7, K27.7, K29.7 and K30.7. -/
def kIDLE : Nat := 0xBC
def kSYNC : Nat := 0x3C
def kCOLLECT : Nat := 0x9C
def kCMD : Nat := 0xF7
def kRSP : Nat := 0xDC
def kSOF : Nat := 0xFB
def kEOF : Nat := 0xFD
def kETR : Nat := 0x7C
def kECHO : Nat := 0x5C
def kBREAK : Nat := 0x1C
def kABORT : Nat := 0xFE

/-- R56: any other control code group is a code violation. -/
def controlUsed : List Nat := [kIDLE, kSYNC, kCOLLECT, kCMD, kRSP, kSOF, kEOF, kETR, kECHO, kBREAK, kABORT]

/-- Whether K.x.y is a code group at all: K.28.y, and K.x.7 for four x. -/
def kExists (x y : Nat) : Bool := x == 28 || (y == 7 && [23, 27, 29, 30].contains x)

/-- The code group of a character at a running disparity, with bit a the most significant of ten, and the running disparity after it. -/
def encodeGroup (c : LineChar) (rd : Bool) : Nat × Bool :=
  let go (six : Nat) (four : Bool → Nat) : Nat × Bool :=
    let rd1 := disparityAfter 6 six rd
    (six * 16 + four rd1, disparityAfter 4 (four rd1) rd1)
  match c with
  | .data b =>
    let x := b.toNat % 32
    let y := b.toNat / 32
    go (atDisparity (at! sixTable x (0, 0)) rd) (fun r => atDisparity (at! fourTable (if y = 7 ∧ alternate7 x r then 8 else y) (0, 0)) r)
  | .ctrl k =>
    let x := k % 32
    go (atDisparity (if x = 28 then sixK28 else at! sixTable x (0, 0)) rd) (fun r => atDisparity (at! fourKTable (k / 32) (0, 0)) r)
  | .bad => (0, rd)

/-- The place of a sub-block in its table at a running disparity. -/
def subBlock (t : List (Nat × Nat)) (rd : Bool) (v : Nat) : Option Nat := t.findIdx? (fun p => atDisparity p rd == v)

/-- R55, R56: a received code group at the running disparity before it; one that stands in no table at that disparity, or that is a control code
group the rings do not use, is a code violation. -/
def decodeGroup (g : Nat) (rd : Bool) : LineChar × Bool :=
  let six := g / 16
  let rd1 := disparityAfter 6 six rd
  let after := disparityAfter 4 (g % 16) rd1
  let ctrl (x : Nat) : LineChar := match subBlock fourKTable rd1 (g % 16) with
    | some y => if kExists x y && controlUsed.contains (32 * y + x) then .ctrl (32 * y + x) else .bad
    | none => .bad
  if 1024 ≤ g then (.bad, rd)
  else if six = atDisparity sixK28 rd then (ctrl 28, after)
  else match subBlock sixTable rd six with
    | none => (.bad, after)
    | some x => match subBlock fourTable rd1 (g % 16) with
      | none => (.bad, after)
      | some 8 => if alternate7 x rd1 then (.data (BitVec.ofNat 8 (224 + x)), after) else (ctrl x, after)
      | some y => if y = 7 ∧ alternate7 x rd1 then (.bad, after) else (.data (BitVec.ofNat 8 (32 * y + x)), after)

/-- The characters of received code groups. -/
def decodeGroups : List Nat → Bool → List LineChar
  | [], _ => []
  | g :: t, rd => (decodeGroup g rd).1 :: decodeGroups t (decodeGroup g rd).2

/-- The code groups of characters. -/
def encodeGroups : List LineChar → Bool → List Nat
  | [], _ => []
  | c :: t, rd => (encodeGroup c rd).1 :: encodeGroups t (encodeGroup c rd).2

/-- What a receiver makes of a stretch of line. -/
def lineChars (l : Line) : List LineChar := decodeGroups l.groups l.rd

/-! ### Ordered sets and frames -/

/-- The bytes of characters that are all data. -/
def dataOf : List LineChar → Option (List Byte)
  | [] => some []
  | .data b :: t => (dataOf t).map (b :: ·)
  | _ :: _ => none

def dataChars (bs : List Byte) : List LineChar := bs.map .data

/-- R55: the bytes of an ordered set of a head; none when a code violation, or anything but data, stands in it. -/
def setBytes (head : Nat) (cs : List LineChar) : Option (List Byte) :=
  match cs with
  | .ctrl k :: t => if k = head then dataOf t else none
  | _ => none

/-- R55, R56, R76: the bytes between a frame's first character and its EOF; none for a code violation, ABORT, or anything but data between. -/
def frameBody (head : Nat) (cs : List LineChar) : Option (List Byte) :=
  match cs.getLast? with
  | some (.ctrl k) => if k = kEOF then setBytes head cs.dropLast else none
  | _ => none

/-- A frame on the line. -/
def frameChars (head : Nat) (bs : List Byte) : List LineChar := .ctrl head :: dataChars bs ++ [.ctrl kEOF]

/-- Bytes followed by their CRC-32C (R71). -/
def withCrc (bs : List Byte) : List Byte := bs ++ leBytes 4 (crc32c bs)

/-- The bytes before a CRC-32C that holds. -/
def checkCrc (bs : List Byte) : Option (List Byte) :=
  let n := bs.length - 4
  if 4 ≤ bs.length ∧ leNat (bs.drop n) = crc32c (bs.take n) then some (bs.take n) else none

/-- R62: the SYNC ordered set. -/
def syncSet (tstamp flags rcap : Nat) : List LineChar :=
  let b := leBytes 4 tstamp ++ leBytes 1 flags ++ leBytes 1 rcap
  .ctrl kSYNC :: dataChars (b ++ leBytes 1 (crc8 b))

/-- R63: the COLLECT ordered set. -/
def collectSet (flags maxf : Nat) : List LineChar :=
  let b := leBytes 1 flags ++ leBytes 1 maxf
  .ctrl kCOLLECT :: dataChars (b ++ leBytes 1 (crc8 b))

/-- R66: the ECHO ordered set of a node. -/
def echoSet (node : Nat) : List LineChar := .ctrl kECHO :: dataChars (leBytes 1 node ++ leBytes 1 (255 - node))

/-- R82: the BREAK ordered set of a node. -/
def breakSet (node : Nat) (upstream : Bool) : List LineChar := .ctrl kBREAK :: dataChars (leBytes 1 node ++ leBytes 1 (flag upstream))

/-- R72: a command frame. -/
def commandChars (addr opc : Nat) (payload : List Byte) : List LineChar :=
  frameChars kCMD (withCrc (leBytes 1 addr ++ leBytes 1 opc ++ leBytes 1 payload.length ++ payload))

/-- R72: a response frame. -/
def responseChars (node opc nstat : Nat) (payload : List Byte) : List LineChar :=
  frameChars kRSP (withCrc (leBytes 1 node ++ leBytes 1 opc ++ leBytes 1 nstat ++ leBytes 1 payload.length ++ payload))

/-- R88: the bytes of an assembly frame. -/
def assemblyBytes (position : Nat) (payload : List Byte) : List Byte := withCrc (leBytes 1 (0x20 + position) ++ leBytes 1 payload.length ++ payload)

/-- The head of a train as a node receives it: whether it is a COLLECT set, TSTAMP, FLAGS, and RCAP or MAXF. -/
structure TrainHead where
  collect : Bool
  tstamp  : Nat
  flags   : Nat
  cap     : Nat
  deriving DecidableEq, Repr

/-- R62, R63, R65: a head counts only with a valid check. -/
def trainHead (cs : List LineChar) : Option TrainHead :=
  let f (bs : List Byte) (o n : Nat) : Nat := leNat ((bs.drop o).take n)
  match setBytes kSYNC cs with
  | some bs => if bs.length = 7 ∧ crc8 (bs.take 6) = f bs 6 1 then some ⟨false, f bs 0 4, f bs 4 1, f bs 5 1⟩ else none
  | none => match setBytes kCOLLECT cs with
    | some bs => if bs.length = 3 ∧ crc8 (bs.take 2) = f bs 2 1 then some ⟨true, 0, f bs 0 1, f bs 1 1⟩ else none
    | none => none

/-- R72: ADDR, OPC and payload of a command frame whose CRC, LEN and coding hold. -/
def commandOf (cs : List LineChar) : Option (Nat × Nat × List Byte) :=
  match (frameBody kCMD cs).bind checkCrc with
  | some (a :: o :: l :: p) => if p.length = l.toNat ∧ l.toNat ≤ 16 ∧ a.toNat < 32 then some (a.toNat, o.toNat, p) else none
  | _ => none

/-- R72: NODE, OPC, NSTAT and payload of a response frame whose CRC, LEN and coding hold. -/
def responseOf (cs : List LineChar) : Option (Nat × Nat × Nat × List Byte) :=
  match (frameBody kRSP cs).bind checkCrc with
  | some (n :: o :: st :: l :: p) => if p.length = l.toNat ∧ l.toNat ≤ 16 then some (n.toNat, o.toNat, st.toNat, p) else none
  | _ => none

/-- R69, R76: the 66 bytes of a cell frame whose CRC and coding hold. -/
def cellFrameOf (cs : List LineChar) : Option (List Byte) :=
  match frameBody kSOF cs with
  | some bs => if bs.length = 66 ∧ leNat (bs.take 1) / 16 = 1 ∧ (checkCrc bs).isSome then some bs else none
  | none => none

/-- R88: position, payload and bytes of an assembly frame whose CRC, LEN and coding hold. -/
def asmFrameOf (cs : List LineChar) : Option (Nat × List Byte × List Byte) :=
  match frameBody kSOF cs with
  | none => none
  | some bs => match checkCrc bs with
    | some (h :: l :: p) => if h.toNat / 16 = 2 ∧ p.length = l.toNat ∧ l.toNat ≤ 56 then some (h.toNat % 16, p, bs) else none
    | _ => none

/-- R66: the node of an ECHO ordered set that names it and its complement. -/
def echoOf (cs : List LineChar) : Option Nat :=
  match setBytes kECHO cs with
  | some [a, b] => if b = ~~~ a then some a.toNat else none
  | _ => none

/-- R82: the node of a BREAK ordered set, and whether the upstream port lost its signal. -/
def breakOf (cs : List LineChar) : Option (Nat × Bool) :=
  match setBytes kBREAK cs with
  | some [a, b] => if b = 0 then some (a.toNat, false) else if b = 1 then some (a.toNat, true) else none
  | _ => none

end Sys2Proof.Machine
end

