-- ==== Sys2Proof/Machine/Gates.lean ====
section
/-!
DEFINITION. Machine/Gates.lean: the target gates (R319–R331): which gate guards an address, whether it admits an access, and the violation
notice of a denied one.
-/
namespace Sys2Proof.Machine

/-- One access on the spine (R321). `kind`: 0 read, 1 write, 2 fetch. -/
structure Acc where
  kind : Nat
  cls  : Nat
  eng  : Nat
  ctx  : Nat
  addr : Nat
  deriving DecidableEq, Repr

/-- The access a write operand stands for. -/
def wrAcc (w : Wr) (addr : Nat) : Acc := ⟨1, w.cls, w.eng, w.ctx, addr⟩

/-- The lowest-numbered enabled window that contains an address (R325). -/
def windowOf (s : State) (a : Nat) : Option Nat :=
  (List.range 16).find? (fun i => s.isSet (f_TG_WIN_HI_EN i) &&
    decide (s.fget (f_TG_WIN_LO_BASE i) ≤ a / 4096) && decide (a / 4096 ≤ s.fget (f_TG_WIN_HI_LAST i)))

/-- Whether the part of the Cellar window (R367) or of a vat or lane stride at `a` is mapped. -/
def mappedIn (a base stride size count : Nat) : Bool :=
  decide (base ≤ a) && decide ((a - base) / stride < count) && decide ((a - base) % stride < size)

/-- The gate that guards an address (R318–R320); none where it is unmapped. -/
def gateOf (s : State) (a : Nat) : Option Nat :=
  if a < 0x10000 then some 64
  else if 0x04000000 ≤ a ∧ a < 0x04DC0000 then some (match windowOf s a with | some i => 80 + i | none => 65)
  else if 0x04DC0000 ≤ a ∧ a < 0x04E00000 then some 66
  else if 0x04E00000 ≤ a ∧ a < 0x05000000 then some 67
  else if 0x10000000 ≤ a ∧ a < 0x100B8000 then some (match windowOf s a with | some i => 80 + i | none => 68)
  else if 0x100B8000 ≤ a ∧ a < 0x100F8000 then some 69
  else if 0x100F8000 ≤ a ∧ a < 0x10100000 then some 70
  else if 0x20000000 ≤ a ∧ a < 0x20800000 then some 71
  else if mappedIn a 0x30000000 0x100000 0x20000 16 then some 72
  else if mappedIn a 0x38000000 0x10000 0x4000 256 then some 73
  else if 0x40000000 ≤ a ∧ a < 0x40230000 then some ((a - 0x40000000) / 0x10000)
  else if 0x50000000 ≤ a ∧ a < 0x50143000 ∨ 0x50180000 ≤ a ∧ a < 0x50180200 then some 74
  else if 0x60000000 ≤ a ∧ a < 0x70000000 then some 75
  else if 0x70000000 ≤ a ∧ a < 0x70001000 then some 76
  else none

/-- The gate index a notice of an unmapped access carries (R319). -/
def unmappedGate (a : Nat) : Nat := if 0x40230000 ≤ a ∧ a < 0x40400000 then (a - 0x40000000) / 0x10000 else 0xFF

/-- Slots whose gate uses the programmable permission word alone (R320). -/
def programmable (g : Nat) : Bool := g == 0 || g == 4 || g == 5 || g == 65 || g == 68 || decide (80 ≤ g)

/-- The world that owns the notices of a gate (R320, R329): 0 custody, 1 operator, 2 both. -/
def gateOwner (s : State) (g : Nat) : Nat :=
  if [0, 2, 16, 17, 18, 19, 20, 22, 25, 26, 27, 28, 29].contains g then 2
  else if 80 ≤ g ∧ g < 96 then s.fget (f_TG_WIN_LO_OWNER (g - 80))
  else 0

/-- Bit of TG_PERM[g] for a class and kind (R322): R, W, X. -/
def permBit (s : State) (g cls kind : Nat) : Bool := bit (s.regN (r_TG_PERM g)) (4 * cls + kind)

def custodyCls (cls : Nat) : Bool := cls == 0 || cls == 1
def operatorCls (cls : Nat) : Bool := cls == 2 || cls == 3
def anySup (cls : Nat) : Bool := cls == 1 || cls == 3
/-- A custody core in ring mode, contexts 0 and 1 (R342). -/
def ringCtx01 (a : Acc) : Bool := a.cls == 1 && decide (a.ctx ≤ 1)

/-- The register-level rules of the fixed slots and of the Cellar registers (check 5 of R327). -/
def registerRule (s : State) (a : Acc) : Bool :=
  let off := a.addr % 0x10000
  let slot := (a.addr - 0x40000000) / 0x10000
  if 0x50180000 ≤ a.addr ∧ a.addr < 0x50180200 then (if a.kind = 1 then a.cls == 1 else true)
  else if a.kind = 1 then
    match slot with
    | 2 => if off = 0x30 then anySup a.cls else a.cls == 1
    | 3 => anySup a.cls
    | 6 | 9 | 10 => custodyCls a.cls
    | 7 => if 0x18 ≤ off ∧ off < 0x20 then operatorCls a.cls else if 0x48 ≤ off ∧ off < 0x50 then anySup a.cls else custodyCls a.cls
    | 8 => if off = 0x14 then operatorCls a.cls else if off = 0x8 then custodyCls a.cls || operatorCls a.cls else custodyCls a.cls
    | 11 =>
      let r := off % 0x100
      let v := off / 0x100
      if r = 0x08 ∨ r = 0x0C ∨ r = 0x20 ∨ r = 0x58 then a.cls == 1 || (a.cls == 5 && a.eng == v) else a.cls == 1
    | 12 => a.cls == 1 || (a.cls == 5 && a.eng == off / 0x40 / 16)
    | 14 => decide (a.cls < 4)
    | 34 => a.cls == 7
    | 16 => anySup a.cls
    | 18 => a.cls == 3
    | 19 | 20 =>
      let claim := s.fget (f_CB_CLAIM_WORLD (slot - 17))
      (claim == 0 && off == 0 && anySup a.cls) || (claim == 1 && a.cls == 1) || (claim == 2 && a.cls == 3)
    | 25 =>
      if (0x80 ≤ off ∧ off < 0xB0) ∨ (0xD0 ≤ off ∧ off < 0xE0) then a.cls == 3
      else if off = 0x18 ∨ off = 0x20 then a.cls == 1
      else if off = 0x1C ∨ off = 0x24 then a.cls == 3
      else a.cls == 1
    | _ => a.cls == 1
  else
    match slot with
    | 3 => if 0x400 ≤ off ∧ off < 0x480 then a.cls == 1 else if 0x480 ≤ off ∧ off < 0x500 then a.cls == 3 || (a.cls == 1 && decide (a.ctx ≤ 2))
           else anySup a.cls
    | 6 | 7 | 8 | 9 | 10 => custodyCls a.cls || operatorCls a.cls
    | 11 => anySup a.cls || (a.cls == 5 && a.eng == off / 0x100)
    | 12 => anySup a.cls || (a.cls == 5 && a.eng == off / 0x40 / 16)
    | 13 => a.cls == 5 && a.eng == off / 0x1000
    | 14 => decide (a.cls < 4)
    | 22 => if 0x20 ≤ off ∧ off < 0x28 then (if off = 0x20 then custodyCls a.cls else operatorCls a.cls)
            else if 0x40 ≤ off ∧ off < 0x80 then a.cls == 5 && a.eng == (off - 0x40) / 4
            else anySup a.cls
    | 30 => a.cls == 1
    | 34 => a.cls == 7
    | _ => anySup a.cls

/-- The rules of gates 72 and 73 on the engine index (R324). -/
def engineRule (g : Nat) (a : Acc) : Bool :=
  if a.cls ≠ 5 then true
  else if g = 72 then a.eng == (a.addr - 0x30000000) / 0x100000
  else if g = 73 then a.eng == (a.addr - 0x38000000) / 0x10000 / 16
  else true

/-- What the self-test engine holds during a test of the full set (R538, R539). -/
def isolated (s : State) (a : Nat) : Bool :=
  let slot := (a - 0x40000000) / 0x10000
  match s.bist.left with
  | [] => false
  | 0x10 :: _ => decide ((0x20000000 ≤ a ∧ a < 0x20800000) ∨ (0x30000000 ≤ a ∧ a < 0x31000000) ∨ (0x38000000 ≤ a ∧ a < 0x39000000))
  | 0x11 :: _ => decide (0x400C0000 ≤ a ∧ a < 0x400D0000)
  | 0x12 :: _ => decide (0x400D0000 ≤ a ∧ a < 0x400E0000)
  | 0x13 :: _ => decide (0x40000000 ≤ a ∧ 16 ≤ slot ∧ slot ≤ 22)
  | 0x14 :: _ => decide (0x40060000 ≤ a ∧ a < 0x40070000)
  | 0x15 :: _ => decide (0x04000000 + s.bist.bank * 0x200000 ≤ a ∧ a < 0x04200000 + s.bist.bank * 0x200000)
  | _ :: _ => false

/-- R253: the code region of a running lane is closed to every other initiator's writes. -/
def runningCode (s : State) (a : Acc) : Bool :=
  let e := (a.addr - 0x38000000) / 0x10000
  a.kind == 1 && (Sparse.get (fun _ => LaneState.reset) s.eng.lanes e).stat == 1 && decide ((a.addr - 0x38000000) % 0x10000 < s.fget (f_LE_CODE_LIM_LIM e))

/-- R323: the debug class is denied outside Blank, Provisioned and Field-return, and always at gates 64–79. -/
def debugDenied (s : State) (g cls : Nat) : Bool :=
  decide (cls = 7 ∧ (64 ≤ g ∧ g < 80 ∨ ¬ (s.lc = 0 ∨ s.lc = 1 ∨ s.lc = 5)))

/-- A gate's decision (R327, steps 1, 3, 4 and 5): the reason code of the first failure, none when admitted. -/
def gateCheck (s : State) (a : Acc) : Option Nat :=
  match gateOf s a.addr with
  | none => some 1
  | some g =>
    if 80 ≤ g ∧ a.kind = 0 ∧ s.isSet (f_TG_WIN_LO_XO (g - 80)) then some 3
    else if debugDenied s g a.cls || !permBit s g a.cls a.kind then some 0
    else if !engineRule g a then some 0
    else if g = 73 ∧ runningCode s a then some 0
    else if (g < 64 ∧ !programmable g ∨ g = 74) ∧ !registerRule s a then some 2
    else if isolated s a.addr then some 0
    else none

/-- TG_VLOG_INFO (R342). -/
def noticeInfo (gate : Nat) (a : Acc) (kind imprecise reason : Nat) : Nat :=
  gate * 2 ^ 24 + a.eng * 2 ^ 16 + a.cls * 2 ^ 13 + kind * 2 ^ 11 + imprecise * 2 ^ 10 + reason * 2 ^ 8

/-- A notice in one world's log (R329, R330). -/
def State.noticeIn (s : State) (w info addr : Nat) : State :=
  let depth := s.fget (f_TG_VSTAT_DEPTH w)
  let newest := depth - 1
  let same := depth > 0 ∧ s.regN (r_TG_VLOG_ADDR w newest) = addr ∧
    s.regN (r_TG_VLOG_INFO w newest) / 2 ^ 11 = info / 2 ^ 11
  let write (t : State) (j : Nat) : State :=
    ((t.setRegN (r_TG_VLOG_ADDR w j) addr).setRegN (r_TG_VLOG_INFO w j) info).put64 (r_TG_VLOG_STAMP_LO w j) (r_TG_VLOG_STAMP_HI w j) t.now
  if same then s.bump (f_TG_VLOG_INFO_REPEAT w newest)
  else if depth < 8 then (write s depth).fput (f_TG_VSTAT_DEPTH w) (depth + 1)
  else (write s 7).bump (f_TG_VSTAT_LOST w)

/-- The notice of a denied access to the owning world or worlds; the self-test engine's gate is 24. -/
def State.notice (s : State) (a : Acc) (reason : Nat) : State :=
  let gate := if isolated s a.addr then 24 else match gateOf s a.addr with | some g => g | none => unmappedGate a.addr
  let info := noticeInfo gate a (if reason = 3 then 3 else a.kind) (flag (a.kind == 1)) reason
  match gateOwner s gate with
  | 0 => s.noticeIn 0 info a.addr
  | 1 => s.noticeIn 1 info a.addr
  | _ => (s.noticeIn 0 info a.addr).noticeIn 1 info a.addr

/-- The clock domain of the register or memory at an address (R332, R525, R526). -/
def domainOf (a : Nat) : Option Nat :=
  if 0x38000000 ≤ a ∧ a < 0x39000000 then some (296 + (a - 0x38000000) / 0x800000)
  else if 0x30000000 ≤ a ∧ a < 0x31000000 then some 298
  else if 0x20000000 ≤ a ∧ a < 0x20800000 then some (292 + (a - 0x20000000) / 0x200000)
  else if 0x40000000 ≤ a ∧ a < 0x40230000 then
    let off := a % 0x10000
    match (a - 0x40000000) / 0x10000 with
    | 0 | 1 | 2 | 5 | 7 | 8 => some 302
    | 4 | 6 | 9 | 10 | 11 => some 303
    | 30 | 31 => some 304
    | 16 | 17 | 18 | 19 | 20 | 21 | 22 => some 305
    | 23 | 24 => some 306
    | 25 | 26 | 27 | 28 | 29 | 32 | 33 => some 307
    | 12 => if off < 0x4000 then some (off / 64) else none
    | 13 => some (256 + off / 0x1000)
    | 15 => some 300
    | 34 => some 319
    | _ => none
  else if 0x04000000 ≤ a ∧ a < 0x05000000 then some 300
  else if 0x60000000 ≤ a ∧ a < 0x70000000 then some 304
  else if 0x70000000 ≤ a ∧ a < 0x70001000 then some 305
  else none

/-- The domain that holds an address is held in reset: its registers keep their reset values (R527; log entry 45). -/
def heldInReset (s : State) (a : Nat) : Bool :=
  match domainOf a with
  | some d => s.isSet (f_CPR_DOM_RST d)
  | none => false

/-! ### What a transfer carries (R336) -/

/-- The check word of a transfer: CRC-8 over address, class, engine index, context and kind (log entry 103). -/
def busWord (a : Acc) : Nat := crc8 (leBytes 4 a.addr ++ leBytes 1 a.cls ++ leBytes 1 a.eng ++ leBytes 1 a.ctx ++ leBytes 1 a.kind)

/-- Even parity of each data byte: bit i for byte i. -/
def busParity (v : Nat) : Nat :=
  (List.range 4).foldl (fun n i => n + (List.range 8).foldl (fun p j => (p + v / 2 ^ (8 * i + j)) % 2) 0 * 2 ^ i) 0

/-- The check word and the parity that arrive are those computed from what arrives. -/
def transferOk (a : Acc) (data noise : Nat) : Bool :=
  (busWord a ^^^ noise % 256) == busWord a && (busParity data ^^^ noise / 256 % 16) == busParity data

/-- The transfer is void, whatever it carries: noise alone decides it. -/
def voided (noise : Nat) : Bool := !transferOk ⟨0, 0, 0, 0, 0⟩ 0 noise

/-- Check 2 of R327 fails: the transfer is void. An unmapped address is found first. -/
def damaged (s : State) (a : Acc) (data noise : Nat) : Bool := (gateOf s a.addr).isSome && !transferOk a data noise

/-- A void transfer is counted, and the fault controller receives it; no notice is made. -/
def State.busFault (s : State) (a : Nat) : State := (s.bump f_TG_BUS_ERR_COUNT).takeFault 8 1 ((gateOf s a).getD 0xFF) a 0

/-- An admitted write finds no target: its domain is held in reset, or it lies on the Cellar die and no session of the link is up (R18, R527). -/
def outOfReach (s : State) (a : Nat) : Bool := heldInReset s a || (decide (0x50000000 ≤ a ∧ a < 0x60000000) && !s.linkUp)

/-- A posted write to a register: its stamp arrives, the gate decides, and an admitted write has its effect (R327, R328, R336). -/
def guarded (s : State) (w : Wr) (addr : Nat) (eff : State → State) : State :=
  let s0 := s.at w.at_
  if !s0.alive then s0
  else if damaged s0 (wrAcc w addr) w.value w.noise then s0.busFault addr
  else match gateCheck s0 (wrAcc w addr) with
  | some reason => s0.notice (wrAcc w addr) reason
  | none => if outOfReach s0 addr then s0 else eff s0

/-- Memory that a write on the spine reaches: custody SRAM, the vats' shared memories and the lanes' local memories. The flash array, the archive,
the reorder store, boot ROM and the windows of the Cellar die take no write from the spine. -/
def plainMemory (a : Nat) : Bool :=
  decide (0x10000000 ≤ a ∧ a < 0x10100000) || mappedIn a 0x30000000 0x100000 0x20000 16 || mappedIn a 0x38000000 0x10000 0x4000 256

/-! ### Transfers that a block makes by itself (R321) -/

/-- Where the words of `n` bytes at an address begin: the address and how many bytes of the span each holds. -/
def spanWords (a n : Nat) : List (Nat × Nat) :=
  (List.range ((a % 4 + n + 3) / 4)).map (fun i =>
    let lo := max a (a / 4 * 4 + 4 * i)
    (lo, min (a + n) (a / 4 * 4 + 4 * i + 4) - lo))

/-- A word of class DMA is read: what the gate denies, or what cannot be corrected, reads as zero. -/
def State.dmaWord (s : State) (a n : Nat) : State × List Byte :=
  match gateCheck s ⟨0, 6, 0, 0, a⟩ with
  | some r => (s.notice ⟨0, 6, 0, 0, a⟩ r, zeros n)
  | none => ((s.checkRead a n).1, s.peek a n)

/-- `n` bytes read as class DMA. -/
def State.dmaRead (s : State) (a n : Nat) : State × List Byte :=
  (spanWords a n).foldl (fun (p : State × List Byte) w => let (t, b) := p.1.dmaWord w.1 w.2; (t, p.2 ++ b)) (s, [])

/-- Bytes written as class DMA: a word that its gate denies is not written. -/
def State.dmaWrite (s : State) (a : Nat) (bs : List Byte) : State :=
  (spanWords a bs.length).foldl (fun t w =>
    match gateCheck t ⟨1, 6, 0, 0, w.1⟩ with
    | some r => t.notice ⟨1, 6, 0, 0, w.1⟩ r
    | none => if plainMemory w.1 then t.write w.1 ((bs.drop (w.1 - a)).take w.2) else t) s

/-! ### Violation log and windows (R325, R330, R342) -/

/-- TG_VPOP: entry 0 is removed and the others move down. -/
def State.popNotice (s : State) (w : Nat) : State :=
  let depth := s.fget (f_TG_VSTAT_DEPTH w)
  if depth = 0 then s
  else
    let move (t : State) (j : Nat) : State :=
      if j + 1 < depth then
        (((t.setRegN (r_TG_VLOG_ADDR w j) (s.regN (r_TG_VLOG_ADDR w (j + 1)))).setRegN (r_TG_VLOG_INFO w j)
          (s.regN (r_TG_VLOG_INFO w (j + 1)))).setRegN (r_TG_VLOG_STAMP_LO w j) (s.regN (r_TG_VLOG_STAMP_LO w (j + 1)))).setRegN
          (r_TG_VLOG_STAMP_HI w j) (s.regN (r_TG_VLOG_STAMP_HI w (j + 1)))
      else
        (((t.setRegN (r_TG_VLOG_ADDR w j) 0).setRegN (r_TG_VLOG_INFO w j) 0).setRegN (r_TG_VLOG_STAMP_LO w j) 0).setRegN
          (r_TG_VLOG_STAMP_HI w j) 0
    ((List.range depth).foldl move s).fput (f_TG_VSTAT_DEPTH w) (depth - 1)

/-- Who may pop world `world`'s log, enable its line and, of either world, clear the counters (R342): contexts 0 and 1 in ring mode, and the supervisor
of the world. -/
def logWriter (t : State) (w : Wr) (world : Nat) : Bool :=
  if t.isSet f_CORE_STATUS_WMODE then (if world = 0 then w.cls == 1 && w.ctx == 5 else w.cls == 3) else ringCtx01 (wrAcc w 0)

/-- VIOLATION_POP (R330): a write of TG_VPOP[world] with POP set removes the oldest entry; the gate admits it from the supervisor of that
world and from contexts 0 and 1. -/
def execViolationPop (w : Wr) (world : Nat) (s : State) : Out :=
  done (guarded s w (r_TG_VPOP world) fun t =>
    if logWriter t w world then
      (if bit w.value 0 ∧ world < 2 then t.popNotice world else t)
    else t.bump f_TG_WR_REFUSED_COUNT)

/-- The general areas of R325: 0 flash, 1 custody SRAM. -/
def generalArea (granule : Nat) : Option Nat :=
  if 0x04000 ≤ granule ∧ granule < 0x04DC0 then some 0
  else if 0x10000 ≤ granule ∧ granule < 0x100B8 then some 1
  else none

/-- WINDOW_COMMIT (R325, R342): a write of TG_WIN_HI[i] from a ring context commits the staged base with it, unless the block is locked, LAST lies
below BASE or the window leaves one general area; a refused write counts. -/
def execWindowCommit (w : Wr) (i : Nat) (s : State) : Out :=
  done (guarded s w (r_TG_WIN_HI i) fun t =>
    let lo := at! t.gates.staged i 0
    let base := bitsOf lo 12 20
    let last := w.value / 4096 % 2 ^ 20
    let ok := ringCtx01 (wrAcc w 0) && !t.isSet f_CORE_STATUS_WMODE && !t.isSet f_TG_CTRL_LOCK && decide (i < 16) && decide (base ≤ last) &&
      (generalArea base).isSome && generalArea base == generalArea last
    if ok then
      ((t.setReg (r_TG_WIN_LO i) lo).fput (f_TG_WIN_HI_LAST i) last).fput (f_TG_WIN_HI_EN i) (w.value % 2)
    else t.bump f_TG_WR_REFUSED_COUNT)

end Sys2Proof.Machine
end

