-- ==== Sys2Proof/Machine/Cellar.lean ====
section
/-!
DEFINITION. Machine/Cellar.lean: the Cellar die and the black-box record (chapter 15): the write queue and its commits, incidents, the reserve,
the backup counter, what survives, and the reads.
-/
namespace Sys2Proof.Machine

/-! ### The write queue -/

/-- A slot of the record set; slots stay in rising order. -/
def putSlot : List (Nat × CelSlot) → Nat → CelSlot → List (Nat × CelSlot)
  | [], i, x => [(i, x)]
  | (k, v) :: t, i, x => if i < k then (i, x) :: (k, v) :: t else if i = k then (i, x) :: t else (k, v) :: putSlot t i x

/-- The ring's next slot: 256–16,383 (R367). -/
def ringNext (i : Nat) : Nat := if i ≥ 16383 then 256 else i + 1
/-- `n` ring slots on. -/
def ringAdd (i n : Nat) : Nat := 256 + (i - 256 + n) % 16128

/-- The bytes of an entry (R368). -/
def CelEntry.bytes (e : CelEntry) : List Byte :=
  let b := leBytes 8 e.stamp ++ leBytes 4 e.eno ++ leBytes 1 e.type ++ leBytes 1 e.flags ++ leBytes 2 e.incident ++ padTo 44 e.payload
  b ++ leBytes 4 (crc32c b)

/-- Where the next entry goes (R367, R373): the slot, and the Cellar state with its pointers and the incident moved on. -/
def placeEntry (c : CellarState) (q : CelQueued) : Nat × CellarState :=
  if celPinned q.type then (c.nextPin, { c with nextPin := (c.nextPin + 1) % 256 })
  else if !q.inc then (c.nextRing, { c with nextRing := ringNext c.nextRing })
  else match c.incident with
    | none => (c.nextRing, { c with nextRing := ringNext c.nextRing })
    | some i =>
      let n := i.stored + 1
      if n ≤ 1024 then
        (c.nextRing, { c with nextRing := ringNext c.nextRing, incident := some { i with stored := n } })
      else
        let base := match i.tailBase with | some b => b | none => c.nextRing
        let next := match i.tailBase with | some _ => c.nextRing | none => ringAdd c.nextRing 2048
        let lost := if n - 1025 ≥ 2048 then satU 32 (i.overwritten + 1) else i.overwritten
        (ringAdd base ((n - 1025) % 2048),
         { c with nextRing := next, incident := some { i with stored := n, tailBase := some base, overwritten := lost } })

/-- What a committed entry changes besides its slot: the newest life-cycle state, tally group and TAMPER entry of the summary (R378). -/
def noteCommitted (c : CellarState) (e : CelEntry) (prev : Option CelEntry) : CellarState :=
  let c1 := if e.type = 0x11 then { c with lcs := (at! e.payload 1 0).toNat } else c
  let c2 := if e.type = 0x20 then { c1 with lastTamper := e.eno } else c1
  match prev with
  | some p => if e.type = 0x31 ∧ p.type = 0x30 ∧ p.eno + 1 = e.eno then
      { c2 with tally := p.payload.take 44 ++ (padTo 44 e.payload).take 32 ++ zeros 24 } else c2
  | none => c2

/-- The entry with the greatest number held. -/
def newestEntry (c : CellarState) : Option CelEntry :=
  c.record.foldl (fun m (_, x) => if x.commit then (match m with
    | none => some x.entry
    | some e => if e.eno < x.entry.eno then some x.entry else some e) else m) none

/-- R365: an entry write is started from the reserve only while VRES is at least 3.0 V. -/
def mayStart (s : State) : Bool := s.cel.main || decide (3000 ≤ s.cel.vres)

/-- CELLAR_ENTRY_COMMIT (R369, R370, R380): the oldest queued entry is committed with both copies and its commit word; of an entry that firmware
wrote, CEL_WRESULT shows it. -/
def State.celCommit (s : State) : State :=
  match s.cel.queue with
  | [] => s
  | q :: rest =>
    if !mayStart s then s
    else
      let eno := s.fget f_CEL_NEXT_ENO_VALUE
      let (slot, c) := placeEntry s.cel q
      let inc := if q.inc then (match c.incident with | some i => i.number | none => 0) else 0
      let fl := setBitIn (setBitIn q.flags 3 (celPinned q.type)) 2 (bit q.flags 2 || !s.cel.main)
      let e : CelEntry := ⟨q.stamp, eno, q.type, fl, inc, padTo 44 q.payload⟩
      let c1 := noteCommitted { c with queue := rest, record := putSlot c.record slot ⟨e, true, true, true⟩ } e (newestEntry s.cel)
      let c2 := match c1.incident with
        | some i => if q.inc then { c1 with incident := some { i with
            firstEno := if i.stored ≤ 1 then eno else i.firstEno, firstStamp := if i.stored ≤ 1 then q.stamp else i.firstStamp,
            lastEno := eno, lastStamp := q.stamp } } else c1
        | none => c1
      let s1 : State := { s with cel := c2 }.fput f_CEL_NEXT_ENO_VALUE (eno + 1)
      if q.flags / 16 % 4 = 0 then s1.fputs [(f_CEL_WRESULT_VALID, 1), (f_CEL_WRESULT_STATUS, OK)] else s1

/-- CELLAR_ENTRY_QUEUE (R365, R369, R372, R381): CEL_WCMD.GO offers the staged entry; its stamp, type and payload come from CEL_WBUF. A refusal shows
at once, the result of an entry taken when it is committed. -/
def execCellarEntryQueue (w : Wr) (s : State) : Out :=
  done (guarded s w r_CEL_WCMD fun t =>
    let t1 := (t.fput f_CEL_WCMD_CONT (flag (bit w.value 1))).fput f_CEL_WCMD_INC (flag (bit w.value 0))
    if !bit w.value 31 then t1
    else
      let buf := (List.range 16).flatMap (fun i => w4 t1 (r_CEL_WBUF i))
      let type := (at! buf 12 0).toNat
      let (t2, st) := t1.celAccept ⟨leNat (buf.take 8), type, flag (bit w.value 1) * 2, bit w.value 0, (buf.drop 16).take 44⟩
      t2.fputs [(f_CEL_WRESULT_VALID, flag (st != OK)), (f_CEL_WRESULT_STATUS, st)])

/-! ### Incidents -/

/-- The payload of INC_SUMMARY (R374). -/
def summaryPayload (i : Incident) (recovered : Bool) : List Byte :=
  leBytes 2 i.number ++ leBytes 1 (flag recovered) ++ zeros 1 ++ leBytes 4 i.offered ++ leBytes 4 i.overwritten ++ leBytes 4 i.dropped ++
  leBytes 4 i.firstEno ++ leBytes 4 i.lastEno ++ leBytes 8 i.firstStamp ++ leBytes 8 i.lastStamp ++ zeros 4

/-- Entries of the open incident that still wait in the queue commit before its summary is written; the queue is emptied in order. -/
def State.celDrain (s : State) : Nat → State
  | 0 => s
  | n + 1 => if s.cel.queue.isEmpty then s else (s.celCommit).celDrain n

/-- An open incident closes with its summary entry, stored outside the incident (R373, R374). -/
def State.closeIncident (s : State) : State :=
  match s.cel.incident with
  | none => s
  | some _ =>
    let s1 := s.celDrain 17
    match s1.cel.incident with
    | none => s1
    | some i =>
      let s2 := { s1 with cel := { s1.cel with incident := none, queue := s1.cel.queue ++ [⟨s1.now, 0x3F, srcFlags 2, false, summaryPayload i false⟩] },
                          tmp := { s1.tmp with tripped := [], incTrips := List.replicate 14 0 } }
      s2

/-- INCIDENT_TIMEOUT (R373): 32,768 backup counts after the last entry. -/
def State.incidentTimeout (s : State) : State :=
  match s.cel.incident with
  | none => s
  | some i => if (s.backupCount + 2 ^ 48 - i.lastCount) % 2 ^ 48 < 32768 then s else s.closeIncident

def execIncidentTimeout (at_ : Nat) (s : State) : Out := done ((s.at at_).incidentTimeout)

/-- INC_CLOSE (R373, R381). -/
def execIncClose (w : Wr) (s : State) : Out :=
  done (guarded s w r_CEL_CTRL fun t =>
    let t1 := if bit w.value 1 then (countersOf r_CEL_CTRL).foldl (fun u a => u.setRegN a 0) t else t
    if bit w.value 0 then t1.closeIncident else t1)

/-- CELLAR.CLOSE_INCIDENT (R446). -/
def execCellarCloseIncident (r : Req) (s : State) : Out :=
  done (runCmd s r 0x0C04 anyLc (fun _ => []) (okEff State.closeIncident))

/-! ### Chain head and seal mirror (R375) -/

/-- The retained CEL_HEAD, or else its NVM copy (R378). -/
def headBytes (s : State) : List Byte :=
  if s.cel.headKept then (List.range 16).flatMap (fun i => w4 s (r_CEL_HEAD i)) else padTo 64 s.cel.headNvm

/-- A seal reaches the mirror: its slot is written, and the chain head is copied to non-volatile memory. -/
def State.mirrorSeal (s : State) (n : Nat) (bytes : List Byte) : State :=
  { s with cel := { s.cel with
      mirror := s.cel.mirror.filter (fun x => decide (x.1 < n % 64)) ++ [(n % 64, n, bytes)] ++ s.cel.mirror.filter (fun x => decide (n % 64 < x.1)),
      headNvm := headBytes s } }

/-- A seal copy leaves for the mirror. -/
def State.sendSeal (s : State) (n : Nat) (bytes : List Byte) : State := if s.linkUp then s.mirrorSeal n bytes else s.hold (.seal n bytes)

/-! ### Resets and supplies -/

/-- R371: the scan discards slots without a valid commit word or with no good copy, and repairs one copy from the other. -/
def scanSlots : List (Nat × CelSlot) → List (Nat × CelSlot) × Nat × Nat
  | [] => ([], 0, 0)
  | (k, x) :: t =>
    let (rest, dis, rep) := scanSlots t
    if !x.commit || !(x.copyA || x.copyB) then (rest, dis + 1, rep)
    else if x.copyA && x.copyB then ((k, x) :: rest, dis, rep)
    else ((k, { x with copyA := true, copyB := true }) :: rest, dis, rep + 1)

/-- The next slot after the highest committed entry of an area. -/
def resumeSlot (rec : List (Nat × CelSlot)) (pinned : Bool) : Nat :=
  let area := rec.filter (fun (k, _) => if pinned then decide (k < 256) else decide (256 ≤ k))
  match area.foldl (fun m (k, x) => match m with
      | none => some (k, x.entry.eno)
      | some (j, e) => if e < x.entry.eno then some (k, x.entry.eno) else some (j, e)) none with
  | none => if pinned then 0 else 256
  | some (k, _) => if pinned then (k + 1) % 256 else ringNext k

/-- The committed entries of an incident, for the summary a start of the die writes (R374). -/
def recoveredSummary (rec : List (Nat × CelSlot)) (i : Incident) : Incident :=
  let es := (rec.filter (fun (_, x) => x.entry.incident == i.number)).map (fun (_, x) => x.entry)
  let first := es.foldl (fun m e => match m with | none => some e | some f => if e.eno < f.eno then some e else some f) none
  let last := es.foldl (fun m e => match m with | none => some e | some f => if f.eno < e.eno then some e else some f) none
  match first, last with
  | some f, some l => { i with offered := es.length, overwritten := 0, dropped := 0, firstEno := f.eno, lastEno := l.eno, firstStamp := f.stamp, lastStamp := l.stamp }
  | _, _ => { i with offered := 0, overwritten := 0, dropped := 0, firstEno := 0, lastEno := 0, firstStamp := 0, lastStamp := 0 }

/-- What the Cellar die does at its start (R371, R374, R376): the queue is lost, the record is scanned, an open incident is closed with a
recovered summary; blocks staged and not committed are dropped, and a committed group rolls forward again from its first block (R476). The scan takes at
most 40 ms, how long is a free value (log entry 4). -/
def State.cellarStart (s0 : State) : State :=
  let s := s0.drawn
  let (rec, dis, rep) := scanSlots s.cel.record
  let c := { s.cel with record := rec, queue := [], scanTo := s.now + s0.draw 32 % (40 * ticksPerMs + 1), nextPin := resumeSlot rec true, nextRing := resumeSlot rec false }
  let c1 := match c.incident with
    | none => c
    | some i => { c with incident := none, queue := [⟨s.now, 0x3F, srcFlags 2, false, summaryPayload (recoveredSummary rec i) true⟩] }
  let s1 := { s with cel := c1, tmp := { s.tmp with tripped := [], incTrips := List.replicate 14 0 },
                     tag := { s.tag with items := [], rolled := 0, req := none, staged := if s.tag.group then s.tag.staged else [] } }
  let eno := match newestEntry c with | some e => e.eno + 1 | none => 0
  ((s1.bumpBy f_CEL_DISCARDED_VALUE dis).bumpBy f_CEL_REPAIRED_VALUE rep).fput f_CEL_NEXT_ENO_VALUE eno

/-- CELLAR_DIE_RESET (R371, R341, R405): the scan; the link session is lost and must be established anew; the Cellar starters are instantiated
from their seed file. -/
def execCellarDieReset (at_ : Nat) (s : State) : Out :=
  let s1 := (s.at at_).cellarStart
  let s2 := (s1.resetRegs (fun a => decide (0x50180000 ≤ a ∧ a < 0x50180200) && a != r_CEL_NEXT_ENO && a != r_CEL_STATUS && a != r_CEL_VRES && !decide (0x50180020 ≤ a ∧ a ≤ 0x50180028) &&
    !decide (0x50180040 ≤ a ∧ a < 0x50180080)))
  let fresh : Starter := ⟨0, s2.now⟩
  done ({ s2 with keys := { s2.keys with starters := setAt (setAt s2.keys.starters 22 fresh) 23 fresh } }.linkLost)

/-- The reserve keeper (R363): charges to its stop level, and again once VRES has fallen 0.10 V below it. -/
def keep (c : CellarState) (mv : Nat) : CellarState :=
  if c.charging then
    if 4900 ≤ mv then { c with vres := mv, charging := false, stopLevel := mv } else { c with vres := mv }
  else if mv + 100 ≤ c.stopLevel then { c with vres := mv, charging := true } else { c with vres := mv }

/-- VRES_THRESHOLD (R363): VRES reaches a level; CEL_VRES shows it within its range (R563). -/
def execVresThreshold (at_ mv : Nat) (s : State) : Out :=
  let s1 := s.at at_
  done ({ s1 with cel := keep s1.cel mv }.fput f_CEL_VRES_MV (clamp 0 5500 mv))

/-- A re-establishment whose new BRE has not been committed is abandoned by a clearing response (R394). -/
def State.abandonRoots (s : State) : State :=
  if !s.cel.reest || s.cel.breDone then s
  else
    let s1 : State := State.fput { s with cel := { s.cel with reest := false }, keys := { s.keys with reestReq := none, reestStep := 0 } } f_KS_STATUS_REEST_PEND 0
    match s.keys.reestReq with
    | some r => s1.reply r 0x0805 E_ABORTED []
    | none => s1

/-- BRE and its commit flag cleared (R392); KS_STATUS and its interrupt follow. -/
def State.clearBre (s : State) : State :=
  (State.fput { s.abandonRoots with cel := { s.abandonRoots.cel with bre := 0 } } f_KS_STATUS_BRE_ZERO 1).raise f_KS_IRQ_BRE

/-- VBAK and main power are absent together (R366, R376): the counter restarts and BCLOST is set; BRE, the Quarantine latch and the CEL_HEAD registers
are lost; the record stays. PWR_EN is low until VBAK and R535 bring it up again (R553). -/
def State.loseBackup (s1 : State) : State :=
  let s2 := { s1 with cel := { s1.cel with bcount := 0, countAt := s1.now, qlatch := false, headKept := false, reest := false, breDone := false, vbak := false, main := false, vres := 0 }, pwr := { s1.pwr with pwrEn := false } }
  ((s2.clearBre).fput f_CEL_STATUS_BCLOST 1).resetRegs (fun a => decide (0x50180040 ≤ a ∧ a < 0x50180080))

/-! ### Reads -/

/-- Whether an entry is held: committed, and a first entry of a group only with the second (R369, R370). -/
def heldEntry (c : CellarState) (e : CelEntry) : Bool :=
  if bit e.flags 1 then c.record.any (fun (_, x) => x.commit && x.entry.eno == e.eno + 1) else true

/-- The entries held, in ascending ENO. -/
def insEno (e : CelEntry) : List CelEntry → List CelEntry
  | [] => [e]
  | f :: t => if e.eno < f.eno then e :: f :: t else f :: insEno e t

def heldEntries (c : CellarState) : List CelEntry :=
  (c.record.filter (fun (_, x) => x.commit && heldEntry c x.entry)).foldl (fun l (_, x) => insEno x.entry l) []

/-- The 256-byte summary (R378). -/
def cellarSummary (s : State) : List Byte :=
  let c := s.cel
  let newest := match newestEntry c with | some e => e.eno | none => 0
  let topSeal := c.mirror.foldl (fun m (_, q, _) => if m < q then q else m) 0
  let t := padTo 100 c.tally
  let b := [0x44#8, 0x5A#8, 0x43#8, 0x53#8, 0x01#8] ++ leBytes 1 c.lcs ++
    leBytes 2 (flag c.qlatch + 2 * flag (c.bre == 0) + 4 * flag c.headKept + 8 * s.fget f_CEL_STATUS_BCLOST) ++ leBytes 8 Config.serial.toNat ++
    (t.drop 8).take 4 ++ zeros 4 ++ headBytes s ++ leBytes 8 topSeal ++ (t.drop 12).take 56 ++ leBytes 4 newest ++
    leBytes 2 c.incCount ++ leBytes 2 (match c.incident with | some i => i.number | none => 0) ++ leBytes 8 s.backupCount ++ leBytes 4 c.lastTamper ++ zeros 80
  b ++ leBytes 4 (crc32c b)

/-- CELLAR.READ_SUMMARY. -/
def execCellarReadSummary (r : Req) (s : State) : Out :=
  done (runCmd s r 0x0C01 anyLc (fun _ => []) (readEff cellarSummary))

/-- CELLAR.READ_ENTRIES (R446): every entry held whose number lies in the span; a first number above the newest is out of range. -/
def execCellarReadEntries (r : Req) (first count : Nat) (s : State) : Out :=
  done (runCmd s r 0x0C02 anyLc
    (fun t => [need (decide (1 ≤ count ∧ count ≤ 960)) (blame E_PARAM_RANGE 0x0101),
               need (match newestEntry t.cel with | some e => decide (first ≤ e.eno) | none => false) (blame E_PARAM_RANGE 0x0100)])
    (readEff fun t => ((heldEntries t.cel).filter (fun e => decide (first ≤ e.eno ∧ e.eno < first + count))).flatMap CelEntry.bytes))

/-- The seals of the mirror whose SEAL_SEQ lies in a range, in order. -/
def mirrorSeals (c : CellarState) (first last : Nat) : List (Nat × List Byte) :=
  (List.range (last + 1 - first)).filterMap (fun i =>
    (c.mirror.find? (fun (_, q, _) => q == first + i)).map (fun (_, q, b) => (q, b)))

/-- The mirror holds every seal of a range. -/
def sealsHeld (c : CellarState) (first last : Nat) : Bool :=
  decide (first ≤ last) && decide (last - first < 64) && (mirrorSeals c first last).length == last + 1 - first

/-- CELLAR.READ_SEALS: the range must lie within the mirror. -/
def execCellarReadSeals (r : Req) (first last : Nat) (s : State) : Out :=
  done (runCmd s r 0x0C03 anyLc
    (fun t => [need (sealsHeld t.cel first last) (blame E_PARAM_RANGE (if (mirrorSeals t.cel first first).isEmpty then 0x0100 else 0x0101))])
    (readEff fun t => (mirrorSeals t.cel first last).flatMap (·.2)))

end Sys2Proof.Machine
end

