-- ==== Sys2Proof/Machine/Keys.lean ====
section
/-!
DEFINITION. Machine/Keys.lean: the key store, the cipher blocks and Culture (chapter 16).
-/
namespace Sys2Proof.Machine

/-! ### Slots and their states -/

def State.slot (s : State) (n : Nat) : KeySlot := s.keys.slots.getD n emptySlot
def State.setSlot (s : State) (n : Nat) (k : KeySlot) : State :=
  { s with keys := { s.keys with slots := setAt s.keys.slots n k } }

/-- The current epoch of a slot (R384): BRE for slot 1, the Cellar counter for an anchored slot. -/
def State.slotEpoch (s : State) (n : Nat) : Nat :=
  if n = 1 then s.cel.bre.toNat
  else if 4 ≤ n ∧ n ≤ 11 then at! s.cel.anchored (n - 4) 0
  else (s.slot n).epoch

/-- Slot states (R385): 0 EMPTY, 1 LOADED, 2 ORPHANED. `fuel` bounds the chain of parents. -/
def State.slotStateAt (s : State) : Nat → Nat → Nat
  | 0, _ => 2
  | fuel + 1, n =>
    if n = 0 ∨ n = 2 then s.fget f_KS_STATUS_READY
    else if n = 1 then (if s.cel.bre = 0 then 0 else s.fget f_KS_STATUS_READY)
    else if n = 3 ∨ n ≥ 64 then 0
    else if !(s.slot n).loaded then 0
    else if (s.slot n).pepoch ≠ s.slotEpoch (s.slot n).parent then 2
    else if s.slotStateAt fuel (s.slot n).parent = 1 then 1 else 2

def State.slotState (s : State) (n : Nat) : Nat := s.slotStateAt 64 n

/-- The status of a use of a slot (R385). -/
def slotStatus (s : State) (n : Nat) : Nat :=
  match s.slotState n with
  | 1 => OK
  | 0 => E_KEY_EMPTY
  | _ => E_KEY_ORPHANED

def labelBre : Nat := 0x4552422D5A44
def labelWrap : Nat := 0x504152572D5A44

/-- The key a slot stands for (R383). -/
def State.slotKey (s : State) (n : Nat) : BitVec 512 :=
  if n = 0 then Config.huk
  else if n = 1 then Config.kdf Config.huk labelBre [s.cel.bre.toNat, Config.serial.toNat]
  else if n = 2 then s.keys.pairing
  else (s.slot n).key

/-- The fixed use of slots 4–19 (R383): parent, usage, world, algorithm. -/
def fixedUse (n : Nat) : Option (Nat × Nat × Nat × Nat) :=
  if 4 ≤ n ∧ n ≤ 7 then some (1, 1, 1, 1)
  else if 8 ≤ n ∧ n ≤ 11 then some (1, 1, 2, 1)
  else match n with
    | 12 => some (4, 3, 1, 1)
    | 13 => some (4, 5, 1, 3)
    | 14 => some (4, 5, 1, 4)
    | 15 => some (4, 5, 1, 3)
    | 16 => some (4, 5, 1, 4)
    | 17 => some (4, 5, 1, 2)
    | 18 => some (8, 5, 2, 3)
    | 19 => some (8, 5, 2, 4)
    | _ => none

/-- The world a slot belongs to: 0 hardware or not yet set. -/
def State.slotWorld (s : State) (n : Nat) : Nat :=
  match fixedUse n with
  | some (_, _, w, _) => w
  | none => if (s.slot n).loaded then (s.slot n).world else 0

/-- Whether LEN fits USAGE (R383, R389; log entry 20): 32 bytes for KEK, AES and GCM, 1–64 for MAC, 32 or 48 for SIGN, 64 for KEM. -/
def lenFits (usage len : Nat) : Bool :=
  match usage with
  | 1 | 2 | 3 => len == 32
  | 4 => decide (1 ≤ len ∧ len ≤ 64)
  | 5 => len == 32 || len == 48
  | 6 => len == 64
  | _ => false

/-- R387: the first case in which a WRITE, GEN or IMPORT by a world is refused; `root` for the root procedures of R393. -/
def loadRefusal (s : State) (root : Bool) (world slot parent usage len : Nat) : Nat :=
  if slot < 4 ∨ slot ≥ 64 ∨ (slot ≤ 11 ∧ !root) then E_PARAM_RANGE
  else if s.slotWorld slot ≠ 0 ∧ s.slotWorld slot ≠ world then E_WORLD
  else if (match fixedUse slot with | some (_, u, _, _) => u != usage | none => usage == 0 || usage == 7) || !lenFits usage len then E_PARAM_RANGE
  else if (match fixedUse slot with
      | some (p, _, _, _) => p != parent
      | none => !(parent == 1 || (s.slotWorld parent == world && (match fixedUse parent with
          | some (_, u, _, _) => u == 1
          | none => (s.slot parent).loaded && (s.slot parent).usage == 1)))) then E_PARAM_CONFLICT
  else slotStatus s parent

/-! ### Key registers of the cipher blocks (R391) -/

def State.cipher (s : State) (b : Nat) : CipherBlk := s.keys.ciphers.getD b idleCipher
def State.setCipher (s : State) (b : Nat) (c : CipherBlk) : State :=
  { s with keys := { s.keys with ciphers := setAt s.keys.ciphers b c } }

/-- A block whose source slot is no longer LOADED loses its key; a running operation ends with the slot's status and no output. -/
def State.dropKey (s : State) (b : Nat) : State :=
  match (s.cipher b).source with
  | none => s
  | some n =>
    if s.slotState n = 1 then s
    else
      let st := slotStatus s n
      let c := s.cipher b
      let busy := match c.busy with | some (f, _, _) => some (f, st, []) | none => none
      let s1 := s.setCipher b { c with key := 0, source := none, busy := busy, gcmIv := none, gcmCount := 0 }
      ((s1.fput (f_CB_KEYSRC_VALID b) 0).fput (f_CB_KEYSRC_SLOT b) 0).orReg (r_CB_IRQ b) 2

/-- Whether some slot that was not ORPHANED has become so. -/
def newOrphan (old new : State) : Bool := (List.range 64).any (fun n => new.slotState n == 2 && old.slotState n != 2)

/-- Evidence-only sealing is in force (R229). -/
def State.evidenceNow (s : State) : Bool := s.mode == 4 || s.slotState 12 != 1 || s.slotState 13 != 1 || s.slotState 14 != 1

/-- The ledger produces blocks: EN, an open chain, a life-cycle state that permits them, and no end of the chain under way (R36, R221). -/
def State.ledgerRuns (s : State) : Bool := s.isSet f_LDG_CTRL_EN && s.ldg.chain.isSome && !s.ldg.ended && !s.ldg.hold

/-- Evidence-only sealing that begins is noted, for the release block that follows its end (R229). -/
def State.noteEvidence (s : State) : State := { s with ldg := { s.ldg with evidence := s.ldg.evidence || (s.ledgerRuns && s.evidenceNow) } }

/-- R391: after any change of slots or epochs. -/
def State.settleKeys (new old : State) : State :=
  let s := ((List.range 5).foldl State.dropKey new).noteEvidence
  if newOrphan old new then s.raise f_KS_IRQ_ORPHAN else s

/-- A slot is emptied (R390). -/
def State.emptySlotAt (s : State) (n : Nat) : State := s.setSlot n emptySlot

/-- The tamper grade that zeroises working keys (R394, R413): slots 12–63 emptied, key registers cleared. -/
def State.zeroiseWorking (s : State) : State :=
  let s1 := { s with keys := { s.keys with slots := s.keys.slots.take 12 ++ List.replicate 52 emptySlot } }
  let s2 := (List.range 5).foldl (fun t b => if (t.cipher b).source.isSome then t.dropKey b else t) s1
  s2.settleKeys s

/-- One epoch more; none at the greatest (R384). -/
def State.raiseEpoch (s : State) (n : Nat) : State :=
  if s.slotEpoch n = 0xFFFFFFFF then s
  else if 4 ≤ n ∧ n ≤ 11 then
    { s with cel := { s.cel with anchored := setAt s.cel.anchored (n - 4) (at! s.cel.anchored (n - 4) 0 + 1) } }
  else s.setSlot n { s.slot n with epoch := (s.slot n).epoch + 1 }

/-! ### Blobs (R388) -/

/-- The blob of a slot: header, wrapped material, tag. -/
def blobOf (s : State) (n : Nat) : List Byte :=
  let k := s.slot n
  let head := [0x44#8, 0x5A#8, 0x4B#8, 0x42#8, 0x01#8] ++ leBytes 1 n ++ leBytes 1 k.parent ++ leBytes 1 k.usage ++ leBytes 1 k.alg ++
    leBytes 1 k.len ++ zeros 2 ++ leBytes 4 (s.slotEpoch n) ++ leBytes 8 k.pepoch ++ leBytes 8 Config.serial.toNat
  let wrap := Config.kdf (s.slotKey k.parent) labelWrap [k.pepoch]
  let (ct, tag) := Config.gcmSeal wrap ((head.drop 4).take 12) head (leBytes 64 k.key.toNat)
  head ++ padTo 64 ct ++ zeros 16 ++ beBytes 16 tag.toNat

/-- Words of a register array written from bytes. -/
def State.putWords (s : State) (base : Nat) (n : Nat) (bs : List Byte) : State :=
  (List.range n).foldl (fun t i => t.setRegN (base + 4 * i) (leNat ((bs.drop (4 * i)).take 4))) s

def State.getBytes (s : State) (base n : Nat) : List Byte := (List.range n).flatMap (fun i => w4 s (base + 4 * i))

def State.placeBlob (s : State) (n : Nat) : State := s.putWords (r_KS_BLOB 0) 32 (blobOf s n)

/-- The algorithm a usage and length stand for when KS_ARG.ALG gives none (R388). -/
def algOf (alg usage : Nat) : Nat := if alg ≠ 0 then alg else if usage = 4 then 6 else 1

/-- A slot is loaded with material under its parent's current epoch and epoch 0. -/
def State.loadSlot (s : State) (n world parent usage alg len : Nat) (key : BitVec 512) : State :=
  s.setSlot n ⟨true, world, usage, alg, parent, len, 0, s.slotEpoch parent, key⟩

/-- The orders of P-256 and P-384 (FIPS 186-5, named by R396). -/
def orderP256 : Nat := 0xFFFFFFFF00000000FFFFFFFFFFFFFFFFBCE6FAADA7179E84F3B9CAC2FC632551
def orderP384 : Nat := 0xFFFFFFFFFFFFFFFFFFFFFFFFFFFFFFFFFFFFFFFFFFFFFFFFC7634D81F4372DDF581A0DB248B0A77AECEC196ACCC52973

/-- Key material drawn from the key store's starter (R389): for the two curves a scalar from 1 to the order less 1, else `len` bytes. -/
def drawnKey (s : State) (alg len : Nat) : BitVec 512 :=
  match alg with
  | 2 => BitVec.ofNat 512 (1 + s.draw 512 % (orderP256 - 1))
  | 3 => BitVec.ofNat 512 (1 + s.draw 512 % (orderP384 - 1))
  | _ => BitVec.ofNat 512 (s.draw 512 % 2 ^ (8 * len))

/-! ### Starters (R405) -/

def State.starter (s : State) (n : Nat) : Starter := s.keys.starters.getD n ⟨0, 0⟩
def State.setStarter (s : State) (n : Nat) (x : Starter) : State :=
  { s with keys := { s.keys with starters := setAt s.keys.starters n x } }

/-- A generate request of a client on a private wire. -/
def State.asked (s : State) (n : Nat) : State := (s.setStarter n { s.starter n with requests := (s.starter n).requests + 1 }).drawn

/-- A generate request of the key store with prediction resistance: the starter is reseeded first. -/
def State.predicted (s : State) : State := (s.setStarter 16 ⟨1, s.now⟩).drawn

/-- A starter serves a request, or refuses past 2^20 requests since its last reseed. -/
def State.serve (s : State) (n : Nat) : State × Option Nat :=
  if 2 ^ 20 ≤ (s.starter n).requests then (s.fput f_CUL_STATUS_STALL 1, none) else (s.asked n, some (s.draw 32))

/-! ### Key store operations (R386–R390, R395) -/

def State.argSlot (s : State) : Nat := s.fget f_KS_ARG_SLOT

/-- The world of a supervisor class. -/
def clsWorld (cls : Nat) : Nat := if cls = 1 then 1 else if cls = 3 then 2 else 0

/-- KS_CMD as an operation starts: GO and OP show it, and the argument and the status it will report are held (R386). -/
def ksStarted (t : State) (op st : Nat) : State :=
  let u := (t.fput f_KS_CMD_GO 1).fput f_KS_CMD_OP op
  { u with keys := { u.keys with op := some (op, t.regN r_KS_ARG, st) } }

/-- A write of KS_CMD starts an operation: ignored while one runs (GO reads 1); the status it will report is held until KS_OPERATION_DONE. -/
def ksStart (w : Wr) (op : Nat) (s : State) (status : State → Nat) (eff : State → State) : State :=
  guarded s w r_KS_CMD fun t =>
    if t.isSet f_KS_CMD_GO then t
    else
      let t2 := ksStarted t op (status t)
      if status t = OK then (eff t2).settleKeys t2 else t2

def State.wipeStaging (s : State) (world : Nat) : State :=
  { s with keys := { s.keys with staging := setAt s.keys.staging (world - 1) (zeros 64, never) } }

/-- KEY_PORT_WRITE (R386): a word of key material enters the writer's staging buffer. -/
def execKeyPortWrite (w : Wr) (offset : Nat) (s : State) : Out :=
  done (guarded s w (0x70000000 + offset) fun t =>
    let world := clsWorld w.cls
    if offset + 4 ≤ 64 ∧ world ≠ 0 then
      let (bs, _) := at! t.keys.staging (world - 1) (zeros 64, never)
      let bs' := bs.take offset ++ leBytes 4 w.value ++ bs.drop (offset + 4)
      { t with keys := { t.keys with staging := setAt t.keys.staging (world - 1) (bs', t.now) } }
    else t)

/-- STAGING_TIMEOUT (R386): 1 ms after the last write. -/
def execStagingTimeout (at_ world : Nat) (s : State) : Out :=
  let t := s.at at_
  let (_, last) := at! t.keys.staging (world - 1) (zeros 64, never)
  done (if last + ticksPerMs ≤ t.now then t.wipeStaging world else t)

/-- KS_WRITE (R386, R387): the slot is loaded from the staging buffer, which is zeroed whether the check passes or fails. -/
def execKsWrite (w : Wr) (s : State) : Out :=
  let world := clsWorld w.cls
  let s1 := ksStart w 1 s
    (fun t => loadRefusal t false world t.argSlot (t.fget f_KS_ARG_PARENT) (t.fget f_KS_ARG_USAGE) (t.fget f_KS_ARG_LEN))
    (fun t =>
      let len := t.fget f_KS_ARG_LEN
      let (bs, _) := at! t.keys.staging (world - 1) (zeros 64, never)
      let t1 := t.loadSlot t.argSlot world (t.fget f_KS_ARG_PARENT) (t.fget f_KS_ARG_USAGE) (algOf (t.fget f_KS_ARG_ALG) (t.fget f_KS_ARG_USAGE)) len
        (BitVec.ofNat 512 (leNat (bs.take len)))
      t1.placeBlob t.argSlot)
  done (match s1.keys.op, s.keys.op with
    | some (1, _, _), none => s1.wipeStaging world
    | _, _ => s1)

/-- The block a LOAD target names (R395, R407): index 0–4 of slots 17–21. -/
def blockAccepts (b slot usage : Nat) : Bool :=
  match b with
  | 0 | 1 => usage == 2 || usage == 1 || usage == 4
  | 2 => usage == 4
  | 3 => usage == 5 || usage == 6
  | 4 => usage == 3 && slot == 12
  | _ => false

def State.claim (s : State) (b : Nat) : Nat := s.fget (f_CB_CLAIM_WORLD b)

/-- R395: why a LOAD is refused; `forming` for the load that KEYS.GENERATE makes to form public keys. -/
def loadKeyRefusal (s : State) (forming : Bool) (world b slot : Nat) : Nat :=
  if b > 4 then E_PARAM_RANGE
  else if s.claim b ≠ world ∨ s.slotWorld slot ≠ s.claim b then E_WORLD
  else if !blockAccepts b slot (s.slot slot).usage && (s.slot slot).loaded then E_PARAM_CONFLICT
  else if s.mode = 4 ∧ !(forming && b == 3 && decide (13 ≤ slot ∧ slot ≤ 19)) then E_MODE
  else if s.lc = 4 ∧ !(slot == 12 && b == 4) then E_LIFECYCLE
  else slotStatus s slot

/-- The key of a slot replaces a block's key in one cycle (R395). -/
def State.loadKey (s : State) (b slot : Nat) : State :=
  let s1 := s.setCipher b { s.cipher b with key := s.slotKey slot, source := some slot, gcmCount := 0, gcmIv := none }
  (s1.fput (f_CB_KEYSRC_VALID b) 1).fput (f_CB_KEYSRC_SLOT b) slot

/-- KS_LOAD (R395). -/
def execKsLoad (w : Wr) (s : State) : Out :=
  done (ksStart w 2 s (fun t => loadKeyRefusal t false (clsWorld w.cls) (t.fget f_KS_ARG_TARGET) t.argSlot)
    (fun t => t.loadKey (t.fget f_KS_ARG_TARGET) t.argSlot))

/-- Byte `i` of the blob that KS_BLOB holds. -/
def blobByte (t : State) (i : Nat) : Nat := (at! (t.getBytes (r_KS_BLOB 0) 32) i 0).toNat

/-- The material of the blob in KS_BLOB, once its tag verifies under the wrapping key of the parent it names. -/
def blobOpened (t : State) : Option (List Byte) :=
  let bs := t.getBytes (r_KS_BLOB 0) 32
  Config.gcmOpen (Config.kdf (t.slotKey (blobByte t 6)) labelWrap [leNat ((bs.drop 16).take 8)]) ((bs.drop 4).take 12) (bs.take 32)
    ((bs.drop 32).take 64) (BitVec.ofNat 128 (beNat (bs.drop 112)))

/-- The status of an IMPORT by a world (R387, R388). -/
def importStatus (t : State) (world : Nat) : Nat :=
  let bs := t.getBytes (r_KS_BLOB 0) 32
  let st := loadRefusal t false world (blobByte t 5) (blobByte t 6) (blobByte t 7) (blobByte t 9)
  if st ≠ OK then st
  else if leNat ((bs.drop 16).take 8) ≠ t.slotEpoch (blobByte t 6) then E_KEY_ORPHANED
  else if (blobOpened t).isNone ∨ bs.take 5 ≠ [0x44#8, 0x5A#8, 0x4B#8, 0x42#8, 0x01#8] ∨ leNat ((bs.drop 24).take 8) ≠ Config.serial.toNat then E_VERIFY
  else OK

/-- The slot a blob names is loaded with its material. -/
def State.importBlob (t : State) (world : Nat) : State :=
  let bs := t.getBytes (r_KS_BLOB 0) 32
  match blobOpened t with
  | some m => t.setSlot (blobByte t 5) ⟨true, world, blobByte t 7, blobByte t 8, blobByte t 6, blobByte t 9, leNat ((bs.drop 12).take 4),
      leNat ((bs.drop 16).take 8), BitVec.ofNat 512 (leNat (m.take 64))⟩
  | none => t

/-- KS_IMPORT (R387, R388): the blob in KS_BLOB is unwrapped into its slot. -/
def execKsImport (w : Wr) (s : State) : Out :=
  done (ksStart w 3 s (fun t => importStatus t (clsWorld w.cls)) (fun t => t.importBlob (clsWorld w.cls)))

/-- Why an EXPORT or CLEAR of a slot is refused before its state is asked (R389, R390). -/
def slotRefusal (s : State) (world slot : Nat) : Nat :=
  if slot < 4 then E_PARAM_RANGE
  else if s.slotWorld slot ≠ 0 ∧ s.slotWorld slot ≠ world then E_WORLD
  else OK

/-- KS_EPOCH (R384, R390): the slot's epoch rises by one; of an anchored slot when its Cellar counter commits. -/
def execKsEpoch (w : Wr) (s : State) : Out :=
  let world := clsWorld w.cls
  done (ksStart w 4 s
    (fun t =>
      let st := slotRefusal t world t.argSlot
      if st ≠ OK then st
      else if slotStatus t t.argSlot ≠ OK ∧ 12 ≤ t.argSlot then slotStatus t t.argSlot
      else if t.slotEpoch t.argSlot = 0xFFFFFFFF then E_PARAM_RANGE else OK)
    (fun t => if 4 ≤ t.argSlot ∧ t.argSlot ≤ 11 then t else t.raiseEpoch t.argSlot))

/-- KS_CLEAR (R390): the slot is emptied. -/
def execKsClear (w : Wr) (s : State) : Out :=
  done (ksStart w 5 s (fun t => slotRefusal t (clsWorld w.cls) t.argSlot) (fun t => t.emptySlotAt t.argSlot))

/-- KS_GEN (R387, R389, R404): a key drawn from the key store's starter. -/
def execKsGen (w : Wr) (s : State) : Out :=
  let world := clsWorld w.cls
  done (ksStart w 6 s
    (fun t => if t.isSet f_CUL_STATUS_NOSEED then E_BUSY
      else loadRefusal t false world t.argSlot (t.fget f_KS_ARG_PARENT) (t.fget f_KS_ARG_USAGE) (t.fget f_KS_ARG_LEN))
    (fun t =>
      let len := t.fget f_KS_ARG_LEN
      let alg := algOf (t.fget f_KS_ARG_ALG) (t.fget f_KS_ARG_USAGE)
      let t1 := t.predicted.loadSlot t.argSlot world (t.fget f_KS_ARG_PARENT) (t.fget f_KS_ARG_USAGE) alg len (drawnKey t alg len)
      t1.placeBlob t.argSlot))

/-- KS_EXPORT (R388, R389): a LOADED slot's blob in KS_BLOB. -/
def execKsExport (w : Wr) (s : State) : Out :=
  done (ksStart w 7 s
    (fun t => let st := slotRefusal t (clsWorld w.cls) t.argSlot
      if st ≠ OK then st else slotStatus t t.argSlot)
    (fun t => t.placeBlob t.argSlot))

/-! ### Cipher blocks (R396, R397) -/

/-- How many functions a block's list holds (R396; log entry 21). -/
def functionCount (b : Nat) : Nat := match b with | 0 | 1 => 6 | 2 => 6 | 3 => 11 | _ => 2

/-- Every intermediate state and the key register of a block are cleared (R397). A claim lapses 10 ms after an operation of its own: none has ended yet. -/
def State.clearBlock (s : State) (b : Nat) : State :=
  ((s.setCipher b { idleCipher with lastEnd := never }).fput (f_CB_KEYSRC_VALID b) 0).fput (f_CB_KEYSRC_SLOT b) 0

/-- CIPHER_CLAIM (R397): a free SHA-2 or public-key block is claimed by the writer's world; the claiming world frees it by writing 0. -/
def execCipherClaim (w : Wr) (blk : Nat) (s : State) : Out :=
  done (guarded s w (r_CB_CLAIM blk) fun t =>
    let world := clsWorld w.cls
    let v := w.value % 4
    if blk ≠ 2 ∧ blk ≠ 3 then t
    else if t.claim blk = 0 ∧ v = world ∧ v ≠ 0 then (t.clearBlock blk).fput (f_CB_CLAIM_WORLD blk) v
    else if t.claim blk = world ∧ v = 0 then (t.clearBlock blk).fput (f_CB_CLAIM_WORLD blk) 0
    else t)

/-- CIPHER_CLAIM_LAPSE (R397): 10 ms after the last operation ended. -/
def execCipherClaimLapse (at_ blk : Nat) (s : State) : Out :=
  let t := s.at at_
  done (if (blk = 2 ∨ blk = 3) ∧ (t.cipher blk).busy = none ∧ (t.cipher blk).lastEnd + 10 * ticksPerMs ≤ t.now then
      (t.clearBlock blk).fput (f_CB_CLAIM_WORLD blk) 0
    else t)

/-- Whether a function needs the key register. -/
def needsKey (b func : Nat) : Bool :=
  match b with
  | 2 => decide (4 ≤ func)
  | 3 => !(func == 2 || func == 4 || func == 8 || func == 6 || func == 9 || func == 10)
  | _ => true

/-- The status an operation ends with (R396). -/
def cipherStatus (s : State) (b func : Nat) : Nat :=
  let c := s.cipher b
  if func = 0 ∨ func > functionCount b then E_PARAM_RANGE
  else if needsKey b func && c.source.isNone then E_KEY_EMPTY
  else if b ≤ 1 ∧ s.regN (r_CB_LEN b) > 65536 then E_PARAM_RANGE
  else if b = 4 ∧ (s.regN (r_CB_LEN b) > 65536 ∨ s.regN (r_CB_AAD b) > 131072) then E_PARAM_RANGE
  else if b ≤ 1 ∧ func = 4 ∧ c.gcmCount ≥ 2 ^ 32 then E_PARAM_CONFLICT
  else if b == 4 && func == 1 && (match c.gcmIv with
      | some (chain, seq) => chain == s.regN (r_CB_IV b 0) && decide (s.get64 (r_CB_IV b 1) (r_CB_IV b 2) ≤ seq)
      | none => false) then E_PARAM_CONFLICT
  else OK

/-- CIPHER_OPERATION (R396, R408): GO starts the function; ignored while BUSY. -/
def execCipherOperation (w : Wr) (blk : Nat) (s : State) : Out :=
  done (guarded s w (r_CB_CMD blk) fun t =>
    if blk > 4 ∨ t.isSet (f_CB_CMD_BUSY blk) then t
    else
      let func := w.value % 256
      let t0 := t.fput (f_CB_CMD_FUNC blk) func
      if !bit w.value 31 then t0
      else
        let st := cipherStatus t0 blk func
        let (t1, text) := if st = OK then t0.dmaRead (t0.regN (r_CB_SRC blk)) (t0.regN (r_CB_AAD blk) + t0.regN (r_CB_LEN blk)) else (t0, [])
        let c := t1.cipher blk
        let aad := text.take (t1.regN (r_CB_AAD blk))
        let input := text.drop (t1.regN (r_CB_AAD blk))
        let iv := t1.getBytes (r_CB_IV blk 0) 16
        let verdict := if st = OK ∧ ((blk = 3 ∧ (func = 2 ∨ func = 4 ∨ func = 8)) ∨ (blk = 4 ∧ func = 2)) then
            (if Config.cipherAccepts blk func c.key iv aad input then OK else E_VERIFY) else st
        let out := if verdict = OK then Config.cipher blk func c.key iv aad input t1.fresh else []
        let c1 := { c with busy := some (func, verdict, out),
                           gcmCount := if blk ≤ 1 ∧ func = 4 ∧ st = OK then c.gcmCount + 1 else c.gcmCount,
                           gcmIv := if blk = 4 ∧ func = 1 ∧ st = OK then some (t1.regN (r_CB_IV blk 0), t1.get64 (r_CB_IV blk 1) (r_CB_IV blk 2)) else c.gcmIv }
        (t1.drawn.setCipher blk c1).fput (f_CB_CMD_BUSY blk) 1)

/-- CIPHER_OPERATION_DONE (R396): the output is written and the result held. -/
def execCipherOperationDone (at_ blk : Nat) (s : State) : Out :=
  let t := s.at at_
  done (match (t.cipher blk).busy with
    | none => t
    | some (_, st, out) =>
      let t1 := t.setCipher blk { t.cipher blk with busy := none, lastEnd := t.now }
      let t2 := t1.dmaWrite (t1.regN (r_CB_DST blk)) out
      ((t2.fput (f_CB_CMD_BUSY blk) 0).setRegN (r_CB_RESULT blk) (2 ^ 31 + st)).orReg (r_CB_IRQ blk) 1)

/-! ### Culture (R403–R405) -/

def State.source (s : State) (i : Nat) : Source := s.keys.sources.getD i ⟨[], false⟩

/-- The start-up test of a source: 4,096 samples at its raw rate (R403). -/
def startupTicks (src : Nat) : Nat := match src with | 0 => 800000 | 1 => 1000000 | _ => 1600000

/-- A source contributes: it is not excluded, and has passed the start-up test that follows its latest failure (log entry 83). -/
def sourceHealthy (s : State) (src : Nat) : Bool :=
  !(s.source src).excluded && (s.bitOf f_CUL_STATUS_HEALTHY src ||
    (match (s.source src).fails with | f :: _ => decide (f + startupTicks src ≤ s.now) | [] => false))

/-- CUL_STATUS as it reads. -/
def culStatusWord (s : State) : Nat :=
  s.regN r_CUL_STATUS / 8 * 8 + flag (sourceHealthy s 0) + 2 * flag (sourceHealthy s 1) + 4 * flag (sourceHealthy s 2)

/-- Sources excluded until reset of the Culture domain. -/
def excludedCount (s : State) : Nat := (s.keys.sources.filter (fun x => x.excluded)).length

/-- R404: with two or more sources excluded the output stops. -/
def State.checkSeed (s : State) : State :=
  if 2 ≤ excludedCount s then (s.fput f_CUL_STATUS_NOSEED 1).orReg r_CUL_IRQ 4 else s

/-- A source with three failures within 60 s is excluded, and the fault controller receives it. -/
def State.excludeSource (s : State) (src count : Nat) : State :=
  (((s.putBit f_CUL_STATUS_EXCLUDED src true).takeFault 0x0A 1 src count 0).orReg r_CUL_IRQ 2).checkSeed

/-- ENTROPY_SOURCE_FAIL (R403, R404): the failure is counted, the source leaves the conditioner and reruns its start-up test; three within 60 s
exclude it, and two excluded sources stop the output. -/
def State.sourceFail (s : State) (src : Nat) (apt : Bool) : State :=
  let recent := s.now :: (s.source src).fails.filter (fun f => decide (s.now < f + 60 * ticksPerS))
  let out := decide (3 ≤ recent.length)
  let s1 : State := { s with keys := { s.keys with sources := setAt s.keys.sources src ⟨recent, out⟩ } }
  let s2 := ((s1.bump (if apt then f_CUL_SRC_STAT_APT src else f_CUL_SRC_STAT_RCT src)).putBit f_CUL_STATUS_HEALTHY src false).orReg r_CUL_IRQ 1
  if out then s2.excludeSource src recent.length else s2

def execEntropySourceFail (at_ src : Nat) (apt : Bool) (s : State) : Out :=
  done (if 3 ≤ src ∨ (s.source src).excluded then s.at at_ else (s.at at_).sourceFail src apt)

/-- A starter is due a reseed: after 1,024 requests or 1 s; one of the Cellar die's, over the link, after 1,024 requests or 60 s. -/
def reseedDue (s : State) (n : Nat) : Bool :=
  decide (1024 ≤ (s.starter n).requests ∨ (s.starter n).reseeded + (if n < 22 then 1 else 60) * ticksPerS ≤ s.now) && s.alive && (decide (n < 22) || s.linkUp)

/-- STARTER_RESEED (R405): with seed available. STALL clears once no starter refuses. -/
def execStarterReseed (at_ n : Nat) (s : State) : Out :=
  let t := s.at at_
  done (if n < 24 ∧ !t.isSet f_CUL_STATUS_NOSEED ∧ reseedDue t n then
    let t1 := (t.setStarter n ⟨0, t.now⟩).drawn
    if t1.keys.starters.any (fun x => decide (2 ^ 20 ≤ x.requests)) then t1 else t1.fput f_CUL_STATUS_STALL 0
  else t)

/-- RNG_READ (R405, R409): a read of CUL_RNG[n] or CUL_VRNG[n] that its gate admits draws 32 bits from its starter; a refusing starter gives 0. -/
def execRngRead (at_ cls eng : Nat) (reg : RngReg) (noise : Nat) (s : State) : Out :=
  let t := s.at at_
  let a : Acc := ⟨0, cls, eng, 0, if reg.vat then r_CUL_VRNG reg.n else r_CUL_RNG reg.n⟩
  done (if damaged t a 0 noise then { t.busFault a.addr with readback := 0 }
    else match gateCheck t a with
    | some reason => { t.notice a reason with readback := 0 }
    | none => match t.serve (if reg.vat then reg.n else 20 + reg.n) with
      | (t1, some v) => { t1 with readback := v }
      | (t1, none) => { t1 with readback := 0 })

/-! ### Commands of class 0x08 (R393, R401, R406) -/

/-- The requester's world owns the slot (R406). -/
def slotWorldCheck (s : State) (r : Req) (slot : Nat) : Option Nat :=
  need (s.slotWorld slot == 0 || s.slotWorld slot == worldOf r) E_WORLD

/-- KEYS.CHALLENGE (R401, R405): from the starter of the requester's world; while it refuses, the command does (log entry 83). -/
def execKeysChallenge (r : Req) (s : State) : Out :=
  done (runCmd s r 0x0801 anyLc (fun _ => [])
    (fun t => match t.serve (19 + worldOf r) with
      | (t1, some _) => (t1.setChallenge r (some ⟨t.draw 128, t.now⟩), some (OK, leBytes 16 (t.draw 128)))
      | (t1, none) => (t1, some (E_BUSY, []))))

/-- The length of a slot's key material by its algorithm. -/
def algLen (alg : Nat) : Nat := if alg = 3 then 48 else if alg = 5 then 64 else 32

def State.publicOf (s : State) (n : Nat) : List Byte :=
  if n = 12 then [] else Config.publicKey (s.slot n).alg (s.slotKey n)

/-- KEYS.GENERATE (R387, R389, R406): a key of slots 12–19. -/
def execKeysGenerate (r : Req) (slot : Nat) (s : State) : Out :=
  let use := match fixedUse slot with | some u => u | none => (0, 0, 0, 0)
  done (runCmd s r 0x0802 (fun l => decide (1 ≤ l ∧ l ≤ 3))
    (fun t => [need (decide (12 ≤ slot ∧ slot ≤ 19)) (blame E_PARAM_RANGE 0x0100), slotWorldCheck t r slot, need (!t.isSet f_CUL_STATUS_NOSEED) E_BUSY,
               (let st := loadRefusal t false (worldOf r) slot use.1 use.2.1 (algLen use.2.2.2); if st = OK then none else some st)])
    (fun t =>
      let t1 := t.predicted.loadSlot slot (worldOf r) use.1 use.2.1 use.2.2.2 (algLen use.2.2.2) (drawnKey t use.2.2.2 (algLen use.2.2.2))
      let t2 := (t1.placeBlob slot).settleKeys t
      (t2, some (OK, t2.publicOf slot ++ blobOf t2 slot))))

/-- KEYS.READ_PUBLIC (R389, R406). -/
def execKeysReadPublic (r : Req) (slot : Nat) (s : State) : Out :=
  done (runCmd s r 0x0803 anyLc
    (fun t => [need (decide (13 ≤ slot ∧ slot ≤ 19)) (blame E_PARAM_RANGE 0x0100), (let st := slotStatus t slot; if st = OK then none else some st)])
    (readEff fun t => t.publicOf slot))

/-- The slots a certificate role names (R398): ECDSA, then ML-DSA-65. -/
def roleSlots (role : Nat) : Option (Nat × Option Nat) :=
  match role with
  | 1 => some (13, some 14)
  | 2 => some (15, some 16)
  | 3 => some (18, some 19)
  | 4 => some (17, none)
  | _ => none

/-- Bytes 0–4 of a certificate: "DZKC" and VER 1. -/
def certHead : Nat := 0x01434B5A44
def certContext : Nat := 2
def certMessage (c : Cert) : List Nat := [c.head, c.role, c.serial, c.chainId, c.validFrom, c.hashEc, c.hashPq, c.issuer]

/-- A key certificate matches the slots it names and verifies under the owner root in force. -/
def certOk (s : State) (c : Cert) : Bool :=
  c.head == certHead && c.serial == Config.serial.toNat &&
  (match s.ownerRoot with
   | some h => c.issuer == h.toNat && Config.sigValid h certContext (certMessage c) c.sig.ec c.sig.pq
   | none => false) &&
  (match roleSlots c.role with
   | some (e, q) => slotStatus s e == OK && c.hashEc == (Config.sha384 (s.publicOf e)).toNat &&
      (match q with
       | some p => slotStatus s p == OK && c.hashPq == (Config.sha384 (s.publicOf p)).toNat
       | none => c.hashPq == 0)
   | none => false)

/-- KEYS.INSTALL_CERT (R398). -/
def execKeysInstallCert (r : Req) (cert : Cert) (s : State) : Out :=
  done (runCmd s r 0x0804 anyLc
    (fun t => [need ((roleSlots cert.role).isSome) (blame E_PARAM_RANGE 0x0005),
               need (match roleSlots cert.role with | some (e, _) => t.slotWorld e == worldOf r | none => false) E_WORLD,
               need (certOk t cert) E_VERIFY])
    (okEff fun t => { t with keys := { t.keys with certs := setAt t.keys.certs (cert.role - 1) (some cert) } }))

/-- A BRE is drawn; never 0 (R392). -/
def drawnBre (s : State) : BitVec 64 := if s.draw 64 = 0 then 1 else BitVec.ofNat 64 (s.draw 64)

/-- A new BRE is committed (R393 step 2). -/
def State.newBre (s : State) : State :=
  (({ s with cel := { s.cel with bre := drawnBre s, breDone := true } }.predicted).fput f_KS_STATUS_BRE_ZERO 0).raise f_KS_IRQ_BRE

/-- A root slot generated under slot 1 (R393), its blob placed in KS_BLOB; none while BRE is cleared (R392). -/
def State.genRoot (s : State) (n world : Nat) : State :=
  if s.cel.bre = 0 then s else (s.predicted.loadSlot n world 1 1 1 32 (drawnKey s 1 32)).placeBlob n

/-- Step 5 of R393: REEST_PEND is cleared, and the reply follows; a BRE cleared meanwhile orphans what was made (R394). -/
def State.endRoots (s : State) : State :=
  let s1 : State := State.fput { s with
    cel := { s.cel with reest := false, breDone := false }, keys := { s.keys with reestReq := none, reestStep := 0 } } f_KS_STATUS_REEST_PEND 0
  match s.keys.reestReq with
  | some r => if s.cel.bre = 0 then s1.reply r 0x0805 E_KEY_ORPHANED [] else s1.reply r 0x0805 OK []
  | none => s1

/-- The next step of R393 once `reestStep` of them are done: 2 the BRE, unless it is committed; 3 the epochs; 4 the roots, one blob after the other; 5 the
end. -/
def State.rootStep (s : State) : State :=
  let s1 := match s.keys.reestStep with
    | 1 => if s.cel.breDone then s else s.newBre
    | 2 => (List.range 8).foldl (fun t i => t.raiseEpoch (4 + i)) s
    | 3 => s.genRoot 4 1
    | 4 => s.genRoot 8 2
    | _ => s
  let s2 := s1.settleKeys s
  if 5 ≤ s.keys.reestStep then s2.endRoots else { s2 with keys := { s2.keys with reestStep := s.keys.reestStep + 1 } }

/-- Boot ROM completes steps 2–5. -/
def State.reestablish (s : State) : State :=
  ({ s with keys := { s.keys with reestStep := 1 } } : State).rootStep.rootStep.rootStep.rootStep.rootStep

/-- KEYS.REESTABLISH (R393, R400, R404): an owner token, in Quarantine or Depot. Step 1: REEST_PEND is set; the key store does the rest, a step to a
KS_OPERATION_DONE. -/
def execKeysReestablish (r : Req) (tok : Token) (keys : PubKeys) (s : State) : Out :=
  done (runCmd s r 0x0805 (fun l => decide (1 ≤ l ∧ l ≤ 4))
    (fun t => [need (t.mode == 4 || t.mode == 2) E_MODE, need (!t.cel.reest) E_BUSY, need (!t.isSet f_CUL_STATUS_NOSEED) E_BUSY])
    (fun t =>
      let (t1, ok) := t.checkOwnerToken r 0x0805 (paramDigest []) tok keys
      if ok then
        (State.fput { t1 with cel := { t1.cel with reest := true, breDone := false }, keys := { t1.keys with reestReq := some r, reestStep := 1 } }
          f_KS_STATUS_REEST_PEND 1, none)
      else (t1, some (E_SESSION, []))))

/-- KEYS.RAISE_EPOCH (R384, R390, R406): of an anchored slot the reply follows the commit of its Cellar counter. -/
def execKeysRaiseEpoch (r : Req) (slot : Nat) (s : State) : Out :=
  done (runCmd s r 0x0806 anyLc
    (fun t => [need (t.mode == 2 || t.mode == 3 || t.mode == 4) E_MODE, need (decide (4 ≤ slot ∧ slot < 64)) (blame E_PARAM_RANGE 0x0100), slotWorldCheck t r slot,
               (if 12 ≤ slot ∧ slotStatus t slot ≠ OK then some (slotStatus t slot) else none), need (t.slotEpoch slot != 0xFFFFFFFF) (blame E_PARAM_RANGE 0x0100)])
    (fun t => if slot ≤ 11 then ({ t with keys := { t.keys with raising := t.keys.raising ++ [(slot, r)] } }, none)
      else ((t.raiseEpoch slot).settleKeys t, some (OK, []))))

/-- What the key store does next: the operation that KS_CMD started ends, with GO clear, its result held and DONE raised, and an anchored epoch rises; else
an anchored epoch of a command is committed; else a re-establishment goes a step on. -/
def State.keyStep (t : State) : State :=
  match t.keys.op, t.keys.raising with
  | some (op, arg, st), _ =>
    let slot := arg % 64
    let t1 := if op = 4 ∧ st = OK ∧ 4 ≤ slot ∧ slot ≤ 11 then (t.raiseEpoch slot).settleKeys t else t
    let t2 := { t1 with keys := { t1.keys with op := none } }
    (((t2.fput f_KS_CMD_GO 0).fput f_KS_RESULT_VALID 1).fput f_KS_RESULT_STATUS st).raise f_KS_IRQ_DONE
  | none, (slot, r) :: rest => (({ t with keys := { t.keys with raising := rest } }.raiseEpoch slot).settleKeys t).reply r 0x0806 OK []
  | none, [] => if t.keys.reestStep = 0 then t else t.rootStep

/-- KS_OPERATION_DONE (R386, R390, R393, R407). -/
def execKsOperationDone (at_ : Nat) (s : State) : Out := done (s.at at_).keyStep

/-- KS_SLOT[n] as it reads (R407). -/
def slotWord (s : State) (n : Nat) : Nat :=
  let k := s.slot n
  let st := s.slotState n
  let (w, u, a, p) := if n = 0 then (0, 1, 1, 0) else if n = 1 then (0, 1, 1, 0) else if n = 2 then (0, 7, 1, 0)
    else if st = 0 then (s.slotWorld n, 0, 0, 0) else (k.world, k.usage, k.alg, k.parent)
  st * 2 ^ 30 + w * 2 ^ 28 + u * 2 ^ 21 + a * 2 ^ 18 + p * 2 ^ 8

/-- KS_EPOCH[n] as it reads: for slot 1 the low word of a SHA-256 of BRE. -/
def epochWord (s : State) (n : Nat) : Nat :=
  if n = 1 then (Config.sha256 (leBytes 8 s.cel.bre.toNat)).toNat % 2 ^ 32 else s.slotEpoch n % 2 ^ 32

/-- KEYS.READ_STATE. -/
def execKeysReadState (r : Req) (s : State) : Out :=
  done (runCmd s r 0x0807 anyLc (fun _ => [])
    (readEff fun t => (List.range 64).flatMap (fun n => leBytes 4 (slotWord t n)) ++ (List.range 64).flatMap (fun n => leBytes 4 (epochWord t n))))

end Sys2Proof.Machine
end

