-- ==== Sys2Proof/Machine/Modes.lean ====
section
/-!
DEFINITION. Machine/Modes.lean: what a change of mode does (R44–R47): entering Quarantine, leaving a mode, entering another.
-/
namespace Sys2Proof.Machine

/-- A pending MODE.SET, or the mode change of a release, ends unmade and is answered E_MODE (R46). -/
def State.dropPending (s : State) : State :=
  let s1 := (s.fput f_MODE_STATUS_PVALID 0).fput f_MODE_STATUS_PENDING 0
  let s2 : State := { s1 with life := { s1.life with modeReq := none, relReq := none } }
  match s1.life.modeReq, s1.life.relReq with
  | some r, _ => (s2.raise f_MODE_IRQ_REFUSED).reply r 0x0201 E_MODE []
  | none, some r => s2.reply r 0x0202 E_MODE []
  | none, none => s2

/-- A self-test run in progress ends with the test in progress (R545). -/
def State.stopTests (s : State) (why : Nat) : State :=
  if s.bist.left.isEmpty then s else { s with bist := { s.bist with stop := max s.bist.stop why } }

/-- The pilot request is withdrawn (R46, R133). -/
def State.withdrawPilot (s : State) : State :=
  if s.fget f_SPG_STATUS_PSTATE = 0 then s
  else (s.fputs [(f_SPG_STATUS_PSTATE, 0), (f_SPG_PILOT_REQ_STATE, 0)]).raise f_SPG_IRQ_PILOT

/-- Sessions opened through the service port close. -/
def State.closeService (s : State) : State :=
  (List.range 8).foldl (fun t i => if (t.session i).phase ≠ 0 ∧ (t.session i).path = 4 then t.closeSession i true else t) s

/-- What leaving the mode in force brings with it; leaving Depot or Stationary withdraws the pilot request and closes service-port sessions
(R46). -/
def State.leaveMode (s : State) : State :=
  if s.mode = 2 ∨ s.mode = 3 then s.withdrawPilot.closeService else s

/-- A calibration average in progress is discarded outside Provisioning and Depot (R168). -/
def State.dropCalibration (s : State) : State :=
  match s.mer.cal with
  | some c => if s.mode = 0 ∨ s.mode = 2 then s else State.reply { s with mer := { s.mer with cal := none } } c.req 0x0502 E_MODE []
  | none => s

/-- MER_ACC as it reads (R173, R174): the base and what has been counted since. -/
def accValue (s : State) (j : Nat) : Nat := satU 64 (s.get64 (r_MER_BASE_LO j) (r_MER_BASE_HI j) + at! s.mer.count j 0)

/-- A SHA-256 digest as bytes, most significant first. -/
def digestBytes (bs : List Byte) : List Byte := beBytes 32 (Config.sha256 bs).toNat

/-- The bytes of a table bank. -/
def tableBytes (t : Sparse Byte) : List Byte := (List.range 11296).map (fun i => Sparse.get (fun _ => 0) t i)

/-- What the ledger latches at a period boundary (`period`) or at a Quarantine entry. -/
def snapOf (s : State) (period : Bool) (flags : Nat) : Snap :=
  { stamp := s.now, period := period, energy := (List.range 6).map (accValue s), unmet := (s.fget f_MER_UNMET_TIME_COUNT, s.fget f_MER_UNMET_CHARGE_COUNT),
    status := s.regN r_MER_STATUS, class_ := s.fget f_MER_STATUS_RGCLASS, pub := (s.fget f_LIM_PUB_CHG, s.fget f_LIM_PUB_DIS), flags := flags,
    stale := s.isSet f_LIM_STATUS_STALE,
    info := leBytes 2 (s.fget f_LIM_INFO0_SOC) ++ leBytes 2 (s.fget f_LIM_INFO0_SOH) ++ leBytes 2 (s.fget f_LIM_INFO1_T_MAX) ++ leBytes 1 (s.fget f_LIM_INFO1_WATCH) ++
      leBytes 1 (s.fget f_LIM_INFO1_QUAR),
    late := s.ldg.late, missed := s.ldg.missed,
    table := if s.mer.loaded then digestBytes (tableBytes (at! s.mer.tables (s.fget f_MER_STATUS_TBANK) [])) else zeros 32 }

def State.pushSnap (s : State) (x : Snap) : State := { s with ldg := { s.ldg with snaps := (x :: s.ldg.snaps).take 256 } }

/-- The ledger's account of a change of mode: a block ends there (R207); evidence-only sealing begins with Quarantine (R229). -/
def State.noteMode (s : State) (m : Nat) : State :=
  if s.mode = m then s
  else
    let s1 : State := { s with ldg := { s.ldg with modes := (s.now, m) :: s.ldg.modes, evidence := s.ldg.evidence || m == 4 } }
    if m = 4 then s1.pushSnap (snapOf s1 false 0) else s1

/-- The mode changes, with its cause and stamp (R42, MODE_CAUSE). During the Dormant entry phase PVALID and PENDING stay (R534). -/
def State.setMode (s : State) (m cause world detail : Nat) : State :=
  let s1 := (if s.mode ≠ m then s.leaveMode.stopTests 1 else s).noteMode m
  let s2 := if s1.pwr.phase = 0 then ((s1.fput f_MODE_STATUS_MODE m).fput f_MODE_STATUS_PVALID 0).fput f_MODE_STATUS_PENDING 0 else s1.fput f_MODE_STATUS_MODE m
  let s3 := s2.put64 r_MODE_ENTRY_STAMP_LO r_MODE_ENTRY_STAMP_HI s2.now
  let s4 := ((s3.fput f_MODE_CAUSE_CAUSE cause).fput f_MODE_CAUSE_WORLD world).fput f_MODE_CAUSE_DETAIL detail
  (s4.raise f_MODE_IRQ_CHANGED).dropCalibration

/-- Quarantine takes QCEIL from the published limits, and every node is sent an empty bleed mask (R47, R155, R200). -/
def State.quarantineRules (s : State) : State :=
  let s1 : State := { s with lim := { s.lim with qceil := some (s.fget f_LIM_PUB_CHG, s.fget f_LIM_PUB_DIS) } }
  let s2 := (List.range 8).foldl (fun t r => (List.range 16).foldl (fun u n => u.setReg (r_SHT_BLEED r n) 0) t) s1
  { s2.fput f_LIM_STATUS_QCEIL 1 with
    sht := { s2.sht with bleedWait := (List.range 128).map (fun i => (i / 16, i % 16)) } }

/-- Quarantine is entered at once (R46, R47); in Quarantine already, only what is pending is discarded. -/
def State.enterQuarantine (s : State) (cause detail : Nat) : State :=
  let s1 := if s.isSet f_MODE_STATUS_PVALID ∧ s.pwr.phase = 0 then s.dropPending else s
  if s1.mode = 4 then s1 else ((s1.quarantineRules).setMode 4 cause 0 detail).raise f_MODE_IRQ_QENTRY

/-- The Quarantine latch on the Cellar die, with its copy (R43). -/
def State.setLatch (s : State) (b : Bool) : State :=
  { s with cel := { s.cel with qlatch := b } }.fput f_MODE_STATUS_QLATCH (flag b)

/-- The home mode of a life-cycle state (R36 table). -/
def homeMode (lc : Nat) : Nat := match lc with | 0 => 0 | 1 => 0 | 2 => 1 | 3 => 3 | _ => 2

/-! ### A life-cycle transition under way (R39–R41) -/

/-- The payload of the LC entries (R372). -/
def lcPayload (x : Transition) : List Byte := leBytes 1 x.src ++ leBytes 1 x.dst ++ leBytes 2 x.op ++ leBytes 4 x.session

/-- The special ends that a life-cycle transition asks for (R207, R230). -/
def lifeSpecial (n : Nat) : Bool := n == 3 || n == 4 || n == 5 || n == 8

/-- A clearing tamper response stops a transition that has not begun step 4 (R41): an abandon entry; the chain goes on. -/
def State.abandonTransition (s : State) (index : Nat) : State :=
  match s.life.transition with
  | none => s
  | some x =>
    if x.step = 4 then s
    else
      let g := s.ldg
      let s1 : State := { s with
        life := { s.life with transition := none },
        ldg := { g with hold := g.hold && s.asm.ceded == 1, ends := g.ends.filter (fun p => !lifeSpecial p.2), hoBody := [],
                        closed := g.closed.map (fun c => { c with specials := c.specials.filter (fun n => !lifeSpecial n) }) } }
      let s2 := s1.celWrite 0x12 false (lcPayload x ++ leBytes 2 index)
      match x.req with
      | some r => s2.reply r x.op E_MODE []
      | none => s2

end Sys2Proof.Machine
end

