-- ==== Sys2Proof/Machine/Tamper.lean ====
section
/-!
DEFINITION. Machine/Tamper.lean: the tamper monitors and the Rind (chapter 17).
-/
namespace Sys2Proof.Machine

/-- The source of a monitor index (R410); 14 for none. -/
def monitorSource (i : Nat) : Nat :=
  if i ≤ 63 then 0
  else if i ≤ 72 then i - 63
  else if i ≤ 88 then 10
  else if i ≤ 91 then i - 78
  else 14

/-- The lowest monitor index of a source (R415). -/
def lowestIndex (src : Nat) : Nat := if src = 0 then 0 else if src ≤ 9 then src + 63 else if src = 10 then 73 else src + 78

/-- A source is disabled when both fuses of its pair are blown (R418). -/
def State.srcDisabled (s : State) (src : Nat) : Bool := match at! s.tmp.fuses src (false, false) with | (a, b) => a && b

/-- The grade of a source; a disabled source reads 0 (R418). -/
def State.gradeOf (s : State) (src : Nat) : Nat := if s.srcDisabled src then 0 else bitsOf (s.reg r_TMP_GRADE) (2 * src) 2

/-- The grade that a trip of a source applies: in Blank, grades 2 and 3 act as grade 1 (R414). -/
def State.appliedGrade (s : State) (src : Nat) : Nat := if s.lc = 0 then min (s.gradeOf src) 1 else s.gradeOf src

/-- The payload of a TAMPER entry (R419). -/
def tamperPayload (s : State) (index src grade kind side count measure outcome : Nat) : List Byte :=
  leBytes 2 index ++ leBytes 1 src ++ leBytes 1 grade ++ leBytes 1 kind ++ leBytes 1 side ++ leBytes 2 (satU 16 count) ++ leBytes 8 measure ++
  leBytes 1 (if s.cel.main then s.mode else 5) ++ leBytes 1 (if s.cel.main then s.lc else fusedLc s.life) ++ zeros 2 ++ leBytes 4 outcome ++ zeros 20

/-- A TAMPER entry, and the event of a trip or of a fuse disable (R413, R418, R514); INC is set for trips, monitor faults and clears (log entry
81). -/
def State.tamperEntry (s : State) (inc event : Bool) (payload : List Byte) : State :=
  let s1 := s.celWrite 0x20 inc payload
  if event then s1.emit (s1.packLocus 0) 23 1 (payload.take 24) else s1

/-- Grade 2: slots 12–63 emptied, key registers cleared, every session closed, a self-test run stopped (R394, R413, R435, R545). -/
def State.gradeTwo (s : State) : State := (s.zeroiseWorking.closeAll).stopTests 1

/-- Grade 3: BRE cleared, the latch set, Quarantine entered (R392, R413). -/
def State.gradeThree (s : State) (index : Nat) : State :=
  ((((s.clearBre).settleKeys s).setLatch true).abandonTransition index).enterQuarantine 2 index

/-- The actions of the grade applied (R413). -/
def State.actGrade (s : State) (g index : Nat) (again : Bool) : State :=
  let s1 := if 1 ≤ g ∧ !again then s.raise f_TMP_IRQ_TRIP else s
  let s2 := if 2 ≤ g then s1.gradeTwo else s1
  if 3 ≤ g then s2.gradeThree index else s2

/-- OUTCOME of the entry for the grade applied; Quarantine is entered unless it is the mode already. -/
def outcomeOf (s : State) (g : Nat) : Nat :=
  if g = 3 then 7 + 8 * flag (s.mode != 4) + 16 * flag s.life.transition.isSome else if g = 2 then 2 else 0

/-- TMP_LAST and its stamp. -/
def State.lastTrip (s : State) (index src grade kind side : Nat) : State :=
  (s.fputs [(f_TMP_LAST_INDEX, index), (f_TMP_LAST_GRADE, grade), (f_TMP_LAST_SIDE, side), (f_TMP_LAST_KIND, kind), (f_TMP_LAST_SRC, src)]).put64
    r_TMP_LAST_STAMP_LO r_TMP_LAST_STAMP_HI s.now

/-- The counts and registers of a trip. -/
def State.countTrip (s : State) (index src : Nat) : State :=
  let s1 := (s.bump (f_TMP_COUNT_VALUE src)).putBit f_TMP_TRIP_SRC src true
  if src = 0 then (if index < 32 then s1.putBit f_TMP_RIND_LO_VALUE index true else s1.putBit f_TMP_RIND_HI_VALUE (index - 32) true) else s1

/-- Whether the source has tripped already in the open incident (R413). -/
def State.trippedBefore (s : State) (src : Nat) : Bool := s.cel.incident.isSome && s.tmp.tripped.contains src

/-- The record of a trip joins the open incident. -/
def State.noteTrip (s : State) (src : Nat) : State :=
  { s with tmp := { s.tmp with
      tripped := if s.tmp.tripped.contains src then s.tmp.tripped else s.tmp.tripped ++ [src],
      incTrips := setAt s.tmp.incTrips src (at! s.tmp.incTrips src 0 + 1) } }

/-- A real event on a source under test: its test is abandoned without a monitor fault (R420). -/
def State.abandonTest (s : State) (src : Nat) : State :=
  if s.isSet f_TMP_STATUS_TESTING ∧ s.fget f_TMP_STATUS_TSRC = src then s.fput f_TMP_STATUS_TESTING 0 else s

/-- A trip of an armed monitor (R413), or a monitor fault (`kind` 2, R416): counted, recorded, answered by its grade. -/
def State.trip (s : State) (index measure kind : Nat) : State :=
  let src := monitorSource index
  if 14 ≤ src ∨ s.srcDisabled src then s
  else
    let g := s.appliedGrade src
    let again := s.trippedBefore src
    let count := (if s.cel.incident.isSome then at! s.tmp.incTrips src 0 else 0) + 1
    let full := !again || decide (2 ≤ g)
    let s1 := ((s.abandonTest src).countTrip index src).lastTrip index src g kind 0
    let s2 := if full || kind == 2 then s1.tamperEntry true full (tamperPayload s1 index src g kind 0 count measure (outcomeOf s1 g)) else s1
    (s2.noteTrip src).actGrade g index again

/-- The condition of a monitor persists. -/
def State.conditionHere (s : State) (index : Nat) : Bool := s.tmp.active.any (fun a => a.index == index && a.here)

/-- TAMPER_TRIP (R413): the monitor detects its condition; while the condition persists it is one trip. -/
def State.tripCondition (s : State) (index measure : Nat) : State :=
  let src := monitorSource index
  if 14 ≤ src ∨ s.srcDisabled src ∨ s.conditionHere index then s
  else
    let again := s.trippedBefore src
    let g := s.appliedGrade src
    let s1 := s.trip index measure 0
    State.putBit { s1 with tmp := { s1.tmp with active := s1.tmp.active ++ [(⟨src, index, g, !again || decide (2 ≤ g), true⟩ : ActiveTrip)] } } f_TMP_ACTIVE_SRC src true

/-! ### The LFSRs of the Rind nets and the mesh ports (R411, R412) -/

/-- x · p modulo x^31 + x^28 + 1, a polynomial over two elements as the bits of a number. -/
def timesX (p : Nat) : Nat := let q := 2 * p; if q < 2 ^ 31 then q else q ^^^ 0x90000001

/-- p · q modulo x^31 + x^28 + 1. -/
def timesPoly (p q : Nat) : Nat := (List.range 31).foldr (fun i acc => timesX acc ^^^ (if q.testBit i then p else 0)) 0

/-- x^k modulo x^31 + x^28 + 1, for k below 2^n. -/
def powX : Nat → Nat → Nat
  | 0, _ => 1
  | n + 1, k => if k = 0 then 1 else let h := powX n (k / 2); let q := timesPoly h h; if k % 2 = 1 then timesX q else q

/-- The bit that an LFSR carries at step k: bits 0–30 are those it was seeded with, and bit n + 31 is bit n + 28 plus bit n (log entry 105). -/
def lfsrBit (seed k : Nat) : Bool := (List.range 31).foldl (fun b i => xor b ((powX 96 k).testBit i && seed.testBit i)) false

/-- What mesh port `m` drives on MESHm_OUT now (R412). -/
def meshOut (s : State) (m : Nat) : Bool := lfsrBit (at! s.tmp.seeds (64 + m) 1) s.netSteps

/-- How many of the last 32 steps a net has done since it was seeded, the present one among them. -/
def stepsSeen (s : State) : Nat := min 32 (s.netSteps + 1)

/-- The bits expected of net or port `i` over the last 32 steps, the present step in bit 0. -/
def expectedBits (s : State) (i : Nat) : Nat :=
  (List.range (stepsSeen s)).foldl (fun acc j => acc + flag (lfsrBit (at! s.tmp.seeds i 1) (s.netSteps - j)) * 2 ^ j) 0

/-- A junction temperature, s9.7 °C, within its range of −55 °C to 150 °C (R563). -/
def tempInRange (w : Nat) : Nat :=
  let t := signed 16 w
  unsignedBits 16 (if t < -7040 then -7040 else if 19200 < t then 19200 else t)

/-- MEASURE of a net or port: the bits expected, then the bits received (R419). The far end's bits, MESHm_IN of a port, stand in the upper word of the
row's operand. Of a rail, mV and the duration in ns; of the clock, its frequency; of the temperature, the reading; each within its range (R563). Other
sources measure nothing. -/
def measureOf (s : State) (index measure : Nat) : Nat :=
  if index ≤ 65 then expectedBits s index + 2 ^ 32 * (measure / 2 ^ 32 % 2 ^ stepsSeen s)
  else if index ≤ 69 then min (measure % 2 ^ 32) 4000 + 2 ^ 32 * min (measure / 2 ^ 32) 10000
  else if index = 71 then min measure 50000000
  else if index = 72 then tempInRange measure
  else 0

/-- Step `j` before the present one mismatched. -/
def mismatched (s : State) (index measure j : Nat) : Bool :=
  decide (j < stepsSeen s) && ((expectedBits s index).testBit j != (measure / 2 ^ 32).testBit j)

/-- A monitor detects its condition (R410, R411): of a net or port, a mismatch in the last two steps in service, in the last step on backup. -/
def detects (s : State) (index measure : Nat) : Bool :=
  if index ≤ 65 then mismatched s index measure 0 && (!s.cel.main || mismatched s index measure 1) else true

/-- TMP_RIND shows a net that mismatched in one of its last steps, tripped or not (R422). -/
def State.noteMismatch (s : State) (index measure : Nat) : State :=
  if index ≤ 63 ∧ !s.srcDisabled 0 ∧ (List.range 32).any (mismatched s index measure) then
    (if index < 32 then s.putBit f_TMP_RIND_LO_VALUE index true else s.putBit f_TMP_RIND_HI_VALUE (index - 32) true)
  else s

/-- Every net and port is seeded from starter `n`, never with zero: the key store's at main power-up, the service-port logic's when the logic die stops. -/
def State.seedNets (s : State) (n start : Nat) : State :=
  let bits := s.draw (31 * 66)
  State.asked { s with tmp := { s.tmp with seeds := (List.range 66).map (fun i => 1 + bits / 2 ^ (31 * i) % 2 ^ 31 % (2 ^ 31 - 1)), steps := 0, stepsAt := start } } n

/-- TAMPER_TRIP on the logic die, whose monitors run while it is powered and out of reset. -/
def State.monitorTrip (s : State) (index measure : Nat) : State :=
  if !s.alive then s
  else
    let s1 := s.noteMismatch index measure
    if detects s index measure then s1.tripCondition index (measureOf s index measure) else s1

def execTamperTrip (at_ index measure : Nat) (s : State) : Out := done ((s.at at_).monitorTrip index measure)

/-- TAMPER_CLEAR (R419): the condition is gone. With the last condition of the source it leaves TMP_ACTIVE, with a KIND 1 entry for each trip that
wrote an entry. -/
def State.tripCleared (s : State) (index measure : Nat) : State :=
  let src := monitorSource index
  if !s.conditionHere index then s
  else
    let l := s.tmp.active.map (fun a => if a.index = index then { a with here := false } else a)
    if l.any (fun a => a.src == src && a.here) then { s with tmp := { s.tmp with active := l } }
    else
      let s1 := State.putBit { s with tmp := { s.tmp with active := l.filter (fun a => a.src != src) } } f_TMP_ACTIVE_SRC src false
      (l.filter (fun a => a.src == src && a.entry)).foldl (fun t a =>
        t.tamperEntry true false (tamperPayload t a.index src a.grade 1 0 (at! t.tmp.incTrips src 0) measure 0)) s1

def execTamperClear (at_ index measure : Nat) (s : State) : Out := let t := s.at at_
  done (t.tripCleared index (measureOf t index measure))

/-- A trip whose condition is gone when it is detected: its KIND 1 entry directly follows (R419). -/
def State.tripPulse (s : State) (index : Nat) : State := if s.conditionHere index then s else (s.tripCondition index 0).tripCleared index 0

/-! ### Stimulated self-test (R416) -/

/-- The next source to test from `n` on: enabled, wrapping from 13 to 0. -/
def State.nextTested (s : State) (n : Nat) : Option Nat :=
  ((List.range 14).map (fun i => (n + i) % 14)).find? (fun x => !s.srcDisabled x)

/-- TAMPER_SELF_TEST, due TMP_TEST.PERIOD after the test before it: one monitor's primary comparator is stimulated; a trip within 20 µs ends the test. -/
def State.selfTest (s : State) (tripped : Bool) : State :=
  if !s.alive ∨ !s.isSet f_TMP_CTRL_TEST_EN ∨ s.isSet f_TMP_STATUS_TESTING ∨ s.now < s.tmp.testAt + s.fget f_TMP_TEST_PERIOD * ticksPerMs then s
  else match s.nextTested s.tmp.nextSrc with
    | none => s
    | some x =>
      let unit := if x = 0 then s.tmp.net else if x = 10 then s.tmp.diode else 0
      let s1 := { s with tmp := { s.tmp with
        nextSrc := (x + 1) % 14,
        testAt := s.now,
        net := if x = 0 then (s.tmp.net + 1) % 64 else s.tmp.net,
        diode := if x = 10 then (s.tmp.diode + 1) % 16 else s.tmp.diode } }
      s1.fputs [(f_TMP_STATUS_TSRC, x), (f_TMP_STATUS_TUNIT, unit), (f_TMP_STATUS_TESTING, flag (!tripped))]

def execTamperSelfTest (at_ : Nat) (tripped : Bool) (s : State) : Out := done ((s.at at_).selfTest tripped)

/-- The monitor index of a source and unit. -/
def unitIndex (src unit : Nat) : Nat := if src = 0 ∨ src = 10 then lowestIndex src + unit else lowestIndex src

/-- TAMPER_TEST_TIMEOUT, 20 µs (7,812.5 ticks) into the test: a missing trip is a monitor fault, answered as a trip. -/
def State.monitorFault (s : State) : State :=
  if !s.isSet f_TMP_STATUS_TESTING ∨ 2 * (s.now - s.tmp.testAt) < 15625 then s
  else
    let src := s.fget f_TMP_STATUS_TSRC
    let s1 := ((s.fput f_TMP_STATUS_TESTING 0).putBit f_TMP_MONFAULT_SRC src true).raise f_TMP_IRQ_MONFAULT
    s1.trip (unitIndex src (s.fget f_TMP_STATUS_TUNIT)) 0 2

def execTamperTestTimeout (at_ : Nat) (s : State) : Out := done ((s.at at_).monitorFault)

/-! ### Grades (R415) -/

/-- Whether a new TMP_GRADE word lowers an enabled source's field. -/
def lowers (s : State) (v : Nat) : Bool :=
  (List.range 14).any (fun x => !s.srcDisabled x && decide (bitsOf (BitVec.ofNat 32 v) (2 * x) 2 < s.gradeOf x))

/-- The word with disabled sources' fields as they were and the reserved bits 0. -/
def gradeWord (s : State) (v : Nat) : Nat :=
  (List.range 14).foldl (fun acc x => acc + (if s.srcDisabled x then bitsOf (s.reg r_TMP_GRADE) (2 * x) 2 else bitsOf (BitVec.ofNat 32 v) (2 * x) 2) * 4 ^ x) 0

/-- A change of TMP_GRADE: one KIND 4 entry per source changed, in ascending order, and the Cellar die's copy. -/
def State.putGrades (s : State) (v : Nat) : State :=
  let old := s.regN r_TMP_GRADE
  let new := gradeWord s v
  let s1 := s.setRegN r_TMP_GRADE new
  let s2 := (List.range 14).foldl (fun t x =>
    if s.gradeOf x = t.gradeOf x then t
    else t.tamperEntry false false (tamperPayload t (lowestIndex x) x (t.gradeOf x) 4 0 (at! t.tmp.incTrips x 0) (old + 2 ^ 32 * new) 0)) s1
  { s2 with cel := { s2.cel with grades := new } }

/-- GRADE_WRITE: after the lock, a write that lowers a field is ignored as a whole. -/
def execGradeWrite (w : Wr) (s : State) : Out :=
  done (guarded s w r_TMP_GRADE fun t =>
    if t.isSet f_TMP_CTRL_LOCK && lowers t w.value then t.raise f_TMP_IRQ_GRADE_REFUSED else t.putGrades w.value)

/-! ### On backup alone (R416, R417) -/

/-- What the logic die offered in this very tick follows an entry that the Cellar die writes alone (R380). -/
def queueFirst (q : List CelQueued) (e : CelQueued) : List CelQueued :=
  let with_ := (q.reverse.takeWhile (fun x => x.stamp == e.stamp && x.flags / 16 % 4 != 2)).length
  q.take (q.length - with_) ++ [e] ++ q.drop (q.length - with_)

/-- An entry the Cellar die writes alone: its stamp from the backup counter (R92), INC set. -/
def State.backupEntry (s : State) (payload : List Byte) : State :=
  let stamp := Config.backupStamp s.backupCount
  let (s1, i) := s.openIncident stamp
  let i1 := { i with offered := satU 32 (i.offered + 1), lastCount := s1.backupCount }
  if 16 ≤ s1.cel.queue.length then
    State.bump { s1 with cel := { s1.cel with incident := some { i1 with dropped := satU 32 (i1.dropped + 1) } } } f_CEL_DROPPED_VALUE
  else
    { s1 with cel := { s1.cel with incident := some i1, queue := queueFirst s1.cel.queue ⟨stamp, 0x20, 1 + 4 + srcFlags 2, true, padTo 44 payload⟩ } }

/-- The backup response of a watched source, by the last grade copied. -/
def State.backupTrip (s : State) (index measure kind : Nat) : State :=
  let src := monitorSource index
  if 3 ≤ src ∨ s.srcDisabled src ∨ s.cel.main ∨ !s.cel.vbak then s
  else
    let g := bitsOf (BitVec.ofNat 32 s.cel.grades) (2 * src) 2
    let g' := if fusedLc s.life = 0 then min g 1 else g
    let s1 := if g' = 3 then { (s.clearBre) with cel := { (s.clearBre).cel with qlatch := true } } else s
    let s2 := s1.noteTrip src
    s2.backupEntry (tamperPayload s2 index src g' kind 1 (at! s2.tmp.incTrips src 0) measure (if g' = 3 then 5 else 0))

def execBackupTamperResponse (at_ index measure : Nat) (s : State) : Out :=
  let t := s.at at_
  done (if detects t index measure then t.backupTrip index (measureOf t index measure) 0 else t)

/-- BACKUP_TAMPER_TEST (R416): one net or port in turn; a missing trip is a monitor fault. -/
def execBackupTamperTest (at_ : Nat) (tripped : Bool) (s : State) : Out :=
  let t := s.at at_
  done (if t.cel.main || !t.cel.vbak then t
    else
      let index := t.tmp.backNext
      let t1 := { t with tmp := { t.tmp with backNext := (index + 1) % 66 } }
      if tripped then t1 else t1.backupTrip index 0 2)

/-! ### Commands (R418, R421) -/

/-- TMP_TEMP as it reads: measured every 1 ms, within its range (R422, R563, log entry 48). -/
def tempWord (s : State) : Nat := tempInRange (Config.junction (s.now / ticksPerMs)).toNat

/-- DEVICE.TAMPER_READ: every register of the block except TMP_IRQ_EN. -/
def execDeviceTamperRead (r : Req) (s : State) : Out :=
  done (runCmd s r 0x0120 anyLc (fun _ => []) (readEff fun t =>
    [r_TMP_CTRL, r_TMP_STATUS, r_TMP_TRIP, r_TMP_ACTIVE, r_TMP_MONFAULT, r_TMP_DISABLED, r_TMP_GRADE, r_TMP_TEST, r_TMP_LAST,
      r_TMP_LAST_STAMP_LO, r_TMP_LAST_STAMP_HI].flatMap (w4 t) ++ leBytes 4 (tempWord t) ++
    ([r_TMP_IRQ, r_TMP_RIND_LO, r_TMP_RIND_HI] ++ (List.range 14).map (fun x => r_TMP_COUNT x)).flatMap (w4 t)))

/-- The grade word with one source's field replaced. -/
def withGrade (s : State) (src grade : Nat) : Nat := (withBits (s.reg r_TMP_GRADE) (2 * src) 2 grade).toNat

/-- DEVICE.TAMPER_SET_GRADE. -/
def execDeviceTamperSetGrade (r : Req) (src grade : Nat) (s : State) : Out :=
  done (runCmd s r 0x0121 anyLc
    (fun t => [need (decide (src < 14)) (blame E_PARAM_RANGE 0x0100), need (decide (grade < 4)) (blame E_PARAM_RANGE 0x0101), need (!t.srcDisabled src) (blame E_PARAM_CONFLICT 0x0100),
               need (!(t.isSet f_TMP_CTRL_LOCK && decide (grade < t.gradeOf src))) (blame E_PARAM_CONFLICT 0x0101)])
    (okEff fun t => t.putGrades (withGrade t src grade)))

/-- A source's disable pair is blown: TMP_DISABLED shows it, with a KIND 3 entry and an event. -/
def State.disableSource (s : State) (src : Nat) : State :=
  if s.srcDisabled src then s
  else
    let s1 := State.putBit { s with tmp := { s.tmp with fuses := setAt s.tmp.fuses src (true, true) } } f_TMP_DISABLED_SRC src true
    let s2 := s1.fput ⟨r_TMP_GRADE, 2 * src, 2⟩ 0
    let s3 := { s2 with cel := { s2.cel with grades := s2.regN r_TMP_GRADE } }
    s3.tamperEntry false true (tamperPayload s3 (lowestIndex src) src 0 3 0 (at! s3.tmp.incTrips src 0) 0 0)

/-- DEVICE.TAMPER_DISABLE (R418): in Blank from the provisioning path, in Provisioned from the custody world with an owner token. -/
def execDeviceTamperDisable (r : Req) (src : Nat) (tok : Option Token) (keys : PubKeys) (s : State) : Out :=
  done (runCmd s r 0x0122 (fun l => l == 0 || l == 1)
    (fun t => [need (t.mode == 0 || t.mode == 2) E_MODE, need (if t.lc = 0 then r.world == 3 else worldOf r == 1) E_WORLD,
               need (t.lc == 0 || tok.isSome) (blame E_PARAM_MISSING 0x0002), need (decide (src < 14)) (blame E_PARAM_RANGE 0x0100)])
    (fun t => match t.lc, tok with
      | 1, some k =>
        let (t1, ok) := t.checkOwnerToken r 0x0122 (paramDigest (tlv 0x0100 (leBytes 1 src))) k keys
        if ok then (t1.disableSource src, some (OK, [])) else (t1, some (E_SESSION, []))
      | _, _ => (t.disableSource src, some (OK, []))))

end Sys2Proof.Machine
end

