-- ==== Sys2Proof/Machine/Packets.lean ====
section
/-!
DEFINITION. Machine/Packets.lean: command packets, their acceptance (R437), the transports (R440–R442), sessions (R428–R435) and the host trace
(chapter 18; R516).
-/
namespace Sys2Proof.Machine

/-! ### Packets (R423–R427) -/

/-- Body parameters (R424): types ascending, no overrun, zero padding; none when the structure is wrong. `fuel` bounds the number of TLVs. -/
def parseTlvs : Nat → Nat → List Byte → Option (List (Nat × List Byte))
  | _, _, [] => some []
  | 0, _, _ => none
  | fuel + 1, low, bs =>
    let ty := leNat (bs.take 2)
    let len := leNat ((bs.drop 2).take 2)
    let pad := (4 - len % 4) % 4
    if bs.length < 4 + len + pad ∨ ty < low then none
    else if ((bs.drop (4 + len)).take pad).any (fun b => b != 0) then none
    else match parseTlvs fuel (ty + 1) (bs.drop (4 + len + pad)) with
      | none => none
      | some t => some ((ty, (bs.drop 4).take len) :: t)

/-- The lengths of R425's common types. -/
def tlvLengthOk (t : Nat × List Byte) : Bool :=
  match t.1 with
  | 0x0001 => t.2.length == 8
  | 0x0002 => t.2.length == 3504
  | 0x0003 => t.2.length == 97
  | 0x0004 => t.2.length == 1952
  | 0x0005 => t.2.length == 3584
  | 0x0006 => t.2.length == 96
  | 0x0007 => t.2.length == 3309
  | _ => true

/-- The lengths of a command's parameters 0x0100, 0x0101 and onward (R424, R425; log entry 11): the bytes of the field that its chapter gives it; 0 where
the length is free or no chapter gives it. -/
def paramLengths (op : Nat) : List Nat :=
  match op with
  | 0x0103 => [1, 1] | 0x0104 => [1, 8] | 0x0105 => [4, 2] | 0x0106 => [1, 2]
  | 0x0110 => [1184, 32]
  | 0x0121 => [1, 1] | 0x0122 => [1]
  | 0x0201 => [1] | 0x0210 => [48, 2, 8] | 0x0212 => [16]
  | 0x0301 | 0x0302 | 0x0303 | 0x0304 | 0x0305 | 0x0306 => [1]
  | 0x0307 => [1, 1, 1, 1, 0] | 0x0310 => [1, 2] | 0x0311 => [1, 2, 8, 8] | 0x0312 => [8, 4]
  | 0x0401 => [1, 1, 2, 1, 1, 2, 2] | 0x0402 | 0x0403 | 0x040A => [1, 1] | 0x0407 | 0x0408 | 0x0409 => [1]
  | 0x0502 => [1, 1, 4, 4, 2] | 0x0503 => [1] | 0x0504 => [1, 1, 2, 1] | 0x0506 => [32] | 0x0507 => [1] | 0x0508 => [2, 2] | 0x0509 => [1, 1, 4]
  | 0x0601 => [1, 1] | 0x0602 | 0x0603 => [1] | 0x0604 => [2, 2] | 0x0605 => [1, 1, 2, 1, 1] | 0x0606 => [2, 1]
  | 0x0640 => [1, 2, 2] | 0x0641 => [1, 2] | 0x0643 => [1, 4, 1] | 0x0648 | 0x064B => [1] | 0x0649 => [1, 1] | 0x064C => [1, 1, 1] | 0x064E => [1, 2]
  | 0x064F => [1, 2]
  | 0x0703 => [4, 4] | 0x0704 => [1, 8, 2] | 0x0705 => [1, 8] | 0x0706 => [1, 1, 1] | 0x0708 => [48]
  | 0x0802 | 0x0803 | 0x0806 => [1]
  | 0x0902 => [1, 1] | 0x0903 => [1] | 0x0904 => [8] | 0x0905 => [0, 0, 3616] | 0x0906 => [1]
  | 0x0B01 => [8, 1] | 0x0B02 => [4]
  | 0x0C02 => [4, 2] | 0x0C03 => [4, 4]
  | 0x0D02 => [1, 1, 1, 1, 8, 4] | 0x0D03 => [2, 2] | 0x0D04 => [2] | 0x0D05 => [128, 64] | 0x0D07 => [8] | 0x0D08 => [1, 1] | 0x0D09 => [1]
  | _ => []

/-- A TLV is as long as its field. -/
def lengthOk (op : Nat) (x : Nat × List Byte) : Bool :=
  tlvLengthOk x && (decide (x.1 < 0x0100) || (let n := at! (paramLengths op) (x.1 - 0x0100) 0; n == 0 || x.2.length == n))

/-- The opcodes listed in R445. -/
def opcodeListed (op : Nat) : Bool :=
  let n := op % 256
  match op / 256 with
  | 0x01 => decide (1 ≤ n ∧ n ≤ 6) || decide (0x10 ≤ n ∧ n ≤ 0x13) || decide (0x20 ≤ n ∧ n ≤ 0x22)
  | 0x02 => decide (1 ≤ n ∧ n ≤ 3) || decide (0x10 ≤ n ∧ n ≤ 0x14)
  | 0x03 => decide (1 ≤ n ∧ n ≤ 7) || decide (0x10 ≤ n ∧ n ≤ 0x12)
  | 0x04 => decide (1 ≤ n ∧ n ≤ 0x0A)
  | 0x05 => decide (1 ≤ n ∧ n ≤ 9)
  | 0x06 => decide (1 ≤ n ∧ n ≤ 7) || decide (0x40 ≤ n ∧ n ≤ 0x43) || decide (0x48 ≤ n ∧ n ≤ 0x4F)
  | 0x07 => decide (1 ≤ n ∧ n ≤ 8)
  | 0x08 => decide (1 ≤ n ∧ n ≤ 7)
  | 0x09 => decide (1 ≤ n ∧ n ≤ 6)
  | 0x0A => decide (1 ≤ n ∧ n ≤ 6)
  | 0x0B => decide (1 ≤ n ∧ n ≤ 3)
  | 0x0C => decide (1 ≤ n ∧ n ≤ 4)
  | 0x0D => decide (1 ≤ n ∧ n ≤ 9)
  | _ => false

/-! ### Acceptance (R437) -/

/-- XP_ERR of a transport; the service port counts its own errors. -/
def State.xpError (s : State) (path : Nat) : State := if path < 4 then (s.bump (f_XP_ERR_COUNT path)).orReg (r_XP_IRQ path) 2 else s

/-- The requester that a packet's header names. -/
def reqOf (s : State) (path : Nat) (h : Header) : Req :=
  ⟨s.now, path, if h.secured then h.session % 8 else 8, h.world, h.seq⟩

/-- An error reply of the interface itself; it leaves nothing outstanding. -/
def State.refusePacket (s : State) (r : Req) (secured : Bool) (op e : Nat) : State :=
  ((s.send ⟨r.path, if secured then r.slot else 8, op, r.seq, r.world, e % 0x10000, false, false, 0, replyTlvs op (e % 0x10000) (blamed e), []⟩).bump f_CMD_REFUSED_VALUE).closeLast (if secured then r.slot else 8) r.seq

/-- A tag failure (check 4): counted; the 8th closes the session (R435). -/
def State.tagFailure (s : State) (slot : Nat) : State :=
  let x := s.session slot
  let s1 := (s.setSession slot { x with tagf := x.tagf + 1 }).bump f_CMD_TAGFAIL_VALUE
  let s2 := s1.raise (f_CMD_IRQ_TAGFAIL (x.world - 1))
  if 8 ≤ x.tagf + 1 then s2.closeSession slot true else s2

/-- Check 3: the session a packet names, if it stands on this transport and admits the opcode. -/
def sessionNamed (s : State) (path : Nat) (h : Header) : Option (Option Nat) :=
  if !h.secured then (if h.session = 0 then some none else none)
  else
    let i := h.session % 8
    let x := s.session i
    if h.session ≠ 0 ∧ x.closing.isNone ∧ x.ident = h.session / 8 ∧ x.path = path ∧ (x.phase = 2 ∨ (x.phase = 1 ∧ h.opcode = 0x0111)) then some (some i)
    else none

/-- Check 4: the body, decrypted, when the check is good. -/
def openBody (s : State) (h : Header) (slot : Option Nat) (bs : List Byte) : Option (List Byte) :=
  let body := (bs.drop 16).take h.plen
  let check := bs.drop (16 + h.plen)
  match slot with
  | none => if leNat check = crc32c (bs.take (16 + h.plen)) then some body else none
  | some i => Config.gcmOpen (keyHp (s.session i)) (packetIv h) (bs.take 16) body (BitVec.ofNat 128 (beNat check))

/-- Where a body of `n` bytes goes in a world's 256 KiB body area. -/
def bodyPlace (s : State) (w n : Nat) : Nat := let p := at! s.cmd.bodyPtr w 0; if p + n ≤ 262144 then p else 0

/-- A descriptor is filled in a world's ring (R439): state 1, slot, opcode, sequence, body address, length, world, transport. -/
def State.enqueue (s : State) (w : Nat) (r : Req) (op : Nat) (body : List Byte) : State :=
  let base := s.fget (f_CMD_QBASE_VALUE w)
  let i := s.fget (f_CMD_QHEAD_VALUE w)
  let off := bodyPlace s w body.length
  let addr := base + 2048 + off
  let d := leBytes 1 1 ++ leBytes 1 r.slot ++ leBytes 2 op ++ leBytes 4 r.seq ++ leBytes 4 addr ++ leBytes 2 body.length ++ leBytes 1 r.world ++ leBytes 1 r.path
  let s1 := (s.dmaWrite addr body).dmaWrite (base + 16 * i) d
  let s2 := { s1 with cmd := { s1.cmd with bodyPtr := setAt s1.cmd.bodyPtr w (off + (body.length + 3) / 4 * 4),
                                           interims := (w, i, 0, (s1.session r.slot).ident) :: s1.cmd.interims.filter (fun (a, b, _) => !(a == w && b == i)) } }
  (s2.fput (f_CMD_QHEAD_VALUE w) ((i + 1) % 128)).raise (f_CMD_IRQ_CMD w)

/-- One command more is outstanding (R434). -/
def State.takeCommand (s : State) (r : Req) : State :=
  if r.slot < 8 then
    let x := s.session r.slot
    let s1 := s.setSession r.slot { x with outst := x.outst + 1 }
    if x.outst + 1 = 64 then s1.raise (f_CMD_IRQ_QUEUE (x.world - 1)) else s1
  else { s with cmd := { s.cmd with unsecOut := setAt s.cmd.unsecOut r.path (at! s.cmd.unsecOut r.path 0 + 1) } }

/-- Commands outstanding, and the most there may be. -/
def outstandingFull (s : State) (r : Req) : Bool :=
  if r.slot < 8 then decide (64 ≤ (s.session r.slot).outst) else decide (4 ≤ at! s.cmd.unsecOut r.path 0)

/-- Check 9: the path admits the opcode, and the transport the session's world. -/
def admitCheck (s : State) (r : Req) (op : Nat) : Option Nat :=
  match pathCheck s r op with
  | some e => some e
  | none => if r.slot < 8 ∧ r.path < 4 ∧ !bit (s.fget (f_XP_CTRL_WORLDS r.path)) (r.world - 1) then some E_SESSION else none

/-- Check 11: the TLVs stand in order within the body, each as long as its field; a TLV of another length is the one at fault. -/
def tlvCheck (op : Nat) (body : List Byte) : Option Nat :=
  match parseTlvs body.length 1 body with
  | none => some E_LENGTH
  | some l => (l.find? (fun x => !lengthOk op x)).map (fun x => blame E_LENGTH x.1)

/-- Checks 6–11 and the queue. -/
def State.admitPacket (s : State) (path : Nat) (h : Header) (slot : Option Nat) (body : List Byte) : State :=
  let r := reqOf s path h
  let sec := slot.isSome
  let worldOk := match slot with | some i => (s.session i).world == h.world | none => true
  match firstOf [need worldOk E_SESSION, need (!outstandingFull s r) E_QUEUE_FULL, need (opcodeListed h.opcode) E_OPCODE,
                 admitCheck s r h.opcode, svcCheck s r h.opcode, recoveryCheck s h.opcode, lockCheck s r, tlvCheck h.opcode body] with
  | some e => s.refusePacket r sec h.opcode e
  | none => (s.takeCommand r).enqueue (if h.world = 2 then 1 else 0) r h.opcode body

/-- Checks 1–5 and what follows. -/
def State.checkPacket (s : State) (path peer : Nat) (bs : List Byte) : State :=
  let h := headerOf bs
  if bs.length ≠ 16 + h.plen + (if h.secured then 16 else 4) ∨ h.flags / 2 ≠ 0 ∨ h.ridx ≠ 0 then s.xpError path
  else
    let s0 := if path < 4 then (s.bump (f_XP_RX_COUNT path)).orReg (r_XP_IRQ path) 1 else s
    if h.ver ≠ 1 then s0.refusePacket (reqOf s0 path h) false h.opcode E_VERSION
    else match sessionNamed s0 path h with
      | none => s0.refusePacket (reqOf s0 path h) false h.opcode E_SESSION
      | some slot =>
        if (match slot with | some i => path == 3 && (s0.session i).peer != peer | none => false) then s0.refusePacket (reqOf s0 path h) false h.opcode E_SESSION
        else match openBody s0 h slot bs, slot with
          | none, some i => s0.tagFailure i
          | none, none => s0.xpError path
          | some body, none => s0.admitPacket path h none body
          | some body, some i =>
            if h.seq ≤ (s0.session i).seqHi then s0.bump f_CMD_REPLAYS_VALUE
            else (s0.setSession i { s0.session i with seqHi := h.seq, last := s0.now }).admitPacket path h (some i) body

/-- The sender of an unsecured packet on Ethernet, for its reply (R442). -/
def State.notePeer (s : State) (path seq peer : Nat) : State :=
  if path = 3 then { s with cmd := { s.cmd with peers := (seq, peer) :: s.cmd.peers.filter (fun x => x.1 != seq) } } else s

/-- PACKET_RECEIVED (R437): the oldest packet awaiting check on a transport, while packets are accepted. -/
def execPacketReceived (at_ path : Nat) (s : State) : Out :=
  let t := s.at at_
  done (match t.cmd.rx.find? (fun p => p.path == path) with
    | none => t
    | some p =>
      let t1 := { t with cmd := { t.cmd with rx := t.cmd.rx.erase p } }
      if t1.isSet f_CMD_CTRL_EN then (t1.notePeer path (headerOf p.bytes).seq p.peer).checkPacket path p.peer p.bytes else t1)

/-- REPLY_ISSUE (R439, R448): CMD_RPLY_CTL.GO queues a final or interim reply for a descriptor; a final one sets its STATE to 3. -/
def State.issueReply (s0 : State) (w : Nat) : State :=
  let i := s0.fget (f_CMD_RPLY_CTL_INDEX w)
  let d := s0.fget (f_CMD_QBASE_VALUE w) + 16 * i
  let (s1, h) := s0.dmaRead d 16
  let (s, body) := s1.dmaRead (s1.fget (f_CMD_RPLY_ADDR_VALUE w)) (s1.fget (f_CMD_RPLY_CTL_LEN w))
  let f (o n : Nat) : Nat := leNat ((h.drop o).take n)
  let interim := s.isSet (f_CMD_RPLY_CTL_INTERIM w)
  let slot := f 1 1
  let r : Req := ⟨s.now, f 15 1, slot, f 14 1, f 4 4⟩
  let (before, ident) := match s.cmd.interims.find? (fun (a, b, _) => a == w && b == i) with | some (_, _, n, x) => (n, x) | none => (0, (s.session slot).ident)
  let p : Reply := ⟨r.path, slot, f 2 2, r.seq, r.world, leNat (body.take 2), interim, false, before, body.drop 4, []⟩
  if slot < 8 ∧ ((s.session slot).phase = 0 ∨ (s.session slot).ident ≠ ident) then (if interim then s else s.dmaWrite d [3])
  else if interim then
    if 254 ≤ before then s
    else { (s.send p) with cmd := { (s.send p).cmd with interims := (w, i, before + 1, ident) :: s.cmd.interims.filter (fun (a, b, _) => !(a == w && b == i)) } }
  else
    let s1 := ((s.settle r).send p).dmaWrite d [3]
    let s2 := { s1 with cmd := { s1.cmd with interims := s1.cmd.interims.filter (fun (a, b, _) => !(a == w && b == i)) } }
    let s3 := if p.status = OK then s2 else s2.bump f_CMD_REFUSED_VALUE
    s3.closeLast slot r.seq

def execReplyIssue (w : Wr) (world : Nat) (s : State) : Out :=
  done (guarded s w (r_CMD_RPLY_CTL world) fun t =>
    let t1 := t.fputs [(f_CMD_RPLY_CTL_INTERIM world, flag (bit w.value 30)), (f_CMD_RPLY_CTL_INDEX world, w.value / 2 ^ 17 % 128),
      (f_CMD_RPLY_CTL_LEN world, w.value % 2 ^ 17)]
    let len := w.value % 2 ^ 17
    if bit w.value 31 && decide (4 ≤ len ∧ len ≤ 65535) then t1.issueReply world else t1)

/-! ### Transports -/

def State.addRx (s : State) (p : RxPacket) : State := { s with cmd := { s.cmd with rx := s.cmd.rx ++ [p] } }
/-- SPI_IRQ_N is low while a packet is queued for the host (R440). -/
def spiIrqLow (s : State) : Bool := s.cmd.tx.any (fun p => p.path == 0)

def rxWaiting (s : State) (path : Nat) : Nat := (s.cmd.rx.filter (fun p => p.path == path)).length

/-- RXREADY (R440; log entry 22): no packet awaits check on the SPI target. -/
def rxReady (s : State) : Bool := rxWaiting s 0 == 0

/-- SPI_WRITE (R440): one packet when SPI_CS_N rises after exactly LEN bytes; otherwise it is discarded, RXERR is set and XP_ERR counts
(R437 check 1). -/
def execSpiWrite (at_ len : Nat) (bytes : List Byte) (s : State) : Out :=
  let t := s.at at_
  done (if !t.isSet (f_XP_CTRL_EN 0) then t
    else if bytes.length = len ∧ 32 ≤ len ∧ len ≤ 65567 ∧ rxReady t then t.addRx ⟨0, 0, bytes⟩
    else { t with cmd := { t.cmd with rxErr := true } }.xpError 0)

/-- SPI_READ (R440): the oldest queued packet, or a length of 0; it is removed when SPI_CS_N rises after the last byte. -/
def execSpiRead (at_ : Nat) (whole : Bool) (s : State) : Out :=
  let t := s.at at_
  done (if !t.isSet (f_XP_CTRL_EN 0) then t
    else match t.cmd.tx.find? (fun p => p.path == 0) with
      | none => { t with cmd := { t.cmd with out := zeros 4 } }
      | some p =>
        let b := p.wire
        { t with cmd := { t.cmd with out := leBytes 4 b.length ++ b, tx := if whole then t.cmd.tx.erase p else t.cmd.tx } })

/-- SPI_STATUS (R440): four bytes; RXERR is told once. -/
def execSpiStatus (at_ : Nat) (s : State) : Out :=
  let t := s.at at_
  let len := match t.cmd.tx.find? (fun p => p.path == 0) with | some p => p.wire.length | none => 0
  done (if !t.isSet (f_XP_CTRL_EN 0) then t
    else { t with cmd := { t.cmd with out := leBytes 4 (len % 2 ^ 17 + 2 ^ 17 * flag (rxReady t) + 2 ^ 18 * flag t.cmd.rxErr), rxErr := false } })

/-- The bytes of a reassembled packet without the padding of its last frame. -/
def trimPacket (bs : List Byte) : List Byte :=
  let h := headerOf bs
  bs.take (16 + h.plen + (if h.secured then 16 else 4))

def State.setCan (s : State) (c : Nat) (x : Option Reassembly) : State := { s with cmd := { s.cmd with can := setAt s.cmd.can c x } }

/-- A finished CAN packet waits for check; a fifth is discarded (R441). -/
def State.canDone (s : State) (c : Nat) (bs : List Byte) : State :=
  if rxWaiting s (c + 1) < 4 then s.addRx ⟨c + 1, 0, trimPacket bs⟩ else s.xpError (c + 1)

/-- One CAN FD segment (R441): every one but the last carries 63 packet bytes. -/
def State.canSegment (s : State) (c : Nat) (hd : Nat) (data : List Byte) : State :=
  let first := bit hd 7
  let last := bit hd 6
  let idx := hd % 64
  let take (t : State) (bs : List Byte) : State :=
    if last then (t.setCan c none).canDone c bs
    else if data.length ≠ 63 then (t.setCan c none).xpError (c + 1)
    else t.setCan c (some ⟨0, (idx + 1) % 64, bs, t.now⟩)
  match at! s.cmd.can c none with
  | none => if first ∧ idx = 0 then take s data else s.xpError (c + 1)
  | some x =>
    if first then (let s1 := (s.setCan c none).xpError (c + 1); if idx = 0 then take s1 data else s1)
    else if idx = x.index ∧ s.now ≤ x.last + 50 * ticksPerMs then take s (x.bytes ++ data)
    else (s.setCan c none).xpError (c + 1)

/-- CAN_FRAME_RECEIVED: a frame with the channel's identifier; a classical frame on it is discarded and counted. -/
def execCanFrameReceived (at_ chan ident : Nat) (ide fd : Bool) (bytes : List Byte) (s : State) : Out :=
  let t := s.at at_
  let cfg := t.regN (r_XP_CFG2 (chan + 1))
  done (if 2 ≤ chan ∨ !t.isSet (f_XP_CTRL_EN (chan + 1)) ∨ ident ≠ cfg % 2 ^ 29 ∨ ide ≠ bit cfg 29 then t
    else if !fd then t.xpError (chan + 1)
    else match bytes with
      | [] => t.xpError (chan + 1)
      | hd :: data => t.canSegment chan hd.toNat data)

/-- CAN_REASSEMBLY_TIMEOUT (R441): a gap of more than 50 ms. -/
def execCanReassemblyTimeout (at_ chan : Nat) (s : State) : Out :=
  let t := s.at at_
  done (match at! t.cmd.can chan none with
    | some x => if x.last + 50 * ticksPerMs < t.now then (t.setCan chan none).xpError (chan + 1) else t
    | none => t)

/-- One UDP segment of a source (R442). -/
def State.ethSegment (s : State) (src : Nat) (bytes : List Byte) : State :=
  let idx := leNat (bytes.take 2)
  let last := bit (leNat ((bytes.drop 2).take 1)) 0
  let data := bytes.drop 4
  let rest := s.cmd.eth.filter (fun x => x.src != src)
  let bad : State := { s with cmd := { s.cmd with eth := rest } }.xpError 3
  let take (bs : List Byte) : State :=
    if !last && data.length != 1400 then bad
    else if last then { s with cmd := { s.cmd with eth := rest } }.addRx ⟨3, src, bs⟩
    else { s with cmd := { s.cmd with eth := rest ++ [⟨src, idx + 1, bs, s.now⟩] } }
  match s.cmd.eth.find? (fun x => x.src == src) with
  | none => if idx = 0 ∧ s.cmd.eth.length < 4 then take data else bad
  | some x => if idx = x.index ∧ s.now ≤ x.last + 200 * ticksPerMs then take (x.bytes ++ data) else bad

/-- ETHERNET_DATAGRAM_RECEIVED: `good` when the frame is none of the kinds R442 discards and its checksum holds. -/
def execEthernetDatagramReceived (at_ src : Nat) (good : Bool) (bytes : List Byte) (s : State) : Out :=
  let t := s.at at_
  done (if !t.isSet (f_XP_CTRL_EN 3) then t
    else if !good || decide (bytes.length < 4) || decide (1404 < bytes.length) then t.xpError 3
    else t.ethSegment src bytes)

/-- ETHERNET_REASSEMBLY_TIMEOUT (R442). -/
def execEthernetReassemblyTimeout (at_ src : Nat) (s : State) : Out :=
  let t := s.at at_
  done (match t.cmd.eth.find? (fun x => x.src == src) with
    | some x => if x.last + 200 * ticksPerMs < t.now then { t with cmd := { t.cmd with eth := t.cmd.eth.filter (fun y => y.src != src) } }.xpError 3 else t
    | none => t)

/-- ARP_REQUEST (R442): the part answers for its address. -/
def execArpRequest (at_ target sender : Nat) (s : State) : Out :=
  let t := s.at at_
  done (if t.isSet (f_XP_CTRL_EN 3) ∧ bit (t.regN (r_XP_CFG3 3)) 8 ∧ target = t.regN (r_XP_CFG2 3) then
      { t with cmd := { t.cmd with arp := t.cmd.arp ++ [(target, sender)] } } else t)

/-- LINK_CHANGED (R441, R449): the Ethernet link, or a CAN channel's bus state. `slot` is 26–29. -/
def execLinkChanged (at_ slot : Nat) (up g1000 : Bool) (s : State) : Out :=
  let t := s.at at_
  let x := slot - 26
  done (if slot < 27 ∨ 29 < slot then t
    else
      let t1 := (t.fput (f_XP_STATUS_LINK x) (flag up)).orReg (r_XP_IRQ x) 4
      let t2 := if slot = 29 then t1.fput (f_XP_STATUS_G1000 x) (flag (up && g1000)) else t1.fput (f_XP_STATUS_BUSOFF x) (flag (!up))
      t2.flushTx x)

/-! ### Host trace (R516) -/

/-- The whole items that fit one packet's body. -/
def traceTake : Nat → List (Nat × EventRec) → List (List Byte)
  | _, [] => []
  | room, (n, e) :: t =>
    let b := eventItem n e
    if b.length ≤ room then b :: traceTake (room - b.length) t else []

/-- The GAP value (R516). -/
def gapTlvs : Option (Nat × Nat × Nat × Nat) → List (Nat × List Byte)
  | none => []
  | some (f, c, a, b) => [(0x100, leBytes 8 f ++ leBytes 4 c ++ zeros 4 ++ leBytes 8 a ++ leBytes 8 b)]

/-- TRACE_PACKET: sent when the buffer holds 1,024 bytes, or its oldest item is 100 ms old. The last unsolicited count closes the session (R433). -/
def State.tracePacket (s : State) (t : Trace) : State :=
  let sent := traceTake 65000 t.items
  let data := sent.flatten
  let x := s.session t.slot
  let s1 := s.setSession t.slot { x with unsol := x.unsol + 1 }
  let t' : Trace := { t with items := t.items.drop sent.length, size := t.size - data.length, gap := none }
  let s2 := { s1 with cmd := { s1.cmd with trace := some t' } }
  (s2.send ⟨x.path, t.slot, 0x0104, x.unsol + 1, x.world, OK, false, true, 0, (gapTlvs t.gap ++ [(8, data)]).flatMap tlvBytes, []⟩).closeLast t.slot (x.unsol + 1)

def execTracePacket (at_ : Nat) (s : State) : Out :=
  let u := s.at at_
  done (match u.cmd.trace with
    | none => u
    | some t => match t.items with
      | [] => u
      | (_, e) :: _ => if 1024 ≤ t.size ∨ e.stamp + 100 * ticksPerMs ≤ u.now then u.tracePacket t else u)

/-- DEVICE.TRACE (R516): binds the trace to the issuing session, or ends it. -/
def execDeviceTrace (r : Req) (enable : Bool) (mask : Nat) (s : State) : Out :=
  done (runCmd s r 0x0104 anyLc
    (fun t => [need (decide (r.slot < 8)) E_SESSION, need (match t.cmd.trace with | some x => x.slot == r.slot | none => true) E_BUSY])
    (okEff fun t => { t with cmd := { t.cmd with trace := if enable then some ⟨r.slot, mask, [], 0, none⟩ else none } }))

/-! ### Sessions (R428–R435) -/

/-- The lowest free slot admitted to a world (R428). -/
def freeSlot (s : State) (world : Nat) : Option Nat :=
  ((if world = 1 then [0, 1, 4, 5, 6, 7] else [2, 3, 4, 5, 6, 7]) : List Nat).find? (fun i => (s.session i).phase == 0)

/-- PARTSIG (R432). -/
def partSig (s : State) (world : Nat) : Bool :=
  s.mode != 4 && (if world = 1 then s.slotState 15 == 1 && s.slotState 16 == 1 && (at! s.keys.certs 1 none).isSome
    else s.slotState 18 == 1 && s.slotState 19 == 1 && (at! s.keys.certs 2 none).isSome)

/-- A session identifier is drawn, never 0. -/
def drawnIdent (s : State) : Nat := 1 + s.draw 29 % (2 ^ 29 - 1)

/-- The bytes of a key certificate (R398). -/
def certBytes : Option Cert → List Byte
  | none => []
  | some c => leBytes 5 c.head ++ leBytes 1 c.role ++ zeros 2 ++ leBytes 8 c.serial ++ leBytes 4 c.chainId ++ zeros 4 ++ leBytes 8 c.validFrom ++
      beBytes 48 c.hashEc ++ beBytes 48 c.hashPq ++ beBytes 48 c.issuer ++ beBytes 96 c.sig.ec ++ beBytes 3309 c.sig.pq ++ zeros 3

/-- SESSION.OPEN (R429 steps 1 and 2). -/
def execSessionOpen (r : Req) (peer qh kemEk nonce : Nat) (s : State) : Out :=
  done (runCmd s r 0x0110 anyLc (fun t => [need (freeSlot t r.world).isSome E_BUSY])
    (fun t => match freeSlot t r.world with
      | none => (t, some (E_BUSY, []))
      | some i =>
        let ident := drawnIdent t
        let sig := partSig t r.world
        let script := leBytes 4 (i + 8 * ident) ++ leBytes 1 r.world ++ beBytes 97 qh ++ beBytes 1184 kemEk ++ leBytes 32 nonce ++ leBytes 8 Config.serial.toNat
        let (th1, keys, offer) := Config.handshake t.fresh script
        let x : Session := { freeSession with phase := 1, world := r.world, path := r.path, peer := peer, ident := ident, partsig := sig, last := t.now, th1 := th1, keys := keys }
        let sigs : List (Nat × List Byte) := if sig then [(5, certBytes (at! t.keys.certs r.world none)), (6, beBytes 96 (Config.signEc (t.slotKey (if r.world = 1 then 15 else 18)) 3 [th1.toNat] t.fresh).toNat),
            (7, Config.signPq (t.slotKey (if r.world = 1 then 16 else 19)) 3 [th1.toNat] t.fresh)] else []
        ((((t.setSession i x).drawn).asked 19).notePeer r.path r.seq peer, some (OK, frameTlvs ([(3, padTo 97 offer), (0x100, leBytes 4 (i + 8 * ident)), (0x101, padTo 1088 (offer.drop 97)),
          (0x102, padTo 32 (offer.drop 1185)), (0x103, leBytes 1 (flag sig))] ++ sigs)))))

/-- A host certificate is accepted (R431). -/
def hostCertOk (s : State) (world : Nat) (c : Cert) : Bool :=
  c.head == certHead && c.role == (if world = 1 then 5 else 6) && (c.serial == 0 || c.serial == Config.serial.toNat) && decide (c.validFrom ≤ s.now) &&
  (if world = 1 then (match s.ownerRoot with | some h => c.issuer == h.toNat | none => false)
    else c.issuer == beNat ((List.range 12).flatMap (fun i => w4 s (r_CMD_OPAUTH i)))) &&
  Config.sigValid (BitVec.ofNat 384 c.issuer) certContext (certMessage c) c.sig.ec c.sig.pq

/-- TH2 (R430). -/
def th2 (x : Session) (c : Cert) : Nat :=
  (Config.sha384 (beBytes 48 x.th1.toNat ++ beBytes 48 (Config.sha384 (certBytes (some c))).toNat)).toNat

/-- SESSION.FINISH (R429 step 4): established, or answered E_SESSION and the slot freed. -/
def execSessionFinish (r : Req) (cert : Cert) (sig : Sig) (s : State) : Out :=
  done (runCmd s r 0x0111 anyLc (fun _ => [])
    (fun t =>
      let x := t.session r.slot
      if hostCertOk t x.world cert && Config.sigValid (BitVec.ofNat 384 cert.hashEc) 3 [th2 x cert] sig.ec sig.pq then
        (t.setSession r.slot { x with phase := 2, seqHi := r.seq, last := t.now }, some (OK, []))
      else ((t.reply r 0x0111 E_SESSION []).closeSession r.slot false, none)))

/-- A descriptor that no firmware has taken yet, of the session in slot `i` other than its SESSION.CLOSE. -/
def unstarted (s : State) (i seq : Nat) (d : Nat × Nat × Nat × Nat) : Bool :=
  let a := s.fget (f_CMD_QBASE_VALUE d.1) + 16 * d.2.1
  d.2.2.2 == (s.session i).ident && s.peekN a 1 == 1 && s.peekN (a + 1) 1 == i && s.peekN (a + 4) 4 != seq

/-- Commands of a session that no firmware has taken are discarded: their descriptors are done. -/
def State.discardNew (s : State) (i seq : Nat) : State :=
  (s.cmd.interims.filter (unstarted s i seq)).foldl (fun t d =>
    let t1 : State := { t with cmd := { t.cmd with interims := t.cmd.interims.erase d } }
    State.dmaWrite (t1.setSession i { t1.session i with outst := (t1.session i).outst - 1 }) (t1.fget (f_CMD_QBASE_VALUE d.1) + 16 * d.2.1) [3]) s

/-- SESSION.CLOSE (R435): commands not yet started are discarded, those started are answered, and the close reply is the last of the session. -/
def execSessionClose (r : Req) (s : State) : Out :=
  done (runCmd s r 0x0112 anyLc (fun _ => [need (decide (r.slot < 8)) E_SESSION])
    (fun t =>
      let t1 := t.discardNew r.slot r.seq
      (State.endClose (t1.setSession r.slot { t1.session r.slot with closing := some r }) r.slot, none)))

/-- SESSION_FINISH_TIMEOUT (R429): a pending slot is freed 10 s after the reply to SESSION.OPEN. -/
def execSessionFinishTimeout (at_ slot : Nat) (s : State) : Out :=
  let t := s.at at_
  done (if (t.session slot).phase = 1 ∧ (t.session slot).last + 10 * ticksPerS ≤ t.now then t.closeSession slot false else t)

/-- SESSION_IDLE_TIMEOUT (R435): CMD_IDLE seconds without an accepted packet. -/
def execSessionIdleTimeout (at_ slot : Nat) (s : State) : Out :=
  let t := s.at at_
  done (if (t.session slot).phase = 2 ∧ (t.session slot).last + t.regN r_CMD_IDLE * ticksPerS ≤ t.now then t.closeSession slot true else t)

/-- CMD_SESS[s] and CMD_STATUS as they read (R448). -/
def sessWord (s : State) (i : Nat) : Nat :=
  let x := s.session i
  if x.phase = 0 then 0
  else x.world * 2 ^ 30 + x.path * 2 ^ 27 + min 64 x.outst * 2 ^ 20 + min 8 x.tagf * 2 ^ 16 + satU 16 ((s.now - x.last) / ticksPerS)

def sessBits (s : State) (p : Session → Bool) : Nat :=
  (List.range 8).foldl (fun n i => if p (s.session i) then n + 2 ^ i else n) 0

def cmdStatusWord (s : State) : Nat :=
  sessBits s (fun x => x.phase != 0 && x.partsig) * 2 ^ 16 + sessBits s (fun x => x.phase == 1) * 2 ^ 8 + sessBits s (fun x => x.phase == 2)

/-- SESSION.READ: CMD_SESS of every slot. -/
def execSessionRead (r : Req) (s : State) : Out :=
  done (runCmd s r 0x0113 anyLc (fun _ => []) (readEff fun t => (List.range 8).flatMap (fun i => leBytes 4 (sessWord t i))))

/-! ### Fault records as the host and firmware see them (R511, R516, R518) -/

/-- Insertion in presentation order: higher severity first, then older. -/
def insFault (r : FaultRec) : List FaultRec → List FaultRec
  | [] => [r]
  | x :: t => if x.sev < r.sev then r :: x :: t else x :: insFault r t

def presentationOrder (q : List FaultRec) : List FaultRec := q.foldl (fun l r => insFault r l) []

/-- DEVICE.READ_FAULTS. -/
def execDeviceReadFaults (r : Req) (first count : Nat) (s : State) : Out :=
  done (runCmd s r 0x0103 anyLc (fun _ => [need (decide (first ≤ 31)) (blame E_PARAM_RANGE 0x0100), need (decide (1 ≤ count ∧ count ≤ 32)) (blame E_PARAM_RANGE 0x0101)])
    (readEff fun t => (((presentationOrder t.flt.queue).drop first).take count).flatMap FaultRec.bytes))

/-- FAULT_ACK (R511): the presented record is removed. -/
def execFaultAck (w : Wr) (s : State) : Out :=
  done (guarded s w r_FLT_ACK fun t =>
    if bit w.value 0 then
      match presented t.flt.queue with
      | some x => { t with flt := { t.flt with queue := t.flt.queue.erase x } }
      | none => t
    else t)

/-- FLT_STATUS as it reads. -/
def fltStatusWord (s : State) : Nat :=
  let q := s.flt.queue
  min 3 (q.filter (fun r => bit r.rflags 5)).length * 2 ^ 12 + flag (!q.isEmpty) * 2 ^ 10 +
    (match presented q with | some r => r.sev | none => 0) * 2 ^ 8 + q.length

/-- FLT_REC[i] as it reads. -/
def fltRecWord (s : State) (i : Nat) : Nat :=
  match presented s.flt.queue with
  | some r => leNat ((r.bytes.drop (4 * i)).take 4)
  | none => 0

end Sys2Proof.Machine
end

