-- ==== Sys2Proof/Machine/Transit.lean ====
section
/-!
DEFINITION. Machine/Transit.lean: the Transit rings (chapter 3): sample instants and rates, enumeration, trains, node commands, breaks and rejoin.
-/
namespace Sys2Proof.Machine

/-! ### Instants and rates (R59, R60) -/

/-- S_k. -/
def stampOf (k : Nat) : Nat := k * 390625 / 8
/-- The latest instant whose stamp is not later than `t`. -/
def instantAt (t : Nat) : Nat := (8 * (t + 1) - 1) / 390625
/-- The stamp of the latest grid instant not later than `t`. -/
def gridFloor (t : Nat) : Nat := stampOf (instantAt t)

/-- Whether an instant is sampled at a RATE code. -/
def sampledAt (rate k : Nat) : Bool := k % 2 ^ rate == 0

/-- The RATE code in force at instant `k`. -/
def rateOf : List (Nat × Nat) → Nat → Nat
  | [], _ => 0
  | (k0, r) :: t, k => if k0 ≤ k then r else rateOf t k

def State.sampled (s : State) (k : Nat) : Bool := sampledAt (rateOf s.tr.rates k) k

/-- The first instant with k a multiple of 8 at least 250 µs after `t` (R60). -/
def rateInstant (t : Nat) : Nat := ((8 * t + 781250 + 390624) / 390625 + 7) / 8 * 8

/-- A rate that takes effect on the rings (R60): TRG_STATUS and TRG_RATE_STAMP. -/
def State.ringRateEffect (s : State) (rate k : Nat) : State :=
  ({ s with tr := { s.tr with pending := none, rates := (k, rate) :: s.tr.rates } }.fputs [(f_TRG_STATUS_RATE, rate), (f_TRG_STATUS_RPEND, 0)]).put64
    r_TRG_RATE_STAMP_LO r_TRG_RATE_STAMP_HI (stampOf k)

/-! ### A ring's state -/

def State.ring (s : State) (r : Nat) : RingState := at! s.tr.rings r RingState.reset
def State.setRing (s : State) (r : Nat) (x : RingState) : State := { s with tr := { s.tr with rings := setAt s.tr.rings r x } }
def State.ringState (s : State) (r : Nat) : Nat := s.fget (f_TR_STATUS_STATE r)
/-- Rings 0–7 alone exist. -/
def onRing (s : State) (r : Nat) (f : State → State) : State := if r < 8 then f s else s

/-- STATE with the ring's bits of TRG_STATUS, and its membership of the source set (R101). -/
def State.putRingState (s : State) (r st : Nat) : State :=
  let s1 := (s.fput (f_TR_STATUS_STATE r) st).putBit f_TRG_STATUS_UP r (st == 3 || st == 4)
  let up := (st == 3 || st == 4) && !(r == 7 && s.isSet f_TRG_CTRL_UPLINK)
  let s2 := (s1.putBit f_TRG_STATUS_BROKEN r (st == 4)).fput (f_ALM_SRC_CFG_MEMBER r) (flag up)
  if up then s2 else s2.putBit f_ALM_STATUS_EXPIRED r false

def State.isAsm (s : State) (r : Nat) : Bool := decide (4 ≤ r) && s.bitOf f_TRG_CTRL_ASM (r - 4)

/-- Commands join the ring's queue. -/
def State.queueCmds (s : State) (r : Nat) (cs : List NodeCmd) : State := s.setRing r { s.ring r with cmds := (s.ring r).cmds ++ cs }

def nodesOf (x : RingState) : List Nat := (List.range 16).filter (fun n => (at! x.serials n none).isSome)

/-- Nodes that a second cut leaves unreachable (R85), or that end A no longer reaches while AUTOBREAK is 0 (R89). -/
def State.reachable (s : State) (r n : Nat) : Bool :=
  let la := s.fget (f_TR_BREAK_LAST_A r)
  let fb := s.fget (f_TR_BREAK_FIRST_B r)
  if s.isSet (f_TR_BREAK_ACTIVE r) then
    (la != 31 && decide (n ≤ la)) || (s.isSet (f_TR_CTRL_AUTOBREAK r) && fb != 31 && decide (fb ≤ n)) || (la == 31 && fb == 31)
  else true

/-- A node that only end B reaches: in break mode with AUTOBREAK, the nodes from FIRST_B on. -/
def State.fromB (s : State) (r n : Nat) : Bool :=
  s.isSet (f_TR_BREAK_ACTIVE r) && s.isSet (f_TR_CTRL_AUTOBREAK r) && s.fget (f_TR_BREAK_FIRST_B r) != 31 && decide (s.fget (f_TR_BREAK_FIRST_B r) ≤ n)

/-- The nodes of the segment that an end's trains serve (R63): outside break mode every node, whichever end sends. An acting manager is both ends of
its ring 7: end A, SRC 0, is its downstream port, and end B its upstream port (R489). -/
def State.segment (s : State) (r : Nat) (endB : Bool) : List Nat :=
  if r = 7 ∧ s.fget f_ASM_STATUS_ROLE = 3 then
    (List.range 16).filter (fun n => if endB then decide (n < s.tr.up.addr.getD 16) else decide (s.tr.up.addr.getD 16 < n))
  else if s.isSet (f_TR_BREAK_ACTIVE r) then (List.range 16).filter (fun n => s.reachable r n && s.fromB r n == endB) else List.range 16

/-- Whether end B sends trains: in break mode with AUTOBREAK once step 3 of R83 has begun, and on an acting manager's ring 7. -/
def State.bothEnds (s : State) (r : Nat) : Bool :=
  (s.ringState r == 4 && s.isSet (f_TR_CTRL_AUTOBREAK r) && (s.ring r).resent) || (r == 7 && s.fget f_ASM_STATUS_ROLE == 3)

/-- Ring 7 is out of cell service while it is the Assembly uplink (R87), unless the part is an acting manager (R489). -/
def State.ringInService (s : State) (r : Nat) : Bool := !(r == 7 && s.isSet f_TRG_CTRL_UPLINK) || s.fget f_ASM_STATUS_ROLE == 3

def State.nodeLocus (s : State) (r n : Nat) : Nat := s.locus r n 0 0

/-! ### Rejoin (R86) -/

/-- SET_WRAP, mode 0, to the wrapped nodes on either side of the break, ahead of the queue. -/
def State.sendWrap (s : State) (r k : Nat) : State :=
  let cmd (n : Nat) (b : Bool) : List NodeCmd := if n = 31 then [] else [⟨n, 0x07, leBytes 1 0 ++ leBytes 4 (stampOf k), b⟩]
  let x := s.ring r
  s.setRing r { x with askRejoin := false, rejoin := some k,
                       cmds := cmd (s.fget (f_TR_BREAK_LAST_A r)) false ++ cmd (s.fget (f_TR_BREAK_FIRST_B r)) true ++ x.cmds }

/-- A rejoin set on the train at which a rate change takes effect moves to the next train. -/
def State.moveRejoin (s : State) (k r : Nat) : State := if (s.ring r).rejoin = some k then s.sendWrap r (k + 1) else s

/-- A rejoin is asked for; it waits until no retransmission is outstanding. -/
def State.beginRejoin (s : State) (r : Nat) : State := s.setRing r { s.ring r with askRejoin := true }

/-- Retransmissions outstanding. -/
def retxPending (fr : List Expected) : Bool := fr.any (fun e => decide (0 < e.tries))

/-- What a rejoin does as train `k` departs: with none outstanding it is set two trains ahead, never on a rate change; at its train it heals. -/
def State.rejoinStep (s : State) (r k : Nat) : State :=
  let x := s.ring r
  match x.rejoin with
  | none =>
    if x.askRejoin && !retxPending x.frames then
      s.sendWrap r (match s.tr.pending with | some (_, ke) => if ke = k + 2 then k + 3 else k + 2 | none => k + 2)
    else s
  | some j =>
    if k < j then s
    else
      let s1 := (s.setRing r { x with rejoin := none, goodTrains := 0, resent := false }).putRingState r 3
      (s1.fputs [(f_TR_BREAK_ACTIVE r, 0), (f_TR_BREAK_LAST_A r, 31), (f_TR_BREAK_FIRST_B r, 31), (f_TR_REJOIN_STAMP_TSTAMP r, stampOf j)]).raise (f_TR_IRQ_REJOIN r)

/-! ### A rate change is requested (R60) -/

/-- The request: its instant is fixed, and a rejoin set on that train moves. -/
def State.requestRate (s : State) (rate : Nat) : State :=
  (List.range 8).foldl (fun t r => t.moveRejoin (rateInstant s.now) r)
    ({ s with tr := { s.tr with pending := some (rate, rateInstant s.now) } }.fputs [(f_TRG_CTRL_RATE, rate), (f_TRG_STATUS_RPEND, 1),
      (f_SPG_STATUS_REGEN, 1)])

/-- TRANSIT.SET_RATE. -/
def execTransitSetRate (r : Req) (rate : Nat) (s : State) : Out :=
  done (runCmd s r 0x0301 anyLc
    (fun t => [need (decide (rate < 4)) (blame E_PARAM_RANGE 0x0100), need t.tr.pending.isNone E_BUSY, need (!t.locked r_TRG_CTRL) E_PARAM_CONFLICT])
    (okEff fun t => t.requestRate rate))

/-! ### Start-up and enumeration (R78–R80) -/

/-- PRESENT bits cleared, with their interrupt when one was set (R89). -/
def State.dropPresent (s : State) (r keep : Nat) : State :=
  let p := s.fget (f_TR_NODES_PRESENT r)
  if p &&& keep = p then s else (s.fput (f_TR_NODES_PRESENT r) (p &&& keep)).raise (f_TR_IRQ_NODE_LOST r)

/-- A ring starts: CLEAR_ADDR to every node, and the receivers' lock is awaited. Frames expected before the start are expected no more, and
ROSTER_MISMATCH starts afresh (log entry 87). A ring 7 that is the uplink does not start. -/
def State.startRing (s : State) (r : Nat) : State :=
  if !s.ringInService r then s
  else
    let x := s.ring r
    let y : RingState := { RingState.reset with
                           roster := x.roster, rosterSet := x.rosterSet, step := 1, started := s.now, nodeReq := x.nodeReq,
                           cmds := [⟨0x1E, 0x0A, [], false⟩] }
    (((s.setRing r y).putRingState r 1).dropPresent r 0).fputs [(f_TR_STATUS_ROSTER_MISMATCH r, 0), (f_TR_STATUS_LOOP_LONG r, 0), (f_TR_STATUS_RETX_PEND r, 0),
      (f_TR_NODES_COUNT r, 0), (f_TR_BREAK_ACTIVE r, 0), (f_TR_BREAK_LAST_A r, 31), (f_TR_BREAK_FIRST_B r, 31)]

/-- A ring stops: STATE 0; the frames it expected, its waiting commands and its enumeration are dropped (log entry 87). -/
def State.stopRing (s : State) (r : Nat) : State :=
  ((s.setRing r { s.ring r with step := 0, frames := [], cmds := [], rejoin := none, askRejoin := false }).putRingState r 0).fput (f_TR_STATUS_RETX_PEND r) 0

/-- TRANSIT.ENUMERATE. -/
def execTransitEnumerate (r : Req) (ring : Nat) (s : State) : Out :=
  done (runCmd s r 0x0302 anyLc (fun _ => [need (decide (ring < 8)) (blame E_PARAM_RANGE 0x0100)]) (okEff fun t => t.startRing ring))

/-- RING_ENABLE_WRITE: setting TR_CTRL.EN starts the ring; clearing it turns the ring off (log entry 87). -/
def execRingEnableWrite (w : Wr) (ring : Nat) (s : State) : Out :=
  done (guarded s w (r_TR_CTRL ring) fun t => onRing t ring fun t =>
    let was := t.isSet (f_TR_CTRL_EN ring)
    let t1 := t.writeWord (r_TR_CTRL ring) w.value
    let is := t1.isSet (f_TR_CTRL_EN ring)
    if is && !was then t1.startRing ring
    else if was && !is then t1.stopRing ring
    else t1)

/-- RING_RETRY: a FAILED ring, every 100 ms. -/
def execRingRetry (at_ ring : Nat) (s : State) : Out :=
  done (onRing (s.at at_) ring fun t =>
    if t.ringState ring = 5 ∧ (t.ring ring).started + 100 * ticksPerMs ≤ t.now then t.startRing ring else t)

/-- Positions that no node holds in this enumeration. -/
def freePositions (x : RingState) : List Nat := (List.range 16).filter (fun n => (at! x.serials n none).isNone)

/-- The position ENUM names on an open ring before the serial is known: the lowest free one (log entry 88). -/
def openPosition (x : RingState) : Nat := (freePositions x).headD 16

/-- A node that answered ENUM on an open ring takes its roster's position; a serial with no roster entry takes the lowest free position, those that
the roster holds for another serial last (R78 step 7, log entry 88). -/
def rosterPosition (x : RingState) (serial : Nat) : Nat :=
  let free := freePositions x
  match free.find? (fun n => at! x.roster n none == some serial) with
  | some n => n
  | none => (free.find? (fun n => (at! x.roster n none).isNone)).getD (openPosition x)

/-- Delays and identities of the nodes found (steps 5 and 6): ECHO from both ends on a closed ring; on an open one each node is asked from the end
that reached it, before break mode begins (log entry 88). -/
def State.beginDelays (s : State) (r : Nat) : State :=
  let x := s.ring r
  let ns := nodesOf x
  let endOf (n : Nat) : Bool := x.isOpen && x.fromEnd.contains (n, true)
  let echo := if x.isOpen then ns.map (fun n => (⟨n, 0x02, [], endOf n⟩ : NodeCmd))
    else ns.map (fun n => ⟨n, 0x02, [], false⟩) ++ ns.map (fun n => ⟨n, 0x02, [], true⟩)
  s.setRing r { x with step := 5, waited := 0, cmds := x.cmds ++ echo ++ ns.map (fun n => ⟨n, 0x04, [], endOf n⟩) }

/-- Enumeration from an end is over: no answer within two trains, or no position left. -/
def State.endEnum (s : State) (r : Nat) : State :=
  let x := s.ring r
  let full := (freePositions x).isEmpty
  match x.step with
  | 2 =>
    if full then s.setRing r { x with step := 3, probeB := false, waited := 0 }
    else if x.isOpen then s.setRing r { x with step := 4, waited := 0 }
    else s.beginDelays r
  | 3 => s.beginDelays r
  | 4 => if full then s.setRing r { x with step := 3, probeB := true, waited := 0 } else s.beginDelays r
  | _ => s

/-- Step 7 begins: every address cleared from both ends, then ENUM from end A. -/
def State.openEnum (s : State) (r : Nat) : State :=
  (s.setRing r { s.ring r with
    step := 2, isOpen := true, next := 0, waited := 0, serials := List.replicate 16 none, good := List.replicate 16 none, fromEnd := [], fresh := [],
    cmds := [⟨0x1E, 0x0A, [], false⟩, ⟨0x1E, 0x0A, [], true⟩] }).fputs [(f_TR_STATUS_STATE r, 2), (f_TR_NODES_COUNT r, 0)]

/-- Lock of step 3, and the retry state when neither end locks within 2 ms. -/
def State.lockStep (s : State) (r : Nat) : State :=
  let x := s.ring r
  let a := s.isSet (f_TR_STATUS_A_LOCK r)
  let b := s.isSet (f_TR_STATUS_B_LOCK r)
  if a && b then (s.setRing r { x with step := 2 }).fput (f_TR_STATUS_STATE r) 2
  else if s.now < x.started + 2 * ticksPerMs then s
  else if a || b then s.openEnum r
  else (s.setRing r { x with step := 0, cmds := [] }).putRingState r 5

/-! ### Retransmission requests (R77, R83) -/

/-- A frame that waits for a RETX still in the queue is not asked for again. -/
def unsentTrain : Nat := 2 ^ 64

/-- What a RETX can ask for without a third request for any frame (R77): the oldest frame asked for less than twice, the newest, and the nodes with
none in that span that was asked for twice. -/
def retxSpan (fr : List Expected) : Option (Nat × Nat × List Nat) :=
  match fr.filter (fun e => decide (e.tries < 2)) with
  | [] => none
  | e :: t =>
    let lo := t.foldl (fun m x => min m x.k) e.k
    let nodes := (List.range 16).filter (fun n => (e :: t).any (fun x => x.node == n) && !fr.any (fun x => x.node == n && decide (lo ≤ x.k ∧ 2 ≤ x.tries)))
    let want := (e :: t).filter (fun x => nodes.contains x.node)
    if nodes.isEmpty then none else some (lo, want.foldl (fun m x => max m x.k) lo, nodes)

/-- The RETX of a span. -/
def retxFrame (lo hi : Nat) (nodes : List Nat) (endB : Bool) : NodeCmd :=
  ⟨0x1E, 0x06, leBytes 4 (stampOf lo) ++ leBytes 4 (stampOf hi) ++ leBytes 2 (nodes.foldl (fun m n => m + 2 ^ n) 0), endB⟩

/-- The frames that a RETX covers, each with one request more. -/
def countRequest (fr : List Expected) (lo hi : Nat) (nodes : List Nat) : List Expected :=
  fr.map (fun e => if nodes.contains e.node ∧ lo ≤ e.k ∧ e.k ≤ hi then { e with tries := e.tries + 1, due := unsentTrain } else e)

/-- A RETX for some of an end's expected frames joins the queue, at its front when `first`; `upTo` replaces the newest instant of its span. -/
def State.askRetx (s : State) (r : Nat) (fr : List Expected) (endB first : Bool) (upTo : Option Nat) : State :=
  match retxSpan fr with
  | none => s
  | some (lo, top, nodes) =>
    let hi := upTo.getD top
    let x := s.ring r
    let c := [retxFrame lo hi nodes endB]
    (s.setRing r { x with frames := countRequest x.frames lo hi nodes, cmds := if first then c ++ x.cmds else x.cmds ++ c }).fput (f_TR_STATUS_RETX_PEND r) 1

/-- The newest sampled instant. -/
def State.newestSampled (s : State) : Nat := s.alm.inst / 2 ^ rateOf s.tr.rates s.alm.inst * 2 ^ rateOf s.tr.rates s.alm.inst

/-- The frames expected of an end's segment. -/
def State.segmentFrames (s : State) (r : Nat) (endB : Bool) : List Expected :=
  (s.ring r).frames.filter (fun e => (s.segment r endB).contains e.node && s.reachable r e.node)

/-- R83: a RETX for an end's own segment, from its oldest incomplete instant to the newest sampled instant. -/
def State.askSegment (s : State) (r : Nat) (endB : Bool) : State := s.askRetx r (s.segmentFrames r endB) endB true (some s.newestSampled)

/-! ### Trains (R61–R64) -/

/-- The Assembly rings this part drives: a manager's, but for those it is demoted from, and an acting manager's ring 7. -/
def State.drives (s : State) (r : Nat) : Bool :=
  match s.fget f_ASM_STATUS_ROLE with
  | 1 => s.isAsm r && !s.asm.demoted.contains r
  | 3 => r == 7
  | _ => false

/-- Whether trains run on the ring, so that a break can be declared. -/
def State.running (s : State) (r : Nat) : Bool := s.ringState r == 3 || s.ringState r == 4

/-- The RATE code at an instant to come. -/
def State.rateAt (s : State) (k : Nat) : Nat :=
  match s.tr.pending with | some (p, ke) => if ke ≤ k then p else rateOf s.tr.rates k | none => rateOf s.tr.rates k

/-- FLAGS of a SYNC, and of a COLLECT set, whose bits the spec does not give: the same with SAMPLE 0 (log entry 89). -/
def syncFlags (s : State) (r k src : Nat) (collect : Bool) : Nat :=
  flag (!collect && sampledAt (s.rateAt k) k && s.running r) + 2 * s.rateAt k + 8 * src + 16 * flag (s.isAsm r || s.drives r)

/-- A TIME_HI carries the stamp of its own train (R113). -/
def fillCmd (k : Nat) (c : NodeCmd) : NodeCmd := if c.opc = 0x10 then { c with payload := leBytes 8 (stampOf k) } else c

/-- The mailbox command as it is sent. -/
def mailboxCmd (s : State) (r : Nat) : NodeCmd :=
  ⟨s.fget (f_TR_CMD_HDR_ADDR r), s.fget (f_TR_CMD_HDR_OPC r),
   ((List.range 4).flatMap (fun i => w4 s (r_TR_CMD_DATA r i))).take (s.fget (f_TR_CMD_HDR_LEN r)), s.isSet (f_TR_CMD_HDR_END r)⟩

/-- A RETX has left in train `k`: the frames it covers may be asked for again once that train has ended (log entry 89). -/
def retxSent (fr : List Expected) (c : NodeCmd) (k : Nat) : List Expected :=
  let f (o n : Nat) : Nat := leNat ((c.payload.drop o).take n)
  if c.opc = 0x06 then
    fr.map (fun e => if e.due = unsentTrain ∧ bit (f 8 2) e.node then { e with due := k } else e)
  else fr

/-- The command in the slot of a train from an end: the oldest of the part's own for that end, then the mailbox. -/
def State.slotCmd (s : State) (r k : Nat) (endB : Bool) : State × Option NodeCmd :=
  let x := s.ring r
  match x.cmds.find? (fun c => c.endB == endB) with
  | some c => (s.setRing r { x with cmds := x.cmds.erase c, frames := retxSent x.frames c k }, some (fillCmd k c))
  | none => if s.isSet (f_TR_CMD_HDR_GO r) && s.isSet (f_TR_CMD_HDR_END r) == endB then
      ((s.setRing r { x with mbTrains := 0 }).fputs [(f_TR_CMD_HDR_GO r, 0), (f_TR_CMD_HDR_BUSY r, 1), (f_TR_RSP_HDR_TIMEOUT r, 0)], some (mailboxCmd s r))
    else (s, none)

/-- R62: the nodes enumerated in an end's segment. -/
def State.served (s : State) (r : Nat) (endB : Bool) : Nat := ((nodesOf (s.ring r)).filter (fun n => (s.segment r endB).contains n)).length

/-- R63: RCAP, within the 0–16 of its field (log entry 89). -/
def State.rcap (s : State) (r : Nat) (endB : Bool) : Nat := min 16 (17 - s.served r endB)

/-- The characters of a command slot. -/
def slotChars : Option NodeCmd → List LineChar
  | some c => commandChars c.addr c.opc c.payload
  | none => []

/-- R63: the train of an end: SYNC, a command frame, and ETR, before which the nodes insert. -/
def State.train (s : State) (r k : Nat) (endB : Bool) (cmd : Option NodeCmd) : Train :=
  let fl := syncFlags s r k (flag endB) false
  ⟨k, fl, s.rcap r endB, false, cmd, syncSet (stampOf k % 2 ^ 32) fl (s.rcap r endB) ++ slotChars cmd ++ [.ctrl kETR]⟩

/-- The instant that the next train of an end heads (R61). -/
def State.nextTrain (s : State) : Nat := instantAt (s.now + 12500) + 1

/-- Characters of 100 ns that the line can carry before the next SYNC leaves an end. -/
def State.gapChars (s : State) : Nat := (stampOf s.nextTrain - 12500 - s.now) * 256 / 10000

/-- At least 20 µs remain before the next SYNC (R83). -/
def State.gapOk (s : State) : Bool := decide (200 ≤ s.gapChars)

/-- R63: a COLLECT train, with as many retransmitted frames as end before the next SYNC beside one response (log entry 89). -/
def State.collectTrain (s : State) (r : Nat) (endB : Bool) (cmd : Option NodeCmd) : Train :=
  let fl := syncFlags s r s.nextTrain (flag endB) true
  let maxf := min 17 ((s.gapChars - (4 + (slotChars cmd).length + 26 + 1)) / 68)
  ⟨s.nextTrain, fl, maxf, true, cmd, collectSet fl maxf ++ slotChars cmd ++ [.ctrl kETR]⟩

/-- A COLLECT train leaves an end, with the RETX that stands first in its queue. -/
def State.sendCollect (s : State) (r : Nat) (endB : Bool) : State :=
  let isRetx := match (s.ring r).cmds.find? (fun c => c.endB == endB) with | some c => c.opc == 0x06 | none => false
  let (s1, c) := if isRetx then s.slotCmd r s.nextTrain endB else (s, none)
  let tr := some (s.collectTrain r endB c)
  s1.setRing r (if endB then { s1.ring r with sentB := tr } else { s1.ring r with sentA := tr })

/-! ### Breaks (R82, R83, R89) -/

/-- BREAK_DECLARE: the position, STATE 4 and the interrupt; with AUTOBREAK, a COLLECT train from end B at once with a RETX for its segment, provided
20 µs remain. -/
def State.declareBreak (s : State) (r : Nat) (lastA firstB : Nat) : State :=
  let act := s.isSet (f_TR_BREAK_ACTIVE r)
  let s0 := if act then s else
    (s.fput (f_TR_BREAK_BREAKS r) (satU 8 (s.fget (f_TR_BREAK_BREAKS r) + 1))).takeFault 7 1 r (lastA + 256 * firstB) 0
  let s1 := (s0.fputs [(f_TR_BREAK_ACTIVE r, 1), (f_TR_BREAK_LAST_A r, lastA), (f_TR_BREAK_FIRST_B r, firstB)]).raise (f_TR_IRQ_BREAK r)
  let x := s1.ring r
  let s2 := (s1.putRingState r 4).setRing r
    { x with goodTrains := 0, askRejoin := false, rejoin := none, resent := false, brokeAt := if act then x.brokeAt else s.now }
  if s.isSet (f_TR_CTRL_AUTOBREAK r) && s2.gapOk && (retxSpan (s2.segmentFrames r true)).isSome then (s2.askSegment r true).sendCollect r true else s2

/-- Step 3 of R83 begins with the first train at least 5 µs after the declaration: a RETX for each end's segment. -/
def State.breakStep (s : State) (r : Nat) : State :=
  let x := s.ring r
  if s.ringState r == 4 && s.isSet (f_TR_CTRL_AUTOBREAK r) && !x.resent && decide (15625 ≤ 8 * (s.now - x.brokeAt)) then
    (((s.setRing r { x with resent := true }).askSegment r false)).askSegment r true
  else s

/-- Break mode of an open ring (R78 step 7): the nodes that answered from each end. -/
def State.enterOpen (s : State) (r : Nat) : State :=
  let x := s.ring r
  let ends (b : Bool) : List Nat := (x.fromEnd.filter (fun p => p.2 == b)).map (·.1)
  let la := match ends false with | [] => 31 | n :: t => t.foldl max n
  let fb := match ends true with | [] => 31 | n :: t => t.foldl min n
  (s.setRing r { x with step := 0 }).declareBreak r la fb

/-- What enumeration does as a train departs: it sends ENUM, counts the trains without an answer once the queue is empty, and starts the ring after
step 6. -/
def State.enumStep (s : State) (r : Nat) : State :=
  let x := s.ring r
  let ask (p : Nat) (endB : Bool) : State :=
    if x.waited = 0 then s.setRing r { x with waited := 1, cmds := x.cmds ++ [⟨0x1F, 0x01, leBytes 1 p, endB⟩] }
    else if !x.cmds.isEmpty then s
    else if 3 ≤ x.waited then (if x.step = 3 then (s.fput (f_TR_STATUS_OVERPOP r) 0).endEnum r else s.endEnum r)
    else s.setRing r { x with waited := x.waited + 1 }
  match x.step with
  | 1 => s.lockStep r
  | 2 => ask (if x.isOpen then openPosition x else x.next) false
  | 3 => ask 16 x.probeB
  | 4 => ask (openPosition x) true
  | 5 =>
    if !x.cmds.isEmpty then s.setRing r { x with waited := 0 }
    else if x.waited < 2 then s.setRing r { x with waited := x.waited + 1 }
    else if x.isOpen then s.enterOpen r
    else if s.isSet (f_TR_STATUS_LOOP_LONG r) then s
    else (s.setRing r { x with step := 0, roster := if x.rosterSet then x.roster else x.serials, rosterSet := true }).putRingState r 3
  | _ => s

/-- A serial unlike the roster (R80). -/
def State.rosterCheck (s : State) (r n serial : Nat) : State :=
  let x := s.ring r
  let held := (at! x.roster n none).getD 0
  if x.rosterSet && held != serial then
    ((s.fput (f_TR_STATUS_ROSTER_MISMATCH r) 1).raise (f_TR_IRQ_ROSTER r)).emit (s.nodeLocus r n) 4 2 (leBytes 4 held ++ leBytes 4 serial)
  else s

/-- A node took position `p` from an end. -/
def State.enumTaken (s : State) (r p serial : Nat) (endB : Bool) (next : Nat) (more : List NodeCmd) : State :=
  let x := s.ring r
  let s1 := s.setRing r { x with
    serials := setAt x.serials p (some serial), good := setAt x.good p none, fromEnd := (p, endB) :: x.fromEnd, fresh := p :: x.fresh, next := next, waited := 0, cmds := x.cmds ++ more }
  let s2 := s1.fput (f_TR_NODES_COUNT r) (nodesOf (s1.ring r)).length
  if (freePositions (s2.ring r)).isEmpty then s2.endEnum r else s2

/-- An answer to ENUM (R78 steps 4 and 7, R79, R81). On an open ring a node that answered with another position than its own is cleared and
addressed again; its second answer tells nothing new. -/
def State.enumAnswer (s : State) (r n nstat : Nat) (payload : List Byte) : State :=
  let x := s.ring r
  let serial := leNat (payload.take 4)
  if x.step = 2 ∧ !x.isOpen ∧ nstat = 0 then s.enumTaken r x.next serial false (x.next + 1) []
  else if (x.step = 2 ∨ x.step = 4) ∧ nstat = 0 then
    if x.serials.contains (some serial) then s.setRing r { x with waited := 0 }
    else
      let b := decide (x.step = 4)
      let p := rosterPosition x serial
      s.enumTaken r p serial b x.next (if p = openPosition x then [] else [⟨openPosition x, 0x0A, [], b⟩, ⟨0x1F, 0x01, leBytes 1 p, b⟩])
  else if x.step = 3 ∧ nstat = 2 then
    (((s.fput (f_TR_STATUS_OVERPOP r) 1).raise (f_TR_IRQ_ROSTER r)).emit (s.nodeLocus r 15) 4 3 []).endEnum r
  else if x.step = 0 ∧ nstat = 0 ∧ n < 16 then
    let s1 := s.setRing r { x with serials := setAt x.serials n (some serial) }
    (s1.fput (f_TR_NODES_COUNT r) (nodesOf (s1.ring r)).length).raise (f_TR_IRQ_NODE_NEW r)
  else s

/-- A measured delay of a node, in ns. -/
def State.delayA (s : State) (r n : Nat) : Nat := if n % 2 = 0 then s.fget (f_TR_DELAY_A_EVEN r (n / 2)) else s.fget (f_TR_DELAY_A_ODD r (n / 2))
def State.delayB (s : State) (r n : Nat) : Nat := if n % 2 = 0 then s.fget (f_TR_DELAY_B_EVEN r (n / 2)) else s.fget (f_TR_DELAY_B_ODD r (n / 2))

/-- The end nearer a node (R81): in break mode the one that reaches it, else the one with the shorter delay. -/
def State.nearB (s : State) (r n : Nat) : Bool :=
  if s.isSet (f_TR_BREAK_ACTIVE r) then s.fromB r n else decide (s.delayB r n < s.delayA r n)

/-- A node found reset (R81): its position again from the nearer end, its serial, its delays. No frame of it before the re-addressing dates one after
(R95), and the FIRST that follows it is no further reset. -/
def State.nodeReset (s : State) (r n : Nat) : State :=
  let b := s.nearB r n
  let x := s.ring r
  let d := (at! x.sdly n none).getD (0, 0)
  s.setRing r { x with good := setAt x.good n none, fresh := n :: x.fresh,
                       cmds := x.cmds ++ [⟨0x1F, 0x01, leBytes 1 n, b⟩, ⟨n, 0x04, [], b⟩, ⟨n, 0x03, leBytes 2 d.1 ++ leBytes 2 d.2, b⟩] }

/-- TRANSIT.ACCEPT_ROSTER: the roster becomes the current assignment, and no mismatch is left (log entry 87); it resets the affected cell states (R147, R152). -/
def State.acceptRoster (s : State) (r : Nat) : State :=
  let x := s.ring r
  let mask := (List.range 16).map (fun n => if (at! x.serials n none).isSome then at! x.popMask n 0 else 0)
  (s.setRing r { x with roster := x.serials, rosterSet := true, popMask := mask }).fput (f_TR_STATUS_ROSTER_MISMATCH r) 0

/-- Positions whose roster serial an ACCEPT_ROSTER replaces. -/
def rosterChanges (x : RingState) : List Nat := (List.range 16).filter (fun n => at! x.roster n none != at! x.serials n none)

/-! ### Delays (R66) -/

/-- A 16-bit delay differs from another by more than 2 ns. -/
def farApart (a b : Nat) : Bool := decide (2 < (signed 16 a - signed 16 b).natAbs)

/-- A delay register pair written. -/
def State.putDelay (s : State) (r n da db : Nat) : State :=
  if n % 2 = 0 then s.fputs [(f_TR_DELAY_A_EVEN r (n / 2), da), (f_TR_DELAY_B_EVEN r (n / 2), db)]
  else s.fputs [(f_TR_DELAY_A_ODD r (n / 2), da), (f_TR_DELAY_B_ODD r (n / 2), db)]

/-- The round trip of a node measured from an end gives that end's delay; the other end's is L less it. On a ring without a loop, which an open ring
and an acting manager's are, only the measured delay changes. SDLY is sent again when either value moved by more than 2 ns; on an Assembly ring
TIME_HI follows (R113). -/
def State.takeDelay (s : State) (r n rt : Nat) (endB : Bool) : State :=
  let l := s.fget (f_TR_LOOP_TIME_LOOP r)
  let d := (rt - 1000) / 2
  let loop := !(s.ring r).isOpen && !(r == 7 && s.fget f_ASM_STATUS_ROLE == 3)
  let da := if endB then (if loop then l - d else s.delayA r n) else d
  let db := if endB then d else if loop then l - d else s.delayB r n
  let sa := unsignedBits 16 (32000 - (da : Int))
  let sb := unsignedBits 16 (32000 - (db : Int))
  let s1 := s.putDelay r n da db
  let moved := match at! (s.ring r).sdly n none with | none => true | some (a, b) => farApart a sa || farApart b sb
  if moved then
    let x := s1.ring r
    s1.setRing r { x with sdly := setAt x.sdly n (some (sa, sb)), cmds := x.cmds ++ [⟨n, 0x03, leBytes 2 sa ++ leBytes 2 sb, endB⟩] ++
      (if s.isAsm r then [⟨n, 0x10, [], endB⟩] else []) }
  else s1

/-! ### The mailbox (R75, R89) -/

/-- A mailbox command is complete: its response, or a refusal by the part. -/
def State.mailboxDone (s : State) (r node opc nstat : Nat) (payload : List Byte) : State :=
  let p := padTo 16 payload
  let s1 := (List.range 4).foldl (fun t i => t.setRegN (r_TR_RSP_DATA r i) (leNat ((p.drop (4 * i)).take 4))) s
  let s2 := (s1.fputs [(f_TR_CMD_HDR_BUSY r, 0), (f_TR_CMD_HDR_GO r, 0), (f_TR_RSP_HDR_VALID r, 1), (f_TR_RSP_HDR_TIMEOUT r, 0), (f_TR_RSP_HDR_NODE r, node),
    (f_TR_RSP_HDR_LEN r, payload.length), (f_TR_RSP_HDR_NSTAT r, nstat), (f_TR_RSP_HDR_OPC r, opc)]).raise (f_TR_IRQ_CMD_DONE r)
  match (s2.ring r).nodeReq with
  | none => s2
  | some q => (s2.setRing r { s2.ring r with nodeReq := none }).reply q 0x0307 OK (leBytes 4 (s2.regN (r_TR_RSP_HDR r)) ++ payload)

/-- The opcodes firmware may send. -/
def mailboxOpc (opc : Nat) : Bool := opc == 0x02 || opc == 0x04 || opc == 0x08 || opc == 0x09

/-- GO with the header's fields: the command awaits a slot, or is refused with NSTAT 0xFF. -/
def State.mailboxGo (s : State) (r : Nat) : State :=
  if mailboxOpc (s.fget (f_TR_CMD_HDR_OPC r)) then s.fput (f_TR_CMD_HDR_GO r) 1
  else s.mailboxDone r (s.fget (f_TR_CMD_HDR_ADDR r)) (s.fget (f_TR_CMD_HDR_OPC r)) 0xFF []

def mailboxBusy (s : State) (r : Nat) : Bool := s.isSet (f_TR_CMD_HDR_GO r) || s.isSet (f_TR_CMD_HDR_BUSY r)

def execMailboxGo (w : Wr) (ring : Nat) (s : State) : Out :=
  done (guarded s w (r_TR_CMD_HDR ring) fun t => onRing t ring fun t =>
    if bit w.value 31 then (if mailboxBusy t ring then t else (t.writeWord (r_TR_CMD_HDR ring) (w.value % 2 ^ 31)).mailboxGo ring)
    else t.writeWord (r_TR_CMD_HDR ring) w.value)

/-- MAILBOX_TIMEOUT: no response within four trains. TR_RSP_HDR holds no response, so VALID is 0 and CMD_DONE is not raised; NODE and OPC are the
command's (log entry 87). -/
def execMailboxTimeout (at_ ring : Nat) (s : State) : Out :=
  done (onRing (s.at at_) ring fun t =>
    if t.isSet (f_TR_CMD_HDR_BUSY ring) ∧ 4 ≤ (t.ring ring).mbTrains then
      let t1 := t.fputs [(f_TR_CMD_HDR_BUSY ring, 0), (f_TR_RSP_HDR_VALID ring, 0), (f_TR_RSP_HDR_TIMEOUT ring, 1), (f_TR_RSP_HDR_LEN ring, 0),
        (f_TR_RSP_HDR_NODE ring, t.fget (f_TR_CMD_HDR_ADDR ring)), (f_TR_RSP_HDR_OPC ring, t.fget (f_TR_CMD_HDR_OPC ring)), (f_TR_RSP_HDR_NSTAT ring, 0)]
      match (t1.ring ring).nodeReq with
      | none => t1
      | some q => (t1.setRing ring { t1.ring ring with nodeReq := none }).reply q 0x0307 OK (w4 t1 (r_TR_RSP_HDR ring))
    else t)

/-- TRANSIT.NODE_REQUEST: through the mailbox; the reply follows the response. -/
def execTransitNodeRequest (r : Req) (ring end_ node opc : Nat) (payload : List Byte) (s : State) : Out :=
  done (runCmd s r 0x0307 anyLc
    (fun t => [need (decide (ring < 8)) (blame E_PARAM_RANGE 0x0100), need (decide (end_ < 2)) (blame E_PARAM_RANGE 0x0101), need (decide (node < 16)) (blame E_PARAM_RANGE 0x0102), need (decide (opc < 256)) (blame E_PARAM_RANGE 0x0103),
               need (decide (payload.length ≤ 16)) (blame E_PARAM_RANGE 0x0104), need (!mailboxBusy t ring) E_BUSY])
    (fun t =>
      let p := padTo 16 payload
      let t1 := (List.range 4).foldl (fun u i => u.setRegN (r_TR_CMD_DATA ring i) (leNat ((p.drop (4 * i)).take 4))) t
      let t2 := t1.fputs [(f_TR_CMD_HDR_END ring, end_), (f_TR_CMD_HDR_LEN ring, payload.length), (f_TR_CMD_HDR_ADDR ring, node), (f_TR_CMD_HDR_OPC ring, opc)]
      ((t2.setRing ring { t2.ring ring with nodeReq := some r }).mailboxGo ring, none)))

/-- A worker no longer holds the seal asked for (R487): an event with its DEVICE and SEAL_SEQ, the lowest one sent. -/
def State.sealGone (s : State) (r node : Nat) : State :=
  let base := if s.fget f_ASM_STATUS_ROLE = 3 then (s.fget f_ASM_STATUS_DEVICE - 1) / 16 else r - 4
  let d := 16 * base + node + 1
  match (s.asm.reqs.filter (fun x => x.1 == d && x.2.2)).foldl (fun m x => match m with | some p => some (min p x.2.1) | none => some x.2.1) none with
  | none => s
  | some q =>
    let s1 : State := { s with asm := { s.asm with reqs := s.asm.reqs.filter (fun x => !(x.1 == d && x.2.1 == q)) } }
    s1.emit (s1.packLocus 0) 31 2 (leBytes 1 d ++ zeros 7 ++ leBytes 8 q)

/-- A response frame (R72, R73): it completes the mailbox's command, or the part's own. -/
def State.responseFrame (s : State) (r node opc nstat : Nat) (payload : List Byte) : State :=
  if s.isSet (f_TR_CMD_HDR_BUSY r) ∧ s.fget (f_TR_CMD_HDR_OPC r) = opc ∧ s.fget (f_TR_CMD_HDR_ADDR r) = node then
    s.mailboxDone r node opc nstat payload
  else if opc = 0x01 then s.enumAnswer r node nstat payload
  else if opc = 0x12 ∧ nstat = 2 then s.sealGone r node
  else if opc = 0x04 ∧ nstat = 0 ∧ node < 16 then
    let serial := leNat ((payload.drop 4).take 4)
    let x := s.ring r
    let mask := leNat ((payload.drop 9).take 2)
    (s.setRing r { x with serials := setAt x.serials node (some serial), popMask := setAt x.popMask node mask }).rosterCheck r node serial
  else s

/-- ECHO_REPLY (R66): the ordered set names its node twice, the second time inverted; delays keep in break mode. -/
def execEchoReply (at_ ring : Nat) (endB : Bool) (line : Line) (rt : Nat) (s : State) : Out :=
  done (onRing (s.at at_) ring fun t =>
    match echoOf (lineChars line) with
    | none => t
    | some node =>
      if 16 ≤ node then t
      else
        let t1 := if t.isSet (f_TR_CMD_HDR_BUSY ring) ∧ t.fget (f_TR_CMD_HDR_OPC ring) = 0x02 ∧ t.fget (f_TR_CMD_HDR_ADDR ring) = node
          then t.mailboxDone ring node 0x02 0 [] else t
        if t1.isSet (f_TR_BREAK_ACTIVE ring) then t1 else t1.takeDelay ring node rt endB)

/-- ECHO_SCHEDULE (R66): every node at least once a second. -/
def execEchoSchedule (at_ ring : Nat) (s : State) : Out :=
  done (onRing (s.at at_) ring fun t =>
    if t.ringState ring = 3 then t.queueCmds ring ((nodesOf (t.ring ring)).map (fun n => ⟨n, 0x02, [], t.bothEnds ring && (t.segment ring true).contains n⟩)) else t)

/-! ### Breaks and rejoin (R82–R86) -/

/-- The oldest instant later than stamp `w` of which a frame is expected. -/
def oldestFrame (w : Nat) (x : RingState) : Option Nat :=
  (x.frames.filter (fun e => decide (w < stampOf e.k))).foldl (fun m e => match m with | none => some e.k | some k => some (min k e.k)) none

/-- A BREAK set of a node: `upstream` for the code 0x01; during enumeration it restarts at step 7 of R78 (R85). -/
def State.breakSet (s : State) (r node : Nat) (upstream endB : Bool) : State :=
  if 16 ≤ node then s
  else if s.running r then
    let la := s.fget (f_TR_BREAK_LAST_A r)
    let fb := s.fget (f_TR_BREAK_FIRST_B r)
    let act := s.isSet (f_TR_BREAK_ACTIVE r)
    let count := s.fget (f_TR_NODES_COUNT r)
    if upstream then
      s.declareBreak r (if act && la != 31 then la else if node = 0 then 31 else node - 1) (if act && fb != 31 && endB then max fb node else node)
    else s.declareBreak r (if act && la != 31 then min la node else node) (if act && fb != 31 then fb else if node + 1 < count then node + 1 else 31)
  else if s.ringState r = 2 then s.openEnum r
  else s

/-- BREAK_SET_RECEIVED: an ordered set with a code violation is invalid (R55). -/
def execBreakSetReceived (at_ ring : Nat) (endB rd : Bool) (groups : List Nat) (s : State) : Out :=
  done (onRing (s.at at_) ring fun t =>
    match breakOf (lineChars ⟨rd, groups⟩) with
    | none => t
    | some (node, upstream) => t.breakSet ring node upstream endB)

/-- A break whose position no BREAK set has told yet; during the enumeration of a closed ring it restarts at step 7 of R78 (R85). -/
def State.breakUnplaced (s : State) (r : Nat) : State :=
  if s.ringState r = 3 then s.declareBreak r 31 31
  else if s.ringState r = 2 ∧ !(s.ring r).isOpen then s.openEnum r
  else s

/-- TRAIN_END_B_TIMEOUT: outside break mode, no train at end B within L + 5 µs. -/
def execTrainEndBTimeout (at_ ring : Nat) (s : State) : Out := done (onRing (s.at at_) ring fun t => t.breakUnplaced ring)

def execTransitRejoin (r : Req) (ring : Nat) (s : State) : Out :=
  done (runCmd s r 0x0303 anyLc
    (fun t => [need (decide (ring < 8)) (blame E_PARAM_RANGE 0x0100), need (t.ringState ring == 4) E_PARAM_CONFLICT]) (okEff fun t => t.beginRejoin ring))

def execAutoRejoin (at_ ring : Nat) (s : State) : Out :=
  done (onRing (s.at at_) ring fun t =>
    if t.ringState ring = 4 ∧ t.isSet (f_TR_CTRL_AUTOREJOIN ring) ∧ 8000 ≤ (t.ring ring).goodTrains ∧ (t.ring ring).rejoin.isNone ∧ (t.ring ring).askRejoin = false then t.beginRejoin ring else t)

/-! ### Duties of a train's departure (R61, R86, R200) -/

/-- Bleed settings that wait for a running ring go ahead of the queue, so that they leave within two trains (R200). -/
def State.sendBleeds (s : State) (r : Nat) : State :=
  if s.running r then
    let mine := s.sht.bleedWait.filter (fun p => p.1 == r)
    let cmds := mine.map (fun (_, n) => (⟨n, 0x05, leBytes 2 (s.fget (f_SHT_BLEED_MASK r n)) ++ leBytes 1 (s.fget (f_SHT_BLEED_DUTY r n)), s.fromB r n⟩ : NodeCmd))
    let s1 : State := { s with sht := { s.sht with bleedWait := s.sht.bleedWait.filter (fun p => p.1 != r) } }
    s1.setRing r { s1.ring r with cmds := cmds ++ (s1.ring r).cmds }
  else s

/-- R86: as train `k` departs, the train of instant k − 3 is judged: the run of trains on which every node reported LINKFLT 0 goes on or ends. A train
that carries no frames leaves the run as it was (log entry 89). -/
def State.judgeLinks (s : State) (r k : Nat) : State :=
  let x := s.ring r
  let j := k - 3
  let got := (x.clear.find? (fun p => p.1 == j)).map (·.2) |>.getD 0
  let all := (nodesOf x).all (fun n => bit got n)
  s.setRing r { x with clear := x.clear.filter (fun p => decide (j < p.1)), goodTrains := if s.sampled j && !all then 0 else x.goodTrains + 1 }

/-! ### The manager's own commands (R484, R487, R489) -/

/-- The Assembly ring's number less 4 as the assembly knows it: an acting manager serves the ring it was a worker on. -/
def State.asmRing (s : State) (r : Nat) : Nat := if s.fget f_ASM_STATUS_ROLE = 3 then (s.fget f_ASM_STATUS_DEVICE - 1) / 16 else r - 4

/-- ASM_ANNOUNCE, from an end. -/
def announceCmd (s : State) (r : Nat) (endB : Bool) : NodeCmd :=
  ⟨0x1E, 0x11, leBytes 4 (s.fget f_ASM_TERM_VALUE) ++ leBytes 2 s.life.assembly ++ leBytes 1 (s.fget f_ASM_DEPUTY_DEVICE) ++
    leBytes 1 (flag (s.fget f_ASM_STATUS_ROLE == 3) + 2 * s.asmRing r) ++ leBytes 8 Config.serial.toNat, endB⟩

/-- The lowest SEAL_REQ still to be sent to a worker of the ring. -/
def State.nextSealReq (s : State) (r : Nat) : Option (Nat × Nat) :=
  (s.asm.reqs.filter (fun (d, _, sent) => !sent && (d - 1) / 16 == s.asmRing r)).foldl
    (fun m (d, q, _) => match m with | some (_, p) => if q < p then some (d, q) else m | none => some (d, q)) none

/-- What the manager's duties add to the ring's queue for train `k`: ASM_ANNOUNCE in the first train of every 10 ms and the first after a
promotion, from each end that sends trains; a SEAL_REQ, one per train. -/
def State.asmDuties (s : State) (r k : Nat) : State :=
  if !s.drives r then s
  else
    let due := k % 80 == 0 || s.asm.announce
    let ann := announceCmd s r false :: (if s.bothEnds r then [announceCmd s r true] else [])
    let s1 := if due then State.setRing { s with asm := { s.asm with announce := false } } r { s.ring r with cmds := ann ++ (s.ring r).cmds } else s
    match s1.nextSealReq r with
    | none => s1
    | some (d, q) =>
      let mark (x : Nat × Nat × Bool) : Nat × Nat × Bool := if x.1 = d ∧ x.2.1 = q then (d, q, true) else x
      let n := (d - 1) % 16
      (State.queueCmds { s1 with asm := { s1.asm with reqs := s1.asm.reqs.map mark } } r [⟨n, 0x12, leBytes 8 q, s1.bothEnds r && (s1.segment r true).contains n⟩]).bump
        f_ASM_SEAL_REQS_VALUE

/-- Whether the part sends trains on a ring at all: not off, FAILED, demoted from it, or out of service. -/
def State.sends (s : State) (r : Nat) : Bool :=
  s.ringState r != 0 && s.ringState r != 5 && !s.asm.demoted.contains r && s.ringInService r

/-- TRAIN_DEPARTURE: the train for the instant T_LEAD ahead leaves end A, and in break mode with AUTOBREAK end B; an acting manager sends from both
ports of its ring 7, and a demoted manager sends none. A command for end B outside break mode goes in a train of end B (R78 step 5, log entry 89). -/
def State.depart (s : State) (r : Nat) : State :=
  let k := instantAt (s.now + 12501)
  let s1 := ((((((s.enumStep r).judgeLinks r k).rejoinStep r k).breakStep r).sendBleeds r).asmDuties r k)
  if !s1.sends r then s1
  else
    let (s2, ca) := (s1.setRing r { s1.ring r with mbTrains := (s1.ring r).mbTrains + 1 }).slotCmd r k false
    let (s3, cb) := s2.slotCmd r k true
    let x := s3.ring r
    let s4 := s3.setRing r { x with
      sentA := some (s3.train r k false ca),
      sentB := if s3.bothEnds r || cb.isSome then some (s3.train r k true cb) else none }
    if s3.bothEnds r then s4.recoverNow 7 r 0 else s4

def execTrainDeparture (at_ ring : Nat) (s : State) : Out := done (onRing (s.at at_) ring fun t => t.depart ring)

/-! ### Reception of trains (R77, R83, R86) -/

/-- PRESENT bits whose node has sent nothing for 10 ms clear; a node that still should send is treated as reset (R81). -/
def State.presence (s : State) (r : Nat) : State :=
  (List.range 16).foldl (fun t n =>
    if t.bitOf (f_TR_NODES_PRESENT r) n && (match at! (t.ring r).seen n none with | some u => decide (u + ticksPerPeriod < t.now) | none => true) then
      let t1 := t.dropPresent r (0xFFFF - 2 ^ n)
      if t1.running r && t1.reachable r n then t1.nodeReset r n else t1
    else t) s

/-- The PRESENT bits of every ring, every 10 ms. -/
def State.presences (s : State) : State := (List.range 8).foldl (fun t r => t.presence r) s

/-- The instant that a TSTAMP names: the one nearest now with those low bits. -/
def State.instantNamed (s : State) (tstamp : Nat) : Nat :=
  let d := (tstamp % 2 ^ 32 + 2 ^ 32 - s.now % 2 ^ 32) % 2 ^ 32
  instantAt (if d < 2 ^ 31 then s.now + d else s.now + d - 2 ^ 32)

/-- R77: train `k` has ended at an end: the frames of earlier instants that are missing are asked for, at most twice each, once any train that carried
a request for them has ended. -/
def State.requestMissing (s : State) (r k : Nat) (endB : Bool) : State :=
  let fr := if s.isSet (f_TR_BREAK_ACTIVE r) then s.segmentFrames r endB else (s.ring r).frames
  s.askRetx r (fr.filter (fun e => decide (e.k < k ∧ e.due ≤ k))) (endB && s.isSet (f_TR_BREAK_ACTIVE r)) false none

/-- Gaps between trains are filled with COLLECT trains while retransmissions are outstanding in break mode (R83). -/
def State.fillGap (s : State) (r : Nat) (endB : Bool) : State :=
  if s.bothEnds r && s.isSet (f_TR_BREAK_ACTIVE r) && s.gapOk && retxPending (s.segmentFrames r endB) then s.sendCollect r endB else s

/-- L, measured on every train outside break mode; above 24 µs no trains start (R67). -/
def State.putLoop (s : State) (r loopNs : Nat) : State :=
  let t := s.fput (f_TR_LOOP_TIME_LOOP r) loopNs
  if 24000 < loopNs then (t.fput (f_TR_STATUS_LOOP_LONG r) 1).raise (f_TR_IRQ_LOOP_LONG r) else t.fput (f_TR_STATUS_LOOP_LONG r) 0

/-- TRAIN_RECEIVED: the end of a train at an end of the part: TSTAMP of its head (none of a COLLECT train, or of a head that was not valid), and
`intact` when it ended with ETR and without ABORT. -/
def State.trainReceived (s : State) (r : Nat) (endB : Bool) (tstamp : Option Nat) (loopNs : Nat) (intact : Bool) : State :=
  let s1 := if endB && !s.isSet (f_TR_BREAK_ACTIVE r) then s.putLoop r loopNs else s
  let s2 := if !intact && endB then s1.breakUnplaced r else s1
  if !s2.running r then s2
  else
    let s3 := match tstamp with | some ts => s2.requestMissing r (s2.instantNamed ts) endB | none => s2
    (s3.fillGap r endB).presence r

def execTrainReceived (at_ ring : Nat) (e : TrainTail) (intact : Bool) (s : State) : Out :=
  done (onRing (s.at at_) ring fun t => t.trainReceived ring e.endB e.tstamp e.loopNs intact)

/-- FRAME_MISSING (R77, R85): declared after two requests, 32 sampled instants, or when its node is unreachable. -/
def State.frameMissing (s : State) (r node k : Nat) : State :=
  let x := s.ring r
  match x.frames.find? (fun e => e.k == k && e.node == node) with
  | none => s
  | some e =>
    if (e.tries < 2 ∨ e.due = unsentTrain) ∧ s.alm.inst ≤ k + 32 * 2 ^ rateOf s.tr.rates k ∧ s.reachable r node then s
    else
      let fr := x.frames.filter (fun f => f != e)
      let s1 := ((s.setRing r { x with frames := fr, missed := (k, node) :: x.missed.filter (fun (j, _) => decide (s.alm.inst < j + 1024)) }).bump
        (f_TR_MISSING_COUNT r)).fput (f_TR_STATUS_RETX_PEND r) (flag (retxPending fr))
      let s2 := if s.reachable r node then s1 else s1.dropPresent r (0xFFFF - 2 ^ node)
      let s3 : State := { s2 with now := stampOf k, ldg := { s2.ldg with missed := s2.ldg.missed + 1 } }
      { s3.emit (s.nodeLocus r node) 4 1 [] with now := s.now }

def execFrameMissing (at_ ring node k : Nat) (s : State) : Out := done (onRing (s.at at_) ring fun t => t.frameMissing ring node k)

/-- Loss of signal on the part's own ends (R57); a worker's uplink port wraps as a node does and sends a BREAK set (R82). -/
def State.los (s : State) (r : Nat) (endB : Bool) : State :=
  let s1 := if endB then s.fput (f_TR_STATUS_B_LOCK r) 0 else s.fput (f_TR_STATUS_A_LOCK r) 0
  if r = 7 ∧ s.isSet f_TRG_CTRL_UPLINK then
    let u := s.tr.up
    match u.addr with
    | some p => { s1 with tr := { s1.tr with up := { u with wrapped := true, unwrap := none, breaks := u.breaks ++ [(p, !endB)], out := Machine.breakSet p (!endB) } } }
    | none => { s1 with tr := { s1.tr with up := { u with wrapped := true, unwrap := none } } }
  else s1

def execLosDeclare (at_ ring : Nat) (endB : Bool) (s : State) : Out := done (onRing (s.at at_) ring fun t => t.los ring endB)

def execLosClear (at_ ring : Nat) (endB : Bool) (s : State) : Out :=
  done (onRing (s.at at_) ring fun t => if endB then t.fput (f_TR_STATUS_B_LOCK ring) 1 else t.fput (f_TR_STATUS_A_LOCK ring) 1)

/-! ### Assembly rings and reads -/

/-- TRANSIT.SET_ASSEMBLY (R87): with UPLINK set no ring may be an Assembly ring. -/
def execTransitSetAssembly (r : Req) (rings : Nat) (s : State) : Out :=
  done (runCmd s r 0x0304 anyLc
    (fun t => [need (decide (rings < 256) && rings % 16 == 0) (blame E_PARAM_RANGE 0x0100), need (!t.locked r_TRG_CTRL) E_PARAM_CONFLICT,
               need (!(t.isSet f_TRG_CTRL_UPLINK && rings != 0)) (blame E_PARAM_CONFLICT 0x0100)])
    (okEff fun t => t.fput f_TRG_CTRL_ASM (rings / 16)))

/-- TRANSIT.READ: TR_STATUS, TR_NODES, TR_BREAK, the counters and the roster. -/
def execTransitRead (r : Req) (ring : Nat) (s : State) : Out :=
  done (runCmd s r 0x0306 anyLc (fun _ => [need (decide (ring < 8)) (blame E_PARAM_RANGE 0x0100)])
    (readEff fun t => [r_TR_STATUS ring, r_TR_NODES ring, r_TR_BREAK ring, r_TR_CRC_ERRORS ring, r_TR_RETRANSMITS ring, r_TR_MISSING ring,
      r_TR_HOLDOVERS ring].flatMap (w4 t) ++ (t.ring ring).roster.flatMap (fun x => leBytes 4 (x.getD 0))))

/-- RATE_REGISTER_WRITE (R60): a write of TRG_CTRL requests a rate change, or has its RATE ignored while one is pending; one whose RATE is the rate in
force requests none, since every write of the register names a rate (log entry 87). UPLINK with an ASM bit is refused, and UPLINK takes a running
ring 7 out of cell service (R87). -/
def execRateRegisterWrite (w : Wr) (s : State) : Out :=
  done (guarded s w r_TRG_CTRL fun t =>
    let rate := w.value % 4
    let up := bit w.value 8
    let asm := w.value / 16 % 16
    if up && asm != 0 then t
    else
      let t0 := t.writeWord r_TRG_CTRL (w.value / 4 * 4 + t.fget f_TRG_CTRL_RATE)
      let t1 := if !t0.ringInService 7 && t0.ringState 7 != 0 then t0.stopRing 7 else t0
      if t.locked r_TRG_CTRL || t.tr.pending.isSome || rate == t.fget f_TRG_STATUS_RATE then t1 else t1.requestRate rate)

/-! ### A worker's node side (R73, R82, R88) -/

/-- READ_ID of a worker: its vendor, model and history are the implementation's; serial, protocol version 1 and 32 frames of history are the
spec's. -/
def uplinkId (s : State) : List Byte :=
  leBytes 4 (s.draw 32) ++ leBytes 4 (Config.serial.toNat % 2 ^ 32) ++ leBytes 1 1 ++ zeros 3 ++ leBytes 1 32 ++ zeros 3

def State.setUp (s : State) (u : Uplink) : State := { s with tr := { s.tr with up := u } }

/-- Retransmissions asked for: every held frame whose stamp lies in the span, in ascending order (R73). -/
def heldFrames (h : List (Nat × List Byte)) (lo hi : Nat) : List (List Byte) :=
  (h.filter (fun p => decide ((p.1 + 2 ^ 32 - lo) % 2 ^ 32 ≤ (hi + 2 ^ 32 - lo) % 2 ^ 32))).map (·.2)

/-- COMMAND_FRAME: a node command on the uplink. A node that holds a response or retransmissions it has not sent answers busy (R74). -/
def State.commandFrame (s : State) (addr opc : Nat) (payload : List Byte) : State :=
  let u := s.tr.up
  let f (o n : Nat) : Nat := leNat ((payload.drop o).take n)
  let mine := u.addr == some addr
  let all := addr == 0x1E && u.addr.isSome
  let busy := !u.resp.isEmpty || !u.retx.isEmpty
  let answer (v : Uplink) (nstat : Nat) (p : List Byte) : State :=
    if !mine then s.setUp v
    else if busy then s.setUp { u with resp := u.resp ++ [(addr, opc, 4, [])] }
    else s.setUp { v with resp := u.resp ++ [(addr, opc, nstat, p)] }
  if opc = 0x01 then
    if addr = 0x1F ∧ u.addr.isNone then
      if f 0 1 ≤ 15 then s.setUp { u with addr := some (f 0 1), resp := [(f 0 1, 1, 0, leBytes 4 (Config.serial.toNat % 2 ^ 32))] }
      else s.setUp { u with resp := [(0x1F, 1, 2, [])] }
    else s
  else if !mine && !all then s
  else match opc with
    | 0x02 => s.setUp { u with out := echoSet (u.addr.getD 0) }
    | 0x03 => answer { u with sdlyA := f 0 2, sdlyB := f 2 2 } 0 []
    | 0x04 => (answer u 0 (uplinkId s)).drawn
    | 0x05 => if 8 < onesIn 16 (f 0 2) ∨ 0x80 < f 2 1 then answer u 2 [] else answer { u with bleed := (f 0 2, f 2 1, s.now) } 0 []
    | 0x06 => if all ∧ bit (f 8 2) (u.addr.getD 16) then s.setUp { u with retx := u.retx ++ heldFrames u.history (f 0 4) (f 4 4) } else s
    | 0x07 => if f 0 1 = 0 then answer { u with unwrap := some (f 1 4) } 0 [] else answer u 2 []
    | 0x08 => if f 0 2 < 0x8000 then answer u 2 [] else (answer u 0 (leBytes 4 (s.draw 32))).drawn
    | 0x09 => if f 0 2 < 0x8000 then answer u 2 [] else answer u 0 []
    | 0x0A => s.setUp { u with addr := none, bleed := (0, 0, s.now), retx := [], resp := if mine then [(addr, opc, if busy then 4 else 0, [])] else [] }
    | _ => answer u 1 []

/-- The bleed switches of the node side: off when no SET_BLEED has arrived for 1 s (R74). -/
def State.uplinkBleed (s : State) : Nat := let (m, _, t) := s.tr.up.bleed; if t + ticksPerS ≤ s.now then 0 else m

/-- The node side of a train whose head is valid (R64, R73, R74): the port unwraps from the train it was told; the pending response, then as many
retransmissions as the train still takes, then `own`, its frame for the stamp `cstamp`. `held` counts the retransmitted frames of nodes before it. -/
def State.insertFrames (s : State) (h : TrainHead) (held cstamp : Nat) (own : Option (List Byte)) : State :=
  let u := s.tr.up
  let n := h.cap - held
  let stays := match u.unwrap with | some t => h.collect || !decide ((h.tstamp + 2 ^ 32 - t) % 2 ^ 32 < 2 ^ 31) | none => true
  let rsp := match u.resp with | (a, o, st, p) :: _ => responseChars a o st p | [] => []
  let mine := match own with | some b => frameChars kSOF b | none => []
  s.setUp { u with
    wrapped := u.wrapped && stays, unwrap := if stays then u.unwrap else none,
    resp := u.resp.drop 1, retx := u.retx.drop n,
    history := match own with | some b => (u.history ++ [(cstamp % 2 ^ 32, b)]).reverse.take 32 |>.reverse | none => u.history,
    out := rsp ++ (u.retx.take n).flatMap (frameChars kSOF) ++ mine }

end Sys2Proof.Machine
end

