-- ==== Sys2Proof/Machine/Almanac.lean ====
section
/-!
DEFINITION. Machine/Almanac.lean: stamps, capture into the reorder store, late entries, and time across an assembly (chapter 4).
-/
namespace Sys2Proof.Machine

/-! ### The reorder store (R97–R100) -/

/-- The slot of node `n` for instant `k` in a ring's partition. -/
def slotAddr (r k n : Nat) : Nat := 0x20000000 + r * 0x100000 + (k % 1024 * 16 + n) * 64
/-- The pack segment's entry for instant `k`. -/
def packAddr (k : Nat) : Nat := 0x100F8000 + k % 1024 * 32

/-- No word of an entry is beyond correction (R334, R506). -/
def State.entrySound (s : State) (a n : Nat) : Bool := !(s.upsetsIn a n).any s.spoiled

/-- VALID of a slot (AFLAGS bit 0), and of a pack entry (PFLAGS bit 0), of an entry that can be read. -/
def State.slotValid (s : State) (r k n : Nat) : Bool := (s.byte (slotAddr r k n + 7)).getLsbD 0 && s.entrySound (slotAddr r k n) 64
def State.packValid (s : State) (k : Nat) : Bool := (s.byte (packAddr k + 24)).getLsbD 0 && s.entrySound (packAddr k) 32
/-- LATE of a slot and of a pack entry. -/
def State.slotLate (s : State) (r k n : Nat) : Bool := (s.byte (slotAddr r k n + 7)).getLsbD 1
def State.packLate (s : State) (k : Nat) : Bool := (s.byte (packAddr k + 24)).getLsbD 1

/-- VALID cleared. -/
def State.invalidate (s : State) (a : Nat) : State := s.setByte a (s.byte a &&& 0xFE#8)

/-- The instant whose entries a row of the store holds. -/
def rowInstant (s : State) (row : Nat) : Nat := s.alm.inst - (s.alm.inst + 1024 - row % 1024) % 1024

/-- R506: a slot with a word beyond correction is no entry any more, and its frame is expected again: asked for while its node holds it, else declared
missing. -/
def State.dropSlot (s : State) (a : Nat) : State :=
  let b := a / 64 * 64
  let r := (b - 0x20000000) / 0x100000
  let k := rowInstant s (b % 0x100000 / 1024)
  let n := b % 1024 / 64
  let s1 := (s.invalidate (b + 7)).heal b 64
  if (s.byte (b + 7)).getLsbD 0 then
    let fr := (s1.ring r).frames ++ [⟨k, n, 0, 0⟩]
    (s1.setRing r { s1.ring r with frames := fr }).fput (f_TR_STATUS_RETX_PEND r) (flag (retxPending fr))
  else s1

/-- R506: Meridian rewrites a pack entry from its copy of the last 64 instants; an older one is no entry any more. -/
def State.dropPack (s : State) (k : Nat) : State :=
  let s1 := s.heal (packAddr k) 32
  if s.alm.inst < k + 64 then s1 else s1.invalidate (packAddr k + 24)

/-- The entry of a slot, or of the pack segment, is read. -/
def State.readSlot (s : State) (a : Nat) : State := let (s1, bad) := s.checkRead (a / 64 * 64) 64; if bad then s1.dropSlot a else s1
def State.readPack (s : State) (k : Nat) : State := let (s1, bad) := s.checkRead (packAddr k) 32; if bad then s1.dropPack k else s1

/-- The slots of the store in which a word is in error. -/
def upsetSlots (s : State) : List Nat := ((s.upsetsIn 0x20000000 0x800000).map (fun a => a / 64 * 64)).eraseDups

/-- Every entry of an instant is read. -/
def State.readRow (s : State) (k : Nat) : State :=
  (((upsetSlots s).filter (fun a => rowInstant s (a % 0x100000 / 1024) == k)).foldl State.readSlot s).readPack k

/-- VALID cleared in one row of every partition and in the pack segment (R98). -/
def State.clearRow (s : State) (k : Nat) : State :=
  ((List.range 8).foldl (fun t r => (List.range 16).foldl (fun u n => u.invalidate (slotAddr r k n + 7)) t) s).invalidate (packAddr k + 24)

/-- VALID cleared in every row (R91). -/
def State.clearStore (s : State) : State := (List.range 1024).foldl (fun t k => t.clearRow k) s

/-- A late entry that its row's reuse overwrites before it was folded is lost (R108). -/
def State.loseLate (s : State) (k : Nat) : State :=
  let hit : LateRef → Bool := fun x => x.k % 1024 == k % 1024
  let n := (s.alm.queue.filter hit).length + (s.alm.unq.filter hit).length
  if n = 0 then s
  else
    let s1 : State := { s with alm := { s.alm with queue := s.alm.queue.filter (fun x => !hit x), unq := s.alm.unq.filter (fun x => !hit x) } }
    ((s1.bumpBy f_ALM_LQ_STATUS_LOST n).fput f_ALM_LQ_STATUS_DEPTH s1.alm.queue.length).raise f_ALM_IRQ_LQ_LOST

/-- A correction record (R213) with its sort key: stamp, locus. -/
def corrRecord (s : State) (x : LateRef) : Nat × Nat × List Byte :=
  let pack := decide (8 ≤ x.ring)
  let l := if pack then s.packLocus 0 else s.nodeLocus x.ring x.node
  let body := if pack then zeros 2 ++ (x.bytes.drop 24).take 1 ++ leBytes 1 2 ++ padTo 56 (x.bytes.drop 8)
    else (x.bytes.drop 5).take 3 ++ leBytes 1 (if leNat ((x.bytes.drop 5).take 1) / 16 = 1 then 0 else 1) ++ padTo 56 (x.bytes.drop 8)
  (stampOf x.k, l, leBytes 8 l ++ leBytes 8 (stampOf x.k) ++ leBytes 8 x.at_ ++ body ++ zeros 4)

/-- Late entries are folded into the corrections of the open block (R109), if the ledger produces blocks. -/
def State.fold (s : State) (xs : List LateRef) : State :=
  if s.isSet f_LDG_CTRL_EN && !s.ldg.ended then { s with ldg := { s.ldg with corrs := s.ldg.corrs ++ xs.map (corrRecord s) } } else s

/-- The correction job takes every reference from the queue, and scans the partitions for UNQUEUED entries (R108); OVF stays until LQ_ACK. -/
def State.foldQueue (s : State) : State :=
  let s1 := s.fold (s.alm.queue ++ s.alm.unq)
  State.fput { s1 with alm := { s1.alm with queue := [], unq := [] } } f_ALM_LQ_STATUS_DEPTH 0

/-- LATE_ENTRY_STORE (R106, R108): counted and queued, or UNQUEUED when the queue is full. `flags` is the address of the entry's flags. -/
def State.storeLate (s : State) (x : LateRef) (flags : Nat) : State :=
  let s0 : State := { s with ldg := { s.ldg with late := s.ldg.late + 1 } }
  let s1 := (s0.bump f_ALM_LATE_COUNT_COUNT).raise f_ALM_IRQ_LATE
  if s1.alm.queue.length < 4096 then
    State.fput { s1 with alm := { s1.alm with queue := s1.alm.queue ++ [x] } } f_ALM_LQ_STATUS_DEPTH (s1.alm.queue.length + 1)
  else
    let s2 := if x.ring < 8 then s1.setByte flags (s1.byte flags ||| 0x10#8) else s1
    (State.bump { s2 with alm := { s2.alm with unq := s2.alm.unq ++ [x] } } f_ALM_LQ_STATUS_OVF).raise f_ALM_IRQ_LQ_OVF

/-- LQ_ACK (R108): the number written leaves OVF, which saturates at 0. The entries themselves were folded when the job scanned for them. -/
def execLqAck (w : Wr) (s : State) : Out :=
  done (guarded s w r_ALM_LQ_ACK fun t => t.fput f_ALM_LQ_STATUS_OVF (t.fget f_ALM_LQ_STATUS_OVF - w.value % 2 ^ 11))

/-! ### Capture (R76, R94–R97) -/

/-- The n-th sampled instant after `k0`, by the rates in force (R95). `segs` is the rate history, oldest first; the last rate has no end. -/
def nthSampled : List (Nat × Nat) → Nat → Nat → Nat
  | [], k0, n => k0 + n
  | [(_, r)], k0, n => (k0 / 2 ^ r + n) * 2 ^ r
  | (_, r) :: (e, r') :: t, k0, n =>
    if e ≤ k0 then nthSampled ((e, r') :: t) k0 n
    else
      let have_ := (e - 1) / 2 ^ r - k0 / 2 ^ r
      if n ≤ have_ then (k0 / 2 ^ r + n) * 2 ^ r
      else if n = have_ + 1 then e else nthSampled ((e, r') :: t) e (n - have_ - 1)

/-- E, the expanded stamp (R94); none when no stamp so far has these low bits. -/
def expand (now cstamp : Nat) : Option Nat :=
  let d := (now % 2 ^ 32 + 2 ^ 32 - cstamp % 2 ^ 32) % 2 ^ 32
  if d ≤ now then some (now - d) else none

/-- The instant of a frame, and whether R68 or R95 fixed it; none when the frame counts in ALM_BADSTAMP. -/
def frameInstant (s : State) (r n status cstamp seq : Nat) : Option (Nat × Bool) :=
  if bit status 0 then
    match at! (s.ring r).good n none with
    | none => none
    | some (k0, q0) =>
      let k := nthSampled s.tr.rates.reverse k0 ((seq + 65536 - q0) % 65536)
      if s.alm.inst < k then none else some (k, true)
  else match expand s.now cstamp with
    | none => none
    | some e =>
      let k := instantAt e
      if stampOf k = e ∧ s.sampled k then some (k, false) else none

/-- An entry's bytes for a cell frame (R99). -/
def cellEntry (k : Nat) (aflags : Nat) (bs : List Byte) : List Byte :=
  leBytes 5 (stampOf k) ++ bs.take 2 ++ leBytes 1 aflags ++ (bs.drop 2).take 48 ++ (bs.drop 50).take 6 ++ (bs.drop 60).take 2

/-- An entry's bytes for an assembly frame: HDR, LEN and the payload. -/
def asmEntry (k : Nat) (aflags : Nat) (bs : List Byte) : List Byte :=
  let len := leNat ((bs.drop 1).take 1)
  leBytes 5 (stampOf k) ++ bs.take 2 ++ leBytes 1 aflags ++ padTo 56 ((bs.drop 2).take len)

/-- The nodes whose frame of an instant reported LINKFLT 0, one more (R86). -/
def noteClear (l : List (Nat × Nat)) (k n : Nat) : List (Nat × Nat) :=
  match l.find? (fun p => p.1 == k) with
  | some p => (k, setBitIn p.2 n true) :: l.filter (fun q => q.1 != k)
  | none => (k, 2 ^ n) :: l

/-- The ring's account of a captured frame: no longer expected, its node present and heard since its addressing. -/
def State.noteFrame (s : State) (r n k seq status : Nat) (fixed : Bool) : State :=
  let x := s.ring r
  let fr := x.frames.filter (fun e => !(e.k == k && e.node == n))
  let y : RingState := { x with
    frames := fr, seen := setAt x.seen n (some s.now), fresh := x.fresh.filter (· != n), clear := if bit status 6 then x.clear else noteClear x.clear k n,
    good := if fixed then x.good else setAt x.good n (some (k, seq)) }
  let s1 := ((s.setRing r y).putBit (f_TR_NODES_PRESENT r) n true).fput (f_TR_STATUS_RETX_PEND r) (flag (retxPending fr))
  let s2 := if bit status 1 then s1.bump (f_TR_RETRANSMITS_COUNT r) else s1
  if bit status 0 then s2.bump (f_TR_HOLDOVERS_COUNT r) else s2

/-- An accepted frame is written to its slot; one at or behind W is late. -/
def State.capture (s : State) (r n k : Nat) (fixed : Bool) (kind : Nat) (bs : List Byte) : State :=
  let late := decide (stampOf k ≤ s.alm.w)
  let after := (s.ring r).missed.contains (k, n)
  let fl := 1 + 2 * flag late + 4 * flag after + 8 * flag fixed + 32 * r
  let e := if kind = 1 then asmEntry k fl bs else cellEntry k fl bs
  let s1 := s.write (slotAddr r k n) e
  if late then s1.storeLate ⟨r, k, n, s.now, e⟩ (slotAddr r k n + 7) else s1

/-- A cell of the frame shows BLEEDING while the Shutter commands no bleed on its node: an event (R159). -/
def State.bleedEvent (s : State) (r n status : Nat) (bs : List Byte) : State :=
  if bit status 4 && s.fget (f_SHT_BLEED_MASK r n) == 0 then
    let populated := (List.range 16).foldl (fun m c => if leNat ((bs.drop (2 + 3 * c)).take 3) = 0x800000 then m else m + 2 ^ c) 0
    s.emit (s.nodeLocus r n) 7 1 (leBytes 2 populated)
  else s

/-- A frame that repeats the stamp and SEQ of one already captured (R76). -/
def State.isDuplicate (s : State) (r k n : Nat) (seqBytes : List Byte) : Bool :=
  s.slotValid r k n && s.load (slotAddr r k n) 5 == leBytes 5 (stampOf k) && s.load (slotAddr r k n + 62) 2 == seqBytes

/-- A cell frame whose CRC holds. -/
def State.cellFrame (s : State) (r : Nat) (bs : List Byte) : State :=
  let n := leNat (bs.take 1) % 16
  let status := leNat ((bs.drop 1).take 1)
  let cstamp := leNat ((bs.drop 56).take 4)
  let seq := leNat ((bs.drop 60).take 2)
  match frameInstant s r n status cstamp seq with
  | none => s.bump f_ALM_BADSTAMP_COUNT
  | some (k, fixed) =>
    if s.isDuplicate r k n ((bs.drop 60).take 2) then s
    else if k + 1024 ≤ s.alm.inst then s.bump f_ALM_STALE_COUNT
    else
      let reset := bit status 7 && !(s.ring r).fresh.contains n
      let s1 := (s.capture r n k fixed 0 bs).noteFrame r n k seq status fixed
      let s2 := s1.bleedEvent r n status bs
      if reset then s2.nodeReset r n else s2

/-- An assembly frame carried in train k + 1, whose SYNC has TSTAMP `tstamp`, takes the stamp S_k (R97). It bears no SEQ, CSTAMP or STATUS: one that
repeats the payload captured for that instant is a duplicate, and it counts as a report of LINKFLT 0 (log entry 90). -/
def State.asmFrame (s : State) (r tstamp : Nat) (bs : List Byte) : State :=
  let n := leNat (bs.take 1) % 16
  let k := s.instantNamed tstamp - 1
  let len := leNat ((bs.drop 1).take 1)
  if s.slotValid r k n && s.load (slotAddr r k n) 5 == leBytes 5 (stampOf k) && s.load (slotAddr r k n + 8) 56 == padTo 56 ((bs.drop 2).take len) then s
  else if k + 1024 ≤ s.alm.inst then s.bump f_ALM_STALE_COUNT
  else (s.capture r n k false 1 bs).noteFrame r n k 0 0 true

/-- FRAME_RECEIVED (R76): a frame with a code violation, ABORT or a bad CRC is discarded and counted, and so is one whose length or FTYPE is that of
no frame (log entry 90). `tstamp` is TSTAMP of the train that carries it. -/
def execFrameReceived (at_ ring tstamp : Nat) (line : Line) (s : State) : Out :=
  done (onRing (s.at at_) ring fun t =>
    match cellFrameOf (lineChars line) with
    | some bs => t.cellFrame ring bs
    | none => match asmFrameOf (lineChars line) with
      | some (_, _, bs) => t.asmFrame ring tstamp bs
      | none => t.bump (f_TR_CRC_ERRORS_COUNT ring))

/-! ### Channels (R90, R507, R508) -/

/-- ALMANAC_CHANNEL_FAULT: channel `chan` is retired and reloaded from the other; twice within 1 s it stays out. -/
def State.channelFault (s : State) (c : Nat) : State :=
  let o := 1 - c
  let out := at! s.flt.almOut o false
  if out then s.doubleFault 6 2 c 0 0 6 o
  else if at! s.flt.almOut c false then s
  else
    let last := at! s.flt.lastAlm c never
    let stays := last != never && decide (s.now ≤ last + ticksPerS)
    let s1 : State := { s with flt := { s.flt with lastAlm := setAt s.flt.lastAlm c s.now, almOut := setAt s.flt.almOut c stays } }
    let s2 := if s1.fget f_ALM_STATUS_CHAN = c then s1.fput f_ALM_STATUS_CHAN o else s1
    (s2.elementFault 6 2 c (flag stays) 0).recoverWithin 6 c 1 0

def execAlmanacChannelFault (at_ chan : Nat) (s : State) : Out :=
  let t := s.at at_
  done (if chan < 2 then t.channelFault chan else t)

/-! ### Commands (R93, R103, R112) -/

def execCaptureSetLateness (r : Req) (ring bound : Nat) (s : State) : Out :=
  done (runCmd s r 0x0310 anyLc
    (fun t => [need (decide (ring < 8)) (blame E_PARAM_RANGE 0x0100), need (decide (4 ≤ bound ∧ bound ≤ 512)) (blame E_PARAM_RANGE 0x0101),
               need (!t.locked (r_ALM_SRC_CFG ring)) E_PARAM_CONFLICT])
    (okEff fun t => t.fput (f_ALM_SRC_CFG_BOUND ring) bound))

/-- The entries of a node mask at one instant, each with its full stamp. -/
def entriesAt (s : State) (r mask k : Nat) : List Byte :=
  (List.range 16).flatMap (fun n => if bit mask n && s.slotValid r k n then leBytes 8 (stampOf k) ++ s.load (slotAddr r k n) 64 else [])

/-- The instants of a stamp span that the store holds. -/
def spanInstants (s : State) (first last : Nat) : List Nat :=
  ((List.range 1024).map (fun i => s.alm.inst - (1023 - i))).filter (fun k => decide (first ≤ stampOf k ∧ stampOf k < last))

def execCaptureReadEntries (r : Req) (ring mask first last : Nat) (s : State) : Out :=
  done (runCmd s r 0x0311 anyLc
    (fun t => [need (decide (ring < 8)) (blame E_PARAM_RANGE 0x0100), need (decide (mask < 65536)) (blame E_PARAM_RANGE 0x0101), 
               need (decide (first < last)) (blame E_PARAM_RANGE 0x0103),
               need (decide (stampOf (t.alm.inst - 1023) ≤ first)) (blame E_PARAM_RANGE 0x0102)])
    (fun t => let ks := (spanInstants t first last).eraseDups; (ks.foldl State.readRow t, some (OK, ks.flatMap (entriesAt t ring mask)))))

/-- CAPTURE.TIME_MARK: a UTC time with the stamp of acceptance, as a ledger event. -/
def execCaptureTimeMark (r : Req) (secs nanos : Nat) (s : State) : Out :=
  done (runCmd s r 0x0312 anyLc (fun _ => [need (decide (secs < 2 ^ 64)) (blame E_PARAM_RANGE 0x0100), need (decide (nanos < 1000000000)) (blame E_PARAM_RANGE 0x0101)])
    (okEff fun t => t.emit (t.packLocus 0) 10 1 (leBytes 8 secs ++ leBytes 4 nanos)))

/-! ### Time across an assembly (R113–R116) -/

/-- DISC_LOCK cleared, with its interrupt. -/
def State.loseDisc (s : State) : State :=
  if s.isSet f_ALM_STATUS_DISC_LOCK then (s.fput f_ALM_STATUS_DISC_LOCK 0).raise f_ALM_IRQ_DISC_LOST else s

/-- A misplaced worker takes no time from that ring (R485). -/
def disciplined (s : State) : Bool := s.isSet f_TRG_CTRL_UPLINK && !s.isSet f_ASM_STATUS_MISPLACED

/-- Ticks of 2.56 ns in a time in ns, rounded. -/
def ticksOfNs (n : Nat) : Nat := (n * 100 + 128) / 256

/-- The worker's own stamp of the instant that the last SYNC announced: its arrival plus SDLY_A (R115). -/
def State.ownInstant (s : State) : Nat := s.alm.syncAt + ticksOfNs (signed 16 s.tr.up.sdlyA).toNat

/-- TIME_HI (R114): the manager's stamp of the instant that its train heads, against the worker's own. A worker behind it steps forward at the next
instant; one ahead slews. Within one tick, the ±3 ns of R114, it is in step (log entry 91). -/
def State.timeHi (s : State) (stamp : Nat) : State :=
  let own := s.ownInstant
  if !disciplined s then s
  else if own + 1 < stamp then { s with alm := { s.alm with step := some (stamp - own), slew := 0 } }
  else if stamp + 1 < own then State.fput { s with alm := { s.alm with slew := own - stamp } } f_ALM_STATUS_SLEWING 1
  else s

def execTimeHi (at_ stamp : Nat) (s : State) : Out := done ((s.at at_).timeHi stamp)

/-- The step forward, at an instant (R114): an event with the old and the new stamp. -/
def State.stepForward (s : State) : State :=
  match s.alm.step with
  | none => s
  | some d =>
    let s1 : State := { s with alm := { s.alm with step := none, syncAt := s.alm.syncAt + d }, tmp := { s.tmp with stepsAt := s.tmp.stepsAt + d, testAt := s.tmp.testAt + d } }
    (((s1.emit (s1.packLocus 0) 5 2 (leBytes 8 s1.now ++ leBytes 8 (s1.now + d))).at (s1.now + d)).fput f_ALM_STATUS_SLEWING 0).raise f_ALM_IRQ_TIME_STEP

/-- Holdover (R116): the lock is lost, and re-locking takes 64 trains again. -/
def State.discHoldover (s : State) : State :=
  State.fput (State.loseDisc { s with alm := { s.alm with okTrains := 0, badTrains := 0 } }) f_ALM_STATUS_DISC_HOLDOVER 1

/-- A SYNC of the uplink that is missing or not valid: no run of trains goes on through it, and the second in a row is holdover. -/
def State.syncMissed (s : State) : State :=
  let s1 : State := { s with alm := { s.alm with okTrains := 0, badTrains := 0, missedSync := s.alm.missedSync + 1 } }
  if 2 ≤ s1.alm.missedSync then s1.discHoldover else s1

/-- UPLINK_SYNC: a valid one, `err` in units of 0.1 ns. The law of the steering is not given: a free value within ±200 ppm (log entry 23). -/
def State.uplinkSync (s : State) (err : Int) : State :=
  let e := err.natAbs
  let ok := if e ≤ 30 then s.alm.okTrains + 1 else 0
  let bad := if 50 < e then s.alm.badTrains + 1 else 0
  let slewing := s.isSet f_ALM_STATUS_SLEWING && decide (30 < e)
  let steer := if slewing then unsignedBits 16 (-20000) else unsignedBits 16 ((s.draw 16 % 40001 : Int) - 20000)
  let a := { s.alm with okTrains := ok, badTrains := bad, missedSync := 0, slew := if slewing then s.alm.slew else 0 }
  let s1 := (State.fputs { s with alm := a } [(f_ALM_DISC_ERR_VALUE, unsignedBits 16 (satS 16 err)), (f_ALM_DISC_STEER_VALUE, steer),
    (f_ALM_STATUS_DISC_HOLDOVER, 0), (f_ALM_STATUS_SLEWING, flag slewing)]).drawn
  if 4 ≤ bad then s1.loseDisc else if 64 ≤ ok then s1.fput f_ALM_STATUS_DISC_LOCK 1 else s1

/-- DISC_HOLDOVER (R116): two consecutive SYNCs missed, that is 250 µs since the last valid one. -/
def execDiscHoldover (at_ : Nat) (s : State) : Out :=
  let t := s.at at_
  done (if t.isSet f_TRG_CTRL_UPLINK ∧ 2 * 390625 ≤ 8 * (t.now - t.alm.syncAt) then t.discHoldover else t)

/-! ### Views (R102, R117) -/

/-- The horizon of a ring: all sampled instants up to it are complete. A frame asked for again after W had passed its instant (R506) is late and
does not set it back. -/
def horizonK (s : State) (r : Nat) : Nat :=
  match oldestFrame s.alm.w (s.ring r) with
  | some k => k - 1
  | none => s.alm.inst

/-- The horizon of a source's stamp. -/
def horizon (s : State) (src : Nat) : Nat := if src = 8 then stampOf s.alm.packH else stampOf (horizonK s src)

/-- Whether a source is in the source set (R101). -/
def inSourceSet (s : State) (src : Nat) : Bool := if src = 8 then s.alm.packK.isSome else s.isSet (f_ALM_SRC_CFG_MEMBER src)

end Sys2Proof.Machine
end

