-- ==== Sys2Proof/Machine/Fit.lean ====
section
/-!
DEFINITION. Machine/Fit.lean: the program of the equivalent-circuit fit (R136, R137), over rational numbers. The spec gives the program and leaves its
arithmetic to the firmware image: `Config.fitRound` rounds what the program stores, and the square root, the logarithm and the exponential are those of
Config (log entry 26).
-/
namespace Sys2Proof.Machine

/-- A used bin: its number, COH, and Z in nΩ. -/
structure FitPoint where
  n   : Nat
  coh : Nat
  re  : Int
  im  : Int
  deriving DecidableEq, Repr

/-- A complex number. -/
abbrev Cx := Rat × Rat

def Cx.plus (a b : Cx) : Cx := (a.1 + b.1, a.2 + b.2)
def Cx.minus (a b : Cx) : Cx := (a.1 - b.1, a.2 - b.2)
def Cx.times (a b : Cx) : Cx := (a.1 * b.1 - a.2 * b.2, a.1 * b.2 + a.2 * b.1)
def Cx.scale (k : Rat) (a : Cx) : Cx := (k * a.1, k * a.2)
def Cx.inv (a : Cx) : Cx := let d := a.1 * a.1 + a.2 * a.2; (a.1 / d, - a.2 / d)

/-- ω = 2π f_n, in rad/s. -/
def omegaOf (n : Nat) : Rat := 2 * ((piFx : Rat) / 2 ^ 64) * ((ratioFx n : Nat) : Rat) / 2 ^ 64 / 100

/-- The parameters R0, R1, τ1, R2, τ2 and σ of ln values: R and σ in nΩ and nΩ·s^−½, τ in s. -/
def paramsOf (θ : List Rat) : List Rat := θ.map (fun x => Config.fitRound (Config.expReal x))

def par (p : List Rat) (i : Nat) : Rat := p.getD i 0

/-- 1 / (1 + jωτ). -/
def relax (ω τ : Rat) : Cx := Cx.inv (1, ω * τ)

/-- The Warburg term (1 − j) / √ω. -/
def warburg (ω : Rat) : Cx := let r := 1 / Config.sqrtReal ω; (r, - r)

/-- Z(ω) of the model. -/
def fitModel (p : List Rat) (ω : Rat) : Cx :=
  Cx.plus (Cx.plus (par p 0, 0) (Cx.scale (par p 1) (relax ω (par p 2))))
    (Cx.plus (Cx.scale (par p 3) (relax ω (par p 4))) (Cx.scale (par p 5) (warburg ω)))

/-- The derivative of Z with respect to the logarithm of each parameter. -/
def fitDerivative (p : List Rat) (ω : Rat) : List Cx :=
  let byTau (r τ : Rat) : Cx := Cx.times (0, - (r * ω * τ)) (Cx.times (relax ω τ) (relax ω τ))
  [(par p 0, 0), Cx.scale (par p 1) (relax ω (par p 2)), byTau (par p 1) (par p 2), Cx.scale (par p 3) (relax ω (par p 4)), byTau (par p 3) (par p 4),
   Cx.scale (par p 5) (warburg ω)]

/-- w_n = √(min(g / (1 − g), 100)), with g = COH / 65,536. -/
def fitWeight (coh : Nat) : Rat :=
  let g : Rat := (coh : Rat) / 65536
  Config.fitRound (Config.sqrtReal (if g / (1 - g) < 100 then g / (1 - g) else 100))

/-- |z|, in nΩ. -/
def fitAbs (x : FitPoint) : Rat := Config.sqrtReal ((x.re : Rat) * x.re + (x.im : Rat) * x.im)

/-- The residuals of a bin, real and imaginary. -/
def residuals (p : List Rat) (x : FitPoint) : List Rat :=
  let d := Cx.scale (fitWeight x.coh / fitAbs x) (Cx.minus ((x.re : Rat), (x.im : Rat)) (fitModel p (omegaOf x.n)))
  [Config.fitRound d.1, Config.fitRound d.2]

/-- The rows of the derivative of the residuals with respect to θ, for a bin. -/
def residualRows (p : List Rat) (x : FitPoint) : List (List Rat) :=
  let ds := (fitDerivative p (omegaOf x.n)).map (Cx.scale (- fitWeight x.coh / fitAbs x))
  [ds.map (fun d => Config.fitRound d.1), ds.map (fun d => Config.fitRound d.2)]

def dot (a b : List Rat) : Rat := ((a.zip b).map (fun (x, y) => x * y)).sum

/-- Σ res². -/
def fitCost (us : List FitPoint) (θ : List Rat) : Rat :=
  let r := us.flatMap (residuals (paramsOf θ))
  Config.fitRound (dot r r)

/-! ### The linear system -/

/-- A row less a multiple of the pivot row, so that column `c` vanishes. -/
def eliminate (c : Nat) (pivot row : List Rat) : List Rat :=
  let k := par row c / par pivot c
  (row.zip pivot).map (fun (x, y) => x - k * y)

/-- Gauss–Jordan elimination of an augmented system, column by column from `c`; a column without a pivot is passed over. -/
def reduceRows : Nat → Nat → List (List Rat) → List (List Rat) → List (List Rat)
  | 0, _, done, rest => done ++ rest
  | n + 1, c, done, rest =>
    match rest.find? (fun r => par r c != 0) with
    | none => reduceRows n (c + 1) done rest
    | some p => reduceRows n (c + 1) ((done.map (eliminate c p)) ++ [p]) (((rest.erase p).map (eliminate c p)))

/-- The solution of an augmented system of six equations; 0 for an unknown that nothing fixes. -/
def solveSix (rows : List (List Rat)) : List Rat :=
  let red := reduceRows 6 0 [] rows
  (List.range 6).map (fun c => match red.find? (fun r => par r c != 0 && (List.range c).all (fun d => par r d == 0)) with
    | some r => Config.fitRound (par r 6 / par r c)
    | none => 0)

/-- (JᵀJ + μ diag(JᵀJ)) δ = −Jᵀ res, solved for δ. -/
def fitStep (us : List FitPoint) (θ : List Rat) (μ : Rat) : List Rat :=
  let p := paramsOf θ
  let jm := us.flatMap (residualRows p)
  let res := us.flatMap (residuals p)
  let col (i : Nat) : List Rat := jm.map (fun r => par r i)
  solveSix ((List.range 6).map (fun i =>
    (List.range 6).map (fun j => Config.fitRound (dot (col i) (col j) * (if i = j then 1 + μ else 1))) ++ [Config.fitRound (- dot (col i) res)]))

/-! ### The program (R136) -/

/-- The bounds of R137, in nΩ, s and nΩ·s^−½. -/
def fitBounds : List (Rat × Rat) :=
  [(10000, 100000000), (1000, 100000000), (1 / 10000, 1), (1000, 100000000), (1 / 100, 1000), (1000, 100000000)]

def lnBounds : List (Rat × Rat) := fitBounds.map (fun b => (Config.fitRound (Config.lnReal b.1), Config.fitRound (Config.lnReal b.2)))

def clampRat (b : Rat × Rat) (x : Rat) : Rat := if x < b.1 then b.1 else if b.2 < x then b.2 else x

/-- What the iterations carry: θ, its cost, μ, and whether the last step improved the cost by more than 10^−4 relative. -/
structure FitRun where
  θ     : List Rat
  cost  : Rat
  μ     : Rat
  moved : Bool

/-- One iteration. -/
def fitIterate (us : List FitPoint) (x : FitRun) : FitRun :=
  let δ := fitStep us x.θ x.μ
  let θt := (lnBounds.zip (x.θ.zip δ)).map (fun (b, t, d) => clampRat b (Config.fitRound (t + d)))
  let c := fitCost us θt
  if c < x.cost then ⟨θt, c, if x.μ / 4 < 1 / 1000000 then 1 / 1000000 else x.μ / 4, decide (x.cost / 10000 < x.cost - c)⟩
  else ⟨x.θ, x.cost, if 1000000 < x.μ * 8 then 1000000 else x.μ * 8, false⟩

def fitLoop (us : List FitPoint) : Nat → FitRun → FitRun
  | 0, x => x
  | n + 1, x => fitLoop us n (fitIterate us x)

/-- The fit's answer: the parameters, with (R1, τ1) the faster pair, resid, and FSTATUS. -/
structure FitResult where
  params : List Rat
  resid  : Rat
  status : Nat

/-- R136, R137: the fit from the parameters `start` over the used bins. A parameter on a bound is FSTATUS 3 also when the last step still improved the
cost (log entry 26). -/
def runFit (us : List FitPoint) (start : List Rat) (iter : Nat) : FitResult :=
  let θ0 := (fitBounds.zip start).map (fun (b, x) => Config.fitRound (Config.lnReal (clampRat b x)))
  let x := fitLoop us iter ⟨θ0, fitCost us θ0, 1 / 100, false⟩
  let p := paramsOf x.θ
  let bound := (lnBounds.zip x.θ).any (fun (b, t) => t == b.1 || t == b.2)
  let w2 := (us.map (fun u => fitWeight u.coh * fitWeight u.coh)).sum
  ⟨if par p 4 < par p 2 then [par p 0, par p 3, par p 4, par p 1, par p 2, par p 5] else p, Config.fitRound (Config.sqrtReal (x.cost / w2)),
   if bound then 3 else if x.moved then 2 else 0⟩

end Sys2Proof.Machine
end

