-- ==== Sys2Proof/Machine/Spectro.lean ====
section
/-!
DEFINITION. Machine/Spectro.lean: the Spectrograph (chapter 5): accumulation, folds and the coherence gate, pilot tones, the fit's records and internal
temperature.
-/
namespace Sys2Proof.Machine

/-- The RATE code of the active twiddle table. -/
def State.spgRate (s : State) : Nat := s.fget f_SPG_STATUS_RATE
def binOf (x : SpgCell) (n : Nat) : BinAcc := (keyed x.bins n).getD idleBin
def State.spgCell (s : State) (i : Nat) : SpgCell := (keyed s.spg.cells i).getD newCell
def State.setSpgCell (s : State) (i : Nat) (x : SpgCell) : State := { s with spg := { s.spg with cells := putKeyed s.spg.cells i x } }
/-- The key of the pack current among the cells. -/
def packCell : Nat := 2048

/-! ### Samples (R121, R122) -/

/-- The 24-bit reading of a cell in the store, if the stream delivers it and it is present. -/
def cellVolt (s : State) (r n c k : Nat) : Option Int :=
  let a := slotAddr r k n
  if s.slotValid r k n && !s.slotLate r k n && !(s.byte (a + 6)).getLsbD 2 then
    let v := s.loadN (a + 8 + 3 * c) 3
    if v = 0x800000 then none else some (signed 24 v)
  else none

/-- The current of an entry: the field that FLUX selects (R166), when the stream delivers the entry. -/
def packCurrent (s : State) (k : Nat) : Option Int :=
  if s.packValid k && !s.packLate k then
    let v := s.loadN (packAddr k + (if (s.byte (packAddr k + 24)).getLsbD 2 then 12 else 8)) 4
    if v = 0x80000000 then none else some (signed 32 v)
  else none

def clip (bound x : Int) : Int := if bound < x then bound else if x < - bound then - bound else x

/-- Rounded to the nearest 1,000 µV. -/
def roundRef (v : Int) : Int := 1000 * roundDiv v 1000

/-- Every segment in progress of a cell is void, those of bins without a dump so far too. -/
def voidCell (x : SpgCell) : SpgCell :=
  { x with bins := (List.range 128).foldl (fun bs n => putKeyed bs n { (keyed bs n).getD idleBin with void := true }) x.bins }

/-- A sample joins a cell's window: the cell, whether the sample was absent, and whether REF_c was reset. -/
def feed (x : SpgCell) (v : Option Int) : SpgCell × Bool × Bool :=
  let push (y : SpgCell) (a : Option Int) : SpgCell := { y with win := (a :: y.win).take 128 }
  match v, x.ref with
  | none, _ => (push x none, true, false)
  | some v, none => (push { x with ref := some (roundRef v) } (some (v - roundRef v)), false, false)
  | some v, some r =>
    if 1048575 < (v - r).natAbs then (push x none, true, false)
    else if 500000 < (v - r).natAbs then
      (push { voidCell x with ref := some (roundRef v) } none, false, true)
    else (push x (some (v - r)), false, false)

/-- A ring whose nodes measure cells: no Assembly ring, and no ring 7 that is the uplink. -/
def State.cellRing (s : State) (r : Nat) : Bool := !s.isAsm r && !(r == 7 && s.isSet f_TRG_CTRL_UPLINK)

/-- The vat that cell data of a node goes to (R17): vat 2r serves nodes 0–7 of ring r and vat 2r + 1 nodes 8–15; the two vats of a ring in Assembly
mode receive none. -/
def State.homeVat (s : State) (r n : Nat) : Option Nat := if s.cellRing r then some (2 * r + n / 8) else none

/-- The nodes whose cells take a sample at every instant: those enumerated on a running cell ring, and every node whose cells Spectrograph holds already;
while its ring enumerates, has failed or is off, its samples are absent (R121, log entry 92). -/
def State.servedNodes (s : State) : List (Nat × Nat) :=
  (List.range 8).flatMap (fun r =>
    ((List.range 16).filter (fun n => (s.homeVat r n).isSome &&
      ((s.running r && (at! (s.ring r).serials n none).isSome) || s.spg.cells.any (fun p => p.1 / 16 == 16 * r + n)))).map (fun n => (r, n)))

def cellIdx (r n c : Nat) : Nat := 256 * r + 16 * n + c

/-- One cell takes its sample. -/
def State.feedCell (s : State) (i : Nat) (v : Option Int) : State :=
  let (x, absent, reset) := feed (s.spgCell i) v
  let s1 := s.setSpgCell i x
  let s2 := if absent then s1.bump f_SPG_ABSENT_COUNT else s1
  if reset then s2.bump f_SPG_REFSET_COUNT else s2

/-- The pack current takes its sample; it has no REF. -/
def State.feedCurrent (s : State) (v : Option Int) : State :=
  let x := s.spgCell packCell
  let s1 := s.setSpgCell packCell { x with win := (v.map (clip 1048575) :: x.win).take 128 }
  if v.isNone then s1.bump f_SPG_ABSENT_COUNT else s1

/-! ### Dumps and segments (R123–R125) -/

/-- The dump of a window for a bin; none when any sample of it is absent. `ok` when the current's window is whole. -/
def windowOfCell (x : SpgCell) (ok : Bool) : Option (List Int) :=
  if ok && x.win.length == 128 && x.win.all Option.isSome then some (x.win.reverse.map (fun o => o.getD 0)) else none

/-- A dump enters its segment: `p` is log2 L_n and `i` its place. -/
def addDump (b : BinAcc) (p i : Nat) (d : Option (Int × Int)) : BinAcc :=
  match d with
  | none => { b with absent := b.absent + 1 }
  | some (re, im) =>
    if p = 0 then { b with re := re, im := im }
    else { b with re := b.re + rnd (re * hann p i) (11 + p), im := b.im + rnd (im * hann p i) (11 + p) }

/-- Dump `m` of a cell. In a bin without a dump so far, the dumps of the segment before it were absent (R125). -/
def dumpCell (rate m : Nat) (ok : Bool) (x : SpgCell) : SpgCell :=
  let w := windowOfCell x ok
  { x with
    bins := (List.range 128).foldl (fun bs n =>
      if binActive n rate then
        let p := log2L n rate
        putKeyed bs n (addDump ((keyed bs n).getD { idleBin with absent := (m - 1) % 2 ^ p }) p ((m - 1) % 2 ^ p) (w.map (dumpOf n rate m)))
      else bs) x.bins }

/-- R125. -/
def segVoid (b : BinAcc) (p : Nat) : Bool := b.void || (if p < 6 then decide (0 < b.absent) else decide (2 ^ p / 64 < b.absent))

def clearSegment (b : BinAcc) : BinAcc := { b with re := 0, im := 0, absent := 0, void := false }

/-! ### Folds and the gate (R126–R129) -/

/-- Whether a pilot tone governs a bin's averaging (R134). -/
def State.pilotOn (s : State) (n : Nat) : Bool :=
  (s.fget f_SPG_STATUS_PSTATE == 2 || s.fget f_SPG_STATUS_PSTATE == 3) && s.fget f_SPG_PILOT_REQ_BIN == n

def State.avgShift (s : State) (n : Nat) : Nat := if s.pilotOn n then s.fget (f_SPG_BIN_CFG_AVGSH_PILOT n) else s.fget (f_SPG_BIN_CFG_AVGSH n)

/-- R126: S + floor((p − S) / 2^a). -/
def average (s p : Int) (a : Nat) : Int := s + (p - s) / 2 ^ a

/-- The smallest exponent at which the mantissas fit (R127). -/
def exponentOf (r i v : Int) : Nat :=
  ((List.range 96).find? (fun e => decide ((rnd r e).natAbs ≤ 32767 ∧ (rnd i e).natAbs ≤ 32767 ∧ rnd v e ≤ 65535))).getD 95

/-- COH (R128). -/
def coherence (re im vv : Int) (ii : Nat) : Nat :=
  if vv ≤ 0 ∨ ii = 0 then 0 else satU 16 (65536 * (re * re + im * im) / (vv * ii)).toNat

/-- Re or Im of Z, in nΩ. -/
def impedance (v : Int) (ii : Nat) : Int := if ii = 0 then 0 else satS 32 (roundDiv (v * 1000000) ii)

/-- The flags of an impedance record (R140). -/
def recFlags (valid gated floor pilot absent : Bool) : Nat := flag valid + 2 * flag gated + 4 * flag floor + 8 * flag pilot + 16 * flag absent

/-- A fold's products enter a cell's averages, and the gate decides on Z: the bin, and whether Z was updated. -/
def foldCell (b : BinAcc) (ai : Int × Int) (a gate ii irms stamp : Nat) (pilot : Bool) : BinAcc × Bool :=
  let vr := b.re * ai.1 + b.im * ai.2
  let vi := b.im * ai.1 - b.re * ai.2
  let vv := b.re * b.re + b.im * b.im
  let r := average (b.mr * 2 ^ b.e) vr a
  let i := average (b.mi * 2 ^ b.e) vi a
  let v := average ((b.mv : Int) * 2 ^ b.e) vv a
  let e := exponentOf r i v
  let mr := rnd r e
  let mi := rnd i e
  let mv := (rnd v e).toNat
  let nseg := satU 8 (b.nseg + 1)
  let coh := coherence (mr * 2 ^ e) (mi * 2 ^ e) (mv * 2 ^ e) ii
  let pass := decide (gate ≤ coh ∧ 2 ^ a ≤ nseg)
  let c : BinAcc := { b with
    mr := mr, mi := mi, mv := mv, e := e, nseg := nseg, coh := coh, irms := irms, stamp := stamp,
    zre := if pass then impedance (mr * 2 ^ e) ii else b.zre, zim := if pass then impedance (mi * 2 ^ e) ii else b.zim,
    zStamp := if pass then stamp else b.zStamp, flags := recFlags (pass || bit b.flags 0) (decide (coh < gate)) false pilot false }
  (clearSegment c, pass)

/-! ### Internal temperature (R138, R139) -/

def tab16 (t : List Byte) (o : Nat) : Nat := leNat ((t.drop o).take 2)
def tabS16 (t : List Byte) (o : Nat) : Int := signed 16 (tab16 t o)

/-- T at a phase, and RANGE. -/
def chemTemp (t : List Byte) (φ : Int) : Int × Bool :=
  let p (i : Nat) : Int := tabS16 t (4 + 2 * i)
  let v (i : Nat) : Int := tabS16 t (36 + 2 * i)
  if φ < p 0 then (v 0, true)
  else if p 15 < φ then (v 15, true)
  else match (List.range 15).find? (fun i => decide (p i ≤ φ ∧ φ ≤ p (i + 1))) with
    | some i => (v i + roundDiv ((φ - p i) * (v (i + 1) - v i)) (p (i + 1) - p i), false)
    | none => (v 15, false)

/-- The chemistry table of a cell's node. -/
def State.chemOf (s : State) (i : Nat) : Option (Nat × List Byte) :=
  match at! s.spg.nodeChem (i / 16) none with
  | none => none
  | some t => (at! s.spg.chem t none).map (fun c => (t, c))

/-- Recomputed when Z of bin n_T was updated. -/
def State.updateTemp (s : State) (i n : Nat) : State :=
  match s.chemOf i with
  | none => s
  | some (t, c) =>
    if leNat (c.take 1) ≠ n then s
    else
      let b := binOf (s.spgCell i) n
      let φ := angle b.zre b.zim
      let (v, range) := chemTemp c φ
      let rec_ := leBytes 8 b.stamp ++ leBytes 2 (unsignedBits 16 v) ++ leBytes 2 (unsignedBits 16 φ) ++ zeros 2 ++ leBytes 1 t ++ leBytes 1 (1 + 4 * flag range)
      { s with spg := { s.spg with temps := putKeyed s.spg.temps i rec_ } }

/-- The fold of one bin of one cell. -/
def State.foldOne (s : State) (i n a ii irms stamp : Nat) (ai : Int × Int) : State :=
  let x := s.spgCell i
  let b := binOf x n
  let p := log2L n s.spgRate
  if segVoid b p then
    s.setSpgCell i { x with bins := putKeyed x.bins n { clearSegment b with flags := setBitIn (setBitIn b.flags 4 true) 2 false } }
  else
    let (c, pass) := foldCell b ai a (s.fget (f_SPG_BIN_CFG_GATE n)) ii irms stamp (s.pilotOn n)
    let s1 := s.setSpgCell i { x with bins := putKeyed x.bins n c }
    let cyc := at! s1.spg.cycle n (0, 0)
    let s2 : State := { s1 with spg := { s1.spg with cycle := setAt s1.spg.cycle n (cyc.1 + 1, cyc.2 + flag (bit c.flags 1)) } }
    if pass then s2.updateTemp i n else s2

/-- The indexes of the cells held. -/
def State.cellKeys (s : State) : List Nat := (s.spg.cells.map (·.1)).filter (fun i => decide (i < packCell))

/-- The end of a segment of bin `n` (R126): the fold is skipped, or S_II and then every cell are updated. A void current segment voids every cell's
(R125); a cell whose own segment is void has ABSENT set either way. -/
def State.foldBin (s : State) (n stamp : Nat) : State :=
  let p := log2L n s.spgRate
  let cur := s.spgCell packCell
  let b := binOf cur n
  let v := (b.re * b.re + b.im * b.im).toNat
  let void := segVoid b p
  let s0 := if void then s else s.fput (f_SPG_BIN_IRMS_SEGIRMS n) (satU 16 (irms10 p v))
  let s1 := s0.setSpgCell packCell { cur with bins := putKeyed cur.bins n (clearSegment b) }
  if void || belowFloor p v (s.fget (f_SPG_BIN_LIM_IFLOOR n)) then
    s1.cellKeys.foldl (fun t i =>
      let x := t.spgCell i
      let c := binOf x n
      let own := setBitIn c.flags 2 true
      t.setSpgCell i { x with bins := putKeyed x.bins n { clearSegment c with flags := if void || segVoid c p then setBitIn own 4 true else own } }) s1
  else
    let a := s.avgShift n
    let ii := (average (at! s.spg.sii n 0 : Nat) v a).toNat % 2 ^ 64
    let irms := satU 16 (irms10 p ii)
    let s2 : State := { s1 with spg := { s1.spg with sii := setAt s1.spg.sii n ii } }
    let s3 := (s2.fput (f_SPG_BIN_IRMS_IRMS n) irms).bump f_SPG_FOLDS_COUNT
    let s4 := s3.cellKeys.foldl (fun t i => t.foldOne i n a ii irms stamp (b.re, b.im)) s3
    if s4.pilotOn n then
      let f := s4.spg.pilotFolds + 1
      let s5 : State := { s4 with spg := { s4.spg with pilotFolds := f } }
      if s5.fget f_SPG_STATUS_PSTATE = 2 ∧ 2 ^ s5.fget (f_SPG_BIN_CFG_AVGSH_PILOT n) + 1 ≤ f then
        (s5.fputs [(f_SPG_STATUS_PSTATE, 3), (f_SPG_PILOT_REQ_STATE, 3)]).raise f_SPG_IRQ_PILOT else s5
    else s4

/-- DUMP (R123): dump `m` for every active bin and cell, and the folds that end with it. -/
def State.dump (s : State) (m k : Nat) : State :=
  let rate := s.spgRate
  let ok := (windowOfCell (s.spgCell packCell) true).isSome
  let s1 : State := { s with spg := { s.spg with cells := s.spg.cells.map (fun (i, x) => (i, dumpCell rate m ok x)) } }
  (List.range 128).foldl (fun t n =>
    if binActive n rate then
      let p := log2L n rate
      if m % 2 ^ p = 0 then (t.foldBin n (stampOf k)).fput (f_SPG_BIN_STAT_SEGPOS n) 0 else t.fput (f_SPG_BIN_STAT_SEGPOS n) (m % 2 ^ p)
    else t) s1

/-- The stream's instant `k` reaches Spectrograph as W passes it. -/
def State.spgSample (s : State) (k : Nat) : State :=
  match s.spg.origin with
  | none => s
  | some k0 =>
    if k < k0 ∨ !s.sampled k then s
    else
      let t := s.spg.count
      let s1 := s.feedCurrent (packCurrent s k)
      let s2 := s1.servedNodes.foldl (fun u (r, n) => (List.range 16).foldl (fun v c => v.feedCell (cellIdx r n c) (cellVolt v r n c k)) u) s1
      let s3 : State := { s2 with spg := { s2.spg with count := t + 1 } }
      if t % 64 = 63 ∧ 127 ≤ t then s3.dump (t / 64) k else s3

/-- Instants of the 8 kS/s grid in a fit cycle. -/
def instantsPerCycle : Nat := 80000

/-- Every segment in progress is void: the channel in service changed (R130). -/
def State.voidSegments (s : State) : State := { s with spg := { s.spg with cells := s.spg.cells.map (fun (i, x) => (i, voidCell x)) } }

/-- W passes instant `k`: a change of the channel in service at it voids the segments in progress, and at B_j the records of the fit cycle are taken as they stand (R135). -/
def State.spgPass (s : State) (k : Nat) : State :=
  let s0 := if s.mer.svc.any (fun (t, _, _) => t == stampOf k && t != 0) then s.voidSegments else s
  let s1 := s0.spgSample k
  if k % instantsPerCycle = 0 then
    { s1 with spg := { s1.spg with due := s1.spg.due ++ [⟨k / instantsPerCycle, s1.spgRate, s1.spg.cells⟩] } }
  else s1

/-! ### Events on the state (R130) -/

/-- Dumps and segments in progress are discarded. -/
def State.discardSegments (s : State) : State :=
  { s with
    spg := { s.spg with
      count := 0, cells := s.spg.cells.map (fun (i, x) => (i, { x with win := [], bins := x.bins.map (fun (n, b) => (n, clearSegment b)) })) } }

/-- The rate in force as the bins show it. -/
def State.putBinRate (s : State) (rate : Nat) : State :=
  (List.range 128).foldl (fun t n => t.fputs [(f_SPG_BIN_CFG_ACTIVE n, flag (binActive n rate)), (f_SPG_BIN_STAT_LOG2L n, log2L n rate), (f_SPG_BIN_STAT_SEGPOS n, 0)]) s

/-- A rate change takes effect at instant `k`: the standby table becomes active and a new origin starts. -/
def State.spgRateEffect (s : State) (rate k : Nat) : State :=
  let s1 := s.discardSegments
  let s2 : State := { s1 with spg := { s1.spg with origin := if s.isSet f_SPG_CTRL_EN then some k else none } }
  ((s2.fputs [(f_SPG_STATUS_TABLE, 1 - s.fget f_SPG_STATUS_TABLE), (f_SPG_STATUS_REGEN, 0), (f_SPG_STATUS_RATE, rate)]).putBinRate rate).raise f_SPG_IRQ_TABLE

/-- TWIDDLE_TABLE_BUILT: the standby table is complete. -/
def execTwiddleTableBuilt (at_ : Nat) (s : State) : Out := done ((s.at at_).fput f_SPG_STATUS_REGEN 0)

/-- SPG_ENABLE_WRITE: EN starts a new origin or discards what is in progress. -/
def execSpgEnableWrite (w : Wr) (s : State) : Out :=
  done (guarded s w r_SPG_CTRL fun t =>
    let was := t.isSet f_SPG_CTRL_EN
    let t1 := t.writeWord r_SPG_CTRL w.value
    let is := t1.isSet f_SPG_CTRL_EN
    if is == was then t1
    else
      let t2 := (List.range 128).foldl (fun u n => u.fput (f_SPG_BIN_STAT_SEGPOS n) 0) t1.discardSegments
      { t2 with spg := { t2.spg with origin := if is then some (t2.alm.inst + 1) else none,
                                     cells := if is then t2.spg.cells.map (fun (i, x) => (i, { x with ref := none })) else t2.spg.cells } })

/-- Averages of one cell's bins cleared (RESET_AVERAGES); `all_` also its VALID. -/
def clearAverages (x : SpgCell) (first last : Nat) (valid : Bool) : SpgCell :=
  { x with
    bins := x.bins.map (fun (n, b) => (n, if first ≤ n ∧ n ≤ last then
      { b with mr := 0, mi := 0, mv := 0, e := 0, nseg := 0, flags := if valid then setBitIn b.flags 0 false else b.flags } else b)) }

def State.resetAverages (s : State) (p : Nat → Bool) (first last : Nat) (valid : Bool) : State :=
  { s with
    spg := { s.spg with cells := s.spg.cells.map (fun (i, x) => (i, if i < packCell ∧ p i then clearAverages x first last valid else x)) } }

/-- A node with a new serial (R80): its cells' averages and VALID. -/
def State.newNodeCells (s : State) (r n : Nat) : State := s.resetAverages (fun i => i / 16 == 16 * r + n) 0 127 true

/-- The serials a ring's nodes have answered with: where one differs from the one whose samples the averages hold, the node is new (R80, R130). -/
def State.noteSerials (s : State) (r : Nat) : State :=
  (List.range 16).foldl (fun t n =>
    let i := 16 * r + n
    match at! (t.ring r).serials n none with
    | none => t
    | some v =>
      let known := at! t.spg.nodeSerial i none
      if known = some v then t
      else
        let t1 := if known.isSome then t.newNodeCells r n else t
        { t1 with spg := { t1.spg with nodeSerial := setAt t1.spg.nodeSerial i (some v) } }) s

/-- RESPONSE_FRAME_RECEIVED (R72, R76): a frame with a bad CRC, a code violation or ABORT is discarded and counted. -/
def execResponseFrameReceived (at_ ring : Nat) (rd : Bool) (rsp hdr data crc : List Nat) (s : State) : Out :=
  done (onRing (s.at at_) ring fun t =>
    match responseOf (lineChars (.inParts rd [rsp, hdr, data, crc])) with
    | none => t.bump (f_TR_CRC_ERRORS_COUNT ring)
    | some (node, opc, nstat, payload) => (t.responseFrame ring node opc nstat payload).noteSerials ring)

/-! ### Ages, starvation and pilot tones (R132, R133) -/

/-- Whole seconds since a stamp, saturating at 65,535; 65,535 when there is none. -/
def ageOf (now stamp : Nat) : Nat := if stamp = never then 65535 else satU 16 ((now - stamp) / ticksPerS)

/-- A segment's duration in units of 1/125 s: 2^p × 64 samples at fs. -/
def segTime (n rate : Nat) : Nat := 2 ^ (log2L n rate + rate)

/-- The populated cells, in ascending index: the mask of a node's READ_ID response (R73), on the rings that are not Assembly rings. -/
def State.populated (s : State) : List Nat :=
  ((List.range 8).filter (fun r => !s.isAsm r)).flatMap (fun r =>
    (List.range 16).flatMap (fun n =>
      let m := at! (s.ring r).popMask n 0
      if m = 0 then [] else ((List.range 16).filter (fun c => bit m c)).map (fun c => cellIdx r n c)))

/-- R132. -/
def State.starved (s : State) (n : Nat) : Bool :=
  let cs := s.populated
  let lim := max (125 * s.fget f_SPG_PILOT_CFG_STARVE) (4 * segTime n s.spgRate)
  let old := cs.filter (fun i => decide (lim < 125 * ageOf s.now (binOf (s.spgCell i) n).zStamp))
  !cs.isEmpty && decide (cs.length ≤ 2 * old.length)

def State.evalStarved (s : State) : State :=
  (List.range 128).foldl (fun t n =>
    let v := t.starved n
    let t1 := if v && !t.isSet (f_SPG_BIN_STAT_STARVED n) then t.raise f_SPG_IRQ_STARVED else t
    t1.fput (f_SPG_BIN_STAT_STARVED n) (flag v)) s

/-- PILOT_REQUEST: the lowest starved bin outside hold-off is requested. -/
def State.raisePilot (s : State) : State :=
  if s.isSet f_SPG_CTRL_PILOT_EN && (s.mode == 2 || s.mode == 3) && s.fget f_SPG_STATUS_PSTATE == 0 then
    match (List.range 128).find? (fun n => s.isSet (f_SPG_BIN_STAT_STARVED n) && !s.spg.holdoff.any (fun (b, u) => b == n && decide (s.now < u))) with
    | none => s
    | some n =>
      let amp := min (s.fget f_SPG_PILOT_CFG_AMP_MAX) (min (max (4 * s.fget (f_SPG_BIN_LIM_IFLOOR n)) 1000) (s.fget f_LIM_PUB_CHG * 10))
      let dur := ((2 ^ s.fget (f_SPG_BIN_CFG_AVGSH_PILOT n) + 1) * segTime n s.spgRate + 124) / 125
      let s1 : State := { s with spg := { s.spg with pilotAt := s.now, pilotFolds := 0 } }
      (s1.fputs [(f_SPG_STATUS_PSTATE, 1), (f_SPG_PILOT_REQ_STATE, 1), (f_SPG_PILOT_REQ_BIN, n), (f_SPG_PILOT_AMP_VALUE, amp),
        (f_SPG_PILOT_DUR_VALUE, dur)]).raise f_SPG_IRQ_PILOT
  else s

/-- State 4 and at once 0: the bin is not requested again for 3,600 s. -/
def State.holdOff (s : State) : State :=
  let b := s.fget f_SPG_PILOT_REQ_BIN
  let s1 : State := { s with spg := { s.spg with holdoff := (b, s.now + 3600 * ticksPerS) :: s.spg.holdoff.filter (fun (x, _) => x != b) } }
  ((s1.fputs [(f_SPG_STATUS_PSTATE, 0), (f_SPG_PILOT_REQ_STATE, 0)]).raise f_SPG_IRQ_PILOT).raisePilot

def execPilotTimeout (at_ : Nat) (s : State) : Out :=
  let t := s.at at_
  done (if t.fget f_SPG_STATUS_PSTATE = 1 ∧ t.spg.pilotAt + 60 * ticksPerS ≤ t.now then t.holdOff else t)

/-- SPECTRO.PILOT_STATE: `report` 0 STARTED, 1 STOPPED, 2 REFUSED. -/
def execSpectroPilotState (r : Req) (report : Nat) (s : State) : Out :=
  done (runCmd s r 0x0407 anyLc
    (fun t => [need (t.mode == 2 || t.mode == 3) E_MODE, need (decide (report < 3)) (blame E_PARAM_RANGE 0x0100),
               need (t.fget f_SPG_STATUS_PSTATE == (if report = 1 then 3 else 1)) (blame E_PARAM_CONFLICT 0x0100)])
    (okEff fun t => match report with
      | 0 => (State.fputs { t with spg := { t.spg with pilotFolds := 0 } } [(f_SPG_STATUS_PSTATE, 2), (f_SPG_PILOT_REQ_STATE, 2)]).raise f_SPG_IRQ_PILOT
      | 1 => ((t.fputs [(f_SPG_STATUS_PSTATE, 0), (f_SPG_PILOT_REQ_STATE, 0)]).raise f_SPG_IRQ_PILOT).raisePilot
      | _ => t.holdOff))

/-- SPECTRO.READ_PILOT: state, bin, frequency in µHz, amplitude, duration. -/
def execSpectroReadPilot (r : Req) (s : State) : Out :=
  done (runCmd s r 0x0406 anyLc (fun _ => []) (readEff fun t =>
    let b := t.fget f_SPG_PILOT_REQ_BIN
    leBytes 1 (t.fget f_SPG_PILOT_REQ_STATE) ++ leBytes 1 b ++ leBytes 4 (microHz b) ++ w4 t r_SPG_PILOT_AMP ++ w4 t r_SPG_PILOT_DUR))

/-! ### The fit (R135–R137) -/

/-- The bins that a cell's fit uses at stamp `b` and RATE code `rate`. -/
def usedBins (s : State) (x : SpgCell) (b rate : Nat) : List Nat :=
  (List.range 128).filter (fun n =>
    let a := binOf x n
    let lim := s.fget (f_SPG_BIN_LIM_AGEMAX n)
    let age := 125 * ageOf b a.zStamp
    bit a.flags 0 && binActive n rate && decide (0 < a.zre) &&
      (if lim = 0 then decide (age ≤ max (125 * 60) (8 * segTime n rate)) else decide (age ≤ 125 * lim)))

/-- Enough bins, spanning a factor of 100. -/
def fitRuns (s : State) (us : List Nat) : Bool :=
  decide (s.fget f_SPG_FIT_CFG_MINBINS ≤ us.length) &&
  (match us.head?, us.getLast? with | some a, some b => decide (100 ^ 127 ≤ 320000 ^ (b - a)) | _, _ => false)

/-- Rounded to the nearest integer, half away from zero. -/
def nearest (x : Rat) : Nat := (roundDiv x.num x.den).toNat

/-- A fit record (R140). -/
def fitRecord (b : Nat) (f : FitResult) (nbins iter : Nat) : List Byte :=
  let r0 := clamp 10000 100000000 (nearest (par f.params 0))
  let r1 := clamp 1000 100000000 (nearest (par f.params 1))
  let r2 := clamp 1000 100000000 (nearest (par f.params 3))
  let cap (τ r : Rat) : Nat := satU 32 (nearest (τ * 1000000000000 / r))
  leBytes 8 b ++ leBytes 4 r0 ++ leBytes 4 r1 ++ leBytes 4 (cap (par f.params 2) (par f.params 1)) ++ leBytes 4 r2 ++
  leBytes 4 (cap (par f.params 4) (par f.params 3)) ++ leBytes 4 (clamp 1000 100000000 (nearest (par f.params 5))) ++
  leBytes 2 (satU 16 (nearest (f.resid * 65536))) ++ leBytes 2 nbins ++ leBytes 1 iter ++ leBytes 1 f.status ++ zeros 2

/-- The chemistry start point of a cell: R0, R1, τ1, R2, τ2, σ; without a table it is not given (log entry 26). -/
def State.chemStart (s : State) (i : Nat) : List Rat :=
  let of (u : Nat → Nat) : List Rat := [(u 0 : Nat), (u 1 : Nat), ((u 4 : Nat) : Rat) / 1000000, (u 2 : Nat), ((u 5 : Nat) : Rat) / 1000000, (u 3 : Nat)]
  match s.chemOf i with
  | some (_, c) => of (fun j => leNat ((c.drop (68 + 4 * j)).take 4))
  | none => of (Config.fitStart i)

/-- The fit of one cell in a cycle (R136): a new record, from the previous fit if its FSTATUS is 0 and else from the chemistry start point; or
FSTATUS 1 with the previous fit. -/
def State.fitCell (s : State) (i : Nat) (d : FitDue) : State :=
  let b := d.j * (10 * ticksPerS)
  let x := (keyed d.cells i).getD newCell
  let us := usedBins s x b d.rate
  let old := keyed s.spg.fits i
  if fitRuns s us then
    let start := match old, keyed s.spg.fitted i with
      | some l, some p => if leNat ((l.drop 37).take 1) = 0 then p else s.chemStart i
      | _, _ => s.chemStart i
    let f := runFit (us.map (fun n => let a := binOf x n; ⟨n, a.coh, a.zre, a.zim⟩)) start (s.fget f_SPG_FIT_CFG_ITER)
    { s with spg := { s.spg with fits := putKeyed s.spg.fits i (fitRecord b f us.length (s.fget f_SPG_FIT_CFG_ITER)), fitted := putKeyed s.spg.fitted i f.params } }
  else
    let put (l : List Byte) : State := { s with spg := { s.spg with fits := putKeyed s.spg.fits i l } }
    match old with
    | some l => put ((l.take 37) ++ leBytes 1 1 ++ zeros 2)
    | none => put (zeros 34 ++ leBytes 2 us.length ++ zeros 1 ++ leBytes 1 1 ++ zeros 2)

/-- FIT_OVERRUN: counted; the previous fit is kept. -/
def execFitOverrun (at_ cell : Nat) (s : State) : Out :=
  let t := s.at at_
  done (if cell < packCell then (t.bump f_SPG_FIT_OVERRUN_COUNT).raise f_SPG_IRQ_FIT_OVERRUN else t)

/-! ### Commands (R141) -/

def binRangeOk (first last : Nat) : Bool := decide (first ≤ last ∧ last ≤ 127)
/-! A range is two parameters, its first and its last (log entry 11); one that is out of order or ends too late is the last one's fault. -/
def binRange (first last : Nat) : List Nat := (List.range (last + 1 - first)).map (· + first)

def execSpectroSetBin (r : Req) (first last gate avgsh avgshPilot ifloor agemax : Nat) (s : State) : Out :=
  done (runCmd s r 0x0401 anyLc
    (fun _ => [need (binRangeOk first last) (blame E_PARAM_RANGE 0x0101), need (decide (gate < 65536)) (blame E_PARAM_RANGE 0x0102),
      need (decide (2 ≤ avgsh ∧ avgsh ≤ 7)) (blame E_PARAM_RANGE 0x0103), need (decide (2 ≤ avgshPilot ∧ avgshPilot ≤ 7)) (blame E_PARAM_RANGE 0x0104),
      need (decide (1 ≤ ifloor ∧ ifloor < 65536)) (blame E_PARAM_RANGE 0x0105), need (decide (agemax < 65536)) (blame E_PARAM_RANGE 0x0106)])
    (okEff fun t => (binRange first last).foldl (fun u n =>
      State.fputs { u with spg := { u.spg with configured := setAt u.spg.configured n (gate, avgsh) } }
        [(f_SPG_BIN_CFG_GATE n, gate), (f_SPG_BIN_CFG_AVGSH n, avgsh), (f_SPG_BIN_CFG_AVGSH_PILOT n, avgshPilot), (f_SPG_BIN_LIM_IFLOOR n, ifloor),
         (f_SPG_BIN_LIM_AGEMAX n, agemax)]) t))

def execSpectroReadBinState (r : Req) (first last : Nat) (s : State) : Out :=
  done (runCmd s r 0x0402 anyLc (fun _ => [need (binRangeOk first last) (blame E_PARAM_RANGE 0x0101)])
    (readEff fun t => (binRange first last).flatMap (fun n => w4 t (r_SPG_BIN_CFG n) ++ w4 t (r_SPG_BIN_LIM n) ++ w4 t (r_SPG_BIN_IRMS n) ++ w4 t (r_SPG_BIN_STAT n))))

/-- An impedance record as read (R140). -/
def impRecord (s : State) (i n : Nat) : List Byte :=
  let b := binOf (s.spgCell i) n
  leBytes 8 b.stamp ++ leBytes 4 (unsignedBits 32 b.zre) ++ leBytes 4 (unsignedBits 32 b.zim) ++ leBytes 2 b.coh ++ leBytes 2 b.irms ++
  leBytes 2 (ageOf s.now b.zStamp) ++ leBytes 1 b.nseg ++ leBytes 1 (setBitIn b.flags 5 (!binActive n s.spgRate))

/-- A position that holds no data (R28): zeros with VALID 0 and ABSENT 1 in an impedance record, FSTATUS 1 and NBINS 0 in a fit record, no flag in a
temperature record (log entry 93). -/
def absentImpedance : List Byte := zeros 23 ++ leBytes 1 16
def absentFit : List Byte := zeros 37 ++ leBytes 1 1 ++ zeros 2

/-- Whether Spectrograph holds a cell. -/
def State.holdsCell (s : State) (i : Nat) : Bool := (keyed s.spg.cells i).isSome

def execSpectroReadImpedance (r : Req) (locus first last : Nat) (s : State) : Out :=
  done (runCmd s r 0x0403 anyLc (fun _ => [need (cellLocusOk locus) (blame E_PARAM_RANGE 0x0001), need (binRangeOk first last) (blame E_PARAM_RANGE 0x0101)])
    (readEff fun t => (binRange first last).flatMap (fun n => leBytes 8 (withChan locus (0x80 + n)) ++
      (match t.ownCell locus with | some i => if t.holdsCell i then impRecord t i n else absentImpedance | none => absentImpedance))))

def execSpectroReadFit (r : Req) (locus : Nat) (s : State) : Out :=
  done (runCmd s r 0x0404 anyLc (fun _ => [need (cellLocusOk locus) (blame E_PARAM_RANGE 0x0001)])
    (readEff fun t => leBytes 8 (withChan locus 0x10) ++ (match t.ownCell locus with | some i => (keyed t.spg.fits i).getD absentFit | none => absentFit)))

/-- A temperature record as read: AGE, STALE and NOCAL (R139). -/
def tempRecord (s : State) (i : Nat) : List Byte :=
  match s.chemOf i, keyed s.spg.temps i with
  | none, _ => zeros 15 ++ leBytes 1 8
  | some _, none => zeros 16
  | some (_, c), some l =>
    let tage := let t := tab16 c 2; if t = 0 then 30 else t
    let stamp := leNat (l.take 8)
    let age := ageOf s.now stamp
    let zAge := ageOf s.now (binOf (s.spgCell i) (leNat (c.take 1))).zStamp
    l.take 12 ++ leBytes 2 age ++ (l.drop 14).take 1 ++ leBytes 1 (setBitIn (leNat (l.drop 15)) 1 (decide (tage < zAge)))

def execSpectroReadTemperature (r : Req) (locus : Nat) (s : State) : Out :=
  done (runCmd s r 0x0405 anyLc (fun _ => [need (cellLocusOk locus) (blame E_PARAM_RANGE 0x0001)])
    (readEff fun t => leBytes 8 (withChan locus 0x02) ++ (match t.ownCell locus with | some i => tempRecord t i | none => zeros 16)))

def rising (f : Nat → Int) (n : Nat) : Bool := (List.range (n - 1)).all (fun i => decide (f i < f (i + 1)))

/-- R138: the rules of a table. -/
def chemOk (c : List Byte) : Bool :=
  let u (o : Nat) : Nat := leNat ((c.drop o).take 4)
  let v := fun i => tabS16 c (36 + 2 * i)
  c.length == 92 && decide (leNat (c.take 1) ≤ 106) && at! c 1 0 == 0 && decide (tab16 c 2 ≤ 3600) && rising (fun i => tabS16 c (4 + 2 * i)) 16 &&
  (rising v 16 || rising (fun i => - v i) 16) && decide (10000 ≤ u 68 ∧ u 68 ≤ 100000000) && decide (1000 ≤ u 72 ∧ u 72 ≤ 100000000) &&
  decide (1000 ≤ u 76 ∧ u 76 ≤ 100000000) && decide (1000 ≤ u 80 ∧ u 80 ≤ 100000000) && decide (100 ≤ u 84 ∧ u 84 ≤ 1000000) &&
  decide (10000 ≤ u 88 ∧ u 88 ≤ 1000000000)

def execSpectroLoadChemistry (r : Req) (t : Nat) (table : List Byte) (s : State) : Out :=
  done (runCmd s r 0x0408 anyLc (fun _ => [need (decide (t < 4)) (blame E_PARAM_RANGE 0x0100), need (chemOk table) (blame E_PARAM_RANGE 0x0008)])
    (okEff fun u => { u with spg := { u.spg with chem := setAt u.spg.chem t (some table) } }))

/-- SPECTRO.SET_NODE_CHEMISTRY: a node of another part is accepted (R28) and changes nothing here. -/
def execSpectroSetNodeChemistry (r : Req) (locus t : Nat) (s : State) : Out :=
  done (runCmd s r 0x0409 anyLc
    (fun u => [need (cellLocusOk locus && decide (locusCell locus = 0)) (blame E_PARAM_RANGE 0x0001), need (decide (t < 4)) (blame E_PARAM_RANGE 0x0100),
               need ((at! u.spg.chem t none).isSome) (blame E_PARAM_MISSING 0x0100)])
    (okEff fun u => if (u.ownCell locus).isNone then u else
      { u with spg := { u.spg with nodeChem := setAt u.spg.nodeChem (16 * locusRing locus + locusNode locus) (some t) } }))

/-- SPECTRO.RESET_AVERAGES: S_II is cleared only when every cell is named. -/
def execSpectroResetAverages (r : Req) (locus : Option Nat) (first last : Nat) (s : State) : Out :=
  done (runCmd s r 0x040A anyLc
    (fun _ => [need (match locus with | some l => cellLocusOk l | none => true) (blame E_PARAM_RANGE 0x0001), need (binRangeOk first last) (blame E_PARAM_RANGE 0x0101)])
    (okEff fun t => match locus with
      | some l => (match t.ownCell l with | some i => t.resetAverages (· == i) first last false | none => t)
      | none =>
        let t1 := t.resetAverages (fun _ => true) first last false
        { t1 with spg := { t1.spg with sii := (binRange first last).foldl (fun l n => setAt l n 0) t1.spg.sii } }))

end Sys2Proof.Machine
end

