-- ==== Sys2Proof/Machine/Meridian.lean ====
section
/-!
DEFINITION. Machine/Meridian.lean: the energy meter, its channels and cross-check, calibration, and wear-weighted energy (chapter 7).
-/
namespace Sys2Proof.Machine

/-! ### The filters (R163, R164) -/

/-- C(n + 2, 2), the weights of a triple sum; 0 below n = 0. -/
def triangle (n : Int) : Int := if n < 0 then 0 else (n + 1) * (n + 2) / 2

/-- Tap `j` of a sinc3 stage decimating by 125, newest bit first: 373 taps. -/
def sincTap (j : Nat) : Int := triangle j - 3 * triangle ((j : Int) - 125) + 3 * triangle ((j : Int) - 250)

/-- The sinc3 sum over the last 375 bits, the oldest in bit 0. -/
def sincSum (bits : Nat) : Int := (List.range 373).foldl (fun m j => if bit bits (374 - j) then m + sincTap j else m) 0

/-- The intermediate code: ones density 1.0 is +2^23 and 0.0 is −2^23, rounded to nearest (log entry 25). -/
def sincCode (bits : Nat) : Int := roundDiv ((2 * sincSum bits - 1953125) * 8388608) 1953125

/-- 125 bits of a bitstream behind the last bit: whether there is a transition, the cycles since the newest one, and the cycles that the run in
progress reached before the first. `run` are the cycles so far. -/
def runOf (lastBit : Bool) (run bits : Nat) : Bool × Nat × Nat :=
  (List.range 125).foldl (fun (p : Bool × Nat × Nat × Bool) j =>
    let b := bit bits j
    if b == p.2.2.2 then (p.1, p.2.1 + 1, if p.1 then p.2.2.1 else p.2.1 + 1, b) else (true, 0, p.2.2.1, b)) (false, run, run, lastBit) |>
  fun p => (p.1, p.2.1, p.2.2.1)

/-! ### Values and channels (R165, R166, R167, R169, R170) -/

/-- The newest entries of a history, newest first, back to the one in force at `w`. -/
def pruneAt (w : Nat) (key : α → Nat) (l : List α) : List α := l.filter (fun x => decide (w < key x)) ++ (l.filter (fun x => decide (key x ≤ w))).take 1

/-- The calibration group as the registers hold it. -/
def State.convNow (s : State) (start : Nat) : Conv :=
  { start := start, gain := (List.range 4).map (fun i => s.fget (f_MER_CH_GAIN_GAIN i)), ofs := (List.range 4).map (fun i => s.fget (f_MER_CH_OFS_OFS i)),
    dly := (List.range 4).map (fun i => s.regN (r_MER_CH_DLY i)), cap := s.fget f_MER_RATING_CAP }

/-- The calibration group in force at a stamp (R167). -/
def State.convAt (s : State) (t : Nat) : Conv := (s.mer.convs.find? (fun c => decide (c.start ≤ t))).getD (s.convNow 0)

/-- An input that is disabled, by its DLY register. -/
def Conv.off (c : Conv) (i : Nat) : Bool := !bit (at! c.dly i 0x1000) 12

/-- An input that is disabled or has MODFLT set: R170 treats both as faulted. -/
def State.inputFaulted (s : State) (i : Nat) : Bool := !s.isSet (f_MER_CH_DLY_ENABLE i) || s.isSet (f_MER_CH_STAT_MODFLT i)

/-- A code converted (R165): the value, and whether it saturated. -/
def Conv.value (k : Conv) (i : Nat) (c : Int) : Int × Bool :=
  let v := roundDiv ((c - signed 24 (at! k.ofs i 0)) * (at! k.gain i 0 : Nat)) (2 ^ 24)
  if i < 2 then (let w := clip 8388607 v; (w, w != v)) else if v < 0 then (0, true) else if 2000000 < v then (2000000, true) else (v, false)

/-- The value of an input at a stamp, none when it is disabled or has MODFLT set. -/
def State.inputValue (s : State) (t i : Nat) (cs : List Int) : Option Int :=
  let k := s.convAt t
  if k.off i || s.isSet (f_MER_CH_STAT_MODFLT i) then none else some (k.value i (at! cs i 0)).1

/-- The current of the channel in service. -/
def inService (isrc : Nat) (a b : Option Int) : Option Int := if isrc = 1 then a else if isrc = 2 then b else none

/-- The next sample instant. -/
def State.nextSample (s : State) : Nat :=
  let k := instantAt s.now + 1
  (((List.range 128).map (k + ·)).find? s.sampled).getD k

/-- The channel in service at a stamp: 0 none, 1 shunt, 2 fluxgate. -/
def State.chanAt (s : State) (t : Nat) : Nat := ((s.mer.svc.find? (fun e => decide (e.1 ≤ t))).map (·.2.1)).getD 1

/-- Channel `c` is in service from the next sample instant (R170). -/
def State.setChannel (s : State) (c : Nat) : State :=
  match s.mer.svc.find? (fun e => decide (s.now < e.1 ∧ e.2.1 = c)) with
  | some _ => s
  | none =>
    let past := pruneAt s.alm.w (·.1) (s.mer.svc.filter (fun e => decide (e.1 ≤ s.now)))
    { s with mer := { s.mer with svc := if c = s.chanAt s.now then past else (stampOf s.nextSample, c, s.now) :: past } }

/-- A change of channel whose instant has come shows in the registers, with its interrupt. -/
def State.dueChannel (s : State) : State :=
  let c := s.chanAt s.now
  if c = s.fget f_MER_STATUS_ISRC then s else (s.fputs [(f_MER_STATUS_ISRC, c), (f_SPG_STATUS_ISRC, c)]).raise f_MER_IRQ_CHANNEL

/-- The channel that R170 puts in service. -/
def chosenChannel (cur : Nat) (free1 free2 : Bool) : Nat :=
  match cur with
  | 1 => if free1 then 1 else if free2 then 2 else 0
  | 2 => if free2 then 2 else if free1 then 1 else 0
  | _ => if free1 then 1 else if free2 then 2 else 0

/-- CHANNEL_IN_SERVICE_CHANGE: from the next sample instant. A choice of an earlier stamp that waits for its instant stands as the channel in service; one
of this stamp is made anew, so that of two channels freed together the shunt is taken. -/
def State.chooseChannel (s : State) : State :=
  let cur := match s.mer.svc.find? (fun e => decide (s.now < e.1 ∧ e.2.2 < s.now)) with | some e => e.2.1 | none => s.chanAt s.now
  s.setChannel (chosenChannel cur (!s.inputFaulted 0) (!s.inputFaulted 1))

/-- STUCK sets at a stamp. -/
def State.setStuck (s : State) (i t : Nat) : State :=
  { s.fput (f_MER_CH_STAT_STUCK i) 1 with mer := { s.mer with stuckAt := setAt s.mer.stuckAt i t } }

/-- STUCK clears with a transition. -/
def State.clearStuck (s : State) (i : Nat) : State :=
  { s.fput (f_MER_CH_STAT_STUCK i) 0 with mer := { s.mer with freeAt := setAt s.mer.freeAt i s.now } }

def execStuckDetect (at_ input : Nat) (s : State) : Out :=
  let t := s.at at_
  done (if 4 ≤ input ∨ t.isSet (f_MER_CH_STAT_STUCK input) then t else t.setStuck input t.now)

/-- MODFLT_SET: STUCK has persisted for 1 ms. A period in which a current input has MODFLT set is not compared (R171). -/
def execModfltSet (at_ input : Nat) (s : State) : Out :=
  let t := s.at at_
  done (if input < 4 ∧ t.isSet (f_MER_CH_STAT_STUCK input) ∧ at! t.mer.stuckAt input 0 + ticksPerMs ≤ t.now then
      let t1 := ((t.fput (f_MER_CH_STAT_MODFLT input) 1).putBit f_MER_STATUS_MODFLT input true).raise f_MER_IRQ_MODFLT
      (if input < 2 then { t1 with mer := { t1.mer with spoiled := true } } else t1).chooseChannel
    else t)

/-- MODFLT_CLEAR: 1 s without STUCK. -/
def execModfltClear (at_ input : Nat) (s : State) : Out :=
  let t := s.at at_
  done (if input < 4 ∧ t.isSet (f_MER_CH_STAT_MODFLT input) ∧ t.isSet (f_MER_CH_STAT_STUCK input) = false ∧ at! t.mer.freeAt input 0 + ticksPerS ≤ t.now then
      let t1 := (t.fput (f_MER_CH_STAT_MODFLT input) 0).putBit f_MER_STATUS_MODFLT input false
      (if input < 2 then { t1 with mer := { t1.mer with spoiled := true } } else t1).chooseChannel
    else t)

/-! ### The hardware path (R173, R190) -/

/-- 6.25 pJ units in 1 mWh. -/
def unitsPerMwh : Nat := 576000000000
/-- Units of 1/4,096 µW × 125 µs in 1 mWh (R176). -/
def wweUnitsPerMwh : Nat := 117964800000000

/-- MER_PULSE_CFG.BACKLOG shows the queue, saturating at 63. -/
def State.putPulses (s : State) (n : Nat) : State := State.fput { s with mer := { s.mer with pulses := n } } f_MER_PULSE_CFG_BACKLOG (satU 6 n)

/-- Energy joins a register's count; each 1/IMP kWh of the selected register is a pulse (R175). -/
def State.addEnergy (s : State) (j units per : Nat) : State :=
  let t := at! s.mer.rem j 0 + units
  let whole := t / per
  let s1 : State := { s with mer := { s.mer with rem := setAt s.mer.rem j (t % per), count := setAt s.mer.count j (at! s.mer.count j 0 + whole) } }
  let sel := s.fget f_MER_PULSE_CFG_SEL
  if s.isSet f_MER_CTRL_PULSE_EN && decide (j < 2) && (sel == j || sel == 2) then
    let a := s1.mer.pulseAcc + whole * s.fget f_MER_PULSE_CFG_IMP
    State.putPulses { s1 with mer := { s1.mer with pulseAcc := a % 1000000 } } (s1.mer.pulses + a / 1000000)
  else s1

/-- |I| beyond which OVR is set: 0.95 × 2^23. -/
def ovrCode (c : Int) : Bool := decide (7969177 < c.natAbs)

/-- One channel's part of the open period: ΣI, Σ|I| and samples. -/
def addChannel (m : MerState) (j : Nat) (i : Option Int) : MerState :=
  match i with
  | none => m
  | some x => let (a, b, n) := at! m.sums j (0, 0, 0); { m with sums := setAt m.sums j (a + x, b + x.natAbs, n + 1) }

/-- The energy of p = V × I on channel `j` joins its period: the open one, or a closed one that was not below NOLOAD. -/
def State.addPower (s : State) (per j u : Nat) (i : Option Int) : State :=
  match i with
  | none => s
  | some x =>
    let k := if x < 0 then 2 * j + 1 else 2 * j
    if per = s.mer.per then { s with mer := { s.mer with period := setAt s.mer.period k (at! s.mer.period k 0 + u * x.natAbs) } }
    else match s.mer.loads.find? (fun p => p.1 == per) with
      | some (_, l) => if at! l j false then s else s.addEnergy k (u * x.natAbs) unitsPerMwh
      | none => s

/-- Time and charge that no register counts (R173). -/
def State.unmetered (s : State) (i : Option Int) : State :=
  let t := s.mer.timeRem + 1
  let q := s.mer.chargeRem + (i.getD 0).natAbs
  let s1 : State := { s with mer := { s.mer with timeRem := t % 160, chargeRem := q % 160000000 } }
  ((s1.bumpBy f_MER_UNMET_TIME_COUNT (t / 160)).bumpBy f_MER_UNMET_CHARGE_COUNT (q / 160000000)).raise f_MER_IRQ_UNMETERED

/-- The largest |I| in service over the preceding 1 ms exceeds 50 A, or no channel is in service (R190). -/
def State.over50 (s : State) : Bool :=
  s.fget f_MER_STATUS_ISRC == 0 || s.mer.recent.any (fun (t, i) => decide (s.now < t + ticksPerMs ∧ 50000 < i))

/-- How many intermediate codes the FIR stage may look back on. -/
def firSpan : Nat := 81920

/-- The bitstream of input `i` moves on by 125 cycles: its code and its STUCK detector (R164, R169). -/
def State.takeBits (s : State) (i new : Nat) : State × Int :=
  let old := at! s.mer.bits i 0
  let all := old + new % 2 ^ 125 * 2 ^ 250
  let (moved, run, lead) := runOf (bit old 249) (at! s.mer.run i 0) new
  let c := sincCode all
  let s1 : State := { s with mer := { s.mer with bits := setAt s.mer.bits i (all / 2 ^ 125), run := setAt s.mer.run i run } }
  let s2 := s1.fput (f_MER_CH_STAT_CODE i) (unsignedBits 24 (clip 8388607 c))
  let s3 := if moved && (s2.isSet (f_MER_CH_STAT_STUCK i) || decide (256 ≤ lead)) then s2.clearStuck i else s2
  (if decide (256 ≤ run) && !s3.isSet (f_MER_CH_STAT_STUCK i) then s3.setStuck i (s3.now - (run - 256) * 625 / 32) else s3, c)

/-- INTERMEDIATE_SAMPLE (R164, R169, R173, R190): the four codes at the intermediate rate. -/
def State.intermediate (s0 : State) (cs : List Int) : State :=
  let s := s0.dueChannel
  let ovr := (List.range 4).foldl (fun m i => if ovrCode (at! cs i 0) then setBitIn m i true else m) s.mer.ovr
  let sh := s.inputValue s.now 0 cs
  let fx := s.inputValue s.now 1 cs
  let svc := inService (s.chanAt s.now) sh fx
  let m1 := addChannel (addChannel (addChannel { s.mer with ovr := ovr, current := svc } 0 svc) 1 sh) 2 fx
  let m2 := { m1 with
    recent := ((match svc with | some x => [(s.now, x.natAbs)] | none => []) ++ m1.recent).filter (fun (t, _) => decide (s.now < t + ticksPerMs)),
    codes := ((s.now, cs) :: m1.codes).take firSpan,
    samples := if s.isSet f_MER_CTRL_EN then m1.samples ++ [⟨s.now, m1.per, svc, sh, fx⟩] else m1.samples,
    cal := m1.cal.map (fun c => if c.count < 160000 then { c with sum := c.sum + at! cs c.input 0, count := c.count + 1 } else c) }
  let s2 : State := { s with mer := m2 }
  let s3 : State := if s2.over50 then s2 else { s2 with sht := { s2.sht with overAt := s2.now } }
  if (match sh with | some x => decide (50000 < x.natAbs) | none => false) then { s3 with life := { s3.life with above50 := s3.now } } else s3

/-- The four inputs' bits enter their filters, in order, each giving the code of its intermediate sample. -/
def State.takeFour (s : State) (bits : List Nat) : State × List Int :=
  (List.range 4).foldl (fun (p : State × List Int) i => ((p.1.takeBits i (at! bits i 0)).1, p.2 ++ [(p.1.takeBits i (at! bits i 0)).2])) (s, [])

/-- `bits` holds, per input, the 125 bits since the last intermediate sample, the oldest in bit 0. -/
def execIntermediateSample (at_ : Nat) (bits : List Nat) (s : State) : Out :=
  let p := (s.at at_).takeFour bits
  done (p.1.intermediate p.2)

/-! ### The pack segment (R100, R164, R172) -/

/-- The next instant whose entry is due, if any. -/
def nextPackInstant (s : State) : Option Nat :=
  let newest := instantAt s.now
  match s.alm.packK with
  | none => ((List.range 128).map (fun i => newest - i)).find? (fun k => s.sampled k)
  | some k => ((List.range 128).map (fun i => k + 1 + i)).find? (fun j => s.sampled j && decide (j ≤ newest))

/-- A field of an entry: its 32 bits. -/
def entryField (v : Option Int) : Nat := match v with | some x => unsignedBits 32 x | none => 0x80000000

/-- The samples of instant `k`, and older ones that no entry came for: with the voltage written for the instant they add their energy; without one, or
without a current in service, their time and charge are unmetered (R173). -/
def State.meterSamples (s : State) (k : Nat) (v : Option Nat) : State :=
  let stop := stampOf (k + 2 ^ rateOf s.tr.rates k)
  let mine := s.mer.samples.filter (fun x => decide (x.stamp < stop))
  let s1 : State := { s with mer := { s.mer with samples := s.mer.samples.filter (fun x => decide (stop ≤ x.stamp)) } }
  let s2 := mine.foldl (fun t x =>
    match x.svc, (if x.stamp < stampOf k then none else v) with
    | some _, some u => ((t.addPower x.per 0 u x.svc).addPower x.per 1 u x.shunt).addPower x.per 2 u x.flux
    | _, _ => t.unmetered x.svc) s1
  { s2 with mer := { s2.mer with loads := s2.mer.loads.filter (fun p => s2.mer.samples.any (fun x => x.per == p.1)) } }

/-- The entry of instant `k`, from the codes that the FIR stage gives at its stamp. -/
def State.packSample (s : State) (k : Nat) (cs : List Int) : State :=
  let t := stampOf k
  let s1 := s.dueChannel
  let isrc := s1.chanAt t
  let conv := s1.convAt t
  let link := s1.inputValue t 3 cs
  let closed := s1.bitOf f_SHT_STATUS_OUT 0 && s1.bitOf f_SHT_STATUS_OUT 1
  let (pack, vsub) :=
    if s1.isSet (f_MER_CH_STAT_MODFLT 2) then (match link with | some v => if closed then (some v, true) else (none, false) | none => (none, false))
    else (s1.inputValue t 2 cs, false)
  let ovr := (List.range 4).any (fun i => (s1.inputValue t i cs).isSome && (conv.value i (at! cs i 0)).2)
  let late := decide (t ≤ s1.alm.w)
  let pf := flag (isrc != 0) + 2 * flag late + 4 * flag (isrc == 2) + 8 * flag vsub + 16 * s1.fget f_MER_STATUS_XDIS + 32 * flag ovr +
    64 * flag (s1.fget f_MER_STATUS_MODFLT != 0) + 128 * flag pack.isNone
  let e := leBytes 8 t ++ leBytes 4 (entryField (s1.inputValue t 0 cs)) ++ leBytes 4 (entryField (s1.inputValue t 1 cs)) ++
    leBytes 4 (entryField pack) ++ leBytes 4 (entryField link) ++ leBytes 1 pf ++ zeros 7
  let s2 : State := { s1.write (packAddr k) e with alm := { s1.alm with packK := some k, packH := k } }
  let s3 := (s2.fputs [(f_MER_STATUS_VSUB, flag vsub), (f_ALM_SRC_CFG_MEMBER 8, 1)]).meterSamples k (pack.map Int.toNat)
  if late then s3.storeLate ⟨8, k, 0, s3.now, e⟩ (packAddr k + 24) else s3

/-- The four codes of the filter chains at instant `k` (R164). -/
def State.firCodes (s : State) (k : Nat) : List Int :=
  (List.range 4).map (fun i => Config.fir (rateOf s.tr.rates k) (at! (s.convAt (stampOf k)).dly i 0 % 4096) (s.mer.codes.map (fun p => (p.1, at! p.2 i 0))) (stampOf k))

/-- PACK_SAMPLE_WRITE: the entry of instant `k`, the next that is due. -/
def execPackSampleWrite (at_ k : Nat) (s : State) : Out :=
  let t := s.at at_
  done (if nextPackInstant t = some k then t.packSample k (t.firCodes k) else t)

/-! ### The 10 ms period (R171, R173, R177, R180) -/

/-- Whether a channel's period lies below NOLOAD × I_RATED. -/
def noLoad (s : State) (j : Nat) : Bool :=
  let (_, a, n) := at! s.mer.sums j (0, 0, 0)
  decide (a * 10 < s.fget f_MER_XC_CFG_NOLOAD * s.fget f_MER_RATING_I_RATED * n)

/-- The period closes: its energy is counted or dropped, and so is what its last samples add when their entry is written. -/
def State.commitPeriod (s : State) : State :=
  let s1 := (List.range 6).foldl (fun t j => if noLoad s (j / 2) then t else t.addEnergy j (at! s.mer.period j 0) unitsPerMwh) s
  let wait := s1.mer.samples.any (fun x => x.per == s1.mer.per)
  { s1 with mer := { s1.mer with per := s1.mer.per + 1, loads := if wait then (s1.mer.per, (List.range 3).map (noLoad s)) :: s1.mer.loads else s1.mer.loads } }

/-- XFAULT sets or clears, with its event and interrupt. -/
def State.xfault (s : State) (set : Bool) (a b : Int) : State :=
  ((s.fput f_MER_STATUS_XFAULT (flag set)).raise f_MER_IRQ_XFAULT).emit (s.packLocus 0) 9 (if set then 2 else 3)
    (leBytes 4 (unsignedBits 32 a) ++ leBytes 4 (unsignedBits 32 b))

/-- CROSSCHECK_PERIOD (R171). -/
def State.crosscheck (s : State) : State :=
  let (a, _, na) := at! s.mer.sums 1 (0, 0, 0)
  let (b, _, nb) := at! s.mer.sums 2 (0, 0, 0)
  let skip := s.mer.spoiled || bit s.mer.ovr 0 || bit s.mer.ovr 1 || na == 0 || nb == 0
  if !s.isSet f_MER_XC_CFG_XC_EN || skip then s.fput f_MER_STATUS_XDIS 0
  else
    let diff := (a * nb - b * na).natAbs * 1000
    let bad := decide (s.fget f_MER_XC_CFG_XC_REL * a.natAbs * nb < diff ∧ s.fget f_MER_XC_CFG_XC_ABS * na * nb * 1000 < diff)
    let s1 := s.fput f_MER_STATUS_XDIS (flag bad)
    let s2 := if bad then s1.bump f_MER_XC_COUNT_COUNT else s1
    let d := if bad then s.mer.disagree + 1 else 0
    let g := if bad then 0 else s.mer.agree + 1
    let s3 : State := { s2 with mer := { s2.mer with disagree := d, agree := g } }
    if !s3.isSet f_MER_STATUS_XFAULT && decide (10 ≤ d) then s3.xfault true (roundDiv a na) (roundDiv b nb)
    else if s3.isSet f_MER_STATUS_XFAULT && decide (100 ≤ g) then s3.xfault false (roundDiv a na) (roundDiv b nb)
    else s3

/-- WWE_TABLE_EXCHANGE (R180). -/
def State.exchangeTable (s : State) (p : Nat) : State :=
  if s.isSet f_MER_STATUS_TPEND then
    let s1 : State := { s with mer := { s.mer with loaded := true, prior := s.mer.loaded, tableAt := p } }
    ((s1.fputs [(f_MER_STATUS_TPEND, 0), (f_MER_STATUS_TBANK, 1 - s.fget f_MER_STATUS_TBANK)]).raise f_MER_IRQ_TABLE).emit (s.packLocus 0) 9 4 s.mer.digest
  else s

/-- Meridian at the boundary P_p (a stamp). -/
def State.meridianPeriod (s : State) (p : Nat) : State :=
  let s1 := (s.commitPeriod).crosscheck
  let s2 := (List.range 4).foldl (fun t i => t.fput (f_MER_CH_STAT_OVR i) (flag (bit s.mer.ovr i))) (s1.fput f_MER_STATUS_OVR s.mer.ovr)
  let s3 : State := { s2 with
    mer := { s2.mer with period := List.replicate 6 0, sums := List.replicate 3 (0, 0, 0), ovr := 0,
                         spoiled := s.isSet (f_MER_CH_STAT_MODFLT 0) || s.isSet (f_MER_CH_STAT_MODFLT 1),
                         ctx := if s.isSet f_LIM_CTRL_EN && s.isSet f_MER_CTRL_EN then ((p, s.fget f_LIM_INFO0_SOC, s.fget f_LIM_INFO1_T_MAX) :: s2.mer.ctx).take 64 else s2.mer.ctx } }
  s3.exchangeTable p

/-- A fit-cycle boundary B_j: the class written takes effect (R177). -/
def State.classBoundary (s : State) (b : Nat) : State :=
  let c := s.fget f_MER_RGCLASS_CLASS
  State.fput { s with mer := { s.mer with classes := ((b, c) :: s.mer.classes).take 16 } } f_MER_STATUS_RGCLASS c

/-! ### Wear-weighted energy (R176–R179) -/

/-- Where `x` lies on a rising axis of `n` points: the lower index and the fraction, clamped to the ends. -/
def axisAt (f : Nat → Rat) (n : Nat) (x : Rat) : Nat × Rat :=
  if x ≤ f 0 then (0, 0)
  else match (List.range (n - 1)).find? (fun i => decide (x ≤ f (i + 1))) with
    | some i => (i, if f (i + 1) = f i then 0 else (x - f i) / (f (i + 1) - f i))
    | none => (n - 2, 1)

def lerp (a b f : Rat) : Rat := a + (b - a) * f

/-- Rounded to nearest, half away from zero. -/
def roundRat (q : Rat) : Int := if q < 0 then - (-q + 1 / 2).floor else (q + 1 / 2).floor

def tableU16 (t : Sparse Byte) (o : Nat) : Nat :=
  (Sparse.get (fun _ => 0) t o).toNat + 256 * (Sparse.get (fun _ => 0) t (o + 1)).toNat

/-- R179: the weight of class `g` at temperature `t` (s9.7), SoC (0.01 %) and C-rate. -/
def tableWeight (tb : Sparse Byte) (g : Nat) (t : Int) (soc : Nat) (c : Rat) : Nat :=
  let (ti, tf) := axisAt (fun i => (signed 16 (tableU16 tb (2 * i)) : Rat)) 8 t
  let (ci, cf) := axisAt (fun i => (tableU16 tb (16 + 2 * i) : Rat) / 256) 8 c
  let (si, sf) := axisAt (fun i => (1000 * i : Nat)) 11 (soc : Rat)
  let w (a b d : Nat) : Rat := tableU16 tb (32 + 2 * (((g * 8 + a) * 8 + b) * 11 + d))
  let along (a b : Nat) : Rat := lerp (w a b si) (w a b (si + 1)) sf
  let plane (a : Nat) : Rat := lerp (along a ti) (along a (ti + 1)) tf
  (roundRat (lerp (plane ci) (plane (ci + 1)) cf)).toNat

/-- w_k (R177): 4,096 without a capacity, a table or a latched context. -/
def weightAt (s : State) (k : Nat) (i : Int) : Nat :=
  let cap := (s.convAt (stampOf k)).cap
  let p := stampOf k / ticksPerPeriod * ticksPerPeriod
  let bank := if s.mer.tableAt ≤ stampOf k then s.fget f_MER_STATUS_TBANK else 1 - s.fget f_MER_STATUS_TBANK
  let g := ((s.mer.classes.find? (fun (b, _) => decide (b ≤ stampOf k))).map (·.2)).getD 0
  match s.mer.ctx.find? (fun (q, _, _) => q == p) with
  | none => 4096
  | some (_, soc, t) => if cap = 0 ∨ !(if s.mer.tableAt ≤ stampOf k then s.mer.loaded else s.mer.prior) then 4096 else tableWeight (at! s.mer.tables bank []) g (signed 16 t) soc ((i.natAbs : Rat) / (cap * 100 : Nat))

/-- WWE_STAGE: instant `k`, as W passes it. -/
def State.wweSample (s : State) (k : Nat) : State :=
  if !s.isSet f_MER_CTRL_EN ∨ stampOf k < s.mer.wweFrom ∨ !s.sampled k then s
  else
    match packCurrent s k with
    | none => s
    | some i =>
      if (s.byte (packAddr k + 24)).getLsbD 7 then s
      else
        let u := s.loadN (packAddr k + 16) 4 * i.natAbs * 2 ^ rateOf s.tr.rates k
        if i = 0 then s
        else if 0 < i then (s.addEnergy 6 (weightAt s k i * u) wweUnitsPerMwh).addEnergy 8 (4096 * u) wweUnitsPerMwh
        else (s.addEnergy 7 (weightAt s k i * u) wweUnitsPerMwh).addEnergy 9 (4096 * u) wweUnitsPerMwh

/-! ### Enable, pulses, calibration (R167, R168, R174, R175) -/

/-- MER_STATUS.NOCAP while the WWE stage runs (R177). -/
def State.putNocap (s : State) : State := if s.isSet f_MER_CTRL_EN then s.fput f_MER_STATUS_NOCAP (flag (s.fget f_MER_RATING_CAP == 0)) else s

/-- METER_ENABLE: a write of MER_CTRL; EN starts counting and locks MER_BASE. -/
def execMeterEnable (w : Wr) (s : State) : Out :=
  done (guarded s w r_MER_CTRL fun t =>
    let was := t.isSet f_MER_CTRL_EN
    let t1 := t.writeWord r_MER_CTRL w.value
    if !was && t1.isSet f_MER_CTRL_EN then
      State.putNocap { t1 with mer := { t1.mer with wweFrom := t1.now, count := List.replicate 10 0, rem := List.replicate 10 0, period := List.replicate 6 0 } }
    else t1)

/-- PULSE_OUTPUT: at least 5 ms after the previous pulse. -/
def execPulseOutput (at_ : Nat) (s : State) : Out :=
  let t := s.at at_
  done (if t.isSet f_MER_CTRL_PULSE_EN && decide (0 < t.mer.pulses) && (match t.mer.pulseAt with | some p => decide (p + 5 * ticksPerMs ≤ t.now) | none => true) then
      State.putPulses { t with mer := { t.mer with pulseAt := some t.now } } (t.mer.pulses - 1) else t)

/-- The level of MER_PULSE: high for 2 ms from the start of a pulse (R175). -/
def State.pulseLevel (s : State) : Bool := match s.mer.pulseAt with | some p => decide (s.now < p + 2 * ticksPerMs) | none => false

/-- The offsets of the calibration group. -/
def calOffset (o : Nat) : Bool := o == 8 || o == 0xC || (decide (0x40 ≤ o ∧ o < 0x80) && [0, 4, 8].contains (o % 16))

/-- XC_CFG fields within R171 and R173. -/
def xcOk (v : Nat) : Bool := decide (2 ≤ v % 128 ∧ v % 128 ≤ 50) && decide (1 ≤ v / 256 % 256) && decide (100 ≤ v / 65536)

/-- A calibration write, with its event (R167): the register holds the value at once, and it converts from the next sample instant. -/
def State.calWrite (s : State) (o v : Nat) : State :=
  let a := 0x40090000 + o
  let old := s.regN a
  let before := s.convAt s.now
  let s1 := s.writeWord a v
  let next := stampOf s1.nextSample
  let s2 : State := { s1 with
    mer := { s1.mer with convs := s1.convNow next :: pruneAt s1.alm.w Conv.start ((s1.mer.convs.filter (fun c => decide (c.start ≤ s1.now))) ++ [{ before with start := 0 }]) } }
  let s3 := s2.emit (s2.packLocus 0) 9 1 (leBytes 2 o ++ zeros 2 ++ leBytes 4 old ++ leBytes 4 (s2.regN a))
  let s4 := if o = 8 then s3.putNocap else s3
  if o % 16 = 8 ∧ 0x40 ≤ o then s4.chooseChannel else s4

def execCalibrationWrite (w : Wr) (offset : Nat) (s : State) : Out :=
  done (if !calOffset offset then s.at w.at_
    else guarded s w (0x40090000 + offset) fun t =>
      if t.mode ≠ 0 ∧ t.mode ≠ 2 then t.bump f_MER_CAL_REFUSED_COUNT
      else if offset = 0xC ∧ !xcOk w.value then t
      else t.calWrite offset (w.value % 2 ^ 32))

/-- METER.CALIBRATE: `form` 0 ZERO, 1 SPAN, 2 SET. -/
def execMeterCalibrate (r : Req) (form input ref : Nat) (gain ofs dly : Nat) (s : State) : Out :=
  done (runCmd s r 0x0502 anyLc
    (fun t => [need (t.mode == 0 || t.mode == 2) E_MODE,
               need (decide (form < 3)) (blame E_PARAM_RANGE 0x0100), need (decide (input < 4)) (blame E_PARAM_RANGE 0x0101), need (decide (ref < 2 ^ 32)) (blame E_PARAM_RANGE 0x0102),
               need (decide (gain < 2 ^ 32)) (blame E_PARAM_RANGE 0x0102), need (decide (ofs < 2 ^ 24)) (blame E_PARAM_RANGE 0x0103), need (decide (dly < 4096)) (blame E_PARAM_RANGE 0x0104), need t.mer.cal.isNone E_BUSY])
    (fun t =>
      if form = 2 then
        let d := t.regN (r_MER_CH_DLY input) / 4096 * 4096 + dly
        ((((t.calWrite (0x40 + 16 * input) gain).calWrite (0x44 + 16 * input) ofs).calWrite (0x48 + 16 * input) d), some (OK, []))
      else ({ t with mer := { t.mer with cal := some ⟨input, form == 1, ref, 0, 0, r⟩ } }, none)))

/-- CALIBRATE_AVERAGE_DONE: after 160,000 intermediate samples OFS or GAIN is written, or the command is refused. -/
def State.calDone (s : State) (c : Calib) : State :=
  let s1 : State := { s with mer := { s.mer with cal := none } }
  let n : Int := c.count
  if s.mode ≠ 0 ∧ s.mode ≠ 2 then s1.reply c.req 0x0502 E_MODE []
  else if !c.span then
    if 10 * c.sum.natAbs > 4194304 * c.count then s1.reply c.req 0x0502 E_PARAM_RANGE []
    else (s1.calWrite (0x44 + 16 * c.input) (unsignedBits 24 (roundDiv c.sum n))).reply c.req 0x0502 OK []
  else
    let d := c.sum - signed 24 (s.fget (f_MER_CH_OFS_OFS c.input)) * n
    let g := roundDiv (c.ref * 2 ^ 24 * n) d
    if d ≤ 0 ∨ 10 * d < 8388608 * n ∨ 2 ^ 32 ≤ g then s1.reply c.req 0x0502 E_PARAM_RANGE []
    else (s1.calWrite (0x40 + 16 * c.input) g.toNat).reply c.req 0x0502 OK []

def execCalibrateAverageDone (at_ : Nat) (s : State) : Out :=
  let t := s.at at_
  done (match t.mer.cal with | some c => if 160000 ≤ c.count then t.calDone c else t | none => t)

/-! ### Commands (R182) -/

def execMeterRead (r : Req) (s : State) : Out :=
  done (runCmd s r 0x0501 anyLc (fun _ => []) (readEff fun t =>
    (List.range 10).flatMap (fun j => leBytes 8 (accValue t j)) ++ w4 t r_MER_STATUS ++ w4 t r_MER_UNMET_TIME ++ w4 t r_MER_UNMET_CHARGE))

/-- METER.SELECT_CHANNEL: 1 shunt, 2 fluxgate. -/
def execMeterSelectChannel (r : Req) (channel : Nat) (s : State) : Out :=
  done (runCmd s r 0x0503 anyLc
    (fun t => [need (channel == 1 || channel == 2) (blame E_PARAM_RANGE 0x0100), need (!t.inputFaulted (channel - 1)) (blame E_PARAM_CONFLICT 0x0100)])
    (okEff fun t => t.setChannel channel))

def execMeterSetCrosscheck (r : Req) (enable : Bool) (rel abs noload : Nat) (s : State) : Out :=
  done (runCmd s r 0x0504 anyLc
    (fun t => [need (t.mode == 0 || t.mode == 2) E_MODE,
               need (decide (2 ≤ rel ∧ rel ≤ 50)) (blame E_PARAM_RANGE 0x0101), need (decide (100 ≤ abs ∧ abs < 65536)) (blame E_PARAM_RANGE 0x0102),
               need (decide (1 ≤ noload ∧ noload ≤ 255)) (blame E_PARAM_RANGE 0x0103)])
    (okEff fun t => t.calWrite 0xC (abs * 65536 + noload * 256 + 128 * flag enable + rel)))

def execMeterSetRating (r : Req) (iRated cap : Nat) (s : State) : Out :=
  done (runCmd s r 0x0508 anyLc
    (fun t => [need (t.mode == 0 || t.mode == 2) E_MODE, need (decide (1 ≤ iRated ∧ iRated < 65536)) (blame E_PARAM_RANGE 0x0100), need (decide (10 ≤ cap ∧ cap < 65536)) (blame E_PARAM_RANGE 0x0101)])
    (okEff fun t => t.calWrite 8 (cap * 65536 + iRated)))

def execMeterSetPulse (r : Req) (enable : Bool) (sel imp : Nat) (s : State) : Out :=
  done (runCmd s r 0x0509 anyLc (fun _ => [need (decide (sel ≤ 2)) (blame E_PARAM_RANGE 0x0101), need (decide (1000 ≤ imp ∧ imp ≤ 100000)) (blame E_PARAM_RANGE 0x0102)])
    (okEff fun t => t.fputs [(f_MER_CTRL_PULSE_EN, flag enable), (f_MER_PULSE_CFG_SEL, sel), (f_MER_PULSE_CFG_IMP, imp)]))

/-- A table as it is stored: weights outside 2,048–16,384 become the nearer bound; and how many were clamped. -/
def clampWeights : List Byte → List Byte × Nat
  | a :: b :: t =>
    let (rest, n) := clampWeights t
    let v := a.toNat + 256 * b.toNat
    let w := clamp 2048 16384 v
    (leBytes 2 w ++ rest, if w = v then n else n + 1)
  | _ => ([], 0)

/-- Both axes strictly increasing (R178). -/
def axesOk (t : List Byte) : Bool := rising (fun i => tabS16 t (2 * i)) 8 && rising (fun i => (tab16 t (16 + 2 * i) : Int)) 8

/-- Bytes as a sparse bank. -/
def sparseBytes (bs : List Byte) : Sparse Byte := ((List.range bs.length).zip bs).filter (fun (_, b) => b != 0)

def execMeterLoadWweTable (r : Req) (table : List Byte) (s : State) : Out :=
  done (runCmd s r 0x0505 anyLc
    (fun t => [need (decide (table.length = 11296)) (blame E_LENGTH 0x0008), need (!t.isSet f_MER_STATUS_TPEND) E_BUSY, need (axesOk table) (blame E_PARAM_RANGE 0x0008)])
    (fun t =>
      let (ws, n) := clampWeights (table.drop 32)
      let t1 : State := { t with mer := { t.mer with tables := setAt t.mer.tables (1 - t.fget f_MER_STATUS_TBANK) (sparseBytes (table.take 32 ++ ws)) } }
      (t1.bumpBy f_MER_WWE_CLAMPS_COUNT n, some (OK, leBytes 4 n))))

def standbyBytes (s : State) : List Byte := tableBytes (at! s.mer.tables (1 - s.fget f_MER_STATUS_TBANK) [])

def execMeterActivateWweTable (r : Req) (digest : List Byte) (s : State) : Out :=
  done (runCmd s r 0x0506 anyLc
    (fun t => [need (!t.isSet f_MER_STATUS_TPEND) E_BUSY, need (digest == digestBytes (standbyBytes t)) (blame E_PARAM_CONFLICT 0x0100)])
    (okEff fun t => State.fput { t with mer := { t.mer with digest := digest } } f_MER_STATUS_TPEND 1))

def execMeterReadWweTable (r : Req) (bank : Nat) (s : State) : Out :=
  done (runCmd s r 0x0507 anyLc (fun _ => [need (decide (bank < 2)) (blame E_PARAM_RANGE 0x0100)])
    (readEff fun t =>
      let b := tableBytes (at! t.mer.tables (if bank = 0 then t.fget f_MER_STATUS_TBANK else 1 - t.fget f_MER_STATUS_TBANK) [])
      b ++ digestBytes b))

end Sys2Proof.Machine
end

