-- ==== Sys2Proof/Machine/Estim.lean ====
section
/-!
DEFINITION. Machine/Estim.lean: the estimators, cell states and balancing decisions of the custody world's firmware (chapter 6, R144–R153, R159–R161).
-/
namespace Sys2Proof.Machine

/-! ### Profiles (R144, R145) -/

/-- The profile of a cell's node; none when no profile is loaded for its table. -/
def State.profileOf (s : State) (i : Nat) : Option (List Byte) :=
  match at! s.spg.nodeChem (i / 16) none with
  | none => none
  | some t => at! s.est.profiles t none

def capRated (p : List Byte) : Nat := leNat (p.take 4)
def vMin (p : List Byte) : Nat := tab16 p 4
def vMax (p : List Byte) : Nat := tab16 p 6

/-- Open-circuit voltage in mV at an SoC from 0 to 1. -/
def ocv (p : List Byte) (soc : Rat) : Rat :=
  let (i, f) := axisAt (fun i => (i : Nat)) 21 (20 * soc)
  lerp (tab16 p (12 + 2 * i)) (tab16 p (14 + 2 * i)) f

/-- OCV⁻¹: the SoC of an open-circuit voltage in mV. -/
def ocvInv (p : List Byte) (v : Rat) : Rat :=
  let (i, f) := axisAt (fun i => (tab16 p (12 + 2 * i) : Nat)) 21 v
  ((i : Nat) + f) / 20

/-- A table of the profile at offset `o`, bilinear, clamped at the edges; `t` in s9.7. -/
def gridAt (p : List Byte) (o : Nat) (t soc : Rat) : Rat :=
  let (a, fa) := axisAt (fun i => (tabS16 p (54 + 2 * i) : Int)) 8 t
  let (b, fb) := axisAt (fun i => (i : Nat)) 11 (10 * soc)
  let u (i j : Nat) : Rat := (leNat ((p.drop (o + 11 * i + j)).take 1) : Nat)
  lerp (lerp (u a b) (u a (b + 1)) fb) (lerp (u (a + 1) b) (u (a + 1) (b + 1)) fb) fa

/-- Rates in units of C, and the plating threshold in mV (0: no limit). -/
def chgRate (p : List Byte) (t soc : Rat) : Rat := gridAt p 70 t soc / 20
def disRate (p : List Byte) (t soc : Rat) : Rat := gridAt p 158 t soc / 20
def uplAt (p : List Byte) (t soc : Rat) : Rat := 2 * gridAt p 246 t soc

/-- R145: the rules of a profile. -/
def profileOk (p : List Byte) : Bool :=
  p.length == 412 && rising (fun i => (tab16 p (12 + 2 * i) : Int)) 21 && rising (fun i => tabS16 p (54 + 2 * i)) 8 &&
  rising (fun i => (tab16 p (344 + 4 * i) : Int)) 16 && decide (vMin p < tab16 p 12) && decide (tab16 p 52 < vMax p) &&
  decide (tabS16 p 8 < tabS16 p 10) && capRated p != 0 && tab16 p 334 != 0 && (p.drop 341).take 3 == zeros 3 && p.drop 408 == zeros 4

/-! ### Cells -/

/-- The stamp less the time without power: what WATCH_TIME counts (R152). -/
def State.pnow (s : State) : Nat := s.now - s.est.unpowered

def noEstimates : List (Nat × Int × Nat × Nat) := List.replicate 7 (0, 0, 0, 0)

/-- A cell before its first sample. Its SoC is open in the spec: a free value from 0 to 1. R25 is collected from the first fit on once the part has
been commissioned; until there is a base its growth is 1.0000 with BASELINE (R147, log entry 94). -/
def State.newEst (s : State) (p : Option (List Byte)) : EstCell :=
  { soc := ((s.draw 32 % 100001 : Nat) : Rat) / 100000, cap := ((p.map capRated).getD 0 : Nat), caps := [], charge := 0, got := 0, due := 0, ocvs := [],
    restFrom := s.now, rested := 0, r25 := 0, base := if 2 ≤ s.lc then some [] else none, baseMean := none, drop := false, rests := [],
    fails := List.replicate 10 0, present := s.now, volt := 0, seen := (0, 0), here := false, aux := 2 ^ 48 - 1, status := 0, state := 0, states := [], cause := 0,
    watchFrom := 0, cleanFrom := s.pnow, vals := setAt noEstimates 3 (0, 10000, 0, 17) }

def State.putEst (s : State) (i : Nat) (x : EstCell) : State := { s with est := { s.est with cells := putKeyed s.est.cells i x } }

/-- The cell's estimators, started if they have not been. -/
def State.withEst (s : State) (i : Nat) : State × EstCell :=
  match keyed s.est.cells i with
  | some x => (s, x)
  | none => let x := s.newEst (s.profileOf i); ((s.putEst i x).drawn, x)

/-- An estimate record's entry (R149). EFLAGS: VALID 1, HELD 2, TSRC 4, NOPROF 8, BASELINE 16. -/
def EstCell.putVal (x : EstCell) (k stamp : Nat) (v : Int) (qual flags : Nat) : EstCell := { x with vals := setAt x.vals k (stamp, v, qual, flags) }
def EstCell.val (x : EstCell) (k : Nat) : Nat × Int × Nat × Nat := at! x.vals k (0, 0, 0, 0)

/-- A cell's R25 base is collected anew: its growth is 1.0000 with BASELINE until then (R147). -/
def EstCell.rebase (x : EstCell) : EstCell := { x with base := some [], baseMean := none, vals := setAt x.vals 3 ((x.val 3).1, 10000, 0, 17) }

/-- A share of 255, rounded down; with nothing to count, what it was. -/
def share (got due old : Nat) : Nat := if due = 0 then old else 255 * got / due

/-- The locus of a cell by its index. -/
def State.cellLocus (s : State) (i chan : Nat) : Nat := s.locus (i / 256) (i / 16 % 16) (i % 16) chan

/-- An estimate record (R149); a cell without a profile has none, and its records carry NOPROF (R145). -/
def estBytes (profiled : Bool) (x : EstCell) (k : Nat) : List Byte :=
  if profiled then let (t, v, q, f) := x.val k; leBytes 8 t ++ leBytes 4 (unsignedBits 32 v) ++ leBytes 1 q ++ leBytes 1 f ++ zeros 2
  else zeros 13 ++ leBytes 1 8 ++ zeros 2

/-- The cell with the estimates `ks` updated: their records are emitted at its locus (R146). -/
def State.putEstimates (s : State) (i : Nat) (x : EstCell) (ks : List Nat) : State :=
  ks.foldl (fun t k => t.emitValue (t.cellLocus i (0x40 + k)) (estBytes (t.profileOf i).isSome x k)) (s.putEst i x)

/-! ### Temperature (R148) -/

/-- The thermistor that serves a cell, in s9.7. -/
def thermistor (p : List Byte) (x : EstCell) (c : Nat) : Option Int :=
  let a := c / 4
  let code := x.aux / 2 ^ (12 * a) % 4096
  if !bit (leNat ((p.drop 340).take 1)) a || code == 0xFFF || bit x.status 3 then none
  else
    let (j, f) := axisAt (fun j => (tab16 p (344 + 4 * j) : Nat)) 16 (code : Nat)
    some (roundRat (lerp (tabS16 p (346 + 4 * j)) (tabS16 p (350 + 4 * j)) f))

/-- The impedance-derived temperature: VALID, and neither STALE, RANGE nor NOCAL. -/
def State.impTemp (s : State) (i : Nat) : Option Int :=
  let l := tempRecord s i
  if leNat (l.drop 15) % 16 = 1 then some (tabS16 l 8) else none

/-- The temperature of steps 1 and 2, with TSRC. -/
def State.ownTemp (s : State) (i : Nat) : Option (Int × Bool) :=
  match s.impTemp i, s.profileOf i, keyed s.est.cells i with
  | some t, _, _ => some (t, false)
  | none, some p, some x => (thermistor p x (i % 16)).map (fun t => (t, true))
  | none, _, _ => none

def maxInt : List Int → Option Int
  | [] => none
  | a :: t => match maxInt t with | none => some a | some b => some (if b < a then a else b)

/-- The populated cells of a ring and of a node. -/
def State.ringCells (s : State) (i : Nat) : List Nat := s.populated.filter (fun j => j / 256 == i / 256)
def State.nodeCells (s : State) (i : Nat) : List Nat := s.populated.filter (fun j => j / 16 == i / 16)

def State.cellTemp (s : State) (i : Nat) : Option (Int × Bool) :=
  match s.ownTemp i with
  | some r => some r
  | none => (maxInt ((s.ringCells i).filterMap (fun j => (s.ownTemp j).map (·.1)))).map (fun t => (t, true))

/-! ### SoC, capacity and resistance (R146, R147, R150) -/

/-- Rising order, smaller first. -/
def insertRat (q : Rat) : List Rat → List Rat
  | [] => [q]
  | a :: t => if q ≤ a then q :: a :: t else a :: insertRat q t
def sortRat (l : List Rat) : List Rat := l.foldr insertRat []

/-- The median: the mean of the two middle values of an even number. -/
def median (l : List Rat) : Rat :=
  let m := sortRat l
  (at! m ((l.length - 1) / 2) 0 + at! m (l.length / 2) 0) / 2

/-- EFLAGS of an estimate: VALID, and TSRC when the cell's temperature comes from step 2 or 3 (R148). -/
def State.estFlags (s : State) (i : Nat) : Nat := 1 + 4 * flag (match s.cellTemp i with | some (_, b) => b | none => false)

/-- A sampled instant reaches one cell: `i` mA in service, the entry's STATUS and AUX, Δt = 2^rate / 8,000 s; `fl` EFLAGS. -/
def estSample (x : EstCell) (p : List Byte) (stamp rate : Nat) (i : Option Int) (bleedDuty fl : Nat) : EstCell :=
  let dt : Rat := (2 ^ rate : Nat) / (8000 * 3600 : Nat)
  let ib : Rat := if bit x.status 4 then (x.volt : Rat) / 1000 * (bleedDuty : Nat) / 256 * 10 / (tab16 p 334 : Nat) else 0
  let dq : Rat := (i.getD 0 : Int) * dt - ib * dt
  let x2 := { x with charge := x.charge + dq, soc := if x.cap = 0 then x.soc else x.soc + dq / x.cap, got := x.got + flag i.isSome, due := x.due + 1 }
  let x3 := match i with
    | some a => if a.natAbs ≤ tab16 p 338 then x2 else { x2 with restFrom := stamp, rested := 0 }
    | none => { x2 with restFrom := stamp, rested := 0 }
  x3.putVal 0 stamp (max 0 (x3.soc * 100000).floor) (255 * flag i.isSome) fl

/-- The STATUS and AUX of the node's entry at instant `k`, if the stream delivers it, and the cell's voltage. -/
def State.noteNode (s : State) (i k : Nat) (x : EstCell) : EstCell :=
  let r := i / 256
  let n := i / 16 % 16
  let x1 := if s.slotValid r k n && !s.slotLate r k n then { x with status := (s.byte (slotAddr r k n + 6)).toNat, aux := s.loadN (slotAddr r k n + 56) 6 } else x
  match cellVolt s r n (i % 16) k with
  | some u => { x1 with present := stampOf k, volt := u, seen := (x1.seen.1 + 1, x1.seen.2 + 1) }
  | none => { x1 with seen := (x1.seen.1, x1.seen.2 + 1) }

/-- V_PACK of the entry of instant `k`, when the stream delivers one. -/
def packVolt (s : State) (k : Nat) : Option Int :=
  if s.packValid k && !s.packLate k && !(s.byte (packAddr k + 24)).getLsbD 7 then some (signed 32 (s.loadN (packAddr k + 16) 4)) else none

/-- What the estimators hold of instant `k` itself. -/
def State.noteInstant (s : State) (k : Nat) : State :=
  let cur := packCurrent s k
  { s with est := { s.est with upTo := stampOf k, current := cur, vPack := (packVolt s k).or s.est.vPack,
                               curSeen := (s.est.curSeen.1 + flag cur.isSome, s.est.curSeen.2 + 1) } }

/-- ESTIMATE_UPDATE: instant `k` of the stream, as W passes it. -/
def State.estInstant (s : State) (k : Nat) : State :=
  if !s.sampled k then s
  else
    s.populated.foldl (fun t i =>
      let (t1, x) := t.withEst i
      let x1 := t1.noteNode i k x
      match t1.profileOf i with
      | none => t1.putEst i x1
      | some p =>
        let x2 := if x1.cap = 0 then { x1 with cap := (capRated p : Nat) } else x1
        let r := i / 256
        let n := i / 16 % 16
        let duty := if bit (t1.fget (f_SHT_BLEED_MASK r n)) (i % 16) then t1.fget (f_SHT_BLEED_DUTY r n) else 0
        let t2 := t1.putEst i x2
        t2.putEstimates i (estSample x2 p (stampOf k) (rateOf t2.tr.rates k) t2.est.current duty (t2.estFlags i)) [0]) (s.noteInstant k)

/-- Least-squares slope of capacity (mAh) against powered hours. -/
def slope (l : List (Nat × Rat)) : Rat :=
  let n : Rat := (l.length : Nat)
  let xs := l.map (fun (t, _) => (t : Rat) / (3600 * ticksPerS : Nat))
  let ys := l.map (·.2)
  let sx := xs.foldl (· + ·) 0
  let sy := ys.foldl (· + ·) 0
  let sxy := (xs.zip ys).foldl (fun a (x, y) => a + x * y) 0
  let sxx := xs.foldl (fun a x => a + x * x) 0
  let d := n * sxx - sx * sx
  if d = 0 then 0 else (n * sxy - sx * sy) / d

/-- CAPACITY_UPDATE (R147): a new OCV correction that differs from an earlier one by at least 40 %; whether there was one, with EFLAGS `fl`. -/
def capUpdate (x : EstCell) (p : List Byte) (stamp pnow : Nat) (soc : Rat) (fl : Nat) : EstCell × Bool :=
  let o : OcvPoint := ⟨stamp, soc, x.charge, x.got, x.due⟩
  match x.ocvs.find? (fun y => decide ((2 : Rat) / 5 ≤ (if y.soc ≤ soc then soc - y.soc else y.soc - soc))) with
  | none => ({ x with ocvs := o :: x.ocvs }, false)
  | some y =>
    let q := if y.charge ≤ x.charge then x.charge - y.charge else y.charge - x.charge
    let d := if y.soc ≤ soc then soc - y.soc else y.soc - soc
    let c := x.cap + (q / d - x.cap) / 8
    let rated : Rat := (capRated p : Nat)
    let drop := decide (rated / 50 < x.cap - c)
    let caps := ((pnow, c) :: x.caps).take 16
    let fails := setAt x.fails 6 (if drop then at! x.fails 6 0 + 1 else 0)
    let x1 := { x with cap := c, caps := caps, ocvs := [o], drop := drop, fails := fails, cleanFrom := if drop then pnow else x.cleanFrom }
    let qual := share (x.got - y.got) (x.due - y.due) 255
    ((x1.putVal 1 stamp (c / rated * 100000).floor qual fl).putVal 2 stamp (roundRat (slope caps * 100 * 1000 * 1000 / rated)) qual fl, true)

/-- The SoCs that the present voltages of a ring stand for. -/
def State.ringSocs (s : State) (i : Nat) : List Rat :=
  (s.ringCells i).filterMap (fun j => match s.profileOf j, keyed s.est.cells j with
    | some p, some x => if x.here then some (ocvInv p ((x.volt : Rat) / 1000)) else none
    | _, _ => none)

/-- REST_CORRECTION: 1,800 s of rest in the stream, and each further 1,800 s; the cell's voltage must be present. -/
def State.restCorrection (s : State) (i : Nat) : State :=
  match s.profileOf i, keyed s.est.cells i with
  | some p, some x =>
    if s.est.upTo < x.restFrom + (x.rested + 1) * 1800 * ticksPerS ∨ !x.here then s
    else
      let soc := ocvInv p ((x.volt : Rat) / 1000)
      let rel := soc - median (s.ringSocs i)
      let fell := match x.rests.find? (fun (t, _) => decide (t + 8 * 3600 * ticksPerS ≤ x.present)) with
        | some (_, r0) => decide ((1 : Rat) / 50 < r0 - rel)
        | none => false
      let x1 := { x with soc := soc, rested := x.rested + 1, rests := ((x.present, rel) :: x.rests).take 32,
                         fails := setAt x.fails 9 (if fell then at! x.fails 9 0 + 1 else 0), cleanFrom := if fell then s.pnow else x.cleanFrom }
      let fl := s.estFlags i
      let (x2, capped) := capUpdate (x1.putVal 0 x.present (max 0 (soc * 100000).floor) 255 fl) p x.present s.pnow soc fl
      s.putEstimates i x2 (if capped then [0, 1, 2] else [0])
  | _, _ => s

def execRestCorrection (at_ cell : Nat) (s : State) : Out := done ((s.at at_).restCorrection cell)

/-- Fields of a fit record, in nΩ; FSTATUS. -/
def fitR0 (l : List Byte) : Nat := leNat ((l.drop 8).take 4)
def fitR1 (l : List Byte) : Nat := leNat ((l.drop 12).take 4)
def fitR2 (l : List Byte) : Nat := leNat ((l.drop 20).take 4)
def fitStatus (l : List Byte) : Nat := leNat ((l.drop 37).take 1)

/-- A check of R151 evaluated: its count of failures in a row, and the clean time. -/
def EstCell.mark (x : EstCell) (b pnow : Nat) (failed : Bool) : EstCell :=
  { x with fails := setAt x.fails b (if failed then at! x.fails b 0 + 1 else 0), cleanFrom := if failed then pnow else x.cleanFrom }

/-- R25 (R146): T in s9.7. -/
def r25Of (p : List Byte) (r0 : Nat) (t : Int) : Rat :=
  (r0 : Rat) * Config.expReal ((tab16 p 336 : Nat) * ((20 : Rat) / 5963 - 1 / ((t : Rat) / 128 + (5463 : Rat) / 20)))

/-- A fit with FSTATUS 0: resistance growth, its base, and R25STEP. -/
def growth (x : EstCell) (r25 : Rat) (stamp pnow : Nat) (tsrc : Bool) : EstCell :=
  let d := if x.r25 ≤ r25 then r25 - x.r25 else x.r25 - r25
  let x1 := (if x.r25 = 0 then x else x.mark 4 pnow (decide (x.r25 / 4 < d)))
  let x2 := match x1.base with
    | none => x1
    | some l => if l.length + 1 < 100 then { x1 with base := some (r25 :: l) }
                else { x1 with base := none, baseMean := some ((r25 :: l).foldl (· + ·) 0 / 100) }
  let x3 := { x2 with r25 := r25 }
  match x3.baseMean with
  | some m => x3.putVal 3 stamp (if m = 0 then 10000 else (r25 / m * 10000).floor) 255 (1 + 4 * flag tsrc)
  | none => x3.putVal 3 stamp 10000 255 (17 + 4 * flag tsrc)

/-- The estimators take the fit of cell `i` at B_j; without a profile there is no R25, and only FITFAIL is judged. -/
def State.estFit (s : State) (i b : Nat) : State :=
  match keyed s.spg.fits i with
  | none => s
  | some l =>
    let (s1, x) := s.withEst i
    let x1 := x.mark 5 s1.pnow (fitStatus l != 0)
    match s1.profileOf i, s1.cellTemp i with
    | some p, some (t, tsrc) =>
      if fitStatus l = 0 then s1.putEstimates i (growth x1 (r25Of p (fitR0 l) t) b s1.pnow tsrc) [3] else s1.putEst i x1
    | _, _ => s1.putEst i x1

/-- RG of the cells in the normal or watch state, in 0.0001; a cell without a profile has none. -/
def State.growths (s : State) : List Rat :=
  s.populated.filterMap (fun i => match keyed s.est.cells i with
    | some x => if x.state < 2 ∧ (s.profileOf i).isSome then some ((x.val 3).2.1 : Rat) else none
    | none => none)

/-- R150: the class of the 90th percentile (nearest rank). -/
def growthClass (l : List Rat) : Nat :=
  let m := sortRat l
  let rg := at! m ((9 * l.length + 9) / 10 - 1) 10000
  if rg < 11000 then 0 else min 7 ((rg - 10000) / 1000).floor.toNat

/-- The class is computed and written for the next B_j. -/
def State.putGrowth (s : State) : State :=
  let c := growthClass s.growths
  State.fput { s with est := { s.est with rgClass := c } } f_MER_RGCLASS_CLASS c

/-! ### Contributions, plating risk and checks, each period (R146, R151, R153) -/

/-- Rounded down to whole mA, at least 0. -/
def wholeMa (q : Rat) : Int := max 0 q.floor

/-- i_chg and i_dis (R153), before a hold. -/
def contributions (p : List Byte) (soc : Rat) (fit : Option (List Byte)) (t : Int) (quarantined : Bool) (qfactor : Nat) : Int × Int :=
  let cap : Rat := (capRated p : Nat)
  let c0 := chgRate p t soc * cap
  let d0 := disRate p t soc * cap
  let (c1, d1) := match fit with
    | none => (c0, d0)
    | some l =>
      let rdc : Rat := (fitR0 l + fitR1 l + fitR2 l : Nat)
      let rp : Rat := (fitR1 l + fitR2 l : Nat)
      if rdc = 0 then (c0, d0)
      else
        let voc := ocv p soc
        let u := uplAt p t soc
        let c := min c0 (((vMax p : Nat) - voc) * 1000000000 / rdc)
        (if u = 0 ∨ rp = 0 then c else min c (u * 1000000000 / rp), min d0 ((voc - (vMin p : Nat)) * 1000000000 / rdc))
  let c2 := if t < tabS16 p 8 ∨ tabS16 p 10 < t then 0 else c1
  let d2 := if tabS16 p 10 < t then 0 else d1
  let f : Rat := if quarantined then (qfactor : Nat) / 100 else 1
  (wholeMa (c2 * f), wholeMa (d2 * f))

/-- Plating risk in 0.0001. -/
def platingRisk (p : List Byte) (soc : Rat) (fit : Option (List Byte)) (t : Int) (i : Int) : Int :=
  let u := uplAt p t soc
  match fit with
  | some l => if i ≤ 0 ∨ u = 0 then 0 else ((i : Rat) * (fitR1 l + fitR2 l : Nat) / (u * 1000000000) * 10000).floor
  | none => 0

/-- Checks 0–3, 7 and 8 of R151 at a period boundary. A check that needs a present voltage or a profile is not judged without it; ABSENT and TSPREAD
are judged for every populated cell. -/
def State.cellChecks (s : State) (i : Nat) (profile : Option (List Byte)) (x : EstCell) (risk : Int) : EstCell :=
  let mv : Rat := (x.volt : Rat) / 1000
  let rest := decide (x.restFrom + 1800 * ticksPerS ≤ s.est.upTo)
  let temps := (s.nodeCells i).filterMap (fun j => (s.cellTemp j).map (fun r => (r.1 : Rat)))
  let spread := match s.cellTemp i with | some (t, _) => decide (median temps + 1280 < t) | none => false
  let pn := s.pnow
  let x1 := (x.mark 3 pn spread).mark 8 pn (!x.here)
  match profile with
  | none => x1
  | some p =>
    let tSense := match s.impTemp i, thermistor p x (i % 16) with | some a, some b => decide (1024 < (a - b).natAbs) | _, _ => false
    let dev := ocvInv p mv - median (s.ringSocs i)
    let x2 := (x1.mark 2 pn tSense).mark 7 pn (decide (10000 ≤ risk))
    if x.here then
      (x2.mark 0 pn (decide (mv < (vMin p : Nat) - 200 ∨ (vMax p : Nat) + 100 < mv))).mark 1 pn (rest && decide ((1 : Rat) / 10 < (if dev < 0 then -dev else dev)))
    else x2

/-- What the period's sampled instants gave of a cell: whether its voltage is present, and the share of its samples. -/
def EstCell.closePeriod (x : EstCell) : EstCell × Nat :=
  ({ x with here := if x.seen.2 = 0 then x.here else decide (0 < x.seen.1), seen := (0, 0) }, share x.seen.1 x.seen.2 (x.val 5).2.2.1)

/-- The estimates 4–6 and the checks of one cell at the period boundary, from what lies below W (R21). -/
def State.estPeriodCell (s : State) (i : Nat) : State :=
  let (s1, x0) := s.withEst i
  let (x, qual) := x0.closePeriod
  let st := s1.est.upTo
  match s1.profileOf i with
  | none => s1.putEstimates i (s1.cellChecks i none ((x.putVal 5 st 0 0 8).putVal 6 st 0 0 8) 0) [5, 6]
  | some p =>
    match s1.cellTemp i with
    | none => s1.putEstimates i (s1.cellChecks i (some p) (((x.putVal 4 st 0 0 0).putVal 5 st 0 0 0).putVal 6 st 0 0 0) 0) [4, 5, 6]
    | some (t, tsrc) =>
      let fit := keyed s1.spg.fits i
      let fl := 1 + 4 * flag tsrc
      let cur := s1.est.current.getD 0
      let risk := platingRisk p x.soc fit t cur
      let x1 := x.putVal 4 st risk (share s1.est.curSeen.1 s1.est.curSeen.2 (x.val 4).2.2.1) fl
      let (c, d) := contributions p x.soc fit t (x.state == 2) s1.est.qfactor
      if x.present + ticksPerS < st then
        let held := if bit (x.val 5).2.2.2 1 then x1
          else (x1.putVal 5 st ((x.val 5).2.1 / 2) 0 (fl + 2)).putVal 6 st ((x.val 6).2.1 / 2) 0 (fl + 2)
        s1.putEstimates i (s1.cellChecks i (some p) held risk) [4, 5, 6]
      else s1.putEstimates i (s1.cellChecks i (some p) ((x1.putVal 5 st c qual fl).putVal 6 st d qual fl) risk) [4, 5, 6]

/-! ### The pack's figures (R149, R154) -/

def leastRat : List Rat → Option Rat
  | [] => none
  | a :: t => match leastRat t with | none => some a | some b => some (min a b)

def greatestRat (l : List Rat) : Option Rat := (leastRat (l.map (fun x => -x))).map (fun x => -x)

/-- Rounded down, at least 0 and at most `2 ^ w - 1`. -/
def satFloor (w : Nat) (x : Rat) : Nat := satU w x.floor.toNat

/-- Pack SoC from the lowest and the highest cell: SoC_min / (SoC_min + 1 − SoC_max); what 0/0 gives is open. -/
def packSoc (lo hi : Rat) : Rat := if lo + 1 - hi = 0 then Config.packSocOpen else lo / (lo + 1 - hi)

/-- The lowest of a contribution over all populated cells, in 0.1 A; a cell without estimates contributes 0. -/
def State.lowest (s : State) (k : Nat) : Nat :=
  match leastRat (s.populated.map (fun i => match keyed s.est.cells i with | some x => ((x.val k).2.1 : Rat) | none => 0)) with
  | some v => satFloor 16 (v / 100)
  | none => 0

/-- The pack's figures: the limits and voltages over all populated cells, the rest over the cells in the normal or watch state. -/
def State.packFigures (s : State) : PackFigures :=
  let all := s.populated.filterMap (fun i => match s.profileOf i, keyed s.est.cells i with | some p, some x => some (i, p, x) | _, _ => none)
  let ok := all.filter (fun (_, _, x) => decide (x.state < 2))
  let states := s.populated.filterMap (keyed s.est.cells)
  let margin (f : List Byte → Rat → Rat) : Option Rat := leastRat ((all.filter (fun (_, _, x) => x.here)).map (fun (_, p, x) => f p ((x.volt : Rat) / 1000)))
  let n : Rat := (s.populated.length : Nat)
  let old := s.est.pack
  let volt (f : List Byte → Rat → Rat) (sign : Rat) (was : Nat) : Nat :=
    match s.est.vPack, margin f with | some v, some m => satFloor 16 (((v : Rat) + sign * (n * m)) / 100) | _, _ => was
  let socs := ok.map (fun (_, _, x) => x.soc)
  let soh := leastRat (ok.map (fun (_, p, x) => x.cap / (capRated p : Nat)))
  { chg := s.lowest 5, dis := s.lowest 6,
    vChg := volt (fun p v => (vMax p : Nat) - v) 1 old.vChg, vDis := volt (fun p v => v - (vMin p : Nat)) (-1) old.vDis,
    soc := match leastRat socs, greatestRat socs with | some a, some b => satFloor 16 (10000 * packSoc a b) | _, _ => old.soc,
    soh := match soh with | some h => satFloor 16 (10000 * h) | none => old.soh,
    watch := min 255 (states.filter (fun x => x.state == 1)).length, quar := min 255 (states.filter (fun x => x.state == 2)).length,
    tMax := match maxInt (ok.filterMap (fun (i, _, _) => (s.cellTemp i).map (·.1))) with | some t => unsignedBits 16 t | none => old.tMax }

/-! ### Cell states (R151, R152) -/

def persistence : List Nat := [100, 100, 3000, 3000, 3, 360, 1, 100, 60000, 1]

/-- The mask of the checks that have failed for their whole persistence. -/
def failedMask (x : EstCell) : Nat := (List.range 10).foldl (fun m b => if at! persistence b 1 ≤ at! x.fails b 0 then m + 2 ^ b else m) 0

/-- WATCH_TIME in seconds. -/
def State.watchTime (s : State) (x : EstCell) : Nat := if x.state = 0 then 0 else (s.pnow - x.watchFrom) / ticksPerS

/-- The cell moves to a state, with its record (R152). -/
def State.setCellState (s : State) (i : Nat) (x : EstCell) (st cause wt : Nat) : State :=
  (s.putEst i { x with state := st, states := ((s.now, st) :: x.states).take 8, cause := cause }).emitRecord (s.cellLocus i 0x03) 7
    (leBytes 1 st ++ zeros 1 ++ leBytes 2 cause ++ leBytes 4 wt)

def State.toWatch (s : State) (i : Nat) (x : EstCell) (cause : Nat) : State :=
  s.setCellState i { x with watchFrom := s.pnow, cleanFrom := s.pnow } 1 cause 0

/-- CELL_WATCH_ENTRY. -/
def execCellWatchEntry (at_ cell check : Nat) (s : State) : Out :=
  let t := s.at at_
  done (match keyed t.est.cells cell with
    | some x => if x.state = 0 ∧ check < 10 ∧ at! persistence check 1 ≤ at! x.fails check 0 then t.toWatch cell x (failedMask x) else t
    | none => t)

/-- The clean time for the exit has run. -/
def State.exitDue (s : State) (x : EstCell) : Bool := x.state == 1 && decide (x.cleanFrom + s.est.watchExit * ticksPerS ≤ s.pnow)

def execCellWatchExit (at_ cell : Nat) (s : State) : Out :=
  let t := s.at at_
  done (match keyed t.est.cells cell with
    | some x => if t.exitDue x then t.setCellState cell x 0 0 (t.watchTime x) else t
    | none => t)

/-- CELL_QUARANTINE_PROMOTION: WATCH_TIME reaches 86,400 s; an exit that falls due in the same evaluation is taken instead. -/
def execCellQuarantinePromotion (at_ cell : Nat) (s : State) : Out :=
  let t := s.at at_
  done (match keyed t.est.cells cell with
    | some x =>
      if t.exitDue x then t.setCellState cell x 0 0 (t.watchTime x)
      else if x.state = 1 ∧ 86400 ≤ t.watchTime x then t.setCellState cell x 2 x.cause (t.watchTime x) else t
    | none => t)

/-- TRANSIT.ACCEPT_ROSTER replaces the serial of a node: its cells return to normal and their resistance base is collected again (R147, R152). -/
def State.newNodeStates (s : State) (r n : Nat) : State :=
  (List.range 16).foldl (fun t c =>
    match keyed t.est.cells (cellIdx r n c) with
    | some x =>
      let x1 := { x.rebase with fails := List.replicate 10 0 }
      if x.state = 0 then t.putEst (cellIdx r n c) x1 else t.setCellState (cellIdx r n c) x1 0 0 (t.watchTime x)
    | none => t) s

/-- TRANSIT.ACCEPT_ROSTER (R80): the enumerated serials become the roster; changed nodes start anew. -/
def execTransitAcceptRoster (r : Req) (ring : Nat) (s : State) : Out :=
  done (runCmd s r 0x0305 anyLc
    (fun _ => [need (decide (ring < 8)) (blame E_PARAM_RANGE 0x0100)])
    (okEff fun t => (rosterChanges (t.ring ring)).foldl (fun u n => u.newNodeStates ring n) (t.acceptRoster ring)))

/-! ### Balancing (R159) -/

/-- The cells that take part: normal or watch, with a profile. -/
def State.balanceCells (s : State) : List (Nat × EstCell) :=
  s.populated.filterMap (fun i => match keyed s.est.cells i with
    | some x => if x.state < 2 ∧ (s.profileOf i).isSome then some (i, x) else none
    | none => none)

def nodeIdx (i : Nat) : Nat := i / 16

/-- Whether a cell is a candidate at excess `e`. -/
def State.candidate (s : State) (i : Nat) (x : EstCell) (e : Rat) : Bool :=
  let now := bit (at! s.est.bleed (nodeIdx i) (0, 0)).1 (i % 16)
  (decide ((s.est.balStart : Rat) / 1000 ≤ e) || (now && decide ((s.est.balStop : Rat) / 1000 < e))) &&
  (match s.cellTemp i with | some (t, _) => decide (t < 128 * (s.est.tBal : Int)) | none => false) && !bit x.status 3 &&
  (s.mode == 1 || s.mode == 2 || s.mode == 3)

/-- Highest excess first; equal ones by lower cell number. -/
def insertExcess (a : Rat × Nat) : List (Rat × Nat) → List (Rat × Nat)
  | [] => [a]
  | b :: t => if b.1 < a.1 ∨ (b.1 = a.1 ∧ a.2 < b.2) then a :: b :: t else b :: insertExcess a t

/-- The decision of one node. -/
def State.nodeDecision (s : State) (cs : List (Nat × EstCell)) (ref : Rat) (node : Nat) : Nat × Nat :=
  let es := cs.filterMap (fun (i, x) => if nodeIdx i = node ∧ s.candidate i x (x.soc - ref) then some (x.soc - ref, i % 16) else none)
  let top := (es.foldr insertExcess []).take 8
  (top.foldl (fun m a => m + 2 ^ a.2) 0, top.foldl (fun m a => if (s.est.balStart : Rat) / 500 ≤ a.1 then m + 2 ^ a.2 else m) 0)

def State.balance (s : State) : State :=
  let cs := s.balanceCells
  match leastRat (cs.map (fun c => c.2.soc)) with
  | none => { s with est := { s.est with bleed := List.replicate 128 (0, 0) } }
  | some ref => { s with est := { s.est with bleed := (List.range 128).map (s.nodeDecision cs ref) } }

/-- The estimators at a period boundary `b`, and the pack's figures they give; the balancing decision once a second. -/
def State.estPeriod (s : State) (b : Nat) : State :=
  let s1 := s.populated.foldl State.estPeriodCell s
  let s2 : State := { s1 with est := { s1.est with curSeen := (0, 0), pack := s1.packFigures } }
  if b % ticksPerS = 0 then s2.balance else s2

/-! ### Self-adaptation and the fit cycle (R135, R160) -/

/-- The action of one bin, with its event; `folds` and `gated` over the last 360 cycles. -/
def State.adaptBin (s : State) (n folds gated : Nat) : State :=
  let gate := s.fget (f_SPG_BIN_CFG_GATE n)
  let a := s.fget (f_SPG_BIN_CFG_AVGSH n)
  let (cg, ca) := at! s.spg.configured n (0xE666, 4)
  let note (t : State) (act v : Nat) : State := t.emit (t.packLocus 0) 7 2 (leBytes 1 n ++ leBytes 1 act ++ leBytes 2 v)
  if folds < 2 * gated ∧ a < 7 then note (s.fput (f_SPG_BIN_CFG_AVGSH n) (a + 1)) 1 (a + 1)
  else if folds < 2 * gated ∧ s.est.gateMin < gate then
    let g := max s.est.gateMin (gate - 3277)
    note (s.fput (f_SPG_BIN_CFG_GATE n) g) 2 g
  else if 0 < folds ∧ 20 * gated < folds ∧ gate < cg then
    let g := min cg (gate + 3277)
    note (s.fput (f_SPG_BIN_CFG_GATE n) g) 3 g
  else if 0 < folds ∧ 20 * gated < folds ∧ gate = cg ∧ ca < a then note (s.fput (f_SPG_BIN_CFG_AVGSH n) (a - 1)) 4 (a - 1)
  else if s.isSet (f_SPG_BIN_STAT_STARVED n) ∧ (s.mode = 2 ∨ s.mode = 3) ∧ !s.isSet f_SPG_CTRL_PILOT_EN ∧ !s.isSet f_SPG_CTRL_LOCK then note (s.fput f_SPG_CTRL_PILOT_EN 1) 5 1
  else s

/-- ADAPTATION_ACTION: every active bin is evaluated. -/
def State.adapt (s : State) : State :=
  if s.est.adapt then
    (List.range 128).foldl (fun t n =>
      if binActive n t.spgRate then
        let (f, g) := t.spg.history.foldl (fun (a, b) c => let (x, y) := at! c n (0, 0); (a + x, b + y)) (0, 0)
        t.adaptBin n f g
      else t) s
  else s

/-- FIT_CYCLE of one cycle whose boundary W has passed; `unpublished` are the cells whose fit does not end in time and which keep the previous one. -/
def State.fitCycle (s : State) (d : FitDue) (unpublished : List Nat) : State :=
  let b := d.j * (10 * ticksPerS)
  let s0 := s.classBoundary b
  let s1 := s0.populated.foldl (fun t i => if unpublished.contains i then t else (t.fitCell i d).estFit i b) s0
  let s2 := (s1.putGrowth).evalStarved
  let s3 : State := { s2 with spg := { s2.spg with lastJ := d.j, history := (s2.spg.cycle :: s2.spg.history).take 360, cycle := List.replicate 128 (0, 0) } }
  ((s3.setRegN r_SPG_FIT_CYCLE (d.j % 2 ^ 32)).adapt).raisePilot

/-- FIT_CYCLE (R135): the cycles that W has passed and that have not run, oldest first, each on the records as they stood at its boundary. -/
def execFitCycle (at_ : Nat) (unpublished : List Nat) (s : State) : Out :=
  let t := s.at at_
  done (t.spg.due.foldl (fun u d => u.fitCycle d unpublished) { t with spg := { t.spg with due := [] } })

/-! ### Commands (R161) -/

def execEstimLoadProfile (r : Req) (t : Nat) (profile : List Byte) (s : State) : Out :=
  done (runCmd s r 0x0648 anyLc
    (fun u => [need (u.mode == 2 || u.mode == 3) E_MODE, need (decide (t < 4)) (blame E_PARAM_RANGE 0x0100), need (profileOk profile) (blame E_PARAM_RANGE 0x0008)])
    (okEff fun u => { u with est := { u.est with profiles := setAt u.est.profiles t (some profile) } }))

/-- An estimate record as read (R149); zeros for a position that holds none (R28). -/
def estRecord (s : State) (i k : Nat) : List Byte :=
  match keyed s.est.cells i with
  | some x => estBytes (s.profileOf i).isSome x k
  | none => zeros 16

def execEstimRead (r : Req) (locus first last : Nat) (s : State) : Out :=
  done (runCmd s r 0x0649 anyLc (fun _ => [need (cellLocusOk locus) (blame E_PARAM_RANGE 0x0001), need (decide (first ≤ last ∧ last ≤ 6)) (blame E_PARAM_RANGE 0x0101)])
    (readEff fun t => (binRange first last).flatMap (fun k => leBytes 8 (withChan locus (0x40 + k)) ++
      (match t.ownCell locus with | some i => estRecord t i k | none => zeros 16))))

/-- A cell-state record as read (R152). -/
def stateRecord (s : State) (i : Nat) : List Byte :=
  match keyed s.est.cells i with
  | some x => leBytes 8 s.now ++ leBytes 1 x.state ++ zeros 1 ++ leBytes 2 x.cause ++ leBytes 4 (s.watchTime x)
  | none => zeros 16

def execCellReadState (r : Req) (locus : Option Nat) (s : State) : Out :=
  done (runCmd s r 0x064A anyLc
    (fun _ => [need (match locus with | some l => cellLocusOk l | none => true) (blame E_PARAM_RANGE 0x0001)])
    (readEff fun t => match locus with
      | some l => leBytes 8 (withChan l 0x03) ++ (match t.ownCell l with | some i => stateRecord t i | none => zeros 16)
      | none => t.populated.flatMap (fun i => leBytes 8 (t.cellLocus i 0x03) ++ stateRecord t i)))

/-- CELL.SET_STATE (R152): normal to watch, watch to quarantine, and the release of a quarantined cell to watch. -/
def execCellSetState (r : Req) (locus target : Nat) (s : State) : Out :=
  let cellOf (t : State) : Option EstCell := (t.ownCell locus).bind (keyed t.est.cells)
  done (runCmd s r 0x064B anyLc
    (fun t => [need (cellLocusOk locus) (blame E_PARAM_RANGE 0x0001), need (decide (target < 3)) (blame E_PARAM_RANGE 0x0100)] ++
      (match cellOf t with
       | some x =>
         if x.state = 2 ∧ target = 1 then
           [need (t.mode == 2 || t.mode == 3) E_MODE, need (decide (x.cleanFrom + 3600 * ticksPerS ≤ t.pnow)) E_PARAM_CONFLICT]
         else [need ((x.state == 0 && target == 1) || (x.state == 1 && target == 2)) (blame E_PARAM_CONFLICT 0x0100)]
       | none => []))
    (okEff fun t => match t.ownCell locus, cellOf t with
      | some i, some x => if target = 1 then t.toWatch i x x.cause else t.setCellState i x 2 x.cause (t.watchTime x)
      | _, _ => t))

/-- BALANCE.SET_POLICY: BAL_START and BAL_STOP in 0.1 %, T_BAL_MAX in °C. -/
def execBalanceSetPolicy (r : Req) (start stop tMax : Nat) (s : State) : Out :=
  done (runCmd s r 0x064C anyLc
    (fun _ => [need (decide (2 ≤ start ∧ start ≤ 100)) (blame E_PARAM_RANGE 0x0100), need (decide (1 ≤ stop ∧ stop < start)) (blame E_PARAM_RANGE 0x0101),
               need (decide (20 ≤ tMax ∧ tMax ≤ 70)) (blame E_PARAM_RANGE 0x0102)])
    (okEff fun t => { t with est := { t.est with balStart := start, balStop := stop, tBal := tMax } }))

def execBalanceRead (r : Req) (s : State) : Out :=
  done (runCmd s r 0x064D anyLc (fun _ => []) (readEff fun t => t.est.bleed.flatMap (fun (m, f) => leBytes 2 m ++ leBytes 2 f)))

def execEstimSetAdapt (r : Req) (enable : Bool) (gateMin : Nat) (s : State) : Out :=
  done (runCmd s r 0x064E anyLc (fun _ => [need (decide (52429 ≤ gateMin ∧ gateMin ≤ 65535)) (blame E_PARAM_RANGE 0x0101)])
    (okEff fun t => { t with est := { t.est with adapt := enable, gateMin := gateMin } }))

def execEstimSetWatch (r : Req) (qfactor watchExit : Nat) (s : State) : Out :=
  done (runCmd s r 0x064F anyLc
    (fun _ => [need (decide (25 ≤ qfactor ∧ qfactor ≤ 75)) (blame E_PARAM_RANGE 0x0100), need (decide (600 ≤ watchExit ∧ watchExit ≤ 7200)) (blame E_PARAM_RANGE 0x0101)])
    (okEff fun t => { t with est := { t.est with qfactor := qfactor, watchExit := watchExit } }))

end Sys2Proof.Machine
end

