-- ==== Sys2Proof/Machine/Shutter.lean ====
section
/-!
DEFINITION. Machine/Shutter.lean: contactors and precharge, derate, hazard inputs, feedback, balancing enables, and the shaping of the published limits
(chapter 8).
-/
namespace Sys2Proof.Machine

/-! ### Records and outputs (R185, R191, R203) -/

/-- Commanded state of output `o`: 0 MPOS, 1 MNEG, 2 PRE. -/
def State.outClosed (s : State) (o : Nat) : Bool := s.bitOf f_SHT_STATUS_OUT o
def State.hazardOn (s : State) (h : Nat) : Bool := s.bitOf f_SHT_HZ_STAT_ASSERTED h
def State.anyHazard (s : State) : Bool := s.fget f_SHT_HZ_STAT_ASSERTED != 0
def State.hazardAction (s : State) (h : Nat) : Nat := s.fget (f_SHT_HZ_CFG_ACTION h)
/-- A hazard input of the mask has one of these actions. -/
def State.maskActs (s : State) (m : Nat) (p : Nat → Bool) : Bool := (List.range 4).any (fun h => bit m h && p (s.hazardAction h))

/-- Current in service, 0x8000_0000 if none. -/
def State.currentWord (s : State) : Nat := entryField s.mer.current

/-- The output state record, channel 0x27. -/
def State.outRecord (s : State) (cause detail value : Nat) : State :=
  s.emitRecord (s.packLocus 0x27) 8
    (leBytes 1 (s.fget f_SHT_STATUS_OUT + 8 * s.fget f_SHT_STATUS_DERATE) ++ leBytes 1 (s.fget f_SHT_HZ_STAT_ASSERTED + 16 * s.fget f_SHT_HZ_STAT_STUCK) ++
     leBytes 1 cause ++ leBytes 1 detail ++ leBytes 4 value)

/-- An output changes; its 500 ms interval restarts. The feedback is taken to follow, unless CFAULT_SET says otherwise (log entry 30). -/
def State.setOut (s : State) (o : Nat) (closed : Bool) (cause : Nat) : State :=
  let s1 := s.putBit f_SHT_STATUS_OUT o closed
  let s2 := if s1.bitOf f_SHT_IN_STAT_CHATTER o then s1 else s1.putBit f_SHT_IN_STAT_FB o closed
  let s3 : State := { s2 with
    sht := { s2.sht with changed := setAt s2.sht.changed o s2.now, preAt := if o = 2 ∧ closed then s2.now else s2.sht.preAt,
                         mposAt := if o = 0 ∧ closed then s2.now else s2.sht.mposAt } }
  s3.outRecord cause o s3.currentWord

/-- The Shutter drives its outputs: the part is powered and has not ended its Dormant entry phase (R185). -/
def State.drives8 (s : State) : Bool := s.pwr.up && s.pwr.phase != 5

/-- The derate bits change: SHT_DERATE is their OR, and its rising edge starts the 300 ms. Throughout Dormant it stays low (R185). -/
def State.setDerate (s : State) (i : Nat) (b : Bool) : State :=
  let s1 := s.putBit f_SHT_STATUS_DRQ i b
  let high := s1.fget f_SHT_STATUS_DRQ != 0 && s1.drives8
  let s2 : State := if high && !s.isSet f_SHT_STATUS_DERATE then { s1 with sht := { s1.sht with derateAt := s1.now } } else s1
  s2.fput f_SHT_STATUS_DERATE (flag high)

/-- The record of SHT_DERATE, when it has changed since `s0` (R203). -/
def State.derateRecord (s s0 : State) (cause : Nat) : State :=
  if s.fget f_SHT_STATUS_DERATE = s0.fget f_SHT_STATUS_DERATE then s else s.outRecord cause 3 s.currentWord

/-- A world's derate bit, with the record when SHT_DERATE changes. -/
def State.worldDerate (s : State) (operator b : Bool) : State :=
  ((s.fput (if operator then f_SHT_DERATE_OP_REQ else f_SHT_DERATE_CU_REQ) (flag b)).setDerate (flag operator) b).derateRecord s (flag operator)

/-- A refused request or write. -/
def State.shtRefused (s : State) : State := (s.bump f_SHT_REFUSED_COUNT).raise f_SHT_IRQ_REFUSED

/-! ### Contactor requests (R186–R190) -/

/-- SHT_DERATE has been high for at least 300 ms. -/
def State.derated (s : State) : Bool := s.isSet f_SHT_STATUS_DERATE && decide (s.sht.derateAt + 300 * ticksPerMs ≤ s.now)

/-- R188: the voltage check, on the latest pack entry. -/
def State.linkOk (s : State) : Bool :=
  match s.alm.packK with
  | none => false
  | some k =>
    let a := packAddr k
    let v := s.loadN (a + 16) 4
    let l := s.loadN (a + 20) 4
    let pf := s.byte (a + 24)
    !pf.getLsbD 3 && !pf.getLsbD 7 && l != 0x80000000 && decide (20 * (signed 32 l - signed 32 v).natAbs < (signed 32 v).toNat)

/-- The 500 ms rule. -/
def State.dwelling (s : State) (o : Nat) : Bool :=
  let c := at! s.sht.changed o never
  c != never && decide (s.now < c + 500 * ticksPerMs)

/-- R36, R42 and R52 on a contactor request. -/
def contactorGate (s : State) (close : Bool) : Option Nat :=
  if close ∧ (s.lc = 0 ∨ 4 ≤ s.lc) then some E_LIFECYCLE
  else if s.mode = 0 ∨ (close ∧ s.lc = 1 ∧ s.mode ≠ 2) ∨ (close ∧ s.drives8 = false) then some E_MODE
  else none

/-- The bounds of R186 that remain after the hazard bound and the 500 ms rule. -/
def contactorBound (s : State) (o : Nat) (close : Bool) : Bool :=
  if close then
    match o with
    | 0 => s.outClosed 1 && s.outClosed 2 && decide (s.sht.preAt + s.fget f_SHT_PRE_CFG_PRE_MIN * ticksPerMs ≤ s.now) && s.linkOk
    | 2 => !s.outClosed 0
    | _ => true
  else o == 2 || !s.over50 || s.derated || s.anyHazard

/-- A hazard input with ACTION 2 asserts in this same tick: its command waits in the queue with this stamp, and is taken first (R202). -/
def hazardSameTick (s : State) : Bool :=
  s.pending.any (fun c => match c with | .hazardAssert a h => a == s.now && decide (h < 4) && s.hazardAction h == 2 | _ => false)

/-- R187, in order. -/
def contactorStatus (s : State) (o : Nat) (close : Bool) : Nat :=
  match contactorGate s close with
  | some e => e
  | none =>
    if s.outClosed o = close then OK
    else if close && (s.maskActs (s.fget f_SHT_HZ_STAT_ASSERTED) (· == 2) || hazardSameTick s) then E_BOUND
    else if s.dwelling o then E_RATE
    else if contactorBound s o close then OK else E_BOUND

/-- A contactor request of a world: 1 custody, 2 operator. -/
def State.contactor (s : State) (world o : Nat) (close : Bool) : State × Nat :=
  let st := contactorStatus s o close
  if st ≠ OK then (s.shtRefused, st)
  else if s.outClosed o = close then (s, OK)
  else (s.setOut o close (if world = 2 then 1 else 0), OK)

/-- SHUTTER.SET_CONTACTOR: life cycle and mode come first and are the gate's, as for a register request (R187). -/
def execShutterSetContactor (r : Req) (output : Nat) (close : Bool) (s : State) : Out :=
  done (runCmd s r 0x0601 anyLc (fun t => [need (decide (output < 3) || (contactorGate t close).isSome) (blame E_PARAM_RANGE 0x0100)])
    (fun t => let (t1, st) := t.contactor (worldOf r) output close; (t1, some (st, []))))

/-- CONTACTOR_REGISTER_REQUEST: a write of SHT_CTC_CMD; output 3 is ignored. -/
def execContactorRegisterRequest (w : Wr) (s : State) : Out :=
  done (guarded s w r_SHT_CTC_CMD fun t =>
    let o := w.value % 4
    let close := bit w.value 8
    let world := if operatorCls w.cls then 2 else 1
    if o = 3 then t
    else
      let (t1, st) := t.contactor world o close
      t1.fputs [(f_SHT_CTC_RESULT_VALID, 1), (f_SHT_CTC_RESULT_WORLD, world), (f_SHT_CTC_RESULT_STATE, flag close), (f_SHT_CTC_RESULT_STATUS, st)])

/-- PRECHARGE_AUTO_OPEN (R189): 20 ms after a close of SHT_MPOS. -/
def execPrechargeAutoOpen (at_ : Nat) (s : State) : Out :=
  let t := s.at at_
  done (if t.outClosed 2 ∧ t.sht.preAt ≤ t.sht.mposAt ∧ t.sht.mposAt + 20 * ticksPerMs ≤ t.now ∧ at! t.sht.changed 0 never ≠ never then t.setOut 2 false 3 else t)

/-- PRECHARGE_TIMEOUT (R189): PRE_MAX without SHT_MPOS closing. -/
def execPrechargeTimeout (at_ : Nat) (s : State) : Out :=
  let t := s.at at_
  done (if t.outClosed 2 && !t.outClosed 0 && decide (t.sht.preAt + t.fget f_SHT_PRE_CFG_PRE_MAX * 10 * ticksPerMs ≤ t.now)
    then (t.raise f_SHT_IRQ_PRETIMEOUT).setOut 2 false 4 else t)

/-! ### Derate (R191) -/

def execShutterDerate (r : Req) (assert : Bool) (s : State) : Out :=
  done (runCmd s r 0x0602 anyLc (fun _ => []) (okEff fun t => t.worldDerate (worldOf r == 2) assert))

def execDerateBitWrite (w : Wr) (operator : Bool) (s : State) : Out :=
  done (guarded s w (if operator then r_SHT_DERATE_OP else r_SHT_DERATE_CU) fun t => t.worldDerate operator (bit w.value 0))

/-! ### Limp floor, precharge and hazard settings (R189, R195, R204, R205) -/

def holdOn (s : State) : Bool := s.sht.hold.isSome || s.sht.posthold.isSome

/-- A limp floor in range takes effect, or waits for the hold to end. -/
def State.setLimp (s : State) (pct : Nat) : State :=
  if holdOn s then s.fputs [(f_SHT_LIMP_DEFER, 1), (f_SHT_LIMP_PENDING, pct)] else s.fput f_SHT_LIMP_LIMP_PCT pct

def limpOk (pct : Nat) : Bool := decide (5 ≤ pct ∧ pct ≤ 30)

def execShutterSetLimpFloor (r : Req) (pct : Nat) (s : State) : Out :=
  done (runCmd s r 0x0603 anyLc (fun _ => [need (limpOk pct) (blame E_PARAM_RANGE 0x0100)]) (okEff fun t => t.setLimp pct))

def execLimpRegisterWrite (w : Wr) (s : State) : Out :=
  done (guarded s w r_SHT_LIMP fun t => if limpOk (w.value % 32) then t.setLimp (w.value % 32) else t)

def preMinOk (preMin : Nat) : Bool := decide (20 ≤ preMin ∧ preMin ≤ 2000)
def preMaxOk (preMax : Nat) : Bool := decide (10 ≤ preMax ∧ preMax ≤ 1000)
def preOk (preMin preMax : Nat) : Bool := preMinOk preMin && preMaxOk preMax

/-- SHUTTER.SET_PRECHARGE: PRE_MIN in ms, PRE_MAX in 10 ms. -/
def execShutterSetPrecharge (r : Req) (preMin preMax : Nat) (s : State) : Out :=
  done (runCmd s r 0x0604 anyLc (fun t => [need (preMinOk preMin) (blame E_PARAM_RANGE 0x0100), need (preMaxOk preMax) (blame E_PARAM_RANGE 0x0101), need (!t.isSet f_SHT_CTRL_LOCK) E_PARAM_CONFLICT])
    (okEff fun t => t.fputs [(f_SHT_PRE_CFG_PRE_MIN, preMin), (f_SHT_PRE_CFG_PRE_MAX, preMax)]))

def hazardOk (action openDly filt plaus : Nat) : Bool := decide (action < 3 ∧ openDly ≤ 1000 ∧ 1 ≤ filt ∧ filt ≤ 100 ∧ 1 ≤ plaus ∧ plaus ≤ 255)

/-- The hardware derate bit as the asserted inputs and their actions have it. -/
def State.hwDerate (s : State) : State := s.setDerate 2 (s.maskActs (s.fget f_SHT_HZ_STAT_ASSERTED) (fun a => a == 1 || a == 2))

/-- A hazard input's settings; a change of ACTION of an asserted input may change SHT_DERATE (log entry 97). -/
def State.setHazard (s : State) (h action openDly filt plaus : Nat) : State :=
  ((s.fputs [(f_SHT_HZ_CFG_ACTION h, action), (f_SHT_HZ_CFG_OPEN_DLY h, openDly), (f_SHT_HZ_CFG_FILT h, filt), (f_SHT_HZ_CFG_PLAUS h, plaus)]).hwDerate).derateRecord s 0

def execShutterSetHazard (r : Req) (h action openDly filt plaus : Nat) (s : State) : Out :=
  done (runCmd s r 0x0605 anyLc
    (fun t => [need (t.mode == 2) E_MODE, need (decide (1 ≤ h ∧ h < 4)) (blame E_PARAM_RANGE 0x0100), need (decide (action < 3)) (blame E_PARAM_RANGE 0x0101),
               need (decide (openDly ≤ 1000)) (blame E_PARAM_RANGE 0x0102), need (decide (1 ≤ filt ∧ filt ≤ 100)) (blame E_PARAM_RANGE 0x0103), need (decide (1 ≤ plaus ∧ plaus ≤ 255)) (blame E_PARAM_RANGE 0x0104),
               need (!t.isSet f_SHT_CTRL_LOCK) E_PARAM_CONFLICT])
    (okEff fun t => t.setHazard h action openDly filt plaus))

/-! ### Hazard inputs (R194, R196–R198) -/

/-- Stamp and interrupt of a hazard change. -/
def State.hazardStamp (s : State) : State :=
  (s.put64 r_SHT_HZ_STAMP_LO r_SHT_HZ_STAMP_HI s.now).raise f_SHT_IRQ_HAZARD

/-- HAZARD_ASSERT: the pin has been low for 2 µs. A hold ends at once. -/
def State.hazardAssert (s : State) (h : Nat) : State :=
  let s0 := State.putBit { s with sht := { s.sht with lowAt := setAt s.sht.lowAt h s.now } } f_SHT_HZ_STAT_PINLOW h true
  if s0.hazardOn h then s0
  else
    let s1 := (((s0.putBit f_SHT_HZ_STAT_ASSERTED h true).putBit f_SHT_HZ_STAT_SEEN h true).bump f_SHT_HZ_COUNT_COUNT).hazardStamp
    let s2 : State := { s1 with
      sht := { s1.sht with assertAt := setAt s1.sht.assertAt h s1.now, opened := setAt s1.sht.opened h false, hold := none, posthold := none } }
    ((s2.fputs [(f_SHT_STATUS_HAZARD, 1), (f_SHT_STATUS_HOLD, 0), (f_SHT_HOLD_ACTIVE, 0), (f_SHT_HOLD_POSTHZ, 0), (f_SHT_HOLD_REMAIN, 0)]).hwDerate).outRecord
      5 h s2.currentWord

def execHazardAssert (at_ h : Nat) (s : State) : Out :=
  let t := s.at at_
  done (if h < 4 ∧ t.pwr.up then t.hazardAssert h else t)

/-- HAZARD_CLEAR: the pin rose at `rose` and has been high since; the input clears once that is FILT (R196). -/
def State.hazardClear (s : State) (h rose : Nat) : State :=
  let s0 := s.putBit f_SHT_HZ_STAT_PINLOW h false
  if !s0.hazardOn h || !decide (at! s.sht.lowAt h 0 ≤ rose ∧ rose + s.fget (f_SHT_HZ_CFG_FILT h) * ticksPerMs ≤ s.now) then s0
  else
    let was := s0.bitOf f_SHT_HZ_STAT_STUCK h
    let s1 := (((s0.putBit f_SHT_HZ_STAT_ASSERTED h false).putBit f_SHT_HZ_STAT_STUCK h false).hazardStamp).hwDerate
    let s2 := (s1.fput f_SHT_STATUS_HAZARD (flag s1.anyHazard)).outRecord 6 h s1.currentWord
    if was then s2.outRecord 7 h s2.currentWord else s2

def execHazardClear (at_ : Nat) (pin : HighPin) (s : State) : Out :=
  let t := s.at at_
  done (if pin.input < 4 ∧ t.pwr.up then t.hazardClear pin.input pin.rose else t)

/-- HAZARD_OPEN: OPEN_DLY after assertion under ACTION 2, every closed output opens. -/
def State.hazardOpen (s : State) (h : Nat) : State :=
  if s.pwr.up && s.hazardOn h && s.hazardAction h == 2 && !at! s.sht.opened h true &&
      decide (at! s.sht.assertAt h 0 + s.fget (f_SHT_HZ_CFG_OPEN_DLY h) * ticksPerMs ≤ s.now) then
    let s1 := (List.range 3).foldl (fun t o => if t.outClosed o then t.setOut o false 2 else t) s
    { s1 with sht := { s1.sht with opened := setAt s1.sht.opened h true } }
  else s

def execHazardOpen (at_ h : Nat) (s : State) : Out := done ((s.at at_).hazardOpen h)

/-- HAZARD_STUCK: asserted with |I| above 50 A without interruption for PLAUS. -/
def execHazardStuck (at_ h : Nat) (s : State) : Out :=
  let t := s.at at_
  let since := max (at! t.sht.assertAt h 0) t.sht.overAt
  done (if h < 4 ∧ t.hazardOn h ∧ !t.bitOf f_SHT_HZ_STAT_STUCK h ∧ since + t.fget (f_SHT_HZ_CFG_PLAUS h) * 100 * ticksPerMs ≤ t.now then
    ((t.putBit f_SHT_HZ_STAT_STUCK h true).raise f_SHT_IRQ_STUCK).outRecord 7 h t.currentWord else t)

/-! ### Feedback (R192, R199) -/

/-- CFAULT_SET: the feedback has differed from the commanded state for 50 ms. -/
def execCfaultSet (at_ output : Nat) (s : State) : Out :=
  let t := s.at at_
  done (if t.pwr.up ∧ output < 3 ∧ t.isSet f_SHT_CTRL_FBCHK ∧ !t.bitOf f_SHT_IN_STAT_CHATTER output ∧ !t.bitOf f_SHT_STATUS_CFAULT output then
    (((t.putBit f_SHT_STATUS_CFAULT output true).putBit f_SHT_IN_STAT_FB output (!t.outClosed output)).raise f_SHT_IRQ_CFAULT).outRecord 8 output t.currentWord
    else t)

/-- CFAULT_CLEAR: the two have agreed again for 50 ms. -/
def execCfaultClear (at_ output : Nat) (s : State) : Out :=
  let t := s.at at_
  done (if t.pwr.up ∧ output < 3 ∧ !t.bitOf f_SHT_IN_STAT_CHATTER output ∧ t.bitOf f_SHT_STATUS_CFAULT output then
    (((t.putBit f_SHT_STATUS_CFAULT output false).putBit f_SHT_IN_STAT_FB output (t.outClosed output)).raise f_SHT_IRQ_CFAULT).outRecord 8 output t.currentWord
    else t)

/-- CHATTER_DECLARE: held at its last value and ignored; the episode's one record follows when it is quiet. -/
def execChatterDeclare (at_ output : Nat) (s : State) : Out :=
  let t := s.at at_
  done (if t.pwr.up ∧ output < 3 then (t.putBit f_SHT_IN_STAT_CHATTER output true).raise f_SHT_IRQ_CHATTER else t)

/-- CHATTER_END: quiet for 100 ms, at the level `closed`; `edges` of the episode. -/
def execChatterEnd (at_ output edges : Nat) (closed : Bool) (s : State) : Out :=
  let t := s.at at_
  done (if t.pwr.up ∧ output < 3 ∧ t.bitOf f_SHT_IN_STAT_CHATTER output then
    ((t.putBit f_SHT_IN_STAT_CHATTER output false).putBit f_SHT_IN_STAT_FB output closed).outRecord 9 output (edges % 2 ^ 32) else t)

/-! ### Balancing enables (R186, R200) -/

def popcount (m : Nat) : Nat := ((List.range 16).filter (fun i => bit m i)).length

def bleedOk (mask duty : Nat) : Bool := decide (mask < 65536 ∧ duty ≤ 0x80) && decide (popcount mask ≤ 8)

/-- An accepted setting waits for the next train of its ring. -/
def State.setBleed (s : State) (r n mask duty : Nat) : State :=
  let s1 := s.fputs [(f_SHT_BLEED_MASK r n, mask), (f_SHT_BLEED_DUTY r n, duty)]
  { s1 with sht := { s1.sht with bleedWait := s1.sht.bleedWait.filter (· != (r, n)) ++ [(r, n)] } }

def execShutterSetBleed (r : Req) (locus mask duty : Nat) (s : State) : Out :=
  done (runCmd s r 0x0606 anyLc (fun _ => [need (cellLocusOk locus) (blame E_PARAM_RANGE 0x0001), need (decide (mask < 65536)) (blame E_PARAM_RANGE 0x0100), need (decide (duty < 256)) (blame E_PARAM_RANGE 0x0101)])
    (fun t => if !bleedOk mask duty then (t.shtRefused, some (E_BOUND, []))
      else match t.ownCell locus with
        | some _ => (t.setBleed (locusRing locus) (locusNode locus) mask duty, some (OK, []))
        | none => (t, some (OK, []))))

def execBleedRegisterWrite (w : Wr) (ring node : Nat) (s : State) : Out :=
  done (guarded s w (r_SHT_BLEED ring node) fun t =>
    if 8 ≤ ring ∨ 16 ≤ node ∨ t.mode = 4 then t
    else if bleedOk (w.value % 65536) (w.value / 65536 % 256) then t.setBleed ring node (w.value % 65536) (w.value / 65536 % 256)
    else t.shtRefused)

/-! ### Shaping (R193–R195) -/

/-- The limp floor in 0.1 A. -/
def limpValue (s : State) : Nat := s.fget f_SHT_LIMP_LIMP_PCT * s.fget f_MER_RATING_I_RATED / 10

/-- A hold that ends at or before `p` is off. -/
def expire (h : Option Nat) (p : Nat) : Option Nat := match h with | some e => if e ≤ p then none else h | none => none

/-- A limp floor that waited takes effect. -/
def State.takeLimp (s : State) : State :=
  if s.isSet f_SHT_LIMP_DEFER ∧ !holdOn s then s.fputs [(f_SHT_LIMP_LIMP_PCT, s.fget f_SHT_LIMP_PENDING), (f_SHT_LIMP_PENDING, 0), (f_SHT_LIMP_DEFER, 0)] else s

/-- The discharge limit of a shaped period. -/
def shapedPd (s : State) (rd limp prev : Nat) : Nat :=
  let top := (s.sht.shaped.filter (fun x => x.1)).foldl (fun m x => max m x.2.1) 0
  let lo := (4 * top + 4) / 5
  let lo1 := if s.sht.posthold.isNone then max lo limp else lo
  let pd := max rd lo1
  if holdOn s then min pd prev else pd

/-- Shaping at the boundary `p` (a stamp): REQ in, the published limits and the frame's FLAGS out; `lim` the arbiter's flags. -/
def State.shape (s : State) (p reqC reqD : Nat) : State :=
  let mask := s.fget f_SHT_HZ_STAT_ASSERTED ||| s.fget f_SHT_HZ_STAT_SEEN
  let zero := s.maskActs mask (fun a => a == 1 || a == 2)
  let rc := if zero then 0 else reqC
  let rd := if zero then 0 else reqD
  let isShaped := s.outClosed 0 && s.outClosed 1 && mask == 0
  let prev := s.sht.shaped.head?
  let prevPd := match prev with | some (_, d, _) => d | none => s.fget f_LIM_PUB_DIS
  let hold0 := if isShaped then expire s.sht.hold p else none
  let post0 := if !isShaped then none
    else match prev with | some (false, _, true) => some (p + 10 * ticksPerS) | _ => expire s.sht.posthold p
  let s1 := State.takeLimp { s with sht := { s.sht with hold := hold0, posthold := post0 } }
  let limp := limpValue s1
  let pd := if isShaped then shapedPd s1 rd limp prevPd else rd
  let hold1 := if isShaped && post0.isNone && decide (pd < prevPd) then some (p + 10 * ticksPerS) else hold0
  let s2 : State := { s1 with sht := { s1.sht with hold := hold1, shaped := ((isShaped, pd, mask != 0) :: s1.sht.shaped).take 10 } }
  let remain := (max (hold1.getD p) (post0.getD p) - p + ticksPerPeriod - 1) / ticksPerPeriod
  s2.fputs [(f_SHT_HZ_STAT_SEEN, 0), (f_SHT_STATUS_NORATE, flag (s.fget f_MER_RATING_I_RATED == 0)), (f_SHT_STATUS_BOUNDED, flag (pd != rd || rc != reqC)),
    (f_SHT_STATUS_LIMP, flag (pd == limp && decide (rd < pd))), (f_SHT_STATUS_HOLD, flag (hold1.isSome || post0.isSome)), (f_SHT_HOLD_ACTIVE, flag hold1.isSome),
    (f_SHT_HOLD_POSTHZ, flag post0.isSome), (f_SHT_HOLD_REMAIN, remain), (f_LIM_PUB_CHG, rc), (f_LIM_PUB_DIS, pd)]

/-- FLAGS bits 3–7 of the frame, from the state after shaping; `hz` a hazard input counted as asserted at the boundary. -/
def shapeFlags (s : State) (hz : Bool) : Nat :=
  8 * s.fget f_SHT_STATUS_BOUNDED + 16 * flag hz + 32 * s.fget f_SHT_STATUS_HOLD + 64 * s.fget f_SHT_STATUS_DERATE + 128 * s.fget f_SHT_STATUS_LIMP

/-! ### Reading -/

/-- Milliseconds remaining of an output's 500 ms interval, rounded up. -/
def dwellMs (s : State) (o : Nat) : Nat :=
  let c := at! s.sht.changed o never
  if c = never then 0 else (c + 500 * ticksPerMs - s.now + ticksPerMs - 1) / ticksPerMs

/-- SHT_DWELL as it reads. -/
def dwellWord (s : State) : Nat := dwellMs s 0 + 1024 * dwellMs s 1 + 1048576 * dwellMs s 2

def execShutterRead (r : Req) (s : State) : Out :=
  done (runCmd s r 0x0607 anyLc (fun _ => [])
    (readEff fun t => w4 t r_SHT_STATUS ++ w4 t r_SHT_HZ_STAT ++ w4 t r_SHT_HOLD ++ leBytes 4 (dwellWord t) ++ w4 t r_LIM_PUB))

end Sys2Proof.Machine
end

