-- ==== Sys2Proof/Machine/Limits.lean ====
section
/-!
DEFINITION. Machine/Limits.lean: the limit arbiter (R155–R158, R161, R162): bases, caps, REQ and the publication frame.
-/
namespace Sys2Proof.Machine

/-! ### Bases and caps -/

/-- LIMIT_BASE_WRITE: a base written since the last boundary. -/
def execLimitBaseWrite (w : Wr) (discharge : Bool) (s : State) : Out :=
  let a := if discharge then r_LIM_BASE_DIS else r_LIM_BASE_CHG
  done (guarded s w a fun t =>
    let t1 := t.writeWord a w.value
    { t1 with lim := { t1.lim with wroteChg := t1.lim.wroteChg || !discharge, wroteDis := t1.lim.wroteDis || discharge } })

/-- The caps by index: 0 custody charge, 1 custody discharge, 2 operator charge, 3 operator discharge. -/
def capIdx (operator discharge : Bool) : Nat := 2 * flag operator + flag discharge
def capReg (i : Nat) : Nat := r_LIM_CUCAP_CHG + 4 * i
def capFlag (i : Nat) : Fld := match i with | 0 => f_LIM_STATUS_CU_CHG | 1 => f_LIM_STATUS_CU_DIS | 2 => f_LIM_STATUS_OP_CHG | _ => f_LIM_STATUS_OP_DIS
def State.cap (s : State) (i : Nat) : Option (Nat × Nat) := at! s.lim.caps i none

/-- A cap set or cleared, with its status bit and register value. -/
def State.putCap (s : State) (i : Nat) (c : Option (Nat × Nat)) : State :=
  let s1 : State := { s with lim := { s.lim with caps := setAt s.lim.caps i c } }
  (s1.setRegN (capReg i) ((c.map (·.1)).getD 0)).fput (capFlag i) (flag c.isSome)

def lifeOk (life : Nat) : Bool := decide (1 ≤ life ∧ life ≤ 6000)

/-- An operator cap above the active one is refused (R156). -/
def capRefused (s : State) (operator discharge : Bool) (value : Nat) : Bool :=
  operator && (match s.cap (capIdx operator discharge) with | some (v, _) => decide (v < value) | none => false)

/-- A refused operator cap. -/
def State.opRefused (s : State) : State := (s.bump f_LIM_OP_REFUSED_COUNT).raise f_LIM_IRQ_OP_REFUSED

/-- `life` in 0.1 s. -/
def State.tighten (s : State) (operator discharge : Bool) (value life : Nat) : State :=
  s.putCap (capIdx operator discharge) (some (value, s.now + life * 100 * ticksPerMs))

/-- LIMIT_CAP_WRITE: VALUE and LIFE written by the world that owns the register. -/
def execLimitCapWrite (w : Wr) (operator discharge : Bool) (s : State) : Out :=
  done (guarded s w (capReg (capIdx operator discharge)) fun t =>
    let v := w.value % 65536
    let l := w.value / 65536 % 65536
    if !lifeOk l then t
    else if capRefused t operator discharge v then t.opRefused
    else t.tighten operator discharge v l)

def execLimitTighten (r : Req) (discharge : Bool) (value life : Nat) (s : State) : Out :=
  let op := worldOf r == 2
  done (runCmd s r 0x0640 anyLc (fun _ => [need (decide (value < 65536)) (blame E_PARAM_RANGE 0x0101), need (lifeOk life) (blame E_PARAM_RANGE 0x0102)])
    (fun t => if capRefused t op discharge value then (t.opRefused, some (E_WORLD, []))
      else (t.tighten op discharge value life, some (OK, []))))

/-- LIMIT.RELAX: a new custody cap that keeps its lifetime, or clear; both forms clear the operator cap of the direction. -/
def execLimitRelax (r : Req) (discharge : Bool) (value : Option Nat) (s : State) : Out :=
  let i := capIdx false discharge
  done (runCmd s r 0x0641 anyLc
    (fun t => [need (t.mode != 4) E_MODE, need (match value with | some v => decide (v < 65536) | none => true) (blame E_PARAM_RANGE 0x0101),
               need (value.isNone || (t.cap i).isSome) (blame E_PARAM_CONFLICT 0x0101)])
    (okEff fun t =>
      let t1 := match value, t.cap i with
        | some v, some (_, e) => t.putCap i (some (v, e))
        | _, _ => t.putCap i none
      t1.putCap (capIdx true discharge) none))

/-- Remaining lifetime in 0.1 s, rounded up; 0 when inactive. -/
def capLife (s : State) (i : Nat) : Nat :=
  match s.cap i with | some (_, e) => (e - s.now + 100 * ticksPerMs - 1) / (100 * ticksPerMs) | none => 0

/-- A cap register as it reads. -/
def capWord (s : State) (i : Nat) : Nat := capLife s i % 65536 * 65536 + s.regN (capReg i) % 65536

def execLimitRead (r : Req) (s : State) : Out :=
  done (runCmd s r 0x0642 anyLc (fun _ => [])
    (readEff fun t => leBytes 2 t.lim.base.1 ++ leBytes 2 t.lim.base.2 ++ (List.range 4).flatMap (fun i => leBytes 4 (capWord t i)) ++ w4 t r_LIM_REQ ++ t.lim.frame))

/-- An identifier with its form: bits above an 11-bit identifier do not count. -/
def identOf (v : Nat) : Nat := v / 2 ^ 29 % 2 * 2 ^ 29 + v % (if bit v 29 then 2 ^ 29 else 2 ^ 11)

/-- The identifier of the publication frame would be the RXID or TXID of its channel (R444). -/
def namesChannelId (s : State) (chan ident : Nat) (ide : Bool) : Bool :=
  let v := flag ide * 2 ^ 29 + ident
  identOf v == identOf (s.regN (r_XP_CFG2 (chan + 1))) || identOf v == identOf (s.regN (r_XP_CFG3 (chan + 1)))

/-- LIMIT.SET_PUBLICATION (R158, R444, R564). -/
def execLimitSetPublication (r : Req) (chan ident : Nat) (ide : Bool) (s : State) : Out :=
  done (runCmd s r 0x0643 anyLc
    (fun t => [need (decide (chan < 2)) (blame E_PARAM_RANGE 0x0100), need (decide (ident < (if ide then 2 ^ 29 else 2 ^ 11))) (blame E_PARAM_RANGE 0x0101), need (!t.isSet f_LIM_CTRL_LOCK) E_PARAM_CONFLICT,
               need (!namesChannelId t chan ident ide) (blame E_PARAM_CONFLICT 0x0101)])
    (okEff fun t => t.fputs [(f_LIM_PUB_CFG_CHAN, chan), (f_LIM_PUB_CFG_IDE, flag ide), (f_LIM_PUB_CFG_ID, ident)]))

/-! ### The boundary (R155–R158) -/

/-- CAP_LAPSE: caps whose lifetime has ended by `p`. -/
def State.lapseCaps (s : State) (p : Nat) : State :=
  (List.range 4).foldl (fun t i => match t.cap i with
    | some (_, e) => if e ≤ p then (t.putCap i none).raise f_LIM_IRQ_CAP_LAPSE else t
    | none => t) s

/-- The bases are latched; STALE_PERIOD (R157). -/
def State.latchBases (s : State) : State :=
  let en := s.isSet f_LIM_CTRL_EN
  let stale := en && !(s.lim.wroteChg && s.lim.wroteDis)
  let n := if stale then s.lim.stale + 1 else 0
  let s1 : State := { s with
    lim := { s.lim with base := (s.fget f_LIM_BASE_CHG_VALUE, s.fget f_LIM_BASE_DIS_VALUE), wroteChg := false, wroteDis := false, stale := n } }
  let s2 := s1.fput f_LIM_STATUS_STALE (flag stale)
  let s3 := if stale then s2.bump f_LIM_STALE_COUNT_COUNT else s2
  if n = 100 then s3.raise f_LIM_IRQ_STALE else s3

/-- The least of the inputs of one direction. -/
def State.request (s : State) (discharge : Bool) : Nat :=
  let pick (p : Nat × Nat) : Nat := if discharge then p.2 else p.1
  let low (m : Nat) (c : Option Nat) : Nat := match c with | some v => min m v | none => m
  if s.isSet f_LIM_CTRL_EN then
    low (low (low (pick s.lim.base) ((s.cap (capIdx false discharge)).map (·.1))) ((s.cap (capIdx true discharge)).map (·.1)))
      (if s.mode = 4 then s.lim.qceil.map pick else none)
  else 0

/-- QCEIL follows any lower value published (R47). -/
def State.lowerCeiling (s : State) : State :=
  match s.lim.qceil with
  | some (c, d) => if s.mode = 4 then { s with lim := { s.lim with qceil := some (min c (s.fget f_LIM_PUB_CHG), min d (s.fget f_LIM_PUB_DIS)) } }
                   else State.fput { s with lim := { s.lim with qceil := none } } f_LIM_STATUS_QCEIL 0
  | none => s

/-- The 32 bytes of the frame. -/
def frameBytes (s : State) (p flags cnt : Nat) : List Byte :=
  let b := leBytes 1 1 ++ leBytes 1 flags ++ leBytes 1 s.mode ++ leBytes 1 cnt ++ leBytes 8 p ++ leBytes 2 (s.fget f_LIM_PUB_CHG) ++ leBytes 2 (s.fget f_LIM_PUB_DIS) ++
    leBytes 2 (s.fget f_LIM_VOLT_V_CHG_MAX) ++ leBytes 2 (s.fget f_LIM_VOLT_V_DIS_MIN) ++ leBytes 2 (s.fget f_LIM_INFO0_SOC) ++ leBytes 2 (s.fget f_LIM_INFO0_SOH) ++
    leBytes 1 (s.fget f_LIM_INFO1_WATCH) ++ leBytes 1 (s.fget f_LIM_INFO1_QUAR) ++ leBytes 2 (s.fget f_LIM_INFO1_T_MAX)
  b ++ leBytes 4 (crc32c b)

/-- The CAN FD channel of the publication runs: its transport is enabled and neither in reset nor stopped (R158). -/
def State.canRuns (s : State) (chan : Nat) : Bool := s.isSet (f_XP_CTRL_EN (1 + chan))

/-- The identifier of the publication frame as it is sent: channel, form, and the bits of the form (R158). -/
def pubIdent (s : State) : Nat := s.regN r_LIM_PUB_CFG % 2 ^ 31 / 2 ^ 29 * 2 ^ 29 + s.regN r_LIM_PUB_CFG % (if s.isSet f_LIM_PUB_CFG_IDE then 2 ^ 29 else 2 ^ 11)

/-- The frame is formed, and bytes 4–27 are the record of channel 0x26; it is queued when PUB_EN is set and its channel runs. -/
def State.publish (s : State) (p flags : Nat) : State :=
  let b := frameBytes s p flags (s.lim.frames % 256)
  let chan := s.fget f_LIM_PUB_CFG_CHAN
  let s1 := State.emitValue { s with lim := { s.lim with frame := b } } (s.packLocus 0x26) ((b.drop 4).take 24)
  if s1.isSet f_LIM_CTRL_PUB_EN && s1.canRuns chan then
    State.raise { s1 with lim := { s1.lim with frames := s1.lim.frames + 1, sent := s1.lim.sent ++ [(chan, pubIdent s1, b)] } } f_LIM_IRQ_PUBLISHED
  else s1

/-- LIMIT_PERIOD_BOUNDARY, the arbiter's and the Shutter's part at `p` (a stamp): latch, lapse, REQ, shaping, publication. -/
def State.arbitrate (s : State) (p : Nat) : State :=
  let s1 := (s.latchBases).lapseCaps p
  let rc := s1.request false
  let rd := s1.request true
  let s2 := (s1.fputs [(f_LIM_REQ_CHG, rc), (f_LIM_REQ_DIS, rd)]).put64 r_LIM_PERIOD_LO r_LIM_PERIOD_HI p
  let hz := (s2.fget f_SHT_HZ_STAT_ASSERTED ||| s2.fget f_SHT_HZ_STAT_SEEN) != 0
  let s3 := (s2.shape p rc rd).lowerCeiling
  let flags := s3.fget f_LIM_STATUS_STALE + 2 * flag ((s3.cap 2).isSome || (s3.cap 3).isSome) + 4 * flag ((s3.cap 0).isSome || (s3.cap 1).isSome) + shapeFlags s3 hz
  State.publish { s3 with lim := { s3.lim with period := p / ticksPerPeriod } } p flags

end Sys2Proof.Machine
end

