-- ==== Sys2Proof/Machine/Flash.lean ====
section
/-!
DEFINITION. Machine/Flash.lean: the flash array, its journals, the firmware channel, the ledger's port, boot twins and the selector (chapter 14, R402).
-/
namespace Sys2Proof.Machine

/-! ### Addresses (R343, R345) -/

def flashBase : Nat := 0x04000000
def inFlash (a : Nat) : Bool := decide (flashBase ≤ a ∧ a < 0x05000000)
def bankOf (a : Nat) : Nat := (a - flashBase) / 0x200000
/-- Sector number within its bank. -/
def sectorOf (a : Nat) : Nat := (a - flashBase) / 0x1000 % 512
def sectorAddr (bank sector : Nat) : Nat := flashBase + bank * 0x200000 + sector * 0x1000

/-- A line has been programmed since its sector's last erase. -/
def State.programmed (s : State) (a : Nat) : Bool := (keyed s.flc.lines (a / 16)).isSome

/-- A line reads erased at the low threshold, its check bits included (R349). -/
def State.erasedLine (s : State) (a : Nat) : Bool := !s.programmed a && (s.upsetsIn a 16).isEmpty

/-! ### Journals (R351, R352) -/

def State.journal (s : State) (b : Nat) : Journal := at! s.flc.journals b ⟨0, 1, 1, []⟩

/-- FLC_BANK.UNSETTLED and FLC_JSTAT follow the journal. -/
def State.putJournal (s : State) (b : Nat) (j : Journal) : State :=
  let s1 : State := { s with flc := { s.flc with journals := setAt s.flc.journals b j } }
  let bad := !j.unsettled.isEmpty
  let s2 := if bad && !s.bitOf f_FLC_BANK_UNSETTLED b then s1.raise f_FLC_IRQ_UNSETTLED else s1
  (s2.putBit f_FLC_BANK_UNSETTLED b bad).fputs
    [(f_FLC_JSTAT_JSECT b, j.sect), (f_FLC_JSTAT_FIRST b, j.unsettled.foldl min 0x3FF), (f_FLC_JSTAT_UNSET b, j.unsettled.length)]

/-- The switch to the next journal sector: a header and the unsettled sectors carried forward. -/
def Journal.turn (j : Journal) : Journal :=
  if j.fill < 255 then j
  else { j with sect := (j.sect + 1) % 8, fill := 1 + j.unsettled.length, jseq := j.jseq + 1 + j.unsettled.length }

def Journal.intent (j : Journal) (sector : Nat) : Journal :=
  let k := j.turn
  { k with fill := k.fill + 1, jseq := k.jseq + 1, unsettled := sector :: k.unsettled.filter (· != sector) }

def Journal.settled (j : Journal) (sector : Nat) : Journal :=
  let k := j.turn
  { k with fill := k.fill + 1, jseq := k.jseq + 1, unsettled := k.unsettled.filter (· != sector) }

def State.unsettledAt (s : State) (a : Nat) : Bool := (s.journal (bankOf a)).unsettled.contains (sectorOf a)

/-- The cells of a range read as erased again. -/
def State.blank (s : State) (a n : Nat) : State :=
  { s.heal a n with
    mem := Sparse.drop (fun k => decide (a ≤ k ∧ k < a + n)) s.mem,
    flc := { s.flc with lines := Sparse.drop (fun k => decide (a ≤ 16 * k ∧ 16 * k < a + n)) s.flc.lines } }

/-- A sector erased, with its intent and settled entries. -/
def State.eraseSector (s : State) (a : Nat) : State :=
  let b := bankOf a
  let n := sectorOf a
  (s.blank (sectorAddr b n) 0x1000).putJournal b (((s.journal b).intent n).settled n)

/-- The check bits of `n` words from `a` are no longer those of their data: how each word reads is a free value. -/
def State.scatter (s : State) (a n : Nat) : State :=
  { s with fresh := s.fresh + n,
           upsets := (List.range n).foldl (fun l i => Sparse.set (fun _ => 0) l (a + 8 * i) ((Config.freeValue 2 (s.fresh + i)).toNat % 3)) s.upsets }

/-- A sector whose erase did not pass: unsettled, its contents lost: free values. -/
def State.spoilSector (s : State) (a : Nat) : State :=
  let b := bankOf a
  let n := sectorOf a
  let base := sectorAddr b n
  let s1 := (s.blank base 0x1000).putJournal b ((s.journal b).intent n)
  let s2 := s1.store base ((List.range 4096).map (fun i => Config.freeValue 8 (s1.fresh + i)))
  State.scatter { s2 with fresh := s2.fresh + 4096, flc := { s2.flc with lines := (List.range 256).foldl (fun l i => putKeyed l (base / 16 + i) 1) s2.flc.lines } }
    base 512

/-- Bytes programmed from a line up; each line is then programmed. -/
def State.programLines (s : State) (a : Nat) (bs : List Byte) : State :=
  let s1 := s.write a bs
  { s1 with flc := { s1.flc with lines := (List.range ((bs.length + 15) / 16)).foldl (fun l i => putKeyed l (a / 16 + i) 1) s1.flc.lines } }

/-- The ledger channel writes whole records, erasing their sector first where `fresh_` says so (R218, R220, R346). -/
def State.ledgerWrite (s : State) (a : Nat) (erase : Bool) (bs : List Byte) : State :=
  (if erase then s.eraseSector a else s).programLines a bs

/-! ### Twins (R356–R358, R402) -/

def twinBase (t : Nat) : Nat := flashBase + t * 0x20000
/-- The header rules: MAGIC "DZIM", VER, LEN, ENTRY and the zero fields. -/
def headerOk (s : State) (t : Nat) : Bool :=
  let a := twinBase t
  let len := s.peekN (a + 12) 4
  let entry := s.peekN (a + 16) 4
  s.peekN a 4 == 0x4D495A44 && s.peekN (a + 4) 4 == 1 && decide (128 ≤ len ∧ len ≤ 131072) && decide (entry % 8 = 0 ∧ 128 ≤ entry ∧ entry < 0x20000) &&
  s.peek (a + 20) 12 == zeros 12 && s.peek (a + 80) 48 == zeros 48

/-- The bytes of a SHA-384, first byte first. -/
def hashBytes (h : BitVec 384) : List Byte := beBytes 48 h.toNat

def digestOk (s : State) (t : Nat) : Bool :=
  let a := twinBase t
  s.peek (a + 32) 48 == hashBytes (Config.sha384 (s.peek (a + 128) (s.peekN (a + 12) 4 - 128)))

def imageContext : Nat := 5

/-- The signature record of a twin. -/
def imageSigned (s : State) (t : Nat) : Bool :=
  let r := 0x04040000 + t * 0x1000
  s.peekN r 4 == 0x53495A44 && s.peekN (r + 4) 4 == 1 &&
  Config.sigValid Config.vendorRoot imageContext [leNat (s.peek (twinBase t) 128)] (beNat (s.peek (r + 8) 96)) (beNat (s.peek (r + 104) 3309))

/-- A twin that boot ROM would boot. -/
def bootable (s : State) (t : Nat) : Bool := headerOk s t && digestOk s t && imageSigned s t

def twinVersion (s : State) (t : Nat) : Nat := s.peekN (twinBase t + 8) 4

/-! ### Checks of an operation (R347, R348) -/

def generalSram (a n : Nat) : Bool := decide (0x10000000 ≤ a ∧ a + n ≤ 0x100B8000)

/-- R347: the fields of an operation. `data` true when the data does not come through FLC_SRC. -/
def fieldsOk (op addr len src margin : Nat) (data : Bool) : Bool :=
  decide (margin ≤ 2) &&
  (match op with
   | 1 => inFlash addr && decide (addr % 16 = 0 ∧ 16 ≤ len ∧ len ≤ 4096 ∧ len % 16 = 0 ∧ addr % 0x1000 + len ≤ 0x1000) &&
          (data || (generalSram src len && decide (src % 16 = 0)))
   | 2 => inFlash addr && decide (addr % 0x1000 = 0 ∧ len % 0x1000 = 0 ∧ 1 ≤ len / 0x1000 ∧ len / 0x1000 ≤ 64 ∧ (addr - flashBase) % 0x200000 + len ≤ 0x200000)
   | 3 => inFlash addr && decide (addr % 16 = 0 ∧ 16 ≤ len ∧ len ≤ 2097152 ∧ len % 16 = 0 ∧ (addr - flashBase) % 0x200000 + len ≤ 0x200000)
   | 4 => addr == 0x04000000 || addr == 0x04020000
   | _ => false)

def sectorsOf (addr len : Nat) : List Nat := (List.range ((addr % 0x1000 + len + 0xFFF) / 0x1000)).map (fun i => addr / 0x1000 * 0x1000 + i * 0x1000)

/-- The parameter at fault where the fields of a command are out of range (R347): the address, else the margin, else the length, or for a program the data. -/
def flashFault (op addr margin : Nat) : Nat :=
  if !inFlash addr ∨ addr % (if op = 2 then 0x1000 else 16) ≠ 0 then 0x0100
  else if 2 < margin then 0x0102
  else if op = 1 then 8 else 0x0101

/-- Check 3: reserved sectors, protected banks, the selected twin in world mode. -/
def reservedRange (s : State) (op addr len : Nat) : Bool :=
  (op == 1 || op == 2) &&
  (bankOf addr == 7 || (sectorsOf addr len).any (fun a => bankOf a == 6 && decide (448 ≤ sectorOf a)) || s.bitOf f_FLC_CTRL_PROT (bankOf addr) ||
   (s.isSet f_CORE_STATUS_WMODE && (sectorsOf addr len).any (fun a => decide (twinBase s.flc.twin ≤ a ∧ a < twinBase s.flc.twin + 0x20000))))

/-- R348, in order; `bank` is the bank of the issuing core's fetch address, if any. -/
def flashStatus (s : State) (bank : Option Nat) (op addr len src margin : Nat) (data : Bool) : Nat :=
  let b := bankOf addr
  if !fieldsOk op addr len src margin data then E_PARAM_RANGE
  else if s.mode = 4 ∧ op ≠ 3 then E_MODE
  else if reservedRange s op addr len then E_PARAM_CONFLICT
  else if !s.bitOf f_FLC_STATUS_RELEASED b && !(op == 2 && (sectorsOf addr len).all s.unsettledAt) then E_SECTOR_UNSETTLED
  else if op ≠ 3 ∧ bank = some b then E_BANK_SELF
  else if op = 1 ∧ s.unsettledAt addr then E_SECTOR_UNSETTLED
  else if op = 1 ∧ (List.range (len / 16)).any (fun i => !s.erasedLine (addr + 16 * i)) then E_PARAM_CONFLICT
  else if op = 4 then
    let t := (addr - flashBase) / 0x20000
    if t ≠ s.flc.twin ∧ s.peekN (twinBase t) 4 = 0x4D495A44 ∧ s.peekN (twinBase t + 4) 1 = 1 ∧ 128 ≤ s.peekN (twinBase t + 12) 4 ∧ s.peekN (twinBase t + 12) 4 ≤ 131072 ∧
       twinVersion s t = src ∧ s.flc.imgver ≤ src then OK else E_PARAM_CONFLICT
  else OK

/-! ### The firmware channel -/

/-- FLC_RESULT and the end of an operation. -/
def State.flashResult (s : State) (op st : Nat) : State :=
  s.fputs [(f_FLC_RESULT_VALID, 1), (f_FLC_RESULT_OP, op), (f_FLC_RESULT_STATUS, st), (f_FLC_CMD_GO, 0)]

/-- A GO, or a class 0x0A command: refused while an operation runs; checked; then started. `none`: it has started. -/
def State.flashStart (s : State) (bank : Option Nat) (o : FlashOp) (data : Bool) : State × Option Nat :=
  let st := flashStatus s bank o.op o.addr o.len o.src o.margin data
  if st ≠ OK then ((s.flashResult (o.op % 16) st).raise f_FLC_IRQ_REFUSED, some st)
  else
    let fetch := !data && (o.op == 1 || (o.op == 3 && o.margin == 1))
    let (s0, d) := if fetch then s.dmaRead o.src o.len else (s, o.data)
    let s1 : State := { s0 with flc := { s0.flc with op := some { o with data := d } } }
    let s2 := s1.fputs [(f_FLC_CMD_BUSY, 1), (f_FLC_CMD_GO, 0)]
    (if o.op = 3 then s2 else s2.putBit f_FLC_STATUS_BUSY (bankOf o.addr) true, none)

/-- A write of FLC_CMD with GO; `op` is the operation the row names. -/
def State.flashGo (s : State) (w : Wr) (bank : Option Nat) (op : Nat) : State :=
  if bit w.value 31 ∧ w.value % 16 = op then
    if s.isSet f_FLC_CMD_BUSY then (s.bump f_FLC_REFUSED_VALUE).raise f_FLC_IRQ_REFUSED
    else
      let margin := w.value / 1024 % 4
      let s1 := s.fputs [(f_FLC_CMD_MARGIN, margin), (f_FLC_CMD_OP, op)]
      (s1.flashStart bank ⟨op, s1.regN r_FLC_ADDR, s1.regN r_FLC_LEN, s1.regN r_FLC_SRC, margin, [], none⟩ false).1
  else s

def execFlashOpProgram (w : Wr) (bank : Option Nat) (s : State) : Out := done (guarded s w r_FLC_CMD fun t => t.flashGo w bank 1)
def execFlashOpErase (w : Wr) (bank : Option Nat) (s : State) : Out := done (guarded s w r_FLC_CMD fun t => t.flashGo w bank 2)
def execFlashOpVerify (w : Wr) (bank : Option Nat) (s : State) : Out := done (guarded s w r_FLC_CMD fun t => t.flashGo w bank 3)
def execFlashOpSelect (w : Wr) (bank : Option Nat) (s : State) : Out := done (guarded s w r_FLC_CMD fun t => t.flashGo w bank 4)

/-- The first failing line of a verify: by the contents, and by `fail`, a line that the threshold finds bad (R349). -/
def verifyFail (s : State) (o : FlashOp) (fail : Option Nat) : Option Nat :=
  let line (i : Nat) : Nat := o.addr + 16 * i
  let bad (i : Nat) : Bool :=
    fail == some (line i) || s.unsettledAt (line i) ||
    (match o.margin with
     | 1 => s.load (line i) 16 != (o.data.drop (16 * i)).take 16 || !(s.upsetsIn (line i) 16).isEmpty
     | 2 => !s.erasedLine (line i)
     | _ => (s.upsetsIn (line i) 16).any s.spoiled)
  ((List.range (o.len / 16)).find? bad).map line

/-- The undefined line of a failed program (R350): free values. -/
def State.undefinedLine (s : State) (a : Nat) : State :=
  let s1 := s.programLines a ((List.range 16).map (fun i => Config.freeValue 8 (s.fresh + i)))
  State.scatter { s1 with fresh := s1.fresh + 16 } a 2

/-- The next line of the selector, in the other sector when this one is full (R358). -/
def State.selectTwin (s : State) (t imgver : Nat) : State :=
  let full := decide (256 ≤ s.flc.selFill)
  let s1 := if full then s.putJournal 0 { s.journal 0 with fill := (s.journal 0).turn.fill + 2, jseq := (s.journal 0).turn.jseq + 2, sect := (s.journal 0).turn.sect } else s
  let s2 : State := { s1 with
    flc := { s1.flc with twin := t, count := s1.flc.count + 1, imgver := imgver, selSect := if full then 1 - s1.flc.selSect else s1.flc.selSect,
                         selFill := if full then 1 else s1.flc.selFill + 1 } }
  (s2.setRegN r_FLC_SELECT (s2.flc.count % 2 ^ 32)).setRegN r_FLC_IMGVER imgver

/-- An intent entry that fails its check takes a line of the journal and leaves its sector untouched (R351). -/
def State.intentFails (s : State) (a : Nat) : State :=
  let j := (s.journal (bankOf a)).turn
  s.putJournal (bankOf a) { j with fill := j.fill + 1 }

/-- What an operation has done when it ends: the state, and the failing line or sector; `intent`: of a sector it is the intent entry that failed. -/
def State.flashEffect (s : State) (o : FlashOp) (fail : Option Nat) (intent : Bool) : State × Option Nat :=
  match o.op with
  | 1 =>
    match fail with
    | some a =>
      if o.addr ≤ a ∧ a < o.addr + o.len then
        let l := a / 16 * 16
        ((s.programLines o.addr (o.data.take (l - o.addr))).undefinedLine l, some l)
      else (s.programLines o.addr o.data, none)
    | none => (s.programLines o.addr o.data, none)
  | 2 =>
    match fail with
    | some a =>
      if o.addr ≤ a ∧ a < o.addr + o.len then
        let t := ((sectorsOf o.addr o.len).filter (fun x => decide (x + 0x1000 ≤ a))).foldl (fun t x => t.eraseSector x) s
        (if intent then t.intentFails a else t.spoilSector a, some (a / 0x1000 * 0x1000))
      else ((sectorsOf o.addr o.len).foldl (fun t x => t.eraseSector x) s, none)
    | none => ((sectorsOf o.addr o.len).foldl (fun t x => t.eraseSector x) s, none)
  | 3 => (s, verifyFail s o fail)
  | _ => match fail with
    | some a => ({ s with flc := { s.flc with selFill := s.flc.selFill + 1 } }, some a)
    | none => (s.selectTwin ((o.addr - flashBase) / 0x20000) o.src, none)

/-- FLASH_OP_COMPLETE: `fail` is the line or sector that failed its pulses or its threshold, none when all passed; `intent`: of a sector it is the
journal's intent entry that failed. -/
def State.flashComplete (s : State) (fail : Option Nat) (intent : Bool) : State :=
  match s.flc.op with
  | none => s
  | some o =>
    if s.bitOf f_FLC_STATUS_SUSP (bankOf o.addr) then s
    else
      let (s1, f) := s.flashEffect o fail intent
      let st := if f.isSome then E_VERIFY else OK
      let s2 := ((State.fput { s1 with flc := { s1.flc with op := none } } f_FLC_CMD_BUSY 0).putBit f_FLC_STATUS_BUSY (bankOf o.addr) false).flashResult o.op st
      let s3 := match f with
        | some a => (((s2.setRegN r_FLC_FAILADDR a).bump f_FLC_VERIFY_FAIL_VALUE).raise f_FLC_IRQ_VERIFY_FAIL)
        | none => s2
      let s4 := s3.raise f_FLC_IRQ_DONE
      match o.req with
      | some (r, op) => s4.reply r op st []
      | none => s4

def execFlashOpComplete (at_ : Nat) (result : FlashEnd) (s : State) : Out := done ((s.at at_).flashComplete result.fail result.intent)

/-- FLASH_READ_SUSPEND (R353): a read or fetch to a busy bank. -/
def State.flashTouched (s : State) (a : Nat) : State :=
  if inFlash a && s.bitOf f_FLC_STATUS_BUSY (bankOf a) && !s.bitOf f_FLC_STATUS_SUSP (bankOf a) then
    (s.putBit f_FLC_STATUS_SUSP (bankOf a) true).bump f_FLC_SUSPENDS_VALUE
  else s

/-- FLASH_RESUME: 5 µs with no read to the bank. -/
def execFlashResume (at_ bank : Nat) (s : State) : Out :=
  let t := s.at at_
  done (if bank < 8 then t.putBit f_FLC_STATUS_SUSP bank false else t)

/-- BANK_RELEASE (R355): a bank with an unsettled sector stays held. -/
def State.releaseBanks (s : State) (mask : Nat) : State :=
  (List.range 8).foldl (fun t b =>
    if bit mask b then
      if (t.journal b).unsettled.isEmpty then t.putBit f_FLC_STATUS_RELEASED b true else (t.bump f_FLC_REFUSED_VALUE).raise f_FLC_IRQ_REFUSED
    else t) s

def execBankRelease (w : Wr) (s : State) : Out := done (guarded s w r_FLC_BANK fun t => t.releaseBanks (w.value / 256 % 256))

/-- Power loss or reset of the controller's domain during an operation (R359): how far it had come is a free value; the line in progress is
undefined, the sector in progress unsettled; every bank is held again. -/
def State.flashCut (s : State) : State :=
  let s1 : State := match s.flc.op with
    | some o =>
      let n := if o.op = 1 then o.len / 16 else if o.op = 2 then o.len / 0x1000 else 0
      let i := if n = 0 then 0 else s.draw 32 % n
      let t := s.drawn
      let u := if o.op = 1 then (t.flashEffect o (some (o.addr + 16 * i)) false).1
        else if o.op = 2 then (t.flashEffect o (some (o.addr + 0x1000 * i)) (t.draw 1 == 1)).1.drawn else t
      { u with flc := { u.flc with op := none } }
    | none => s
  s1.fputs [(f_FLC_CMD_BUSY, 0), (f_FLC_CMD_GO, 0), (f_FLC_STATUS_BUSY, 0), (f_FLC_STATUS_SUSP, 0), (f_FLC_STATUS_RELEASED, 0)]

/-! ### Commands (R360) -/

/-- FLASH.READ: a twin header is always admitted. -/
def execFlashRead (r : Req) (addr len : Nat) (s : State) : Out :=
  let header (a n : Nat) : Bool := (decide (twinBase 0 ≤ a ∧ a + n ≤ twinBase 0 + 128)) || decide (twinBase 1 ≤ a ∧ a + n ≤ twinBase 1 + 128)
  done (runCmd s r 0x0A01 anyLc
    (fun t => [need (inFlash addr) (blame E_PARAM_RANGE 0x0100), need (decide (1 ≤ len ∧ len ≤ 61440 ∧ addr + len ≤ 0x05000000)) (blame E_PARAM_RANGE 0x0101),
               need (header addr len || (sectorsOf addr len).all (fun a => t.bitOf f_FLC_STATUS_RELEASED (bankOf a) && !t.unsettledAt a)) E_SECTOR_UNSETTLED])
    (fun t => ((((sectorsOf addr len).foldl (fun u a => u.flashTouched a) t).checkRead addr len).1, some (OK, t.peek addr len))))

/-- A class 0x0A command through the firmware channel: its reply carries the operation's status. -/
def flashCmd (s : State) (r : Req) (code : Nat) (bank : Option Nat) (o : FlashOp) (extra : State → List (Option Nat)) : State :=
  runCmd s r code anyLc (fun t => [need (!t.isSet f_FLC_CMD_BUSY) E_BUSY] ++ extra t)
    (fun t => match t.flashStart bank { o with req := some (r, code) } true with
      | (t1, some st) => (t1, some (st, if st = E_PARAM_RANGE then leBytes 2 (flashFault o.op o.addr o.margin) else []))
      | (t1, none) => (t1, none))

/-- The recovery monitor programs and erases within sectors 0–65 of bank 0 only (R533). -/
def recoveryRange (addr len : Nat) (s : State) : List (Option Nat) :=
  [need (s.fget f_CPR_STATUS_STAGE != 3 || decide (flashBase ≤ addr ∧ addr + len ≤ flashBase + 66 * 0x1000)) E_MODE]

def execFlashProgram (r : Req) (bank : Option Nat) (addr : Nat) (data : List Byte) (s : State) : Out :=
  done (flashCmd s r 0x0A02 bank ⟨1, addr, data.length, 0, 0, data, none⟩ (recoveryRange addr data.length))

def execFlashErase (r : Req) (bank : Option Nat) (addr sectors : Nat) (s : State) : Out :=
  done (flashCmd s r 0x0A03 bank ⟨2, addr, sectors * 0x1000, 0, 0, [], none⟩ (recoveryRange (addr / 0x1000 * 0x1000) (sectors * 0x1000)))

def execFlashVerify (r : Req) (addr len margin : Nat) (expected : List Byte) (s : State) : Out :=
  done (flashCmd s r 0x0A04 none ⟨3, addr, len, 0, margin, expected, none⟩
    (fun _ => [need (margin != 1 || expected.length == len) (blame E_PARAM_RANGE 0x0008)]))

/-- FLASH.ACTIVATE_TWIN: the signature first, then R358. -/
def execFlashActivateTwin (r : Req) (bank : Option Nat) (twinB : Bool) (imgver : Nat) (s : State) : Out :=
  done (flashCmd s r 0x0A05 bank ⟨4, twinBase (flag twinB), 0, imgver, 0, [], none⟩
    (fun t => [need (imageSigned t (flag twinB) && digestOk t (flag twinB)) E_VERIFY]))

def execFlashReadStatus (r : Req) (s : State) : Out :=
  done (runCmd s r 0x0A06 anyLc (fun _ => []) (readEff fun t =>
    w4 t r_FLC_STATUS ++ w4 t r_FLC_SELECT ++ w4 t r_FLC_IMGVER ++ w4 t r_FLC_BANK ++ (List.range 8).flatMap (fun b => w4 t (r_FLC_JSTAT b))))

end Sys2Proof.Machine
end

