-- ==== Sys2Proof/Machine/Ledger.lean ====
section
/-!
DEFINITION. Machine/Ledger.lean: block spans, block format, seals, lease tallies and the archive (chapter 9, R207–R229).
-/
namespace Sys2Proof.Machine

/-- The first period boundary after a stamp. -/
def nextBoundary (t : Nat) : Nat := (t / ticksPerPeriod + 1) * ticksPerPeriod

/-! ### Spans (R207) -/

/-- What a history says of a stamp; newest entry first. -/
def atStamp (l : List (Nat × Nat)) (t d : Nat) : Nat := ((l.find? (fun p => decide (p.1 ≤ t))).map (·.2)).getD d

/-- STAMP_TO of the block in progress, among the stamps later than `counted`. -/
def blockEnd (g : LdgState) : Nat :=
  let later (l : List (Nat × Nat)) : List Nat := (l.map (·.1)).filter (fun t => decide (g.counted < t))
  (later g.modes ++ later g.ends).foldl min ((g.counted / ticksPerS + 1) * ticksPerS)

/-- MODE_SECS: whole seconds per mode code. -/
def modeSecs (ticks : List Nat) : List Byte := ticks.flatMap (fun t => leBytes 4 (satU 32 (t / ticksPerS)))

/-- METER body (R210) as at STAMP_TO. -/
def meterBody (s : State) (x : Snap) : List Byte :=
  x.energy.flatMap (leBytes 8) ++ (List.range 4).flatMap (fun j => leBytes 8 (accValue s (6 + j))) ++ leBytes 4 x.unmet.1 ++ leBytes 4 x.unmet.2 ++
  leBytes 4 x.status ++ leBytes 4 (x.class_ % 8) ++ padTo 32 x.table

/-- PACK body (R210). -/
def packBody (s : State) (from_ to_ : Nat) (secs : List Byte) (x : Snap) : List Byte :=
  let before := s.ldg.snaps.filter (fun y => y.period && decide (y.stamp < to_))
  let mine := before.filter (fun y => decide (from_ ≤ y.stamp))
  let used := if mine.isEmpty then before.take 1 else mine
  let low (f : Snap → Nat) : Nat := match used with | [] => 0 | a :: t => t.foldl (fun m y => min m (f y)) (f a)
  secs ++ ((before.head?.map (·.info)).getD (zeros 8)) ++ leBytes 2 s.populated.length ++ leBytes 2 (low (·.pub.1)) ++ leBytes 2 (low (·.pub.2)) ++
  leBytes 1 (used.foldl (fun m y => m ||| y.flags) 0) ++ zeros 1 ++ leBytes 4 (x.late - s.ldg.base.1) ++ leBytes 4 (x.missed - s.ldg.base.2) ++ leBytes 2 s.ldg.expired ++
  leBytes 2 (mine.filter (·.stale)).length ++ zeros 12

/-- SoC or SoH in 0.01 % from an estimate record. -/
def pctOf (v : Nat × Int × Nat × Nat) : Nat := satI 16 (v.2.1 / 10)

/-- A CELLS record (R211) with the estimates stamped no later than `to_`; `was` is the record as at the close, whose values stay where a newer one
bears a later stamp. -/
def cellRecord (s : State) (to_ : Nat) (i : Nat) (was : List Byte) : List Byte :=
  let x := (keyed s.est.cells i).getD (s.newEst (s.profileOf i))
  let take (k o n v : Nat) : Nat := if (x.val k).1 ≤ to_ then v else leNat ((was.drop o).take n)
  let noprof := (s.profileOf i).isNone
  let f0 := flag (bit (x.val 0).2.2.2 0 && !noprof) + 2 * flag (bit (x.val 0).2.2.2 2) + 4 * flag noprof
  let t := match s.cellTemp i with | some (t, _) => unsignedBits 16 t | none => 0
  let fl := take 0 3 1 f0 % 8 + (8 * flag (bit (x.val 3).2.2.2 4) + 16 * flag (bit (x.val 5).2.2.2 1))
  let soh := if (x.val 1).2.2.2 = 0 then (if x.cap = 0 then 0 else 10000) else pctOf (x.val 1)
  let r0 := match keyed s.spg.fits i with | some l => if leNat (l.take 8) ≤ to_ then fitR0 l else leNat ((was.drop 12).take 4) | none => 0
  leBytes 2 i ++ leBytes 1 (atStamp x.states to_ (if x.states.isEmpty then x.state else 0)) ++ leBytes 1 fl ++ leBytes 2 (take 0 4 2 (pctOf (x.val 0))) ++
  leBytes 2 (take 1 6 2 soh) ++ (if was.isEmpty then leBytes 2 t else (was.drop 8).take 2) ++ leBytes 2 (take 3 10 2 (satI 16 (x.val 3).2.1)) ++ leBytes 4 r0

/-- The rotation of block `b` as at its close. -/
def rotation64 (s : State) (b to_ : Nat) : List (Nat × List Byte) := (s.populated.filter (fun i => i % 64 == b % 64)).map (fun i => (i, cellRecord s to_ i []))

/-- BLOCK_CLOSE: the block in progress ends at `to_`, and the next begins. -/
def State.closeBlock (s : State) (to_ : Nat) : State :=
  let g := s.ldg
  let x := (g.snaps.find? (fun y => decide (y.stamp ≤ to_))).getD (snapOf s true 0)
  let m := atStamp g.modes g.counted s.mode
  let ticks := setAt g.modeTicks m (at! g.modeTicks m 0 + (to_ - g.counted))
  let specials := (g.ends.filter (fun p => p.1 == to_)).map (·.2)
  let c : Closed :=
    { seq := g.seq, from_ := g.from_, to_ := to_, mode := m, lcs := atStamp g.lcs g.from_ s.lc, bflags := g.bflags, close := s.now, meter := meterBody s x,
      pack := packBody s g.from_ to_ (modeSecs ticks) x, modeSecs := modeSecs ticks, cells := rotation64 s g.seq to_, specials := specials }
  let before := g.modes.filter (fun p => decide (p.1 ≤ to_))
  { s with
    ldg := { g with seq := g.seq + 1, from_ := to_, counted := to_, bflags := 0, modeTicks := ticks, expired := s.fget f_ALM_STATUS_EXPIRED, base := (x.late, x.missed),
                    closed := g.closed ++ [c], modes := g.modes.filter (fun p => decide (to_ < p.1)) ++ before.take 1,
                    ends := g.ends.filter (fun p => decide (to_ < p.1)), hold := g.hold || specials.any (fun n => n == 4 || n == 5 || n == 7) } }

/-- Every block that W has reached the end of closes. -/
def State.closeBlocks (s : State) : Nat → State
  | 0 => s
  | n + 1 =>
    if s.ledgerRuns then
      let e := blockEnd s.ldg
      if gridFloor (e - 1) ≤ s.alm.w ∧ s.ldg.counted < s.now then (s.closeBlock e).closeBlocks n else s
    else s

/-! ### The archive's queue (R225, R227) -/

/-- The length of an entry: header, body, CRC, padded to 16. -/
def entryLen (n : Nat) : Nat := (n + 20 + 15) / 16 * 16

def queueBytes (q : List ArcItem) : Nat := q.foldl (fun m a => m + entryLen a.body.length) 0

/-- A gap entry: FIRST_SEQ, LAST_SEQ, H(LAST_SEQ), CAUSE. -/
def gapItem (first last : Nat) (h : BitVec 384) (cause : Nat) : ArcItem := ⟨4, first, leBytes 8 first ++ leBytes 8 last ++ hashBytes h ++ leBytes 1 cause ++ zeros 7, h⟩
def gapLast (a : ArcItem) : Nat := leNat ((a.body.drop 8).take 8)

/-- A gap that a later one continues takes it in. -/
def mergeGap : List ArcItem → List ArcItem
  | [] => []
  | a :: t =>
    if a.type = 4 then
      match t.find? (fun b => b.type == 4 && b.seq == gapLast a + 1) with
      | some b => gapItem a.seq (gapLast b) b.hash 1 :: t.filter (· != b)
      | none => a :: mergeGap t
    else a :: mergeGap t

/-- The oldest block entry is dropped with its event items; a gap entry stands for it. -/
def dropBlock : List ArcItem → Option (List ArcItem)
  | [] => none
  | a :: t =>
    if a.type = 1 then some (gapItem a.seq a.seq a.hash 1 :: t.filter (fun b => !((b.type == 2 || b.type == 5) && b.seq == a.seq)))
    else (dropBlock t).map (a :: ·)

def shrinkQueue : Nat → List ArcItem → Nat → List ArcItem × Nat
  | 0, q, k => (q, k)
  | n + 1, q, k => if queueBytes q ≤ 262144 then (q, k) else
      match dropBlock q with
      | some q' => shrinkQueue n (mergeGap q') (k + 1)
      | none => (q, k)

def arcRunning (s : State) : Bool := s.fget f_LDG_STATUS_ARC_STATE == 1

/-- LDG_HOLDQ shows the queue while the archive does not take entries. -/
def State.putHoldq (s : State) : State := s.fput f_LDG_HOLDQ_BYTES (if arcRunning s then 0 else satU 19 (queueBytes s.ldg.arc.queue))

def State.setArc (s : State) (a : ArcState) : State := { s with ldg := { s.ldg with arc := a } }

/-- Entries join the queue; while the archive is off or in fault it holds 256 KiB. -/
def State.arcAdd (s : State) (items : List ArcItem) : State :=
  let q := s.ldg.arc.queue ++ items
  let (q', k) := if arcRunning s then (q, 0) else shrinkQueue q.length q 0
  let s1 := s.setArc { s.ldg.arc with queue := q', last := if s.ldg.arc.queue.isEmpty then s.now else s.ldg.arc.last }
  let s2 : State := if k = 0 then s1 else State.bumpBy { s1 with ldg := { s1.ldg with gap := true } } f_LDG_ARC_LOST_COUNT k
  s2.putHoldq

/-! ### Assembly (R208–R214, R220) -/

/-- Canonical order (R22): ascending stamp, then locus; stable. -/
def insertBy (key : α → Nat × Nat) (a : α) : List α → List α
  | [] => [a]
  | b :: t => if (key a).1 < (key b).1 ∨ ((key a).1 = (key b).1 ∧ (key a).2 ≤ (key b).2) then a :: b :: t else b :: insertBy key a t
def canonical (key : α → Nat × Nat) (l : List α) : List α := l.foldr (insertBy key) []

/-- The event items of a block, numbered from `first`. -/
def eventItems : Nat → List EventRec → List (List Byte)
  | _, [] => []
  | n, e :: t => eventItem n e :: eventItems (n + 1) t

def section_ (type count : Nat) (body : List Byte) : List Byte := leBytes 2 type ++ leBytes 2 count ++ leBytes 4 body.length ++ body

/-- The record of the rotation with what was published before assembly and stamped no later than STAMP_TO. -/
def freshCell (s : State) (to_ : Nat) (c : Nat × List Byte) : List Byte := cellRecord s to_ c.1 c.2

/-- KIND of a block. -/
def blockKind (s : State) (c : Closed) : Nat :=
  if s.evidenceNow ∨ c.mode = 4 then 1
  else if s.ldg.test then 2
  else if c.specials.contains 4 then 4
  else if c.specials.contains 3 then 3 else 0

/-- The sections in ascending TYPE. -/
def blockSections (s : State) (c : Closed) (items : List (List Byte)) (corrs : List (List Byte)) (workers : List (Nat × Nat × BitVec 384)) (kind : Nat) : List (List Byte) :=
  let cells := c.cells.map (freshCell s c.to_)
  let extra := corrs.drop 512
  [section_ 1 1 c.meter, section_ 2 1 c.pack] ++
  (if cells.isEmpty then [] else [section_ 3 cells.length cells.flatten]) ++
  [section_ 4 1 (leBytes 8 s.evno ++ leBytes 4 items.length ++ zeros 4 ++ hashBytes (Config.sha384 items.flatten))] ++
  (if corrs.isEmpty then [] else [section_ 5 (corrs.take 512).length (corrs.take 512).flatten]) ++
  (if extra.isEmpty then [] else
    [section_ 6 1 (leBytes 8 s.ldg.corrNo ++ leBytes 4 extra.length ++ zeros 4 ++ hashBytes (Config.sha384 extra.flatten))]) ++
  (if workers.isEmpty then [] else
    [section_ 7 workers.length (workers.flatMap (fun (d, q, h) => leBytes 1 d ++ zeros 7 ++ leBytes 8 q ++ hashBytes h))]) ++
  (if kind = 3 then [section_ 8 1 (padTo 7072 s.ldg.hoBody)] else [])

/-- Header and sections: bytes 0 to LEN − 17. -/
def blockBody (s : State) (c : Closed) (kind bflags : Nat) (prev : BitVec 384) (secs : List (List Byte)) : List Byte :=
  let body := secs.flatten
  leBytes 4 0x424C5A44 ++ leBytes 1 1 ++ leBytes 1 kind ++ leBytes 1 c.mode ++ leBytes 1 c.lcs ++ leBytes 8 c.seq ++ leBytes 8 (s.packLocus 0) ++ leBytes 8 c.from_ ++
  leBytes 8 c.to_ ++ leBytes 8 s.now ++ hashBytes prev ++ leBytes 4 (112 + body.length + 16) ++ leBytes 4 (s.ldg.chain.getD 0) ++ leBytes 2 secs.length ++
  leBytes 2 bflags ++ zeros 4 ++ body

/-- TAG (R214): AES-256-GCM under the custody ledger key of slot 12. -/
def blockTag (s : State) (c : Closed) (kind : Nat) (body : List Byte) : List Byte :=
  if kind = 1 then zeros 16
  else beBytes 16 (Config.gcmSeal (s.slotKey 12) (leBytes 4 (s.ldg.chain.getD 0) ++ leBytes 8 c.seq) body []).2.toNat

/-- The tally record (R220). -/
def tallyRecord (c : Closed) (h : BitVec 384) (chain : Nat) : List Byte :=
  let b := leBytes 8 c.seq ++ leBytes 8 c.to_ ++ hashBytes h ++ c.meter.take 80 ++ (c.meter.drop 80).take 8 ++ c.modeSecs ++ leBytes 4 chain ++ zeros 72
  b ++ leBytes 4 (crc32c b)

/-- TALLY_RECORD_WRITE: the next free slot of bank 7; each sector is erased before its first record. -/
def State.writeTally (s : State) (bs : List Byte) : State :=
  let n := s.ldg.tallySlot % 8192
  let s1 := s.ledgerWrite (0x04E00000 + 256 * n) (n % 16 == 0) bs
  { s1 with ldg := { s1.ldg with tallySlot := (n + 1) % 8192 } }

/-- The KIND that the cases of R215 give a head; none when no seal is called for. -/
def sealKind (s : State) (c : Closed) (release : Bool) : Option Nat :=
  if c.specials.contains 4 then some 3
  else if c.specials.contains 3 then some 2
  else if c.specials.contains 7 then some 5
  else if c.specials.any (fun n => n == 5 || n == 6 || n == 8) || release then some 1
  else if c.to_ % (60 * ticksPerS) = 0 then some 0 else none

/-- SEAL_MAKE: a seal of the head is asked for; what SFLAGS say of the time since the seal asked for before it is its own (R216). -/
def State.askSeal (s : State) (kind sflags due : Nat) (req : Option (Req × Nat)) : State :=
  match s.ldg.head with
  | none => s
  | some (seq, stamp, h) =>
    let tally := s.ldg.headMeter.take 16 ++ (s.ldg.headMeter.drop 48).take 16
    let fl := sflags + 4 * flag s.ldg.gap + 8 * flag s.ldg.timeSus
    State.fput { s with ldg := { s.ldg with gap := false, timeSus := false, jobs := s.ldg.jobs ++ [⟨kind, fl, seq, stamp, h, tally, s.ldg.chain.getD 0, due, req⟩] } }
      f_LDG_STATUS_SEALING 1

/-- BLOCK_ASSEMBLY of one closed block. -/
def State.assemble (s : State) (c : Closed) : State :=
  let s0 := s.foldQueue
  let ev := s0.evidenceNow || c.mode == 4
  let release := s0.ldg.evidence && !ev
  let kind := blockKind s0 c
  let bflags := c.bflags ||| (4 * flag release) ||| (8 * flag s0.ldg.suspect)
  let evs := canonical (fun e : EventRec => (e.stamp, e.locus)) s0.events
  let items := eventItems s0.evno evs
  let corrs := (canonical (fun x : Nat × Nat × List Byte => (x.1, x.2.1)) s0.ldg.corrs).map (·.2.2)
  let ws := (canonical (fun x : Nat × Nat × BitVec 384 => (x.1, x.2.1)) s0.ldg.workers)
  let body := blockBody s0 c kind bflags s0.ldg.prev (blockSections s0 c items corrs (ws.take 64) kind)
  let block := body ++ blockTag s0 c kind body
  let h := Config.sha384 block
  let extra := corrs.drop 512
  let s1 : State := { s0 with
    events := [], evno := s0.evno + items.length,
    ldg := { s0.ldg with closed := s0.ldg.closed.drop 1, prev := h, head := some (c.seq, c.to_, h), headMeter := c.meter, headModes := c.modeSecs, corrs := [],
                         corrNo := s0.ldg.corrNo + extra.length, workers := ws.drop 64, evidence := ev, suspect := false, timeSus := s0.ldg.timeSus || s0.ldg.suspect,
                         hoSeq := if kind = 3 then c.seq else s0.ldg.hoSeq, hoBody := if kind = 3 then [] else s0.ldg.hoBody } }
  let s2 := ((s1.put64 r_LDG_HEAD_SEQ_LO r_LDG_HEAD_SEQ_HI c.seq).put64 r_LDG_HEAD_STAMP_LO r_LDG_HEAD_STAMP_HI c.to_).writeTally (tallyRecord c h (s0.ldg.chain.getD 0))
  let s3 := s2.arcAdd ([⟨1, c.seq, block, h⟩] ++ items.map (fun b => ⟨2, c.seq, b, 0⟩) ++
    (extra.zip (List.range extra.length)).map (fun (b, i) => ⟨5, c.seq, leBytes 8 (s0.ldg.corrNo + i) ++ b, 0⟩))
  let s4 := if extra.isEmpty then s3 else (s3.bumpBy f_LDG_CORR_EXTRA_COUNT extra.length).raise f_LDG_IRQ_CORR_EXTRA
  match sealKind s4 c release with
  | some k => s4.askSeal k (flag release) (c.close + 650 * ticksPerMs) none
  | none => s4

/-- BLOCK_ASSEMBLY: 64 ms after the oldest closed block closed. -/
def State.assembleDue (s : State) : State :=
  match s.ldg.closed with
  | c :: _ => if c.close + 64 * ticksPerMs ≤ s.now then s.assemble c else s
  | [] => s


/-! ### Seals (R215–R219, R222) -/

def sealContext : Nat := 7

/-- The first 8 bytes of the SHA-384 of a public key, as a number. -/
def keyId (pub : List Byte) : Nat := leNat ((hashBytes (Config.sha384 pub)).take 8)

/-- The KIND a seal takes when it is signed. -/
def finalKind (s : State) (j : SealJob) : Nat := if s.evidenceNow then 4 else if s.ldg.test then 6 else j.kind

/-- Bytes 0–207. -/
def sealBody (s : State) (j : SealJob) : List Byte :=
  let k := finalKind s j
  let ids := if k = 4 then (0, 0) else (keyId (s.publicOf 13), keyId (s.publicOf 14))
  let keychg := k != 4 && s.ldg.keyIds != (0, 0) && s.ldg.keyIds != ids
  let fl := j.sflags + 2 * flag keychg
  leBytes 4 0x4C535A44 ++ leBytes 1 1 ++ leBytes 1 k ++ leBytes 2 fl ++ leBytes 8 s.ldg.sealSeq ++ leBytes 8 (s.packLocus 0) ++ leBytes 8 j.head ++ leBytes 8 j.stamp ++
  hashBytes j.hash ++ hashBytes s.ldg.sealHash ++ padTo 32 j.tally ++ leBytes 4 j.chain ++ zeros 4 ++ leBytes 8 Config.serial.toNat ++ leBytes 8 ids.1 ++ leBytes 8 ids.2 ++ zeros 8

/-- The two signatures over a message in a context, 96 and 3,309 bytes. -/
def signPair (s : State) (context : Nat) (body : List Byte) : List Byte × List Byte :=
  (beBytes 96 (Config.signEc (s.slotKey 13) context [leNat body] s.fresh).toNat, padTo 3309 (Config.signPq (s.slotKey 14) context [leNat body] s.fresh))

/-- The seal, 3,616 bytes. -/
def sealBytes (s : State) (j : SealJob) : List Byte :=
  let b := sealBody s j
  if finalKind s j = 4 then b ++ zeros 3408
  else let (ec, pq) := signPair s sealContext b; b ++ ec ++ pq ++ zeros 3

/-- TALLY_BACKUP: the group TALLY_1, TALLY_2 of the Cellar record. -/
def State.tallyBackup (s : State) : State :=
  match s.ldg.head with
  | none => s
  | some (seq, stamp, _) =>
    s.celWrite2 0x30 0x31 (leBytes 8 seq ++ leBytes 4 (s.ldg.chain.getD 0) ++ s.ldg.headMeter.take 16 ++ (s.ldg.headMeter.drop 48).take 16) (s.ldg.headModes ++ leBytes 8 stamp)

/-- SEAL_COMPLETE: the oldest seal asked for is signed and stored; a worker sends the two halves of its digest (R486). -/
def State.sealComplete (s : State) : State :=
  match s.ldg.jobs with
  | [] => s
  | j :: rest =>
    let b := sealBytes s j
    let h := Config.sha384 b
    let n := s.ldg.sealSeq
    let signed := finalKind s j != 4
    let ids := if signed then (keyId (s.publicOf 13), keyId (s.publicOf 14)) else s.ldg.keyIds
    let hb := hashBytes h
    let frames := [leBytes 1 2 ++ zeros 7 ++ leBytes 8 n ++ hb.take 40, leBytes 1 3 ++ zeros 7 ++ leBytes 8 n ++ hb.drop 40]
    let s1 : State := { s with
      fresh := s.fresh + 1,
      ldg := { s.ldg with jobs := rest, sealSeq := n + 1, sealHash := h, sealAt := s.now, keyIds := ids },
      asm := { s.asm with digests := if s.fget f_ASM_STATUS_ROLE = 2 then s.asm.digests ++ frames else s.asm.digests } }
    let s2 := ((s1.sendSeal n b).ledgerWrite (0x04DC0000 + n % 64 * 0x1000) true b).fputs [(f_LDG_STATUS_SEALING, flag !rest.isEmpty)]
    let s3 := ((s2.put64 r_LDG_SEAL_SEQ_LO r_LDG_SEAL_SEQ_HI n).raise f_LDG_IRQ_SEALED).arcAdd [⟨3, j.head, b, h⟩]
    let s4 := if j.due < s.now then (s3.bump f_LDG_SEAL_LATE_COUNT).raise f_LDG_IRQ_SEAL_LATE else s3
    let s5 := s4.tallyBackup
    match j.req with
    | some (r, op) => s5.reply r op OK []
    | none => s5

/-! ### Continuing the chain (R221, R222) -/

/-- Slots of the tally log that hold anything. -/
def tallySlots (s : State) : List Nat :=
  ((s.mem.filter (fun (k, _) => decide (0x04E00000 ≤ k ∧ k < 0x05000000))).map (fun (k, _) => (k - 0x04E00000) / 256)).eraseDups

/-- A record with a correct CRC and the current CHAIN_ID. -/
def tallyValid (s : State) (chain n : Nat) : Bool :=
  let a := 0x04E00000 + 256 * n
  s.peekN (a + 252) 4 == crc32c (s.peek a 252) && s.peekN (a + 176) 4 == chain

/-- The newest valid record: its slot and HEAD_SEQ. -/
def newestTally (s : State) (chain : Nat) : Option (Nat × Nat) :=
  (tallySlots s).foldl (fun m n =>
    if tallyValid s chain n then
      let q := s.peekN (0x04E00000 + 256 * n) 8
      match m with | some (_, p) => if p < q then some (n, q) else m | none => some (n, q)
    else m) none

/-- The bytes of the archive's copy of a block. -/
def archivedBlock (s : State) (seq : Nat) : Option (List Byte) :=
  ((at! s.ldg.arc.logs 0 emptyLog).entries.reverse.findSome? (fun e =>
    let b := s.load (0x60000000 + e.addr + 16) (e.len - 20)
    let len := leNat ((b.drop 96).take 4)
    if e.type = 1 ∧ leNat ((b.drop 8).take 8) = seq then some (b.take len) else none))

/-- The ten registers and MODE_SECS of a block's METER and PACK sections. -/
def blockMeter (b : List Byte) : List Byte := (b.drop 120).take 128
def blockModes (b : List Byte) : List Byte := (b.drop 256).take 24

/-- The chain goes on from a head; records emitted since the start belong to its open block (R208). -/
def State.continueFrom (s : State) (seq stamp : Nat) (h : BitVec 384) (meter modes : List Byte) (bflags : Nat) : State :=
  let ticks := (List.range 6).map (fun m => leNat ((modes.drop (4 * m)).take 4) * ticksPerS)
  let s1 : State := { s with
    ldg := { s.ldg with seq := seq + 1, from_ := stamp, counted := s.now, prev := h, bflags := bflags, head := some (seq, stamp, h), headMeter := padTo 128 meter,
                        headModes := modes, modeTicks := setAt ticks 5 (at! ticks 5 0 + (s.now - stamp)), modes := [(s.now, s.mode)], lcs := [(0, s.lc)], ends := [],
                        closed := [], corrs := [], base := (s.ldg.late, s.ldg.missed), expired := s.fget f_ALM_STATUS_EXPIRED } }
  ((s1.put64 r_LDG_HEAD_SEQ_LO r_LDG_HEAD_SEQ_HI seq).put64 r_LDG_HEAD_STAMP_LO r_LDG_HEAD_STAMP_HI stamp).put64 r_LDG_SEAL_SEQ_LO r_LDG_SEAL_SEQ_HI (s1.ldg.sealSeq - 1)

/-- Blocks that a power loss kept from the archive leave a gap entry (R227): those after the newest that was written, or that a gap entry on the device
covers. -/
def State.powerGap (s : State) (seq : Nat) (h : BitVec 384) : State :=
  let n := s.ldg.arc.lastBlock
  if n ≤ seq then
    (State.bumpBy { s with ldg := { s.ldg with gap := true } } f_LDG_ARC_LOST_COUNT (seq + 1 - n)).arcAdd [gapItem n seq h 0]
  else s

/-- CUSTODY_CONTINUITY_LOSS: no block, and EN stays 0. -/
def State.loseCustody (s : State) : State :=
  (State.fput { s with life := { s.life with custodyLost := true } } f_LDG_CTRL_EN 0).enterQuarantine 6 0

/-- The hash that 48 bytes spell. -/
def hashOf (bs : List Byte) : BitVec 384 := BitVec.ofNat 384 (beNat bs)

/-- A genesis block still owed begins: after a restart, the time before EN counts in MODE_SECS[5] alone (R221, R230). -/
def State.beginGenesis (s : State) : State :=
  let g := s.ldg
  let ticks := if bit g.bflags 1 then setAt g.modeTicks 5 (at! g.modeTicks 5 0 + (s.now - g.from_)) else g.modeTicks
  { s with ldg := { g with counted := s.now, modes := [(s.now, s.mode)], lcs := [(0, s.lc)], modeTicks := ticks } }

/-- The chain goes on from the tally record in slot `n` (R221). -/
def State.continueFromTally (s : State) (n seq : Nat) : State :=
  let a := 0x04E00000 + 256 * n
  let h := hashOf (s.peek (a + 16) 48)
  let s1 := s.continueFrom seq (s.peekN (a + 8) 8) h (s.peek (a + 64) 88) (s.peek (a + 152) 24) 2
  State.powerGap { s1 with ldg := { s1.ldg with tallySlot := (n + 1) % 8192 } } seq h

/-- The chain goes on from the Cellar backup and the archive's copy `k` of its head (R222). -/
def State.continueFromBackup (s : State) (seq : Nat) (k : List Byte) : State :=
  let b := s.cel.tally
  (s.continueFrom seq (leNat ((b.drop 68).take 8)) (Config.sha384 k) (blockMeter k) ((b.drop 44).take 24) 18).powerGap seq (Config.sha384 k)

/-- EN is set: the genesis block of a chain that has none yet begins; else the chain continues from the newest tally record, or from the Cellar
backup and the archive's copy of its head. -/
def State.ledgerEnable (s : State) : State :=
  match s.ldg.chain with
  | none => s
  | some chain =>
    if s.ldg.ended then s
    else if s.ldg.head.isNone ∧ bit s.ldg.bflags 0 then s.beginGenesis.noteEvidence
    else
      let rec_ := newestTally s chain
      let b := s.cel.tally
      let bSeq := leNat (b.take 8)
      let hasB := leNat ((b.drop 8).take 4) == chain && b != zeros 100
      let newer := hasB && (match rec_ with | some (_, q) => decide (q < bSeq) | none => true)
      if newer then
        match archivedBlock s bSeq with
        | some k => (s.continueFromBackup bSeq k).noteEvidence
        | none => s.loseCustody
      else match rec_ with
        | some (n, q) => (s.continueFromTally n q).noteEvidence
        | none => s.loseCustody

/-- A transition needs the ledger while EN is 0: the part sets EN itself, and loads MER_BASE from the head as R221 asks of firmware while the meter
does not run (log entry 59). -/
def State.resumeLedger (s : State) : State :=
  if s.isSet f_LDG_CTRL_EN || s.ldg.chain.isNone || s.ldg.ended || s.life.custodyLost then s
  else
    let s1 := (s.fput f_LDG_CTRL_EN 1).ledgerEnable
    if s1.isSet f_MER_CTRL_EN || s1.ldg.head.isNone then s1
    else (List.range 10).foldl (fun t j => t.put64 (r_MER_BASE_LO j) (r_MER_BASE_HI j) (leNat ((s1.ldg.headMeter.drop (8 * j)).take 8))) s1

/-- ARC_STATE follows ARC_EN and the device: 0 off, 1 running, 2 fault. -/
def State.putArcState (s : State) (n : Nat) : State :=
  let was := s.fget f_LDG_STATUS_ARC_STATE
  let s1 := s.fput f_LDG_STATUS_ARC_STATE n
  (if (was = 2) ≠ (n = 2) then s1.raise f_LDG_IRQ_ARC_FAULT else s1).putHoldq

/-- LDG_CTRL is written. While custody continuity is lost, EN stays 0 (R222). -/
def State.ledgerControl (s : State) (v : Nat) : State :=
  let was := s.isSet f_LDG_CTRL_EN
  let arcWas := s.isSet f_LDG_CTRL_ARC_EN
  let s1 := s.writeWord r_LDG_CTRL v
  let arcIs := s1.isSet f_LDG_CTRL_ARC_EN
  let s2 := if arcIs == arcWas then s1
    else if arcIs then (s1.setArc { s1.ldg.arc with last := s1.now }).putArcState (if s1.ldg.arc.size = 0 then 2 else 1)
    else s1.putArcState 0
  if s2.life.custodyLost then s2.fput f_LDG_CTRL_EN 0
  else if !was && s2.isSet f_LDG_CTRL_EN then s2.ledgerEnable else s2

def execLedgerEnable (w : Wr) (s : State) : Out := done (guarded s w r_LDG_CTRL fun t => t.ledgerControl w.value)

/-! ### The archive (R223–R227) -/

def unitBytes (a : ArcState) : Nat := 2 ^ a.ulog

/-- The three logs of a device in proportion. -/
def layout (mib ulog : Nat) (sh : Nat × Nat × Nat) : List ArcLog :=
  let n := mib * 2 ^ 20 / 2 ^ ulog - 2
  let e := n * sh.2.1 / 16
  let l := n * sh.2.2 / 16
  let b := n - e - l
  [⟨2, b, 0, 0, 0, []⟩, ⟨2 + b, e, 0, 0, 0, []⟩, ⟨2 + b + e, l, 0, 0, 0, []⟩]

/-- The archive header (R224). -/
def archiveHeader (a : ArcState) : List Byte :=
  let lg (i : Nat) : List Byte := let l := at! a.logs i emptyLog; leBytes 4 l.first ++ leBytes 4 l.units
  let b := leBytes 4 0x48415A44 ++ leBytes 2 1 ++ leBytes 2 a.ulog ++ leBytes 8 a.hseq ++ leBytes 8 a.serial ++ leBytes 4 a.chain ++
    leBytes 4 (a.size * 2 ^ 20 / 2 ^ a.ulog) ++ lg 0 ++ lg 1 ++ lg 2 ++ leBytes 2 a.bad.length ++ zeros 6 ++
    ((List.range 64).flatMap (fun i => leBytes 4 (at! a.bad i 0xFFFFFFFF))) ++ zeros 188
  b ++ leBytes 4 (crc32c b)

/-- Cells of the device read as erased. -/
def State.arcBlank (s : State) (addr n : Nat) : State :=
  { s with mem := Sparse.drop (fun k => decide (0x60000000 + addr ≤ k ∧ k < 0x60000000 + addr + n)) s.mem }

/-- The header is rewritten into the other of units 0 and 1. -/
def State.writeHeader (s : State) : State :=
  let a := { s.ldg.arc with hseq := s.ldg.arc.hseq + 1, serial := Config.serial.toNat, chain := s.ldg.chain.getD 0 }
  let addr := a.hseq % 2 * unitBytes a
  ((s.arcBlank addr (unitBytes a)).store (0x60000000 + addr) (archiveHeader a)).setArc a |>.fput f_LDG_STATUS_NBAD a.bad.length

/-- LDG_ARC_CFG. -/
def State.putArcCfg (s : State) : State :=
  let a := s.ldg.arc
  s.fputs [(f_LDG_ARC_CFG_SIZE, a.size), (f_LDG_ARC_CFG_ULOG, flag (a.ulog == 16)), (f_LDG_ARC_CFG_BLOCK, a.shares.1), (f_LDG_ARC_CFG_EVENT, a.shares.2.1),
    (f_LDG_ARC_CFG_SEAL, a.shares.2.2)]

/-- The unacknowledged share of a log, in %. -/
def fillShare (a : ArcState) (l : ArcLog) : Nat :=
  if l.units = 0 then 0 else min 100 ((l.entries.filter (fun e => decide (l.ack ≤ e.lseq))).foldl (fun m e => m + e.len) 0 * 100 / (l.units * unitBytes a))

def State.putFill (s : State) : State :=
  let a := s.ldg.arc
  let f (i : Nat) : Nat := fillShare a (at! a.logs i emptyLog)
  let full := (decide (s.fget f_LDG_ARC_FILL_BLOCK < 75 ∧ 75 ≤ f 0)) || decide (s.fget f_LDG_ARC_FILL_EVENT < 75 ∧ 75 ≤ f 1) || decide (s.fget f_LDG_ARC_FILL_SEAL < 75 ∧ 75 ≤ f 2)
  let s1 := s.fputs [(f_LDG_ARC_FILL_BLOCK, f 0), (f_LDG_ARC_FILL_EVENT, f 1), (f_LDG_ARC_FILL_SEAL, f 2)]
  if full then s1.raise f_LDG_IRQ_OFFLOAD else s1

/-- First use, or LEDGER.SET_ARCHIVE: the device is erased and formatted. -/
def State.formatArchive (s : State) (mib ulog : Nat) (sh : Nat × Nat × Nat) : State :=
  let a : ArcState := { s.ldg.arc with size := mib, ulog := ulog, shares := sh, logs := layout mib ulog sh, bad := [], failed := [] }
  ((((s.setArc a).arcBlank 0 (mib * 2 ^ 20)).writeHeader).putArcCfg).putFill

/-- A position where `n` bytes fit: before the log's end and clear of bad units. -/
def placeEntry' (a : ArcState) (l : ArcLog) (n : Nat) : Nat → Nat → Nat
  | 0, pos => pos
  | f + 1, pos =>
    let u := unitBytes a
    if l.units * u < pos + n then placeEntry' a l n f 0
    else match (a.bad.filter (fun b => decide (l.first ≤ b ∧ b < l.first + l.units))).find? (fun b => decide (pos < (b - l.first + 1) * u ∧ (b - l.first) * u < pos + n)) with
      | some b => placeEntry' a l n f ((b - l.first + 1) * u)
      | none => pos

/-- Units that a write of `n` bytes at `pos` enters. -/
def entered (u pos n : Nat) : List Nat := (List.range ((pos + n + u - 1) / u)).filter (fun i => decide (pos ≤ i * u))

def logOf (type : Nat) : Nat := if type = 3 then 2 else if type = 2 ∨ type = 5 then 1 else 0

/-- The bytes of an entry. -/
def entryBytes (it : ArcItem) (lseq : Nat) : List Byte :=
  let b := leBytes 2 0xA55A ++ leBytes 1 it.type ++ zeros 1 ++ leBytes 4 it.body.length ++ leBytes 8 lseq ++ it.body
  let c := b ++ leBytes 4 (crc32c b)
  c ++ List.replicate (entryLen it.body.length - c.length) 0xFF

/-- The front entry is written and read back. -/
def State.arcWrite (s : State) (it : ArcItem) (rest : List ArcItem) : State :=
  let a := s.ldg.arc
  let i := logOf it.type
  let l := at! a.logs i emptyLog
  let n := entryLen it.body.length
  let u := unitBytes a
  let pos := placeEntry' a l n 70 l.pos
  let es := entered u pos n
  let base := l.first * u
  let gone (e : ArcEntry) : Bool := es.any (fun k => decide (e.addr < base + (k + 1) * u ∧ base + k * u < e.addr + e.len))
  let lost := (l.entries.filter (fun e => gone e && decide (l.ack ≤ e.lseq))).length
  let s1 := es.foldl (fun t k => t.arcBlank (base + k * u) u) s
  let s2 := s1.store (0x60000000 + base + pos) (entryBytes it l.next)
  let l1 : ArcLog := { l with pos := pos + n, next := l.next + 1, entries := l.entries.filter (fun e => !gone e) ++ [⟨l.next, it.type, base + pos, n⟩] }
  let last := if it.type = 1 then it.seq + 1 else if it.type = 4 then gapLast it + 1 else a.lastBlock
  let s3 := (s2.setArc { a with logs := setAt a.logs i l1, queue := rest, last := s.now, lastBlock := last }).putHoldq
  let s4 := if lost = 0 then s3 else (s3.bumpBy f_LDG_ARC_OVERWRITTEN_COUNT lost).raise f_LDG_IRQ_OVERWRITE
  (if it.type = 4 then s4.raise f_LDG_IRQ_GAP else s4).putFill

/-- A failed program or read-back: the rest of the unit is abandoned; a unit that fails twice is bad. -/
def State.arcFail (s : State) (it : ArcItem) : State :=
  let a := s.ldg.arc
  let i := logOf it.type
  let l := at! a.logs i emptyLog
  let u := unitBytes a
  let pos := placeEntry' a l (entryLen it.body.length) 70 l.pos
  let unit := l.first + pos / u
  let s1 := s.setArc { a with logs := setAt a.logs i { l with pos := (pos / u + 1) * u }, failed := unit :: a.failed }
  if a.failed.contains unit then
    if 64 ≤ a.bad.length then s1.putArcState 2
    else (s1.setArc { s1.ldg.arc with bad := a.bad ++ [unit] }).writeHeader
  else s1

/-- ARCHIVE_ENTRY_WRITE. -/
def execArchiveEntryWrite (at_ : Nat) (ok : Bool) (s : State) : Out :=
  let t := s.at at_
  done (if arcRunning t then
    (match t.ldg.arc.queue with | it :: rest => if ok then t.arcWrite it rest else t.arcFail it | [] => t) else t)

/-- ARCHIVE_FAULT: no entry has been written for 10 s. -/
def execArchiveFault (at_ : Nat) (s : State) : Out :=
  let t := s.at at_
  done (if arcRunning t ∧ !t.ldg.arc.queue.isEmpty ∧ t.ldg.arc.last + 10 * ticksPerS ≤ t.now then t.putArcState 2 else t)

/-! ### What the device holds (R224, R225) -/

/-- A header with its CRC, at a unit. -/
def headerAt (s : State) (addr : Nat) : Option (List Byte) :=
  let b := s.load (0x60000000 + addr) 512
  if leNat (b.take 4) = 0x48415A44 ∧ leNat (b.drop 508) = crc32c (b.take 508) then some b else none

def headerSeq (b : List Byte) : Nat := leNat ((b.drop 8).take 8)

/-- The current header: of units 0 and 1, the copy with the higher HSEQ and a correct CRC. -/
def currentHeader (s : State) (ulog : Nat) : Option (List Byte) :=
  match headerAt s 0, headerAt s (2 ^ ulog) with
  | some a, some b => some (if headerSeq a < headerSeq b then b else a)
  | some a, none => some a
  | none, b => b

/-- A whole entry at an address, within `limit` bytes: TYPE, its length, and LSEQ. -/
def entryAt (s : State) (addr limit : Nat) : Option (Nat × Nat × Nat) :=
  let h := s.load (0x60000000 + addr) 16
  let n := leNat ((h.drop 4).take 4)
  if leNat (h.take 2) = 0xA55A ∧ entryLen n ≤ limit ∧ s.loadN (0x60000000 + addr + 16 + n) 4 = crc32c (s.load (0x60000000 + addr) (16 + n)) then
    some (leNat ((h.drop 2).take 1), entryLen n, leNat (h.drop 8))
  else none

/-- The entries of the newest lap of a log from `pos` on, and where it ends: at the first entry with MARK erased or a bad CRC. A unit whose rest was
abandoned is stepped over when the next one holds the entry that follows (R227). -/
def walkLog (s : State) (a : ArcState) (l : ArcLog) : Nat → Nat → Option Nat → List ArcEntry × Nat
  | 0, pos, _ => ([], pos)
  | n + 1, pos, want =>
    let u := unitBytes a
    let base := l.first * u
    let try_ (p : Nat) : Option (Nat × ArcEntry) :=
      if l.units * u ≤ p then none
      else match entryAt s (base + p) (l.units * u - p) with
        | some (ty, len, q) => if want.isNone ∨ want = some q then some (p, ⟨q, ty, base + p, len⟩) else none
        | none => none
    let next := (pos / u + 1) * u
    match (try_ pos).or (if want.isSome then try_ (placeEntry' a l 32 70 next) else none) with
    | some (p, e) =>
      let (es, fin) := walkLog s a l n (placeEntry' a l 32 70 (p + e.len)) (some (e.lseq + 1))
      (e :: es, fin)
    | none => ([], pos)

def insertEntry (e : ArcEntry) : List ArcEntry → List ArcEntry
  | [] => [e]
  | f :: t => if e.lseq < f.lseq then e :: f :: t else f :: insertEntry e t

/-- A log as the device holds it: the newest lap, and what is left of the lap before beyond its end. -/
def scanLog (s : State) (a : ArcState) (l : ArcLog) : ArcLog :=
  let u := unitBytes a
  let base := l.first * u
  let keys := (s.mem.filter (fun (k, b) => decide (0x60000000 + base ≤ k ∧ k < 0x60000000 + base + l.units * u) && b == 0x5A#8 && k % 16 == 0)).map (fun p => p.1 - 0x60000000 - base)
  let (es, fin) := walkLog s a l (keys.length + 1) (placeEntry' a l 32 70 0) none
  let first := (es.head?.map (·.lseq)).getD 0
  let old := keys.filterMap (fun p =>
    if fin ≤ p then (match entryAt s (base + p) (l.units * u - p) with | some (ty, len, q) => if q < first then some (⟨q, ty, base + p, len⟩ : ArcEntry) else none | none => none)
    else none)
  { l with pos := fin, next := ((es.getLast?).map (·.lseq + 1)).getD l.next, entries := old.foldl (fun m e => insertEntry e m) [] ++ es }

/-- SEQ + 1 of the newest block of the chain that the block log holds or covers by a gap entry. -/
def archivedTo (s : State) (l : ArcLog) (old : Nat) : Nat :=
  l.entries.foldl (fun m e =>
    let b := s.load (0x60000000 + e.addr + 16) 104
    if e.type = 1 ∧ some (leNat ((b.drop 100).take 4)) = s.ldg.chain then max m (leNat ((b.drop 8).take 8) + 1) else m) old

/-- The share that a log of `n` of `all` units has, in sixteenths. -/
def shareOf (all n : Nat) : Nat := if all = 0 then 0 else (16 * n + all - 1) / all

/-- The device's header and logs are taken (R224, R225): geometry, bad units, and the end of each log. What the host has acknowledged stays known
while the device is the same (log entry 98). -/
def State.adoptArchive (s : State) (b : List Byte) (same : Bool) : State :=
  let f (o n : Nat) : Nat := leNat ((b.drop o).take n)
  let ulog := f 6 2
  let old := s.ldg.arc
  let lg (i : Nat) : ArcLog :=
    let o := at! old.logs i emptyLog
    ⟨f (32 + 8 * i) 4, f (36 + 8 * i) 4, 0, if same then o.next else 0, if same then o.ack else 0, []⟩
  let n := (lg 0).units + (lg 1).units + (lg 2).units
  let e := shareOf n (lg 1).units
  let l := shareOf n (lg 2).units
  let a : ArcState := { old with
    size := f 28 4 * 2 ^ ulog / 2 ^ 20, ulog := ulog, hseq := f 8 8, serial := f 16 8, chain := f 24 4, shares := (16 - e - l, e, l),
    bad := (List.range (min 64 (f 56 2))).map (fun i => f (64 + 4 * i) 4), failed := if same then old.failed else [], logs := [lg 0, lg 1, lg 2] }
  let logs := a.logs.map (scanLog s a)
  let s1 := s.setArc { a with logs := logs, lastBlock := archivedTo s (at! logs 0 emptyLog) old.lastBlock }
  (s1.putArcCfg.fput f_LDG_STATUS_NBAD a.bad.length).putFill

/-- Discovery of the device, at power-up and every 10 s in fault (R223): `mib` its capacity (0: no SFDP) and its erase unit. A device without a header
is formatted. -/
def State.arcRetry (s : State) (mib : Nat) (unit64 same : Bool) : State :=
  let size := if mib < 32 then 0 else min mib 256
  let ulog := if unit64 then 16 else 12
  if size = 0 then
    let s1 := s.setArc { s.ldg.arc with size := 0 }
    if s1.isSet f_LDG_CTRL_ARC_EN then s1.putArcState 2 else s1
  else
    let s1 := match currentHeader s ulog with
      | some b => s.adoptArchive b same
      | none => State.formatArchive (s.setArc { s.ldg.arc with hseq := 0 }) size ulog (12, 2, 2)
    let s2 := s1.setArc { s1.ldg.arc with last := s1.now }
    if s2.isSet f_LDG_CTRL_ARC_EN then s2.putArcState 1 else s2

/-- Another device has been fitted: its cells. -/
def State.fitDevice (s : State) (pieces : Pieces) : State :=
  pieces.foldl (fun t (a, b) => if a + b.length ≤ 2 ^ 28 then t.store (0x60000000 + a) b else t) (s.arcBlank 0 (2 ^ 28))

/-! ### Commands (R234) -/

/-- LEDGER.SEAL_NOW: the reply follows the seal. -/
def execLedgerSealNow (r : Req) (s : State) : Out :=
  done (runCmd s r 0x0701 (fun l => decide (1 ≤ l ∧ l ≤ 3))
    (fun t => [need (t.ldg.jobs.isEmpty && t.ldg.head.isSome && (t.ldg.sealAt == never || decide (t.ldg.sealAt + ticksPerS ≤ t.now))) E_BUSY])
    (fun t => (t.askSeal 1 0 (t.now + 2 * ticksPerS) (some (r, 0x0701)), none)))

def execLedgerReadHead (r : Req) (s : State) : Out :=
  done (runCmd s r 0x0702 anyLc (fun _ => []) (readEff fun t => match t.ldg.head with
    | some (seq, stamp, h) => leBytes 8 seq ++ leBytes 8 stamp ++ hashBytes h ++ leBytes 4 (t.ldg.chain.getD 0) ++ leBytes 8 (t.ldg.sealSeq - 1)
    | none => zeros 76))

/-- The seal store's copies of a range of seals. -/
def execLedgerReadSeals (r : Req) (first last : Nat) (s : State) : Out :=
  done (runCmd s r 0x0703 anyLc
    (fun t => [need (decide (t.ldg.sealSeq ≤ first + 64)) (blame E_PARAM_RANGE 0x0100),
               need (decide (first ≤ last ∧ last < t.ldg.sealSeq)) (blame E_PARAM_RANGE 0x0101)])
    (fun t =>
      let at_ (i : Nat) : Nat := 0x04DC0000 + (first + i) % 64 * 0x1000
      let is := List.range (last + 1 - first)
      (is.foldl (fun u i => (u.checkRead (at_ i) 3616).1) t, some (OK, is.flatMap (fun i => t.peek (at_ i) 3616)))))

/-- Whole entries from an LSEQ on, up to a size. -/
def takeEntries (s : State) : List ArcEntry → Nat → List Byte
  | [], _ => []
  | e :: t, n => if e.len ≤ n then s.load (0x60000000 + e.addr) e.len ++ takeEntries s t (n - e.len) else []

def execLedgerReadArchive (r : Req) (log first size : Nat) (s : State) : Out :=
  done (runCmd s r 0x0704 anyLc
    (fun t => [need (decide (log < 3)) (blame E_PARAM_RANGE 0x0100),
               need (match (at! t.ldg.arc.logs log emptyLog).entries.head? with | some e => decide (e.lseq ≤ first) | none => decide ((at! t.ldg.arc.logs log emptyLog).next ≤ first)) (blame E_PARAM_RANGE 0x0101),
               need (decide (size ≤ 61440)) (blame E_PARAM_RANGE 0x0102)])
    (readEff fun t => takeEntries t ((at! t.ldg.arc.logs log emptyLog).entries.filter (fun e => decide (first ≤ e.lseq))) size))

def execLedgerAckOffload (r : Req) (log lseq : Nat) (s : State) : Out :=
  done (runCmd s r 0x0705 anyLc
    (fun t => [need (decide (log < 3)) (blame E_PARAM_RANGE 0x0100), need (decide (lseq < (at! t.ldg.arc.logs log emptyLog).next)) (blame E_PARAM_RANGE 0x0101)])
    (okEff fun t =>
      let l := at! t.ldg.arc.logs log emptyLog
      (t.setArc { t.ldg.arc with logs := setAt t.ldg.arc.logs log { l with ack := max l.ack (lseq + 1) } }).putFill))

def execLedgerSetArchive (r : Req) (blocks events seals : Nat) (s : State) : Out :=
  done (runCmd s r 0x0706 anyLc
    (fun t => [need (t.mode == 2 || t.mode == 3) E_MODE, need (decide (1 ≤ blocks)) (blame E_PARAM_RANGE 0x0100), need (decide (1 ≤ events)) (blame E_PARAM_RANGE 0x0101), need (decide (1 ≤ seals)) (blame E_PARAM_RANGE 0x0102),
               need (blocks + events + seals == 16) E_PARAM_RANGE,
               need (t.ldg.arc.logs.all (fun l => l.entries.all (fun e => decide (e.lseq < l.ack)))) E_PARAM_CONFLICT])
    (okEff fun t => if t.ldg.arc.size = 0 then t.setArc { t.ldg.arc with shares := (blocks, events, seals) }
      else t.formatArchive t.ldg.arc.size t.ldg.arc.ulog (blocks, events, seals)))

/-- LEASE.READ_TALLIES: E_IN, E_OUT, WWE_IN, WWE_OUT and MODE_SECS of the head. -/
def execLeaseReadTallies (r : Req) (s : State) : Out :=
  done (runCmd s r 0x0707 anyLc (fun _ => []) (readEff fun t => t.ldg.headMeter.take 16 ++ (t.ldg.headMeter.drop 48).take 16 ++ t.ldg.headModes))

/-! ### Handover (R231, R232) -/

def handoverContext : Nat := 4

/-- The statement. -/
def handoverBytes (s : State) (nonce : Nat) (newRoot : BitVec 384) (expiry : Nat) : List Byte :=
  let (seq, h) := match s.ldg.head with | some (q, _, h) => (q, h) | none => (0, 0)
  leBytes 4 0x4F485A44 ++ leBytes 1 1 ++ zeros 3 ++ leBytes 4 (s.ldg.chain.getD 0) ++ zeros 4 ++ leBytes 8 Config.serial.toNat ++ leBytes 8 seq ++ hashBytes h ++
  s.ldg.headMeter.take 16 ++ (s.ldg.headMeter.drop 48).take 16 ++ s.ldg.headModes ++ leBytes 16 nonce ++ hashBytes (s.ownerRoot.getD 0) ++ hashBytes newRoot ++ leBytes 8 expiry

/-- LEDGER.HANDOVER_PREPARE: in Depot, on a Leased part; a later preparation replaces this one. -/
def execLedgerHandoverPrepare (r : Req) (newRoot : Nat) (s : State) : Out :=
  done (runCmd s r 0x0708 (fun l => l == 2)
    (fun t => [need (t.mode == 2) E_MODE, need (decide (newRoot < 2 ^ 384)) (blame E_PARAM_RANGE 0x0100), need (!t.evidenceNow) E_KEY_EMPTY])
    (fun t =>
      let nonce := t.draw 128
      let root := BitVec.ofNat 384 newRoot
      let expiry := t.now + 600 * ticksPerS
      let hs := handoverBytes t nonce root expiry
      let t1 := t.drawn
      let (ec, pq) := signPair t1 handoverContext hs
      let t2 : State := { t1.drawn with ldg := { t1.drawn.ldg with handover := some ⟨hs, nonce, root, expiry, ec, pq⟩ } }
      (t2.fput f_LDG_STATUS_HOPREP 1, some (OK, hs ++ ec ++ pq))))

end Sys2Proof.Machine
end

