-- ==== Sys2Proof/Machine/Moves.lean ====
section
/-!
DEFINITION. Machine/Moves.lean: the move set as one engine executes it (chapters 10 and 11, R237–R276): slots, ports, prefixes, latencies,
triggers, decode-class and execute-class causes. Ports carry their wide numbers; a lane's port p above T31 is the wide port p + 0x20 (R272).
-/
namespace Sys2Proof.Machine

/-! ### Instruction words (R239, R269) -/

/-- One slot, its ports in wide numbering. -/
structure Slot where
  ge  : Bool
  dst : Nat
  imm : Bool
  src : Nat
  nop : Bool     -- the slot value is 0
  deriving DecidableEq, Repr

/-- A lane port in wide numbering, and back. -/
def toWide (p : Nat) : Nat := if p < 0x20 then p else p + 0x20
def toLane (p : Nat) : Nat := if p < 0x40 then p else p - 0x20

def laneSlot (w : Nat) : Slot :=
  let imm := bit w 8
  let s := w % 256
  ⟨bit w 15, toWide (w / 2 ^ 9 % 64), imm, if imm then s else if s < 0x30 then toWide s else s + 0x1000, w == 0⟩

def wideSlot (w : Nat) : Slot := ⟨bit w 19, w / 2 ^ 11 % 256, bit w 10, w % 1024, w == 0⟩

/-- The slots of an instruction, slot 0 first. -/
def slotsOf (g : Eng) (w : Nat) : List Slot :=
  match g with
  | .lane _ => [laneSlot (w / 2 ^ 16 % 2 ^ 16), laneSlot (w % 2 ^ 16)]
  | _ => [wideSlot (w / 2 ^ 40 % 2 ^ 20), wideSlot (w / 2 ^ 20 % 2 ^ 20), wideSlot (w % 2 ^ 20)]

def slotCount : Eng → Nat
  | .lane _ => 2
  | _ => 3

/-- The word with slot `i` replaced. -/
def putSlotBits (g : Eng) (w i v : Nat) : Nat :=
  let n := match g with | .lane _ => 16 | _ => 20
  let lo := n * (slotCount g - 1 - i)
  w / 2 ^ (lo + n) * 2 ^ (lo + n) + v % 2 ^ n * 2 ^ lo + w % 2 ^ lo

/-- The slot value of a move to wide port `dst`. -/
def slotBits (g : Eng) (ge imm : Bool) (dst src : Nat) : Nat :=
  match g with
  | .lane _ => flag ge * 2 ^ 15 + toLane dst % 64 * 2 ^ 9 + flag imm * 2 ^ 8 + src % 256
  | _ => flag ge * 2 ^ 19 + dst % 256 * 2 ^ 11 + flag imm * 2 ^ 10 + src % 1024

/-- The instruction that a command's move stands in. -/
def Mv.wordTo (m : Mv) (dst : Nat) : Nat := putSlotBits m.eng m.word m.slot (slotBits m.eng m.ge m.imm dst m.src)
def Mv.wordSys (m : Mv) (v : Nat) : Nat := putSlotBits m.eng m.word m.slot (slotBits m.eng m.ge true 0x5E v)

/-! ### Results (R244–R248) -/

/-- The 72-bit accumulator from its three parts, and a part replaced. -/
def accPart (acc i : Nat) (v : Word) : Nat :=
  let lo := acc % 2 ^ 32
  let mid := acc / 2 ^ 32 % 2 ^ 32
  let hi := acc / 2 ^ 64 % 2 ^ 8
  match i with
  | 0 => v.toNat + mid * 2 ^ 32 + hi * 2 ^ 64
  | 1 => lo + v.toNat * 2 ^ 32 + hi * 2 ^ 64
  | _ => lo + mid * 2 ^ 32 + v.toNat % 256 * 2 ^ 64

/-- A result lands. -/
def Units.land (u : Units) : Landing → Units
  | .mac acc ov cm sh => { u with acc := acc, ov := ov, cm := cm, rndSh := sh, rnd := none, rndi := none }
  | .port p v => match p with
    | 0x40 => { u with aluR := v }
    | 0x41 => { u with shfR := v }
    | 0x42 => { u with acc := accPart u.acc 0 v }
    | 0x43 => { u with acc := accPart u.acc 1 v }
    | 0x44 => { u with acc := accPart u.acc 2 v }
    | 0x45 => { u with rnd := some v }
    | 0x46 => { u with rndi := some v }
    | 0x47 => { u with ov := v.getLsbD 0, cm := v.getLsbD 1 }
    | 0x48 => { u with lsuR := v }
    | 0x49 => { u with lsuP := v }
    | 0x4A => { u with g := v.getLsbD 0 }
    | 0x4B => { u with strR := v }
    | 0x4C => { u with strStat := v }
    | 0x4D => { u with link := v }
    | 0x4F => { u with icount := v.toNat }
    | 0x70 => { u with lswR := v }
    | 0x71 => { u with lswRef := v.getLsbD 0 }
    | _ => u

/-- One instruction's time passes: results due now land, in order of origin. -/
def Units.tick (u : Units) : Units :=
  let due := (u.flight.filter (fun f => decide (f.dist ≤ 1))).map (·.what)
  due.foldl Units.land { u with flight := (u.flight.filter (fun f => decide (1 < f.dist))).map (fun f => { f with dist := f.dist - 1 }) }

def Units.send (u : Units) (dist : Nat) (x : Landing) : Units := { u with flight := u.flight ++ [⟨dist, x⟩] }

/-- The accumulator that the next MAC trigger works on: that of the trigger before it, delivered or not. -/
def Units.macBase (u : Units) : Nat × Bool :=
  u.flight.foldl (fun b f => match f.what with | .mac a o _ _ => (a, o) | _ => b) (u.acc, u.ov)

def s32 (w : Word) : Int := w.toInt
def re16 (w : Word) : Int := signed 16 w.toNat
def im16 (w : Word) : Int := signed 16 (w.toNat / 2 ^ 16)
/-- An integer as a 32-bit word, and saturated to one. -/
def wordOf (i : Int) : Word := BitVec.ofInt 32 i
def sat32 (i : Int) : Word := BitVec.ofInt 32 (satS 32 i)

/-- Real mode: a sum in 72 bits and whether it leaves s72. -/
def macReal (base : Nat × Bool) (acc : Bool) (v b : Word) : Nat × Bool :=
  let sum : Int := (if acc then signed 72 base.1 else 0) + s32 v * s32 b
  (unsignedBits 72 sum, (acc && base.2) || decide (satS 72 sum ≠ sum))

/-- Complex mode: two sums in 36 bits. -/
def macComplex (base : Nat × Bool) (acc : Bool) (v b : Word) : Nat × Bool :=
  let re : Int := (if acc then signed 36 base.1 else 0) + (re16 v * re16 b - im16 v * im16 b)
  let im : Int := (if acc then signed 36 (base.1 / 2 ^ 36) else 0) + (re16 v * im16 b + im16 v * re16 b)
  (unsignedBits 36 re + unsignedBits 36 im * 2 ^ 36, (acc && base.2) || decide (satS 36 re ≠ re) || decide (satS 36 im ≠ im))

/-- Rounding of R123 by a SH of up to 63. -/
def rndAcc (a : Int) (s : Nat) : Word := sat32 (rnd a s)

def Units.rndValue (u : Units) : Word := u.rnd.getD (rndAcc (if u.cm then signed 36 u.acc else signed 72 u.acc) u.rndSh)
def Units.rndiValue (u : Units) : Word := u.rndi.getD (if u.cm then rndAcc (signed 36 (u.acc / 2 ^ 36)) u.rndSh else 0)

/-! ### Source ports (R243, R273) -/

def Units.reg (u : Units) (n : Nat) : Word := Sparse.get (fun _ => 0) u.t n
def Units.setReg (u : Units) (n : Nat) (v : Word) : Units := { u with t := Sparse.set (fun _ => (0 : Word)) u.t n v }

/-- BUS.S (R273). -/
def Units.busS (u : Units) : Word := BitVec.ofNat 32 (flag u.busDone + 2 * flag u.busErr + 4 * flag u.busColl)

/-- A source port that the engine itself holds; `id` is LANE or ID. -/
def Units.src (u : Units) (id : Word) (p : Nat) : Word :=
  if p < 0x40 then u.reg p
  else match p with
    | 0x40 => u.aluR
    | 0x41 => u.shfR
    | 0x42 => BitVec.ofNat 32 u.acc
    | 0x43 => BitVec.ofNat 32 (u.acc / 2 ^ 32)
    | 0x44 => wordOf (signed 8 (u.acc / 2 ^ 64))
    | 0x45 => u.rndValue
    | 0x46 => u.rndiValue
    | 0x47 => BitVec.ofNat 32 (flag u.ov + 2 * flag u.cm)
    | 0x48 => u.lsuR
    | 0x49 => u.lsuP
    | 0x4A => BitVec.ofNat 32 (flag u.g)
    | 0x4B => u.strR
    | 0x4C => u.strStat
    | 0x4D => u.link
    | 0x4E => id
    | 0x4F => BitVec.ofNat 32 u.icount
    | 0x50 => u.busR
    | 0x51 => u.busS
    | 0x70 => u.lswR
    | 0x71 => BitVec.ofNat 32 (flag u.lswRef)
    | _ => 0

/-- Whether a source port exists on an engine; `micro` inside a decode-table entry. -/
def srcOk (g : Eng) (micro : Bool) (p : Nat) : Bool :=
  match g with
  | .lane _ => decide (p < 0x20 ∨ (0x40 ≤ p ∧ p < 0x50))
  | .vce _ => decide (p < 0x4B) || (decide (0x4D ≤ p ∧ p ≤ 0x51)) || decide (0x70 ≤ p ∧ p ≤ 0x72) || (micro && p == 0x3FF)
  | .core _ => decide (p < 0x4B) || (decide (0x4D ≤ p ∧ p ≤ 0x51)) || decide (0x60 ≤ p ∧ p ≤ 0x67)

/-- Whether a destination port exists on an engine (R242, R272, R296). -/
def dstOk (g : Eng) (d : Nat) : Bool :=
  match g with
  | .lane _ => decide (d < 0x20 ∨ (0x40 ≤ d ∧ d ≤ 0x5E))
  | .vce _ => decide (d ≤ 0x5E ∧ d ≠ 0x5B) || decide (0x60 ≤ d ∧ d ≤ 0x62) || decide (0x70 ≤ d ∧ d ≤ 0x72) || decide (0xC0 ≤ d)
  | .core _ => decide (d ≤ 0x5E ∧ d ≠ 0x5B) || decide (0x60 ≤ d ∧ d ≤ 0x62) || decide (0x70 ≤ d ∧ d ≤ 0x77)

/-- The unit a trigger port belongs to; 0 for registers, operands and the crossing ports. -/
def unitOf (g : Eng) (d : Nat) : Nat :=
  if 0x41 ≤ d ∧ d ≤ 0x45 then 1
  else if 0x47 ≤ d ∧ d ≤ 0x49 then 2
  else if 0x4C ≤ d ∧ d ≤ 0x4F then 3
  else if 0x52 ≤ d ∧ d ≤ 0x54 then 4
  else if 0x56 ≤ d ∧ d ≤ 0x5A then 5
  else if d = 0x5B then 6
  else if d = 0x5C then 7
  else if d = 0x5E then 8
  else if d = 0x61 ∨ d = 0x62 then 9
  else match g with
    | .vce _ => if d = 0x71 ∨ d = 0x72 then 10 else if 0xC0 ≤ d then 11 else 0
    | .core _ => if d = 0x73 ∨ d = 0x74 then 12 else 0
    | _ => 0

/-- The crossing moves of a custody core (R298). -/
def crossing (g : Eng) (d : Nat) : Bool := match g with | .core _ => decide (0x70 ≤ d ∧ d ≤ 0x72) | _ => false

/-- The port number a DETAIL field shows. -/
def shownPort (g : Eng) (p : Nat) : Nat := match g with | .lane _ => if 0x1000 ≤ p then p - 0x1000 else toLane p | _ => p % 256

/-! ### The moves of an instruction (R240, R254, R255, R271) -/

/-- A move with its value: slot, destination, value, and whether its guard lets it take effect. -/
structure Move where
  slot : Nat
  dst  : Nat
  v    : Word
  act  : Bool
  deriving DecidableEq, Repr

/-- A trap: cause, slot and DETAIL. -/
structure Trap where
  cause  : Nat
  slot   : Nat
  detail : Nat
  deriving DecidableEq, Repr

/-- Bits of a LIMM byte, and the moves a chain may hold. -/
def limmBits : Eng → Nat
  | .lane _ => 8
  | _ => 10
def limmMax : Eng → Nat
  | .lane _ => 3
  | _ => 2

/-- What the slots leave: their moves, the prefix and its length, whether a LIMM is pending since this instruction, and the slot of a malformed
LIMM. -/
structure Parsed where
  moves : List Move
  pre   : Word
  preN  : Nat
  here  : Bool
  form  : Option Nat
  deriving DecidableEq, Repr

/-- One more slot. -/
def parseSlot (g : Eng) (val : Nat → Word) (guard : Bool) (p : Parsed) (i : Nat) (x : Slot) : Parsed :=
  let w := limmBits g
  let ext := p.pre * BitVec.ofNat 32 (2 ^ w) + BitVec.ofNat 32 (x.src % 2 ^ w)
  let act := !x.ge || guard
  if x.nop then p
  else if x.dst = 0x5D then
    if !x.imm || x.ge || limmMax g ≤ p.preN then { p with form := match p.form with | none => some i | f => f }
    else if p.preN = 0 then { p with pre := wordOf (signed w x.src), preN := 1, here := true }
    else { p with pre := ext, preN := p.preN + 1, here := true }
  else if x.imm && p.preN != 0 then { p with moves := p.moves ++ [⟨i, x.dst, ext, act⟩], pre := 0, preN := 0, here := false }
  else { p with moves := p.moves ++ [⟨i, x.dst, if x.imm then wordOf (signed w x.src) else val x.src, act⟩] }

def parseFrom (g : Eng) (val : Nat → Word) (guard : Bool) : List Slot → Nat → Parsed → Parsed
  | [], _, p => p
  | x :: t, i, p => parseFrom g val guard t (i + 1) (parseSlot g val guard p i x)

def parse (g : Eng) (u : Units) (val : Nat → Word) (slots : List Slot) : Parsed := parseFrom g val u.g slots 0 ⟨[], u.pre, u.preN, false, none⟩

/-! ### Decode-class causes (R249, R254, R255, R263, R264, R276, R305) -/

/-- The first repeated destination port, LIMM and no-operations apart. -/
def dstConflict : List Slot → Option Nat
  | [] => none
  | x :: t => if x.dst ≠ 0x5D ∧ !x.nop ∧ t.any (fun y => y.dst == x.dst && !y.nop) then some x.dst else dstConflict t

/-- The later port of two triggers of one unit. -/
def unitConflict (g : Eng) : List Slot → Option Nat
  | [] => none
  | x :: t => match (if unitOf g x.dst = 0 ∨ x.nop then none else t.find? (fun y => unitOf g y.dst == unitOf g x.dst && !y.nop)) with
    | some y => some y.dst
    | none => unitConflict g t

/-- Crossing moves that stand where they must not (R298). -/
def gateSlot (g : Eng) (u : Units) (slots : List Slot) : Bool :=
  let n := (slots.filter (fun x => crossing g x.dst)).length
  decide (1 < n) || (decide (0 < n) && (decide (0 < u.dslot) || slots.any (fun x => x.dst == 0x5C)))

/-- The decode causes of one slot. `priv` when the context may not name privileged ports. -/
def slotCause (g : Eng) (u : Units) (micro priv gslot : Bool) (p : Parsed) (i : Nat) (x : Slot) : Option Trap :=
  let sysOne := x.dst == 0x5E && (p.moves.find? (fun m => m.slot == i)).any (fun m => m.v == 1)
  if !dstOk g x.dst then some ⟨0x01, i, shownPort g x.dst⟩
  else if !x.imm && !srcOk g micro x.src then some ⟨0x02, i, shownPort g x.src⟩
  else if p.form = some i then some ⟨0x05, i, shownPort g 0x5D⟩
  else if 0xC0 ≤ x.dst ∧ 0 < u.dslot then some ⟨0x0D, i, x.dst⟩
  else if priv && ((match g with | .core _ => decide (0x72 ≤ x.dst ∧ x.dst ≤ 0x77) | _ => false) || sysOne) then some ⟨0x0E, i, x.dst⟩
  else if gslot && crossing g x.dst then some ⟨0x15, i, x.dst⟩
  else none

def slotCauses (g : Eng) (u : Units) (micro priv gslot : Bool) (p : Parsed) : List Slot → Nat → Option Trap
  | [], _ => none
  | x :: t, i => match slotCause g u micro priv gslot p i x with
    | some c => some c
    | none => slotCauses g u micro priv gslot p t (i + 1)

/-- The decode-class cause of an instruction. -/
def decodeCause (g : Eng) (u : Units) (micro priv : Bool) (fmt : Bool) (slots : List Slot) (p : Parsed) : Option Trap :=
  if !fmt then some ⟨0x07, 0, 0⟩
  else match dstConflict slots with
    | some d => some ⟨0x03, 0, shownPort g d⟩
    | none => match unitConflict g slots with
      | some d => some ⟨0x04, 0, shownPort g d⟩
      | none =>
        if p.preN ≠ 0 ∧ !p.here ∧ p.form.isNone then some ⟨0x06, 0, shownPort g 0x5D⟩
        else slotCauses g u micro priv (gateSlot g u slots) p slots 0

/-! ### Operands and triggers (R240–R247) -/

/-- A register or operand port takes its value. -/
def Units.operand (g : Eng) (u : Units) (m : Move) : Units :=
  if !m.act then u
  else if m.dst < 0x40 then u.setReg m.dst m.v
  else match m.dst with
    | 0x40 => { u with aluA := m.v }
    | 0x46 => { u with shfA := m.v }
    | 0x4A => { u with macB := m.v }
    | 0x4B => { u with macSh := m.v.toNat % 64 }
    | 0x50 => { u with lsuD := m.v }
    | 0x51 => { u with lsuP := m.v }
    | 0x55 => { u with cmpB := m.v }
    | 0x60 => { u with busD := m.v }
    | 0x70 => match g with | .core _ => u | _ => { u with lswD := m.v }
    | _ => u

/-- Latencies that differ by engine (R274). -/
def macLat : Eng → Nat
  | .core _ => 4
  | _ => 3
def lsuLat : Eng → Nat
  | .core _ => 5
  | _ => 3

def Units.macSend (u : Units) (g : Eng) (r : Nat × Bool) (cm : Bool) : Units := u.send (macLat g) (.mac r.1 r.2 cm u.macSh)

/-- The bytes of an instruction. -/
def instrBytes : Eng → Nat
  | .lane _ => 4
  | _ => 8

/-- A trigger of the units that need nothing outside the engine. -/
def Units.trigger (u : Units) (g : Eng) (m : Move) : Units :=
  let v := m.v
  let sh := u.shfA.toNat % 32
  match m.dst with
  | 0x41 => u.send 1 (.port 0x40 (u.aluA + v))
  | 0x42 => u.send 1 (.port 0x40 (u.aluA - v))
  | 0x43 => u.send 1 (.port 0x40 (u.aluA &&& v))
  | 0x44 => u.send 1 (.port 0x40 (u.aluA ||| v))
  | 0x45 => u.send 1 (.port 0x40 (u.aluA ^^^ v))
  | 0x47 => u.send 1 (.port 0x41 (v <<< sh))
  | 0x48 => u.send 1 (.port 0x41 (v >>> sh))
  | 0x49 => u.send 1 (.port 0x41 (v.sshiftRight sh))
  | 0x4C => u.macSend g (macReal u.macBase false v u.macB) false
  | 0x4D => u.macSend g (macReal u.macBase true v u.macB) false
  | 0x4E => u.macSend g (macComplex u.macBase false v u.macB) true
  | 0x4F => u.macSend g (macComplex u.macBase true v u.macB) true
  | 0x56 => u.send 1 (.port 0x4A (BitVec.ofNat 32 (flag (v == u.cmpB))))
  | 0x57 => u.send 1 (.port 0x4A (BitVec.ofNat 32 (flag (v != u.cmpB))))
  | 0x58 => u.send 1 (.port 0x4A (BitVec.ofNat 32 (flag (v.slt u.cmpB))))
  | 0x59 => u.send 1 (.port 0x4A (BitVec.ofNat 32 (flag (!v.slt u.cmpB))))
  | 0x5A => u.send 1 (.port 0x4A (BitVec.ofNat 32 (flag (v.ult u.cmpB))))
  | 0x5C => { u.send 1 (.port 0x4D (BitVec.ofNat 32 (u.pc + 3 * instrBytes g))) with target := v.toNat, dslot := 3 }
  | _ => u

/-- The program counter moves on: to the next instruction, or to the branch target after its last delay slot. A branch sets `dslot` to 3 in its
own instruction. -/
def Units.advance (u : Units) (g : Eng) : Units :=
  let u1 := { u with icount := (u.icount + 1) % 2 ^ 32 }
  if u1.dslot = 1 then { u1 with pc := u1.target, dslot := 0, target := 0 }
  else { u1 with pc := (u1.pc + instrBytes g) % 2 ^ 32, dslot := u1.dslot - 1 }

end Sys2Proof.Machine
end

