-- ==== Sys2Proof/Machine/Lanes.lean ====
section
/-!
DEFINITION. Machine/Lanes.lean: the lane engines (chapter 10) with the vats' part in them: memory accesses, the STREAM unit, traps and their
search, checkpoints and job changes (R250–R267, R280, R281, R284, R287, R288).
-/
namespace Sys2Proof.Machine

/-! ### Engines in the state -/

/-- The oldest instant held. -/
def oldestInstant (s : State) : Nat := s.alm.inst - 1023

/-- The node a stream starts an instant with. -/
def firstNode (src mask : Nat) : Nat := if src = 8 then 0 else ((List.range 16).find? (fun n => bit mask n)).getD 0

/-- The lane's cursor, moved to the first entry of the oldest instant held when its own has left the store, with OVERRUN (R259). -/
def cursor (s : State) (e : Nat) (l : LaneState) : LaneState :=
  if l.k < oldestInstant s then
    { l with k := oldestInstant s, node := firstNode (s.fget (f_LE_STR_CFG_SRC e)) (s.fget (f_LE_STR_CFG_MASK e)), overrun := true } else l

/-- A lane as it stands: whatever reads it finds its cursor in the store. -/
def State.lane (s : State) (e : Nat) : LaneState := cursor s e (Sparse.get (fun _ => LaneState.reset) s.eng.lanes e)
def State.putLane (s : State) (e : Nat) (l : LaneState) : State :=
  { s with eng := { s.eng with lanes := Sparse.set (fun _ => LaneState.reset) s.eng.lanes e l } }
def State.vat (s : State) (v : Nat) : VatState := Sparse.get (fun _ => VatState.reset) s.eng.vats v
def State.putVat (s : State) (v : Nat) (x : VatState) : State :=
  { s with eng := { s.eng with vats := Sparse.set (fun _ => VatState.reset) s.eng.vats v x } }
def State.thread (s : State) (w : Nat) : Thread := at! s.eng.threads w Thread.reset
def State.putThread (s : State) (w : Nat) (x : Thread) : State := { s with eng := { s.eng with threads := setAt s.eng.threads w x } }

/-- The world whose thread a pair runs: its home world's, or on a shared pair the running slice's (R312, R315). -/
def State.worldOn (s : State) (p : Nat) : Nat := if s.isSet f_CORE_STATUS_TSHARE then s.fget f_CORE_STATUS_SLICE else p

def State.units (s : State) : Eng → Units
  | .lane e => (s.lane e).u
  | .vce v => (s.vat v).u
  | .core p => (s.thread (s.worldOn p)).u

def State.putUnits (s : State) (g : Eng) (u : Units) : State :=
  match g with
  | .lane e => s.putLane e { s.lane e with u := u }
  | .vce v => s.putVat v { s.vat v with u := u }
  | .core p => s.putThread (s.worldOn p) { s.thread (s.worldOn p) with u := u }

/-- Initiator class of a context (R294). -/
def ctxClass (c : Nat) : Nat := at! [1, 1, 1, 2, 0, 1, 2, 3] c 0

/-- Pair 0 stops as by a trap in context 0 (R306): until a reset of the custody core domains. -/
def State.stopPair (s : State) (cause : Word) (ret : Nat) : State :=
  let w := s.worldOn 0
  ((s.putThread w { s.thread w with stopped := true, hold := none, cause := cause }).raise f_CORE_STATUS_R0FAIL).celWrite 0x23 false
    (leBytes 4 cause.toNat ++ leBytes 4 ret)

/-- A block of boot ROM does not match its check word (R335). The spec gives the stop no cause code: a free value (log entry 72). -/
def State.romMismatch (s : State) : State := (s.stopPair (BitVec.ofNat 32 (s.draw 32)) (s.thread (s.worldOn 0)).u.pc).drawn

/-- The context that runs on a pair. -/
def State.ctxOn (s : State) (p : Nat) : Nat := (s.thread (s.worldOn p)).ctx

/-- A spine or memory access of an engine (R321). -/
def accOf (s : State) (g : Eng) (kind addr : Nat) : Acc :=
  match g with
  | .lane e => ⟨kind, 4, e, 0, addr⟩
  | .vce v => ⟨kind, 5, v, 0, addr⟩
  | .core p => ⟨kind, ctxClass (s.ctxOn p), 2 * p, s.ctxOn p, addr⟩

/-- LANE and ID (R243, R273). -/
def idWord : Eng → Word
  | .lane e => BitVec.ofNat 32 (e + 256 * (e % 16) + 4096 * (e / 16))
  | .vce v => BitVec.ofNat 32 (v + 4096)
  | .core p => BitVec.ofNat 32 (2 * p + 8192)

/-! ### The load and store unit (R250–R252, R274) -/

/-- Where an engine address lies on the map. -/
def physical (g : Eng) (a : Nat) : Nat :=
  match g with
  | .lane e => 0x38000000 + e * 0x10000 + a
  | .vce v => 0x30000000 + v * 0x100000 + a
  | .core _ => a

/-- The address lies outside the unit's reach. -/
def lsuBeyond (g : Eng) (a : Nat) (store : Bool) : Bool :=
  match g with
  | .lane _ => decide (0x4000 ≤ a)
  | .vce _ => decide (0x20000 ≤ a)
  | .core _ => !(decide (0x10000000 ≤ a ∧ a < 0x10100000) || (!store && decide (a < 0x10000)))

/-- The cause that stops a load or store. `void`: its transfer on the spine does not arrive whole (R336). -/
def lsuCause (s : State) (g : Eng) (void : Bool) (a : Nat) (store : Bool) : Option Nat :=
  if lsuBeyond g a store then some 0x10
  else if a % 4 ≠ 0 then some 0x11
  else match g with
    | .lane e => if store then (if a < s.fget (f_LE_CODE_LIM_LIM e) then some 0x12 else none)
        else if s.spoiled (physical (.lane e) a) then some 0x30 else none
    | .vce _ => if void then some 0x10 else none
    | .core _ => if void || (gateCheck s (accOf s g (flag store) a)).isSome then some 0x10 else none

/-- An access that reached its gate and failed there: a void one is counted, a denied one leaves its notice. -/
def State.lsuNotice (s : State) (g : Eng) (void : Bool) (a : Nat) (store : Bool) : State :=
  if lsuBeyond g a store || a % 4 != 0 then s
  else match g with
    | .lane _ => s
    | .vce _ => if void then s.busFault (physical g a) else s
    | .core _ => if void then s.busFault a else match gateCheck s (accOf s g (flag store) a) with
      | some r => s.notice (accOf s g (flag store) a) r
      | none => s

/-- A lane's store (R288): the old word joins the undo log; a 129th store invalidates the checkpoint. -/
def State.laneStore (s : State) (e a : Nat) (v : Word) : State :=
  let l := s.lane e
  let old := BitVec.ofNat 32 (s.peekN (physical (.lane e) a) 4)
  let s1 := s.storeN (physical (.lane e) a) 4 v.toNat
  if l.ck.isNone then s1
  else if 128 ≤ l.undo.length then
    (s1.putLane e { l with ck := none }).putBit (f_VAT_STATUS_CKPT_VALID (e / 16)) (e % 16) false
  else s1.putLane e { l with undo := (a, old) :: l.undo }

/-! ### The STREAM unit (R256–R259) -/

/-- The instant of W. -/
def wInstant (s : State) : Nat := instantAt s.alm.w
/-- An entry is deliverable. -/
def deliverable (s : State) (src mask k n : Nat) : Bool :=
  decide (oldestInstant s ≤ k) && decide (k ≤ wInstant s) && sampledAt (rateOf s.tr.rates k) k &&
  (if src = 8 then n == 0 && s.packValid k && !s.packLate k else bit mask n && s.slotValid src k n && !s.slotLate src k n)

def nodesFrom (n : Nat) : List Nat := (List.range 16).filter (fun i => decide (n ≤ i))

/-- The first deliverable position from (k, n) on, looking at `f` instants. -/
def nextEntry (s : State) (src mask : Nat) : Nat → Nat → Nat → Option (Nat × Nat)
  | 0, _, _ => none
  | f + 1, k, n =>
    if wInstant s < k then none
    else match (nodesFrom n).find? (fun i => deliverable s src mask k i) with
      | some i => some (k, i)
      | none => nextEntry s src mask f (k + 1) 0

/-- A field of an entry (R257). -/
def streamField (s : State) (src k n field : Nat) : Word :=
  let two (hi : Bool) : Word := BitVec.ofNat 32 (if hi then stampOf k / 2 ^ 32 else stampOf k)
  if field = 21 then two false else if field = 22 then two true
  else if field = 24 then BitVec.ofNat 32 k
  else if src = 8 then
    let a := packAddr k
    let w (o : Nat) : Word := BitVec.ofNat 32 (s.loadN (a + o) 4)
    if field = 0 then w 8 else if field = 1 then w 12 else if field = 2 then w 16 else if field = 3 then w 20
    else if field = 4 then (if (s.byte (a + 24)).getLsbD 2 then w 12 else w 8)
    else if field = 20 then BitVec.ofNat 32 (s.byte (a + 24)).toNat else 0
  else
    let a := slotAddr src k n
    let asm := (s.byte (a + 5)).toNat / 16 == 2
    if field < 16 then (if asm then BitVec.ofNat 32 (s.loadN (a + 8 + 3 * field) 3) else wordOf (signed 24 (s.loadN (a + 8 + 3 * field) 3)))
    else if field < 20 then BitVec.ofNat 32 (s.loadN (a + 56) 6 / 2 ^ (12 * (field - 16)) % 4096)
    else if field = 20 then BitVec.ofNat 32 (s.loadN (a + 5) 3)
    else if field = 23 then BitVec.ofNat 32 (s.loadN (a + 62) 2) else 0

/-- The values STR.GET admits. -/
def streamValueOk (src : Nat) (v : Word) : Bool :=
  let f := v.toNat % 32
  v.toNat / 512 == 0 && v.toNat / 32 % 8 == 0 &&
  (if src = 8 then decide (f ≤ 4 ∨ (20 ≤ f ∧ f ≤ 22) ∨ f = 24 ∨ f = 31) else decide (f ≤ 24 ∨ f = 31))

/-- The entries that a search of a lane's stream reads, from its cursor to the one it finds: what is in error is corrected or no entry (R334, R506). -/
def State.streamRead (s : State) (e : Nat) : State :=
  let l := s.lane e
  let src := s.fget (f_LE_STR_CFG_SRC e)
  let (k', n') := (nextEntry s src (s.fget (f_LE_STR_CFG_MASK e)) 1024 l.k l.node).getD (wInstant s, 15)
  let passed (k n : Nat) : Bool := decide (l.k < k ∨ (l.k = k ∧ l.node ≤ n)) && decide (k < k' ∨ (k = k' ∧ n ≤ n'))
  if s.upsets.isEmpty then s
  else if src = 8 then ((List.range (k' + 1 - l.k)).map (l.k + ·)).foldl State.readPack s
  else ((upsetSlots s).filter (fun a => (a - 0x20000000) / 0x100000 == src && passed (rowInstant s (a % 0x100000 / 1024)) (a % 1024 / 64))).foldl State.readSlot s

/-- STR.GET: the field and the status at distance 4; the cursor moves with bit 8. -/
def State.streamGet (s0 : State) (e : Nat) (v : Word) : State :=
  let s := s0.streamRead e
  let l := s.lane e
  let src := s.fget (f_LE_STR_CFG_SRC e)
  let mask := s.fget (f_LE_STR_CFG_MASK e)
  let stat (avail newk : Bool) (m : LaneState) : Word := BitVec.ofNat 32 (flag avail + 2 * flag newk + 4 * flag m.overrun + 256 * m.node)
  match nextEntry s src mask 1024 l.k l.node with
  | none => s.putLane e { l with u := (l.u.send 4 (.port 0x4B 0)).send 4 (.port 0x4C (stat false false l)) }
  | some (k, n) =>
    let newk := !(List.range n).any (fun i => deliverable s src mask k i)
    let after := if bit v.toNat 8 then (nextEntry s src mask 1024 (if n = 15 ∨ src = 8 then k + 1 else k) (if n = 15 ∨ src = 8 then 0 else n + 1)).getD (k + 1, firstNode src mask)
      else (k, n)
    let m := { l with k := after.1, node := after.2 }
    s.putLane e { m with u := (m.u.send 4 (.port 0x4B (streamField s src k n (v.toNat % 32)))).send 4 (.port 0x4C (stat true newk m)) }

/-- R259: the instant with these low 32 bits from the oldest held to that of W. -/
def resolveK (s : State) (low : Nat) : Option Nat :=
  (List.range 1024).findSome? (fun i =>
    let k := oldestInstant s + i
    if k % 2 ^ 32 = low ∧ k ≤ wInstant s then some k else none)

/-! ### The lane state window (R281) -/

def lswGet (l : LaneState) (i : Nat) : Word :=
  let u := l.u
  if i < 0x20 then u.reg i
  else match i with
    | 0x20 => u.aluA | 0x21 => u.aluR | 0x22 => u.shfA | 0x23 => u.shfR | 0x24 => u.macB | 0x25 => BitVec.ofNat 32 u.macSh
    | 0x26 => BitVec.ofNat 32 u.acc | 0x27 => BitVec.ofNat 32 (u.acc / 2 ^ 32) | 0x28 => BitVec.ofNat 32 (u.acc / 2 ^ 64)
    | 0x29 => BitVec.ofNat 32 (flag u.ov + 2 * flag u.cm) | 0x2A => u.lsuD | 0x2B => u.lsuP | 0x2C => u.lsuR | 0x2D => u.cmpB
    | 0x2E => BitVec.ofNat 32 (flag u.g) | 0x2F => u.pre | 0x30 => BitVec.ofNat 32 u.preN | 0x31 => u.link | 0x32 => BitVec.ofNat 32 u.target
    | 0x33 => BitVec.ofNat 32 u.dslot | 0x34 => u.strR | 0x35 => u.strStat | 0x36 => BitVec.ofNat 32 l.k | 0x37 => BitVec.ofNat 32 l.node
    | _ => 0

def lswSet (l : LaneState) (i : Nat) (v : Word) : LaneState :=
  let u := l.u
  let put (x : Units) : LaneState := { l with u := x }
  if i < 0x20 then put (u.setReg i v)
  else match i with
    | 0x20 => put { u with aluA := v } | 0x21 => put { u with aluR := v } | 0x22 => put { u with shfA := v } | 0x23 => put { u with shfR := v }
    | 0x24 => put { u with macB := v } | 0x25 => put { u with macSh := v.toNat % 64 }
    | 0x26 => put { u with acc := accPart u.acc 0 v } | 0x27 => put { u with acc := accPart u.acc 1 v } | 0x28 => put { u with acc := accPart u.acc 2 v }
    | 0x29 => put { u with ov := v.getLsbD 0, cm := v.getLsbD 1 } | 0x2A => put { u with lsuD := v } | 0x2B => put { u with lsuP := v }
    | 0x2C => put { u with lsuR := v } | 0x2D => put { u with cmpB := v } | 0x2E => put { u with g := v.getLsbD 0 } | 0x2F => put { u with pre := v }
    | 0x30 => put { u with preN := v.toNat % 4 } | 0x31 => put { u with link := v } | 0x32 => put { u with target := v.toNat }
    | 0x33 => put { u with dslot := min 2 (v.toNat % 4) } | 0x34 => put { u with strR := v } | 0x35 => put { u with strStat := v }
    | _ => l

/-! ### Jobs (R283–R285) -/

def jobAddr (s : State) (v j : Nat) : Nat := 0x30000000 + v * 0x100000 + s.fget (f_VAT_JOB_BASE_BASE v) * 0x800 + 32 * j
def saveAddr (s : State) (v j : Nat) : Nat := 0x30000000 + v * 0x100000 + s.fget (f_VAT_JOB_BASE_BASE v) * 0x800 + 0x800 + 0x100 * j

def jobFlag (s : State) (v j b : Nat) : Bool := (s.peekByte (jobAddr s v j)).getLsbD b
def State.putJobFlag (s : State) (v j b : Nat) (x : Bool) : State :=
  s.setByte (jobAddr s v j) (BitVec.ofNat 8 (setBitIn (s.peekByte (jobAddr s v j)).toNat b x))
def jobConfigured (s : State) (v j : Nat) : Nat := (s.peekByte (jobAddr s v j + 1)).toNat % 4
def jobClass (s : State) (v j : Nat) : Nat := (s.peekByte (jobAddr s v j + 1)).toNat / 4 % 4
def State.putJobClass (s : State) (v j c : Nat) : State := s.setByte (jobAddr s v j + 1) (BitVec.ofNat 8 (jobConfigured s v j + 4 * c))
def jobLane (s : State) (v j : Nat) : Nat := (s.peekByte (jobAddr s v j + 2)).toNat
def jobPeriodTicks (s : State) (v j : Nat) : Nat := s.peekN (jobAddr s v j + 8) 4 * ticksPerMs
def jobRelease (s : State) (v j : Nat) : Nat := s.peekN (jobAddr s v j + 16) 8
def State.putJobRelease (s : State) (v j t : Nat) : State := s.storeN (jobAddr s v j + 16) 8 t

/-- The READY jobs of a lane other than the one on it. -/
def readyJobs (s : State) (v l : Nat) (but : Option Nat) : List Nat :=
  (List.range 64).filter (fun j => jobFlag s v j 0 && jobFlag s v j 1 && jobLane s v j == l && but != some j)

/-- The highest class in force; ties by RELEASE, then index. -/
def bestJob (s : State) (v : Nat) (js : List Nat) : Option Nat :=
  js.foldl (fun m j => match m with
    | none => some j
    | some b => if jobClass s v j < jobClass s v b ∨ (jobClass s v j = jobClass s v b ∧ jobRelease s v j < jobRelease s v b) then some j else some b) none

/-- A lane's captured state in its job's save area: the items 0x00–0x37 and the address of the next instruction. A job whose VALID has been cleared is
removed as it leaves its lane: what its area then holds is no job's (R283). -/
def State.saveJob (s : State) (v j : Nat) (l : LaneState) : State :=
  let s1 := s.write (saveAddr s v j) ((List.range 56).flatMap (fun i => leBytes 4 (lswGet l i).toNat) ++ leBytes 4 l.u.pc)
  let x := s1.vat v
  if !jobFlag s v j 0 ∨ x.saved.contains j = true then s1 else s1.putVat v { x with saved := x.saved ++ [j] }

/-- The state a job starts or goes on with. -/
def jobState (s : State) (v j e : Nat) : LaneState :=
  let l := s.lane e
  let blank : LaneState := { LaneState.reset with u := { Units.reset with pc := s.peekN (jobAddr s v j + 4) 4, icount := l.u.icount }, k := l.k, node := l.node }
  if (s.vat v).saved.contains j then
    let a := saveAddr s v j
    let m := (List.range 54).foldl (fun m i => lswSet m i (BitVec.ofNat 32 (s.peekN (a + 4 * i) 4))) blank
    { m with u := { m.u with pc := s.peekN (a + 224) 4 }, k := (resolveK s (s.peekN (a + 216) 4)).getD l.k, node := s.peekN (a + 220) 4 }
  else blank

/-- Lane 15 of a vat that holds a spare is that spare until it serves: no job and no RUN puts it in service (R16, R290). -/
def heldSpare (s : State) (e : Nat) : Bool :=
  e % 16 == 15 && s.isSet (f_VAT_CTRL_SPARE_EN (e / 16)) && !s.isSet (f_VAT_STATUS_SPARE_USED (e / 16))

/-- The next job is dispatched on lane `l` of vat `v`, or the lane is left without one. -/
def State.dispatch (s : State) (v l : Nat) (j : Option Nat) : State :=
  let e := 16 * v + l
  match j with
  | none => s.putLane e { s.lane e with job := none, stat := 3 }
  | some j =>
    let m := jobState s v j e
    let s1 := (s.putLane e { m with stat := 1, job := some j, ck := none }).putBit (f_VAT_STATUS_CKPT_VALID v) l false
    let s2 := (s1.putJobFlag v j 2 true).storeN (jobAddr s v j + 24) 8 s.now
    s2.putVat v { s2.vat v with saved := (s2.vat v).saved.filter (· != j) }

/-- The vat schedules: its engine runs and is enabled (R292, R505). -/
def State.schedules (s : State) (v : Nat) : Bool := s.isSet (f_VAT_CTRL_EN v) && s.fget (f_VAT_STATUS_VSTATE v) == 1

/-- Every lane of a vat that is left without a job takes the best READY job that names it (R284). -/
def State.fillLane (s : State) (v l : Nat) : State :=
  let x := s.lane (16 * v + l)
  if s.schedules v ∧ x.job.isNone ∧ (x.stat = 0 ∨ x.stat = 3) ∧ heldSpare s (16 * v + l) = false ∧ s.isSet (f_CPR_DOM_RST (16 * v + l)) = false then
    match bestJob s v (readyJobs s v l none) with
    | some j => s.dispatch v l (some j)
    | none => s
  else s

def State.fillLanes (s : State) (v : Nat) : State := (List.range 16).foldl (fun t l => t.fillLane v l) s

/-- A quantum of a deadline miss ends (R285): class 0 in force of a class 3 job becomes 1. -/
def State.endQuantum (s : State) (v j : Nat) : State :=
  if jobConfigured s v j = 3 ∧ jobClass s v j = 0 then s.putJobClass v j 1 else s

/-- Whether a change is due at a MARK (R284). -/
def changeDue (s : State) (v l j disp : Nat) : Bool :=
  (readyJobs s v l (some j)).any (fun i => decide (jobClass s v i < jobClass s v j) ||
    (jobClass s v j != 0 && decide (4096 ≤ disp) && jobClass s v i == jobClass s v j))

/-- Job `j` of vat `v` takes the free entry `i` of the partner vat `o`: its entry and its save area go there, and it waits for the partner's lane. -/
def State.moveJob (s : State) (v o l j i : Nat) : State :=
  let t1 := (s.write (jobAddr s o i) (s.peek (jobAddr s v j) 32)).write (saveAddr s o i) (s.peek (saveAddr s v j) 256)
  let t2 := (t1.putJobFlag o i 2 false).putJobFlag v j 0 false
  let held := (t2.vat v).saved.contains j
  let t3 := t2.putVat v { t2.vat v with saved := (t2.vat v).saved.filter (· != j) }
  State.fillLane (if held then t3.putVat o { t3.vat o with saved := (t3.vat o).saved ++ [i] } else t3) o l

/-- Jobs of lane `l` of a retired vat move to the other vat of the pair: the same index where it is free there, else the lowest free one. -/
def State.moveJobs (s : State) (v l : Nat) : State :=
  let o := if v % 2 = 0 then v + 1 else v - 1
  (List.range 64).foldl (fun t j =>
    if jobFlag t v j 0 && jobLane t v j == l then
      match (j :: List.range 64).find? (fun i => !jobFlag t o i 0) with
      | none => t
      | some i => t.moveJob v o l j i
    else t) s

/-! ### MARK, YIELD, HALT (R262, R284, R287) -/

/-- Nothing of the lane is in flight or pending: a MARK is accepted. -/
def markOk (l : LaneState) : Bool := l.u.flight.isEmpty && l.u.dslot == 0 && l.u.preN == 0 && l.dep.isNone

def State.capture' (s : State) (e : Nat) : State :=
  let l := s.lane e
  (s.putLane e { l with ck := some ⟨l.u, l.k, l.node, l.overrun⟩, undo := [], since := 0 }).putBit (f_VAT_STATUS_CKPT_VALID (e / 16)) (e % 16) true

/-- The job on the lane leaves it and another comes. -/
def State.changeJob (s : State) (e : Nat) (next : Option Nat) : State :=
  let v := e / 16
  match (s.lane e).job with
  | none => s
  | some j => (((s.saveJob v j (s.lane e)).putJobFlag v j 2 false).endQuantum v j).dispatch v (e % 16) next

/-- A retired vat stops its lanes at an accepted MARK, and their jobs move (R505). -/
def State.retireLane (s : State) (e : Nat) : State :=
  let v := e / 16
  let s1 := match (s.lane e).job with | some j => (s.saveJob v j (s.lane e)).putJobFlag v j 2 false | none => s
  (s1.putLane e { s1.lane e with stat := 2, job := none }).moveJobs v (e % 16)

/-- MARK. -/
def State.markLane (s : State) (e : Nat) : State :=
  let v := e / 16
  if !markOk (s.lane e) then s.bump (f_VAT_MARK_BAD_VALUE v)
  else
    let s1 := s.capture' e
    if (s1.vat v).retired then s1.retireLane e
    else match (s1.lane e).job with
      | none => s1
      | some j =>
        let s2 := if 4096 ≤ (s1.lane e).disp then s1.endQuantum v j else s1
        if s2.schedules v ∧ changeDue s2 v (e % 16) j (s2.lane e).disp = true then s2.changeJob e (bestJob s2 v (readyJobs s2 v (e % 16) (some j))) else s2

/-- YIELD: a scheduled lane gives way to another READY job; without a job, or while the vat does not schedule, it suspends. -/
def State.yieldLane (s : State) (e : Nat) : State :=
  let v := e / 16
  match (s.lane e).job with
  | none => s.putLane e { s.lane e with stat := 2 }
  | some j =>
    if !s.schedules v then s.putLane e { s.lane e with stat := 2 }
    else if !markOk (s.lane e) then s.bump (f_VAT_NOMARK_VALUE v)
    else
      let s1 := (s.capture' e).endQuantum v j
      match bestJob s1 v (readyJobs s1 v (e % 16) (some j)) with
      | none => s1
      | some i => s1.changeJob e (some i)

/-- R286: the scrub job is the class 3 job of PERIOD 24 h; its HALT ends a pass (log entry 46). -/
def State.scrubDone (s : State) (v j : Nat) : State :=
  if jobConfigured s v j = 3 ∧ jobPeriodTicks s v j = 86400000 * ticksPerMs then
    (s.put64 (r_VAT_SCRUB_STAMP_LO v) (r_VAT_SCRUB_STAMP_HI v) s.now).raise (f_VAT_IRQ_SCRUB v)
  else s

/-- HALT: the job is done until its next release; a class 3 job returns to its class and its RELEASE advances (R285). -/
def State.haltLane (s : State) (e : Nat) : State :=
  let v := e / 16
  match (s.lane e).job with
  | none => s.putLane e { s.lane e with stat := 3 }
  | some j =>
    let s1 := ((s.scrubDone v j).putJobFlag v j 1 false).putJobFlag v j 2 false
    let s2 := if jobConfigured s1 v j = 3 then
        (((s1.putJobClass v j 3).putJobFlag v j 3 false).putJobFlag v j 4 false)
      else s1
    let s3 := if jobPeriodTicks s2 v j = 0 then s2 else s2.putJobRelease v j (jobRelease s2 v j + jobPeriodTicks s2 v j)
    let l := s3.lane e
    let s4 := s3.putLane e { l with u := { l.u with flight := [] }, stat := 3, job := none }
    if s4.schedules v then s4.dispatch v (e % 16) (bestJob s4 v (readyJobs s4 v (e % 16) none))
    else if (s4.vat v).retired then s4.moveJobs v (e % 16) else s4

/-! ### Traps (R263–R266, R280) -/

/-- A decode-table entry's header word: its VALID bit is VAT_DT_VALID. -/
def dtAddr (v i : Nat) : Nat := 0x400D0000 + v * 0x1000 + i * 0x40
def dtValid (s : State) (v i : Nat) : Bool := if i < 32 then s.bitOf (f_VAT_DT_VALID_LO_VALUE v) i else s.bitOf (f_VAT_DT_VALID_HI_VALUE v) (i - 32)
def dtHdr (s : State) (v i : Nat) : Nat := s.loadN (dtAddr v i) 4

/-- The first valid KIND 2 entry that matches a trap. -/
def dtMatch (s : State) (v cause detail : Nat) : Option Nat :=
  (List.range 64).find? (fun i => dtValid s v i && dtHdr s v i / 2 ^ 29 % 4 == 2 && dtHdr s v i / 2 ^ 16 % 256 == cause &&
    ((dtHdr s v i / 2 ^ 8 % 256 ^^^ detail) &&& dtHdr s v i % 256) == 0)

/-- VAT_LTRAP shows the lowest lane whose trap is not acknowledged, with the entry its search found; LTRAP is raised as another trap comes to be
presented. -/
def State.presentTrap (s : State) (v : Nat) : State :=
  match (List.range 16).find? (fun l => (s.lane (16 * v + l)).stat == 4 && !(s.lane (16 * v + l)).seen) with
  | none => s.fput (f_VAT_LTRAP_VALID v) 0
  | some l =>
    let e := 16 * v + l
    let hit := (s.lane e).hit
    let shown := s.isSet (f_VAT_LTRAP_VALID v) && s.fget (f_VAT_LTRAP_LANE v) == l
    let s1 := s.fputs [(f_VAT_LTRAP_VALID v, 1), (f_VAT_LTRAP_HIT v, flag hit.isSome), (f_VAT_LTRAP_ENTRY v, hit.getD 0), (f_VAT_LTRAP_LANE v, l),
      (f_VAT_LTRAP_CAUSE v, s.fget (f_LE_TRAP_CAUSE_CAUSE e))]
    if shown then s1 else s1.raise (f_VAT_IRQ_LTRAP v)

/-- The search for a lane's trap, in the table as it stands at the trap (R291). The engine of a retired vat never runs again, and its lanes' searches
wait (R505). -/
def State.trapSearch (s : State) (e : Nat) : State :=
  let v := e / 16
  if (s.vat v).retired then s
  else
    let hit := dtMatch s v (s.fget (f_LE_TRAP_CAUSE_CAUSE e)) (s.fget (f_LE_TRAP_CAUSE_DETAIL e))
    ((s.putLane e { s.lane e with hit := hit }).bump (if hit.isSome then f_VAT_EMU_HIT_VALUE v else f_VAT_EMU_MISS_VALUE v)).presentTrap v

/-- A lane traps. -/
def State.laneTrap (s : State) (e pc word : Nat) (t : Trap) : State :=
  let s1 := (s.fputs [(f_LE_TRAP_CAUSE_CAUSE e, t.cause), (f_LE_TRAP_CAUSE_SLOT e, t.slot), (f_LE_TRAP_CAUSE_DETAIL e, t.detail), (f_LE_TRAP_PC_VALUE e, pc),
    (f_LE_TRAP_WORD_VALUE e, word)]).putLane e { s.lane e with stat := 4, seen := false }
  s1.trapSearch e

/-! ### Issue (R240, R264) -/

/-- The execute-class cause of a move of the common units; `void` as in lsuCause. -/
def moveCause (s : State) (g : Eng) (void : Bool) (u : Units) (m : Move) : Option Trap :=
  let v := m.v.toNat
  let lsu (a : Nat) (st : Bool) : Option Trap := (lsuCause s g void a st).map (fun c => ⟨c, m.slot, shownPort g m.dst⟩)
  if !m.act then none
  else match m.dst with
    | 0x52 => lsu v false
    | 0x53 => lsu u.lsuP.toNat false
    | 0x54 => lsu v true
    | 0x5B => match g with
      | .lane e => if streamValueOk (s.fget (f_LE_STR_CFG_SRC e)) m.v then none else some ⟨0x09, m.slot, v % 256⟩
      | _ => none
    | 0x5C =>
      let bad := match g with | .lane _ => decide (v % 4 ≠ 0 ∨ 0x4000 ≤ v) | _ => decide (v % 8 ≠ 0)
      if bad then some ⟨0x0A, m.slot, shownPort g 0x5C⟩ else if 0 < u.dslot then some ⟨0x0B, m.slot, shownPort g 0x5C⟩ else none
    | 0x5E =>
      let known := match g with | .lane _ => decide (1 ≤ v ∧ v ≤ 3) | .vce _ => decide (1 ≤ v ∧ v ≤ 4) | .core _ => decide (v = 1)
      if known then none
      else if 0x10 ≤ v ∧ v ≤ 0x1F then some ⟨0x20, m.slot, v - 0x10⟩
      else some ⟨0x08, m.slot, v % 256⟩
    | 0x61 => if v % 4 ≠ 0 then some ⟨0x11, m.slot, 0x61⟩ else none
    | 0x62 => if v % 4 ≠ 0 then some ⟨0x11, m.slot, 0x62⟩ else none
    | d => match g with
      | .vce x => if 0xC0 ≤ d ∧ !dtValid s x (d - 0xC0) then some ⟨0x0C, m.slot, d⟩ else none
      | .core p =>
        let fr := (s.thread (s.worldOn p)).frames
        match fr with
        | [] => if d = 0x71 ∨ d = 0x72 then some ⟨0x0F, m.slot, d⟩ else if d = 0x76 ∨ d = 0x77 then some ⟨0x14, m.slot, d⟩ else none
        | f :: _ =>
          let own := decide (f.ctx / 2 = s.ctxOn p / 2) || decide (s.ctxOn p < 4)
          if d = 0x71 ∧ f.exc then some ⟨0x14, m.slot, d⟩
          else if d = 0x72 ∧ !f.exc then some ⟨0x14, m.slot, d⟩
          else if (d = 0x76 ∨ d = 0x77) ∧ (!f.exc ∨ !own) then some ⟨0x14, m.slot, d⟩ else none
      | .lane _ => none

/-- The first execute-class cause, in slot order. -/
def moveCauses (s : State) (g : Eng) (void : Bool) (u : Units) (ms : List Move) : Option Trap := ms.findSome? (moveCause s g void u)

/-- A word loaded: corrected, or zero where it cannot be (R334, R335). -/
def State.loadWord (s : State) (g : Eng) (a : Nat) : State :=
  let (t, bad) := s.checkRead (physical g a) 4
  let t1 := if bad && decide (physical g a < 0x10000) then t.romMismatch else t
  t1.putUnits g ((t1.units g).send (lsuLat g) (.port 0x48 (BitVec.ofNat 32 (s.peekN (physical g a) 4))))

/-- A load or store trigger takes effect. -/
def State.lsu (s : State) (g : Eng) (u1 : Units) (m : Move) : State :=
  let ld (a : Nat) : State := s.loadWord g a
  match m.dst with
  | 0x52 => ld m.v.toNat
  | 0x53 => let t := ld u1.lsuP.toNat; t.putUnits g ((t.units g).send 1 (.port 0x49 (u1.lsuP + m.v)))
  | _ => match g with
    | .lane e => s.laneStore e m.v.toNat u1.lsuD
    | _ => s.storeN (physical g m.v.toNat) 4 u1.lsuD.toNat

/-- A trigger of the common units fires; the others are left to the engine. -/
def State.fire (s : State) (g : Eng) (u1 : Units) (m : Move) : State :=
  if !m.act ∨ m.dst < 0x40 then s
  else if 0x52 ≤ m.dst ∧ m.dst ≤ 0x54 then s.lsu g u1 m
  else if m.dst = 0x5B then (match g with | .lane e => s.streamGet e m.v | _ => s)
  else s.putUnits g ((s.units g).trigger g m)

/-- Triggers that an engine's own rules perform after the instruction. -/
def ownTrigger (m : Move) : Bool := m.act && (m.dst == 0x5E || m.dst == 0x61 || m.dst == 0x62 || decide (0x70 ≤ m.dst))

/-- The loads and stores of an instruction: slot and address. -/
def lsuAddrs (s : State) (g : Eng) (word : Nat) (ext : Nat → Option Word) : List (Nat × Nat) :=
  let u0 := (s.units g).tick
  let p := parse g u0 (fun n => (ext n).getD (u0.src (idWord g) n)) (slotsOf g word)
  let u1 := p.moves.foldl (Units.operand g) u0
  (p.moves.filter (fun m => m.act && decide (0x52 ≤ m.dst ∧ m.dst ≤ 0x54))).map (fun m => (m.slot, if m.dst = 0x53 then u1.lsuP.toNat else m.v.toNat))

/-- What issuing an instruction gives: the state, the trap it ends in, and the triggers left to the engine. -/
structure Issued where
  s     : State
  trap  : Option Trap
  posts : List Move

/-- Loads read memory as it stands when the instruction issues (R252): stores fire last. -/
def storesLast (ms : List Move) : List Move := ms.filter (fun m => m.dst != 0x54) ++ ms.filter (fun m => m.dst == 0x54)

/-- The instruction takes effect. -/
def State.complete (s : State) (g : Eng) (u1 : Units) (p : Parsed) (ms : List Move) : State :=
  let s1 := s.putUnits g { u1 with pre := p.pre, preN := p.preN }
  let s2 := (storesLast ms).foldl (fun t m => t.fire g u1 m) s1
  s2.putUnits g ((s2.units g).advance g)

/-- An engine issues an instruction. `ext` gives the source ports its units do not hold; `priv`: its context may not name privileged ports. `void`: the transfer of its
load or store does not arrive whole. -/
def issueWord (s : State) (g : Eng) (word : Nat) (ext : Nat → Option Word) (micro priv void : Bool) : Issued :=
  let u0 := (s.units g).tick
  let slots := slotsOf g word
  let p := parse g u0 (fun n => (ext n).getD (u0.src (idWord g) n)) slots
  let fmt := match g with | .lane _ => true | _ => word / 2 ^ 60 == 0
  match decodeCause g u0 micro priv fmt slots p with
  | some t => ⟨s, some t, []⟩
  | none =>
    let u1 := p.moves.foldl (Units.operand g) u0
    match moveCauses s g void u1 p.moves with
    | some t =>
      if t.cause = 0x20 then ⟨s.complete g u1 p (p.moves.filter (fun m => (moveCause s g void u1 m).isNone)), some t,
        p.moves.filter (fun m => ownTrigger m && (moveCause s g void u1 m).isNone)⟩
      else
        let n := p.moves.find? (fun m => m.slot == t.slot && decide (0x52 ≤ m.dst ∧ m.dst ≤ 0x54))
        ⟨match n with | some m => s.lsuNotice g void (if m.dst = 0x53 then u1.lsuP.toNat else m.v.toNat) (m.dst == 0x54) | none => s, some t, []⟩
    | none => ⟨s.complete g u1 p p.moves, none, p.moves.filter ownTrigger⟩

/-! ### The spare (R289, R504, R508) -/

/-- The instruction at LE_PC. -/
def laneFetch (s : State) (e : Nat) : Nat := s.peekN (physical (.lane e) (s.lane e).u.pc) 4

/-- R504: one uncorrectable word of the lane's own memory is restored from the undo log, or as the copy of the code region has it, or as zero: the job is
then lost. Firmware chooses where that copy lies, so what it gives is a free value (log entry 4). -/
def State.restoreWord (s : State) (e a : Nat) : State × Bool :=
  let l := s.lane e
  if l.ck.isSome ∧ l.undo.any (fun x => x.1 == a) then (s, false)
  else if a < s.fget (f_LE_CODE_LIM_LIM e) then ((s.storeN (physical (.lane e) a) 4 (s.draw 32)).drawn, false)
  else (s.storeN (physical (.lane e) a) 4 0, true)

/-- R504: the lane's memory is copied to the spare's: single-bit errors are corrected, and every uncorrectable word is restored, `a` among them. -/
def State.restoreMemory (s : State) (e a : Nat) : State × Bool :=
  let base := physical (.lane e) 0
  let hit := s.upsetsIn base 0x4000
  let words := (a / 4 * 4 :: (hit.filter s.spoiled).map (· - base)).eraseDups
  words.foldl (fun (p : State × Bool) w => let (t, b) := p.1.restoreWord e w; (t, p.2 || b)) ((hit.filter (fun x => !s.spoiled x)).foldl State.checkUnit s, false)

/-- Steps 3 to 6 of R289: from the checkpoint, or from ENTRY when there is none or `lost`. The answer says whether the job was rebuilt. -/
def State.resumeLane (s : State) (e : Nat) (lost : Bool) : State × Bool :=
  let l := s.lane e
  let v := e / 16
  let s1 := l.undo.foldl (fun t x => if l.ck.isSome then t.storeN (physical (.lane e) x.1) 4 x.2.toNat else t) s
  match l.ck, lost with
  | some c, false =>
    (s1.putLane e { l with u := c.u, k := c.k, node := c.node, overrun := decide (c.k < oldestInstant s1), stat := 1, undo := [], since := 0, dep := none, seen := false }, false)
  | _, _ =>
    let s2 := s1.putBit (f_VAT_STATUS_CKPT_VALID v) (e % 16) false
    match l.job with
    | none => (s2.putLane e { LaneState.reset with k := l.k, node := l.node }, true)
    | some j =>
      let u : Units := { Units.reset with pc := s2.peekN (jobAddr s2 v j + 4) 4, icount := l.u.icount }
      (s2.putLane e { LaneState.reset with u := u, k := l.k, node := l.node, stat := 1, job := some j, disp := l.disp }, true)

/-- MEM_UE stops a lane as a fault (R263, R265, R334): counted; STATE 5, with the cause, the address and the word of the instruction it was at. -/
def State.memUe (s : State) (e : Nat) : State :=
  ((s.bump f_TG_ECC_UE_COUNT).fputs [(f_LE_TRAP_CAUSE_CAUSE e, 0x30), (f_LE_TRAP_CAUSE_SLOT e, 0), (f_LE_TRAP_CAUSE_DETAIL e, 0), (f_LE_TRAP_PC_VALUE e, (s.lane e).u.pc),
    (f_LE_TRAP_WORD_VALUE e, laneFetch s e)]).putLane e { s.lane e with stat := 5 }

/-- Two engines exchange the numbers that their trap registers show under: each engine's own record of its trap stays with it. -/
def State.swapTrap (s : State) (e x : Nat) : State :=
  ((((((s.setReg (r_LE_TRAP_CAUSE e) (s.reg (r_LE_TRAP_CAUSE x))).setReg (r_LE_TRAP_CAUSE x) (s.reg (r_LE_TRAP_CAUSE e))).setReg
    (r_LE_TRAP_PC e) (s.reg (r_LE_TRAP_PC x))).setReg (r_LE_TRAP_PC x) (s.reg (r_LE_TRAP_PC e))).setReg
    (r_LE_TRAP_WORD e) (s.reg (r_LE_TRAP_WORD x))).setReg (r_LE_TRAP_WORD x) (s.reg (r_LE_TRAP_WORD e)))

/-- The vat's spare takes the lane's number, memory and job (R289); with the spare used, failed or none held, the lane stops. A fault record names
the engine: of a job that the spare serves, the spare's (R16). -/
def State.serveFault (s : State) (e detail : Nat) (bad : Option Nat) : State :=
  let v := e / 16
  let spare := 16 * v + 15
  let failed := 16 * v + s.fget (f_VAT_STATUS_FAILED v)
  let stop (t : State) : State := (t.putLane e { t.lane e with stat := 5 }).presentTrap v
  if s.isSet (f_VAT_STATUS_SPARE_USED v) then stop (s.doubleFault 1 1 (if e = failed then spare else e) detail 8 1 failed)
  else if !s.isSet (f_VAT_CTRL_SPARE_EN v) ∨ e = spare ∨ (s.lane spare).stat = 5 then stop (s.elementFault 1 1 e detail 8)
  else
    let s0 := s.elementFault 1 1 e detail 0
    let (s1, lost) := match bad with | some a => s0.restoreMemory e a | none => (s0, false)
    let (s2, rebuilt) := s1.resumeLane e lost
    let s3 := ((s2.putLane spare { LaneState.reset with stat := 5 }).swapTrap e spare).fputs [(f_VAT_STATUS_SPARE_USED v, 1), (f_VAT_STATUS_FAILED v, e % 16)]
    let s4 : State := if s3.bist.left.head? != some 1 then s3 else { s3 with bist := { s3.bist with cut := some v } }
    ((s4.raise (f_VAT_IRQ_SPARE v)).presentTrap v).recoverWithin 1 e (if bad.isSome then 60 else 10) (if rebuilt then 4 else 0)

/-- LANE_FAULT: a lane fault is declared: a parity error, MEM_UE (cause 0x30) with the lane's memory intact, or MEM_UE at the word `bad` of it. -/
def State.laneFault (s : State) (e cause : Nat) (bad : Option Nat) : State :=
  if 256 ≤ e then s
  else
    let ue := bad.isSome || cause % 256 == 0x30
    (if ue then s.memUe e else s).serveFault e ((if ue then 0x30 else cause % 256) + 256 * flag bad.isSome) bad

/-! ### A lane issues -/

/-- SYS of a lane. -/
def State.laneSys (s : State) (e v : Nat) : State :=
  if v = 1 then s.haltLane e else if v = 2 then s.yieldLane e else if v = 3 then s.markLane e else s

/-- The word that a MEM_UE trap of an instruction names: the address its load reads. -/
def ueWord (s : State) (e word slot : Nat) : Nat :=
  match (lsuAddrs s (.lane e) word (fun _ => none)).find? (fun x => x.1 == slot) with
  | some x => x.2
  | none => 0

/-- The stream read of the instruction just issued did not arrive whole: it is void, and gives zero (R336). -/
def State.voidStream (s : State) (e noise : Nat) : State :=
  let src := s.fget (f_LE_STR_CFG_SRC e)
  let a := if src = 8 then 0x100F8000 else 0x20000000 + src * 0x100000
  let l := s.lane e
  let read (f : Flight) : Bool := f.dist == 4 && (match f.what with | .port 0x4B _ => true | _ => false)
  if l.u.flight.any read && damaged s (accOf s (.lane e) 0 a) 0 noise then
    State.busFault (s.putLane e { l with u := { l.u with flight := l.u.flight.map (fun f => if read f then ⟨4, .port 0x4B 0⟩ else f) } }) a
  else s

/-- The lane issues an instruction: its effects, its trap, its SYS operation. -/
def State.laneIssue (s : State) (e word noise : Nat) : State :=
  let pc := (s.lane e).u.pc
  if s.fget (f_LE_CODE_LIM_LIM e) ≤ pc then s.laneTrap e pc 0 ⟨0x13, 0, 0⟩
  else if s.spoiled (physical (.lane e) pc) then s.laneFault e 0x30 (some pc)
  else
    let s0 := (s.checkRead (physical (.lane e) pc) 4).1
    let r := issueWord s0 (.lane e) word (fun _ => none) false false false
    let s1 := match r.trap with
      | some t => if t.cause = 0x20 then r.s.putLane e { r.s.lane e with since := (r.s.lane e).since + 1, disp := (r.s.lane e).disp + 1 } else r.s
      | none => r.s.putLane e { r.s.lane e with since := (r.s.lane e).since + 1, disp := (r.s.lane e).disp + 1 }
    match r.trap with
    | some t => if t.cause = 0x30 then s1.laneFault e 0x30 (some (ueWord s0 e word t.slot)) else s1.laneTrap e pc word t
    | none => r.posts.foldl (fun t m => t.laneSys e m.v.toNat) (s1.voidStream e noise)

/-- A domain's clock runs and the domain is not held in reset; else its engine issues nothing (R237, R527). -/
def State.clocked (s : State) (d : Nat) : Bool := s.isSet (f_CPR_DOM_CLKEN d) && !s.isSet (f_CPR_DOM_RST d)

/-- A lane that runs issues the instruction a command carries. -/
def onLane (s : State) (m : Mv) (word : Nat) : State :=
  let t := s.at m.at_
  match m.eng with
  | .lane e => if e < 256 ∧ m.slot < 2 ∧ (t.lane e).stat = 1 ∧ t.clocked e ∧ t.bankUp (physical (.lane e) 0) then t.laneIssue e word (m.noise % 4096) else t
  | _ => t

/-! ### Lane control (R265, R267, R268) -/

/-- The deposit armed goes in flight, as from an instruction `ahead` of the next one. -/
def deposit (l : LaneState) (ahead : Nat) : LaneState :=
  match l.dep with
  | none => l
  | some (p, v, d) => { l with u := l.u.send (d + ahead) (.port p v), dep := none }

/-- The trapping instruction counts as issued and is passed over; after SW_TRAP it has been. -/
def State.skip (s : State) (e : Nat) : LaneState :=
  let l := s.lane e
  if s.fget (f_LE_TRAP_CAUSE_CAUSE e) = 0x20 then deposit l 0
  else
    let m := deposit { l with u := l.u.tick } 0
    { m with u := m.u.advance (.lane e), since := m.since + 1, disp := m.disp + 1 }

/-- LE_CTRL is written: RESET, SUSPEND, STEP, RUN with SKIP. -/
def State.laneControl (s : State) (e v : Nat) : State :=
  let s0 := if bit v 31 then s.fput (f_LE_CTRL_LOCK e) 1 else s
  let st := (s0.lane e).stat
  let startable := (st == 0 || st == 2 || st == 3 || st == 4) && !s0.isSet (f_CPR_DOM_RST e) && !heldSpare s0 e
  if bit v 3 then ((s0.putLane e LaneState.reset).putBit (f_VAT_STATUS_CKPT_VALID (e / 16)) (e % 16) false).presentTrap (e / 16)
  else
    let s1 := if bit v 2 && st == 1 then s0.putLane e { s0.lane e with stat := 2 } else s0
    if bit v 1 && startable && s1.clocked e && s1.bankUp (physical (.lane e) 0) then
      let s2 := (s1.putLane e { deposit (s1.lane e) 1 with stat := 1 }).laneIssue e (laneFetch s1 e) 0
      (if (s2.lane e).stat = 1 then s2.putLane e { s2.lane e with stat := 2 } else s2).presentTrap (e / 16)
    else if bit v 0 && startable then
      let l := if bit v 4 && st == 4 then s1.skip e else deposit (s1.lane e) 1
      (s1.putLane e { l with stat := 1 }).presentTrap (e / 16)
    else s1

/-- LE_EMU_CTL is written. -/
def State.emuControl (s : State) (e v : Nat) : State :=
  let s1 := s.fputs [(f_LE_EMU_CTL_PORT e, v / 256 % 256), (f_LE_EMU_CTL_DIST e, v % 16)]
  let l := s1.lane e
  let p := v / 256 % 256
  let d := v % 16
  if bit v 31 && l.stat != 1 && l.dep.isNone && decide (0x20 ≤ p ∧ p ≤ 0x2F) && decide (1 ≤ d ∧ d ≤ 8) then
    s1.putLane e { l with dep := some (p + 0x20, s1.reg (r_LE_EMU_RES e), d) } else s1

/-- LE_STR_POS is written (R111, R259). -/
def State.replay (s : State) (e v : Nat) : State :=
  let l := s.lane e
  if l.stat = 1 then s
  else match resolveK s v with
    | none => s.putLane e { l with refused := true }
    | some k => s.putLane e { l with k := k, node := firstNode (s.fget (f_LE_STR_CFG_SRC e)) (s.fget (f_LE_STR_CFG_MASK e)), overrun := false, refused := false }

/-- LE_STR_CFG is written. -/
def State.streamConfig (s : State) (e v : Nat) : State :=
  if (s.lane e).stat = 1 ∨ 8 < v % 16 then s else (s.putLane e (s.lane e)).fputs [(f_LE_STR_CFG_SRC e, v % 16), (f_LE_STR_CFG_MASK e, v / 2 ^ 16)]

/-- LE_PC is written: any pending branch is cleared. -/
def State.setLanePc (s : State) (e v : Nat) : State :=
  let l := s.lane e
  if l.stat = 1 then s else s.putLane e { l with u := { l.u with pc := v / 4 % 2 ^ 12 * 4, target := 0, dslot := 0 } }

/-- LE_STATUS as it reads. -/
def laneStatus (s : State) (e : Nat) : Nat :=
  let l := s.lane e
  l.stat + 8 * flag l.u.g + 16 * min 2 l.u.dslot + 64 * l.u.preN + 256 * flag l.u.cm + 512 * flag l.u.ov + 1024 * flag l.refused + 2048 * flag l.dep.isSome

def onLaneReg (s : State) (w : Wr) (e reg : Nat) (f : State → State) : State := if e < 256 then guarded s w reg f else s.at w.at_

def execLeRun (w : Wr) (e : Nat) (s : State) : Out := done (onLaneReg s w e (r_LE_CTRL e) fun t => t.laneControl e (w.value ||| 1))
def execLeStep (w : Wr) (e : Nat) (s : State) : Out := done (onLaneReg s w e (r_LE_CTRL e) fun t => t.laneControl e (w.value ||| 2))
def execLeSuspend (w : Wr) (e : Nat) (s : State) : Out := done (onLaneReg s w e (r_LE_CTRL e) fun t => t.laneControl e (w.value ||| 4))
def execLeSkip (w : Wr) (e : Nat) (s : State) : Out := done (onLaneReg s w e (r_LE_CTRL e) fun t => t.laneControl e (w.value ||| 0x11))
def execLeReset (w : Wr) (e : Nat) (s : State) : Out := done (onLaneReg s w e (r_LE_CTRL e) fun t => t.laneControl e (w.value ||| 8))
def execStreamReplay (w : Wr) (e : Nat) (s : State) : Out := done (onLaneReg s w e (r_LE_STR_POS e) fun t => t.replay e w.value)
def execEmuDepositArm (w : Wr) (e : Nat) (s : State) : Out := done (onLaneReg s w e (r_LE_EMU_CTL e) fun t => t.emuControl e (w.value ||| 2 ^ 31))

/-- A restart of the time base moves every cursor to the first entry of the instant of the new count, with OVERRUN set (R91). -/
def State.restartCursors (s : State) (k : Nat) : State :=
  (List.range 256).foldl (fun t e =>
    t.putLane e { t.lane e with k := k, node := firstNode (t.fget (f_LE_STR_CFG_SRC e)) (t.fget (f_LE_STR_CFG_MASK e)), overrun := true }) s

end Sys2Proof.Machine
end

