-- ==== Sys2Proof/Machine/Service.lean ====
section
/-!
DEFINITION. Machine/Service.lean: the service port (chapter 19): activation, the block protocol, the S-block functions, the lock, the user area and
the removal of the probe.
-/
namespace Sys2Proof.Machine

/-! ### State of the port -/

def State.setSvc (s : State) (x : SvcState) : State := { s with svc := x }

/-- A block of the user area, with DEFINED; at manufacture zero and DEFINED (log entry 31). -/
def areaDefault (_ : Nat) : Bool × List Byte := (true, zeros 64)
def State.area (s : State) (i : Nat) : Bool × List Byte := Sparse.get areaDefault s.svc.area i
def State.putArea (s : State) (i : Nat) (x : Bool × List Byte) : State :=
  { s with svc := { s.svc with area := Sparse.set areaDefault s.svc.area i x } }

def svcPwLocked (s : State) : Bool := s.svc.password.isSome && !s.svc.unlocked
def svcLockedOut (s : State) : Bool := s.svc.lockout || s.svc.erasing

/-- Bit i of the mask: block `base + i` is UNDEFINED. -/
def undefMask (s : State) (base : Nat) : Nat :=
  (List.range 32).foldl (fun n i => if (s.area (base + i)).1 then n else n + 2 ^ i) 0

/-- The logic die's copies follow the Cellar die's state (R465). -/
def State.svcCopy (s : State) : State :=
  (s.fputs [(f_SVC_STATUS_ATTEMPTS, s.svc.attempts), (f_SVC_STATUS_ERASING, flag s.svc.erasing), (f_SVC_STATUS_LOCKOUT, flag (svcLockedOut s)),
    (f_SVC_STATUS_LOCKED, flag (svcPwLocked s)), (f_SVC_STATUS_PWSET, flag s.svc.password.isSome), (f_SVC_STATUS_ACTIVE, flag s.svc.atr)]).fputs
    [(f_SVC_UNDEF_LO_MASK, undefMask s 0), (f_SVC_UNDEF_HI_MASK, undefMask s 32)]

/-- The last-write register (R462). -/
def State.lastWrite (s : State) (kind block status : Nat) : State :=
  s.fputs [(f_SVC_LASTWR_VALID, 1), (f_SVC_LASTWR_KIND, kind), (f_SVC_LASTWR_BLOCK, block), (f_SVC_LASTWR_STATUS, status)]

/-- A block written through its three steps (R463). -/
def State.writeArea (s : State) (i : Nat) (data : List Byte) : State := s.putArea i (true, padTo 64 data)

/-- Blocks `first`, `first + 1`, … take the data. -/
def State.writeAreas (s : State) (first : Nat) : List (List Byte) → State
  | [] => s
  | d :: t => (s.writeArea first d).writeAreas (first + 1) t

/-- Step 3 of R461. -/
def State.eraseEnd (s : State) : State :=
  (s.setSvc { s.svc with password := none, attempts := 0, lockout := false, erasing := false }).orReg r_SVC_IRQ 8

/-- A write fully received is completed (R461–R463). -/
def State.finishWrite (s : State) (w : SvcWrite) : State :=
  let s1 := (s.setSvc { s.svc with writing := none }).writeAreas w.block w.data
  ((if w.kind = 2 then s1.eraseEnd else s1).lastWrite w.kind (if w.kind = 1 then w.block else 0) OK).svcCopy

/-- A write in progress ends before the next event of the port. -/
def State.svcSettle (s : State) : State :=
  match s.svc.writing with
  | some w => s.finishWrite w
  | none => s

/-- A write received: finished at once with main power; on VCC_SP alone it is in progress until the port's next event. -/
def State.startWrite (s : State) (w : SvcWrite) : State :=
  if s.cel.main then s.finishWrite w else (s.setSvc { s.svc with writing := some w }).lastWrite w.kind (if w.kind = 1 then w.block else 0) OK

/-- Every event of the port begins so. -/
def State.svcAt (s : State) (t : Nat) : State := (s.at t).svcSettle

/-- A block leaves for the host. -/
def State.svcSend (s : State) (bytes : List Byte) : State := s.setSvc { s.svc with last := bytes, owed := false }

/-- The response of an S-block function. -/
def State.svcAnswer (s : State) (f : Nat) (inf : List Byte) : State := s.svcSend (svcBlock (224 + f) inf)

/-- A status and zero bytes. -/
def statusInf (st pad : Nat) : List Byte := leBytes 2 st ++ zeros pad

/-- An R-block naming the I-block expected next. -/
def State.svcR (s : State) (ee : Nat) : State := s.svcSend (svcBlock (128 + 16 * s.svc.nsHost + ee) [])

/-- An erroneous block (R453): counted, and answered with EE 1 or 2. -/
def State.svcBad (s : State) (ee : Nat) : State :=
  ((s.setSvc { s.svc with failures := s.svc.failures + 1 }).bump f_SVC_BLKERR_COUNT).svcR ee

/-! ### Activation (R451) -/

def atrBytes : List Byte := [0x3B#8, 0x94#8, 0x13#8, 0x0E#8, 0x44#8, 0x5A#8, 0x53#8, 0x50#8, 0x94#8]

/-- The mode whose sets the port serves: Dormant without main power, with the logic die dead, or once the part is Dormant (R19, R443, R458). -/
def atrMode (s : State) : Nat := if !s.cel.main ∨ !s.alive ∨ s.fget f_CPR_STATUS_STAGE = 5 then 5 else s.mode

/-- SERVICE_ACTIVATION (R450, R451, R458, R459): SP_RST_N rises with VCC_SP at `mv` millivolts; outside class B and class C there is no answer. -/
def execServiceActivation (at_ mv : Nat) (s : State) : Out :=
  let t := s.svcAt at_
  let b := decide (2700 ≤ mv ∧ mv ≤ 3300)
  let c := decide (1620 ≤ mv ∧ mv ≤ 1980)
  done (if !b && !c then t
    else
      let t1 := t.setSvc { t.svc with atr := true, mode := atrMode t, nsHost := 0, nsPart := 0, chain := [], replies := [], last := atrBytes, failures := 0,
                                      owed := false, unlocked := false }
      ((t1.fputs [(f_SVC_STATUS_CLASS, flag c), (f_SVC_STATUS_DI, 0), (f_SVC_STATUS_CLKSTOP, 0), (f_SVC_STATUS_BUSY, 0)]).orReg r_SVC_IRQ 1).svcCopy)

/-- PPS (R451): PPS1 of 0x11, 0x12 or 0x13 with T 14 is echoed and applied; any other request is answered without PPS1. -/
def execPps (at_ t : Nat) (pps1 : Option Nat) (s : State) : Out :=
  let u := s.svcAt at_
  let good : Option Nat := match pps1 with
    | some v => if t = 14 ∧ 0x11 ≤ v ∧ v ≤ 0x13 then some v else none
    | none => none
  done (if !u.svc.atr then u
    else match good with
      | some v => (u.svcSend ([0xFF#8, 0x1E#8, BitVec.ofNat 8 v, 0xFF#8 ^^^ 0x1E#8 ^^^ BitVec.ofNat 8 v])).fput f_SVC_STATUS_DI (v - 0x11)
      | none => (u.svcSend ([0xFF#8, BitVec.ofNat 8 (t % 16), 0xFF#8 ^^^ BitVec.ofNat 8 (t % 16)])).fput f_SVC_STATUS_DI 0)

/-! ### The S-block functions (R456) -/

/-- What stands before a function's own work: the length of its INF, then lockout. -/
def svcRefusal (s : State) (f : Nat) (inf : List Byte) : Option Nat :=
  let len := match f with | 4 => 8 | 5 => 4 | 6 => 1 | 7 => 65 | _ => 0
  if inf.length ≠ len then some E_PARAM_RANGE
  else if (f = 6 ∨ f = 7) ∧ 64 ≤ leNat (inf.take 1) then some E_PARAM_RANGE
  else if svcLockedOut s ∧ f ≠ 1 ∧ f ≠ 3 ∧ f ≠ 5 then some E_LOCKED
  else none

/-- How many zero bytes follow a status in a function's response. -/
def svcPad (f : Nat) : Nat := match f with | 4 | 5 | 7 => 2 | 6 => 66 | _ => 0

/-- A function runs after the common checks; a refusal changes nothing. -/
def State.svcFunction (s : State) (at_ f : Nat) (inf : List Byte) (run : State → State) : State :=
  let t := s.svcAt at_
  if !t.svc.atr ∨ (3 ≤ t.svc.failures ∧ f ≠ 1) then t
  else match svcRefusal t f inf with
    | some e => t.svcAnswer f (statusInf e (svcPad f))
    | none => run t

/-- RESYNCH: both N(S) return to 0, and a chain in progress is discarded. -/
def svcResynch (s : State) : State :=
  (s.setSvc { s.svc with nsHost := 0, nsPart := 0, chain := [], replies := [], failures := 0 }).svcAnswer 1 []

/-- POLL: the next reply chain goes out in place of a response. -/
def svcPoll (s : State) : State :=
  if s.linkUp && (s.cmd.tx.find? (fun p => p.path == 4)).isSome then (s.setSvc { s.svc with replies := [] }).svcLoad else s.svcAnswer 2 []

/-- STATUS. -/
def svcStatus (s : State) : State :=
  s.svcAnswer 3 (w4 s r_SVC_STATUS ++ w4 s r_SVC_LASTWR ++ leBytes 4 (undefMask s 0) ++ leBytes 4 (undefMask s 32))

/-- UNLOCK (R460): the attempt is counted first; a correct password sets the count back to 0; the 8th wrong one locks the port out. -/
def svcUnlock (inf : List Byte) (s : State) : State :=
  let n := s.svc.attempts + 1
  if s.svc.password = some (leNat inf) then
    (((s.setSvc { s.svc with attempts := 0, unlocked := true }).lastWrite 3 0 OK).svcCopy).svcAnswer 4 (leBytes 2 OK ++ [8#8, 0#8])
  else
    let out := decide (8 ≤ n)
    let s1 := (s.setSvc { s.svc with attempts := min 8 n, lockout := out }).bump f_SVC_PWFAIL_COUNT
    let s2 := (s1.orReg r_SVC_IRQ (2 + 4 * flag out)).lastWrite 3 0 E_LOCKED
    s2.svcCopy.svcAnswer 4 (leBytes 2 E_LOCKED ++ leBytes 1 (8 - min 8 n) ++ [0#8])

/-- FORCED_ERASE (R461). -/
def svcErase (inf : List Byte) (s : State) : State :=
  if inf ≠ [0x45#8, 0x52#8, 0x41#8, 0x53#8] then s.svcAnswer 5 (statusInf E_PARAM_RANGE 2)
  else
    let s1 := s.setSvc { s.svc with erasing := true }
    ((s1.startWrite ⟨2, 0, List.replicate 64 (zeros 64)⟩).svcCopy).svcAnswer 5 (statusInf OK 2)

/-- What a read of a block answers: its status and data (R463). -/
def areaRead (s : State) (i : Nat) : Nat × List Byte :=
  let (d, b) := s.area i
  if d then (OK, b) else (E_BLOCK_UNDEFINED, zeros 64)

/-- AREA_READ. -/
def svcAreaRead (inf : List Byte) (s : State) : State :=
  if svcPwLocked s then s.svcAnswer 6 (statusInf E_LOCKED 66)
  else
    let (st, b) := areaRead s (leNat inf)
    s.svcAnswer 6 (leBytes 2 st ++ zeros 2 ++ b)

/-- AREA_WRITE (R458, R459, R463): refused while locked, and in Traction and Quarantine. -/
def svcAreaWrite (inf : List Byte) (s : State) : State :=
  if svcPwLocked s then s.svcAnswer 7 (statusInf E_LOCKED 2)
  else if svcMode s = 1 ∨ svcMode s = 4 then s.svcAnswer 7 (statusInf E_MODE 2)
  else (s.startWrite ⟨1, leNat (inf.take 1), [inf.drop 1]⟩).svcAnswer 7 (statusInf OK 2)

def execResynch (at_ : Nat) (inf : List Byte) (s : State) : Out := done (s.svcFunction at_ 1 inf svcResynch)
def execPoll (at_ : Nat) (inf : List Byte) (s : State) : Out := done (s.svcFunction at_ 2 inf svcPoll)
def execStatus (at_ : Nat) (inf : List Byte) (s : State) : Out := done (s.svcFunction at_ 3 inf svcStatus)
def execUnlock (at_ : Nat) (inf : List Byte) (s : State) : Out := done (s.svcFunction at_ 4 inf (svcUnlock inf))
def execForcedErase (at_ : Nat) (inf : List Byte) (s : State) : Out := done (s.svcFunction at_ 5 inf (svcErase inf))
def execAreaRead (at_ : Nat) (inf : List Byte) (s : State) : Out := done (s.svcFunction at_ 6 inf (svcAreaRead inf))
def execAreaWrite (at_ : Nat) (inf : List Byte) (s : State) : Out := done (s.svcFunction at_ 7 inf (svcAreaWrite inf))

/-- The function of an S-block request by its number. -/
def State.svcDispatch (s : State) (at_ f : Nat) (inf : List Byte) : State :=
  match f with
  | 1 => s.svcFunction at_ 1 inf svcResynch
  | 2 => s.svcFunction at_ 2 inf svcPoll
  | 3 => s.svcFunction at_ 3 inf svcStatus
  | 4 => s.svcFunction at_ 4 inf (svcUnlock inf)
  | 5 => s.svcFunction at_ 5 inf (svcErase inf)
  | 6 => s.svcFunction at_ 6 inf (svcAreaRead inf)
  | 7 => s.svcFunction at_ 7 inf (svcAreaWrite inf)
  | _ => s.svcBad 2

/-! ### Blocks (R452, R453, R455) -/

/-- A value of a packet's parameters, by type. -/
def tlvNat (l : List (Nat × List Byte)) (ty : Nat) : Nat := match l.find? (fun p => p.1 == ty) with | some p => leNat p.2 | none => 0

/-- What the Cellar die answers by itself to one of the Dormant sets' commands (R443, R458). -/
def dormantAnswer (s : State) (op : Nat) (ps : List (Nat × List Byte)) : Nat × List Byte :=
  let a := tlvNat ps 0x0100
  let n := tlvNat ps 0x0101
  match op with
  | 0x0C01 => (OK, cellarSummary s)
  | 0x0C02 =>
    if decide (1 ≤ n ∧ n ≤ 960) && (match newestEntry s.cel with | some e => decide (a ≤ e.eno) | none => false) then
      (OK, ((heldEntries s.cel).filter (fun e => decide (a ≤ e.eno ∧ e.eno < a + n))).flatMap CelEntry.bytes)
    else (E_PARAM_RANGE, leBytes 2 (if 1 ≤ n ∧ n ≤ 960 then 0x0100 else 0x0101))
  | _ =>
    if sealsHeld s.cel a n then (OK, (mirrorSeals s.cel a n).flatMap (·.2))
    else (E_PARAM_RANGE, leBytes 2 (if (mirrorSeals s.cel a a).isEmpty then 0x0100 else 0x0101))

/-- An answer that the Cellar die forms goes out as the port's reply chain. -/
def State.svcOwn (s : State) (p : Reply) : State := (s.setSvc { s.svc with replies := chunks 254 300 (packetBytes s p) }).svcFirst

/-- A packet served by the Cellar die alone. -/
def State.svcDormantPacket (s : State) (bs : List Byte) : State :=
  let h := headerOf bs
  let r := reqOf s 4 h
  let say (st : Nat) (b : List Byte) : State := s.svcOwn ⟨4, 8, h.opcode, h.seq, h.world, st, false, false, 0, replyTlvs h.opcode st b, []⟩
  if bs.length ≠ 20 + h.plen ∨ h.flags ≠ 0 ∨ h.ridx ≠ 0 then s.svcBad 2
  else if h.ver ≠ 1 then say E_VERSION []
  else if h.session ≠ 0 then say E_SESSION []
  else match openBody s h none bs with
    | none => s.svcBad 2
    | some body =>
      if !opcodeListed h.opcode then say E_OPCODE []
      else if !svcSet s false h.world h.opcode then say E_MODE []
      else match lockCheck s r, tlvCheck h.opcode body, parseTlvs body.length 1 body with
        | some e, _, _ => say e []
        | none, some e, _ => say (e % 0x10000) (blamed e)
        | none, none, ps => let (st, b) := dormantAnswer s h.opcode (ps.getD []); say st b

/-- A command chain is complete: refused while a command is outstanding; otherwise forwarded to the logic die, which answers later. -/
def State.svcPacket (s : State) (bs : List Byte) : State :=
  let s1 := s.setSvc { s.svc with owed := true }
  if s.svc.cmdOut then
    let h := headerOf bs
    let p : Reply := ⟨4, if h.secured then h.session % 8 else 8, h.opcode, h.seq, h.world, E_QUEUE_FULL, false, false, 0, [], []⟩
    (s1.svcOwn p).bump f_CMD_REFUSED_VALUE
  else if svcMode s = 5 then s1.svcDormantPacket bs
  else
    let s2 := s1.setSvc { s1.svc with cmdOut := true }
    if s.linkUp then s2.addRx ⟨4, 0, bs⟩ else s2.hold (.packet bs)

/-- A good I-block: with M the chain goes on and the block is acknowledged; without, the chain is complete. -/
def State.svcI (s : State) (more : Bool) (inf : List Byte) : State :=
  let s1 := s.setSvc { s.svc with nsHost := 1 - s.svc.nsHost, failures := 0, replies := [] }
  if more then (s1.setSvc { s1.svc with chain := s1.svc.chain ++ inf }).svcR 0
  else (s1.setSvc { s1.svc with chain := [] }).svcPacket (s.svc.chain ++ inf)

/-- A good R-block: EE 0 with the next N(S) acknowledges a block of the part's chain, and the next follows; otherwise the last block is repeated. -/
def State.svcAck (s : State) (n ee : Nat) : State :=
  if ee ≠ 0 ∨ n = s.svc.nsPart then s
  else match s.svc.replies with
    | _ :: rest => (s.setSvc { s.svc with replies := rest, nsPart := 1 - s.svc.nsPart, failures := 0 }).svcFirst
    | [] => s

/-- SERVICE_BLOCK_RECEIVED (R452, R453): `edc` and `parity` say whether its check and its characters are good. After a third failure only RESYNCH is
taken. -/
def execServiceBlockReceived (at_ pcb len : Nat) (inf : List Byte) (edc parity : Bool) (s : State) : Out :=
  let t := s.svcAt at_
  done (if !t.svc.atr then t
    else if !edc || !parity then t.svcBad 1
    else if len = 255 ∨ inf.length ≠ len then t.svcBad 2
    else if pcb / 32 = 6 then
      (if 1 ≤ pcb % 32 ∧ pcb % 32 ≤ 7 then t.svcDispatch at_ (pcb % 32) inf else t.svcBad 2)
    else if 3 ≤ t.svc.failures then t.svcBad 2
    else if pcb &&& 0x9F = 0 then
      (if pcb / 64 = t.svc.nsHost then t.svcI (bit pcb 5) inf else t.svcBad 2)
    else if pcb &&& 0xEC = 0x80 ∧ pcb % 4 ≠ 3 then t.svcAck (pcb / 16 % 2) (pcb % 4)
    else if pcb / 32 = 7 then t
    else t.svcBad 2)

/-- SERVICE_CWT_TIMEOUT (R453): a gap within a block discards it as erroneous. -/
def execServiceCwtTimeout (at_ : Nat) (s : State) : Out :=
  let t := s.svcAt at_
  done (if t.svc.atr then t.svcBad 1 else t)

/-- SERVICE_BUSY (R454): the answer is not ready within 12 etu. -/
def execServiceBusy (at_ : Nat) (s : State) : Out :=
  let t := s.at at_
  done (if t.svc.atr ∧ (t.svc.owed ∨ t.svc.writing.isSome) then t.fput f_SVC_STATUS_BUSY 1 else t)

/-- CLOCK_STOP (R454, R464): the host stops or restarts SP_CLK; inside a character it makes that block erroneous. On the restart the busy signal is
released and the answer goes out. -/
def execClockStop (at_ : Nat) (restart inside : Bool) (s : State) : Out :=
  let t := s.svcAt at_
  done (if !t.svc.atr then t
    else if restart then
      let t1 := t.fput f_SVC_STATUS_CLKSTOP 0
      if t1.svc.cmdOut && t1.svc.owed then t1 else (t1.fput f_SVC_STATUS_BUSY 0).svcPump
    else
      let t1 := t.fput f_SVC_STATUS_CLKSTOP 1
      if inside then t1.svcBad 1 else t1)

/-! ### The end of an activation (R459, R462, R464) -/

/-- The activation ends: the lock returns, both N(S) and any chain are forgotten. A command forwarded to the logic die goes on. -/
def State.svcOff (s : State) : State :=
  ((s.setSvc { s.svc with atr := false, nsHost := 0, nsPart := 0, chain := [], replies := [], failures := 0, owed := false, unlocked := false }).fputs
    [(f_SVC_STATUS_BUSY, 0), (f_SVC_STATUS_DI, 0), (f_SVC_STATUS_CLKSTOP, 0), (f_SVC_STATUS_CLASS, 0)]).svcCopy

/-- DEACTIVATION (R451, R462): SP_RST_N falls. -/
def execDeactivation (at_ : Nat) (s : State) : Out := done ((s.svcAt at_).svcOff)

/-- The first blocks of a write are done, and the next is left UNDEFINED when it was torn (R463). -/
def State.tearWrite (s : State) (w : SvcWrite) (whole : Nat) (torn : Bool) : State :=
  let s1 := (s.setSvc { s.svc with writing := none }).writeAreas w.block (w.data.take whole)
  if torn ∧ whole < w.data.length then (s1.putArea (w.block + whole) (false, (s1.area (w.block + whole)).2)).orReg r_SVC_IRQ 16 else s1

/-- SERVICE_PROBE_REMOVAL (R462, R463): VCC_SP fails. With main power a write fully received completes; without it `whole` blocks of the write are
done and the next lies between steps 1 and 3 when `torn`. A forced erase not finished leaves ERASING set (R461). -/
def execServiceProbeRemoval (at_ whole : Nat) (torn : Bool) (s : State) : Out :=
  let t := s.at at_
  done (match t.svc.writing with
    | some w =>
      if t.cel.main ∨ (w.data.length ≤ whole ∧ !torn) then (t.finishWrite w).svcOff else (t.tearWrite w whole torn).svcOff
    | none => t.svcOff)

/-- What main power's loss does to the port (R462): with a command outstanding and the probe present the part sends S(POWER_LOST); from then on the
Dormant sets are served. -/
def State.svcPowerLost (s : State) : State :=
  let s1 := (s.setSvc { s.svc with mode := 5, cmdOut := false, owed := false }).fput f_SVC_STATUS_BUSY 0
  if s.svc.atr && s.svc.cmdOut then s1.svcSend (svcBlock (192 + 8) []) else s1

/-! ### Commands of class 0x0D (R446, R457, R459) -/

/-- SERVICE.READ_CONFIG: the port's configuration. -/
def execServiceReadConfig (r : Req) (s : State) : Out :=
  done (runCmd s r 0x0D06 anyLc (fun _ => [])
    (readEff fun t => w4 t r_SVC_CTRL ++ w4 t r_SVC_STATUS ++ w4 t r_SVC_LASTWR ++ leBytes 4 (undefMask t 0) ++ leBytes 4 (undefMask t 32)))

/-- SERVICE.SET_PASSWORD (R459): sets or clears the password; the count and any lockout are cleared. An activation under way stays as locked as it
was. -/
def execServiceSetPassword (r : Req) (password : Option Nat) (s : State) : Out :=
  done (runCmd s r 0x0D07 anyLc (fun _ => [need (match password with | some p => decide (p < 2 ^ 64) | none => true) (blame E_LENGTH 0x0100)])
    (okEff fun t => (t.setSvc { t.svc with password := password, attempts := 0, lockout := false, unlocked := t.svc.atr && !svcPwLocked t }).svcCopy))

/-- SERVICE.READ_AREA (R457, R463): a range of blocks; one that is UNDEFINED reads as zeros with E_BLOCK_UNDEFINED. -/
def execServiceReadArea (r : Req) (first count : Nat) (s : State) : Out :=
  done (runCmd s r 0x0D08 anyLc (fun _ => [need (decide (first < 64)) (blame E_PARAM_RANGE 0x0100), need (decide (1 ≤ count ∧ first + count ≤ 64)) (blame E_PARAM_RANGE 0x0101)])
    (fun t =>
      let rs := (List.range count).map (fun i => areaRead t (first + i))
      (t, some (if rs.all (fun x => x.1 == OK) then OK else E_BLOCK_UNDEFINED, rs.flatMap (·.2)))))

/-- SERVICE.WRITE_AREA (R457, R463): whole blocks from `first` on. -/
def execServiceWriteArea (r : Req) (first : Nat) (data : List Byte) (s : State) : Out :=
  done (runCmd s r 0x0D09 anyLc
    (fun _ => [need (decide (first < 64)) (blame E_PARAM_RANGE 0x0100), need (decide (1 ≤ data.length ∧ data.length % 64 = 0 ∧ first + data.length / 64 ≤ 64)) (blame E_PARAM_RANGE 0x0008)])
    (okEff fun t => (t.writeAreas first (chunks 64 64 data)).svcCopy))

end Sys2Proof.Machine
end

