-- ==== Sys2Proof/Machine/Tag.lean ====
section
/-!
DEFINITION. Machine/Tag.lean: the passport tag (chapter 20): the radio states, layer 4 and its commands, the passport's blocks and their atomic writes,
wired items, and the commands of class 0x0D that concern it.
-/
namespace Sys2Proof.Machine

def State.setTag (s : State) (x : TagState) : State := { s with tag := x }

/-! ### Blocks (R469, R475) -/

/-- A block as it left manufacture: the originality signature in blocks 40–43, zero elsewhere (log entry 31). -/
def blockDefault (i : Nat) : TagBlock :=
  let b := if 40 ≤ i ∧ i ≤ 43 then (((beBytes 64 Config.originality.toNat).drop (16 * (i - 40))).take 16) else zeros 16
  ⟨⟨0, true, b⟩, ⟨0, false, zeros 16⟩⟩

def State.tagBlock (s : State) (i : Nat) : TagBlock := Sparse.get blockDefault s.tag.blocks i
def State.putTagBlock (s : State) (i : Nat) (b : TagBlock) : State := s.setTag { s.tag with blocks := Sparse.set blockDefault s.tag.blocks i b }

/-- Whether copy 1 is the copy in force. -/
def secondInForce (b : TagBlock) : Bool :=
  if b.c0.valid && b.c1.valid then b.c1.gen == (b.c0.gen + 1) % 65536 else b.c1.valid

def TagBlock.inForce (b : TagBlock) : TagCopy := if secondInForce b then b.c1 else b.c0

/-- Steps 1 and 2 of R475: the copy not in force takes the data; its commit word is cleared. -/
def TagBlock.prepared (b : TagBlock) (data : List Byte) : TagBlock :=
  let c : TagCopy := ⟨0, false, padTo 16 data⟩
  if secondInForce b then { b with c0 := c } else { b with c1 := c }

/-- Step 4: the commit word with GEN + 1. -/
def TagBlock.written (b : TagBlock) (data : List Byte) : TagBlock :=
  let c : TagCopy := ⟨(b.inForce.gen + 1) % 65536, true, padTo 16 data⟩
  if secondInForce b then { b with c0 := c } else { b with c1 := c }

/-- Committed content of a block: while the group word is valid, the staged content (R476). -/
def State.passport (s : State) (i : Nat) : List Byte :=
  match (if s.tag.group then s.tag.staged.find? (fun p => p.1 == i) else none) with
  | some p => p.2
  | none => (s.tagBlock i).inForce.data

def State.passportBytes (s : State) (first count : Nat) : List Byte := (List.range count).flatMap (fun i => s.passport (first + i))

/-! ### Supplies and status (R468, R478, R481) -/

/-- 0 field, 1 VBAK, 2 main. -/
def tagPower (s : State) : Nat := if s.cel.main then 2 else if s.cel.vbak then 1 else 0

/-- The energy check of R475. -/
def energyOk (s : State) : Bool := tagPower s != 0 || decide (2600 ≤ s.tag.store)

/-- VHARV supplies (R478). -/
def vharvOn (s : State) : Bool :=
  s.isSet f_TAG_CTRL_VHARV_EN && s.tag.rf != 0 && decide (4500 ≤ s.tag.strength) && decide (2600 ≤ s.tag.store)

/-- The logic die's copies follow the tag's state. -/
def State.tagCopies (s : State) : State :=
  (s.fputs [(f_TAG_STATUS_VHARV_ON, flag (vharvOn s)), (f_TAG_STATUS_ROLLING, flag s.tag.group), (f_TAG_STATUS_STAGING, flag (!s.tag.staged.isEmpty && !s.tag.group)),
    (f_TAG_STATUS_AUTH, flag s.tag.auth), (f_TAG_STATUS_ATTEMPTS, s.tag.attempts), (f_TAG_STATUS_LOCKOUT, flag s.tag.lockout)]).fputs
    [(f_TAG_STATUS_PWSET, flag s.tag.password.isSome), (f_TAG_STATUS_FIELD, flag (s.tag.rf != 0)), (f_TAG_STATUS_DR, s.tag.dr), (f_TAG_STATUS_DS, s.tag.ds),
     (f_TAG_STATUS_PROT, flag s.tag.prot), (f_TAG_STATUS_STATE, s.tag.rf)]

/-! ### Wired items (R476, R477) -/

/-- No command chain or response chain is in progress. -/
def rfFree (s : State) : Bool := s.tag.cmd.isEmpty && s.tag.resp.length ≤ 1 && s.tag.held.isNone

def wiredResult (s : State) (op st : Nat) : State := s.fputs [(f_TAG_WRESULT_VALID, 1), (f_TAG_WRESULT_OP, op), (f_TAG_WRESULT_STATUS, st)]

/-- The blocks staged all lie in 0–39, or all in 64–511. -/
def oneRange (l : List (Nat × List Byte)) : Bool := l.all (fun p => p.1 < 40) || l.all (fun p => decide (64 ≤ p.1))

/-- What keeps a block from being staged (R481). -/
def stageStatus (s : State) (b : Nat) : Nat :=
  if (40 ≤ b ∧ b < 64) ∨ 511 < b then E_PARAM_RANGE
  else if s.tag.group then E_BUSY
  else if 40 ≤ s.tag.staged.length ∧ !s.tag.staged.any (fun p => p.1 == b) then E_QUEUE_FULL
  else OK

def commitStatus (s : State) : Nat :=
  if s.tag.group then E_BUSY else if s.tag.staged.isEmpty || !oneRange s.tag.staged then E_PARAM_CONFLICT else OK

/-- One item runs to its end. -/
def State.tagItem (s : State) : TagItem → State
  | .stage b data =>
    let st := stageStatus s b
    let s1 := if st = OK then s.setTag { s.tag with staged := s.tag.staged.filter (fun p => p.1 != b) ++ [(b, padTo 16 data)] } else s
    wiredResult s1 1 st
  | .commit =>
    let st := commitStatus s
    let s1 := if st = OK then s.setTag { s.tag with group := true, rolled := 0 } else s
    let s2 := wiredResult s1 2 st
    match s2.tag.req with
    | some (r, op) => (s2.setTag { s2.tag with req := none }).reply r op st []
    | none => s2
  | .discard =>
    if s.tag.group then wiredResult s 3 E_BUSY else wiredResult (s.setTag { s.tag with staged := [] }) 3 OK

/-- The oldest item is applied. -/
def State.tagOne (s : State) : State :=
  match s.tag.items with
  | [] => s
  | (x, _) :: rest => (s.setTag { s.tag with items := rest }).tagItem x

/-- Between RF commands the items queued are applied in order. -/
def State.tagDrain (s : State) : Nat → State
  | 0 => s
  | n + 1 => if rfFree s && !s.tag.items.isEmpty then s.tagOne.tagDrain n else s

def State.tagRunItems (s : State) : State := (s.tagDrain s.tag.items.length).tagCopies

def State.tagQueue (s : State) (xs : List TagItem) : State :=
  (s.setTag { s.tag with items := s.tag.items ++ xs.map (fun x => (x, s.now)) }).tagRunItems

/-- The next block of the committed group is copied; after the last the group word is cleared (R476). -/
def State.rollOne (s : State) : State :=
  match s.tag.staged[s.tag.rolled]? with
  | some (b, data) => (s.putTagBlock b ((s.tagBlock b).written data)).setTag { (s.putTagBlock b ((s.tagBlock b).written data)).tag with rolled := s.tag.rolled + 1 }
  | none => s

def State.rollEnd (s : State) : State :=
  if s.tag.group ∧ s.tag.staged.length ≤ s.tag.rolled then (s.setTag { s.tag with group := false, staged := [], rolled := 0 }).orReg r_TAG_IRQ 16 else s

def State.rollMany (s : State) : Nat → State
  | 0 => s
  | n + 1 => if s.tag.group && energyOk s && rfFree s then (s.rollOne.rollEnd).rollMany n else s

/-- ROLL_FORWARD (R476, R477): up to `n` blocks of the committed group are copied; `store` is the field store in millivolts. -/
def execRollForward (at_ n store : Nat) (s : State) : Out :=
  let t := s.at at_
  done (((t.setTag { t.tag with store := store }).rollMany n).tagCopies)

/-- WIRED_ITEM_WAIT (R477): an item that has waited 50 ms behind RF traffic makes the tag answer the reader's next block with S(WTX). -/
def execWiredItemWait (at_ : Nat) (s : State) : Out :=
  let t := s.at at_
  let due := match t.tag.items with | (_, q) :: _ => decide (q + 50 * ticksPerMs ≤ t.now) | [] => t.tag.group
  done (if due && !rfFree t && t.tag.wtx == 0 then t.setTag { t.tag with wtx := 1 } else t)

/-- The operation that TAG_WCMD holds is queued. -/
def State.tagGo (s : State) : State :=
  match s.fget f_TAG_WCMD_OP with
  | 1 => s.tagQueue [.stage (s.fget f_TAG_WCMD_BLOCK) ((List.range 4).flatMap (fun i => w4 s (r_TAG_WBUF i)))]
  | 2 => s.tagQueue [.commit]
  | 3 => s.tagQueue [.discard]
  | _ => s

/-- A write of TAG_WCMD (R481): with GO the operation is queued. GO reads 1 until it is, which waits for a session of the link (R18); while it does, GO
is ignored. -/
def State.tagWcmd (s : State) (v : Nat) : State :=
  let s1 := if s.isSet f_TAG_WCMD_GO then s else (s.fput f_TAG_WCMD_OP (v / 2 ^ 29 % 4)).fput f_TAG_WCMD_BLOCK (v % 512)
  if !bit v 31 ∨ v / 2 ^ 29 % 4 = 0 ∨ s.isSet f_TAG_WCMD_GO then s1
  else if s1.linkUp then s1.tagGo
  else s1.raise f_TAG_WCMD_GO

/-- TAG_STAGE: OP 1 stages TAG_WBUF as BLOCK. -/
def execTagStage (w : Wr) (s : State) : Out := done (guarded s w r_TAG_WCMD fun t => t.tagWcmd w.value)
/-- TAG_COMMIT: OP 2 writes the group word. -/
def execTagCommit (w : Wr) (s : State) : Out := done (guarded s w r_TAG_WCMD fun t => t.tagWcmd w.value)
/-- TAG_DISCARD: OP 3 discards the staged blocks. -/
def execTagDiscard (w : Wr) (s : State) : Out := done (guarded s w r_TAG_WCMD fun t => t.tagWcmd w.value)

/-! ### Radio states (R466, R467) -/

def State.tagOut (s : State) (bs : List Byte) : State := s.setTag { s.tag with out := bs }

/-- The state of layer 3 is entered afresh; layer 4 and the password check are forgotten. -/
def State.tagTo (s : State) (rf : Nat) : State :=
  s.setTag { s.tag with rf := rf, level := 1, prot := false, ds := 0, dr := 0, auth := false, cmd := [], resp := [], held := none, wtx := 0, bno := 1 }

/-- FIELD_ON (R467, R478): the tag enters IDLE; `strength` in mA/m, `store` in millivolts. -/
def execFieldOn (at_ strength store : Nat) (s : State) : Out :=
  let t := (s.at at_).tagTo 1
  done (((t.setTag { t.tag with strength := strength, store := store }).orReg r_TAG_IRQ 1).tagCopies)

/-- FIELD_LOSS (R467, R479): no memory of the tag's state; a response in progress is discarded. -/
def execFieldLoss (at_ : Nat) (s : State) : Out :=
  let t := (s.at at_).tagTo 0
  done (((t.setTag { t.tag with strength := 0, store := 0 }).orReg r_TAG_IRQ 1).tagRunItems)

/-- REQA (R466, R467): answered in IDLE with ATQA; WUPA also in HALT. -/
def execReqa (at_ : Nat) (wupa : Bool) (s : State) : Out :=
  let t := s.at at_
  done (if t.isSet f_TAG_CTRL_EN ∧ (t.tag.rf = 1 ∨ (wupa ∧ t.tag.rf = 4)) then ((t.tagTo 2).tagOut [0x44#8, 0x00#8]).tagCopies else t)

def uidByte (i : Nat) : Byte := BitVec.ofNat 8 (Config.uid.toNat / 2 ^ (8 * i))

/-- The five bytes of a cascade level. -/
def cascade (level : Nat) : List Byte :=
  let b := if level = 1 then [0x88#8, uidByte 0, uidByte 1, uidByte 2] else [uidByte 3, uidByte 4, uidByte 5, uidByte 6]
  b ++ [b.foldl (fun x y => x ^^^ y) 0#8]

/-- Bytes as bits, least significant first, and back. -/
def bitsLsb (bs : List Byte) : List Bool := bs.flatMap (fun b => (List.range 8).map (fun i => bit b.toNat i))
def packBits (l : List Bool) : List Byte :=
  leBytes ((l.length + 7) / 8) (l.foldr (fun b n => 2 * n + flag b) 0)

/-- ANTICOLLISION (R467): `bits` are the UID bits the reader sends; all 40 of a level select the tag, fewer ask for the rest. -/
def execAnticollision (at_ level : Nat) (bits : List Bool) (s : State) : Out :=
  let t := s.at at_
  let mine := bitsLsb (cascade level)
  done (if t.tag.rf ≠ 2 ∨ level ≠ t.tag.level ∨ level < 1 ∨ 2 < level ∨ mine.take bits.length ≠ bits then t
    else if bits.length < 40 then t.tagOut (packBits (mine.drop bits.length))
    else if level = 1 then (t.setTag { t.tag with level := 2 }).tagOut [0x04#8]
    else ((t.setTag { t.tag with rf := 3 }).tagOut [0x20#8]).tagCopies)

/-- HLTA (R467): obeyed only before RATS. -/
def execHlta (at_ : Nat) (s : State) : Out :=
  let t := s.at at_
  done (if t.tag.rf = 3 ∧ !t.tag.prot then (t.tagTo 4).tagCopies else t)

/-- FSD by FSDI. -/
def fsdOf (i : Nat) : Nat := at! [16, 24, 32, 40, 48, 64, 96, 128] i 256

/-- RATS (R467): the ATS; layer 4 is active. A CID named is taken as 0. -/
def execRats (at_ param : Nat) (s : State) : Out :=
  let t := s.at at_
  done (if t.tag.rf = 3 ∧ !t.tag.prot then
      ((t.setTag { t.tag with prot := true, fsd := fsdOf (param / 16 % 16), bno := 1 }).tagOut
        [0x09#8, 0x78#8, 0x33#8, 0x60#8, 0x00#8, 0x44#8, 0x5A#8, 0x50#8, 0x54#8]).tagCopies
    else t)

/-- RF_PPS (R467): rates up to MAXRATE are taken; a request above it is answered at the rate in force. -/
def execRfPps (at_ dr ds : Nat) (s : State) : Out :=
  let t := s.at at_
  let cap := t.fget f_TAG_CTRL_MAXRATE
  done (if t.tag.rf ≠ 3 ∨ !t.tag.prot then t
    else if dr ≤ cap ∧ ds ≤ cap then ((t.setTag { t.tag with dr := dr, ds := ds }).tagOut [0xD0#8]).tagCopies
    else t.tagOut [0xD0#8])

/-- S(DESELECT) is answered and the tag halts. -/
def State.tagDeselect (s : State) : State :=
  if s.tag.rf = 3 ∧ s.tag.prot then ((s.tagTo 4).tagOut [0xC2#8]).tagRunItems else s

def execDeselect (at_ : Nat) (s : State) : Out := done ((s.at at_).tagDeselect)

/-! ### Layer-4 commands (R468) -/

/-- A tag command's answer: its status, and the data carried when that is OK. -/
abbrev TagAnswer := State × Nat × List Byte

def tagNo (s : State) (e : Nat) : TagAnswer := (s, e, [])

/-- INFO. -/
def tagInfo (s : State) : TagAnswer :=
  (s, OK, [1#8] ++ w4 s.tagCopies r_TAG_STATUS ++ leBytes 1 (16 - s.tag.attempts) ++ leBytes 1 (tagPower s) ++ [0#8] ++ ((s.passportBytes 1 1).drop 8).take 4)

/-- READ. -/
def tagRead (first count : Nat) (s : State) : TagAnswer :=
  if 1 ≤ count ∧ count ≤ 64 ∧ first + count ≤ 512 then (s, OK, s.passportBytes first count) else tagNo s E_PARAM_RANGE

/-- PW_CHECK (R474): the attempt is counted and committed before the comparison. -/
def tagPassword (pw : Nat) (s : State) : TagAnswer :=
  match (if s.tag.lockout then none else s.tag.password) with
  | none => tagNo s E_PARAM_CONFLICT
  | some (p, echo) =>
    if pw = p then ((s.setTag { s.tag with attempts := 0, auth := true }).tagCopies, OK, leBytes 4 echo ++ [16#8])
    else
      let n := s.tag.attempts + 1
      let out := decide (16 ≤ n)
      tagNo ((((s.setTag { s.tag with attempts := min 16 n, lockout := out }).bump f_TAG_PWFAIL_VALUE).orReg r_TAG_IRQ (4 + 8 * flag out)).tagCopies) E_SESSION

/-- WRITE (R468, R475). `cut` tells that the field collapses or a step fails during the write: `some false` before the commit word is complete,
`some true` after; the reader then sees no answer. -/
def tagWrite (block : Nat) (data : List Byte) (cut : Option Bool) (s : State) : TagAnswer :=
  if s.tag.lockout then tagNo s E_PARAM_CONFLICT
  else if !s.tag.auth then tagNo s E_SESSION
  else if block < 288 ∨ 511 < block then tagNo s E_PARAM_RANGE
  else if s.tag.group && (s.tag.staged.drop s.tag.rolled).any (fun p => p.1 == block) then tagNo s E_BUSY
  else
    let b := s.tagBlock block
    if !energyOk s ∨ cut = some false then tagNo (s.putTagBlock block (b.prepared data)) E_BUSY
    else (((s.putTagBlock block (b.written data)).bump f_TAG_RFWRITES_VALUE).orReg r_TAG_IRQ 2, OK, [])

/-- SEAL. -/
def tagSeal (q : Nat) (s : State) : TagAnswer :=
  match mirrorSeals s.cel q q with
  | (_, b) :: _ => (s, OK, b)
  | [] => tagNo s E_PARAM_RANGE

/-- ENTRIES. -/
def tagEntries (first count : Nat) (s : State) : TagAnswer :=
  if !s.isSet f_TAG_CTRL_RECORD then tagNo s E_PARAM_CONFLICT
  else if decide (1 ≤ count ∧ count ≤ 16) && (match newestEntry s.cel with | some e => decide (first ≤ e.eno) | none => false) then
    (s, OK, ((heldEntries s.cel).filter (fun e => decide (first ≤ e.eno ∧ e.eno < first + count))).flatMap CelEntry.bytes)
  else tagNo s E_PARAM_RANGE

/-- The first or next I-block of the response chain. -/
def State.tagNext (s : State) : State :=
  match s.tag.resp with
  | [] => s
  | b :: rest => s.tagOut (leBytes 1 (2 + s.tag.bno + 16 * flag (!rest.isEmpty)) ++ b)

/-- A command's answer is formed in full and its first block leaves. -/
def State.tagAnswer (a : TagAnswer) : State :=
  let (s, st, data) := a
  ((s.setTag { s.tag with cmd := [], resp := chunks (s.tag.fsd - 3) 300 (leBytes 2 st ++ (if st = OK then data else [])) }).tagNext).tagRunItems

/-- A complete command arrives in layer 4: the tag's block number toggles and the command is answered. -/
def State.tagRun (s : State) (at_ : Nat) (f : State → TagAnswer) : State :=
  let t := s.at at_
  if t.tag.rf = 3 ∧ t.tag.prot then State.tagAnswer (f (t.setTag { t.tag with bno := 1 - t.tag.bno })) else t

def execTagInfo (at_ : Nat) (s : State) : Out := done (s.tagRun at_ tagInfo)
def execTagRead (at_ first count : Nat) (s : State) : Out := done (s.tagRun at_ (tagRead first count))
def execPwCheck (at_ password : Nat) (s : State) : Out := done (s.tagRun at_ (tagPassword password))

/-- TAG_SUMMARY: the summary of R378. -/
def execTagSummary (at_ : Nat) (s : State) : Out := done (s.tagRun at_ (fun t => (t, OK, cellarSummary t)))
def execTagSeal (at_ sealSeq : Nat) (s : State) : Out := done (s.tagRun at_ (tagSeal sealSeq))
def execTagEntries (at_ first count : Nat) (s : State) : Out := done (s.tagRun at_ (tagEntries first count))

/-- TAG_WRITE: `store` is the field store in millivolts; a write cut off is not answered. -/
def execTagWrite (at_ block : Nat) (data : List Byte) (store : Nat) (cut : Option Bool) (s : State) : Out :=
  let t := s.setTag { s.tag with store := store }
  let u := t.tagRun at_ (fun x => if data.length ≠ 16 then tagNo x E_LENGTH else tagWrite block data cut x)
  done (if cut.isSome then (u.setTag { u.tag with resp := [], out := [] }).tagRunItems else u)

/-- The commands by CMD, from the INF bytes of a chain. -/
def tagCommand (inf : List Byte) (s : State) : TagAnswer :=
  let p := inf.drop 1
  let n (o k : Nat) : Nat := leNat ((p.drop o).take k)
  let len (k : Nat) (a : TagAnswer) : TagAnswer := if p.length = k then a else tagNo s E_LENGTH
  match (at! inf 0 0).toNat with
  | 0x10 => len 0 (tagInfo s)
  | 0x11 => len 3 (tagRead (n 0 2) (n 2 1) s)
  | 0x12 => len 18 (tagWrite (n 0 2) (p.drop 2) none s)
  | 0x13 => len 8 (tagPassword (n 0 8) s)
  | 0x14 => len 0 (s, OK, cellarSummary s)
  | 0x15 => len 8 (tagSeal (n 0 8) s)
  | 0x16 => len 5 (tagEntries (n 0 4) (n 4 1) s)
  | _ => tagNo s E_OPCODE

/-- A reader's block in layer 4: an I-block of a command, or an R-block within a response chain. -/
def State.tagBlockIn (s : State) (pcb : Nat) (inf : List Byte) : State :=
  if pcb &&& 0xEE = 0x02 then
    if bit pcb 4 then
      let t := s.setTag { s.tag with cmd := s.tag.cmd ++ inf, bno := 1 - s.tag.bno, resp := [] }
      t.tagOut (leBytes 1 (0xA2 + t.tag.bno))
    else s.tagRun s.now (tagCommand (s.tag.cmd ++ inf))
  else if pcb &&& 0xEE = 0xA2 then
    if pcb % 2 = s.tag.bno then s
    else if bit pcb 4 then s.tagOut (leBytes 1 (0xA2 + s.tag.bno))
    else match s.tag.resp with
      | _ :: b :: rest => ((s.setTag { s.tag with resp := b :: rest, bno := 1 - s.tag.bno }).tagNext).tagRunItems
      | _ => s
  else if pcb = 0xC2 then s.tagDeselect
  else s

/-- RF_BLOCK_RECEIVED (R466, R477): `good` when its CRC and parity hold; the tag stays mute on one that is not. A wired item that has waited takes
its turn around S(WTX). -/
def execRfBlockReceived (at_ pcb : Nat) (inf : List Byte) (good : Bool) (s : State) : Out :=
  let t := s.at at_
  done (if t.tag.rf ≠ 3 ∨ !t.tag.prot ∨ !good then t
    else if t.tag.wtx = 1 then
      (((t.setTag { t.tag with wtx := 2, held := some (pcb, inf, true) }).tagOut [0xF2#8, 0x01#8]).bump f_TAG_WTX_VALUE).orReg r_TAG_IRQ 32
    else if t.tag.wtx = 2 then
      (if pcb ≠ 0xF2 then t
       else
         let u := t.setTag { t.tag with wtx := 0, held := none }
         let v := if u.tag.items.isEmpty then (if u.tag.group && energyOk u then u.rollOne.rollEnd else u) else u.tagOne
         match t.tag.held with
         | some (p, b, _) => (v.tagBlockIn p b).tagCopies
         | none => v.tagCopies)
    else t.tagBlockIn pcb inf)

/-! ### Commands of class 0x0D (R473, R480) -/

/-- TAG.READ_CONFIG. -/
def execTagReadConfig (r : Req) (s : State) : Out :=
  done (runCmd s r 0x0D01 anyLc (fun _ => []) (readEff fun t => w4 t r_TAG_CTRL ++ w4 t.tagCopies r_TAG_STATUS ++ leBytes 7 Config.uid.toNat))

/-- TAG.SET_CONFIG (R474, R480, R564): settings, and a password with its ECHO, or clear. -/
def execTagSetConfig (r : Req) (en record vharv : Bool) (rate : Nat) (password : Option (Nat × Nat)) (s : State) : Out :=
  done (runCmd s r 0x0D02 anyLc
    (fun t => [need (decide (rate ≤ 2)) (blame E_PARAM_RANGE 0x0103), need (!(password.isSome && t.tag.lockout)) (blame E_PARAM_CONFLICT 0x0104),
               need (!t.isSet f_TAG_CTRL_LOCK) E_PARAM_CONFLICT])
    (okEff fun t =>
      let t1 := t.fputs [(f_TAG_CTRL_EN, flag en), (f_TAG_CTRL_RECORD, flag record), (f_TAG_CTRL_VHARV_EN, flag vharv), (f_TAG_CTRL_MAXRATE, rate)]
      (t1.setTag { t1.tag with password := password, attempts := if password.isSome then 0 else t1.tag.attempts }).tagCopies))

/-- PASSPORT.READ: committed content. -/
def execPassportRead (r : Req) (first count : Nat) (s : State) : Out :=
  done (runCmd s r 0x0D03 anyLc (fun _ => [need (decide (first < 512)) (blame E_PARAM_RANGE 0x0100), need (decide (1 ≤ count ∧ first + count ≤ 512)) (blame E_PARAM_RANGE 0x0101)])
    (readEff fun t => t.passportBytes first count))

/-- A group already staged or rolling, or a command's items on their way. -/
def groupBusy (s : State) : Bool := s.tag.group || !s.tag.staged.isEmpty || s.tag.req.isSome

/-- Blocks are written as one group (R476); the reply follows the group word. -/
def State.writeGroup (s : State) (r : Req) (op first : Nat) (blocks : List (List Byte)) : State :=
  let items := (blocks.zip (List.range blocks.length)).map (fun (b, i) => TagItem.stage (first + i) b)
  (s.setTag { s.tag with req := some (r, op) }).tagQueue (items ++ [TagItem.commit])

/-- PASSPORT.WRITE. -/
def execPassportWrite (r : Req) (first : Nat) (data : List Byte) (s : State) : Out :=
  done (runCmd s r 0x0D04 anyLc
    (fun t => [need (decide (64 ≤ first ∧ first < 512)) (blame E_PARAM_RANGE 0x0100),
               need (decide (data.length % 16 = 0 ∧ 1 ≤ data.length / 16 ∧ data.length / 16 ≤ 40 ∧ first + data.length / 16 ≤ 512)) (blame E_PARAM_RANGE 0x0008),
               need (!groupBusy t) E_BUSY])
    (fun t => (t.writeGroup r 0x0D04 first (chunks 16 64 data), none)))

/-- SoH of the cells in the normal or watch state, 0.01 %. -/
def State.sohs (s : State) : List Rat :=
  s.populated.filterMap (fun i => match keyed s.est.cells i with
    | some x => if x.state < 2 then some (((if (x.val 1).2.2.2 = 0 then (if x.cap = 0 then 0 else 10000) else satI 16 ((x.val 1).2.1 / 10) : Nat) : Rat)) else none
    | none => none)

/-- RG90 (R150), 0.0001. -/
def State.rg90 (s : State) : Nat :=
  let m := sortRat s.growths
  satI 16 (at! m ((9 * m.length + 9) / 10 - 1) 10000).floor

def State.cellsIn (s : State) (st : Nat) : Nat :=
  (s.populated.filter (fun i => match keyed s.est.cells i with | some x => x.state == st | none => st == 0)).length

/-- Bytes 0x000–0x1BF (R470, R473). -/
def custodyContent (s : State) (identity chemistry : List Byte) (cnt : Nat) : List Byte :=
  let soh := sortRat s.sohs
  let low := satI 16 (at! soh 0 0).floor
  let newest := match mirrorSeals s.cel (s.ldg.sealSeq - 1) (s.ldg.sealSeq - 1) with | (_, b) :: _ => if s.ldg.sealSeq = 0 then [] else b | [] => []
  padTo 64 (leBytes 4 0x50505A44 ++ [1#8] ++ zeros 3 ++ leBytes 8 Config.serial.toNat ++ leBytes 7 Config.uid.toNat ++ [0#8] ++ leBytes 4 cnt ++
    leBytes 4 (s.ldg.chain.getD 0)) ++
  padTo 128 (identity.take 52) ++ padTo 64 (chemistry.take 44) ++
  padTo 24 (leBytes 8 s.now ++ leBytes 2 low ++ leBytes 2 (satI 16 (median soh).floor) ++ leBytes 2 s.rg90 ++ leBytes 1 s.est.rgClass ++ zeros 1 ++
    leBytes 2 (s.cellsIn 1) ++ leBytes 2 (s.cellsIn 2)) ++
  padTo 32 (s.ldg.headMeter.take 16 ++ (s.ldg.headMeter.drop 48).take 16) ++ zeros 8 ++ leBytes 1 s.lc ++ leBytes 1 s.mode ++ zeros 6 ++ leBytes 8 s.ldg.hoSeq ++
  hashBytes (s.ownerRoot.getD 0) ++ leBytes 8 (s.ldg.sealSeq - 1) ++ leBytes 8 (leNat ((newest.drop 24).take 8)) ++ hashBytes s.ldg.sealHash

/-- Bytes 0x1C0–0x23F: the signature record without SIG. -/
def signatureRecord (s : State) (cnt : Nat) : List Byte :=
  padTo 128 (leBytes 4 0x53505A44 ++ [1#8] ++ zeros 3 ++ leBytes 4 cnt ++ zeros 4 ++ leBytes 8 s.now ++ zeros 8 ++ padTo 65 (s.publicOf 17))

/-- "DZ8256-PASSPORT" -/
def passportContext : List Byte :=
  [0x44#8, 0x5A#8, 0x38#8, 0x32#8, 0x35#8, 0x36#8, 0x2D#8, 0x50#8, 0x41#8, 0x53#8, 0x53#8, 0x50#8, 0x4F#8, 0x52#8, 0x54#8]

/-- PASSPORT.SIGN (R473): composes blocks 0–39, raises CNT by 1, signs with slot 17 and writes the group. -/
def execPassportSign (r : Req) (identity chemistry : Option (List Byte)) (s : State) : Out :=
  let len (o : Option (List Byte)) (n : Nat) : Bool := match o with | some b => b.length == n | none => true
  done (runCmd s r 0x0D05 (fun l => decide (1 ≤ l ∧ l ≤ 3))
    (fun t => [need (len identity 128) (blame E_LENGTH 0x0100), need (len chemistry 64) (blame E_LENGTH 0x0101), need (!groupBusy t) E_BUSY,
               (let st := slotStatus t 17; if st = OK then none else some st)])
    (fun t =>
      let cnt := leNat ((t.passportBytes 1 1).drop 8 |>.take 4) + 1
      let body := padTo 0x240 (custodyContent t (identity.getD (t.passportBytes 4 8)) (chemistry.getD (t.passportBytes 12 4)) cnt ++ signatureRecord t cnt)
      let sig := beBytes 64 (Config.signP256 (t.slotKey 17) (passportContext ++ body) t.fresh).toNat
      (t.drawn.writeGroup r 0x0D05 0 (chunks 16 64 (body ++ sig)), none)))

end Sys2Proof.Machine
end

