-- ==== Sys2Proof/Machine/Custody.lean ====
section
/-!
DEFINITION. Machine/Custody.lean: mode commands, the life-cycle transitions and the custody of chains across them (R34–R53, R91, R230, R232,
R492–R498).
-/
namespace Sys2Proof.Machine

/-! ### The time base (R91) -/

/-- A restart of the time base at a new count: the store and the late queue are empty, W and every horizon stand at the latest grid instant, the
stream cursors at its first entry. Stamps held for later use that lie beyond the new count are brought back to it (log entry 40). -/
def State.restartTime (s : State) (count : Nat) : State :=
  let k := instantAt count
  let back (t : Nat) : Nat := min t count
  let s1 : State := s.clearStore.discardSegments.loadStamp count
  let s2 : State := { s1 with
    alm := { s1.alm with inst := k, w := gridFloor count, queue := [], unq := [], packK := s1.alm.packK.map (fun _ => k), packH := k, syncAt := back s1.alm.syncAt, step := none },
    tr := { s1.tr with
      rates := [(0, s1.fget f_TRG_STATUS_RATE)],
      pending := s1.tr.pending.map (fun p => (p.1, rateInstant count)),
      rings := s1.tr.rings.map (fun x => { x with frames := [], missed := [], good := List.replicate 16 none, seen := List.replicate 16 none, started := back x.started }) },
    spg := { s1.spg with origin := s1.spg.origin.map (fun _ => k), count := flag (sampledAt (s1.fget f_TRG_STATUS_RATE) k),
                         cells := if sampledAt (s1.fget f_TRG_STATUS_RATE) k then s1.spg.cells.map (fun (i, x) => (i, { x with win := [none] })) else s1.spg.cells,
                         lastJ := min s1.spg.lastJ (count / (10 * ticksPerS)), due := [], pilotAt := back s1.spg.pilotAt,
                         holdoff := s1.spg.holdoff.map (fun (b, u) => (b, count + (u - s.now))) },
    mer := { s1.mer with recent := [], tableAt := back s1.mer.tableAt, wweFrom := back s1.mer.wweFrom, ctx := [], classes := s1.mer.classes.map (fun (b, c) => (back b, c)),
                         pulseAt := s1.mer.pulseAt.map back, svc := [(0, s1.chanAt s1.now, 0)], convs := [s1.convNow 0], codes := [],
                         samples := [], stuckAt := s1.mer.stuckAt.map back, freeAt := s1.mer.freeAt.map back },
    lim := { s1.lim with period := count / ticksPerPeriod, caps := s1.lim.caps.map (fun o => o.map (fun (v, e) => (v, count + (e - s.now)))) },
    pwr := { s1.pwr with requests := s1.pwr.requests.map (fun (a, d, q) => (a, d, back q)) },
    cmd := { s1.cmd with
      sessions := s1.cmd.sessions.map (fun x => { x with last := back x.last, challenge := x.challenge.map (fun c => { c with drawn := back c.drawn }) }),
      unsecChal := s1.cmd.unsecChal.map (fun o => o.map (fun c => { c with drawn := back c.drawn })) },
    est := { s1.est with cells := s1.est.cells.map (fun p => (p.1, { p.2 with
      restFrom := back p.2.restFrom, present := back p.2.present, cleanFrom := back p.2.cleanFrom, watchFrom := back p.2.watchFrom })),
                         upTo := back s1.est.upTo } }
  (s2.restartCursors k).fputs [(f_ALM_LQ_STATUS_DEPTH, 0), (f_ALM_LQ_STATUS_OVF, 0)]

/-! ### Modes -/

/-- R44: the first reason for which a change to `target` is refused. -/
def modeSetRefusal (s : State) (r : Req) (target : Nat) : Option Nat :=
  if target = 4 ∨ 5 < target then some (blame E_PARAM_RANGE 0x0100)
  else if s.isSet f_MODE_STATUS_PVALID then some E_BUSY
  else if target = 5 then none
  else match s.mode, target with
    | 0, 2 => if s.lc ≠ 1 then some E_LIFECYCLE else if worldOf r ≠ 1 then some E_WORLD else none
    | 2, 0 => if s.lc ≠ 1 then some E_LIFECYCLE else if r.world ≠ 1 then some E_WORLD else none
    | 1, 2 => if s.life.above50 ≠ 0 ∧ s.now < s.life.above50 + ticksPerS then some E_MODE else none
    | 2, 1 => if s.lc ≠ 2 then some E_MODE else if s.bist.left.isEmpty then none else some E_BUSY
    | 3, 2 => if s.lc ≠ 3 then some E_LIFECYCLE else none
    | 2, 3 => if s.lc ≠ 3 then some E_LIFECYCLE else none
    | _, _ => some E_MODE

/-- MODE.SET: the change waits for the next period boundary, and so does the reply (R45). -/
def execModeSet (r : Req) (target : Nat) (s : State) : Out :=
  let chk := fun t => [modeSetRefusal t r target]
  let t := s.at r.at_
  done (match refusal t r 0x0201 anyLc chk with
    | some e => if t.alive || r.path == 4 then (t.raise f_MODE_IRQ_REFUSED).refuse r 0x0201 e else t
    | none => runCmd s r 0x0201 anyLc chk fun t =>
        ((State.fput { t with life := { t.life with modeReq := some r } } f_MODE_STATUS_PVALID 1).fput f_MODE_STATUS_PENDING target, none))

/-- The custody keys that a release asks for are present and unwrap (R49): none once no custody key may be used (R36). -/
def releaseKeys (s : State) : Bool :=
  let need : List Nat := if 1 ≤ s.lc ∧ s.lc ≤ 3 then [12, 13, 14, 15, 16, 17] else if s.lc = 4 then [12] else []
  need.all (fun n => s.slotState n == 1)

/-- What an admitted release does at once (R49): its entry, the latch cleared, and the home mode pending. -/
def State.beginRelease (t : State) (r : Req) (kind : Nat) : State :=
  let u := (t.celWrite 0x14 false (leBytes 1 kind)).setLatch false
  State.fputs { u with life := { u.life with relReq := some r } } [(f_MODE_STATUS_PVALID, 1), (f_MODE_STATUS_PENDING, homeMode u.lc)]

/-- MODE.RELEASE_QUARANTINE: the latch is cleared at once, the home mode entered at the next boundary, where the reply follows. -/
def execModeReleaseQuarantine (r : Req) (tok : Token) (keys : PubKeys) (s : State) : Out :=
  done (runCmd s r 0x0202 anyLc
    (fun t => [need (t.mode == 4) E_MODE, need (!t.isSet f_MODE_STATUS_PVALID) E_BUSY, need (!t.life.custodyLost) E_PARAM_CONFLICT])
    (fun t =>
      let (t1, ok) := if t.lc = 0 then t.checkToken r 0x0202 3 (paramDigest []) Config.vendorRoot tok else t.checkOwnerToken r 0x0202 (paramDigest []) tok keys
      if !ok then (t1, some (E_SESSION, []))
      else if !releaseKeys t1 then (t1, some (E_KEY_EMPTY, []))
      else (t1.beginRelease r tok.kind, none)))

/-- MODE.READ. -/
def execModeRead (r : Req) (s : State) : Out :=
  done (runCmd s r 0x0203 anyLc (fun _ => [])
    (readEff fun t => w4 t r_MODE_STATUS ++ w4 t r_MODE_CAUSE ++ w4 t r_MODE_ENTRY_STAMP_LO ++ w4 t r_MODE_ENTRY_STAMP_HI))

/-- A pending change takes effect at a period boundary (R45, R49): MODE.SET's, a release's, or the start of the Dormant entry phase (R534). -/
def State.modeBoundary (s : State) : State :=
  if !s.isSet f_MODE_STATUS_PVALID || s.pwr.phase != 0 then s
  else
    let target := s.fget f_MODE_STATUS_PENDING
    match s.life.modeReq, s.life.relReq with
    | some r, _ =>
      let s1 : State := { s with life := { s.life with modeReq := none } }
      if target = 5 then
        let s2 : State := { s1 with pwr := { s1.pwr with phase := 1, phaseAt := s1.now }, ldg := { s1.ldg with ends := if s1.ledgerRuns then (s1.now, 6) :: s1.ldg.ends else s1.ldg.ends } }
        (s2.fput f_CPR_STATUS_STAGE 4).reply r 0x0201 OK []
      else (s1.setMode target 1 r.world (if r.slot < 8 then r.slot + 8 * (s1.session r.slot).ident else 0)).reply r 0x0201 OK []
    | none, some r =>
      let s1 : State := { s with life := { s.life with relReq := none } }
      (s1.setMode target 5 r.world (if r.slot < 8 then r.slot + 8 * (s1.session r.slot).ident else 0)).reply r 0x0202 OK []
    | none, none => s

/-! ### Pieces of a transition (R39) -/

/-- LC_STATE shows a new state, and the ledger notes it. -/
def State.putLc (s : State) (st : Nat) : State :=
  ({ s with ldg := { s.ldg with lcs := (s.now, st) :: s.ldg.lcs } }.fput f_LC_STATE_STATE st).fput f_LC_STATE_FR (flag (st == 5))

/-- The fuse pair of a target state is blown (R32). -/
def State.blowPair (s : State) (st : Nat) : State :=
  if st = 5 then { s with life := { s.life with frPair := (true, true) } }
  else if st = 0 then s
  else { s with life := { s.life with fuses := setAt s.life.fuses (st - 1) (true, true) } }

/-- The commit pair of the newest owner root entry is blown (R39 step 4, R399). -/
def State.commitRoot (s : State) : State :=
  match (List.range 4).reverse.find? (fun i => (at! s.keys.roots i freeRoot).written) with
  | none => s
  | some i => { s with keys := { s.keys with roots := setAt s.keys.roots i { at! s.keys.roots i freeRoot with commitA := true, commitB := true } } }

/-- A root written into an entry, its commit pair not blown. -/
def State.writeRoot (s : State) (i : Nat) (root : BitVec 384) : State :=
  { s with keys := { s.keys with roots := setAt s.keys.roots i ⟨true, root, true, false, false⟩ } }

/-- The next free owner root entry. -/
def freeEntry (s : State) : Option Nat := (List.range 4).find? (fun i => !(at! s.keys.roots i freeRoot).written)

/-- A CHAIN_ID is drawn; one equal to the previous chain's is drawn again (R230). -/
def State.drawChain (s : State) : Nat × State :=
  let c := s.draw 32
  let s1 := s.asked 20
  match s.ldg.chain with
  | none => (c, s1)
  | some p =>
    if c ≠ p then (c, s1)
    else let d := s1.draw 32 % (2 ^ 32 - 1); (if d < p then d else d + 1, s1.asked 20)

/-- The SUCCESSION payload (R496). -/
def successionPayload (action cause chain other seq : Nat) (h : BitVec 384) (level : Nat) : List Byte :=
  leBytes 1 action ++ leBytes 1 cause ++ zeros 2 ++ leBytes 4 chain ++ leBytes 8 other ++ leBytes 8 seq ++ (hashBytes h).take 16 ++ leBytes 1 level ++ zeros 3

/-- DEV_BEHAVIOUR.ACTIVE is fused (R498). -/
def State.setActive (s : State) (level : Nat) : State := { s with life := { s.life with level := level } }.fput f_DEV_BEHAVIOUR_ACTIVE level

/-- The body of a block's section: the walk from offset `o`; `fuel` bounds the sections. -/
def sectionBody (b : List Byte) (type : Nat) : Nat → Nat → Option (List Byte)
  | 0, _ => none
  | n + 1, o =>
    let len := leNat ((b.drop (o + 4)).take 4)
    if leNat ((b.drop o).take 2) = type then some ((b.drop (o + 8)).take len)
    else if b.length < o + 24 then none else sectionBody b type n (o + 8 + len)

/-- The next EVNO after a block, and the next number of a correction overflow. -/
def nextEvno (b : List Byte) : Nat := match sectionBody b 4 8 112 with | some e => leNat (e.take 8) + leNat ((e.drop 8).take 4) | none => 0
def nextCorr (b : List Byte) : Nat := match sectionBody b 6 8 112 with | some e => leNat (e.take 8) + leNat ((e.drop 8).take 4) | none => 0

/-- The adopted chain (R495). -/
def State.adoptChain (s : State) (c : SuccCert) (block : List Byte) : State :=
  let h := BitVec.ofNat 384 c.headHash
  let meter := blockMeter block
  let modes := blockModes block
  let s1 : State := if s.now ≤ c.headStamp then
      State.fput { s.loadStamp (c.headStamp + ticksPerS) with ldg := { s.ldg with suspect := true } } f_ALM_STATUS_TIME_SUSPECT 1 else s
  let s2 : State := { s1.continueFrom c.headSeq c.headStamp h meter modes 2 with evno := nextEvno block }
  let s3 : State := { s2 with
    ldg := { s2.ldg with chain := some c.chainId, test := false, ended := false, hold := false, arc := { s2.ldg.arc with lastBlock := c.headSeq + 1 }, corrNo := nextCorr block, sealSeq := c.sealSeq + 1, sealHash := BitVec.ofNat 384 c.sealHash,
                         sealAt := s2.now, jobs := [], hoSeq := 0 },
    mer := { s2.mer with count := List.replicate 10 0 } }
  let s4 := (List.range 10).foldl (fun t j => t.put64 (r_MER_BASE_LO j) (r_MER_BASE_HI j) (leNat ((meter.drop (8 * j)).take 8))) s3
  let head : Closed := { seq := c.headSeq, from_ := c.headStamp, to_ := c.headStamp, mode := 0, lcs := 0, bflags := 0, close := s4.now, meter := meter, pack := [],
                         modeSecs := modes, cells := [], specials := [] }
  let s5 := (((s4.writeTally (tallyRecord head h c.chainId)).setRegN r_LDG_CHAIN_ID c.chainId).put64 r_LDG_HEAD_SEQ_LO r_LDG_HEAD_SEQ_HI c.headSeq).put64
    r_LDG_HEAD_STAMP_LO r_LDG_HEAD_STAMP_HI c.headStamp
  let s6 := s5.setActive c.level
  let s7 := s6.celWrite 0x15 false (successionPayload 3 0 c.chainId c.oldSerial c.headSeq h c.level)
  let s8 := State.fput { s7 with asm := { s7.asm with adopt := none, adopted := c.oldSerial :: s7.asm.adopted } } f_ASM_STATUS_ADOPT_PEND 0
  if s8.ldg.arc.hseq ≠ 0 ∧ s8.ldg.arc.serial = c.oldSerial ∧ s8.ldg.arc.chain = c.chainId then s8.writeHeader else s8

/-- The lease chain starts (R230): its genesis binds the final test seal. -/
def State.leaseChain (s : State) : State :=
  let (c, s1) := s.drawChain
  State.setActive ({ s1 with
    evno := 0,
    ldg := { s1.ldg with chain := some c, test := false, ended := false, hold := false, origin := (s1.ldg.from_, s1.ldg.modeTicks), seq := 0, bflags := 1,
                         prev := s1.ldg.sealHash, head := none, corrNo := 0, sealSeq := 0, sealHash := 0, closed := [], jobs := [], ends := [], hoSeq := 0,
                         arc := { s1.ldg.arc with lastBlock := 0 } } }.setRegN r_LDG_CHAIN_ID c) 1

/-- The test chain (R230). -/
def State.testChain (s : State) : State :=
  let (c, s1) := s.drawChain
  { s1 with
    evno := 0, events := [],
    ldg := { s1.ldg with chain := some c, test := true, ended := false, hold := false, origin := (s1.now, List.replicate 6 0), seq := 0, from_ := s1.now, counted := s1.now,
                         prev := 0, bflags := 1, modes := [(s1.now, s1.mode)], ends := [], modeTicks := List.replicate 6 0, closed := [], head := none, corrs := [],
                         corrNo := 0, jobs := [], sealSeq := 0, sealHash := 0, arc := { s1.ldg.arc with lastBlock := 0 } } }.setRegN r_LDG_CHAIN_ID c

/-- COMMISSION's chain, and the baselines it begins anew (R147, R230, R495). -/
def State.startLease (s : State) : State :=
  let s1 : State := { s with est := { s.est with cells := s.est.cells.map (fun p => (p.1, p.2.rebase)) } }
  match s1.asm.adopt with
  | some (c, b) => s1.adoptChain c b
  | none => s1.leaseChain

/-- What entering a state brings with it: the test or lease chain (R230), the end of the chain (R37), or the orphaning of every custody key (R38,
R392). -/
def State.enterLc (s : State) (x : Transition) : State :=
  let s1 := s.putLc x.dst
  match x.dst with
  | 1 => s1.testChain
  | 2 => s1.startLease
  | 4 => { s1 with ldg := { s1.ldg with ended := true } }
  | 5 =>
    let s2 := ([4, 5, 6, 7].foldl State.raiseEpoch s1).clearBre
    { s2 with ldg := { s2.ldg with ended := true } }.settleKeys s1
  | _ => s1

/-- Step 4 of R39: the fuses, and what the new state brings. -/
def State.blowState (s : State) (x : Transition) : State := ((if x.dst = 3 then s.commitRoot else s).blowPair x.dst).enterLc x

/-- The Cellar entry of a step, and whether it was taken. -/
def State.stepEntry (s : State) (type : Nat) (x : Transition) : State × Bool :=
  let (s1, st) := s.celOffer ⟨s.now, type, srcFlags 1, false, padTo 44 (lcPayload x)⟩
  if st = OK then (s1, true) else (s, false)

/-- Steps 3 and 4 of R39: no fuse is blown until the Cellar die has taken the intent entry. -/
def State.stepIntent (s : State) (x : Transition) : State :=
  match s.stepEntry 0x10 x with
  | (s1, true) => let s2 := s1.blowState x; { s2 with life := { s2.life with transition := some { x with step := 4 } } }
  | (_, false) => s

/-- Step 5: the done entry, and the reply. -/
def State.stepDone (s : State) (x : Transition) : State :=
  match s.stepEntry 0x11 x with
  | (s1, true) =>
    let s2 : State := { s1 with life := { s1.life with transition := none } }
    (match x.req with
    | some r => s2.reply r x.op OK []
    | none => s2)
  | (_, false) => s

/-- Steps 3 to 5 of R39, as far as the Cellar die takes their entries. -/
def State.finishTransition (s : State) : State :=
  match s.life.transition with
  | none => s
  | some x =>
    let s1 := if x.step = 4 then s else s.stepIntent x
    match s1.life.transition with
    | some y => if y.step = 4 then s1.stepDone y else s1
    | none => s1

/-- A transition whose ledger event is complete goes on; so does a succession seal. -/
def ledgerSettled (s : State) (p : Nat → Bool) : Bool :=
  s.ldg.jobs.isEmpty && !s.ldg.ends.any (fun e => p e.2) && !s.ldg.closed.any (fun c => c.specials.any p)

def State.continueTransition (s : State) : State :=
  match s.life.transition with
  | some x => if x.step == 4 || ledgerSettled s lifeSpecial then s.finishTransition else s
  | none => s

/-- The session identifier of the LC entries. -/
def sessionId (s : State) (r : Req) : Nat := if r.slot < 8 then r.slot + 8 * (s.session r.slot).ident else 0

/-- A transition is accepted; `special` marks the block that ends at the next period boundary, 0 none. A chain whose blocks are not enabled is
resumed for it. -/
def State.beginTransition (s : State) (r : Req) (op dst special : Nat) : State :=
  let x : Transition := ⟨s.lc, dst, op, sessionId s r, some r, 0⟩
  let s1 : State := State.resumeLedger { s with life := { s.life with transition := some x } }
  let s2 : State := if special ≠ 0 ∧ s1.ledgerRuns then { s1 with ldg := { s1.ldg with ends := (nextBoundary s1.now, special) :: s1.ldg.ends } } else s1
  s2.continueTransition

def notBusy (s : State) : Option Nat := need s.life.transition.isNone E_BUSY

/-! ### The transitions -/

/-- The blob of a root slot is placed in flash. -/
def State.storeBlob (s : State) (n : Nat) : State := s.ledgerWrite (0x04000000 + Config.rootBlobPlace n % 0x1B800 * 128) false (blobOf s n)

/-- What LIFECYCLE.PROVISION does, in R39's order: time, root 0 with its commit pair, the backup root, both root blobs, then the intent entry, the fuses
and the test chain. -/
def State.provision (t : State) (r : Req) (root assembly utc : Nat) : State :=
  let t1 := (t.restartTime 0).setCount 0
  let t2 : State := State.fput { t1 with life := { t1.life with epochUtc := utc, assembly := assembly } } f_CEL_STATUS_BCLOST 0
  let t3 := ((t2.put64 r_ALM_EPOCH_UTC_LO r_ALM_EPOCH_UTC_HI utc).writeRoot 0 (BitVec.ofNat 384 root)).commitRoot
  let t4 := ((((t3.newBre).genRoot 4 1).storeBlob 4).genRoot 8 2).storeBlob 8
  let t5 : State := { t4 with cel := { t4.cel with breDone := false } }.settleKeys t
  State.finishTransition { t5 with life := { t5.life with transition := some ⟨0, 1, 0x0210, sessionId t5 r, some r, 0⟩ } }

/-- LIFECYCLE.PROVISION (R34, R91, R393): from the provisioning path in Provisioning mode; no ledger event comes before it. -/
def execLifecycleProvision (r : Req) (root assembly utc : Nat) (s : State) : Out :=
  done (runCmd s r 0x0210 (fun l => l == 0)
    (fun t => [need (r.world == 3) E_WORLD, need (t.mode == 0) E_MODE, need (decide (root < 2 ^ 384)) (blame E_PARAM_RANGE 0x0100),
               need (decide (assembly < 0xFFFF)) (blame E_PARAM_RANGE 0x0101), need (decide (utc < 2 ^ 64)) (blame E_PARAM_RANGE 0x0102),
               need (!t.isSet f_CUL_STATUS_NOSEED) E_BUSY, notBusy t])
    (fun t => (t.provision r root assembly utc, none)))

/-- The test chain's head is to be sealed: the newest closed block's seal, or one of the head as it stands, found again if blocks are not enabled. -/
def State.sealTestHead (s : State) : State :=
  let s0 := s.resumeLedger
  if s0.ldg.ended || s0.ldg.chain.isNone then s0
  else
    let s1 : State := { s0 with ldg := { s0.ldg with hold := true } }
    match s1.ldg.closed.reverse with
    | c :: rest => { s1 with ldg := { s1.ldg with closed := ({ c with specials := 8 :: c.specials } :: rest).reverse } }
    | [] => s1.askSeal 1 0 (s1.now + 1000 * ticksPerMs) none

/-- LIFECYCLE.COMMISSION. -/
def execLifecycleCommission (r : Req) (token : Token) (keys : PubKeys) (s : State) : Out :=
  done (runCmd s r 0x0211 (fun l => l == 1)
    (fun t => [need (t.mode == 2) E_MODE, need (decide (r.slot < 8)) E_SESSION, notBusy t])
    (fun t =>
      let (t1, ok) := t.checkOwnerToken r 0x0211 (paramDigest []) token keys
      if ok then (t1.sealTestHead.beginTransition r 0x0211 2 0, none) else (t1, some (E_SESSION, []))))

/-- The checks of R232 step 5 on the incoming owner: the nonce and the time, the keys, the signatures. -/
def handoverRefusal (s : State) (nonce : Nat) (keys : PubKeys) (sig : Sig) : List (Option Nat) :=
  match s.ldg.handover with
  | none => [some E_PARAM_CONFLICT]
  | some h =>
    [need (h.nonce == nonce && decide (s.now ≤ h.expiry)) E_PARAM_CONFLICT,
     need (Config.ownerKeyHash keys.ec keys.pq == h.newRoot && Config.sigValid h.newRoot handoverContext [leNat h.hs] sig.ec sig.pq) E_SESSION]

/-- The incoming owner's root is written, and the handover's record waits for its block (R232, R399). -/
def State.beginHandover (t : State) (h : Handover) (i : Nat) (sig : Sig) : State :=
  let t1 := t.writeRoot i h.newRoot
  let body := h.hs ++ h.sigEc ++ h.sigPq ++ beBytes 96 sig.ec ++ beBytes 3309 sig.pq
  State.fput { t1 with ldg := { t1.ldg with handover := none, hoBody := body } } f_LDG_STATUS_HOPREP 0

/-- LIFECYCLE.SECOND_LIFE: the new root is blown before the ledger event (R399), its commit pair after it. -/
def execLifecycleSecondLife (r : Req) (nonce : Nat) (keys : PubKeys) (sig : Sig) (s : State) : Out :=
  done (runCmd s r 0x0212 (fun l => l == 2)
    (fun t => [need (t.mode == 2) E_MODE, notBusy t, need (!t.evidenceNow) E_KEY_EMPTY] ++ handoverRefusal t nonce keys sig ++ [need (freeEntry t).isSome E_LIFECYCLE])
    (fun t => match t.ldg.handover, freeEntry t with
      | some h, some i => ((t.beginHandover h i sig).beginTransition r 0x0212 3 3, none)
      | _, _ => (t, some (E_PARAM_CONFLICT, []))))

/-- LIFECYCLE.RETIRE. -/
def execLifecycleRetire (r : Req) (token : Token) (keys : PubKeys) (s : State) : Out :=
  done (runCmd s r 0x0213 (fun l => l == 2 || l == 3)
    (fun t => [need (t.mode == 2) E_MODE, notBusy t])
    (fun t =>
      let (t1, ok) := t.checkOwnerToken r 0x0213 (paramDigest []) token keys
      if ok then (t1.beginTransition r 0x0213 4 4, none) else (t1, some (E_SESSION, []))))

/-- LIFECYCLE.FIELD_RETURN: a vendor token and an owner token in the one command. -/
def execLifecycleFieldReturn (r : Req) (vendor owner : Token) (keys : PubKeys) (s : State) : Out :=
  done (runCmd s r 0x0214 (fun l => decide (1 ≤ l ∧ l ≤ 4))
    (fun t => [need (t.mode == 2 || t.mode == 4) E_MODE, notBusy t])
    (fun t =>
      let okV := tokenOk t r 0x0214 3 (paramDigest []) Config.vendorRoot vendor
      let (t1, okO) := t.checkOwnerToken r 0x0214 (paramDigest []) owner keys
      if okV && okO then (t1.beginTransition r 0x0214 5 5, none) else (t1, some (E_SESSION, []))))

/-! ### Succession (R492–R497) -/

/-- The seal of a sequence number in the seal store. -/
def storedSeal (s : State) (n : Nat) : List Byte := s.peek (0x04DC0000 + n % 64 * 0x1000) 3616

/-- Steps 2 to 4 of R493, once the head is sealed. -/
def State.continueCeding (s : State) : State :=
  if s.asm.ceded == 1 && ledgerSettled s (· == 7) then
    let (seq, h) := match s.ldg.head with | some (q, _, h) => (q, h) | none => (0, 0)
    let s1 := s.celWrite 0x15 false (successionPayload 1 0 (s.ldg.chain.getD 0) s.asm.newSerial seq h s.life.level)
    let s2 := ([4, 5, 6, 7].foldl State.raiseEpoch s1).settleKeys s1
    let s3 := State.fput { s2 with asm := { s2.asm with ceded := 2, req := none }, ldg := { s2.ldg with ended := true } } f_ASM_STATUS_CEDED 1
    match s.asm.req with
    | some r => s3.reply r 0x0904 OK (storedSeal s3 (s3.ldg.sealSeq - 1))
    | none => s3
  else s

/-- What waits for the ledger goes on. -/
def State.ledgerNext (s : State) : State := s.continueTransition.continueCeding

/-- Custody begins to be ceded (R493): the head's block ends at the next boundary, or its head is sealed as it stands. -/
def State.beginCeding (t : State) (r : Req) (newSerial : Nat) : State :=
  let t2 : State := { t with asm := { t.asm with ceded := 1, newSerial := newSerial, req := some r } }
  if t2.ledgerRuns then { t2 with ldg := { t2.ldg with ends := (nextBoundary t2.now, 7) :: t2.ldg.ends } }
  else State.askSeal { t2 with ldg := { t2.ldg with hold := true } } 5 0 (t2.now + 1000 * ticksPerMs) none

/-- ASSEMBLY.SUCCESSION_SEAL: the chain must be open, for there is no other custody to cede. -/
def execAssemblySuccessionSeal (r : Req) (newSerial : Nat) (token : Token) (keys : PubKeys) (s : State) : Out :=
  done (runCmd s r 0x0904 (fun l => decide (1 ≤ l ∧ l ≤ 3))
    (fun t => [need (t.mode == 2) E_MODE, need (decide (newSerial < 2 ^ 64)) (blame E_PARAM_RANGE 0x0100),
               need (t.asm.ceded == 0 && t.ldg.chain.isSome && !t.ldg.ended && (t.ledgerRuns || t.ldg.head.isSome)) E_SUCCESSION, notBusy t])
    (fun t =>
      let (t1, ok) := t.checkOwnerToken r 0x0904 (paramDigest (tlv 0x0100 (leBytes 8 newSerial))) token keys
      if ok then (t1.beginCeding r newSerial, none) else (t1, some (E_SESSION, []))))

def succContext : Nat := 6
/-- Bytes 0–7 of a succession certificate: "DZSC", VER 1, zeros. -/
def succHead : Nat := 0x0143535A44
def succMessage (c : SuccCert) : List Nat :=
  [c.head, c.chainId, c.level, c.oldSerial, c.newSerial, c.headSeq, c.headStamp, c.headHash, c.sealSeq, c.sealHash, c.packId, c.locus, c.root, c.kind]

/-- The seal's certificate and its signatures (R494 step 3). -/
def sealCertOk (c : SuccCert) (sealed : List Byte) (k : Cert) : Bool :=
  let f (o n : Nat) : Nat := leNat ((sealed.drop o).take n)
  let first8 (h : Nat) : Nat := leNat ((hashBytes (BitVec.ofNat 384 h)).take 8)
  k.head == certHead && k.role == 1 && k.chainId == c.chainId && k.issuer == c.root && Config.sigValid (BitVec.ofNat 384 c.root) certContext (certMessage k) k.sig.ec k.sig.pq &&
  first8 k.hashEc == f 184 8 && first8 k.hashPq == f 192 8 &&
  Config.sigValid (BitVec.ofNat 384 k.hashEc) sealContext [leNat (sealed.take 208)] (f 208 96) (f 304 3309)

/-- R494 step 3, in order. -/
def adoptionOk (s : State) (c : SuccCert) (block sealed : List Byte) (k : Option Cert) : Bool :=
  let f (o n : Nat) : List Byte := (sealed.drop o).take n
  let kind := leNat (f 5 1)
  Config.sigValid (BitVec.ofNat 384 c.root) succContext (succMessage c) c.sig.ec c.sig.pq && c.head == succHead && c.newSerial == Config.serial.toNat &&
  (match s.ownerRoot with | some h => h.toNat == c.root | none => false) && c.locus / 2 ^ 48 == s.life.assembly &&
  (Config.sha384 sealed).toNat == c.sealHash && hashOf (f 40 48) == BitVec.ofNat 384 c.headHash && (Config.sha384 block).toNat == c.headHash &&
  (kind == 4 || (match k with | some k => sealCertOk c sealed k | none => false)) &&
  decide (c.level ≤ s.fget f_DEV_BEHAVIOUR_LEVEL) && !s.isSet f_ASM_STATUS_ADOPT_PEND

/-- An adoption is pending until the commissioning (R494): its entry, and the certificate with its block. -/
def State.beginAdoption (t : State) (cert : SuccCert) (block : List Byte) : State :=
  let t1 := t.celWrite 0x15 false (successionPayload 2 0 cert.chainId cert.oldSerial cert.headSeq (BitVec.ofNat 384 cert.headHash) cert.level)
  State.fput { t1 with asm := { t1.asm with adopt := some (cert, block) } } f_ASM_STATUS_ADOPT_PEND 1

/-- ASSEMBLY.SUCCEED. -/
def execAssemblySucceed (r : Req) (cert : SuccCert) (block sealed : List Byte) (keyCert : Option Cert) (s : State) : Out :=
  done (runCmd s r 0x0905 (fun l => l == 1)
    (fun t => [need (t.mode == 2) E_MODE, need (keyCert.isSome || leNat ((sealed.drop 5).take 1) == 4) (blame E_PARAM_MISSING 5), need (adoptionOk t cert block sealed keyCert) E_SUCCESSION])
    (okEff fun t => t.beginAdoption cert block))

/-- R497: the part holds custody: its chain is open, it has not ceded, and no adoption is pending. -/
def holdsCustody (s : State) : Bool :=
  s.ldg.chain.isSome && !s.ldg.ended && decide (1 ≤ s.lc ∧ s.lc ≤ 3) && !s.life.custodyLost && !s.isSet f_ASM_STATUS_CEDED && !s.isSet f_ASM_STATUS_ADOPT_PEND

/-- A succession conflict: the entry, and Quarantine; once for each part that it meets. -/
def State.succConflict (s : State) (cause other : Nat) : State :=
  let (seq, h) := match s.ldg.head with | some (q, _, h) => (q, h) | none => (0, 0)
  if s.asm.clashes.contains (cause, other) then s
  else
    let s1 : State := { s with asm := { s.asm with clashes := (cause, other) :: s.asm.clashes } }
    (s1.celWrite 0x15 false (successionPayload 4 cause (s.ldg.chain.getD 0) other seq h s.life.level)).enterQuarantine 3 cause

/-- The archive is discovered, at power-up and in fault (R223, R224, R497): `device` is what another device fitted in the meantime holds. One whose
header names this chain and a serial that no adoption names is a conflict, and stays out of use. -/
def State.discoverArchive (s : State) (mib : Nat) (unit64 : Bool) (device : Option Pieces) : State :=
  let s0 := match device with | some d => s.fitDevice d | none => s
  let clash : Option Nat := match currentHeader s0 (if unit64 then 16 else 12) with
    | some b =>
      let serial := leNat ((b.drop 16).take 8)
      if holdsCustody s0 && some (leNat ((b.drop 24).take 4)) == s0.ldg.chain && serial != Config.serial.toNat && !s0.asm.adopted.contains serial then some serial else none
    | none => none
  match clash with
  | some serial => (s0.arcRetry 0 unit64 false).succConflict 1 serial
  | none => s0.arcRetry mib unit64 device.isNone

/-- ARCHIVE_RETRY: every 10 s in fault. -/
def execArchiveRetry (at_ mib : Nat) (unit64 : Bool) (device : Option Pieces) (s : State) : Out :=
  let t := s.at at_
  done (if t.fget f_LDG_STATUS_ARC_STATE = 2 then t.discoverArchive mib unit64 device else t)

/-! ### The ledger's moments that others wait for -/

/-- CELLAR_ENTRY_COMMIT: what waits for room in the Cellar queue goes on. -/
def execCellarEntryCommit (at_ : Nat) (s : State) : Out := done ((s.at at_).celCommit.continueTransition)

/-- SEAL_COMPLETE. -/
def execSealComplete (at_ : Nat) (s : State) : Out := done ((s.at at_).sealComplete.ledgerNext)

/-- BLOCK_ASSEMBLY. -/
def execBlockAssembly (at_ : Nat) (s : State) : Out := done ((s.at at_).assembleDue.ledgerNext)

end Sys2Proof.Machine
end

