-- ==== Sys2Proof/Machine/Assembly.lean ====
section
/-!
DEFINITION. Machine/Assembly.lean: manager, workers and the deputy's promotion (chapter 21, R482–R491, R500), and the node commands of an
Assembly ring.
-/
namespace Sys2Proof.Machine

def State.role (s : State) : Nat := s.fget f_ASM_STATUS_ROLE
def State.device (s : State) : Nat := s.fget f_ASM_STATUS_DEVICE
def State.setAsm (s : State) (a : AsmState) : State := { s with asm := a }

/-- A TERM seen on the assembly. -/
def State.seeTerm (s : State) (term : Nat) : State := s.setAsm { s.asm with highTerm := max s.asm.highTerm term }

/-! ### A worker's frames (R486) -/

/-- STATUS, 32 bytes. -/
def statusFrame (s : State) : List Byte :=
  let fl := flag (s.isSet f_ALM_STATUS_DISC_LOCK) + 2 * flag (s.isSet f_ASM_STATUS_DEPUTY) + 4 * flag (s.role == 3) + 8 * flag (s.isSet f_ASM_STATUS_CEDED) + 16 * flag (s.mode == 4)
  leBytes 1 1 ++ leBytes 1 fl ++ leBytes 1 s.mode ++ leBytes 1 s.lc ++ leBytes 4 (s.fget f_ASM_TERM_VALUE) ++ leBytes 8 (s.ldg.sealSeq - 1) ++
  leBytes 4 (s.ldg.chain.getD 0) ++ leBytes 2 (s.fget f_LIM_PUB_CHG) ++ leBytes 2 (s.fget f_LIM_PUB_DIS) ++ leBytes 8 Config.serial.toNat

/-- The payload of a worker's frame in this train (R486): the next digest frame, else STATUS. -/
def nextPayload (s : State) : List Byte := match s.asm.digests with | f :: _ => f | [] => statusFrame s

/-- UPLINK_SYNC (R64, R65, R88, R115): the head of a train on a port of the uplink. It counts only with a valid check, and a SYNC only with SRC 0 on the
upstream port or SRC 1 on the downstream one. The worker measures its error `err`, and inserts before the train's ETR; a COLLECT train carries no
frame of its own. `held` counts the retransmitted frames already in the train. -/
def execUplinkSync (at_ : Nat) (endB : Bool) (seen : TrainSeen) (err : Int) (s : State) : Out :=
  let t := s.at at_
  let held := seen.held
  done (if !t.isSet f_TRG_CTRL_UPLINK then t
    else match trainHead (lineChars seen.line) with
    | none => t.syncMissed
    | some h =>
      if h.collect then t.insertFrames h held 0 none
      else if bit h.flags 3 != endB then t
      else
        let t1 : State := { t with alm := { t.alm with syncAt := t.now, missedSync := 0 } }
        let t2 := if disciplined t1 then t1.uplinkSync err else t1
        match t2.tr.up.addr with
        | none => t2.insertFrames h held 0 none
        | some p =>
          if t2.role = 2 then
            State.insertFrames (t2.setAsm { t2.asm with digests := t2.asm.digests.drop 1 }) h held (stampOf (t2.instantNamed h.tstamp - 1))
              (some (assemblyBytes p (nextPayload t2)))
          else t2.insertFrames h held 0 none)

/-! ### ASM_ANNOUNCE and SEAL_REQ (R484, R485, R491) -/

/-- A manager stops driving a ring on which a higher TERM shows. -/
def State.demote (s : State) (r : Nat) : State :=
  (((s.setAsm { s.asm with demoted := r :: s.asm.demoted }).fput f_ASM_STATUS_DEMOTED 1).raise f_ASM_IRQ_DEMOTED)

/-- An acting manager yields: its trains stop, it is a worker again and forwards. -/
def State.yieldActing (s : State) : State := (s.fput f_ASM_STATUS_ROLE 2).putRingState 7 0

/-- A worker takes what the announcement names: its DEVICE, TERM, and whether it is the deputy. -/
def State.takeAnnounce (s : State) (term deputy flags : Nat) : State :=
  match s.tr.up.addr with
  | none => s
  | some p =>
    let d := 16 * (flags / 2 % 4) + p + 1
    let s1 :=
      if s.asm.device = 0 then (s.setAsm { s.asm with device := d }).fput f_ASM_STATUS_DEVICE d
      else if s.asm.device = d ∨ s.isSet f_ASM_STATUS_MISPLACED then s
      else (s.fput f_ASM_STATUS_MISPLACED 1).emit (s.packLocus 0) 31 1 (leBytes 1 d ++ leBytes 1 s.asm.device)
    (s1.fput f_ASM_TERM_VALUE term).fput f_ASM_STATUS_DEPUTY (flag (deputy != 0 && deputy == s1.asm.device))

/-- ASM_ANNOUNCE heard on a ring. -/
def State.asmAnnounce (s : State) (ring term assembly deputy flags : Nat) : State :=
  if s.role = 1 then
    if s.drives ring ∧ s.fget f_ASM_TERM_VALUE < term then (s.seeTerm term).demote ring else s.seeTerm term
  else if !s.isSet f_TRG_CTRL_UPLINK || ring != 7 then s
  else if assembly ≠ s.life.assembly then s.bump f_ASM_REFUSED_VALUE
  else
    let s1 := s.seeTerm term
    if s1.role = 3 then
      if s1.fget f_ASM_TERM_VALUE < term then (s1.yieldActing).fput f_ASM_TERM_VALUE term else s1
    else s1.takeAnnounce term deputy flags

def execAsmAnnounce (at_ ring term assembly deputy flags serial : Nat) (s : State) : Out :=
  let _ := serial
  done (onRing (s.at at_) ring fun t => t.asmAnnounce ring term assembly deputy flags)

/-- SEAL_REQ: the seal's digest in the next two trains, or NSTAT 0x02 when it is not among the last 64; busy while a response waits (R74). -/
def State.sealReq (s : State) (q : Nat) : State :=
  let u := s.tr.up
  let answer (st : Nat) : State := s.setUp { u with resp := u.resp ++ [(u.addr.getD 0x1F, 0x12, st, [])] }
  if !u.resp.isEmpty || !u.retx.isEmpty then answer 4
  else if q < s.ldg.sealSeq ∧ s.ldg.sealSeq ≤ q + 64 then
    let h := hashBytes (Config.sha384 (storedSeal s q))
    let s1 := answer 0
    s1.setAsm { s1.asm with digests := s1.asm.digests ++
      [leBytes 1 2 ++ zeros 7 ++ leBytes 8 q ++ h.take 40, leBytes 1 3 ++ zeros 7 ++ leBytes 8 q ++ h.drop 40] }
  else answer 2

def execSealReq (at_ sealSeq : Nat) (s : State) : Out :=
  let t := s.at at_
  done (if t.isSet f_TRG_CTRL_UPLINK && t.role == 2 then t.sealReq sealSeq else t)

/-- COMMAND_FRAME: a node command on the uplink; 0x10 to 0x12 exist only there. TIME_HI sent to the worker itself is answered as any command is. -/
def State.uplinkCommand (s : State) (addr opc : Nat) (payload : List Byte) : State :=
  let f (o n : Nat) : Nat := leNat ((payload.drop o).take n)
  let u := s.tr.up
  let mine := u.addr == some addr
  let busy := !u.resp.isEmpty || !u.retx.isEmpty
  if opc = 0x10 then
    if !mine then s
    else
      let s1 := s.setUp { u with resp := u.resp ++ [(addr, opc, if busy then 4 else 0, [])] }
      if busy then s1 else s1.timeHi (f 0 8)
  else if opc = 0x11 then (if addr = 0x1E then s.asmAnnounce 7 (f 0 4) (f 4 2) (f 6 1) (f 7 1) else s)
  else if opc = 0x12 then (if mine && s.role == 2 then s.sealReq (f 0 8) else s)
  else s.commandFrame addr opc payload

/-- A frame with a bad CRC or a code violation is ignored (R72). -/
def execCommandFrame (at_ : Nat) (rd : Bool) (hdr data crc : List Nat) (s : State) : Out :=
  let t := s.at at_
  done (match commandOf (lineChars (.inParts rd [hdr, data, crc])) with
    | some (addr, opc, payload) => if t.isSet f_TRG_CTRL_UPLINK then t.uplinkCommand addr opc payload else t
    | none => t)

/-! ### Assembly frames at the manager (R486, R487, R491, R497) -/

def State.worker (s : State) (d : Nat) : Worker := at! s.asm.workers (d - 1) ⟨never, [], none, none⟩
def State.setWorker (s : State) (d : Nat) (w : Worker) : State := s.setAsm { s.asm with workers := setAt s.asm.workers (d - 1) w }

/-- The presence bit of a DEVICE. -/
def presentFld (d : Nat) : Fld × Nat := if d ≤ 32 then (f_ASM_PRESENT_LO_VALUE, d - 1) else (f_ASM_PRESENT_HI_VALUE, d - 33)
def State.isPresent (s : State) (d : Nat) : Bool := s.bitOf (presentFld d).1 (presentFld d).2
def State.putPresent (s : State) (d : Nat) (b : Bool) : State :=
  if s.isPresent d == b then s else (s.putBit (presentFld d).1 (presentFld d).2 b).raise f_ASM_IRQ_WORKER

/-- Presence bits of workers silent for 10 ms clear. -/
def State.presenceCheck (s : State) : State :=
  (List.range 64).foldl (fun t i => if t.isPresent (i + 1) ∧ (t.worker (i + 1)).seen + ticksPerPeriod < t.now then t.putPresent (i + 1) false else t) s

/-- Seals asked for of a worker, those not asked for yet. -/
def State.wantSeals (s : State) (d first last : Nat) : State :=
  let have_ (q : Nat) : Bool := s.asm.reqs.any (fun x => x.1 == d && x.2.1 == q)
  let qs := ((List.range (last + 1 - first)).map (· + first)).filter (fun q => !have_ q)
  s.setAsm { s.asm with reqs := s.asm.reqs ++ qs.map (fun q => (d, q, false)) }

/-- Two workers with one CHAIN_ID: neither is merged. -/
def State.chainCheck (s : State) (d chain serial : Nat) : State :=
  let chainOf (i : Nat) : Nat := leNat (((s.worker i).status.drop 16).take 4)
  match (List.range 64).find? (fun i => i + 1 != d && !(s.worker (i + 1)).status.isEmpty && chainOf (i + 1) == chain) with
  | none => s
  | some i =>
    if chain = 0 ∨ (s.asm.conflicts.contains d ∧ s.asm.conflicts.contains (i + 1)) then s
    else
      let s1 := s.setAsm { s.asm with conflicts := (d :: (i + 1) :: s.asm.conflicts).eraseDups }
      ((s1.fput f_ASM_STATUS_CONFLICT 1).raise f_ASM_IRQ_CONFLICT).emit (s1.packLocus 0) 31 4 (leBytes 8 serial)

/-- STATUS. -/
def State.workerStatus (s : State) (ring d : Nat) (p : List Byte) : State :=
  let f (o n : Nat) : Nat := leNat ((p.drop o).take n)
  let term := f 4 4
  let chain := f 16 4
  let serial := f 24 8
  let s1 := s.seeTerm term
  let s2 := if holdsCustody s1 ∧ s1.ldg.chain = some chain ∧ serial ≠ Config.serial.toNat ∧ !bit (f 1 1) 3 then s1.succConflict 2 serial else s1
  if !s2.drives ring then s2
  else if s2.role = 1 ∧ s2.fget f_ASM_TERM_VALUE < term then s2.demote ring
  else
    let w := s2.worker d
    let s3 := (s2.setWorker d { w with seen := s2.now, status := p }).putPresent d true
    let s4 := s3.chainCheck d chain serial
    match w.merged with
    | some m => if m + 1 < f 8 8 ∧ !s4.asm.conflicts.contains d then s4.wantSeals d (m + 1) (f 8 8) else s4
    | none => s4

/-- Both halves of a digest: it is merged into the open block. -/
def State.merge (s : State) (d q : Nat) (h : List Byte) : State :=
  let w := s.worker d
  let asked := s.asm.reqs.any (fun x => x.1 == d && x.2.1 == q)
  let fresh := match w.merged with | some m => decide (m < q) | none => true
  if !(fresh || asked) || s.asm.conflicts.contains d then s
  else
    let s1 := s.setAsm { s.asm with reqs := s.asm.reqs.filter (fun x => !(x.1 == d && x.2.1 == q)) }
    let s2 := match w.merged with | some m => if m + 1 < q then s1.wantSeals d (m + 1) (q - 1) else s1 | none => s1
    let s3 := s2.setWorker d { w with merged := some (max q (w.merged.getD q)), half := none }
    State.bump { s3 with ldg := { s3.ldg with workers := s3.ldg.workers ++ [(d, q, hashOf h)] } } f_ASM_MERGED_VALUE

/-- SEAL_A or SEAL_B: the other half waits, or is there. -/
def State.digestHalf (s : State) (d type : Nat) (p : List Byte) : State :=
  let q := leNat ((p.drop 8).take 8)
  let b := p.drop 16
  let w := s.worker d
  match w.half with
  | some (t, q', b') => if q' = q ∧ t ≠ type then (if type = 2 then s.merge d q (b ++ b') else s.merge d q (b' ++ b)) else s.setWorker d { w with half := some (type, q, b) }
  | none => s.setWorker d { w with half := some (type, q, b) }

/-- An assembly frame of the worker at a node of a ring. -/
def State.asmPayload (s : State) (ring node : Nat) (p : List Byte) : State :=
  let d := 16 * s.asmRing ring + node + 1
  match leNat (p.take 1), p.length with
  | 1, 32 => s.workerStatus ring d p
  | 2, 56 => if s.drives ring then s.digestHalf d 2 p else s
  | 3, 24 => if s.drives ring then s.digestHalf d 3 p else s
  | _, _ => s

/-- ASSEMBLY_FRAME_RECEIVED: a bad frame is discarded and counted (R76). -/
def execAssemblyFrameReceived (at_ ring : Nat) (rd : Bool) (hdr data : List Nat) (s : State) : Out :=
  done (onRing (s.at at_) ring fun t =>
    match asmFrameOf (lineChars (.inParts rd [hdr, data])) with
    | none => t.bump (f_TR_CRC_ERRORS_COUNT ring)
    | some (node, payload, _) => if 4 ≤ ring then t.asmPayload ring node payload else t)

/-! ### The deputy (R488–R490) -/

/-- Three trains of 125 µs expected since the last valid SYNC on either port have not come (R489, R499). -/
def syncsMissing (s : State) : Bool := decide (3 * 390625 ≤ 8 * (s.now - s.alm.syncAt))

/-- MANAGER_LOSS: the deputy declares it; with PROMOTE_EN it promotes itself. -/
def State.managerLoss (s : State) : State :=
  if s.role ≠ 2 ∨ !s.isSet f_ASM_STATUS_DEPUTY ∨ !syncsMissing s then s
  else
    let s1 := s.raise f_ASM_IRQ_LOSS
    let s2 := s1.put64 r_ASM_LOSS_STAMP_LO r_ASM_LOSS_STAMP_HI s1.now
    if !s2.isSet f_ASM_CTRL_PROMOTE_EN then s2
    else
      let term := (max s2.asm.highTerm (s2.fget f_ASM_TERM_VALUE) + 1) % 2 ^ 32
      let s3 := ((s2.seeTerm term).fputs [(f_ASM_STATUS_ROLE, 3), (f_ASM_TERM_VALUE, term)]).raise f_ASM_IRQ_PROMOTED
      let detail := leBytes 4 term
      let s4 := (s3.emit (s3.packLocus 0) 31 3 detail).celWrite 0x03 false (leBytes 8 (s3.packLocus 0) ++ (⟨s3.now, s3.packLocus 0, 31, 3, detail⟩ : EventRec).bytes)
      let me := s4.tr.up.addr.getD 16
      let others := (List.range 16).filter (· != me)
      let s5 := (State.setRing (s4.setAsm { s4.asm with announce := true }) 7
        { s4.ring 7 with cmds := others.map (fun n => ⟨n, 0x02, [], decide (n < me)⟩) }).putRingState 7 3
      s5.askSeal 1 0 (s5.now + 650 * ticksPerMs) none

def execManagerLoss (at_ : Nat) (s : State) : Out := done ((s.at at_).managerLoss)

/-! ### Commands (R500) -/

def execAssemblyRead (r : Req) (s : State) : Out :=
  done (runCmd s r 0x0901 anyLc (fun _ => [])
    (readEff fun t => [r_ASM_STATUS, r_ASM_TERM, r_ASM_DEPUTY, r_ASM_PRESENT_LO, r_ASM_PRESENT_HI, r_DEV_BEHAVIOUR].flatMap (w4 t)))

/-- A demoted manager resumes (R491). -/
def resuming (s : State) (role : Nat) : Bool := role == 1 && s.role == 1 && s.isSet f_ASM_STATUS_DEMOTED

/-- ASSEMBLY.SET_ROLE (R483, R485, R491). -/
def execAssemblySetRole (r : Req) (role mask : Nat) (s : State) : Out :=
  done (runCmd s r 0x0902 anyLc
    (fun t => [need (resuming t role || t.asm.strap == 3) E_ASSEMBLY_ROLE, need (resuming t role || t.mode == 0 || t.mode == 2) E_MODE,
               need (decide (role ≤ 2)) (blame E_PARAM_RANGE 0x0100), need (decide (mask < 256) && mask % 16 == 0) (blame E_PARAM_RANGE 0x0101)])
    (okEff fun t =>
      if resuming t role then
        let term := (max t.asm.highTerm (t.fget f_ASM_TERM_VALUE) + 1) % 2 ^ 32
        ((t.setAsm { t.asm with demoted := [], announce := true }).seeTerm term).fputs [(f_ASM_TERM_VALUE, term), (f_ASM_STATUS_DEMOTED, 0)]
      else (t.setAsm { t.asm with role := role, mask := if role = 1 then mask / 16 else 0, device := 0 }).fput f_ASM_STATUS_DEVICE 0))

/-- ASSEMBLY.SET_DEPUTY (R488); a demoted manager is manager of no such ring (R499). -/
def execAssemblySetDeputy (r : Req) (device : Nat) (s : State) : Out :=
  done (runCmd s r 0x0903 anyLc
    (fun t => [need (t.role == 1 || t.role == 3) E_ASSEMBLY_ROLE, need (decide (device ≤ 64)) (blame E_PARAM_RANGE 0x0100),
               need (!(t.role == 1 && device != 0 && t.asm.demoted.contains (4 + (device - 1) / 16))) E_ASSEMBLY_ROLE,
               need (device == 0 || t.isPresent device) (blame E_PARAM_CONFLICT 0x0100)])
    (okEff fun t => t.fput f_ASM_DEPUTY_DEVICE device))

/-- ASSEMBLY.READ_WORKER: the last STATUS and the last merged SEAL_SEQ; zeros for an absent worker (R28). -/
def execAssemblyReadWorker (r : Req) (device : Nat) (s : State) : Out :=
  done (runCmd s r 0x0906 anyLc (fun _ => [need (decide (1 ≤ device ∧ device ≤ 64)) (blame E_PARAM_RANGE 0x0100)])
    (readEff fun t => let w := t.worker device; padTo 32 w.status ++ leBytes 8 (w.merged.getD 0)))

end Sys2Proof.Machine
end

