-- ==== Sys2Proof/Machine/Vat.lean ====
section
/-!
DEFINITION. Machine/Vat.lean: the vats apart from issue (chapter 11): decode tables, lane-trap interrupts, jobs and their aging, checkpoints,
spares, and the recovery of lanes and vat control engines (R276–R292, R503–R505, R508).
-/
namespace Sys2Proof.Machine

/-! ### Decode tables (R277–R279) -/

/-- The micro-instructions of an entry as the table holds them. -/
def dtMicro (s : State) (v i j : Nat) : Nat := s.loadN (dtAddr v i + 8 + 8 * j) 8
def dtLen (s : State) (v i : Nat) : Nat := dtHdr s v i / 2 ^ 26 % 8

/-- Whether a slot names a DT port, BR, SYS or a reserved port. -/
def forbidden (v : Nat) (x : Slot) : Bool :=
  !x.nop && (decide (0xC0 ≤ x.dst) || x.dst == 0x5C || x.dst == 0x5E || !dstOk (.vce v) x.dst || (!x.imm && !srcOk (.vce v) true x.src))

/-- Check 2 of the commit: KIND, LEN, reserved bytes, and micro-instructions beyond LEN. -/
def dtForm (s : State) (v i : Nat) : Bool :=
  let h := dtHdr s v i
  let kind := h / 2 ^ 29 % 4
  (kind == 1 || kind == 2) && dtLen s v i != 0 && h / 2 ^ 24 % 4 == 0 && (kind == 2 || h % 2 ^ 24 == 0) &&
  s.loadN (dtAddr v i + 4) 4 == 0 && (List.range 7).all (fun j => decide (j < dtLen s v i) || dtMicro s v i j == 0)

/-- The RESULT of a commit: the first check that fails decides. -/
def dtCheck (s : State) (v i : Nat) : Nat :=
  if crc32c (s.load (dtAddr v i) 64) ≠ s.regN (r_VAT_DT_CRC v) then 1
  else if !dtForm s v i then 2
  else if (List.range (dtLen s v i)).any (fun j => (slotsOf (.vce v) (dtMicro s v i j)).any (forbidden v)) then 3
  else 0

def State.putDtValid (s : State) (v i : Nat) (b : Bool) : State :=
  if i < 32 then s.putBit (f_VAT_DT_VALID_LO_VALUE v) i b else s.putBit (f_VAT_DT_VALID_HI_VALUE v) (i - 32) b

/-- VAT_DT_CMD is written. -/
def State.dtCommand (s : State) (v value : Nat) : State :=
  if s.isSet (f_VAT_CTRL_LOCK v) then s
  else
    let op := value / 2 ^ 28 % 8
    let i := value / 2 ^ 16 % 64
    let s1 := s.fputs [(f_VAT_DT_CMD_OP v, op), (f_VAT_DT_CMD_ENTRY v, i)]
    if !bit value 31 then s1
    else if op = 1 then
      let r := dtCheck s1 v i
      let s2 := s1.fput (f_VAT_DT_CMD_RESULT v) r
      if r = 0 then s2.putDtValid v i true else s2
    else if op = 2 then (s1.fput (f_VAT_DT_CMD_RESULT v) 0).putDtValid v i false
    else s1

/-- A byte of a table written through its window: ignored while locked, or while the entry is valid; VALID is written as 0. -/
def State.dtWrite (s : State) (a value : Nat) : State :=
  let v := (a - 0x400D0000) / 0x1000
  let i := (a - 0x400D0000) % 0x1000 / 0x40
  if s.isSet (f_VAT_CTRL_LOCK v) then s
  else if dtValid s v i then s.raise (f_VAT_STATUS_DTWR_IGN v)
  else s.storeN a 4 (if a % 0x40 = 0 then value % 2 ^ 31 else value)

/-- DT_COMMIT: VAT_DT_CMD written with OP 1 and GO. -/
def execDtCommit (w : Wr) (v : Nat) (s : State) : Out :=
  done (guarded s w (r_VAT_DT_CMD v) fun t => t.dtCommand v (2 ^ 31 + 2 ^ 28 + w.value % 2 ^ 28))

/-- DT_RETIRE: VAT_DT_CMD written with OP 2 and GO. -/
def execDtRetire (w : Wr) (v : Nat) (s : State) : Out :=
  done (guarded s w (r_VAT_DT_CMD v) fun t => t.dtCommand v (2 ^ 31 + 2 ^ 29 + w.value % 2 ^ 28))

/-! ### The vat control engine (R276, R280, R290, R292) -/

/-- A vat control engine traps. -/
def State.vceTrap (s : State) (v pc micro : Nat) (t : Trap) : State :=
  (s.fputs [(f_VAT_TRAP_CAUSE_CAUSE v, t.cause), (f_VAT_TRAP_CAUSE_SLOT v, t.slot), (f_VAT_TRAP_CAUSE_MICRO v, micro),
    (f_VAT_TRAP_CAUSE_DETAIL v, t.detail), (f_VAT_TRAP_PC_ADDR v, pc / 8), (f_VAT_STATUS_VSTATE v, 2)]).raise (f_VAT_IRQ_VTRAP v)

/-- The engine's registers and pipeline are cleared; it restarts at address 0 while EN is 1. -/
def State.resetVce (s : State) (v : Nat) : State :=
  (s.putVat v { s.vat v with u := Units.reset, arg := 0, handler := false }).fput (f_VAT_STATUS_VSTATE v)
    (if (s.vat v).retired then 3 else s.fget (f_VAT_CTRL_EN v))

/-- The seven counters clear, with DTWR_IGN. -/
def State.clearVat (s : State) (v : Nat) : State :=
  s.fputs [(f_VAT_MARK_BAD_VALUE v, 0), (f_VAT_CKPT_MISS_VALUE v, 0), (f_VAT_PROMOTED_VALUE v, 0), (f_VAT_DEADLINE_MISS_VALUE v, 0),
    (f_VAT_EMU_HIT_VALUE v, 0), (f_VAT_EMU_MISS_VALUE v, 0), (f_VAT_NOMARK_VALUE v, 0), (f_VAT_STATUS_DTWR_IGN v, 0)]

/-- VAT_CTRL is written. SPARE_EN changes only while EN is 0 and the block is not locked. -/
def State.vatControl (s : State) (v value : Nat) : State :=
  let spare := if s.isSet (f_VAT_CTRL_EN v) ∨ s.isSet (f_VAT_CTRL_LOCK v) then s.fget (f_VAT_CTRL_SPARE_EN v) else value / 2 % 2
  let s1 := s.fputs [(f_VAT_CTRL_SPARE_EN v, spare), (f_VAT_CTRL_EN v, value % 2)]
  let s2 := if bit value 31 then s1.raise (f_VAT_CTRL_LOCK v) else s1
  let s3 := if bit value 3 then s2.clearVat v else s2
  if bit value 2 then (s3.resetVce v).fillLanes v
  else match s3.fget (f_VAT_STATUS_VSTATE v), value % 2 with
    | 0, 1 => (s3.fput (f_VAT_STATUS_VSTATE v) 1).fillLanes v
    | 1, 0 => s3.fput (f_VAT_STATUS_VSTATE v) 0
    | _, _ => s3

/-- VAT_PC is written: ignored while the engine runs. -/
def State.setVatPc (s : State) (v value : Nat) : State :=
  if s.fget (f_VAT_STATUS_VSTATE v) = 1 then s
  else s.putVat v { s.vat v with u := { (s.vat v).u with pc := value / 8 % 2 ^ 14 * 8, target := 0, dslot := 0 } }

/-- VAT_LTRAP is written: VALID with 1 acknowledges the trap presented, and the next is shown. -/
def State.ackTrap (s : State) (v value : Nat) : State :=
  if bit value 31 ∧ s.isSet (f_VAT_LTRAP_VALID v) then
    let e := 16 * v + s.fget (f_VAT_LTRAP_LANE v)
    (s.putLane e { s.lane e with seen := true }).presentTrap v
  else s

/-- LTRAP_TAKEN: the engine takes LTRAP at a boundary outside delay slots and composites, unless it is in the handler. -/
def State.takeLtrap (s : State) (v : Nat) : State :=
  let x := s.vat v
  if v < 16 ∧ s.fget (f_VAT_STATUS_VSTATE v) = 1 ∧ s.isSet (f_VAT_IRQ_LTRAP v) ∧ s.isSet (f_VAT_IRQ_EN_LTRAP v) ∧ !x.handler ∧ x.u.dslot = 0 then
    (s.fput (f_VAT_EPC_ADDR v) (x.u.pc / 8)).putVat v { x with u := { x.u with pc := s.fget (f_VAT_VEC_ADDR v) * 8 }, handler := true }
  else s

/-- SYS RETURN. -/
def State.vatReturn (s : State) (v : Nat) : State :=
  s.putVat v { s.vat v with u := { (s.vat v).u with pc := s.fget (f_VAT_EPC_ADDR v) * 8 }, handler := false }

def execLtrapTaken (at_ v : Nat) (s : State) : Out := done ((s.at at_).takeLtrap v)
def execLtrapAck (w : Wr) (v : Nat) (s : State) : Out := done (guarded s w (r_VAT_LTRAP v) fun t => t.ackTrap v (w.value ||| 2 ^ 31))
def execVceReset (w : Wr) (v : Nat) (s : State) : Out := done (guarded s w (r_VAT_CTRL v) fun t => t.vatControl v (w.value ||| 4))

/-! ### Jobs (R283–R286) -/

/-- JOB_RELEASE: a periodic job's release comes: READY, and a lane left without a job takes it. -/
def State.releaseJob (s : State) (v j : Nat) : State :=
  if v < 16 ∧ j < 64 ∧ jobFlag s v j 0 ∧ !jobFlag s v j 1 ∧ jobPeriodTicks s v j ≠ 0 ∧ jobRelease s v j ≤ s.now then
    (s.putJobFlag v j 1 true).fillLanes v
  else s

/-- A configured class 3 job that waits, and whose waiting time has reached `n`/4 of its PERIOD. -/
def aged (s : State) (v j n : Nat) : Bool :=
  decide (v < 16 ∧ j < 64) && s.schedules v && jobFlag s v j 0 && jobFlag s v j 1 && jobConfigured s v j == 3 && jobPeriodTicks s v j != 0 &&
  decide (4 * jobRelease s v j + n * jobPeriodTicks s v j ≤ 4 * s.now)

/-- JOB_PROMOTE. -/
def State.promoteJob (s : State) (v j : Nat) : State :=
  if aged s v j 3 ∧ jobClass s v j = 3 then ((s.putJobClass v j 1).putJobFlag v j 3 true).bump (f_VAT_PROMOTED_VALUE v) else s

/-- JOB_DEADLINE_MISS: class 0 for one quantum. -/
def State.missJob (s : State) (v j : Nat) : State :=
  if aged s v j 4 then
    let s1 := ((((s.putJobClass v j 0).putJobFlag v j 4 true).bump (f_VAT_DEADLINE_MISS_VALUE v)).raise (f_VAT_IRQ_MISSED v)).putJobRelease v j
      (jobRelease s v j + jobPeriodTicks s v j)
    let e := 16 * v + jobLane s1 v j
    if (s1.lane e).job = some j then s1.putLane e { s1.lane e with disp := 0 } else s1
  else s

def execJobRelease (at_ v job : Nat) (s : State) : Out := done ((s.at at_).releaseJob v job)
def execJobPromote (at_ v job : Nat) (s : State) : Out := done ((s.at at_).promoteJob v job)
def execJobDeadlineMiss (at_ v job : Nat) (s : State) : Out := done ((s.at at_).missJob v job)

/-! ### Checkpoints and spares (R287–R289, R504, R508) -/

/-- CHECKPOINT_MISS: a 129th store or 19,531 instructions have passed without an accepted MARK: the checkpoint is invalid until the next. -/
def State.missCheckpoint (s : State) (e : Nat) : State :=
  let l := s.lane e
  if e < 256 ∧ ((l.ck.isNone ∧ 128 ≤ l.undo.length) ∨ 19531 < l.since) then
    (((s.putLane e { l with ck := none, undo := [], since := 0 }).putBit (f_VAT_STATUS_CKPT_VALID (e / 16)) (e % 16) false).bump
      (f_VAT_CKPT_MISS_VALUE (e / 16))).raise (f_VAT_IRQ_CKPT (e / 16))
  else s

def execCheckpointMiss (at_ e : Nat) (s : State) : Out := done ((s.at at_).missCheckpoint e)

def execLaneFault (at_ e cause : Nat) (bad : Option Nat) (s : State) : Out := done ((s.at at_).laneFault e cause bad)

/-! ### Faults of a vat control engine (R505) -/

/-- VCE_FAULT: the engine is reset and restarts; a second fault within 1 s retires the vat, whose lanes stop at their next accepted MARK. -/
def State.vceFault (s : State) (v : Nat) : State :=
  let last := at! s.flt.lastVce v never
  let second := decide (last ≤ s.now ∧ s.now < last + ticksPerS)
  if 16 ≤ v ∨ (s.vat v).retired = true then s
  else
    let s1 : State := { s with flt := { s.flt with lastVce := setAt s.flt.lastVce v s.now } }.elementFault 2 2 v (flag second) 0
    if second then
      let s2 := s1.resetVce v
      let s3 := (s2.putVat v { s2.vat v with retired := true }).fput (f_VAT_STATUS_VSTATE v) 3
      let s4 := (List.range 16).foldl (fun t l => if (t.lane (16 * v + l)).job.isNone then t.moveJobs v l else t) s3
      s4.recoverWithin 2 v 200 0
    else (s1.resetVce v).recoverWithin 2 v 20 0

def execVceFault (at_ v : Nat) (s : State) : Out := done ((s.at at_).vceFault v)

end Sys2Proof.Machine
end

