-- ==== Sys2Proof/Machine/Worlds.lean ====
section
/-!
DEFINITION. Machine/Worlds.lean: the custody pairs' contexts, regions, call gates, exceptions, interrupt lines, hold windows, the launch, pair
loss and the slices of a shared pair (chapter 12, R282, R294–R317, R511).
-/
namespace Sys2Proof.Machine

/-! ### Pairs, threads and contexts (R294, R295, R312) -/

def State.wmode (s : State) : Bool := s.isSet f_CORE_STATUS_WMODE

/-- The world whose code a context is; ring contexts run on world 0's thread. -/
def ctxWorld (c : Nat) : Nat := if 6 ≤ c then 1 else 0

def State.pairLost (s : State) (p : Nat) : Bool := if p = 0 then s.isSet f_CORE_STATUS_P0_LOST else s.isSet f_CORE_STATUS_P1_LOST

/-- The pair runs a thread. -/
def State.pairRuns (s : State) (p : Nat) : Bool :=
  decide (p < 2) && s.pwr.up && !s.pairLost p && (p == 0 || s.eng.p1) && !(s.thread (s.worldOn p)).stopped

/-- The thread changes context, as CORE_STATUS shows. -/
def State.setCtx (s : State) (p c : Nat) : State :=
  let w := s.worldOn p
  (s.putThread w { s.thread w with ctx := c }).fput (if p = 0 then f_CORE_STATUS_CTX0 else f_CORE_STATUS_CTX1) c

/-- Contexts that may not use the privileged ports (R296). -/
def unprivileged (c : Nat) : Bool := c == 3 || c == 4 || c == 6

/-- The interrupt enable of a context: of its world, or of ring mode. -/
def ieIndex (c : Nat) : Nat := if c < 4 then 2 else if c < 6 then 0 else 1
def State.ieOf (s : State) (c : Nat) : Bool := at! s.eng.ie (ieIndex c) false
def State.putIe (s : State) (c : Nat) (b : Bool) : State := { s with eng := { s.eng with ie := setAt s.eng.ie (ieIndex c) b } }

/-- The frame stack is emptied, and the BUSY bits it holds clear. -/
def State.gateBusy (s : State) (g : Nat) (b : Bool) : State := s.setRegN (r_CORE_GATE g 0) (setBitIn (s.regN (r_CORE_GATE g 0)) 28 b)
def State.dropFrames (s : State) (w : Nat) : State :=
  let s1 := (s.thread w).frames.foldl (fun t f => if f.busy then t.gateBusy f.gate false else t) s
  s1.putThread w { s1.thread w with frames := [] }

/-! ### Drain (R298) -/

/-- No-operations issue until no result is due beyond the next instruction; each counts as an instruction. -/
def Units.drain : Nat → Units → Units
  | 0, u => u
  | n + 1, u => if u.flight.all (fun f => decide (f.dist ≤ 1)) then u else Units.drain n { u.tick with icount := (u.icount + 1) % 2 ^ 32 }

def State.drainThread (s : State) (w : Nat) : State := s.putThread w { s.thread w with u := Units.drain 4 (s.thread w).u }

/-! ### Interrupt lines (R310, R511, and the chapters' routing) -/

/-- Enabled causes of a block. -/
def causes (s : State) (irq en : Nat) : Nat := s.regN irq &&& s.regN en

/-- Whether line `n` of world `w` is pending. Chapter 3 names no world for TR_IRQ: the custody world, which owns the slot (log entry 41). -/
def linePending (s : State) (w n : Nat) : Bool :=
  let on (x : Nat) : Bool := x != 0
  let cu (x : Nat) : Bool := w == 0 && x != 0
  match n with
  | 0 => on (causes s r_MODE_IRQ r_MODE_IRQ_EN)
  | 1 => cu (causes s r_CPR_IRQ r_CPR_IRQ_EN)
  | 2 => if w = 0 then s.isSet f_FLT_IRQ_EN_CU && (match presented s.flt.queue with | some r => r.sev != 0 | none => false)
         else s.isSet f_FLT_IRQ_EN_OP && s.flt.queue.any (fun r => decide (2 ≤ r.sev))
  | 3 => s.fget (f_TG_VSTAT_DEPTH w) != 0 && bit (s.regN r_TG_IRQ_EN) w
  | 4 => (List.range 8).any (fun r => cu (causes s (r_TR_IRQ r) (r_TR_IRQ_EN r)))
  | 5 => cu (causes s r_ALM_IRQ r_ALM_IRQ_EN)
  | 6 => cu (causes s r_SPG_IRQ r_SPG_IRQ_EN)
  | 7 => on (causes s r_LIM_IRQ r_LIM_IRQ_EN)
  | 8 => on (causes s r_SHT_IRQ r_SHT_IRQ_EN)
  | 9 => on (causes s r_MER_IRQ r_MER_IRQ_EN &&& (if w = 0 then 0xFFFFFFFF else 0xC))
  | 10 => on (causes s r_LDG_IRQ r_LDG_IRQ_EN &&& (if w = 0 then 0xFFFFFFFF else 0x14))
  | 11 => (List.range 16).any (fun v => on (causes s (r_VAT_IRQ v) (r_VAT_IRQ_EN v) &&& (if w = 0 then 0x3E else 0x12)))
  | 14 => on (causes s r_CORE_IRQ r_CORE_IRQ_EN)
  | 15 => cu (causes s r_FLC_IRQ r_FLC_IRQ_EN)
  | 16 => on (causes s r_KS_IRQ r_KS_IRQ_EN)
  | 17 | 21 => cu (causes s (r_CB_IRQ (n - 17)) (r_CB_IRQ_EN (n - 17)))
  | 18 | 19 | 20 => s.fget (f_CB_CLAIM_WORLD (n - 17)) == w + 1 && on (causes s (r_CB_IRQ (n - 17)) (r_CB_IRQ_EN (n - 17)))
  | 22 => cu (causes s r_CUL_IRQ r_CUL_IRQ_EN)
  | 23 => cu (causes s r_TMP_IRQ r_TMP_IRQ_EN)
  | 24 => cu (causes s r_BIST_IRQ r_BIST_IRQ_EN)
  | 25 => on (causes s (r_CMD_IRQ w) (r_CMD_IRQ_EN w))
  | 26 | 27 | 28 | 29 => on (causes s (r_XP_IRQ (n - 26)) (r_XP_IRQ_EN (n - 26)))
  | 31 => on (causes s r_ASM_IRQ r_ASM_IRQ_EN &&& (if w = 0 then 0xFFFFFFFF else 0x14))
  | 32 => cu (causes s r_SVC_IRQ r_SVC_IRQ_EN)
  | 33 => cu (causes s r_TAG_IRQ r_TAG_IRQ_EN)
  | _ => false

/-- CORE_IPEND as it reads. -/
def ipendWord (s : State) (w half : Nat) : Nat :=
  (List.range 32).foldl (fun a i => a + flag (linePending s w (32 * half + i)) * 2 ^ i) 0

def lineEnabled (s : State) (w n : Nat) : Bool := if n < 32 then bit (s.regN (r_CORE_IEN_LO w)) n else bit (s.regN (r_CORE_IEN_HI w)) (n - 32)

/-- A line's priority; for line 2 of the custody world the presented record's severity takes its place. -/
def linePriority (s : State) (w n : Nat) : Nat :=
  if w = 0 ∧ n = 2 then (match presented s.flt.queue with | some r => r.sev | none => 0)
  else s.regN (r_CORE_IPRI w (n / 8)) / 2 ^ (4 * (n % 8)) % 4

/-- The instruction boundary lies outside delay slots, an unconsumed prefix and a hold window. -/
def eligible (t : Thread) : Bool := t.u.dslot == 0 && t.u.preN == 0 && t.hold.isNone

/-- The line that a pair can take, a hold window apart: the highest priority, then the lowest number. -/
def lineToTake (s : State) (p : Nat) : Option Nat :=
  let w := s.worldOn p
  let t := s.thread w
  let own := if s.wmode then decide (4 ≤ t.ctx) && ctxWorld t.ctx == w else p == 0
  let gov := if s.wmode then w else 0
  if !own ∨ !s.ieOf t.ctx then none
  else
    let up (n : Nat) : Bool := (if s.wmode then linePending s w n else linePending s 0 n || linePending s 1 n) && lineEnabled s gov n &&
      decide (t.cpri < linePriority s gov n)
    (List.range 64).foldl (fun m n => if up n then (match m with
      | none => some n
      | some b => if linePriority s gov b < linePriority s gov n then some n else some b) else m) none

/-! ### Pair loss (R282, R308, R314, R316, R508, R517) -/

/-- Ticks of a world's slice: its share of 1,000 µs. -/
def sliceTicks (s : State) (w : Nat) : Nat :=
  let c := s.fget f_CORE_TSHARE_CSHARE
  (if w = 0 then c else 100 - c) * 15625 / 4

/-- The thread of a world starts again at its supervisor's vector. -/
def State.startThread (s : State) (w cause detail : Nat) : State :=
  let c := if w = 0 then 5 else 7
  (s.putThread w { Thread.reset with ctx := c, cause := BitVec.ofNat 32 (cause + detail * 2 ^ 24), u := { Units.reset with pc := s.fget (f_CORE_VEC_ADDR c) * 8 } }).putIe c false

/-- The slice of a world starts on the pair that is left. -/
def State.openSlice (s : State) (w p ends : Nat) : State :=
  let s1 := s.fput f_CORE_STATUS_SLICE w
  { s1.setCtx p (s1.thread w).ctx with eng := { (s1.setCtx p (s1.thread w).ctx).eng with sliceAt := ends } }

/-- Commands that a lost pair took without answering are presented again (R439). -/
def State.represent (s : State) (w : Nat) : State :=
  let base := s.fget (f_CMD_QBASE_VALUE w)
  (List.range 128).foldl (fun t i => if (t.byte (base + 16 * i)) = 2 then (t.setByte (base + 16 * i) 1).raise (f_CMD_IRQ_CMD w) else t) s

/-- A custody pair is lost: its thread's registers and frames are gone. In world mode the other pair carries both threads; with none left, or
in ring mode, nothing moves. -/
def State.losePair (s : State) (p addr : Nat) : State :=
  let q := 1 - p
  let w := s.worldOn p
  let second := s.pairLost q
  let s1 := if second then s.doubleFault 3 3 p addr 0 3 q else s.elementFault 3 3 p addr 0
  let s2 := ((s1.raise (if p = 0 then f_CORE_STATUS_P0_LOST else f_CORE_STATUS_P1_LOST)).raise f_CORE_IRQ_PAIR_LOST).dropFrames w
  let s3 : State := { s2 with flt := { s2.flt with queue := if w = 0 then s2.flt.queue.map (fun r => { r with rflags := setBitIn r.rflags 5 false }) else s2.flt.queue } }
  let s4 := s3.putThread w Thread.reset
  if !s.wmode ∨ second then s4
  else
    let s5 := ((s4.raise f_CORE_STATUS_TSHARE).startThread w 0x81 p).represent w
    let s6 := if eligible (s5.thread q) then (s5.drainThread q).openSlice w q (s5.now + sliceTicks s5 w) else s5.openSlice q q s5.now
    s6.recoverWithin 3 p 3 0

/-- PAIR_MISMATCH: the comparator stops the pair. -/
def execPairMismatch (at_ pair addr : Nat) (s : State) : Out :=
  let s0 := s.at at_
  done (if pair < 2 ∧ s0.pairLost pair = false then s0.losePair pair (addr % 2 ^ 32) else s0)

/-! ### Exceptions (R305–R309) -/

/-- The context that handles a context's traps. -/
def handlerOf (c : Nat) : Nat := if c < 4 then c - 1 else if c < 6 then 5 else 7

def State.t63 (s : State) (w : Nat) : Word := (s.thread w).u.reg 63

/-- Exception entry: `ret` is the return address, `pri` an interrupt's priority. -/
def State.enterExc (s : State) (p handler ret : Nat) (t : Trap) (pri : Option Nat) : State :=
  let w := s.worldOn p
  let s1 := s.drainThread w
  let x := s1.thread w
  if 32 ≤ x.frames.length ∨ s1.fget (f_CORE_VEC_ADDR handler) = 0 then s1.losePair p ret
  else
    let f : Frame := ⟨true, ret, x.ctx, x.u.reg 63, 0, false, p, x.cpri, x.u.target, x.u.dslot⟩
    let u := { x.u.setReg 63 (BitVec.ofNat 32 (s1.fget (f_CORE_XSTK_ADDR handler) * 8)) with
      pc := s1.fget (f_CORE_VEC_ADDR handler) * 8, target := 0, dslot := 0 }
    (s1.putThread w { x with u := u, frames := f :: x.frames, cpri := pri.getD x.cpri, hold := none, waiting := false,
                             cause := BitVec.ofNat 32 (t.cause + t.slot * 2 ^ 16 + t.detail * 2 ^ 24),
                             from_ := BitVec.ofNat 32 (x.ctx + 8 * x.u.dslot) }).setCtx p handler

/-- A trap of a custody core: taken by the handler of its context; context 0 has none. -/
def State.coreTrap (s : State) (p ret : Nat) (t : Trap) : State :=
  let x := s.thread (s.worldOn p)
  if x.ctx = 0 then s.stopPair (BitVec.ofNat 32 (t.cause + t.slot * 2 ^ 16 + t.detail * 2 ^ 24)) ret
  else s.enterExc p (handlerOf x.ctx) ret t none

/-- The state that R304 clears at a crossing between contexts. -/
def Units.crossed (u : Units) : Units :=
  { Units.reset with t := u.t.filter (fun x => decide (1 ≤ x.1 ∧ x.1 ≤ 8) || x.1 == 63), icount := u.icount, pc := u.pc, busAddr := u.busAddr }

def Units.toCtx (u : Units) (same : Bool) : Units := if same then u else u.crossed

/-- EXC.RET. -/
def State.excReturn (s : State) (p : Nat) : State :=
  let w := s.worldOn p
  let s1 := s.drainThread w
  let x := s1.thread w
  match x.frames with
  | [] => s
  | f :: rest =>
    let u := { x.u.setReg 63 f.sp with pc := f.ret, target := f.target, dslot := f.dslot }
    (s1.putThread w { x with u := u, frames := rest, cpri := f.cpri, hold := none }).setCtx p f.ctx

/-- EXC.SETPC and EXC.SETSP: the top exception frame. -/
def State.setTop (s : State) (p : Nat) (g : Frame → Frame) : State :=
  let w := s.worldOn p
  let x := s.thread w
  match x.frames with
  | [] => s
  | f :: rest => s.putThread w { x with frames := g f :: rest }

/-- INTERRUPT_TAKEN. A record presented when line 2 is taken is in service (R511). On a shared pair that idled, both threads waiting, the slice of the
world whose line is taken starts (R315). -/
def State.takeInterrupt (s : State) (p : Nat) : State :=
  let t := s.thread (s.worldOn p)
  if !s.pairRuns p ∨ !eligible t then s
  else match lineToTake s p with
    | none => s
    | some n =>
      let gov := if s.wmode then s.worldOn p else 0
      let s1 : State := if n = 2 ∧ gov = 0 then
          (match presented s.flt.queue with
           | some r => { s with flt := { s.flt with queue := s.flt.queue.map (fun x => if x = r then { x with rflags := setBitIn x.rflags 5 true } else x) } }
           | none => s)
        else s
      let s2 : State := if s.isSet f_CORE_STATUS_TSHARE && t.waiting && (s.thread (1 - gov)).waiting then
          { s1 with eng := { s1.eng with sliceAt := s1.now + sliceTicks s1 gov } } else s1
      s2.enterExc p (if s.wmode then handlerOf t.ctx else 1) (s.thread (s.worldOn p)).u.pc ⟨0x80, 0, n⟩ (some (linePriority s gov n))

def execInterruptTaken (at_ pair : Nat) (s : State) : Out := done ((s.at at_).takeInterrupt pair)

/-! ### Regions (R299, R300) -/

/-- A span within one enabled region of a context that grants the permissions asked. -/
def inRegion (s : State) (c a last : Nat) (r w x : Bool) : Bool :=
  (List.range 8).any (fun i =>
    s.isSet (f_CORE_RGN_HI_EN c i) && decide (s.fget (f_CORE_RGN_LO_BASE c i) * 64 ≤ a) && decide (last < s.fget (f_CORE_RGN_HI_LAST c i) * 64 + 64) &&
    (!r || s.isSet (f_CORE_RGN_LO_R c i)) && (!w || s.isSet (f_CORE_RGN_LO_W c i)) && (!x || s.isSet (f_CORE_RGN_LO_X c i)))

/-- The core block refuses a write. -/
def State.coreRefuse (s : State) : State := (s.bump f_CORE_WR_REFUSED_COUNT).raise f_CORE_IRQ_WR_REFUSED

/-- CORE_RGN_HI is written: the staged base, LAST and EN are committed where the writer may write the region. -/
def State.commitRegion (s : State) (w : Wr) (c i : Nat) : State :=
  let lo := Sparse.get (fun _ => (0 : Word)) s.eng.rgnLo (8 * c + i)
  let base := bitsOf lo 6 26
  let last := w.value / 64 % 2 ^ 26
  let ring := !s.wmode && decide (w.ctx ≤ 1)
  let sup := s.wmode && ((c == 4 && w.ctx == 5) || (c == 6 && w.ctx == 7)) &&
    inRegion s w.ctx (base * 64) (last * 64 + 63) (lo.getLsbD 0) (lo.getLsbD 1) (lo.getLsbD 2)
  if c < 8 ∧ i < 8 ∧ (ring || sup) = true then
    ((s.setReg (r_CORE_RGN_LO c i) lo).fput (f_CORE_RGN_HI_LAST c i) last).fput (f_CORE_RGN_HI_EN c i) (w.value % 2)
  else s.coreRefuse

def execRegionCommit (w : Wr) (ctx i : Nat) (s : State) : Out :=
  done (if ctx < 8 ∧ i < 8 then guarded s w (r_CORE_RGN_HI ctx i) fun t => t.commitRegion w ctx i else s.at w.at_)

/-! ### Call gates (R301–R304, R313) -/

def gateWord (s : State) (g i : Nat) : Nat := s.regN (r_CORE_GATE g i)
def gateValid (s : State) (g : Nat) : Bool := bit (gateWord s g 0) 31
def gateTgt (s : State) (g : Nat) : Nat := gateWord s g 0 / 256 % 8
def gateKind (s : State) (g k : Nat) : Nat := gateWord s g (1 + 3 * k) % 256

/-- The bits of CTRL that are zero. -/
def ctrlZero (v : Nat) : Bool := v / 2 ^ 24 % 16 == 0 && v / 2 ^ 11 % 32 == 0 && v / 2 ^ 3 % 32 == 0

/-- What R302 asks of an entry whose CTRL becomes `v`. -/
def entryOk (s : State) (g v : Nat) : Bool :=
  let n := v % 8
  decide (n ≤ 4) && ctrlZero v && gateWord s g 1 % 8 == 0 &&
  (List.range 4).all (fun j =>
    let k := j + 1
    let d := gateWord s g (1 + 3 * k)
    if k ≤ n then decide (d ≤ 4) else d == 0 && gateWord s g (2 + 3 * k) == 0 && gateWord s g (3 + 3 * k) == 0)

/-- Who may write an entry whose CTRL becomes `v`. -/
def mayWriteGate (s : State) (w : Wr) (g v : Nat) : Bool :=
  if !s.wmode then decide (w.ctx ≤ 1)
  else !bit (gateWord s g 0) 30 && (w.ctx == 5 || w.ctx == 7) && gateTgt s g / 2 == w.ctx / 2 && v / 256 % 8 / 2 == w.ctx / 2

/-- Word `i` of entry `g` is written. -/
def State.writeGate (s : State) (w : Wr) (g i : Nat) : State :=
  let v := setBitIn (w.value % 2 ^ 32) 28 false
  let old := gateWord s g 0
  let clears := i == 0 && !bit v 31
  if !mayWriteGate s w g (if i = 0 then v else old) ∨ bit old 28 ∨ (bit old 31 ∧ !clears) ∨ (i = 0 ∧ bit v 31 ∧ !entryOk s g v) then s.coreRefuse
  else s.setRegN (r_CORE_GATE g i) v

def execGateEntryCommit (w : Wr) (g : Nat) (s : State) : Out :=
  let x : Wr := { w with value := w.value % 2 ^ 31 + 2 ^ 31 }
  done (if g < 256 then guarded s x (r_CORE_GATE g 0) fun t => t.writeGate x g 0 else s.at w.at_)

/-- Check 5 of R303 for argument `k`: the REASON it fails with. -/
def argFails (s : State) (g k c : Nat) (u : Units) : Option Nat :=
  let a := gateWord s g (2 + 3 * k)
  let b := gateWord s g (3 + 3 * k)
  let t := u.reg k
  let n := (u.reg (k + 4)).toNat
  match gateKind s g k with
  | 1 => if a ≤ t.toNat ∧ t.toNat ≤ b then none else some 0x06
  | 2 => if (BitVec.ofNat 32 a).toInt ≤ t.toInt ∧ t.toInt ≤ (BitVec.ofNat 32 b).toInt then none else some 0x06
  | 0 => none
  | kind =>
    if n < a ∨ b < n then some 0x05
    else if n = 0 then none
    else if 2 ^ 32 < t.toNat + n ∨ !inRegion s c t.toNat (t.toNat + n - 1) true (kind == 4) false then some 0x07
    else none

/-- The first failure of R303: REASON and ARGN. -/
def gateRefusal (s : State) (p v : Nat) : Option (Nat × Nat) :=
  let x := s.thread (s.worldOn p)
  let g := v % 256
  let ctrl := gateWord s g 0
  let tgt := gateTgt s g
  let oneway := bit ctrl 29
  let named (c : Nat) : Bool := if s.wmode then decide (4 ≤ c) else decide (c < 4)
  let launch := oneway && tgt == 5 && x.ctx == 1 && !s.wmode
  let modeBad := ((!named tgt || !named x.ctx) && !launch) || (oneway && (s.wmode || decide (1 < x.ctx)))
  let top := gateWord s g 2
  if !gateValid s g then some (0x01, 0)
  else if modeBad then some (0x03, 0)
  else if !bit ctrl (16 + x.ctx) then some (0x02, 0)
  else if v / 2 ^ 12 ≠ 0 ∨ v / 256 % 16 ≠ ctrl % 8 then some (0x04, 0)
  else match (List.range (ctrl % 8)).findSome? (fun j => (argFails s g (j + 1) x.ctx x.u).map (fun r => (r, j + 1))) with
    | some f => some f
    | none =>
      if !inRegion s tgt (gateWord s g 1) (gateWord s g 1) false false true then some (0x0A, 0)
      else if (top = 0 ∧ tgt ≠ x.ctx) ∨ (top ≠ 0 ∧ top ≤ gateWord s g 3) then some (0x09, 0)
      else if bit ctrl 28 then some (0x0B, 0)
      else if 28 ≤ x.frames.length then some (0x08, 0)
      else if launch ∧ (s.fget (f_CORE_VEC_ADDR 5) = 0 ∨ s.fget (f_CORE_VEC_ADDR 7) = 0 ∨ s.fget (f_CORE_XSTK_ADDR 5) = 0 ∨ s.fget (f_CORE_XSTK_ADDR 7) = 0)
      then some (0x0C, 0)
      else none

/-- Steps 2 and 4 of the launch (R313), which also ends the start watchdog (R532). -/
def State.launch (s : State) : State :=
  let s1 := s.fputs [(f_CORE_CTRL_LOCK, 1), (f_CORE_STATUS_WMODE, 1), (f_TG_CTRL_LOCK, 1), (f_CPR_STATUS_STAGE, 2), (f_CPR_STATUS_STARTFAIL, 0),
    (f_CPR_LAUNCH_TIME_VALUE, satU 32 ((s.now - s.pwr.started) * 8 / 3125))]
  let s2 := ({ s1 with pwr := { s1.pwr with armed := none } }).startThread 1 0x82 0
  if s2.pairLost 1 then ((s2.raise f_CORE_STATUS_TSHARE).openSlice 1 0 (s2.now + sliceTicks s2 1))
  else { s2 with eng := { s2.eng with p1 := true } }.fput f_CORE_STATUS_CTX1 7

/-- An accepted call (R304). -/
def State.gateEnter (s : State) (p g : Nat) : State :=
  let w := s.worldOn p
  let s1 := s.drainThread w
  let x := s1.thread w
  let tgt := gateTgt s g
  let top := gateWord s g 2
  let oneway := bit (gateWord s g 0) 29
  let f : Frame := ⟨false, x.u.pc, x.ctx, x.u.reg 63, g, top != 0, p, x.cpri, 0, 0⟩
  let u1 := x.u.toCtx (tgt == x.ctx)
  let u2 := { (if top = 0 then u1 else u1.setReg 63 (BitVec.ofNat 32 top)) with pc := gateWord s g 1 }
  let s2 := if oneway then s1.dropFrames w else s1
  let s3 := if top ≠ 0 ∧ !oneway then s2.gateBusy g true else s2
  let s4 := (s3.putThread w { x with u := u2, frames := if oneway then [] else f :: x.frames, gateSt := 0, hold := none }).setCtx p tgt
  if oneway ∧ tgt = 5 then s4.launch else s4

/-- GATE.CALL with value `v`. -/
def State.gateCall (s : State) (p v : Nat) : State :=
  let w := s.worldOn p
  match gateRefusal s p v with
  | some (reason, argn) =>
    ((s.putThread w { s.thread w with gateSt := BitVec.ofNat 32 (reason * 256 + argn) }).bump f_CORE_GATE_REFUSED_COUNT).raise f_CORE_IRQ_GATE_REFUSED
  | none => s.gateEnter p (v % 256)

/-- GATE.RET. -/
def State.gateReturn (s : State) (p : Nat) : State :=
  let w := s.worldOn p
  let s1 := s.drainThread w
  let x := s1.thread w
  match x.frames with
  | [] => s
  | f :: rest =>
    let s2 := if f.busy then s1.gateBusy f.gate false else s1
    let u := { (x.u.toCtx (f.ctx == x.ctx)).setReg 63 f.sp with pc := f.ret }
    (s2.putThread w { x with u := u, frames := rest, gateSt := 0x80000000, hold := none }).setCtx p f.ctx

/-! ### Hold window (R311) -/

/-- Core cycles left in the open window: two to a tick. -/
def holdLeft (s : State) (t : Thread) : Nat := match t.hold with | some (at_, len, _) => len - 2 * (s.now - at_) | none => 0

/-- HOLD with value `v`. -/
def State.openHold (s : State) (p v : Nat) : State :=
  let w := s.worldOn p
  let t := s.thread w
  if v = 0 ∨ t.hold.isSome ∨ (lineToTake s p).isSome then s
  else s.putThread w { t with hold := some (s.now, min v 2048, t.ctx) }

def State.closeHold (s : State) (p : Nat) : State := s.putThread (s.worldOn p) { s.thread (s.worldOn p) with hold := none }

/-- HOLD_OVERRUN: the window reaches its length. -/
def State.overrunHold (s : State) (p : Nat) : State :=
  let t := s.thread (s.worldOn p)
  match t.hold with
  | none => s
  | some (_, len, c) =>
    if s.pairRuns p ∧ holdLeft s t = 0 then
      (((s.closeHold p).bump f_CORE_HOLD_OVR_COUNT).fputs [(f_CORE_HOLD_LAST_LEN, len), (f_CORE_HOLD_LAST_PAIR, p), (f_CORE_HOLD_LAST_CTX, c),
        (f_CORE_HOLD_PC_ADDR, t.u.pc)]).raise f_CORE_IRQ_HOLD_OVR
    else s

def execHoldOverrun (at_ pair : Nat) (s : State) : Out := done ((s.at at_).overrunHold pair)

/-! ### Slices (R315) -/

/-- SLICE_SWITCH: at an eligible boundary once the slice has ended or its thread waits; with both threads waiting, when a line of the other world
can be taken. The next slice is shortened by the delay. -/
def State.switchSlice (s : State) : State :=
  let w := s.fget f_CORE_STATUS_SLICE
  let o := 1 - w
  let p := if s.pairLost 0 then 1 else 0
  let t := s.thread w
  let idle := (s.thread o).waiting && (lineToTake (s.fput f_CORE_STATUS_SLICE o) p).isNone
  if !s.isSet f_CORE_STATUS_TSHARE ∨ !eligible t ∨ (s.now < s.eng.sliceAt ∧ !t.waiting) ∨ idle then s
  else (s.drainThread w).openSlice o p ((if t.waiting && (s.thread o).waiting then s.now else min s.eng.sliceAt s.now) + sliceTicks s o)

def execSliceSwitch (at_ : Nat) (s : State) : Out := done ((s.at at_).switchSlice)

/-! ### Source ports (R297) -/

def coreSrc (s : State) (p n : Nat) : Option Word :=
  let t := s.thread (s.worldOn p)
  let top := t.frames.find? (·.exc)
  match n with
  | 0x60 => some t.gateSt
  | 0x61 => some (match t.frames.find? (fun f => !f.exc) with | some f => BitVec.ofNat 32 (f.gate + 256 * f.ctx + 4096 * f.pair) | none => 0)
  | 0x62 => some (BitVec.ofNat 32 (t.ctx + 8 * flag s.wmode + 16 * p + 32 * flag (s.isSet f_CORE_STATUS_TSHARE) + 64 * t.cpri + 256 * flag (s.ieOf t.ctx) +
      512 * t.frames.length))
  | 0x63 => some t.cause
  | 0x64 => some (match top with | some f => BitVec.ofNat 32 f.ret | none => 0)
  | 0x65 => some (match top with | some f => f.sp | none => 0)
  | 0x66 => some t.from_
  | 0x67 => some (BitVec.ofNat 32 (holdLeft s t))
  | _ => none

end Sys2Proof.Machine
end

