-- ==== Sys2Proof/Machine/Link.lean ====
section
/-!
DEFINITION. Machine/Link.lean: protection of memories and buses, and the die-to-die link (R18, R332–R341, R503, R506).
-/
namespace Sys2Proof.Machine

/-! ### SRAM bank controllers (R506) -/

/-- The controller copy retired: the one whose residue fails; copy 1 when both pass. With both failing the spec names none: a free value. -/
def retiredCopy (s : State) (residue0 residue1 : Bool) : Nat :=
  match residue0, residue1 with
  | false, true => 0
  | true, _ => 1
  | false, false => s.draw 1

/-- SRAM_CONTROLLER_FAULT: the failing copy is retired. A fault of the copy that is left is a double fault and has no recovery. -/
def State.controllerFault (s : State) (b : Nat) (residue0 residue1 : Bool) : State :=
  let gone := at! s.flt.sramCopy b 0
  let copy := if gone = 0 then retiredCopy s residue0 residue1 else 2 - gone
  let s0 := if gone = 0 ∧ residue0 = false ∧ residue1 = false then s.drawn else s
  let s1 : State := { s0 with flt := { s0.flt with sramCopy := setAt s0.flt.sramCopy b (gone + 2 ^ copy) } }
  if 8 ≤ b ∨ gone = 3 then s
  else if gone = 0 then (s1.takeFault 4 2 b copy 0).recoverWithin 4 b 2 0
  else s1.doubleFault 4 2 b copy 0 4 b

def execSramControllerFault (at_ bank : Nat) (residue0 residue1 : Bool) (s : State) : Out :=
  done ((s.at at_).controllerFault bank residue0 residue1)

/-! ### Complementary pairs (R337) -/

/-- What the pair reads as: 0 the life-cycle state, 1 the lock bit of slot `index`, 2 bit `index` mod 32 of TG_PERM[index / 32], 3 bit `index` mod 64
of window index / 64, 4 CORE_STATUS.WMODE, 5 the Quarantine latch copy, 6 the state of key slot `index`. The spec gives no restrictive value of a
window bit: a free value; world mode is the restrictive value of WMODE (log entry 42). -/
def State.restrict (s : State) (kind index : Nat) : State :=
  match kind with
  | 0 => if s.life.reread.isSome then s
    else (State.fput { s with life := { s.life with reread := some (s.now + s.draw 12 % 3907, s.lc) } } f_LC_STATE_STATE 7).drawn
  | 1 => match lockReg (0x40000000 + index * 0x10000) with | some a => s.orReg a (2 ^ 31) | none => s
  | 2 => let a := r_TG_PERM (index / 32); s.setRegN a (setBitIn (s.regN a) (index % 32) false)
  | 3 =>
    let a := if index % 64 < 32 then r_TG_WIN_LO (index / 64) else r_TG_WIN_HI (index / 64)
    (s.setRegN a (setBitIn (s.regN a) (index % 32) (s.draw 1 == 1))).drawn
  | 4 => s.raise f_CORE_STATUS_WMODE
  | 5 => s.fput f_MODE_STATUS_QLATCH 1
  | _ => { s with keys := { s.keys with slots := setAt s.keys.slots index { at! s.keys.slots index emptySlot with loaded := false } } }

/-- COMPLEMENTARY_PAIR_FAULT: the pair reads as its restrictive value, PAIRFLT is set, and the duplicated-logic monitor trips. -/
def State.pairFault (s : State) (kind index : Nat) : State :=
  let ok := match kind with
    | 0 | 4 | 5 => true
    | 1 => decide (index < 64)
    | 2 => decide (index < 32 * 96)
    | 3 => decide (index < 64 * 16)
    | 6 => decide (index < 64)
    | _ => false
  if ok then ((s.restrict kind index).raise f_TG_STATUS_PAIRFLT).tripPulse 89 else s

def execComplementaryPairFault (at_ kind index : Nat) (s : State) : Out := done ((s.at at_).pairFault kind index)

/-! ### The die-to-die link (R339–R341) -/

/-- The codes of "C" and of the label "DZ-D2D" as bytes. -/
def d2dC : Nat := 0x43
def d2dLabel : Nat := leNat [0x44, 0x5A, 0x2D, 0x44, 0x32, 0x44]

/-- What waited crosses the link. -/
def State.sendHeld (s : State) (x : LinkItem) : State :=
  match x with
  | .entries l => s.celGroup l
  | .seal n b => s.mirrorSeal n b
  | .packet b => s.addRx ⟨4, 0, b⟩
  | .reply p => s.svcSendReply p

/-- A session is up under K_S: the counters are 0, the starters of the tag and of the service-port logic are reseeded (R404), what waited is sent in its
order, and the logic die's copies are current again. -/
def State.sessionUp (s : State) (nonceC : Nat) : State :=
  let ks := BitVec.ofNat 512 ((Config.kdf s.keys.pairing d2dLabel [s.gates.nonceL, nonceC]).toNat % 2 ^ 256)
  let s1 : State := { s with gates := { s.gates with nonceC := nonceC, ks := ks, cntOut := 0, cntIn := 0, attempts := 0, waiting := false, held := [], copies := [] } }
  let s2 := ((s1.setStarter 22 ⟨0, s1.now⟩).setStarter 23 ⟨0, s1.now⟩).fput f_TG_STATUS_D2D_UP 1
  let s3 := (s.gates.held.foldl State.sendHeld s2).svcCopy.tagCopies
  (if s3.isSet f_TAG_WCMD_GO then (s3.fput f_TAG_WCMD_GO 0).tagGo else s3).svcPump

/-- Step 1: N_L is drawn from the key store's starter, and HELLO is sent; no attempt is made while D2D_DOWN is set. -/
def State.hello (s : State) : State :=
  if s.isSet f_TG_STATUS_D2D_DOWN then s
  else match s.serve 16 with
    | (s1, none) => s1
    | (s1, some _) => { s1 with gates := { s1.gates with nonceL := s1.draw 128, waiting := true } }.drawn

/-- A failed attempt: repeated at once; the third in a row sets D2D_DOWN, which trips its monitor and is a fault. -/
def State.attemptFailed (s : State) : State :=
  let s1 := State.bump { s with gates := { s.gates with waiting := false, attempts := s.gates.attempts + 1 } } f_TG_D2D_FAIL_COUNT
  if s1.gates.attempts < 3 then s1.hello
  else ((s1.linkLost.raise f_TG_STATUS_D2D_DOWN).takeFault 0x0B 2 0 (s1.fget f_TG_D2D_FAIL_COUNT) 0).tripCondition 91 0

/-- Steps 2–4: the Cellar die's answer is checked; on success both dies hold K_S. -/
def State.helloReply (s : State) (nonceC mac : Nat) : State :=
  if !s.gates.waiting then s
  else if mac ≠ (Config.cmac s.keys.pairing [d2dC, s.gates.nonceL, nonceC]).toNat then s.attemptFailed
  else s.sessionUp nonceC

/-- A transfer arrives. A failure is discarded, counted, trips the monitor, and a new session follows; so does a counter near its end. -/
def State.transfer (s : State) (counter mac : Nat) (toCellar : Bool) (payload : List Nat) : State :=
  let last := if toCellar then s.gates.cntOut else s.gates.cntIn
  if !s.isSet f_TG_STATUS_D2D_UP then s
  else if counter = last + 1 ∧ mac = (Config.cmac s.gates.ks (counter :: payload)).toNat then
    let s1 : State := if toCellar then { s with gates := { s.gates with cntOut := counter } } else { s with gates := { s.gates with cntIn := counter } }
    if 2 ^ 48 - 2 ≤ counter then s1.hello else s1
  else ((s.linkLost.bump f_TG_D2D_FAIL_COUNT).tripPulse 91).hello

def execD2dSessionStart (at_ : Nat) (s : State) : Out := done ((s.at at_).hello)
def execD2dHelloReply (at_ nonceC mac : Nat) (s : State) : Out := done ((s.at at_).helloReply nonceC mac)
def execD2dTransfer (at_ counter mac : Nat) (toCellar : Bool) (payload : List Nat) (s : State) : Out :=
  done ((s.at at_).transfer counter mac toCellar payload)

/-- D2D_LINK_DROP (R20, R380): the session is gone. What the Cellar die has accepted it finishes; a new session is needed. -/
def execD2dLinkDrop (at_ : Nat) (s : State) : Out := done (s.at at_).linkLost

/-! ### FLT_DECLARE (R503, R518) -/

/-- FAULT_DECLARE: firmware declares a lane engine (KIND 1) or a vat control engine (KIND 2) faulted. -/
def execFaultDeclare (w : Wr) (s : State) : Out :=
  done (guarded s w r_FLT_DECLARE fun t =>
    match w.value / 2 ^ 30 % 4 with
    | 1 => t.laneFault (w.value % 256) 0 none
    | 2 => t.vceFault (w.value % 16)
    | _ => t)

end Sys2Proof.Machine
end

