-- ==== Sys2Proof/Machine/Tap.lean ====
section
/-!
DEFINITION. Machine/Tap.lean: the debug TAP (R555, R562) and the levels of the balls it may take over. No row of the table drives DBG_TCK, so no
command runs these operations (log entry 110).
-/
namespace Sys2Proof.Machine

/-- The life-cycle states in which the debug class is admitted (R323). -/
def debugState (l : Nat) : Bool := l == 0 || l == 1 || l == 5

/-- BYPASS and IDCODE are always offered, the others only in the states of R323. -/
def tapOffers (l : Nat) : TapInstr → Bool
  | .bypass => true
  | .idcode => true
  | .samplePreload => debugState l
  | .extest => debugState l

/-- The instruction in force: one no longer offered acts as BYPASS (DESIGN CHOICE, log entry 110). -/
def State.tapInForce (s : State) : TapInstr := if tapOffers s.lc s.tap.instr then s.tap.instr else .bypass

/-- The TAP takes an instruction; one it does not offer selects BYPASS (log entry 110). -/
def State.tapSelect (s : State) (i : TapInstr) : State := { s with tap := { s.tap with instr := if tapOffers s.lc i then i else .bypass } }

/-- A Shutter output (R553). -/
def OutBall.shutter : OutBall → Bool
  | .contactor _ => true
  | .derate => true
  | _ => false

/-- The balls in a fixed order. -/
def outBalls : List OutBall := [.contactor 0, .contactor 1, .contactor 2, .derate, .pwrEn, .pulse, .spiIrq, .mesh 0, .mesh 1]

/-- The level the part's own logic drives; SPI_IRQ_N is low while a reply waits (R441). -/
def State.drivenLevel (s : State) : OutBall → Bool
  | .contactor o => s.outClosed o.val
  | .derate => s.isSet f_SHT_STATUS_DERATE
  | .pwrEn => s.pwr.pwrEn
  | .pulse => s.pulseLevel
  | .spiIrq => !spiIrqLow s
  | .mesh m => meshOut s m.val

/-- The level of an output: under EXTEST the boundary register's, but the Shutter outputs stay under the Shutter (R555, R562). -/
def State.ballLevel (s : State) (b : OutBall) : Bool :=
  if s.tapInForce = .extest ∧ !b.shutter then s.tap.boundary.contains b else s.drivenLevel b

/-- SAMPLE: the boundary register takes the levels of the balls. -/
def State.tapSample (s : State) : State :=
  if s.tapInForce = .samplePreload then { s with tap := { s.tap with boundary := outBalls.filter s.ballLevel } } else s

/-- PRELOAD, and a shift under EXTEST: the boundary register takes the levels shifted in. -/
def State.tapPreload (s : State) (high : List OutBall) : State :=
  match s.tapInForce with
  | .samplePreload => { s with tap := { s.tap with boundary := outBalls.filter high.contains } }
  | .extest => { s with tap := { s.tap with boundary := outBalls.filter high.contains } }
  | _ => s

/-- What IDCODE shifts out: the spec gives no value (a free value, log entry 110). -/
def tapIdcode : BitVec 32 := Config.tapIdcode

end Sys2Proof.Machine
end

