-- ==== Sys2Proof/Machine/Power.lean ====
section
/-!
DEFINITION. Machine/Power.lean: supplies, resets and the start (chapter 23), with what boot ROM resolves (R40, R43, R92, R355, R357, R392,
R393): one command holds a whole start up to the loader's first instruction.
-/
namespace Sys2Proof.Machine

/-! ### What a reset of a block clears (R8, R526–R528) -/

/-- Registers that show what the Cellar die keeps: the tag's settings, the service port's state and its last write (R465, R481). -/
def shadowRegs : List Nat := [r_TAG_CTRL, r_SVC_STATUS, r_SVC_LASTWR]

/-- The registers of a slot read their reset values again; of TAG_CTRL only the lock bit (R526, R527). -/
def State.resetSlots (s : State) (slots : List Nat) : State :=
  let s1 := s.resetRegs (fun a => decide (0x40000000 ≤ a ∧ a < 0x40400000) && slots.contains ((a - 0x40000000) / 0x10000) && !shadowRegs.contains a)
  if slots.contains 33 then s1.fput f_TAG_CTRL_LOCK 0 else s1

def State.resetMem (s : State) (lo hi : Nat) : State := { s.heal lo (hi - lo) with mem := Sparse.drop (fun a => decide (lo ≤ a ∧ a < hi)) s.mem }

/-- Transit; the rosters are non-volatile (R80), and RATE is 0 again. -/
def State.resetTransit (s : State) : State :=
  { s with tr := { TransitState.reset with
      rings := s.tr.rings.map (fun x => { RingState.reset with roster := x.roster, rosterSet := x.rosterSet }),
      rates := (s.alm.inst + 1, 0) :: s.tr.rates } }

/-- Transit and Meridian are reset: no ring is in STATE 3 or 4 and no pack entry has been written, so the source set is empty (R101). -/
def State.resetSources (s : State) : State :=
  (State.fputs { s with alm := { s.alm with packK := none } } ((List.range 9).map (fun x => (f_ALM_SRC_CFG_MEMBER x, 0)))).fput f_ALM_STATUS_EXPIRED 0

/-- The spectrograph; chemistry tables, their selection and fit records are non-volatile (R135, R139). -/
def State.resetSpectro (s : State) : State :=
  { s with spg := { SpgState.reset with chem := s.spg.chem, nodeChem := s.spg.nodeChem, fits := s.spg.fits, fitted := s.spg.fitted } }

/-- The ledger: what lies in flash and on the archive device stays, and so does a genesis still owed, with the tallies it continues (R221, R230); blocks,
seals and the holding queue in progress are lost. The numbers of its items and corrections are the chain's. -/
def State.resetLedger (s : State) : State :=
  let g := s.ldg
  let genesis := bit g.bflags 0 || g.closed.any (fun c => bit c.bflags 0)
  { s with
    events := [],
    ldg := { LdgState.reset with
      chain := g.chain, test := g.test, ended := g.ended, origin := g.origin, from_ := g.origin.1, modeTicks := g.origin.2, prev := g.prev, bflags := 3 * flag genesis,
      evidence := g.evidence, suspect := g.suspect, corrNo := g.corrNo, sealSeq := g.sealSeq, sealHash := g.sealHash, sealAt := g.sealAt, keyIds := g.keyIds,
      gap := g.gap || g.jobs.any (fun j => bit j.sflags 2), timeSus := g.timeSus || g.jobs.any (fun j => bit j.sflags 3), tallySlot := g.tallySlot, hoSeq := g.hoSeq,
      modes := [(s.now, s.mode)], lcs := [(0, s.lc)],
      arc := { g.arc with queue := [], last := s.now } } }

def State.resetAssembly (s : State) : State :=
  { s with asm := { AsmState.reset with
      strap := s.asm.strap, inForce := s.asm.inForce, role := s.asm.role, mask := s.asm.mask, device := s.asm.device, adopt := s.asm.adopt, adopted := s.asm.adopted,
      ceded := s.asm.ceded, newSerial := s.asm.newSerial, req := none } }

/-- A SUCCESSION_SEAL whose KIND 5 seal is not made when the die is reset has had no effect (R438). -/
def State.dropCeding (s : State) : State :=
  { s with asm := { s.asm with ceded := if s.asm.ceded = 1 then 0 else s.asm.ceded, newSerial := if s.asm.ceded = 1 then 0 else s.asm.newSerial } }

/-- Keys, cipher blocks and Culture: every slot is empty; certificates, owner roots and the pairing key are fused or in flash; the starters of the
logic die are instantiated anew, those of the Cellar die go on (R383, R398, R399, R405). -/
def State.resetKeys (s : State) : State :=
  let starters := List.replicate 22 (⟨0, s.now⟩ : Starter) ++ s.keys.starters.drop 22
  let s1 : State := { s with keys := { KeyState.reset with
      pairing := s.keys.pairing, certs := s.keys.certs, roots := s.keys.roots, starters := starters, sources := List.replicate 3 ⟨[], false⟩ } }
  s1.fputs [(f_CUL_STATUS_HEALTHY, 7), (f_KS_STATUS_BRE_ZERO, flag (s.cel.bre == 0)), (f_KS_STATUS_REEST_PEND, flag s.cel.reest), (f_KS_STATUS_READY, 1)]

/-- The tamper block: monitors are rearmed and forget which sources have tripped; the grades are the reset ones, and so is the Cellar die's copy
(R413, R415). A condition that persists is detected by its next TAMPER_TRIP. -/
def State.resetTamper (s : State) : State :=
  let t : TamperState := { s.tmp with tripped := [], active := [], net := 0, diode := 0, nextSrc := 0, testAt := s.now }
  let s1 : State := { s with tmp := t }
  let g := (List.range 14).foldl (fun acc x => if s1.srcDisabled x then (withBits acc (2 * x) 2 0) else acc) (regDefault r_TMP_GRADE)
  let s2 := (s1.setReg r_TMP_GRADE g).fput f_TMP_DISABLED_SRC ((List.range 14).foldl (fun n x => if s1.srcDisabled x then n + 2 ^ x else n) 0)
  { s2 with cel := { s2.cel with grades := g.toNat } }

/-- Self-test: a run in progress, its records and soft repairs are lost; fuse repairs stay, and so does the count of runs since power-on (R542,
R544, R545). -/
def State.resetTests (s : State) : State :=
  { s with bist := { BistState.reset with run := s.bist.run, fuses := s.bist.fuses } }.fput f_BIST_FUSEREP_VALUE s.bist.fuses.length

/-- Soft repairs end with a reset of their element's domain (R541). -/
def State.dropRepairs (s : State) (test unit : Nat) : State :=
  let l := s.bist.soft.filter (fun x => !(x.1 == test && (test == 0x15 || x.2.1 == unit)))
  { s with bist := { s.bist with soft := l } }.fput f_BIST_SOFTREP_VALUE l.length

/-- The command interface and its transports; the service port and the tag live on the Cellar die: what they wait for from the logic die is lost,
and the registers show their state again (R465, R481). -/
def State.resetCommand (s : State) : State :=
  let s1 : State := { s with
    cmd := CmdState.reset,
    svc := { s.svc with cmdOut := false, owed := false, replies := [] },
    tag := { s.tag with req := none } }
  ((s1.fput f_SVC_STATUS_BUSY 0).svcCopy).tagCopies

/-- The flash controller: an operation is cut, every bank is held, the journals are replayed, and the selector is read (R355, R357, R359). -/
def State.resetFlash (s : State) : State :=
  let s1 := (List.range 8).foldl (fun t b => t.putJournal b (t.journal b)) s
  (s1.setRegN r_FLC_SELECT (s1.flc.count % 2 ^ 32)).setRegN r_FLC_IMGVER s1.flc.imgver

/-- An SRAM bank draws a new key from the key store's starter, and its initialisation begins (R332, R333). -/
def State.resetBank (s : State) (b : Nat) : State :=
  let s1 := match b with
    | 4 => s.resetMem 0x38000000 0x38800000
    | 5 => s.resetMem 0x38800000 0x39000000
    | 6 => s.resetMem 0x30000000 0x31000000
    | 7 => s.resetMem 0x10000000 0x10100000
    | _ => s.resetMem (0x20000000 + b * 0x200000) (0x20200000 + b * 0x200000)
  (State.putBit { s1 with gates := { s1.gates with bankOps := setAt s1.gates.bankOps b true, bankKeys := setAt s1.gates.bankKeys b (s1.draw 128) } }
    f_TG_STATUS_READY b false).asked 16

/-- The slots of peripheral group 0 (R526). -/
def groupZero : List Nat := [0, 1, 2, 5, 7, 8]

/-- The slots of the other domains, those of the custody cores among them. -/
def otherSlots : List Nat := (List.range 35).filter (fun n => !groupZero.contains n)

/-- Every bank's key is drawn. -/
def State.drawBankKeys (s : State) : State :=
  (List.range 8).foldl (fun t b => State.asked { t with gates := { t.gates with bankKeys := setAt t.gates.bankKeys b (t.draw 128) } } 16) s

/-- Every logic-die domain but 302 and 318 is reset (R528). D2D_DOWN lasts until the next main power-up (R339). -/
def State.resetRest (s : State) : State :=
  let s1 := ((s.flashCut).resetSlots otherSlots).fput f_TG_STATUS_D2D_DOWN (s.fget f_TG_STATUS_D2D_DOWN)
  let s2 := (s1.resetMem 0x10000000 0x60000000)
  let s3 : State := { s2 with readback := 0, tap := TapState.reset, gates := GateState.reset, eng := EngineState.reset, mer := MerState.reset }
  let s4 := ((((((s3.resetSources).resetTransit).resetSpectro).resetLedger).resetAssembly).dropCeding).resetKeys
  ((((s4.resetTamper).resetTests).resetCommand).resetFlash).drawBankKeys

/-- Peripheral group 0 is reset: fault queue, Almanac, arbiter, Shutter and the mode and life-cycle registers. What fuses and flash hold stays; a
transition not yet in step 3 is gone with the ledger that made its event. -/
def State.resetGroupZero (s : State) : State :=
  let s1 := s.resetSlots groupZero
  let s2 : State := { s1 with
    flt := FaultState.reset, lim := LimState.reset, sht := ShtState.reset, alm := { AlmState.reset with epochUtc := s.life.epochUtc },
    life := { s1.life with transition := none, modeReq := none, relReq := none, custodyLost := false, reread := none, above50 := 0 } }
  s2.put64 r_ALM_EPOCH_UTC_LO r_ALM_EPOCH_UTC_HI s.life.epochUtc

/-! ### Loss of power (R202, R521) -/

/-- The logic die loses power or is reset by a brown-out: its outputs fall low, the mode ends, the port is told (R462), and nothing of the die runs
until POR release. -/
def State.powerDown (s : State) (rails : Option Nat) : State :=
  if !s.pwr.up then { s with pwr := { s.pwr with brown := if rails.isNone then none else s.pwr.brown } }
  else
    let s1 := s.svcPowerLost.resetRest.resetGroupZero
    let s2 : State := { s1 with cel := { s1.cel with main := false },
                                pwr := { PwrState.reset with up := false, pwrEn := s.pwr.pwrEn, brown := rails, offAt := s.now } }
    if s2.cel.vbak then s2.seedNets 23 s2.backupCount else s2

def execMainSupplyLoss (at_ : Nat) (s : State) : Out := done ((s.at at_).powerDown none)

/-- BACKUP_POWER_LOSS: main power is absent too (R366). -/
def execBackupPowerLoss (at_ : Nat) (s : State) : Out := done ((s.at at_).powerDown none).loseBackup

/-- BROWN_OUT: a rail below its threshold for more than 10 µs; a shorter dip is a tamper trip and no brown-out. -/
def execBrownOut (at_ rails us : Nat) (s : State) : Out :=
  let t := s.at at_
  done (if 10 < us ∧ rails % 16 ≠ 0 ∧ t.pwr.up then t.powerDown (some (rails % 16)) else t)

/-! ### What boot ROM resolves -/

/-- Step 1 of R531: PLL lock and what the fuses hold. -/
def State.loadFuses (s : State) : State :=
  s.fputs [(f_CPR_STATUS_RPLL_LOCK, 1), (f_CPR_STATUS_LPLL_LOCK, 1), (f_CPR_STATUS_XTAL_OK, 1), (f_CPR_STATUS_ON_XTAL, 0), (f_LC_STATE_STATE, fusedLc s.life),
    (f_LC_STATE_FR, flag (fusedLc s.life == 5)), (f_DEV_BEHAVIOUR_ACTIVE, s.life.level), (f_MODE_STATUS_QLATCH, flag s.cel.qlatch)]

/-- The HUK is reconstructed (R382): a failed check leaves every slot empty and writes a TAMPER entry; Quarantine follows. -/
def State.rebuildHuk (s : State) (good : Bool) : State :=
  if good then s
  else (((s.fput f_KS_STATUS_READY 0).fput f_KS_STATUS_HUKFAIL 1).tamperEntry false false (tamperPayload s 0xFFFE 0 3 0 0 0 0 10))

/-- A die-to-die session is established (R339): both nonces are drawn; none after D2D_DOWN, until the next main power-up. -/
def State.newSession (s : State) : State :=
  if s.isSet f_TG_STATUS_D2D_DOWN then s
  else
    let s1 : State := { s with gates := { s.gates with nonceL := s.draw 128 } }
    (s1.asked 16).drawn.sessionUp ((s1.asked 16).draw 128)

/-- The last stamp held in the Cellar record. -/
def lastStamp (c : CellarState) : Option Nat :=
  c.record.foldl (fun m (_, x) => if x.commit then (match m with | none => some x.entry.stamp | some t => some (max t x.entry.stamp)) else m) none

/-- The stamp counter is loaded (R91, R92): from 0 in Blank; else from the backup count, or 1 s after the last stamp of the record when the count
does not exceed it. BCLOST is cleared (R366). -/
def State.loadTime (s : State) : State :=
  let s1 := s.fput f_CEL_STATUS_BCLOST 0
  if fusedLc s.life = 0 then s1.restartTime 0
  else
    let t := Config.backupStamp s.backupCount
    match lastStamp s.cel with
    | none => (s1.restartTime t).raise f_ALM_IRQ_TIME_STEP
    | some l =>
      if l < t then (s1.restartTime t).raise f_ALM_IRQ_TIME_STEP
      else
        let s2 := ((s1.restartTime (l + ticksPerS)).raise f_ALM_IRQ_TIME_STEP).fput f_ALM_STATUS_TIME_SUSPECT 1
        State.emit { s2 with ldg := { s2.ldg with suspect := true } } (s2.packLocus 0) 5 1 (leBytes 8 s2.now)

/-- The state whose pair has one fuse blown. -/
def tornPair (l : LifeState) : Option Nat :=
  if l.frPair.1 != l.frPair.2 then some 5
  else ((List.range 4).find? (fun i => (at! l.fuses i (false, false)).1 != (at! l.fuses i (false, false)).2)).map (· + 1)

/-- The newest of the intent, done and abandon entries that the Cellar die holds or has taken, when it is an intent: the transition (R40). -/
def openIntent (c : CellarState) : Option Transition :=
  let mine (t : Nat) : Bool := decide (0x10 ≤ t ∧ t ≤ 0x12)
  let all := ((heldEntries c).map (fun e => (e.type, e.payload)) ++ c.queue.map (fun q => (q.type, q.payload))).filter (fun p => mine p.1)
  match all.getLast? with
  | some (0x10, p) => let f (o n : Nat) : Nat := leNat ((p.drop o).take n); some ⟨f 0 1, f 1 1, f 2 2, f 4 4, none, 0⟩
  | _ => none

/-- Both fuses of a state's pair are blown. -/
def pairBlown (l : LifeState) (st : Nat) : Bool :=
  let p := if st = 5 then l.frPair else at! l.fuses (st - 1) (false, false)
  p.1 && p.2

/-- R40: what boot ROM finds of a transition, and whether Quarantine follows. -/
def State.resolveFuses (s : State) : State × Bool :=
  let torn := tornPair s.life
  let mark (t : State) : State := if torn.isSome then t.fput f_LC_STATE_TORN 1 else t
  match openIntent s.cel, torn with
  | some x, _ =>
    let s1 := if pairBlown s.life x.dst then s else s.blowState x
    (mark (s1.celWrite 0x11 false (lcPayload x)), false)
  | none, some t =>
    let s1 := s.blowPair t
    (mark ((s1.putLc (fusedLc s1.life)).celWrite 0x13 false (leBytes 1 t)), true)
  | none, none => (s, false)

/-- The newest TAMPER entry that set the latch: committed, or still in the Cellar die's queue. -/
def latchEntry (c : CellarState) : Option (Nat × List Byte) :=
  let sets (p : List Byte) : Bool := (at! p 20 0).getLsbD 2
  match c.queue.reverse.find? (fun q => q.type == 0x20 && sets q.payload) with
  | some q => some (q.stamp, q.payload)
  | none => ((heldEntries c).reverse.find? (fun e => e.type == 0x20 && sets e.payload)).map (fun e => (e.stamp, e.payload))

/-- A response made on backup is shown (R417): TMP_IRQ.BACKUP, and TMP_LAST from its entry. -/
def State.showBackup (s : State) (stamp : Nat) (p : List Byte) : State :=
  let f (i n : Nat) : Nat := leNat ((p.drop i).take n)
  if f 5 1 = 1 then
    ((s.raise f_TMP_IRQ_BACKUP).fputs [(f_TMP_LAST_INDEX, f 0 2), (f_TMP_LAST_GRADE, f 3 1), (f_TMP_LAST_SIDE, 1), (f_TMP_LAST_KIND, f 4 1), (f_TMP_LAST_SRC, f 2 1)]).put64
      r_TMP_LAST_STAMP_LO r_TMP_LAST_STAMP_HI stamp
  else s

/-- Quarantine or the home mode (R43). `torn`: R40 found an unexplained pair; `huk`: the HUK was rebuilt. -/
def State.startMode (s : State) (torn huk : Bool) : State :=
  let s0 := s.fputs [(f_MODE_STATUS_PVALID, 0), (f_MODE_STATUS_PENDING, 0)]
  let noBre := s0.cel.bre == 0 && decide (1 ≤ s0.lc ∧ s0.lc ≤ 4)
  let s1 := if noBre then s0.setLatch true else s0
  let entry := latchEntry s1.cel
  let (cause, detail) :=
    if torn then (4, 0)
    else if !huk then (2, 0xFFFE)
    else if noBre then (2, 0xFFFF)
    else match entry with | some (_, p) => (2, leNat (p.take 2)) | none => (2, 0)
  let s2 := if s1.cel.qlatch then (match entry with | some (t, p) => s1.showBackup t p | none => s1) else s1
  if s2.cel.qlatch || torn || !huk then
    if s2.mode = 4 then s2.setMode 4 cause 0 detail else s2.enterQuarantine cause detail
  else s2.setMode (homeMode s2.lc) 0 0 0

/-- Unsettled sectors of bank 0 are erased and the bank is released (R355). -/
def State.settleBankZero (s : State) : State :=
  ((s.journal 0).unsettled.foldl (fun t n => t.eraseSector (sectorAddr 0 n)) s).releaseBanks 1

/-- The TWIN_FALLBACK entry: the twin booted as the selector spells it, 0 for none, and both image versions (R357, R372). -/
def State.fallbackEntry (s : State) (twin : Nat) : State :=
  s.celWrite 0x21 false (leBytes 1 twin ++ zeros 3 ++ leBytes 4 (twinVersion s 0) ++ leBytes 4 (twinVersion s 1))

/-- Step 6: the loader, ring 1, at the twin's ENTRY; the start watchdog runs. -/
def State.enterLoader (s : State) (twin : Nat) : State :=
  let pc := twinBase twin + s.peekN (twinBase twin + 16) 4
  let x := s.thread 0
  let s1 := (s.putThread 0 { x with u := { x.u with pc := pc }, ctx := 1 }).setCtx 0 1
  { s1.fputs [(f_FLC_STATUS_ACTIVE, twin), (f_CPR_STATUS_STAGE, 1)] with pwr := { s1.pwr with armed := some s1.now } }

/-- The recovery monitor (R533): it serves the SPI target and the service port, so it enables them (DEDUCED, log entry 109). -/
def State.enterRecovery (s : State) : State :=
  (s.fallbackEntry 0).fputs [(f_CPR_STATUS_STAGE, 3), (f_CMD_CTRL_EN, 1), (f_XP_CTRL_EN 0, 1), (f_SVC_CTRL_EN, 1)]

/-- The twin is chosen and checked (R357, R532); booting the one the selector does not name writes its entry (DEDUCED for STARTFAIL 1, log entry 109). -/
def State.chooseTwin (s : State) : State :=
  let sel := s.flc.twin
  let other := 1 - sel
  match s.fget f_CPR_STATUS_STARTFAIL with
  | 0 =>
    if bootable s sel then s.enterLoader sel
    else if bootable s other then ((s.fput f_FLC_STATUS_FALLBACK 1).fallbackEntry (0x0A + other)).enterLoader other
    else s.enterRecovery
  | 1 =>
    if bootable s other then ((s.fput f_FLC_STATUS_FALLBACK 1).fallbackEntry (0x0A + other)).enterLoader other
    else if bootable s sel then s.enterLoader sel
    else s.enterRecovery
  | _ => s.enterRecovery

/-- The role that the strap or the stored choice gives at a main power-up (R483). -/
def State.sampleStraps (s : State) (strap : Nat) : State :=
  { s with asm := { s.asm with strap := strap, inForce := match strap with | 3 => s.asm.role | n => n } }

/-- The role of the last main power-up, with what flash holds of the assembly. -/
def State.bootAssembly (s : State) : State :=
  let role := s.asm.inForce
  s.fputs [(f_ASM_STATUS_STRAP, s.asm.strap), (f_ASM_STATUS_ROLE, role), (f_ASM_STATUS_DEVICE, if role = 2 then s.asm.device else 0),
    (f_ASM_STATUS_CEDED, flag (s.asm.ceded == 2)), (f_ASM_STATUS_ADOPT_PEND, flag s.asm.adopt.isSome)]

/-- Steps 1–6 of R531, common to every start. A block of boot ROM that does not match its check word stops pair 0 there (R335). -/
def State.boot (s : State) (warm : Bool) (b : Boot) : State :=
  let s1 := (s.loadFuses.bootAssembly.rebuildHuk b.huk).newSession
  if s1.upsets.any (fun x => decide (x.1 < 0x10000)) then s1.romMismatch
  else
    let s2 := if warm then s1 else s1.loadTime
    let s3 := s2.setRegN r_LDG_CHAIN_ID (s2.ldg.chain.getD 0)
    let (s4, torn) := s3.resolveFuses
    let s5 := if s4.cel.reest then s4.reestablish else s4
    let s6 := s5.startMode torn b.huk
    let s7 := s6.celWrite 0x01 false (w4 s6 r_MODE_CAUSE ++ w4 s6 r_LC_STATE ++ w4 s6 r_FLC_STATUS)
    let s8 := s7.settleBankZero.chooseTwin
    let s9 : State := { s8 with pwr := { s8.pwr with started := s8.now } }
    s9.discoverArchive b.mib b.unit64 b.device

/-! ### Power-on (R520, R531) -/

/-- The nets run in service from a main power-up on (R411). -/
def State.seededNets (s : State) : State := s.seedNets 16 s.now

/-- POR release with the backup count: every domain is reset, and the start runs. Estimates do not count the time without power (R152). -/
def State.porRelease (s : State) (count : Nat) (b : Boot) : State :=
  let s0 := if s.cel.main || s.cel.vbak then s else s.cellarStart
  let s1 := (s0.resetRest.fput f_TG_STATUS_D2D_DOWN 0).resetGroupZero
  let s2 : State := { s1 with
    cel := { s1.cel with main := true, vbak := true, bcount := count % 2 ^ 48, countAt := s1.now, scanTo := s1.now },
    bist := { s1.bist with run := 0 },
    pwr := PwrState.reset }
  let s3 := (s2.sampleStraps (b.strap % 4)).fputs [(f_CPR_RSTCAUSE_KIND, flag s.pwr.brown.isSome), (f_CPR_RSTCAUSE_RAILS, s.pwr.brown.getD 0), (f_CPR_STATUS_PWR_EN, 1)]
  let s4 := (s3.boot false b).seededNets
  let off := if s.pwr.up then 0 else s4.now - s.pwr.offAt
  State.outRecord { s4 with est := { s4.est with unpowered := s4.est.unpowered + off } } 10 0 s4.currentWord

def execPorRelease (count : Nat) (boot : Boot) (s : State) : Out := done (s.porRelease count boot)

/-! ### Warm resets (R524, R528, R529, R532, R535) -/

/-- A warm reset: group 0 keeps its registers, outputs and bounds; a pending change of mode and a Dormant entry phase are gone. -/
def State.warmReset (s : State) (cause : Nat) (b : Boot) : State :=
  let s1 := s.resetRest
  let s2 : State := { s1 with
    life := { s1.life with transition := none, modeReq := none, relReq := none },
    pwr := { s1.pwr with armed := none, loops := 0, requests := [], phase := 0, phaseAt := 0 } }
  let s3 := (s2.fputs [(f_CPR_STATUS_STAGE, 0), (f_CPR_STATUS_DQUEUE, 0), (f_CPR_STATUS_DWAIT, 0), (f_CPR_RSTCAUSE_KIND, 2), (f_CPR_RSTCAUSE_WCAUSE, cause),
    (f_CPR_RSTCAUSE_RAILS, 0)]).bump f_CPR_WARMCNT_VALUE
  s3.boot true b

/-- The first period boundary at least 2 ms after a stamp (R530). -/
def resetBoundary (t : Nat) : Nat := (t + 2 * ticksPerMs + ticksPerPeriod - 1) / ticksPerPeriod * ticksPerPeriod

/-- WARM_RESET: the reset that a cause brings; cause 0 waits for DEVICE.RESET's boundary. -/
def execWarmReset (at_ cause : Nat) (boot : Boot) (s : State) : Out :=
  let t := s.at at_
  let due := t.pwr.requests.any (fun (k, _, q) => k == 0 && decide (resetBoundary q ≤ t.now))
  done (if t.alive ∧ (if cause = 0 then due else decide (cause ≤ 5)) then t.warmReset cause boot else t)

/-- RST_N_LOW (R553): low for at least 1 µs. -/
def execRstNLow (at_ ns : Nat) (boot : Boot) (s : State) : Out :=
  let t := s.at at_
  done (if t.alive ∧ 1000 ≤ ns then t.warmReset 2 boot else t)

/-- A PLL has lost lock and has not locked again: the warm reset has begun, and the die is held until POR release. -/
def State.pllHeld (t : State) (line : Bool) : State :=
  let t1 := State.bump ((t.resetRest.bootAssembly).fputs [(f_CPR_STATUS_ON_XTAL, 1), (if line then f_CPR_STATUS_LPLL_LOCK else f_CPR_STATUS_RPLL_LOCK, 0), (f_CPR_STATUS_STAGE, 0),
    (f_CPR_RSTCAUSE_KIND, 2), (f_CPR_RSTCAUSE_WCAUSE, 4), (f_CPR_RSTCAUSE_RAILS, 0)]) f_CPR_WARMCNT_VALUE
  { t1 with
    life := { t1.life with transition := none, modeReq := none, relReq := none },
    pwr := { t1.pwr with armed := none, requests := [], phase := 0, loops := 1 } }

/-- PLL_LOCK_LOSS (R524): group 0 moves to the crystal; the warm reset ends with the PLLs locked again, or holds the die until POR release. -/
def execPllLockLoss (at_ : Nat) (line relocked : Bool) (boot : Boot) (s : State) : Out :=
  let t := s.at at_
  done (if !t.pwr.up then t else if relocked then t.warmReset 4 boot else t.pllHeld line)

/-- START_WATCHDOG_EXPIRY (R532): no launch within CPR_START_TO of loader entry. -/
def execStartWatchdogExpiry (at_ : Nat) (boot : Boot) (s : State) : Out :=
  let t := s.at at_
  done (match t.pwr.armed with
    | some a => if t.alive ∧ t.fget f_CPR_STATUS_STAGE = 1 ∧ a + t.fget f_CPR_START_TO_VALUE * ticksPerMs ≤ t.now then
        (t.bump f_CPR_STATUS_STARTFAIL).warmReset 3 boot else t
    | none => t)

/-- WAKE_N_FALL (R535): ignored until PWR_EN has fallen; a fall of 1 ms drives PWR_EN high, and with main power present a warm reset follows. -/
def execWakeNFall (at_ us : Nat) (boot : Boot) (s : State) : Out :=
  let t := s.at at_
  done (if us < 1000 ∨ t.pwr.pwrEn ∨ !(t.cel.vbak || t.cel.main) then t
    else
      let t1 : State := { t with pwr := { t.pwr with pwrEn := true } }
      if t1.pwr.up then ((t1.fput f_CPR_STATUS_PWR_EN 1).raise f_CPR_IRQ_WAKE).warmReset 5 boot else t1)

/-! ### Clock domains (R525–R527) -/

/-- A block of a peripheral group has its EN bit set (R527). DEDUCED: the archive port of group 2 is enabled by LDG_CTRL.ARC_EN (log entry 109). -/
def groupEnabled (s : State) (g : Nat) : Bool :=
  match g with
  | 1 => (List.range 8).any (fun r => s.isSet (f_TR_CTRL_EN r)) || s.isSet f_SPG_CTRL_EN || s.isSet f_MER_CTRL_EN || s.isSet f_LDG_CTRL_EN ||
      (List.range 16).any (fun v => s.isSet (f_VAT_CTRL_EN v))
  | 2 => s.isSet f_LDG_CTRL_ARC_EN
  | 5 => s.isSet f_CMD_CTRL_EN || (List.range 4).any (fun x => s.isSet (f_XP_CTRL_EN x)) || s.isSet f_SVC_CTRL_EN || s.isSet f_TAG_CTRL_EN
  | _ => false

def ungated (s : State) (d : Nat) : Bool := s.isSet (f_CPR_DOM_CLKEN d)

/-- What keeps a domain from being gated or reset (R527). -/
def domainRefused (s : State) (d : Nat) : Bool :=
  if protectedDomain d then true
  else if d < 256 then (s.lane d).stat == 1
  else if d < 272 then s.isSet (f_VAT_CTRL_EN (d - 256))
  else if 276 ≤ d ∧ d < 292 then ungated s (256 + (d - 276)) || (List.range 16).any (fun l => ungated s (16 * (d - 276) + l))
  else if 292 ≤ d ∧ d < 296 then inSourceSet s (2 * (d - 292)) || inSourceSet s (2 * (d - 292) + 1)
  else if d = 296 then (List.range 128).any (fun e => ungated s e)
  else if d = 297 then (List.range 128).any (fun e => ungated s (128 + e))
  else if d = 298 then (List.range 16).any (fun v => ungated s (256 + v))
  else if d = 300 then s.fget f_FLC_STATUS_BUSY != 0
  else if 302 ≤ d ∧ d ≤ 307 then groupEnabled s (d - 302)
  else if 308 ≤ d ∧ d < 316 then s.isSet (f_TR_CTRL_EN (d - 308))
  else false

/-- A domain reset: every register of the domain reads its reset value, and its lock bits are clear. -/
def State.resetDomain (s : State) (d : Nat) : State :=
  if d < 256 then
    ((s.resetRegs (fun a => decide (0x400C0000 + 64 * d ≤ a ∧ a < 0x400C0000 + 64 * d + 64))).putLane d LaneState.reset).putBit (f_VAT_STATUS_CKPT_VALID (d / 16)) (d % 16) false
  else if d < 272 then
    let v := d - 256
    let s1 := (s.resetMem (0x400D0000 + v * 0x1000) (0x400D1000 + v * 0x1000)).fputs [(f_VAT_DT_VALID_LO_VALUE v, 0), (f_VAT_DT_VALID_HI_VALUE v, 0)]
    (s1.putVat v VatState.reset).fput (f_VAT_STATUS_VSTATE v) 0
  else if 276 ≤ d ∧ d < 292 then
    let v := d - 276
    let s1 := s.fputs [(f_VAT_STATUS_SPARE_USED v, 0), (f_VAT_STATUS_FAILED v, 0)]
    (List.range 16).foldl (fun t l => if (t.lane (16 * v + l)).stat = 5 then t.putLane (16 * v + l) LaneState.reset else t) s1
  else if 292 ≤ d ∧ d < 300 then (s.resetBank (d - 292)).dropRepairs 0x10 (d - 292)
  else if d = 300 then (((s.flashCut).resetSlots [15]).resetFlash).dropRepairs 0x15 0
  else match d with
    | 303 => ((({ s.resetSlots [4, 6, 9, 10, 11] with mer := MerState.reset }).resetSources.resetTransit).resetSpectro).resetLedger
    | 304 => ((s.resetSlots [30, 31]).resetAssembly).bootAssembly
    | 305 => (s.resetSlots [16, 17, 18, 19, 20, 21, 22]).resetKeys
    | 307 => (s.resetSlots [25, 26, 27, 28, 29, 32, 33]).resetCommand
    | 319 => { s.resetSlots [34] with tap := TapState.reset }
    | _ => s

def State.domainRefusal (s : State) : State := (s.bump f_CPR_REFUSED_VALUE).raise f_CPR_IRQ_REFUSED

/-- CPR_DOM[d] is written: gated or held in reset unless refused. -/
def State.domainControl (s : State) (d v : Nat) : State :=
  let gate := !bit v 0
  let rst := bit v 1
  if (gate || rst) && domainRefused s d then s.domainRefusal
  else
    let s1 := if rst && !s.isSet (f_CPR_DOM_RST d) then s.resetDomain d else s
    s1.fputs [(f_CPR_DOM_CLKEN d, flag (!gate)), (f_CPR_DOM_RST d, flag rst), (f_CPR_DOM_RUNNING d, flag (!gate)), (f_CPR_DOM_INRESET d, flag rst)]

def execDomainControlWrite (w : Wr) (d : Nat) (s : State) : Out :=
  done (if d < 320 then guarded s w (r_CPR_DOM d) fun t => t.domainControl d w.value else s.at w.at_)

/-- CPR_RESET_WRITE: with the right key, a warm reset at once or a domain reset; anything else is ignored and counted. -/
def execCprResetWrite (w : Wr) (boot : Boot) (s : State) : Out :=
  done (guarded s w r_CPR_RESET fun t =>
    let d := w.value % 512
    if w.value / 2 ^ 24 % 256 ≠ 0x5A then t.domainRefusal
    else match w.value / 2 ^ 16 % 4 with
      | 0 => t.warmReset 1 boot
      | 1 => if 319 < d ∨ domainRefused t d = true then t.domainRefusal else t.resetDomain d
      | _ => t.domainRefusal)

/-- DEVICE.RESET (R530): the reply is queued, and the reset waits for its boundary: WARM_RESET with cause 0, or LIMIT_PERIOD_BOUNDARY for a domain. -/
def execDeviceReset (r : Req) (kind : Nat) (domain : Option Nat) (s : State) : Out :=
  let d := domain.getD 0
  done (runCmd s r 0x0106 anyLc
    (fun t => [need (kind != 1 || domain.isSome) (blame E_PARAM_MISSING 0x0101), need (decide (kind ≤ 1)) (blame E_PARAM_RANGE 0x0100),
               need (t.fget f_CPR_STATUS_STAGE != 3 || kind == 0) E_MODE, need (kind == 1 || t.mode != 1) E_MODE,
               need (kind == 0 || decide (d ≤ 319)) (blame E_PARAM_RANGE 0x0101),
               need (kind == 0 || !domainRefused t d) (blame E_PARAM_CONFLICT 0x0101)])
    (okEff fun t => { t with pwr := { t.pwr with requests := t.pwr.requests ++ [(kind, d, t.now)] } }))

/-- Domain resets asked for at least 2 ms before a boundary take effect there; a condition that has come to hold since refuses them (R527). -/
def State.dueResets (s : State) (p : Nat) : State :=
  let due := s.pwr.requests.filter (fun (k, _, q) => k == 1 && decide (resetBoundary q ≤ p))
  let s1 : State := { s with pwr := { s.pwr with requests := s.pwr.requests.filter (fun (k, _, q) => !(k == 1 && decide (resetBoundary q ≤ p))) } }
  due.foldl (fun t (_, d, _) => if domainRefused t d then t.domainRefusal else t.resetDomain d) s1

/-! ### The end of the Dormant entry phase (R534) -/

/-- Both main contactors are commanded open. -/
def mainOpen (s : State) : Bool := !s.outClosed 0 && !s.outClosed 1

/-- The last block is assembled and sealed (step 1). -/
def lastSealed (s : State) : Bool := s.ldg.closed.isEmpty && s.ldg.jobs.isEmpty && s.ldg.ends.isEmpty

/-- The archive's holding queue is drained, or its 2 s are over, or the archive does not run (step 4). -/
def queueDone (s : State) : Bool := !arcRunning s || s.ldg.arc.queue.isEmpty || decide (s.pwr.phaseAt + 2 * ticksPerS ≤ s.now)

/-- Step 2: the tally backup group, a DORMANT entry with cause 0, CEL_HEAD to NVM, and the copy of TMP_GRADE. -/
def State.dormantEntries (s : State) : State :=
  let s1 := s.tallyBackup.celWrite 0x02 false (leBytes 1 s.mode ++ leBytes 1 0)
  { s1 with cel := { s1.cel with headNvm := headBytes s1, grades := s1.regN r_TMP_GRADE },
            pwr := { s1.pwr with phase := 3 } }

/-- An output is driven low with its record. -/
def State.lowerOutput (s : State) (o : Nat) : State := if s.outClosed o then s.setOut o false 11 else s

/-- Step 5: sessions close, every output is low, and PWR_EN falls. -/
def State.dormantReady (s : State) : State :=
  let s1 := (List.range 3).foldl State.lowerOutput s.closeAll
  let s2 := s1.fputs [(f_CPR_STATUS_STAGE, 5), (f_CPR_STATUS_PWR_EN, 0), (f_CPR_STATUS_DWAIT, 0), (f_CPR_STATUS_DQUEUE, 0), (f_SHT_STATUS_DERATE, 0), (f_SHT_STATUS_DRQ, 0)]
  State.derateRecord { s2 with pwr := { s2.pwr with pwrEn := false, phase := 5 } } s 11

/-- DORMANT_POWER_OFF: the phase goes on as far as its waits allow, and ends with PWR_EN low. -/
def State.dormantStep (s : State) : State :=
  if s.pwr.phase = 0 ∨ s.pwr.phase = 5 ∨ !lastSealed s then s
  else
    let s1 := if s.pwr.phase < 3 then s.dormantEntries else s
    let s2 := s1.fput f_CPR_STATUS_DWAIT (flag (!mainOpen s1))
    if !mainOpen s2 then s2
    else
      let s3 := s2.fput f_CPR_STATUS_DQUEUE (flag (!queueDone s2))
      if s3.flc.op.isSome || !queueDone s3 then s3 else s3.dormantReady

def execDormantPowerOff (at_ : Nat) (s : State) : Out :=
  let t := s.at at_
  done (if t.alive then t.dormantStep else t)

end Sys2Proof.Machine
end

