-- ==== Sys2Proof/Machine/SelfTest.lean ====
section
/-!
DEFINITION. Machine/SelfTest.lean: the built-in self-test and repair (chapter 24).
-/
namespace Sys2Proof.Machine

/-! ### Tests (R36, R50, R538, R539) -/

/-- The tests of R538, in ascending order; from 0x10 on they belong to the full set. -/
def testIds : List Nat := [0x01, 0x02, 0x03, 0x04, 0x05, 0x06, 0x07, 0x10, 0x11, 0x12, 0x13, 0x14, 0x15]
def isFull (t : Nat) : Bool := decide (0x10 ≤ t)
def testsOf (mask : Nat) : List Nat := testIds.filter (fun t => bit mask t)
/-- A mask that names an unlisted test, or none. -/
def maskOk (mask : Nat) : Bool := decide (mask < 2 ^ 64) && mask != 0 && (List.range 64).all (fun t => !bit mask t || testIds.contains t)

/-- Flash banks that FLASH_ARRAY may take. -/
def freeBanks (s : State) : List Nat := [1, 2, 3, 4, 5].filter (fun b => !s.bitOf f_FLC_STATUS_BUSY b && !bit (s.fget f_FLC_CTRL_PROT) b)

/-- A domain of the isolation set could not be reset (R539). -/
def isolationBusy (s : State) (t : Nat) : Bool :=
  match t with
  | 0x10 => (List.range 7).any (fun b => domainRefused s (292 + b))
  | 0x11 => (List.range 256).any (fun e => domainRefused s e)
  | 0x12 => (List.range 16).any (fun v => domainRefused s (256 + v))
  | 0x13 => domainRefused s 305
  | 0x14 => s.isSet f_SPG_CTRL_EN
  | 0x15 => (freeBanks s).isEmpty
  | _ => false

/-- R36: the states that permit the sets of a run. -/
def testLc (ts : List Nat) (l : Nat) : Bool := l == 0 || l == 1 || l == 5 || ((l == 2 || l == 3) && !ts.any isFull)

/-- R50: the modes in which the state runs tests. -/
def testMode (s : State) : Bool :=
  match s.lc with
  | 2 => s.mode == 2
  | 3 => s.mode == 2 || s.mode == 3
  | _ => s.mode == 0 || s.mode == 2

/-- A test begins: BIST_STATUS shows it; FLASH_ARRAY takes one of the banks free for it, which one the spec leaves open (a free value). -/
def State.beginTest (s : State) : State :=
  match s.bist.left with
  | [] => s.fputs [(f_BIST_STATUS_BUSY, 0), (f_BIST_STATUS_FULL, 0), (f_BIST_STATUS_TEST, 0)]
  | t :: _ =>
    let s1 := s.fputs [(f_BIST_STATUS_BUSY, 1), (f_BIST_STATUS_FULL, flag (isFull t)), (f_BIST_STATUS_TEST, t)]
    let bs := freeBanks s1
    let pick := if t = 0x15 then at! bs (s1.draw 8 % bs.length) 0 else s1.bist.bank
    let s2 := if t = 0x15 then s1.drawn else s1
    { s2 with bist := { s2.bist with begun := s2.now, bank := pick } }

/-- A custody token's signers: slots 15 and 16 (R400). -/
def custodyRoot (s : State) : BitVec 384 := Config.ownerKeyHash (leNat (s.publicOf 15)) (leNat (s.publicOf 16))

/-- The parameters a token covers, as TLVs. -/
def runParams (mask : Nat) (fuse : Bool) : List Byte := tlv 0x0100 (leBytes 8 mask) ++ tlv 0x0101 (leBytes 1 (flag fuse))

/-- A run starts with the next number, and its first test begins. -/
def State.startRun (t : State) (ts : List Nat) (fuse : Bool) : State :=
  let n := (t.bist.run + 1) % 65536
  State.beginTest (State.fput { t with bist := { t.bist with run := n, left := ts, fuse := fuse, stop := 0, cut := none } } f_BIST_STATUS_RUN n)

/-- SELFTEST.RUN (R539, R542, R543, R546): the reply carries RUN once the first test starts. -/
def execSelftestRun (r : Req) (mask : Nat) (fuse : Bool) (token : Option Token) (_keys : PubKeys) (s : State) : Out :=
  let ts := testsOf mask
  done (runCmd s r 0x0B01 (testLc ts)
    (fun t => [need (testMode t) E_MODE, need (maskOk mask) (blame E_PARAM_RANGE 0x0100), need (!ts.any (isolationBusy t)) E_BUSY,
               need (!fuse || t.lc == 0 || t.lc == 1 || t.lc == 5) E_LIFECYCLE, need t.bist.left.isEmpty E_BUSY])
    (fun t =>
      let (t1, ok) := if t.lc = 2 ∨ t.lc = 3 then
          (match token with
           | some k =>
             let (u, good) := t.checkToken r 0x0B01 2 (paramDigest (runParams mask fuse)) (custodyRoot t) k
             (u, good && t.slotState 15 == 1 && t.slotState 16 == 1)
           | none => (t, false))
        else (t, true)
      if !ok then (t1, some (E_SESSION, []))
      else (t1.startRun ts fuse, some (OK, leBytes 2 ((t1.bist.run + 1) % 65536)))))

/-! ### Repairs (R541, R542) -/

/-- Spares of a group: 4 rows (even groups) and 2 columns (odd groups) per SRAM macro, 8 sectors per flash bank. -/
def sparesOf (test group : Nat) : Nat := if test = 0x15 then 8 else if group % 2 = 0 then 4 else 2

/-- Spares in use: those mapped now, and those that fuse entries name besides. -/
def sparesUsed (b : BistState) (test unit group : Nat) : Nat :=
  let same (t u g : Nat) : Bool := t == test && u == unit && g == group
  let soft := b.soft.filter (fun x => same x.1 x.2.1 x.2.2.1)
  soft.length + ((b.fuses.filter (fun x => same x.1 x.2.1 x.2.2)).length - (soft.filter (fun x => x.2.2.2)).length)

/-- One failing element is repaired if a spare remains. -/
def State.repair (s : State) (test : Nat) (f : TestFail) : State × Bool :=
  if sparesUsed s.bist test f.unit f.group < sparesOf test f.group then
    ({ s with bist := { s.bist with
        soft := s.bist.soft ++ [(test, f.unit, f.group, s.bist.fuse)],
        fuses := if s.bist.fuse then s.bist.fuses ++ [(test, f.unit, f.group)] else s.bist.fuses } }, true)
  else (s, false)

/-- Every failing element of a test that repairs: the state, and how many found a spare. -/
def State.repairAll (s : State) (test : Nat) : List TestFail → State × Nat
  | [] => (s, 0)
  | f :: t =>
    let (s1, ok) := s.repair test f
    let (s2, n) := s1.repairAll test t
    (s2, n + flag ok)

/-! ### The end of a test (R539, R544, R545) -/

/-- A result record. -/
def testRecord (begun run test result status unit addr fails soft fuse us cov : Nat) : List Byte :=
  leBytes 8 begun ++ leBytes 2 run ++ leBytes 1 test ++ leBytes 1 result ++ leBytes 2 status ++ leBytes 2 unit ++ leBytes 4 addr ++ leBytes 2 (satU 16 fails) ++
  leBytes 1 (satU 8 soft) ++ leBytes 1 (satU 8 fuse) ++ leBytes 4 us ++ leBytes 2 cov ++ zeros 2

/-- A record is held: the last 32, the newest shown in BIST_LAST. -/
def State.holdRecord (s : State) (bs : List Byte) : State :=
  (State.putWords { s with bist := { s.bist with records := (bs :: s.bist.records).take 32 } } (r_BIST_LAST 0) 8 bs)

/-- Domain resets that end a test of the full set; soft repairs it made stay (log entry 44). -/
def State.endIsolation (s : State) (t : Nat) : State :=
  match t with
  | 0x10 => (List.range 7).foldl (fun u b => u.resetBank b) s
  | 0x11 => (List.range 256).foldl (fun u e => u.resetDomain e) s
  | 0x12 => (List.range 16).foldl (fun u v => u.resetDomain (256 + v)) s
  | 0x13 => s.resetDomain 305
  | 0x14 => (s.resetSlots [6]).resetSpectro
  | 0x15 => (List.range 512).foldl (fun u n => u.eraseSector (sectorAddr s.bist.bank n)) s
  | _ => s

/-- SRAM_CHECK: every word with one bit in error is corrected, written back and counted as R334 says; nothing else changes (R540). -/
def State.scrubSram (s : State) : State :=
  ((s.upsets.filter (fun p => p.2 == 1 && (sramBank p.1).isSome)).map (·.1)).foldl State.checkUnit s

/-- What a non-destructive test may leave (R540): the spare lanes' local memory is undefined, corrected words are written back, and a monitor that did
not trip applies its grade. -/
def State.endPlain (s : State) (t : Nat) (fails : List TestFail) : State :=
  match t with
  | 0x01 => (List.range 16).foldl (fun u v =>
      if u.isSet (f_VAT_CTRL_SPARE_EN v) && !u.isSet (f_VAT_STATUS_SPARE_USED v) then
        { u.write (0x38000000 + (16 * v + 15) * 0x10000) ((List.range 0x4000).map (fun i => Config.freeValue 8 (u.fresh + i))) with fresh := u.fresh + 0x4000 }
      else u) s
  | 0x03 => s.scrubSram
  | 0x05 => fails.foldl (fun u f =>
      ((u.putBit f_TMP_MONFAULT_SRC (monitorSource f.unit) true).raise f_TMP_IRQ_MONFAULT).trip f.unit 0 2) s
  | _ => s

/-- The rest of a run ended early is not run. -/
def State.skipTests (s : State) : List Nat → State
  | [] => s
  | t :: rest => (s.holdRecord (testRecord 0 s.bist.run t 3 E_TEST_ABORTED 0xFFFF 0 0 0 0 0 0)).skipTests rest

/-- The next test begins, or the run ends. -/
def State.nextTest (s : State) (rest : List Nat) : State :=
  let s1 := (State.beginTest { s with bist := { s.bist with left := rest, cut := none } })
  if rest.isEmpty then s1.raise f_BIST_IRQ_DONE else s1

/-- SELFTEST_TEST_COMPLETE: the test in progress ends with the elements found failing. A coverage below 100 % is a free value. -/
def State.testComplete (s : State) (fails : List TestFail) : State :=
  match s.bist.left with
  | [] => s
  | t :: rest =>
    let us := satU 32 ((s.now - s.bist.begun) * 8 / 3125)
    let ended (u : State) : State := if isFull t then u.endIsolation t else if t = 0x01 then u.endPlain t [] else u
    if s.bist.stop ≠ 0 then
      let s0 := ended s
      let s1 := s0.drawn.holdRecord (testRecord s.bist.begun s.bist.run t 2 E_TEST_ABORTED 0xFFFF 0 0 0 0 us (s0.draw 16 % 10000))
      State.nextTest { s1.skipTests rest with bist := { (s1.skipTests rest).bist with stop := 0 } } []
    else match s.bist.cut with
      | some v =>
        let s0 := ended s
        (s0.drawn.holdRecord (testRecord s.bist.begun s.bist.run t 2 E_TEST_ABORTED v 0 0 0 0 us (s0.draw 16 % 10000))).nextTest rest
      | none =>
        let fixes := t == 0x10 || t == 0x15
        let (s1, soft) := if fixes then s.repairAll t fails else (s, 0)
        let bad := soft < fails.length
        let (unit, addr) := match fails with | f :: _ => (f.unit, f.addr) | [] => (0xFFFF, 0)
        let s2 := if isFull t then s1.endIsolation t else s1.endPlain t fails
        let s3 := s2.holdRecord (testRecord s.bist.begun s.bist.run t (flag bad) (if bad then E_TEST_FAIL else OK) unit addr fails.length soft
          (if s.bist.fuse then soft else 0) us 10000)
        let s4 := s3.fputs [(f_BIST_SOFTREP_VALUE, s3.bist.soft.length), (f_BIST_FUSEREP_VALUE, s3.bist.fuses.length)]
        let s5 := if bad then s4.raise f_BIST_IRQ_FAIL else s4
        (if bad && fixes then s5.raise f_BIST_IRQ_UNREPAIRABLE else s5).nextTest rest

def execSelftestTestComplete (at_ : Nat) (fails : List TestFail) (s : State) : Out := done ((s.at at_).testComplete fails)

/-! ### Reads and the abort (R546) -/

/-- The records of a run, oldest first. -/
def recordsOf (s : State) (run : Nat) : List (List Byte) := (s.bist.records.filter (fun b => leNat ((b.drop 8).take 2) == run)).reverse

def execSelftestReadResult (r : Req) (run : Nat) (s : State) : Out :=
  done (runCmd s r 0x0B02 anyLc (fun t => [need (!(recordsOf t run).isEmpty) (blame E_PARAM_RANGE 0x0100)]) (readEff fun t => (recordsOf t run).flatten))

def execSelftestAbort (r : Req) (s : State) : Out :=
  done (runCmd s r 0x0B03 anyLc (fun t => [need (!t.bist.left.isEmpty) E_PARAM_CONFLICT]) (okEff fun t => t.stopTests 2))

end Sys2Proof.Machine
end

