-- ==== Sys2Proof/Machine/Period.lean ====
section
/-!
DEFINITION. Machine/Period.lean: what the part does by itself at an instant, at an evaluation of the watermark and at a limit period boundary
(R59, R60, R98, R101-R105, R155).
-/
namespace Sys2Proof.Machine

/-! ### Instants (R59, R60, R98, R102) -/

/-- The instant `k` begins: its row is cleared, and if it is sampled every ring that runs expects the frames of its nodes. -/
def State.instantBegins (s : State) (k : Nat) : State :=
  let s1 := (s.loseLate k).clearRow k
  let s2 := if s1.sampled k then
      (List.range 8).foldl (fun t r =>
        if inSourceSet t r then
          let x := t.ring r
          t.setRing r { x with frames := x.frames ++ ((nodesOf x).filter (fun n => t.reachable r n)).map (fun n => ⟨k, n, 0, k + 1⟩) }
        else t) s1
    else s1
  { s2 with alm := { s2.alm with inst := k } }

/-- The instants after the newest up to `k`, as far as the store holds them. -/
def newInstants (old k : Nat) : List Nat := (List.range (min (k - old) 1024)).map (fun i => k - (min (k - old) 1024 - 1 - i))

/-- SAMPLE_INSTANT (R98); a worker behind its manager steps forward first (R114). -/
def execSampleInstant (at_ : Nat) (s : State) : Out :=
  let t := ((s.at at_).stepForward).dueChannel
  done (if t.alive then (newInstants t.alm.inst (instantAt t.now)).foldl State.instantBegins t else t)

/-- RATE_CHANGE_EFFECT (R60): a pending rate takes effect at its instant, on the rings, in Meridian and in Spectrograph. -/
def execRateChangeEffect (at_ : Nat) (s : State) : Out :=
  let t := s.at at_
  done (match t.tr.pending with
    | some (rate, k) => if stampOf k ≤ t.now then (t.ringRateEffect rate k).spgRateEffect rate k else t
    | none => t)

/-! ### The watermark (R101-R105) -/

/-- B_s in ticks (R103). -/
def boundTicks (s : State) (src : Nat) : Nat := s.fget (f_ALM_SRC_CFG_BOUND src) * 390625 / 8

/-- The expiry floor of a source. -/
def expiryFloor (s : State) (src : Nat) : Nat := s.now - boundTicks s src

def sources (s : State) : List Nat := (List.range 9).filter (inSourceSet s)

/-- reach[s] (R104). -/
def reach (s : State) (src : Nat) : Nat := gridFloor (max (horizon s src) (expiryFloor s src))

/-- The stamp W may advance to. -/
def wCandidate (s : State) : Nat :=
  match sources s with
  | [] => gridFloor (s.now - 195312)
  | a :: l => l.foldl (fun m x => min m (reach s x)) (reach s a)

/-- A bit of EXPIRED clears when its source's horizon again reaches its expiry floor (R105). -/
def State.clearExpired (s : State) : State :=
  (List.range 9).foldl (fun t x => if t.bitOf f_ALM_STATUS_EXPIRED x ∧ expiryFloor t x ≤ horizon t x then t.putBit f_ALM_STATUS_EXPIRED x false else t) s

/-- EXPIRY_ADVANCE (R105): W advances to `c` past a source's horizon. -/
def State.expiryAdvance (s : State) (c : Nat) : State :=
  (sources s).foldl (fun t x =>
    if horizon t x < c then
      let t1 := t.bump (f_ALM_SRC_EXPIRED_COUNT x)
      if t1.bitOf f_ALM_STATUS_EXPIRED x then t1 else (t1.putBit f_ALM_STATUS_EXPIRED x true).raise f_ALM_IRQ_EXPIRY
    else t) s

/-- One instant falls behind W: Spectrograph, the estimators and the WWE stage take its entries (R123, R146, R176). -/
def State.passInstant (s : State) (k : Nat) : State := (((s.readRow k).spgPass k).estInstant k).wweSample k

/-- W passes the instant `k`, and a block whose span ends there closes with what had passed until then (R207, R210). -/
def State.passAndClose (s : State) (k : Nat) : State :=
  let s1 := s.passInstant k
  State.closeBlocks { s1 with alm := { s1.alm with w := stampOf k } } 4096

/-- W advances to `c`. -/
def State.advance (s : State) (c : Nat) : State :=
  let s1 := s.expiryAdvance c
  let ks := (newInstants (instantAt s1.alm.w) (instantAt c)).filter (fun k => decide (s1.alm.inst ≤ k + 1023))
  let s2 : State := { s1 with ldg := { s1.ldg with expired := s1.ldg.expired ||| s1.fget f_ALM_STATUS_EXPIRED } }
  let s3 := ks.foldl State.passAndClose s2
  { s3 with alm := { s3.alm with w := c } }

/-- WATERMARK_EVAL (R104): W advances if it may; late entries are folded, and blocks that W has passed close (R109, R207). -/
def State.watermark (s : State) : State :=
  let s1 := s.clearExpired
  let c := wCandidate s1
  let s2 := if s1.alm.w < c then s1.advance c else s1
  (((s2.foldQueue).closeBlocks 4096).ledgerNext).raisePilot

def execWatermarkEval (at_ : Nat) (s : State) : Out :=
  let t := s.at at_
  done (if t.alive then t.watermark else t)

/-! ### The limit period (R155) -/

/-- FLAGS of the frame formed last. -/
def frameFlags (s : State) : Nat := leNat ((s.lim.frame.drop 1).take 1)

/-- The node's setting that the balancing decision asks for: one duty per node, 0x80 when every chosen cell has it (R159, log entry 94). -/
def decidedBleed (s : State) (node : Nat) : Nat × Nat :=
  let (m, f) := at! s.est.bleed node (0, 0)
  (m, if m = 0 then 0 else if f = m then 0x80 else 0x40)

/-- The balancing decision goes to the enables of every node that has a cell with a profile; Quarantine ignores the writes (R159, R200). -/
def State.sendDecision (s : State) : State :=
  if s.mode = 4 then s
  else (List.range 128).foldl (fun t node =>
    if s.populated.any (fun i => nodeIdx i == node && (s.profileOf i).isSome) then
      let (m, d) := decidedBleed s node
      t.setBleed (node / 16) (node % 16) m d
    else t) s

/-- What happens at the boundary `p` (a stamp): a mode change, domain resets, the arbiter and the Shutter, Meridian, the estimators, every 500 ms the
balancing enables, and what the ledger latches. -/
def State.boundary (s : State) (p : Nat) : State :=
  let s1 := (s.modeBoundary).dueResets p
  let s2 := ((((s1.arbitrate p).meridianPeriod p).estPeriod p).presenceCheck).presences
  let s3 := if s.lim.period / 50 < p / ticksPerPeriod / 50 then s2.sendDecision else s2
  s3.pushSnap { snapOf s3 true (frameFlags s3) with stamp := p }

/-- LIMIT_PERIOD_BOUNDARY: the newest boundary that has not been taken. While a failed relock holds the die in reset, group 0 runs on: the arbiter and
the shaping (R24, R528). -/
def execLimitPeriodBoundary (at_ : Nat) (s : State) : Out :=
  let t := s.at at_
  let p := t.now / ticksPerPeriod * ticksPerPeriod
  done (if t.pwr.up ∧ t.lim.period < t.now / ticksPerPeriod then (if t.alive then t.boundary p else t.arbitrate p) else t)

end Sys2Proof.Machine
end

