-- ==== Sys2Proof/Machine/Views.lean ====
section
/-!
DEFINITION. Machine/Views.lean: what a read on the spine returns (R6, R318–R328, R353): registers that show state held elsewhere, words latched
by a read of the low half, reads with an effect, the windows of the Cellar die, and memory.
-/
namespace Sys2Proof.Machine

/-- The word of bytes at `i`. -/
def wordAt (bs : List Byte) (i : Nat) : Nat := leNat ((bs.drop i).take 4)

/-! ### Registers in two halves -/

/-- The 64-bit value whose low half is the register at `a`, of those whose high half is latched by the low read. -/
def wideValue (s : State) (a : Nat) : Option Nat :=
  if a = r_ALM_NOW_LO then some s.now
  else if a = r_ALM_WM_LO then some s.alm.w
  else if 0x40050104 ≤ a ∧ a < 0x40050194 ∧ a % 16 = 4 then some (horizon s ((a - 0x40050104) / 16))
  else if a = r_LIM_PERIOD_LO then some (s.get64 r_LIM_PERIOD_LO r_LIM_PERIOD_HI)
  else if 0x40090100 ≤ a ∧ a < 0x40090150 ∧ a % 8 = 0 then some (accValue s ((a - 0x40090100) / 8))
  else if a = r_SHT_HZ_STAMP_LO then some (s.get64 r_SHT_HZ_STAMP_LO r_SHT_HZ_STAMP_HI)
  else if a = r_LDG_HEAD_SEQ_LO ∨ a = r_LDG_HEAD_STAMP_LO ∨ a = r_LDG_SEAL_SEQ_LO then some (s.get64 a (a + 4))
  else if 0x400B0000 ≤ a ∧ a < 0x400B1000 ∧ a % 256 = 0x50 then some (s.get64 a (a + 4))
  else if a = r_CEL_BCOUNT_LO then some s.backupCount
  else if a = r_TMP_LAST_STAMP_LO then some (s.get64 a (a + 4))
  else if a = r_ASM_LOSS_STAMP_LO then some (s.get64 a (a + 4))
  else none

/-! ### Registers that show state held elsewhere, by block -/

def fltView (s : State) (off : Nat) : Option Nat :=
  if off = 4 then some (fltStatusWord s)
  else if 8 ≤ off ∧ off < 0x20 then some (fltRecWord s ((off - 8) / 4)) else none

def limView (s : State) (off : Nat) : Option Nat :=
  if 0x10 ≤ off ∧ off < 0x20 then some (capWord s ((off - 0x10) / 4)) else none

/-- MER_TBL shows the standby bank (R180). -/
def merView (s : State) (off : Nat) : Option Nat :=
  if 0x1000 ≤ off ∧ off < 0x1000 + 11296 then some (wordAt (standbyBytes s) (off - 0x1000)) else none

/-- KIND of the open block (R208, R229): of the oldest closed one, else of the one in progress, which a special end of its span may decide. -/
def openKind (s : State) : Nat :=
  match s.ldg.closed with
  | c :: _ => blockKind s c
  | [] =>
    let sp := (s.ldg.ends.filter (fun p => p.1 == blockEnd s.ldg)).map (·.2)
    if s.ldg.ended then 0 else if s.evidenceNow then 1 else if s.ldg.test then 2 else if sp.contains 4 then 4 else if sp.contains 3 then 3 else 0

def ldgView (s : State) (off : Nat) : Option Nat :=
  if off = 4 then some (s.regN r_LDG_STATUS + 32768 * flag s.evidenceNow + (if s.ldg.chain.isSome then openKind s else 0)) else none

def vatView (s : State) (off : Nat) : Option Nat :=
  if off % 256 = 8 ∧ off < 0x1000 then some (s.vat (off / 256)).u.pc else none

def laneView (s : State) (off : Nat) : Option Nat :=
  let e := off / 64
  if 256 ≤ e then none
  else match off % 64 with
    | 4 => some (laneStatus s e)
    | 8 => some (s.lane e).u.pc
    | 0x20 => some ((s.lane e).k % 2 ^ 32)
    | 0x2C => some (s.lane e).u.icount
    | _ => none

/-- A decode table as it reads: VALID in bit 31 of each entry's first word (R278). -/
def tableView (s : State) (a : Nat) : Nat :=
  let v := (a - 0x400D0000) / 0x1000
  let i := (a - 0x400D0000) % 0x1000 / 64
  if a % 64 = 0 then s.loadN a 4 % 2 ^ 31 + 2 ^ 31 * flag (dtValid s v i) else s.loadN a 4

def coreView (s : State) (off : Nat) : Option Nat :=
  match off with
  | 0x80 => some (ipendWord s 0 0)
  | 0x84 => some (ipendWord s 0 1)
  | 0x90 => some (ipendWord s 1 0)
  | 0x94 => some (ipendWord s 1 1)
  | _ => none

def ksView (s : State) (off : Nat) : Option Nat :=
  if 0x100 ≤ off ∧ off < 0x200 then some (slotWord s ((off - 0x100) / 4))
  else if 0x200 ≤ off ∧ off < 0x300 then some (epochWord s ((off - 0x200) / 4)) else none

def cmdView (s : State) (off : Nat) : Option Nat :=
  if off = 4 then some (cmdStatusWord s)
  else if 0x40 ≤ off ∧ off < 0x80 then
    (if off % 8 = 0 then some (sessWord s ((off - 0x40) / 8)) else some ((s.session ((off - 0x40) / 8)).seqHi % 2 ^ 32))
  else none

/-- XP_STATUS (R449): the queues, and the SPI target's link. -/
def xpView (s : State) (p off : Nat) : Option Nat :=
  if off = 4 then
    let link := if p = 0 then s.fget (f_XP_CTRL_EN 0) else s.fget (f_XP_STATUS_LINK p)
    some (satU 8 (s.cmd.tx.filter (fun x => x.path == p)).length * 65536 + satU 8 (rxWaiting s p) * 256 + s.regN (r_XP_STATUS p) % 8 / 2 * 2 + link)
  else none

/-- TAG_UID: UID0 in the low byte (R467). -/
def tagView (off : Nat) : Option Nat :=
  if off = 8 then some (Config.uid.toNat % 2 ^ 32) else if off = 0xC then some (Config.uid.toNat / 2 ^ 32) else none

def celView (s : State) (off : Nat) : Option Nat :=
  let c := s.cel
  match off with
  | 4 => some (512 * flag s.scanning + s.fget f_CEL_STATUS_BCLOST * 8 + c.queue.length * 16 + 4 * flag c.qlatch + 2 * flag s.vresOk + flag c.main)
  | 0x14 => some (match c.incident with | some i => satU 16 i.offered * 65536 + i.number | none => 0)
  | _ => none

/-- A register's word as it reads, without the effect a read has. -/
def view (s : State) (a : Nat) : Nat :=
  let off := a % 0x10000
  let own : Option Nat := match a / 0x10000 with
    | 0x4002 => fltView s off
    | 0x4007 => limView s off
    | 0x4008 => if off = 0x3C then some (dwellWord s) else none
    | 0x4009 => merView s off
    | 0x400A => ldgView s off
    | 0x400B => vatView s off
    | 0x400C => laneView s off
    | 0x400D => some (tableView s a)
    | 0x400E => coreView s off
    | 0x4010 => ksView s off
    | 0x4016 => if off = 4 then some (culStatusWord s) else none
    | 0x4017 => if off = 0x2C then some (tempWord s) else none
    | 0x4019 => cmdView s off
    | 0x401A => xpView s 0 off
    | 0x401B => xpView s 1 off
    | 0x401C => xpView s 2 off
    | 0x401D => xpView s 3 off
    | 0x4021 => tagView off
    | 0x5018 => celView s off
    | _ => none
  if !s.linkUp ∧ (0x40200000 ≤ a ∧ a < 0x40220000) then
    match keyed s.gates.copies a with
    | some v => v.toNat
    | none => (own.getD (s.regN a))
  else own.getD (s.regN a)

/-! ### The Cellar windows (R367, R457, R469) -/

/-- A word of the Cellar record, the seal mirror, the passport or the service user area. -/
def cellarWindow (s : State) (a : Nat) : Nat :=
  let o := a - 0x50000000
  if o < 0x100000 then
    match keyed s.cel.record (o / 64) with
    | some x => if x.commit then wordAt x.entry.bytes (o % 64) else 0
    | none => 0
  else if o < 0x140000 then
    match s.cel.mirror.find? (fun x => x.1 == (o - 0x100000) / 0x1000) with
    | some (_, _, bs) => wordAt bs (o % 0x1000)
    | none => 0
  else if o < 0x142000 then wordAt (s.passport ((o - 0x140000) / 16)) (o % 16)
  else 0

/-! ### Reads -/

/-- A word of a memory as a read of it gives it (R334, R335, R345, R506): what cannot be corrected reads as zero with an error; a mismatch of boot
ROM stops pair 0, a spoiled entry of the reorder store or the pack segment is no entry any more. -/
def State.readMemory (s : State) (a : Nat) : State × Word × Bool :=
  let v : Word := BitVec.ofNat 32 (s.peekN a 4)
  let (t, bad) := s.checkRead a 4
  if !bad then (t, v, false)
  else if a < 0x10000 then (t.romMismatch, 0, true)
  else if 0x20000000 ≤ a ∧ a < 0x20800000 then (t.dropSlot a, 0, true)
  else if 0x100F8000 ≤ a ∧ a < 0x10100000 then (t.dropPack (rowInstant t ((a - 0x100F8000) / 32)), 0, true)
  else (t, 0, true)

/-- What an admitted read of the word at `a` gives: the state, the word, and whether the response is an error. With no session of the link nothing on
the Cellar die answers (R18). -/
def State.readWord (s : State) (a : Nat) : State × Word × Bool :=
  let ok (t : State) (v : Nat) : State × Word × Bool := (t, BitVec.ofNat 32 v, false)
  if 0x50000000 ≤ a ∧ a < 0x60000000 ∧ !s.linkUp then (s, 0, true)
  else if 0x40000000 ≤ a ∧ a < 0x40230000 ∨ 0x50180000 ≤ a ∧ a < 0x50180200 then
    let off := a % 0x10000
    if a / 0x10000 = 0x4016 ∧ (0x20 ≤ off ∧ off < 0x28 ∨ 0x40 ≤ off ∧ off < 0x80) then
      match s.serve (if off < 0x40 then 20 + (off - 0x20) / 4 else (off - 0x40) / 4) with
      | (t, some v) => ok t v
      | (t, none) => ok t 0
    else match wideValue s a with
      | some v => ok { s with latched := Sparse.set (fun _ => (0 : Word)) s.latched (a + 4) (BitVec.ofNat 32 (v / 2 ^ 32)) } (v % 2 ^ 32)
      | none =>
        if (wideValue s (a - 4)).isSome then (s, Sparse.get (fun _ => (0 : Word)) s.latched a, false)
        else ok s (view s a)
  else if 0x50000000 ≤ a ∧ a < 0x50143000 then ok s (cellarWindow s a)
  else if inFlash a then
    if s.bitOf f_FLC_STATUS_RELEASED (bankOf a) then (s.flashTouched a).readMemory a else (s, 0, true)
  else s.readMemory a

/-- A read on the spine (R326–R328, R336): an address no gate guards, or a gate that denies it, gives zero with an error response and a notice; a void
transfer gives zero with an error response, and the target of one whose word only is damaged on the way back has been read. A domain held in reset gives
its reset values (log entry 45). -/
def State.spineRead (s : State) (acc : Acc) (noise : Nat) : State × Word × Bool :=
  if acc.addr % 4 ≠ 0 then (s, 0, true)
  else if damaged s acc 0 (noise % 256) then (s.busFault acc.addr, 0, true)
  else match gateCheck s acc with
    | some reason => (s.notice acc reason, 0, true)
    | none =>
      let (t, v, err) := s.readWord acc.addr
      if damaged s acc v.toNat noise then (t.busFault acc.addr, 0, true) else (t, v, err)

end Sys2Proof.Machine
end

