-- ==== Sys2Proof/Machine/RegWrite.lean ====
section
/-!
DEFINITION. Machine/RegWrite.lean: what a posted write on the spine does at its target (R6, R7, R9, R318–R328 and the register sections of the
chapters): the writes that have rows of their own, the fields with ranges, the blocks that check the writer, the windows and memory; and the rows
LOCK_SET, COUNTER_CLEAR and REGISTER_WRITE.
-/
namespace Sys2Proof.Machine

/-- The state a row answers. -/
def after (o : Out) (s : State) : State := match o with | .next t => t | _ => s

/-- A write that is kept only when its fields lie in their ranges. -/
def ranged (ok : Nat → Bool) (a : Nat) (v : Nat) (t : State) : State := if ok v then t.writeWord a v else t

def within (lo hi n : Nat) : Bool := decide (lo ≤ n ∧ n ≤ hi)

/-! ### Peripheral group 0 -/

/-- What boot ROM will find after a warm reset that no command brings (log entry 49): free values; no other archive device is fitted during it. -/
def drawnBoot (s : State) : Boot :=
  let d := s.draw 64
  ⟨bit d 0, d / 4 % 512, bit d 1, none, d / 512 % 4⟩

/-- Slot 1 (R527, R532, R536). -/
def cprWrite (s : State) (w : Wr) (off : Nat) : State :=
  let a := 0x40010000 + off
  if off = 0xC then after (execCprResetWrite w (drawnBoot s) s.drawn) s
  else if 0x400 ≤ off ∧ off < 0x400 + 4 * 320 then after (execDomainControlWrite w ((off - 0x400) / 4) s) s
  else guarded s w a fun t =>
    if off = 0x10 then ranged (within 100 60000) a w.value t else t.writeWord a w.value

/-- Slot 2 (R511, R518): each world's supervisor writes its own bit of FLT_IRQ_EN. -/
def fltWrite (s : State) (w : Wr) (off : Nat) : State :=
  let a := 0x40020000 + off
  if off = 0x20 then after (execFaultAck w s) s
  else if off = 0x24 then after (execFaultDeclare w s) s
  else guarded s w a fun t =>
    if off = 0x30 then
      (if w.cls = 3 then t.fput f_FLT_IRQ_EN_OP (w.value / 2 % 2) else t.fput f_FLT_IRQ_EN_CU (w.value % 2))
    else t.writeWord a w.value

/-- A custody core in ring mode, contexts 0 and 1 (R342). -/
def fromRing (t : State) (w : Wr) : Bool := ringCtx01 (wrAcc w 0) && !t.wmode

/-- A refused write of the target-gate block. -/
def tgRefuse (t : State) : State := t.bump f_TG_WR_REFUSED_COUNT

/-- A permission word without its reserved bits. -/
def permWord (v : Nat) : Nat := (BitVec.ofNat 32 v &&& 0x77777777#32).toNat

/-- TG_CTRL: LOCK from the ring contexts, CLRCNT from them and from either world's supervisor. -/
def tgControl (t : State) (w : Wr) : State :=
  let may := logWriter t w 0 || logWriter t w 1
  let t1 := if !bit w.value 1 then t else if may then (countersOf r_TG_CTRL).foldl (fun u c => u.setRegN c 0) t else tgRefuse t
  if bit w.value 31 then (if fromRing t w then t1.raise f_TG_CTRL_LOCK else tgRefuse t1) else t1

/-- TG_IRQ_EN: the bits that the writer may write. -/
def tgIrqEn (t : State) (w : Wr) : State :=
  let one (u : State) (b : Nat) : State := if logWriter t w b then u.putBit f_TG_IRQ_EN_EN b (bit w.value b) else u
  if logWriter t w 0 || logWriter t w 1 then one (one t 0) 1 else tgRefuse t

/-- Slot 3 (R325, R330, R342). -/
def tgWrite (s : State) (w : Wr) (off : Nat) : State :=
  let a := 0x40030000 + off
  if off = 0x28 ∨ off = 0x2C then after (execViolationPop w ((off - 0x28) / 4) s) s
  else if 0x300 ≤ off ∧ off < 0x380 ∧ off % 8 = 4 then after (execWindowCommit w ((off - 0x300) / 8) s) s
  else guarded s w a fun t =>
    if off = 0 then tgControl t w
    else if off = 0x30 then
      tgIrqEn t w
    else if 0x100 ≤ off ∧ off < 0x280 then
      let g := (off - 0x100) / 4
      if !fromRing t w ∨ t.isSet f_TG_CTRL_LOCK then tgRefuse t
      else if programmable g ∧ (g < 80 ∨ g < 96) then t.setRegN a (permWord w.value) else t
    else if 0x300 ≤ off ∧ off < 0x380 then
      (if !fromRing t w ∨ t.isSet f_TG_CTRL_LOCK then tgRefuse t
       else { t with gates := { t.gates with staged := setAt t.gates.staged ((off - 0x300) / 8) (BitVec.ofNat 32 w.value &&& 0xFFFFF00C#32) } })
    else t

/-- Slot 5 (R103, R108, R117). -/
def almWrite (s : State) (w : Wr) (off : Nat) : State :=
  let a := 0x40050000 + off
  if off = 0x24 then after (execLqAck w s) s
  else guarded s w a fun t =>
    if 0x100 ≤ off ∧ off < 0x190 ∧ off % 16 = 0 then
      (if off = 0x180 then t else ranged (fun v => within 4 512 (v % 1024)) a w.value t)
    else t.writeWord a w.value

/-- Slot 7 (R155, R156, R158, R162, R444). -/
def limWrite (s : State) (w : Wr) (off : Nat) : State :=
  let a := 0x40070000 + off
  if off = 8 ∨ off = 0xC then after (execLimitBaseWrite w (off == 0xC) s) s
  else if 0x10 ≤ off ∧ off < 0x20 then after (execLimitCapWrite w (decide (0x18 ≤ off)) (off % 8 == 4) s) s
  else guarded s w a fun t => t.writeWord a w.value

/-- Slot 8 (R187–R198, R205). -/
def shtWrite (s : State) (w : Wr) (off : Nat) : State :=
  let a := 0x40080000 + off
  if off = 8 then after (execContactorRegisterRequest w s) s
  else if off = 0x10 ∨ off = 0x14 then after (execDerateBitWrite w (off == 0x14) s) s
  else if off = 0x1C then after (execLimpRegisterWrite w s) s
  else if 0x400 ≤ off ∧ off < 0x600 then after (execBleedRegisterWrite w ((off - 0x400) / 0x40) ((off - 0x400) % 0x40 / 4) s) s
  else guarded s w a fun t =>
    let v := w.value
    if off = 0x18 then ranged (fun v => preOk (v % 65536) (v / 65536 % 65536)) a v t
    else if 0x20 ≤ off ∧ off < 0x30 then
      let h := (off - 0x20) / 4
      let action := if h = 0 then t.fget (f_SHT_HZ_CFG_ACTION 0) else v / 2 ^ 14 % 4
      let dly := if h = 0 then t.fget (f_SHT_HZ_CFG_OPEN_DLY 0) else v % 1024
      if t.mode ≠ 0 ∧ t.mode ≠ 2 then t.shtRefused
      else if t.isSet f_SHT_CTRL_LOCK || !hazardOk action dly (v / 65536 % 256) (v / 2 ^ 24 % 256) then t
      else t.setHazard h action dly (v / 65536 % 256) (v / 2 ^ 24 % 256)
    else t.writeWord a v

/-! ### Peripheral group 1 -/

/-- Slot 4 (R60, R75, R78, R89). -/
def transitWrite (s : State) (w : Wr) (off : Nat) : State :=
  let a := 0x40040000 + off
  let ring := off / 256
  if off = 0x800 then after (execRateRegisterWrite w s) s
  else if off < 0x800 ∧ off % 256 = 0 then after (execRingEnableWrite w ring s) s
  else if off < 0x800 ∧ off % 256 = 0x28 then after (execMailboxGo w ring s) s
  else guarded s w a fun t => t.writeWord a w.value

/-- The field ranges of the Spectrograph's registers (R142). -/
def spgOk (off v : Nat) : Bool :=
  if off = 0x14 then within 6 128 (v / 65536 % 256) && within 4 32 (v % 64)
  else if off = 0x20 then decide (1000 ≤ v / 65536 % 65536) && decide (60 ≤ v % 65536)
  else if 0x400 ≤ off ∧ off < 0x600 then within 2 7 (v / 256 % 16) && within 2 7 (v / 4096 % 16)
  else if 0x600 ≤ off ∧ off < 0x800 then decide (1 ≤ v % 65536)
  else true

/-- Slot 6 (R130, R142). -/
def spgWrite (s : State) (w : Wr) (off : Nat) : State :=
  let a := 0x40060000 + off
  if off = 0 then after (execSpgEnableWrite w s) s
  else guarded s w a fun t => ranged (spgOk off) a w.value t

/-- The standby table is written through its window, a weight within its bounds (R178, R180). -/
def wweWindow (t : State) (i v : Nat) : State :=
  if t.isSet f_MER_STATUS_TPEND then t
  else
    let b := 1 - t.fget f_MER_STATUS_TBANK
    let bs := leBytes 4 v
    let (ws, n) := if i < 32 then (bs, 0) else clampWeights bs
    let bank := ((List.range 4).zip ws).foldl (fun m (j, x) => Sparse.set (fun _ => (0 : Byte)) m (i + j) x) (at! t.mer.tables b [])
    State.bumpBy { t with mer := { t.mer with tables := setAt t.mer.tables b bank } } f_MER_WWE_CLAMPS_COUNT n

/-- Slot 9 (R167, R174, R180, R183); Quarantine takes no write to the WWE table (R47). -/
def meterWrite (s : State) (w : Wr) (off : Nat) : State :=
  let a := 0x40090000 + off
  if off = 0 then after (execMeterEnable w s) s
  else if calOffset off then after (execCalibrationWrite w off s) s
  else guarded s w a fun t =>
    if off = 0x10 then ranged (fun v => decide (v / 2 ^ 30 % 4 < 3) && within 1000 100000 (v % 2 ^ 17)) a w.value t
    else if 0x180 ≤ off ∧ off < 0x1D0 then (if t.isSet f_MER_CTRL_EN then t else t.writeWord a w.value)
    else if 0x1000 ≤ off ∧ off < 0x1000 + 11296 then (if t.mode = 4 then t else wweWindow t (off - 0x1000) w.value)
    else t.writeWord a w.value

/-- Slot 10 (R221, R235). -/
def ledgerWrite' (s : State) (w : Wr) (off : Nat) : State :=
  if off = 0 then after (execLedgerEnable w s) s
  else guarded s w (0x400A0000 + off) fun t => t.writeWord (0x400A0000 + off) w.value

/-- Slot 11 (R280, R283, R290, R292). -/
def vatWrite (s : State) (w : Wr) (off : Nat) : State :=
  let a := 0x400B0000 + off
  let v := off / 256
  guarded s w a fun t =>
    if 16 ≤ v then t
    else match off % 256 with
      | 0 => t.vatControl v w.value
      | 8 => t.setVatPc v w.value
      | 0x1C => ranged (fun x => decide (x / 2048 % 64 * 0x800 + 0x800 + 64 * 0x100 ≤ 0x20000)) a w.value t
      | 0x20 => t.ackTrap v w.value
      | 0x24 => t.dtCommand v w.value
      | _ => t.writeWord a w.value

/-! ### Engines -/

/-- Slot 12 (R253, R259, R265–R268). -/
def laneWrite (s : State) (w : Wr) (off : Nat) : State :=
  let a := 0x400C0000 + off
  let e := off / 64
  guarded s w a fun t =>
    if 256 ≤ e then t
    else match off % 64 with
      | 0 => t.laneControl e w.value
      | 8 => t.setLanePc e w.value
      | 0xC => ranged (fun v => decide (v % 2 ^ 15 % 4 = 0 ∧ v % 2 ^ 15 ≤ 0x4000)) a w.value t
      | 0x1C => t.streamConfig e w.value
      | 0x20 => t.replay e w.value
      | 0x28 => t.emuControl e w.value
      | _ => t.writeWord a w.value

/-- Interrupt enables and priorities of a world: its supervisor, and in ring mode contexts 0 and 1 (R317). -/
def ownsLines (t : State) (w : Wr) (world : Nat) : Bool := fromRing t w || (t.wmode && w.ctx == (if world = 0 then 5 else 7))

/-- CORE_IPRI: a field written with 0 keeps its value. -/
def priWord (old v : Nat) : Nat :=
  (List.range 8).foldl (fun a j => a + (if v / 16 ^ j % 4 = 0 then old / 16 ^ j % 4 else v / 16 ^ j % 4) * 16 ^ j) 0

/-- Slot 14 (R300–R302, R310, R317). -/
def coreWrite (s : State) (w : Wr) (off : Nat) : State :=
  let a := 0x400E0000 + off
  guarded s w a fun t =>
    let ring := fromRing t w
    let sup := ring || (t.wmode && (w.ctx == 5 || w.ctx == 7))
    if 0x8000 ≤ off ∧ off < 0xC000 then t.writeGate w ((off - 0x8000) / 64) (off % 64 / 4)
    else if 0x100 ≤ off ∧ off < 0x300 then
      let c := (off - 0x100) / 64
      let i := off % 64 / 8
      if off % 8 = 4 then t.commitRegion w c i
      else { t with eng := { t.eng with rgnLo := Sparse.set (fun _ => (0 : Word)) t.eng.rgnLo (8 * c + i) (BitVec.ofNat 32 w.value &&& 0xFFFFFFC7#32) } }
    else if 0xA0 ≤ off ∧ off < 0xE0 then
      (if ownsLines t w ((off - 0xA0) / 32) then t.setRegN a (priWord (t.regN a) w.value) else t.coreRefuse)
    else if off = 0x88 ∨ off = 0x8C ∨ off = 0x98 ∨ off = 0x9C then
      (if ownsLines t w ((off - 0x80) / 16) then t.writeWord a w.value else t.coreRefuse)
    else if off = 0x20 ∨ off = 0x24 then (if sup then t.writeWord a w.value else t.coreRefuse)
    else if off = 0 then
      (if ring then t.writeWord a w.value
       else if sup && !bit w.value 31 then t.writeWord a w.value
       else if sup then (t.writeWord a (w.value % 2 ^ 31)).coreRefuse
       else t.coreRefuse)
    else if off = 8 then
      (if !ring then t.coreRefuse else ranged (fun v => within 50 90 (v % 128)) a w.value t)
    else if 0x40 ≤ off ∧ off < 0x80 then
      let x := off % 32 / 4
      if !ring then t.coreRefuse
      else if x = 3 ∨ x = 4 ∨ x = 6 then t
      else t.writeWord a (if off < 0x60 then w.value else w.value / 16 * 16)
    else t

/-! ### Flash, keys, tamper, self-test -/

/-- The flash bank that the core behind a write fetches from; none from boot ROM, SRAM, or another initiator (R348). -/
def fetchBank (s : State) (w : Wr) : Option Nat :=
  let pc := (s.thread (s.worldOn (w.eng / 2))).u.pc
  if w.cls < 4 ∧ w.eng < 4 ∧ inFlash pc = true then some (bankOf pc) else none

/-- Slot 15 (R347, R355, R361). -/
def flashWrite (s : State) (w : Wr) (off : Nat) : State :=
  let a := 0x400F0000 + off
  if off = 8 then
    guarded s w a fun t =>
      if bit w.value 31 then t.flashGo w (fetchBank t w) (w.value % 16) else t.writeWord a w.value
  else if off = 0x20 then after (execBankRelease w s) s
  else guarded s w a fun t => t.writeWord a w.value

/-- Slot 16 (R386–R390, R407). OP 0 names no operation. -/
def keyWrite (s : State) (w : Wr) (off : Nat) : State :=
  let a := 0x40100000 + off
  if off = 8 then
    if bit w.value 31 then
      match w.value % 8 with
      | 1 => after (execKsWrite w s) s
      | 2 => after (execKsLoad w s) s
      | 3 => after (execKsImport w s) s
      | 4 => after (execKsEpoch w s) s
      | 5 => after (execKsClear w s) s
      | 6 => after (execKsGen w s) s
      | 7 => after (execKsExport w s) s
      | _ => ksStart w 0 s (fun _ => E_PARAM_RANGE) (fun t => t)
    else guarded s w a fun t => if t.isSet f_KS_CMD_GO then t else t.fput f_KS_CMD_OP (w.value % 8)
  else guarded s w a fun t => t.writeWord a w.value

/-- Slots 17–21 (R396, R397, R408). -/
def cipherWrite (s : State) (w : Wr) (b off : Nat) : State :=
  let a := 0x40110000 + 0x10000 * b + off
  if off = 0 then after (execCipherClaim w b s) s
  else if off = 8 then after (execCipherOperation w b s) s
  else guarded s w a fun t => t.writeWord a w.value

/-- Slot 23 (R415, R422). -/
def tamperWrite (s : State) (w : Wr) (off : Nat) : State :=
  let a := 0x40170000 + off
  if off = 0x18 then after (execGradeWrite w s) s
  else guarded s w a fun t => if off = 0x1C then ranged (fun v => within 100 60000 (v % 65536)) a w.value t else t.writeWord a w.value

/-- Slot 24 (R546): CLRCNT also forgets the records held. -/
def bistWrite (s : State) (w : Wr) (off : Nat) : State :=
  let a := 0x40180000 + off
  guarded s w a fun t =>
    let t1 := t.writeWord a w.value
    if off = 0 ∧ bit w.value 0 then { t1 with bist := { t1.bist with records := [] } } else t1

/-! ### Peripheral groups 2 and 5 -/

/-- Slot 25 (R435, R439, R448): a change of CMD_OPAUTH closes every operator-world session. -/
def cmdWrite (s : State) (w : Wr) (off : Nat) : State :=
  let a := 0x40190000 + off
  if off = 0xCC ∨ off = 0xDC then after (execReplyIssue w ((off - 0xCC) / 16) s) s
  else guarded s w a fun t =>
    if off = 8 then ranged (within 10 3600) a w.value t
    else
      let t1 := t.writeWord a w.value
      if 0x80 ≤ off ∧ off < 0xB0 ∧ t1.reg a ≠ t.reg a then t1.closeWorld 2 else t1

/-- The bits of XP_CFG0–XP_CFG3 that a transport defines (R449). -/
def xpMask (p i : Nat) : Word :=
  match p, i with
  | 0, 0 => 1
  | 0, _ => 0
  | 3, 3 => 0x103
  | 3, _ => 0xFFFFFFFF
  | _, 0 => 0x7FFFFFFF
  | _, 1 => 0x000FFFFF
  | _, _ => 0x3FFFFFFF

/-- The identifier of the publication frame on a CAN channel, as XP_CFG2 writes it (R158, R444). -/
def publicationIdent (s : State) (p : Nat) : Option Nat :=
  if s.fget f_LIM_PUB_CFG_CHAN + 1 = p then
    some (s.fget f_LIM_PUB_CFG_IDE * 2 ^ 29 + s.fget f_LIM_PUB_CFG_ID % (if s.isSet f_LIM_PUB_CFG_IDE then 2 ^ 29 else 2 ^ 11)) else none

/-- Whether a configuration word is refused: SPEED 3, RXID equal to TXID, or the publication identifier. -/
def xpRefused (s : State) (p i v : Nat) : Bool :=
  match p with
  | 0 => false
  | 3 => i == 3 && v % 4 == 3
  | _ =>
    if i < 2 then false
    else identOf v == identOf (s.regN (if i = 2 then r_XP_CFG3 p else r_XP_CFG2 p)) ||
      publicationIdent s p == some (identOf v)

/-- Slots 26–29 (R444, R449). -/
def xpWrite (s : State) (w : Wr) (p off : Nat) : State :=
  let a := 0x401A0000 + 0x10000 * p + off
  guarded s w a fun t =>
    if 8 ≤ off ∧ off < 0x18 then
      let i := (off - 8) / 4
      if t.locked a then t
      else if xpRefused t p i w.value then t.xpError p
      else t.setReg a (BitVec.ofNat 32 w.value &&& xpMask p i)
    else (t.writeWord a w.value).flushTx p

/-- Slot 33 (R466, R481). -/
def tagRegWrite (s : State) (w : Wr) (off : Nat) : State :=
  let a := 0x40210000 + off
  guarded s w a fun t =>
    if off = 0x20 then t.tagWcmd w.value
    else if off = 0 then ranged (fun v => decide (v / 16 % 4 < 3)) a w.value t
    else t.writeWord a w.value

/-! ### The Cellar die and memory -/

/-- The Cellar registers (R365, R375, R381): CEL_HEAD is retained from its first write on. -/
def cellarWrite (s : State) (w : Wr) (off : Nat) : State :=
  let a := 0x50180000 + off
  if off = 0 then after (execIncClose w s) s
  else if off = 0x18 then after (execCellarEntryQueue w s) s
  else guarded s w a fun t =>
    if 0x40 ≤ off ∧ off < 0x80 then { t.writeWord a w.value with cel := { (t.writeWord a w.value).cel with headKept := true } }
    else t.writeWord a w.value

/-- A write into a vat's shared memory may add, remove or make ready a job (R283, R284): a job removed while off its lane leaves no captured state, and
lanes without a job take what is READY. -/
def State.jobsWritten (s : State) (v : Nat) : State :=
  (s.putVat v { s.vat v with saved := (s.vat v).saved.filter (fun j => jobFlag s v j 0) }).fillLanes v

/-- A word of memory is written. -/
def State.memoryStore (s : State) (a v : Nat) : State :=
  if 0x30000000 ≤ a ∧ a < 0x31000000 then (s.storeN a 4 v).jobsWritten ((a - 0x30000000) / 0x100000) else s.storeN a 4 v

/-- A write to memory waits while its bank is initialised (R331). -/
def memoryWrite (s : State) (w : Wr) (a : Nat) : State :=
  guarded s w a fun t =>
    if !plainMemory a then t
    else if t.bankUp a then t.memoryStore a w.value
    else { t with gates := { t.gates with writes := t.gates.writes ++ [(w, a)] } }

/-! ### The whole map -/

/-- A posted write arrives at its target. -/
def regWrite (s : State) (w : Wr) (a : Nat) : State :=
  let off := a % 0x10000
  let plain : State := guarded s w a fun t => t.writeWord a w.value
  if a % 4 ≠ 0 then s.at w.at_
  else match a / 0x10000 with
    | 0x4001 => cprWrite s w off
    | 0x4002 => fltWrite s w off
    | 0x4003 => tgWrite s w off
    | 0x4004 => transitWrite s w off
    | 0x4005 => almWrite s w off
    | 0x4006 => spgWrite s w off
    | 0x4007 => limWrite s w off
    | 0x4008 => shtWrite s w off
    | 0x4009 => meterWrite s w off
    | 0x400A => ledgerWrite' s w off
    | 0x400B => vatWrite s w off
    | 0x400C => laneWrite s w off
    | 0x400D => guarded s w a fun t => t.dtWrite a (w.value % 2 ^ 32)
    | 0x400E => coreWrite s w off
    | 0x400F => flashWrite s w off
    | 0x4010 => keyWrite s w off
    | 0x4011 => cipherWrite s w 0 off
    | 0x4012 => cipherWrite s w 1 off
    | 0x4013 => cipherWrite s w 2 off
    | 0x4014 => cipherWrite s w 3 off
    | 0x4015 => cipherWrite s w 4 off
    | 0x4017 => tamperWrite s w off
    | 0x4018 => bistWrite s w off
    | 0x4019 => cmdWrite s w off
    | 0x401A => xpWrite s w 0 off
    | 0x401B => xpWrite s w 1 off
    | 0x401C => xpWrite s w 2 off
    | 0x401D => xpWrite s w 3 off
    | 0x4021 => tagRegWrite s w off
    | 0x5018 => cellarWrite s w off
    | 0x7000 => after (execKeyPortWrite w off s) s
    | _ => if 0x40000000 ≤ a ∧ a < 0x40230000 then plain else memoryWrite s w a

/-! ### SRAM banks (R331, R333, R506) -/

/-- SRAM_BANK_INITIALISED: the bank is zeroised under its new key, and the accesses that waited on it go on. -/
def State.bankReady (s : State) (b : Nat) : State :=
  if b < 8 ∧ at! s.gates.bankOps b false = true then
    let due := s.gates.writes.filter (fun p => sramBank p.2 == some b)
    let s1 := State.putBit { s with gates := { s.gates with
      bankOps := setAt s.gates.bankOps b false, writes := s.gates.writes.filter (fun p => sramBank p.2 != some b) } } f_TG_STATUS_READY b true
    due.foldl (fun t p => t.memoryStore p.2 p.1.value) s1
  else s

def execSramBankInitialised (at_ bank : Nat) (s : State) : Out := done ((s.at at_).bankReady bank)

/-! ### The rows -/

/-- The bit of a block's control register that clears its counters. -/
def clrBit (a : Nat) : Option Nat :=
  match rowAt a with
  | some r => (r.fields.find? (fun f => f.name == "CLRCNT")).map (fun f => f.lsb)
  | none => none

/-- REGISTER_WRITE (R6): a write to any register, by its block's rules. -/
def execRegisterWrite (w : Wr) (addr : Nat) (s : State) : Out := done (regWrite s w addr)

/-- LOCK_SET (R7): `addr` is the control register of the block that holds its lock bit; the write has that bit set. -/
def execLockSet (w : Wr) (addr : Nat) (s : State) : Out :=
  done (if lockReg addr = some addr then regWrite s { w with value := w.value % 2 ^ 31 + 2 ^ 31 } addr else s.at w.at_)

/-- COUNTER_CLEAR (R6): `addr` is a control register with CLRCNT; the write has that bit set. -/
def execCounterClear (w : Wr) (addr : Nat) (s : State) : Out :=
  done (match clrBit addr with
    | some b => regWrite s { w with value := setBitIn (w.value % 2 ^ 32) b true } addr
    | none => s.at w.at_)

end Sys2Proof.Machine
end

