-- ==== Sys2Proof/Machine/Wide.lean ====
section
/-!
DEFINITION. Machine/Wide.lean: the wide engines issue (R269–R282, R296–R311): fetch, traps, the BUS unit, the lane state window, composite moves
and the crossing ports; and the rows of the move set, one per trigger port, on every engine.
-/
namespace Sys2Proof.Machine

/-! ### Fetch (R261, R274, R276) -/

/-- Where a custody core may fetch from: boot ROM, flash, custody SRAM. -/
def coreFetchable (a : Nat) : Bool := decide (a < 0x10000) || inFlash a || decide (0x10000000 ≤ a ∧ a < 0x10100000)

/-- A wide engine's fetch: the state after it, and whether it fails. A flash bank that is held answers with an error (R355); a word beyond correction
fails (R334, R345); a block of boot ROM that does not match stops pair 0 (R335). -/
def State.fetch (s : State) (g : Eng) (pc noise : Nat) : State × Bool :=
  let a := physical g pc
  match g with
  | .lane _ => (s, false)
  | .vce _ =>
    if 0x20000 ≤ pc then (s, true)
    else if damaged s (accOf s g 2 a) 0 noise then (s.busFault a, true)
    else s.checkRead a 8
  | .core _ =>
    if !coreFetchable pc then (s, true)
    else if damaged s (accOf s g 2 a) 0 noise then (s.busFault a, true)
    else match gateCheck s (accOf s g 2 pc) with
      | some r => (s.notice (accOf s g 2 pc) r, true)
      | none =>
        if inFlash pc && !s.bitOf f_FLC_STATUS_RELEASED (bankOf pc) then (s, true)
        else
          let (t, bad) := (s.flashTouched pc).checkRead pc 8
          if bad && decide (pc < 0x10000) then (t.romMismatch, false) else (t, bad)

/-- The engine waits: the memory it fetches from, or loads from or stores to, is not initialised yet (R331, R333). -/
def bankWaits (s : State) (g : Eng) (word : Nat) (ext : Nat → Option Word) : Bool :=
  !s.bankUp (physical g (s.units g).pc) || (lsuAddrs s g word ext).any (fun x => !s.bankUp (physical g x.2))

/-! ### The BUS unit (R275, R328) -/

/-- A spine write of an engine. -/
def busWr (s : State) (g : Eng) (v : Word) (noise : Nat) : Wr :=
  let a := accOf s g 1 0
  ⟨s.now, a.cls, a.eng, a.ctx, v.toNat, noise⟩

/-- BUS.LD: the transfer starts, unless one is outstanding. -/
def State.busLoad (s : State) (g : Eng) (v : Word) : State :=
  let u := s.units g
  let a := accOf s g 0 v.toNat
  s.putUnits g (if u.busAddr.isSome then { u with busColl := true }
    else { u with busDone := false, busColl := false, busAddr := some (v.toNat, a.cls, a.ctx) })

/-- BUS.ST: the spine accepts the write, and the target gate checks it. -/
def State.busStore (s : State) (g : Eng) (v : Word) (noise : Nat) : State :=
  let u := s.units g
  if u.busAddr.isSome then s.putUnits g { u with busColl := true }
  else regWrite (s.putUnits g { u with busDone := true, busColl := false }) (busWr s g u.busD noise) v.toNat

/-- BUS_LOAD_COMPLETE (R275): the word, or zero with ERR when the gate denied the read. A read of a bank that is being initialised waits (R331). -/
def State.busComplete (s : State) (g : Eng) (noise : Nat) : State :=
  match (s.units g).busAddr with
  | none => s
  | some (a, cls, ctx) =>
    if !s.bankUp a then s
    else
      let (s1, v, err) := s.spineRead ⟨0, cls, (accOf s g 0 a).eng, ctx, a⟩ noise
      s1.putUnits g { s1.units g with busR := v, busDone := true, busErr := err, busAddr := none }

def execBusLoadComplete (at_ : Nat) (load : LoadAnswer) (s : State) : Out :=
  done (match load.eng with
    | .lane _ => s.at at_
    | e => (s.at at_).busComplete e load.noise)

/-! ### The lane state window (R281) -/

/-- A selector: the lane of the vat and the index; none when it is malformed. -/
def selector (v : Nat) : Option (Nat × Nat) := if v < 4096 then some (v / 256, v % 256) else none

/-- LSW.RD: an unused index, or a selector that names none, reads 0. -/
def State.lswRead (s : State) (v : Nat) (x : Nat) : State :=
  let item : Word := match selector x with
    | some (l, i) => lswGet (s.lane (16 * v + l)) i
    | none => 0
  s.putUnits (.vce v) ((s.units (.vce v)).send 2 (.port 0x70 item))

/-- LSW.WR. -/
def State.lswWrite (s : State) (v : Nat) (x : Nat) : State :=
  let d := (s.units (.vce v)).lswD
  let (s1, refused) : State × Bool := match selector x with
    | none => (s, true)
    | some (l, i) =>
      let e := 16 * v + l
      let st := (s.lane e).stat
      if st = 1 ∨ st = 5 ∨ i = 0x36 ∨ i = 0x37 ∨ 0x3A < i then (s, true)
      else if i = 0x38 then (s.setReg (r_LE_EMU_RES e) d, false)
      else if i = 0x39 then (s.emuControl e d.toNat, false)
      else if i = 0x3A then (s.laneControl e d.toNat, false)
      else (s.putLane e (lswSet (s.lane e) i d), false)
  s1.putUnits (.vce v) ((s1.units (.vce v)).send 2 (.port 0x71 (BitVec.ofNat 32 (flag refused))))

/-! ### Triggers of the wide engines -/

/-- A trigger that a vat control engine's own rules perform; SYS 2 and 3 have no further effect there (log entry 50). -/
def State.vcePost (s : State) (v noise : Nat) (m : Move) : State :=
  match m.dst with
  | 0x5E => if m.v = 1 then s.fput (f_VAT_STATUS_VSTATE v) 0 else if m.v = 4 then s.vatReturn v else s
  | 0x61 => s.busLoad (.vce v) m.v
  | 0x62 => s.busStore (.vce v) m.v noise
  | 0x71 => s.lswRead v m.v.toNat
  | 0x72 => s.lswWrite v m.v.toNat
  | _ => s

/-- SYS HALT of a custody core waits for an interrupt that can be taken, and gives up the rest of a slice (R296, R315). -/
def State.coreWait (s : State) (p : Nat) : State :=
  let w := s.worldOn p
  s.putThread w { s.thread w with waiting := true }

/-- A trigger that a custody core's own rules perform. -/
def State.corePost (s : State) (p noise : Nat) (m : Move) : State :=
  match m.dst with
  | 0x5E => if m.v = 1 then s.coreWait p else s
  | 0x61 => s.busLoad (.core p) m.v
  | 0x62 => s.busStore (.core p) m.v noise
  | 0x70 => s.gateCall p m.v.toNat
  | 0x71 => s.gateReturn p
  | 0x72 => s.excReturn p
  | 0x73 => s.openHold p m.v.toNat
  | 0x74 => s.closeHold p
  | 0x75 => s.putIe (s.ctxOn p) (m.v.getLsbD 0)
  | 0x76 => s.setTop p (fun f => { f with ret := m.v.toNat })
  | 0x77 => s.setTop p (fun f => { f with sp := m.v })
  | _ => s

/-- The order of a custody core's own triggers: a crossing takes effect after the others, which belong to the departing context (R298); a new return
address or stack of the frame that EXC.RET pops counts from the next instruction, when the frame is gone (R296). -/
def coreOrder (ms : List Move) : List Move :=
  let cross (m : Move) : Bool := decide (0x70 ≤ m.dst ∧ m.dst ≤ 0x72)
  let late (m : Move) : Bool := (m.dst == 0x76 || m.dst == 0x77) && ms.any (fun x => x.dst == 0x72)
  ms.filter (fun m => !cross m && !late m) ++ ms.filter cross

/-! ### Composite moves (R278) -/

/-- Sources of a vat control engine that its units do not hold: TLANE and ARG. -/
def vceSrc (s : State) (v n : Nat) : Option Word :=
  match n with
  | 0x72 => some (BitVec.ofNat 32 (s.fget (f_VAT_LTRAP_LANE v)))
  | 0x3FF => some (s.vat v).arg
  | _ => none

/-- A micro-instruction issues: it is an instruction of the program, and the program counter does not move past it. `noise` falls on the transfers of
the whole expansion. -/
def issueMicro (s : State) (v word noise : Nat) : Issued :=
  let u := s.units (.vce v)
  let r := issueWord s (.vce v) word (vceSrc s v) true false (voided (noise / 4096))
  let keep (t : State) : State := if u.dslot = 1 then t else t.putUnits (.vce v) { t.units (.vce v) with pc := u.pc }
  let r1 : State := keep r.s
  ⟨r.posts.foldl (fun t m => t.vcePost v noise m) r1, r.trap, []⟩

/-- Micro-instructions `j` on of an expansion read when its instruction issued; a trap ends it. -/
def State.expand (s : State) (v pc noise : Nat) : List Nat → Nat → State
  | [], _ => s
  | w :: rest, j =>
    let r := issueMicro s v w noise
    match r.trap with
    | some t => r.s.vceTrap v pc j t
    | none => r.s.expand v pc noise rest (j + 1)

/-- The micro-instructions that a composite move of an instruction names; after a HALT in that instruction none issues. -/
def expansion (s : State) (v : Nat) (posts : List Move) : Option (Word × List Nat) :=
  if posts.any (fun m => m.dst == 0x5E && m.v == 1) then none
  else match posts.find? (fun m => decide (0xC0 ≤ m.dst)) with
  | none => none
  | some m => some (m.v, (List.range (dtLen s v (m.dst - 0xC0))).map (fun j => dtMicro s v (m.dst - 0xC0) j))

/-! ### Issue -/

/-- A vat control engine issues an instruction, and with it the entry that a composite move names. -/
def State.vceIssue (s : State) (v word noise : Nat) : State :=
  let pc := (s.vat v).u.pc
  let r := issueWord s (.vce v) word (vceSrc s v) false false (voided (noise / 4096))
  let s1 := r.posts.foldl (fun t m => t.vcePost v noise m) r.s
  match r.trap with
  | some t => s1.vceTrap v pc 0 t
  | none => match expansion s v r.posts with
    | none => s1
    | some (arg, ws) => (s1.putVat v { s1.vat v with arg := arg }).expand v pc noise ws 1

/-- A custody core issues an instruction. A trap other than SW_TRAP returns to the instruction itself (R306). -/
def State.coreIssue (s : State) (p word noise : Nat) : State :=
  let pc := (s.units (.core p)).pc
  let r := issueWord s (.core p) word (coreSrc s p) false (unprivileged (s.ctxOn p)) (voided (noise / 4096))
  let s1 := (coreOrder r.posts).foldl (fun t m => t.corePost p noise m) r.s
  match r.trap with
  | some t => s1.coreTrap p (if t.cause = 0x20 then (s1.units (.core p)).pc else pc) t
  | none => s1

/-- The source ports that an engine's units do not hold. -/
def extSrc (s : State) : Eng → Nat → Option Word
  | .lane _ => fun _ => none
  | .vce v => vceSrc s v
  | .core p => coreSrc s p

/-- The engine issues, when it runs and no memory it needs is being initialised. -/
def wideReady (s : State) (g : Eng) (word : Nat) : Bool :=
  (match g with
   | .lane _ => false
   | .vce v => decide (v < 16) && s.alive && s.fget (f_VAT_STATUS_VSTATE v) == 1 && s.clocked (256 + v)
   | .core p => s.alive && s.pairRuns p && !(s.thread (s.worldOn p)).waiting) && !bankWaits s g word (extSrc s g)

/-- The engine fetches an instruction and issues it. `noise`: bits 0–11 fall on a bus transfer, 12–23 on the load or store, 24–35 on the fetch. A pair
that its fetch stopped issues nothing. -/
def State.wideIssue (s : State) (g : Eng) (word noise : Nat) : State :=
  let pc := (s.units g).pc
  let (s1, bad) := s.fetch g pc (noise / 2 ^ 24)
  match g with
  | .lane _ => s
  | .vce v => if bad then s1.vceTrap v pc 0 ⟨0x13, 0, 0⟩ else s1.vceIssue v word noise
  | .core p => if bad then s1.coreTrap p pc ⟨0x13, 0, 0⟩ else if s1.pairRuns p then s1.coreIssue p word noise else s1

/-- The engine that a command names issues the instruction it carries; an engine that does not run issues nothing. -/
def State.issue (s : State) (m : Mv) (word : Nat) : State :=
  match m.eng with
  | .lane _ => onLane s m word
  | g =>
    let t := s.at m.at_
    if m.slot < slotCount g ∧ wideReady t g word then t.wideIssue g word m.noise else t

/-- Whether an engine's encoding can name a destination (R242, R272). -/
def nameable (g : Eng) (dst : Nat) : Bool :=
  match g with
  | .lane _ => decide (dst < 0x20) || decide (0x40 ≤ dst ∧ dst < 0x5F)
  | _ => decide (dst < 256)

def isVce : Eng → Bool
  | .vce _ => true
  | _ => false
def isCore : Eng → Bool
  | .core _ => true
  | _ => false

/-- An instruction with a move to the port numbered `dst` as the wide engines number it (R272). -/
def issueTo (s : State) (m : Mv) (dst : Nat) : State := if nameable m.eng dst then s.issue m (Mv.wordTo m dst) else s.at m.at_
/-- The same for a port that one kind of engine has. -/
def issueKind (s : State) (m : Mv) (kind : Eng → Bool) (dst : Nat) : State := if kind m.eng then issueTo s m dst else s.at m.at_
/-- An instruction with an immediate move of `v` to SYS. -/
def issueSys (s : State) (m : Mv) (v : Nat) : State := s.issue m (Mv.wordSys m v)

/-! ### The rows of the move set -/

def execAluAdd (m : Mv) (s : State) : Out := done (issueTo s m 0x41)
def execAluSub (m : Mv) (s : State) : Out := done (issueTo s m 0x42)
def execAluAnd (m : Mv) (s : State) : Out := done (issueTo s m 0x43)
def execAluOr (m : Mv) (s : State) : Out := done (issueTo s m 0x44)
def execAluXor (m : Mv) (s : State) : Out := done (issueTo s m 0x45)
def execShfSll (m : Mv) (s : State) : Out := done (issueTo s m 0x47)
def execShfSrl (m : Mv) (s : State) : Out := done (issueTo s m 0x48)
def execShfSra (m : Mv) (s : State) : Out := done (issueTo s m 0x49)
def execMacMul (m : Mv) (s : State) : Out := done (issueTo s m 0x4C)
def execMacAcc (m : Mv) (s : State) : Out := done (issueTo s m 0x4D)
def execMacCmul (m : Mv) (s : State) : Out := done (issueTo s m 0x4E)
def execMacCacc (m : Mv) (s : State) : Out := done (issueTo s m 0x4F)
def execLsuLdw (m : Mv) (s : State) : Out := done (issueTo s m 0x52)
def execLsuLdp (m : Mv) (s : State) : Out := done (issueTo s m 0x53)
def execLsuStw (m : Mv) (s : State) : Out := done (issueTo s m 0x54)
def execCmpEq (m : Mv) (s : State) : Out := done (issueTo s m 0x56)
def execCmpNe (m : Mv) (s : State) : Out := done (issueTo s m 0x57)
def execCmpLt (m : Mv) (s : State) : Out := done (issueTo s m 0x58)
def execCmpGe (m : Mv) (s : State) : Out := done (issueTo s m 0x59)
def execCmpLtu (m : Mv) (s : State) : Out := done (issueTo s m 0x5A)
def execStrGet (m : Mv) (s : State) : Out := done (issueTo s m 0x5B)
def execBr (m : Mv) (s : State) : Out := done (issueTo s m 0x5C)
def execLimm (m : Mv) (s : State) : Out := done (issueTo s m 0x5D)
def execSysHalt (m : Mv) (s : State) : Out := done (issueSys s m 1)
def execSysYield (m : Mv) (s : State) : Out := done (issueSys s m 2)
def execSysMark (m : Mv) (s : State) : Out := done (issueSys s m 3)
def execSwtrap (m : Mv) (code : Nat) (s : State) : Out := done (issueSys s m (0x10 + code % 16))
def execSysReturn (m : Mv) (s : State) : Out := done (issueSys s m 4)
def execCompositeMove (m : Mv) (entry : Nat) (s : State) : Out := done (issueKind s m isVce (0xC0 + entry % 64))
def execLswRd (m : Mv) (s : State) : Out := done (issueKind s m isVce 0x71)
def execLswWr (m : Mv) (s : State) : Out := done (issueKind s m isVce 0x72)
def execBusLd (m : Mv) (s : State) : Out := done (issueTo s m 0x61)
def execBusSt (m : Mv) (s : State) : Out := done (issueTo s m 0x62)
def execGateCall (m : Mv) (s : State) : Out := done (issueKind s m isCore 0x70)
def execGateRet (m : Mv) (s : State) : Out := done (issueKind s m isCore 0x71)
def execExcRet (m : Mv) (s : State) : Out := done (issueKind s m isCore 0x72)
def execExcSetpc (m : Mv) (s : State) : Out := done (issueKind s m isCore 0x76)
def execExcSetsp (m : Mv) (s : State) : Out := done (issueKind s m isCore 0x77)
def execHold (m : Mv) (s : State) : Out := done (issueKind s m isCore 0x73)
def execHoldEnd (m : Mv) (s : State) : Out := done (issueKind s m isCore 0x74)

/-- OPERAND_MOVE (R242, R248, R296): the instruction whose move goes to a register, an operand port or IE. -/
def execOperandMove (m : Mv) (dst : Nat) (s : State) : Out := done (issueTo s m dst)

end Sys2Proof.Machine
end

