-- ==== Sys2Proof/Machine/Device.lean ====
section
/-!
DEFINITION. Machine/Device.lean: DEVICE.IDENTIFY, DEVICE.READ_STATUS and DEVICE.READ_REG (R446).
-/
namespace Sys2Proof.Machine

/-- DEVICE.IDENTIFY: SERIAL, stepping, DEV_BEHAVIOUR, grade, LC_STATE, MODE_STATUS and the IMGVER in force. -/
def execDeviceIdentify (r : Req) (s : State) : Out :=
  done (runCmd s r 0x0101 anyLc (fun _ => []) (readEff fun t =>
    leBytes 8 Config.serial.toNat ++ leBytes 2 Config.stepping.toNat ++ w4 t r_DEV_BEHAVIOUR ++ leBytes 1 Config.grade.toNat ++ w4 t r_LC_STATE ++
    w4 t r_MODE_STATUS ++ w4 t r_FLC_IMGVER))

/-- DEVICE.READ_STATUS. -/
def execDeviceReadStatus (r : Req) (s : State) : Out :=
  done (runCmd s r 0x0102 anyLc (fun _ => []) (readEff fun t =>
    ([r_MODE_STATUS, r_MODE_CAUSE, r_ALM_STATUS, r_TG_STATUS, r_CORE_STATUS, r_CMD_STATUS].map (view t)).flatMap (leBytes 4)))

/-- A read as the supervisor class of a session's world: the custody cores of its home pair read for it (R312, R446). -/
def supervisorRead (s : State) (world a : Nat) : Acc :=
  if world = 2 then ⟨0, 3, 2, 7, a⟩ else ⟨0, 1, 0, if s.wmode then 5 else s.ctxOn 0, a⟩

/-- `n` words from `a`, through the gates: the state, the words, and whether one was denied. -/
def State.readWords (s : State) (world a : Nat) : Nat → State × List Byte × Bool
  | 0 => (s, [], false)
  | n + 1 =>
    let acc := supervisorRead s world a
    let denied := (gateCheck s acc).isSome
    let (s1, v, _) := s.spineRead acc 0
    let (s2, bs, more) := s1.readWords world (a + 4) n
    (s2, leBytes 4 v.toNat ++ bs, denied || more)

/-- DEVICE.READ_REG: a denied word is 0, and the reply is E_WORLD with every word. An address that is no word's is out of range (log entry 51). -/
def execDeviceReadReg (r : Req) (addr count : Nat) (s : State) : Out :=
  done (runCmd s r 0x0105 anyLc
    (fun _ => [need (decide (addr % 4 = 0)) (blame E_PARAM_RANGE 0x0100), need (decide (1 ≤ count ∧ count ≤ 256 ∧ addr + 4 * count ≤ 2 ^ 32)) (blame E_PARAM_RANGE 0x0101)])
    (fun t =>
      let (t1, bs, denied) := t.readWords (worldOf r) addr count
      (t1, some (if denied then E_WORLD else OK, bs))))

end Sys2Proof.Machine
end

