-- ==== Sys2Proof/Machine/Dispatch.lean ====
section
/-!
DEFINITION. Machine/Dispatch.lean: one arm per command: its meaning.
-/
namespace Sys2Proof.Machine

/-- The effect of a command on everything but the queue. -/
def exec (i : Instr) (s : State) : Host.Outcome State Fault Refusal :=
  match i with
  | .porRelease count boot => Sys2Proof.Machine.execPorRelease count boot s
  | .brownOut at_ rails us => Sys2Proof.Machine.execBrownOut at_ rails us s
  | .mainSupplyLoss at_ => Sys2Proof.Machine.execMainSupplyLoss at_ s
  | .warmReset at_ cause boot => Sys2Proof.Machine.execWarmReset at_ cause boot s
  | .rstNLow at_ ns boot => Sys2Proof.Machine.execRstNLow at_ ns boot s
  | .pllLockLoss at_ line relocked boot => Sys2Proof.Machine.execPllLockLoss at_ line relocked boot s
  | .startWatchdogExpiry at_ boot => Sys2Proof.Machine.execStartWatchdogExpiry at_ boot s
  | .wakeNFall at_ us boot => Sys2Proof.Machine.execWakeNFall at_ us boot s
  | .cprResetWrite w boot => Sys2Proof.Machine.execCprResetWrite w boot s
  | .domainControlWrite w d => Sys2Proof.Machine.execDomainControlWrite w d s
  | .deviceIdentify r => Sys2Proof.Machine.execDeviceIdentify r s
  | .deviceReadStatus r => Sys2Proof.Machine.execDeviceReadStatus r s
  | .deviceReadFaults r first count => Sys2Proof.Machine.execDeviceReadFaults r first count s
  | .deviceTrace r enable mask => Sys2Proof.Machine.execDeviceTrace r enable mask s
  | .deviceReadReg r addr count => Sys2Proof.Machine.execDeviceReadReg r addr count s
  | .deviceReset r kind domain => Sys2Proof.Machine.execDeviceReset r kind domain s
  | .deviceTamperRead r => Sys2Proof.Machine.execDeviceTamperRead r s
  | .deviceTamperSetGrade r src grade => Sys2Proof.Machine.execDeviceTamperSetGrade r src grade s
  | .deviceTamperDisable r src tok keys => Sys2Proof.Machine.execDeviceTamperDisable r src tok keys s
  | .sessionOpen r peer qh kemEk nonce => Sys2Proof.Machine.execSessionOpen r peer qh kemEk nonce s
  | .sessionFinish r cert sig => Sys2Proof.Machine.execSessionFinish r cert sig s
  | .sessionClose r => Sys2Proof.Machine.execSessionClose r s
  | .sessionRead r => Sys2Proof.Machine.execSessionRead r s
  | .sessionFinishTimeout at_ slot => Sys2Proof.Machine.execSessionFinishTimeout at_ slot s
  | .sessionIdleTimeout at_ slot => Sys2Proof.Machine.execSessionIdleTimeout at_ slot s
  | .modeSet r target => Sys2Proof.Machine.execModeSet r target s
  | .modeReleaseQuarantine r tok keys => Sys2Proof.Machine.execModeReleaseQuarantine r tok keys s
  | .modeRead r => Sys2Proof.Machine.execModeRead r s
  | .lifecycleProvision r root assembly utc => Sys2Proof.Machine.execLifecycleProvision r root assembly utc s
  | .lifecycleCommission r token keys => Sys2Proof.Machine.execLifecycleCommission r token keys s
  | .lifecycleSecondLife r nonce keys sig => Sys2Proof.Machine.execLifecycleSecondLife r nonce keys sig s
  | .lifecycleRetire r token keys => Sys2Proof.Machine.execLifecycleRetire r token keys s
  | .lifecycleFieldReturn r vendor owner keys => Sys2Proof.Machine.execLifecycleFieldReturn r vendor owner keys s
  | .transitSetRate r rate => Sys2Proof.Machine.execTransitSetRate r rate s
  | .rateChangeEffect at_ => Sys2Proof.Machine.execRateChangeEffect at_ s
  | .twiddleTableBuilt at_ => Sys2Proof.Machine.execTwiddleTableBuilt at_ s
  | .transitEnumerate r ring => Sys2Proof.Machine.execTransitEnumerate r ring s
  | .ringEnableWrite w ring => Sys2Proof.Machine.execRingEnableWrite w ring s
  | .ringRetry at_ ring => Sys2Proof.Machine.execRingRetry at_ ring s
  | .transitRejoin r ring => Sys2Proof.Machine.execTransitRejoin r ring s
  | .autoRejoin at_ ring => Sys2Proof.Machine.execAutoRejoin at_ ring s
  | .transitSetAssembly r rings => Sys2Proof.Machine.execTransitSetAssembly r rings s
  | .transitAcceptRoster r ring => Sys2Proof.Machine.execTransitAcceptRoster r ring s
  | .transitRead r ring => Sys2Proof.Machine.execTransitRead r ring s
  | .transitNodeRequest r ring end_ node opc payload => Sys2Proof.Machine.execTransitNodeRequest r ring end_ node opc payload s
  | .trainDeparture at_ ring => Sys2Proof.Machine.execTrainDeparture at_ ring s
  | .sampleInstant at_ => Sys2Proof.Machine.execSampleInstant at_ s
  | .trainReceived at_ ring tail intact => Sys2Proof.Machine.execTrainReceived at_ ring tail intact s
  | .frameReceived at_ ring tstamp line => Sys2Proof.Machine.execFrameReceived at_ ring tstamp line s
  | .responseFrameReceived at_ ring rd rsp hdr data crc => Sys2Proof.Machine.execResponseFrameReceived at_ ring rd rsp hdr data crc s
  | .echoReply at_ ring endB line rt => Sys2Proof.Machine.execEchoReply at_ ring endB line rt s
  | .echoSchedule at_ ring => Sys2Proof.Machine.execEchoSchedule at_ ring s
  | .losDeclare at_ ring endB => Sys2Proof.Machine.execLosDeclare at_ ring endB s
  | .losClear at_ ring endB => Sys2Proof.Machine.execLosClear at_ ring endB s
  | .breakSetReceived at_ ring endB rd groups => Sys2Proof.Machine.execBreakSetReceived at_ ring endB rd groups s
  | .trainEndBTimeout at_ ring => Sys2Proof.Machine.execTrainEndBTimeout at_ ring s
  | .frameMissing at_ ring node k => Sys2Proof.Machine.execFrameMissing at_ ring node k s
  | .mailboxGo w ring => Sys2Proof.Machine.execMailboxGo w ring s
  | .mailboxTimeout at_ ring => Sys2Proof.Machine.execMailboxTimeout at_ ring s
  | .rateRegisterWrite w => Sys2Proof.Machine.execRateRegisterWrite w s
  | .watermarkEval at_ => Sys2Proof.Machine.execWatermarkEval at_ s
  | .almanacChannelFault at_ chan => Sys2Proof.Machine.execAlmanacChannelFault at_ chan s
  | .lqAck w => Sys2Proof.Machine.execLqAck w s
  | .captureSetLateness r ring bound => Sys2Proof.Machine.execCaptureSetLateness r ring bound s
  | .captureReadEntries r ring mask first last => Sys2Proof.Machine.execCaptureReadEntries r ring mask first last s
  | .captureTimeMark r secs nanos => Sys2Proof.Machine.execCaptureTimeMark r secs nanos s
  | .timeHi at_ stamp => Sys2Proof.Machine.execTimeHi at_ stamp s
  | .uplinkSync at_ endB seen err => Sys2Proof.Machine.execUplinkSync at_ endB seen err s
  | .discHoldover at_ => Sys2Proof.Machine.execDiscHoldover at_ s
  | .fitCycle at_ unpublished => Sys2Proof.Machine.execFitCycle at_ unpublished s
  | .fitOverrun at_ cell => Sys2Proof.Machine.execFitOverrun at_ cell s
  | .pilotTimeout at_ => Sys2Proof.Machine.execPilotTimeout at_ s
  | .spgEnableWrite w => Sys2Proof.Machine.execSpgEnableWrite w s
  | .spectroSetBin r first last gate avgsh avgshPilot ifloor agemax => Sys2Proof.Machine.execSpectroSetBin r first last gate avgsh avgshPilot ifloor agemax s
  | .spectroReadBinState r first last => Sys2Proof.Machine.execSpectroReadBinState r first last s
  | .spectroReadImpedance r locus first last => Sys2Proof.Machine.execSpectroReadImpedance r locus first last s
  | .spectroReadFit r locus => Sys2Proof.Machine.execSpectroReadFit r locus s
  | .spectroReadTemperature r locus => Sys2Proof.Machine.execSpectroReadTemperature r locus s
  | .spectroReadPilot r => Sys2Proof.Machine.execSpectroReadPilot r s
  | .spectroPilotState r report => Sys2Proof.Machine.execSpectroPilotState r report s
  | .spectroLoadChemistry r t table => Sys2Proof.Machine.execSpectroLoadChemistry r t table s
  | .spectroSetNodeChemistry r locus t => Sys2Proof.Machine.execSpectroSetNodeChemistry r locus t s
  | .spectroResetAverages r locus first last => Sys2Proof.Machine.execSpectroResetAverages r locus first last s
  | .restCorrection at_ cell => Sys2Proof.Machine.execRestCorrection at_ cell s
  | .cellWatchEntry at_ cell check => Sys2Proof.Machine.execCellWatchEntry at_ cell check s
  | .cellWatchExit at_ cell => Sys2Proof.Machine.execCellWatchExit at_ cell s
  | .cellQuarantinePromotion at_ cell => Sys2Proof.Machine.execCellQuarantinePromotion at_ cell s
  | .limitPeriodBoundary at_ => Sys2Proof.Machine.execLimitPeriodBoundary at_ s
  | .limitBaseWrite w discharge => Sys2Proof.Machine.execLimitBaseWrite w discharge s
  | .limitCapWrite w operator discharge => Sys2Proof.Machine.execLimitCapWrite w operator discharge s
  | .limitTighten r discharge value life => Sys2Proof.Machine.execLimitTighten r discharge value life s
  | .limitRelax r discharge value => Sys2Proof.Machine.execLimitRelax r discharge value s
  | .limitRead r => Sys2Proof.Machine.execLimitRead r s
  | .limitSetPublication r chan ident ide => Sys2Proof.Machine.execLimitSetPublication r chan ident ide s
  | .estimLoadProfile r t profile => Sys2Proof.Machine.execEstimLoadProfile r t profile s
  | .estimRead r locus first last => Sys2Proof.Machine.execEstimRead r locus first last s
  | .cellReadState r locus => Sys2Proof.Machine.execCellReadState r locus s
  | .cellSetState r locus target => Sys2Proof.Machine.execCellSetState r locus target s
  | .balanceSetPolicy r start stop tMax => Sys2Proof.Machine.execBalanceSetPolicy r start stop tMax s
  | .balanceRead r => Sys2Proof.Machine.execBalanceRead r s
  | .estimSetAdapt r enable gateMin => Sys2Proof.Machine.execEstimSetAdapt r enable gateMin s
  | .estimSetWatch r qfactor watchExit => Sys2Proof.Machine.execEstimSetWatch r qfactor watchExit s
  | .packSampleWrite at_ k => Sys2Proof.Machine.execPackSampleWrite at_ k s
  | .intermediateSample at_ bits => Sys2Proof.Machine.execIntermediateSample at_ bits s
  | .stuckDetect at_ input => Sys2Proof.Machine.execStuckDetect at_ input s
  | .modfltSet at_ input => Sys2Proof.Machine.execModfltSet at_ input s
  | .modfltClear at_ input => Sys2Proof.Machine.execModfltClear at_ input s
  | .calibrationWrite w offset => Sys2Proof.Machine.execCalibrationWrite w offset s
  | .meterEnable w => Sys2Proof.Machine.execMeterEnable w s
  | .pulseOutput at_ => Sys2Proof.Machine.execPulseOutput at_ s
  | .meterRead r => Sys2Proof.Machine.execMeterRead r s
  | .meterCalibrate r form input ref gain ofs dly => Sys2Proof.Machine.execMeterCalibrate r form input ref gain ofs dly s
  | .calibrateAverageDone at_ => Sys2Proof.Machine.execCalibrateAverageDone at_ s
  | .meterSelectChannel r channel => Sys2Proof.Machine.execMeterSelectChannel r channel s
  | .meterSetCrosscheck r enable rel abs noload => Sys2Proof.Machine.execMeterSetCrosscheck r enable rel abs noload s
  | .meterLoadWweTable r table => Sys2Proof.Machine.execMeterLoadWweTable r table s
  | .meterActivateWweTable r digest => Sys2Proof.Machine.execMeterActivateWweTable r digest s
  | .meterReadWweTable r bank => Sys2Proof.Machine.execMeterReadWweTable r bank s
  | .meterSetRating r iRated cap => Sys2Proof.Machine.execMeterSetRating r iRated cap s
  | .meterSetPulse r enable sel imp => Sys2Proof.Machine.execMeterSetPulse r enable sel imp s
  | .shutterSetContactor r output close => Sys2Proof.Machine.execShutterSetContactor r output close s
  | .contactorRegisterRequest w => Sys2Proof.Machine.execContactorRegisterRequest w s
  | .shutterDerate r assert => Sys2Proof.Machine.execShutterDerate r assert s
  | .derateBitWrite w operator => Sys2Proof.Machine.execDerateBitWrite w operator s
  | .shutterSetLimpFloor r pct => Sys2Proof.Machine.execShutterSetLimpFloor r pct s
  | .limpRegisterWrite w => Sys2Proof.Machine.execLimpRegisterWrite w s
  | .shutterSetPrecharge r preMin preMax => Sys2Proof.Machine.execShutterSetPrecharge r preMin preMax s
  | .shutterSetHazard r h action openDly filt plaus => Sys2Proof.Machine.execShutterSetHazard r h action openDly filt plaus s
  | .shutterSetBleed r locus mask duty => Sys2Proof.Machine.execShutterSetBleed r locus mask duty s
  | .shutterRead r => Sys2Proof.Machine.execShutterRead r s
  | .bleedRegisterWrite w ring node => Sys2Proof.Machine.execBleedRegisterWrite w ring node s
  | .prechargeAutoOpen at_ => Sys2Proof.Machine.execPrechargeAutoOpen at_ s
  | .prechargeTimeout at_ => Sys2Proof.Machine.execPrechargeTimeout at_ s
  | .hazardAssert at_ h => Sys2Proof.Machine.execHazardAssert at_ h s
  | .hazardClear at_ pin => Sys2Proof.Machine.execHazardClear at_ pin s
  | .hazardOpen at_ h => Sys2Proof.Machine.execHazardOpen at_ h s
  | .hazardStuck at_ h => Sys2Proof.Machine.execHazardStuck at_ h s
  | .cfaultSet at_ output => Sys2Proof.Machine.execCfaultSet at_ output s
  | .cfaultClear at_ output => Sys2Proof.Machine.execCfaultClear at_ output s
  | .chatterDeclare at_ output => Sys2Proof.Machine.execChatterDeclare at_ output s
  | .chatterEnd at_ output edges closed => Sys2Proof.Machine.execChatterEnd at_ output edges closed s
  | .blockAssembly at_ => Sys2Proof.Machine.execBlockAssembly at_ s
  | .sealComplete at_ => Sys2Proof.Machine.execSealComplete at_ s
  | .archiveEntryWrite at_ ok => Sys2Proof.Machine.execArchiveEntryWrite at_ ok s
  | .archiveFault at_ => Sys2Proof.Machine.execArchiveFault at_ s
  | .archiveRetry at_ mib unit64 device => Sys2Proof.Machine.execArchiveRetry at_ mib unit64 device s
  | .ledgerEnable w => Sys2Proof.Machine.execLedgerEnable w s
  | .ledgerSealNow r => Sys2Proof.Machine.execLedgerSealNow r s
  | .ledgerReadHead r => Sys2Proof.Machine.execLedgerReadHead r s
  | .ledgerReadSeals r first last => Sys2Proof.Machine.execLedgerReadSeals r first last s
  | .ledgerReadArchive r log first size => Sys2Proof.Machine.execLedgerReadArchive r log first size s
  | .ledgerAckOffload r log lseq => Sys2Proof.Machine.execLedgerAckOffload r log lseq s
  | .ledgerSetArchive r blocks events seals => Sys2Proof.Machine.execLedgerSetArchive r blocks events seals s
  | .leaseReadTallies r => Sys2Proof.Machine.execLeaseReadTallies r s
  | .ledgerHandoverPrepare r newRoot => Sys2Proof.Machine.execLedgerHandoverPrepare r newRoot s
  | .aluAdd m => Sys2Proof.Machine.execAluAdd m s
  | .aluSub m => Sys2Proof.Machine.execAluSub m s
  | .aluAnd m => Sys2Proof.Machine.execAluAnd m s
  | .aluOr m => Sys2Proof.Machine.execAluOr m s
  | .aluXor m => Sys2Proof.Machine.execAluXor m s
  | .shfSll m => Sys2Proof.Machine.execShfSll m s
  | .shfSrl m => Sys2Proof.Machine.execShfSrl m s
  | .shfSra m => Sys2Proof.Machine.execShfSra m s
  | .macMul m => Sys2Proof.Machine.execMacMul m s
  | .macAcc m => Sys2Proof.Machine.execMacAcc m s
  | .macCmul m => Sys2Proof.Machine.execMacCmul m s
  | .macCacc m => Sys2Proof.Machine.execMacCacc m s
  | .lsuLdw m => Sys2Proof.Machine.execLsuLdw m s
  | .lsuLdp m => Sys2Proof.Machine.execLsuLdp m s
  | .lsuStw m => Sys2Proof.Machine.execLsuStw m s
  | .cmpEq m => Sys2Proof.Machine.execCmpEq m s
  | .cmpNe m => Sys2Proof.Machine.execCmpNe m s
  | .cmpLt m => Sys2Proof.Machine.execCmpLt m s
  | .cmpGe m => Sys2Proof.Machine.execCmpGe m s
  | .cmpLtu m => Sys2Proof.Machine.execCmpLtu m s
  | .strGet m => Sys2Proof.Machine.execStrGet m s
  | .br m => Sys2Proof.Machine.execBr m s
  | .limm m => Sys2Proof.Machine.execLimm m s
  | .sysHalt m => Sys2Proof.Machine.execSysHalt m s
  | .sysYield m => Sys2Proof.Machine.execSysYield m s
  | .sysMark m => Sys2Proof.Machine.execSysMark m s
  | .swtrap m code => Sys2Proof.Machine.execSwtrap m code s
  | .leRun w e => Sys2Proof.Machine.execLeRun w e s
  | .leStep w e => Sys2Proof.Machine.execLeStep w e s
  | .leSuspend w e => Sys2Proof.Machine.execLeSuspend w e s
  | .leSkip w e => Sys2Proof.Machine.execLeSkip w e s
  | .leReset w e => Sys2Proof.Machine.execLeReset w e s
  | .streamReplay w e => Sys2Proof.Machine.execStreamReplay w e s
  | .emuDepositArm w e => Sys2Proof.Machine.execEmuDepositArm w e s
  | .compositeMove m entry => Sys2Proof.Machine.execCompositeMove m entry s
  | .lswRd m => Sys2Proof.Machine.execLswRd m s
  | .lswWr m => Sys2Proof.Machine.execLswWr m s
  | .busLd m => Sys2Proof.Machine.execBusLd m s
  | .busSt m => Sys2Proof.Machine.execBusSt m s
  | .busLoadComplete at_ load => Sys2Proof.Machine.execBusLoadComplete at_ load s
  | .sysReturn m => Sys2Proof.Machine.execSysReturn m s
  | .ltrapTaken at_ v => Sys2Proof.Machine.execLtrapTaken at_ v s
  | .ltrapAck w v => Sys2Proof.Machine.execLtrapAck w v s
  | .dtCommit w v => Sys2Proof.Machine.execDtCommit w v s
  | .dtRetire w v => Sys2Proof.Machine.execDtRetire w v s
  | .vceReset w v => Sys2Proof.Machine.execVceReset w v s
  | .jobPromote at_ v job => Sys2Proof.Machine.execJobPromote at_ v job s
  | .jobDeadlineMiss at_ v job => Sys2Proof.Machine.execJobDeadlineMiss at_ v job s
  | .checkpointMiss at_ e => Sys2Proof.Machine.execCheckpointMiss at_ e s
  | .laneFault at_ e cause bad => Sys2Proof.Machine.execLaneFault at_ e cause bad s
  | .vceFault at_ v => Sys2Proof.Machine.execVceFault at_ v s
  | .pairMismatch at_ pair addr => Sys2Proof.Machine.execPairMismatch at_ pair addr s
  | .gateCall m => Sys2Proof.Machine.execGateCall m s
  | .gateRet m => Sys2Proof.Machine.execGateRet m s
  | .excRet m => Sys2Proof.Machine.execExcRet m s
  | .excSetpc m => Sys2Proof.Machine.execExcSetpc m s
  | .excSetsp m => Sys2Proof.Machine.execExcSetsp m s
  | .hold m => Sys2Proof.Machine.execHold m s
  | .holdEnd m => Sys2Proof.Machine.execHoldEnd m s
  | .holdOverrun at_ pair => Sys2Proof.Machine.execHoldOverrun at_ pair s
  | .interruptTaken at_ pair => Sys2Proof.Machine.execInterruptTaken at_ pair s
  | .sliceSwitch at_ => Sys2Proof.Machine.execSliceSwitch at_ s
  | .regionCommit w ctx n => Sys2Proof.Machine.execRegionCommit w ctx n s
  | .gateEntryCommit w g => Sys2Proof.Machine.execGateEntryCommit w g s
  | .violationPop w world => Sys2Proof.Machine.execViolationPop w world s
  | .windowCommit w n => Sys2Proof.Machine.execWindowCommit w n s
  | .complementaryPairFault at_ kind index => Sys2Proof.Machine.execComplementaryPairFault at_ kind index s
  | .sramControllerFault at_ bank residue0 residue1 => Sys2Proof.Machine.execSramControllerFault at_ bank residue0 residue1 s
  | .d2dSessionStart at_ => Sys2Proof.Machine.execD2dSessionStart at_ s
  | .d2dHelloReply at_ nonceC mac => Sys2Proof.Machine.execD2dHelloReply at_ nonceC mac s
  | .d2dTransfer at_ counter mac toCellar payload => Sys2Proof.Machine.execD2dTransfer at_ counter mac toCellar payload s
  | .flashOpProgram w bank => Sys2Proof.Machine.execFlashOpProgram w bank s
  | .flashOpErase w bank => Sys2Proof.Machine.execFlashOpErase w bank s
  | .flashOpVerify w bank => Sys2Proof.Machine.execFlashOpVerify w bank s
  | .flashOpSelect w bank => Sys2Proof.Machine.execFlashOpSelect w bank s
  | .flashOpComplete at_ result => Sys2Proof.Machine.execFlashOpComplete at_ result s
  | .flashResume at_ bank => Sys2Proof.Machine.execFlashResume at_ bank s
  | .bankRelease w => Sys2Proof.Machine.execBankRelease w s
  | .flashRead r addr len => Sys2Proof.Machine.execFlashRead r addr len s
  | .flashProgram r bank addr data => Sys2Proof.Machine.execFlashProgram r bank addr data s
  | .flashErase r bank addr sectors => Sys2Proof.Machine.execFlashErase r bank addr sectors s
  | .flashVerify r addr len margin expected => Sys2Proof.Machine.execFlashVerify r addr len margin expected s
  | .flashActivateTwin r bank twinB imgver => Sys2Proof.Machine.execFlashActivateTwin r bank twinB imgver s
  | .flashReadStatus r => Sys2Proof.Machine.execFlashReadStatus r s
  | .cellarEntryQueue w => Sys2Proof.Machine.execCellarEntryQueue w s
  | .cellarEntryCommit at_ => Sys2Proof.Machine.execCellarEntryCommit at_ s
  | .cellarDieReset at_ => Sys2Proof.Machine.execCellarDieReset at_ s
  | .incidentTimeout at_ => Sys2Proof.Machine.execIncidentTimeout at_ s
  | .incClose w => Sys2Proof.Machine.execIncClose w s
  | .vresThreshold at_ mv => Sys2Proof.Machine.execVresThreshold at_ mv s
  | .backupPowerLoss at_ => Sys2Proof.Machine.execBackupPowerLoss at_ s
  | .cellarReadSummary r => Sys2Proof.Machine.execCellarReadSummary r s
  | .cellarReadEntries r first count => Sys2Proof.Machine.execCellarReadEntries r first count s
  | .cellarReadSeals r first last => Sys2Proof.Machine.execCellarReadSeals r first last s
  | .cellarCloseIncident r => Sys2Proof.Machine.execCellarCloseIncident r s
  | .keyPortWrite w offset => Sys2Proof.Machine.execKeyPortWrite w offset s
  | .stagingTimeout at_ world => Sys2Proof.Machine.execStagingTimeout at_ world s
  | .ksWrite w => Sys2Proof.Machine.execKsWrite w s
  | .ksLoad w => Sys2Proof.Machine.execKsLoad w s
  | .ksImport w => Sys2Proof.Machine.execKsImport w s
  | .ksEpoch w => Sys2Proof.Machine.execKsEpoch w s
  | .ksClear w => Sys2Proof.Machine.execKsClear w s
  | .ksGen w => Sys2Proof.Machine.execKsGen w s
  | .ksExport w => Sys2Proof.Machine.execKsExport w s
  | .cipherClaim w blk => Sys2Proof.Machine.execCipherClaim w blk s
  | .cipherClaimLapse at_ blk => Sys2Proof.Machine.execCipherClaimLapse at_ blk s
  | .cipherOperation w blk => Sys2Proof.Machine.execCipherOperation w blk s
  | .cipherOperationDone at_ blk => Sys2Proof.Machine.execCipherOperationDone at_ blk s
  | .entropySourceFail at_ src apt => Sys2Proof.Machine.execEntropySourceFail at_ src apt s
  | .starterReseed at_ n => Sys2Proof.Machine.execStarterReseed at_ n s
  | .rngRead at_ cls eng reg noise => Sys2Proof.Machine.execRngRead at_ cls eng reg noise s
  | .keysChallenge r => Sys2Proof.Machine.execKeysChallenge r s
  | .keysGenerate r slot => Sys2Proof.Machine.execKeysGenerate r slot s
  | .keysReadPublic r slot => Sys2Proof.Machine.execKeysReadPublic r slot s
  | .keysInstallCert r cert => Sys2Proof.Machine.execKeysInstallCert r cert s
  | .keysReestablish r tok keys => Sys2Proof.Machine.execKeysReestablish r tok keys s
  | .keysRaiseEpoch r slot => Sys2Proof.Machine.execKeysRaiseEpoch r slot s
  | .keysReadState r => Sys2Proof.Machine.execKeysReadState r s
  | .tamperTrip at_ index measure => Sys2Proof.Machine.execTamperTrip at_ index measure s
  | .tamperClear at_ index measure => Sys2Proof.Machine.execTamperClear at_ index measure s
  | .tamperSelfTest at_ tripped => Sys2Proof.Machine.execTamperSelfTest at_ tripped s
  | .tamperTestTimeout at_ => Sys2Proof.Machine.execTamperTestTimeout at_ s
  | .gradeWrite w => Sys2Proof.Machine.execGradeWrite w s
  | .backupTamperResponse at_ index measure => Sys2Proof.Machine.execBackupTamperResponse at_ index measure s
  | .backupTamperTest at_ tripped => Sys2Proof.Machine.execBackupTamperTest at_ tripped s
  | .packetReceived at_ path => Sys2Proof.Machine.execPacketReceived at_ path s
  | .replyIssue w world => Sys2Proof.Machine.execReplyIssue w world s
  | .spiWrite at_ len bytes => Sys2Proof.Machine.execSpiWrite at_ len bytes s
  | .spiRead at_ whole => Sys2Proof.Machine.execSpiRead at_ whole s
  | .spiStatus at_ => Sys2Proof.Machine.execSpiStatus at_ s
  | .canFrameReceived at_ chan ident ide fd bytes => Sys2Proof.Machine.execCanFrameReceived at_ chan ident ide fd bytes s
  | .canReassemblyTimeout at_ chan => Sys2Proof.Machine.execCanReassemblyTimeout at_ chan s
  | .ethernetDatagramReceived at_ src good bytes => Sys2Proof.Machine.execEthernetDatagramReceived at_ src good bytes s
  | .ethernetReassemblyTimeout at_ src => Sys2Proof.Machine.execEthernetReassemblyTimeout at_ src s
  | .arpRequest at_ target sender => Sys2Proof.Machine.execArpRequest at_ target sender s
  | .tracePacket at_ => Sys2Proof.Machine.execTracePacket at_ s
  | .serviceActivation at_ mv => Sys2Proof.Machine.execServiceActivation at_ mv s
  | .pps at_ t pps1 => Sys2Proof.Machine.execPps at_ t pps1 s
  | .serviceBlockReceived at_ pcb len inf edc parity => Sys2Proof.Machine.execServiceBlockReceived at_ pcb len inf edc parity s
  | .serviceCwtTimeout at_ => Sys2Proof.Machine.execServiceCwtTimeout at_ s
  | .serviceBusy at_ => Sys2Proof.Machine.execServiceBusy at_ s
  | .resynch at_ inf => Sys2Proof.Machine.execResynch at_ inf s
  | .poll at_ inf => Sys2Proof.Machine.execPoll at_ inf s
  | .status at_ inf => Sys2Proof.Machine.execStatus at_ inf s
  | .unlock at_ inf => Sys2Proof.Machine.execUnlock at_ inf s
  | .forcedErase at_ inf => Sys2Proof.Machine.execForcedErase at_ inf s
  | .areaRead at_ inf => Sys2Proof.Machine.execAreaRead at_ inf s
  | .areaWrite at_ inf => Sys2Proof.Machine.execAreaWrite at_ inf s
  | .serviceProbeRemoval at_ whole torn => Sys2Proof.Machine.execServiceProbeRemoval at_ whole torn s
  | .serviceReadConfig r => Sys2Proof.Machine.execServiceReadConfig r s
  | .serviceSetPassword r password => Sys2Proof.Machine.execServiceSetPassword r password s
  | .serviceReadArea r first count => Sys2Proof.Machine.execServiceReadArea r first count s
  | .serviceWriteArea r first data => Sys2Proof.Machine.execServiceWriteArea r first data s
  | .fieldOn at_ strength store => Sys2Proof.Machine.execFieldOn at_ strength store s
  | .fieldLoss at_ => Sys2Proof.Machine.execFieldLoss at_ s
  | .reqa at_ wupa => Sys2Proof.Machine.execReqa at_ wupa s
  | .anticollision at_ level bits => Sys2Proof.Machine.execAnticollision at_ level bits s
  | .hlta at_ => Sys2Proof.Machine.execHlta at_ s
  | .rats at_ param => Sys2Proof.Machine.execRats at_ param s
  | .deselect at_ => Sys2Proof.Machine.execDeselect at_ s
  | .tagInfo at_ => Sys2Proof.Machine.execTagInfo at_ s
  | .tagRead at_ first count => Sys2Proof.Machine.execTagRead at_ first count s
  | .tagWrite at_ block data store cut => Sys2Proof.Machine.execTagWrite at_ block data store cut s
  | .pwCheck at_ password => Sys2Proof.Machine.execPwCheck at_ password s
  | .tagSummary at_ => Sys2Proof.Machine.execTagSummary at_ s
  | .tagSeal at_ sealSeq => Sys2Proof.Machine.execTagSeal at_ sealSeq s
  | .tagEntries at_ first count => Sys2Proof.Machine.execTagEntries at_ first count s
  | .wiredItemWait at_ => Sys2Proof.Machine.execWiredItemWait at_ s
  | .tagStage w => Sys2Proof.Machine.execTagStage w s
  | .tagCommit w => Sys2Proof.Machine.execTagCommit w s
  | .tagDiscard w => Sys2Proof.Machine.execTagDiscard w s
  | .rollForward at_ n store => Sys2Proof.Machine.execRollForward at_ n store s
  | .tagReadConfig r => Sys2Proof.Machine.execTagReadConfig r s
  | .tagSetConfig r en record vharv rate password => Sys2Proof.Machine.execTagSetConfig r en record vharv rate password s
  | .passportRead r first count => Sys2Proof.Machine.execPassportRead r first count s
  | .passportWrite r first data => Sys2Proof.Machine.execPassportWrite r first data s
  | .passportSign r identity chemistry => Sys2Proof.Machine.execPassportSign r identity chemistry s
  | .asmAnnounce at_ ring term assembly deputy flags serial => Sys2Proof.Machine.execAsmAnnounce at_ ring term assembly deputy flags serial s
  | .sealReq at_ sealSeq => Sys2Proof.Machine.execSealReq at_ sealSeq s
  | .assemblyFrameReceived at_ ring rd hdr data => Sys2Proof.Machine.execAssemblyFrameReceived at_ ring rd hdr data s
  | .managerLoss at_ => Sys2Proof.Machine.execManagerLoss at_ s
  | .assemblyRead r => Sys2Proof.Machine.execAssemblyRead r s
  | .assemblySetRole r role mask => Sys2Proof.Machine.execAssemblySetRole r role mask s
  | .assemblySetDeputy r device => Sys2Proof.Machine.execAssemblySetDeputy r device s
  | .assemblySuccessionSeal r newSerial token keys => Sys2Proof.Machine.execAssemblySuccessionSeal r newSerial token keys s
  | .assemblySucceed r cert block sealed keyCert => Sys2Proof.Machine.execAssemblySucceed r cert block sealed keyCert s
  | .assemblyReadWorker r device => Sys2Proof.Machine.execAssemblyReadWorker r device s
  | .faultAck w => Sys2Proof.Machine.execFaultAck w s
  | .faultDeclare w => Sys2Proof.Machine.execFaultDeclare w s
  | .dormantPowerOff at_ => Sys2Proof.Machine.execDormantPowerOff at_ s
  | .selftestRun r mask fuse token keys => Sys2Proof.Machine.execSelftestRun r mask fuse token keys s
  | .selftestReadResult r run => Sys2Proof.Machine.execSelftestReadResult r run s
  | .selftestAbort r => Sys2Proof.Machine.execSelftestAbort r s
  | .selftestTestComplete at_ fails => Sys2Proof.Machine.execSelftestTestComplete at_ fails s
  | .lockSet w addr => Sys2Proof.Machine.execLockSet w addr s
  | .counterClear w addr => Sys2Proof.Machine.execCounterClear w addr s
  | .registerWrite w addr => Sys2Proof.Machine.execRegisterWrite w addr s
  | .operandMove m dst => Sys2Proof.Machine.execOperandMove m dst s
  | .jobRelease at_ v job => Sys2Proof.Machine.execJobRelease at_ v job s
  | .ksOperationDone at_ => Sys2Proof.Machine.execKsOperationDone at_ s
  | .sramBankInitialised at_ bank => Sys2Proof.Machine.execSramBankInitialised at_ bank s
  | .linkChanged at_ slot up g1000 => Sys2Proof.Machine.execLinkChanged at_ slot up g1000 s
  | .deactivation at_ => Sys2Proof.Machine.execDeactivation at_ s
  | .clockStop at_ restart inside => Sys2Proof.Machine.execClockStop at_ restart inside s
  | .rfBlockReceived at_ pcb inf good => Sys2Proof.Machine.execRfBlockReceived at_ pcb inf good s
  | .rfPps at_ dr ds => Sys2Proof.Machine.execRfPps at_ dr ds s
  | .d2dLinkDrop at_ => Sys2Proof.Machine.execD2dLinkDrop at_ s
  | .commandFrame at_ rd hdr data crc => Sys2Proof.Machine.execCommandFrame at_ rd hdr data crc s

end Sys2Proof.Machine
end

