-- ==== Sys2Proof/WellFormed.lean ====
section
/-!
DEFINITION. WellFormed.lean: a command is well formed when its operands fit the spec's encodings of them: a parameter its TLV, a register write
its register's index, an event the unit it happens to. A value that fits and that a command's own rule refuses is well formed: the refusal is its meaning.
-/
namespace Sys2Proof

/-- The value fits in that many bits. -/
def fits (bits n : Nat) : Bool := decide (n < 2 ^ bits)
/-- The number is one of the first `count`. -/
def below (count n : Nat) : Bool := decide (n < count)
/-- The integer fits in that many bits beside its sign. -/
def fitsSigned (bits : Nat) (x : Int) : Bool := decide (-(2 ^ bits : Int) ≤ x ∧ x < 2 ^ bits)

/-- R423, R428, R436: five transports, session slots 0–7 or 8 for unsecured, world codes 0–4, a 32-bit sequence, a 64-bit stamp. -/
def Req.wf (r : Req) : Bool :=
  fits 64 r.at_ && below 5 r.path && below 9 r.slot && below 5 r.world && fits 32 r.seq

/-- R321, R294: eight initiator classes, engine indexes to 255, eight context codes, a word of 32 bits; R336: eight check bits and four parities. -/
def Wr.wf (w : Wr) : Bool :=
  fits 64 w.at_ && below 8 w.cls && below 256 w.eng && below 8 w.ctx && fits 32 w.value && fits 12 w.noise

/-- R237, R269, R294: 256 lane engines, 16 vat control engines, two custody pairs. -/
def Eng.wf : Eng → Bool
  | .lane e => below 256 e
  | .vce v => below 16 v
  | .core p => below 2 p

/-- R239, R269: two slots of 16 bits in a lane engine's word, three of 20 bits in a wide engine's; R336: the check bits
of three transfers. -/
def Mv.wf (m : Mv) : Bool :=
  fits 64 m.at_ && m.eng.wf && fits 36 m.noise &&
  (match m.eng with
   | .lane _ => below 2 m.slot && fits 8 m.src && fits 32 m.word
   | _ => below 3 m.slot && fits 10 m.src && fits 64 m.word)

/-- R425: an ECDSA signature of 96 bytes and an ML-DSA-65 signature of 3,309. -/
def Sig.wf (x : Sig) : Bool := fits 768 x.ec && fits 26472 x.pq

/-- R425: an uncompressed point of 97 bytes and an ML-DSA-65 public key of 1,952. -/
def PubKeys.wf (x : PubKeys) : Bool := fits 776 x.ec && fits 15616 x.pq

/-- R400: the fields of a token. -/
def Token.wf (x : Token) : Bool :=
  fits 40 x.head && fits 8 x.kind && fits 16 x.op && fits 64 x.serial && fits 128 x.nonce &&
  fits 64 x.expiry && fits 384 x.digest && x.sig.wf

/-- R398: the fields of a certificate. -/
def Cert.wf (x : Cert) : Bool :=
  fits 40 x.head && fits 8 x.role && fits 64 x.serial && fits 32 x.chainId && fits 64 x.validFrom &&
  fits 384 x.hashEc && fits 384 x.hashPq && fits 384 x.issuer && x.sig.wf

/-- R492: the fields of a succession certificate. -/
def SuccCert.wf (x : SuccCert) : Bool :=
  fits 64 x.head && fits 32 x.chainId && fits 32 x.level && fits 64 x.oldSerial && fits 64 x.newSerial &&
  fits 64 x.headSeq && fits 64 x.headStamp && fits 384 x.headHash && fits 64 x.sealSeq &&
  fits 384 x.sealHash && fits 256 x.packId && fits 64 x.locus && fits 384 x.root && fits 8 x.kind && x.sig.wf

/-- R223: an archive device is at most 256 MiB. -/
def deviceWf (d : Option Pieces) : Bool := d.all (fun l => l.all (fun x => fits 28 x.1 && decide (x.2.length ≤ 2 ^ 28)))

/-- R223, R224, R483: what a start finds outside the die. -/
def Boot.wf (b : Boot) : Bool :=
  fits 32 b.mib && deviceWf b.device && below 4 b.strap

/-- R55: code groups of ten bits. -/
def groupsWf (l : List Nat) : Bool := below 4096 l.length && l.all (fun g => fits 10 g)
def Line.wf (l : Line) : Bool := groupsWf l.groups

/-- R61, R66, R77: a stamp, and a time of 32 bits. -/
def TrainTail.wf (x : TrainTail) : Bool := x.tstamp.all (fun t => fits 64 t) && fits 32 x.loopNs

/-- R64: at most 17 retransmitted frames. -/
def TrainSeen.wf (x : TrainSeen) : Bool := x.line.wf && below 18 x.held

/-- R196: four hazard inputs. -/
def HighPin.wf (x : HighPin) : Bool := below 4 x.input && fits 64 x.rose

/-- R336: eight check bits and four parities. -/
def LoadAnswer.wf (x : LoadAnswer) : Bool := x.eng.wf && fits 12 x.noise

/-- R347: an address, or a count of lines. -/
def FlashEnd.wf (x : FlashEnd) : Bool := x.fail.all (fun a => fits 32 a)

/-- R409: 24 registers that draw. -/
def RngReg.wf (x : RngReg) : Bool := below 24 x.n

/-- R541: an element that a test found failing. -/
def TestFail.wf (x : TestFail) : Bool := fits 16 x.unit && fits 32 x.addr && fits 16 x.group

/-- A command whose operands fit. -/
def Instr.wf : Instr → Bool
  | .porRelease count boot => fits 48 count && boot.wf
  | .brownOut at_ rails us => fits 64 at_ && fits 8 rails && fits 64 us
  | .mainSupplyLoss at_ => fits 64 at_
  | .warmReset at_ cause boot => fits 64 at_ && fits 8 cause && boot.wf
  | .rstNLow at_ ns boot => fits 64 at_ && fits 64 ns && boot.wf
  | .pllLockLoss at_ _ _ boot => fits 64 at_ && boot.wf
  | .startWatchdogExpiry at_ boot => fits 64 at_ && boot.wf
  | .wakeNFall at_ us boot => fits 64 at_ && fits 64 us && boot.wf
  | .cprResetWrite w boot => w.wf && boot.wf
  | .domainControlWrite w d => w.wf && below 320 d
  | .deviceIdentify r => r.wf
  | .deviceReadStatus r => r.wf
  | .deviceReadFaults r first count => r.wf && fits 32 first && fits 32 count
  | .deviceTrace r _ mask => r.wf && fits 32 mask
  | .deviceReadReg r addr count => r.wf && fits 32 addr && fits 32 count
  | .deviceReset r kind domain => r.wf && fits 32 kind && domain.all (fun x => fits 32 x)
  | .deviceTamperRead r => r.wf
  | .deviceTamperSetGrade r src grade => r.wf && fits 32 src && fits 32 grade
  | .deviceTamperDisable r src tok keys => r.wf && fits 32 src && tok.all (·.wf) && keys.wf
  | .sessionOpen r peer qh kemEk nonce => r.wf && fits 48 peer && fits 776 qh && fits 9472 kemEk && fits 256 nonce
  | .sessionFinish r cert sig => r.wf && cert.wf && sig.wf
  | .sessionClose r => r.wf
  | .sessionRead r => r.wf
  | .sessionFinishTimeout at_ slot => fits 64 at_ && below 8 slot
  | .sessionIdleTimeout at_ slot => fits 64 at_ && below 8 slot
  | .modeSet r target => r.wf && fits 32 target
  | .modeReleaseQuarantine r tok keys => r.wf && tok.wf && keys.wf
  | .modeRead r => r.wf
  | .lifecycleProvision r root assembly utc => r.wf && fits 384 root && fits 32 assembly && fits 64 utc
  | .lifecycleCommission r token keys => r.wf && token.wf && keys.wf
  | .lifecycleSecondLife r nonce keys sig => r.wf && fits 128 nonce && keys.wf && sig.wf
  | .lifecycleRetire r token keys => r.wf && token.wf && keys.wf
  | .lifecycleFieldReturn r vendor owner keys => r.wf && vendor.wf && owner.wf && keys.wf
  | .transitSetRate r rate => r.wf && fits 32 rate
  | .rateChangeEffect at_ => fits 64 at_
  | .twiddleTableBuilt at_ => fits 64 at_
  | .transitEnumerate r ring => r.wf && fits 32 ring
  | .ringEnableWrite w ring => w.wf && below 8 ring
  | .ringRetry at_ ring => fits 64 at_ && below 8 ring
  | .transitRejoin r ring => r.wf && fits 32 ring
  | .autoRejoin at_ ring => fits 64 at_ && below 8 ring
  | .transitSetAssembly r rings => r.wf && fits 32 rings
  | .transitAcceptRoster r ring => r.wf && fits 32 ring
  | .transitRead r ring => r.wf && fits 32 ring
  | .transitNodeRequest r ring end_ node opc payload => r.wf && fits 32 ring && fits 32 end_ && fits 32 node && fits 32 opc && fits 16 payload.length
  | .trainDeparture at_ ring => fits 64 at_ && below 8 ring
  | .sampleInstant at_ => fits 64 at_
  | .trainReceived at_ ring tail _ => fits 64 at_ && below 8 ring && tail.wf
  | .frameReceived at_ ring tstamp line => fits 64 at_ && below 8 ring && fits 64 tstamp && line.wf
  | .responseFrameReceived at_ ring _ rsp hdr data crc => fits 64 at_ && below 8 ring && rsp.all (fun x => fits 32 x) && groupsWf hdr && groupsWf data && groupsWf crc
  | .echoReply at_ ring _ line rt => fits 64 at_ && below 8 ring && line.wf && fits 32 rt
  | .echoSchedule at_ ring => fits 64 at_ && below 8 ring
  | .losDeclare at_ ring _ => fits 64 at_ && below 8 ring
  | .losClear at_ ring _ => fits 64 at_ && below 8 ring
  | .breakSetReceived at_ ring _ _ groups => fits 64 at_ && below 8 ring && groupsWf groups
  | .trainEndBTimeout at_ ring => fits 64 at_ && below 8 ring
  | .frameMissing at_ ring node k => fits 64 at_ && below 8 ring && below 32 node && fits 64 k
  | .mailboxGo w ring => w.wf && below 8 ring
  | .mailboxTimeout at_ ring => fits 64 at_ && below 8 ring
  | .rateRegisterWrite w => w.wf
  | .watermarkEval at_ => fits 64 at_
  | .almanacChannelFault at_ chan => fits 64 at_ && below 2 chan
  | .lqAck w => w.wf
  | .captureSetLateness r ring bound => r.wf && fits 32 ring && fits 32 bound
  | .captureReadEntries r ring mask first last => r.wf && fits 32 ring && fits 32 mask && fits 64 first && fits 64 last
  | .captureTimeMark r secs nanos => r.wf && fits 64 secs && fits 32 nanos
  | .timeHi at_ stamp => fits 64 at_ && fits 64 stamp
  | .uplinkSync at_ _ seen err => fits 64 at_ && seen.wf && fitsSigned 63 err
  | .discHoldover at_ => fits 64 at_
  | .fitCycle at_ unpublished => fits 64 at_ && unpublished.all (fun x => fits 32 x)
  | .fitOverrun at_ cell => fits 64 at_ && fits 16 cell
  | .pilotTimeout at_ => fits 64 at_
  | .spgEnableWrite w => w.wf
  | .spectroSetBin r first last gate avgsh avgshPilot ifloor agemax => r.wf && fits 32 first && fits 32 last && fits 32 gate && fits 32 avgsh && fits 32 avgshPilot && fits 32 ifloor && fits 32 agemax
  | .spectroReadBinState r first last => r.wf && fits 32 first && fits 32 last
  | .spectroReadImpedance r locus first last => r.wf && fits 64 locus && fits 32 first && fits 32 last
  | .spectroReadFit r locus => r.wf && fits 64 locus
  | .spectroReadTemperature r locus => r.wf && fits 64 locus
  | .spectroReadPilot r => r.wf
  | .spectroPilotState r report => r.wf && fits 32 report
  | .spectroLoadChemistry r t table => r.wf && fits 32 t && fits 16 table.length
  | .spectroSetNodeChemistry r locus t => r.wf && fits 64 locus && fits 32 t
  | .spectroResetAverages r locus first last => r.wf && locus.all (fun x => fits 64 x) && fits 32 first && fits 32 last
  | .restCorrection at_ cell => fits 64 at_ && fits 16 cell
  | .cellWatchEntry at_ cell check => fits 64 at_ && fits 16 cell && below 10 check
  | .cellWatchExit at_ cell => fits 64 at_ && fits 16 cell
  | .cellQuarantinePromotion at_ cell => fits 64 at_ && fits 16 cell
  | .limitPeriodBoundary at_ => fits 64 at_
  | .limitBaseWrite w _ => w.wf
  | .limitCapWrite w _ _ => w.wf
  | .limitTighten r _ value life => r.wf && fits 32 value && fits 32 life
  | .limitRelax r _ value => r.wf && value.all (fun x => fits 32 x)
  | .limitRead r => r.wf
  | .limitSetPublication r chan ident _ => r.wf && fits 32 chan && fits 32 ident
  | .estimLoadProfile r t profile => r.wf && fits 32 t && fits 16 profile.length
  | .estimRead r locus first last => r.wf && fits 64 locus && fits 32 first && fits 32 last
  | .cellReadState r locus => r.wf && locus.all (fun x => fits 64 x)
  | .cellSetState r locus target => r.wf && fits 64 locus && fits 32 target
  | .balanceSetPolicy r start stop tMax => r.wf && fits 32 start && fits 32 stop && fits 32 tMax
  | .balanceRead r => r.wf
  | .estimSetAdapt r _ gateMin => r.wf && fits 32 gateMin
  | .estimSetWatch r qfactor watchExit => r.wf && fits 32 qfactor && fits 32 watchExit
  | .packSampleWrite at_ k => fits 64 at_ && fits 64 k
  | .intermediateSample at_ bits => fits 64 at_ && bits.all (fun x => fits 125 x)
  | .stuckDetect at_ input => fits 64 at_ && below 4 input
  | .modfltSet at_ input => fits 64 at_ && below 4 input
  | .modfltClear at_ input => fits 64 at_ && below 4 input
  | .calibrationWrite w offset => w.wf && fits 16 offset
  | .meterEnable w => w.wf
  | .pulseOutput at_ => fits 64 at_
  | .meterRead r => r.wf
  | .meterCalibrate r form input ref gain ofs dly => r.wf && fits 32 form && fits 32 input && fits 32 ref && fits 32 gain && fits 32 ofs && fits 32 dly
  | .calibrateAverageDone at_ => fits 64 at_
  | .meterSelectChannel r channel => r.wf && fits 32 channel
  | .meterSetCrosscheck r _ rel abs noload => r.wf && fits 32 rel && fits 32 abs && fits 32 noload
  | .meterLoadWweTable r table => r.wf && fits 16 table.length
  | .meterActivateWweTable r digest => r.wf && fits 16 digest.length
  | .meterReadWweTable r bank => r.wf && fits 32 bank
  | .meterSetRating r iRated cap => r.wf && fits 32 iRated && fits 32 cap
  | .meterSetPulse r _ sel imp => r.wf && fits 32 sel && fits 32 imp
  | .shutterSetContactor r output _ => r.wf && fits 32 output
  | .contactorRegisterRequest w => w.wf
  | .shutterDerate r _ => r.wf
  | .derateBitWrite w _ => w.wf
  | .shutterSetLimpFloor r pct => r.wf && fits 32 pct
  | .limpRegisterWrite w => w.wf
  | .shutterSetPrecharge r preMin preMax => r.wf && fits 32 preMin && fits 32 preMax
  | .shutterSetHazard r h action openDly filt plaus => r.wf && fits 32 h && fits 32 action && fits 32 openDly && fits 32 filt && fits 32 plaus
  | .shutterSetBleed r locus mask duty => r.wf && fits 64 locus && fits 32 mask && fits 32 duty
  | .shutterRead r => r.wf
  | .bleedRegisterWrite w ring node => w.wf && below 8 ring && below 32 node
  | .prechargeAutoOpen at_ => fits 64 at_
  | .prechargeTimeout at_ => fits 64 at_
  | .hazardAssert at_ h => fits 64 at_ && below 4 h
  | .hazardClear at_ pin => fits 64 at_ && pin.wf
  | .hazardOpen at_ h => fits 64 at_ && below 4 h
  | .hazardStuck at_ h => fits 64 at_ && below 4 h
  | .cfaultSet at_ output => fits 64 at_ && below 3 output
  | .cfaultClear at_ output => fits 64 at_ && below 3 output
  | .chatterDeclare at_ output => fits 64 at_ && below 3 output
  | .chatterEnd at_ output edges _ => fits 64 at_ && below 3 output && fits 32 edges
  | .blockAssembly at_ => fits 64 at_
  | .sealComplete at_ => fits 64 at_
  | .archiveEntryWrite at_ _ => fits 64 at_
  | .archiveFault at_ => fits 64 at_
  | .archiveRetry at_ mib _ device => fits 64 at_ && fits 32 mib && deviceWf device
  | .ledgerEnable w => w.wf
  | .ledgerSealNow r => r.wf
  | .ledgerReadHead r => r.wf
  | .ledgerReadSeals r first last => r.wf && fits 64 first && fits 64 last
  | .ledgerReadArchive r log first size => r.wf && fits 32 log && fits 64 first && fits 32 size
  | .ledgerAckOffload r log lseq => r.wf && fits 32 log && fits 64 lseq
  | .ledgerSetArchive r blocks events seals => r.wf && fits 32 blocks && fits 32 events && fits 32 seals
  | .leaseReadTallies r => r.wf
  | .ledgerHandoverPrepare r newRoot => r.wf && fits 384 newRoot
  | .aluAdd m => m.wf
  | .aluSub m => m.wf
  | .aluAnd m => m.wf
  | .aluOr m => m.wf
  | .aluXor m => m.wf
  | .shfSll m => m.wf
  | .shfSrl m => m.wf
  | .shfSra m => m.wf
  | .macMul m => m.wf
  | .macAcc m => m.wf
  | .macCmul m => m.wf
  | .macCacc m => m.wf
  | .lsuLdw m => m.wf
  | .lsuLdp m => m.wf
  | .lsuStw m => m.wf
  | .cmpEq m => m.wf
  | .cmpNe m => m.wf
  | .cmpLt m => m.wf
  | .cmpGe m => m.wf
  | .cmpLtu m => m.wf
  | .strGet m => m.wf
  | .br m => m.wf
  | .limm m => m.wf
  | .sysHalt m => m.wf
  | .sysYield m => m.wf
  | .sysMark m => m.wf
  | .swtrap m code => m.wf && below 16 code
  | .leRun w e => w.wf && below 256 e
  | .leStep w e => w.wf && below 256 e
  | .leSuspend w e => w.wf && below 256 e
  | .leSkip w e => w.wf && below 256 e
  | .leReset w e => w.wf && below 256 e
  | .streamReplay w e => w.wf && below 256 e
  | .emuDepositArm w e => w.wf && below 256 e
  | .compositeMove m entry => m.wf && below 64 entry
  | .lswRd m => m.wf
  | .lswWr m => m.wf
  | .busLd m => m.wf
  | .busSt m => m.wf
  | .busLoadComplete at_ load => fits 64 at_ && load.wf
  | .sysReturn m => m.wf
  | .ltrapTaken at_ v => fits 64 at_ && below 16 v
  | .ltrapAck w v => w.wf && below 16 v
  | .dtCommit w v => w.wf && below 16 v
  | .dtRetire w v => w.wf && below 16 v
  | .vceReset w v => w.wf && below 16 v
  | .jobPromote at_ v job => fits 64 at_ && below 16 v && below 32 job
  | .jobDeadlineMiss at_ v job => fits 64 at_ && below 16 v && below 32 job
  | .checkpointMiss at_ e => fits 64 at_ && below 256 e
  | .laneFault at_ e cause bad => fits 64 at_ && below 256 e && fits 8 cause && bad.all (fun x => fits 32 x)
  | .vceFault at_ v => fits 64 at_ && below 16 v
  | .pairMismatch at_ pair addr => fits 64 at_ && below 2 pair && fits 32 addr
  | .gateCall m => m.wf
  | .gateRet m => m.wf
  | .excRet m => m.wf
  | .excSetpc m => m.wf
  | .excSetsp m => m.wf
  | .hold m => m.wf
  | .holdEnd m => m.wf
  | .holdOverrun at_ pair => fits 64 at_ && below 2 pair
  | .interruptTaken at_ pair => fits 64 at_ && below 2 pair
  | .sliceSwitch at_ => fits 64 at_
  | .regionCommit w ctx i => w.wf && below 8 ctx && below 8 i
  | .gateEntryCommit w g => w.wf && below 16 g
  | .violationPop w world => w.wf && below 2 world
  | .windowCommit w i => w.wf && below 16 i
  | .complementaryPairFault at_ kind index => fits 64 at_ && below 7 kind && fits 16 index
  | .sramControllerFault at_ bank _ _ => fits 64 at_ && below 8 bank
  | .d2dSessionStart at_ => fits 64 at_
  | .d2dHelloReply at_ nonceC mac => fits 64 at_ && fits 128 nonceC && fits 64 mac
  | .d2dTransfer at_ counter mac _ payload => fits 64 at_ && fits 64 counter && fits 64 mac && payload.all (fun x => fits 32 x)
  | .flashOpProgram w bank => w.wf && bank.all (fun x => below 8 x)
  | .flashOpErase w bank => w.wf && bank.all (fun x => below 8 x)
  | .flashOpVerify w bank => w.wf && bank.all (fun x => below 8 x)
  | .flashOpSelect w bank => w.wf && bank.all (fun x => below 8 x)
  | .flashOpComplete at_ result => fits 64 at_ && result.wf
  | .flashResume at_ bank => fits 64 at_ && below 8 bank
  | .bankRelease w => w.wf
  | .flashRead r addr len => r.wf && fits 32 addr && fits 32 len
  | .flashProgram r bank addr data => r.wf && bank.all (fun x => fits 32 x) && fits 32 addr && fits 16 data.length
  | .flashErase r bank addr sectors => r.wf && bank.all (fun x => fits 32 x) && fits 32 addr && fits 32 sectors
  | .flashVerify r addr len margin expected => r.wf && fits 32 addr && fits 32 len && fits 32 margin && fits 16 expected.length
  | .flashActivateTwin r bank _ imgver => r.wf && bank.all (fun x => fits 32 x) && fits 32 imgver
  | .flashReadStatus r => r.wf
  | .cellarEntryQueue w => w.wf
  | .cellarEntryCommit at_ => fits 64 at_
  | .cellarDieReset at_ => fits 64 at_
  | .incidentTimeout at_ => fits 64 at_
  | .incClose w => w.wf
  | .vresThreshold at_ mv => fits 64 at_ && fits 16 mv
  | .backupPowerLoss at_ => fits 64 at_
  | .cellarReadSummary r => r.wf
  | .cellarReadEntries r first count => r.wf && fits 32 first && fits 32 count
  | .cellarReadSeals r first last => r.wf && fits 64 first && fits 64 last
  | .cellarCloseIncident r => r.wf
  | .keyPortWrite w offset => w.wf && fits 16 offset
  | .stagingTimeout at_ world => fits 64 at_ && below 3 world
  | .ksWrite w => w.wf
  | .ksLoad w => w.wf
  | .ksImport w => w.wf
  | .ksEpoch w => w.wf
  | .ksClear w => w.wf
  | .ksGen w => w.wf
  | .ksExport w => w.wf
  | .cipherClaim w blk => w.wf && below 5 blk
  | .cipherClaimLapse at_ blk => fits 64 at_ && below 5 blk
  | .cipherOperation w blk => w.wf && below 5 blk
  | .cipherOperationDone at_ blk => fits 64 at_ && below 5 blk
  | .entropySourceFail at_ src _ => fits 64 at_ && below 3 src
  | .starterReseed at_ n => fits 64 at_ && below 24 n
  | .rngRead at_ cls eng reg noise => fits 64 at_ && below 8 cls && below 256 eng && reg.wf && fits 12 noise
  | .keysChallenge r => r.wf
  | .keysGenerate r slot => r.wf && fits 32 slot
  | .keysReadPublic r slot => r.wf && fits 32 slot
  | .keysInstallCert r cert => r.wf && cert.wf
  | .keysReestablish r tok keys => r.wf && tok.wf && keys.wf
  | .keysRaiseEpoch r slot => r.wf && fits 32 slot
  | .keysReadState r => r.wf
  | .tamperTrip at_ index measure => fits 64 at_ && fits 16 index && fits 16 measure
  | .tamperClear at_ index measure => fits 64 at_ && fits 16 index && fits 16 measure
  | .tamperSelfTest at_ _ => fits 64 at_
  | .tamperTestTimeout at_ => fits 64 at_
  | .gradeWrite w => w.wf
  | .backupTamperResponse at_ index measure => fits 64 at_ && fits 16 index && fits 16 measure
  | .backupTamperTest at_ _ => fits 64 at_
  | .packetReceived at_ path => fits 64 at_ && below 5 path
  | .replyIssue w world => w.wf && below 2 world
  | .spiWrite at_ len bytes => fits 64 at_ && fits 16 len && fits 16 bytes.length
  | .spiRead at_ _ => fits 64 at_
  | .spiStatus at_ => fits 64 at_
  | .canFrameReceived at_ chan ident _ _ bytes => fits 64 at_ && below 2 chan && fits 29 ident && fits 16 bytes.length
  | .canReassemblyTimeout at_ chan => fits 64 at_ && below 2 chan
  | .ethernetDatagramReceived at_ src _ bytes => fits 64 at_ && fits 64 src && fits 16 bytes.length
  | .ethernetReassemblyTimeout at_ src => fits 64 at_ && fits 64 src
  | .arpRequest at_ target sender => fits 64 at_ && fits 32 target && fits 48 sender
  | .tracePacket at_ => fits 64 at_
  | .serviceActivation at_ mv => fits 64 at_ && fits 16 mv
  | .pps at_ t pps1 => fits 64 at_ && below 256 t && pps1.all (fun x => below 256 x)
  | .serviceBlockReceived at_ pcb len inf _ _ => fits 64 at_ && below 256 pcb && fits 16 len && fits 16 inf.length
  | .serviceCwtTimeout at_ => fits 64 at_
  | .serviceBusy at_ => fits 64 at_
  | .resynch at_ inf => fits 64 at_ && fits 16 inf.length
  | .poll at_ inf => fits 64 at_ && fits 16 inf.length
  | .status at_ inf => fits 64 at_ && fits 16 inf.length
  | .unlock at_ inf => fits 64 at_ && fits 16 inf.length
  | .forcedErase at_ inf => fits 64 at_ && fits 16 inf.length
  | .areaRead at_ inf => fits 64 at_ && fits 16 inf.length
  | .areaWrite at_ inf => fits 64 at_ && fits 16 inf.length
  | .serviceProbeRemoval at_ whole _ => fits 64 at_ && fits 32 whole
  | .serviceReadConfig r => r.wf
  | .serviceSetPassword r password => r.wf && password.all (fun x => fits 128 x)
  | .serviceReadArea r first count => r.wf && fits 32 first && fits 32 count
  | .serviceWriteArea r first data => r.wf && fits 32 first && fits 16 data.length
  | .fieldOn at_ strength store => fits 64 at_ && fits 32 strength && fits 32 store
  | .fieldLoss at_ => fits 64 at_
  | .reqa at_ _ => fits 64 at_
  | .anticollision at_ level _ => fits 64 at_ && below 4 level
  | .hlta at_ => fits 64 at_
  | .rats at_ param => fits 64 at_ && below 256 param
  | .deselect at_ => fits 64 at_
  | .tagInfo at_ => fits 64 at_
  | .tagRead at_ first count => fits 64 at_ && fits 16 first && fits 16 count
  | .tagWrite at_ block data store _ => fits 64 at_ && below 256 block && fits 16 data.length && fits 32 store
  | .pwCheck at_ password => fits 64 at_ && fits 128 password
  | .tagSummary at_ => fits 64 at_
  | .tagSeal at_ sealSeq => fits 64 at_ && fits 64 sealSeq
  | .tagEntries at_ first count => fits 64 at_ && fits 32 first && fits 16 count
  | .wiredItemWait at_ => fits 64 at_
  | .tagStage w => w.wf
  | .tagCommit w => w.wf
  | .tagDiscard w => w.wf
  | .rollForward at_ n store => fits 64 at_ && fits 16 n && fits 32 store
  | .tagReadConfig r => r.wf
  | .tagSetConfig r _ _ _ rate password => r.wf && fits 32 rate && password.all (fun x => fits 128 x.1 && fits 32 x.2)
  | .passportRead r first count => r.wf && fits 32 first && fits 32 count
  | .passportWrite r first data => r.wf && fits 32 first && fits 16 data.length
  | .passportSign r identity chemistry => r.wf && identity.all (fun x => fits 16 x.length) && chemistry.all (fun x => fits 16 x.length)
  | .asmAnnounce at_ ring term assembly deputy flags serial => fits 64 at_ && below 8 ring && fits 32 term && fits 16 assembly && fits 8 deputy && fits 8 flags && fits 64 serial
  | .sealReq at_ sealSeq => fits 64 at_ && fits 64 sealSeq
  | .assemblyFrameReceived at_ ring _ hdr data => fits 64 at_ && below 8 ring && groupsWf hdr && groupsWf data
  | .managerLoss at_ => fits 64 at_
  | .assemblyRead r => r.wf
  | .assemblySetRole r role mask => r.wf && fits 32 role && fits 32 mask
  | .assemblySetDeputy r device => r.wf && fits 32 device
  | .assemblySuccessionSeal r newSerial token keys => r.wf && fits 64 newSerial && token.wf && keys.wf
  | .assemblySucceed r cert block sealed keyCert => r.wf && cert.wf && fits 16 block.length && fits 16 sealed.length && keyCert.all (·.wf)
  | .assemblyReadWorker r device => r.wf && fits 32 device
  | .faultAck w => w.wf
  | .faultDeclare w => w.wf
  | .dormantPowerOff at_ => fits 64 at_
  | .selftestRun r mask _ token keys => r.wf && fits 32 mask && token.all (·.wf) && keys.wf
  | .selftestReadResult r run => r.wf && fits 32 run
  | .selftestAbort r => r.wf
  | .selftestTestComplete at_ fails => fits 64 at_ && fails.all (·.wf)
  | .lockSet w addr => w.wf && fits 32 addr
  | .counterClear w addr => w.wf && fits 32 addr
  | .registerWrite w addr => w.wf && fits 32 addr
  | .operandMove m dst => m.wf && below 256 dst
  | .jobRelease at_ v job => fits 64 at_ && below 16 v && below 32 job
  | .ksOperationDone at_ => fits 64 at_
  | .sramBankInitialised at_ bank => fits 64 at_ && below 8 bank
  | .linkChanged at_ slot _ _ => fits 64 at_ && below 30 slot
  | .deactivation at_ => fits 64 at_
  | .clockStop at_ _ _ => fits 64 at_
  | .rfBlockReceived at_ pcb inf _ => fits 64 at_ && below 256 pcb && fits 16 inf.length
  | .rfPps at_ dr ds => fits 64 at_ && below 4 dr && below 4 ds
  | .d2dLinkDrop at_ => fits 64 at_
  | .commandFrame at_ _ hdr data crc => fits 64 at_ && groupsWf hdr && groupsWf data && groupsWf crc

/-- The stamp a command arrives at; POR_RELEASE carries the backup counter instead. -/
def Instr.stamp : Instr → Nat
  | .porRelease _ _ => 0
  | .brownOut at_ _ _ => at_
  | .mainSupplyLoss at_ => at_
  | .warmReset at_ _ _ => at_
  | .rstNLow at_ _ _ => at_
  | .pllLockLoss at_ _ _ _ => at_
  | .startWatchdogExpiry at_ _ => at_
  | .wakeNFall at_ _ _ => at_
  | .cprResetWrite w _ => w.at_
  | .domainControlWrite w _ => w.at_
  | .deviceIdentify r => r.at_
  | .deviceReadStatus r => r.at_
  | .deviceReadFaults r _ _ => r.at_
  | .deviceTrace r _ _ => r.at_
  | .deviceReadReg r _ _ => r.at_
  | .deviceReset r _ _ => r.at_
  | .deviceTamperRead r => r.at_
  | .deviceTamperSetGrade r _ _ => r.at_
  | .deviceTamperDisable r _ _ _ => r.at_
  | .sessionOpen r _ _ _ _ => r.at_
  | .sessionFinish r _ _ => r.at_
  | .sessionClose r => r.at_
  | .sessionRead r => r.at_
  | .sessionFinishTimeout at_ _ => at_
  | .sessionIdleTimeout at_ _ => at_
  | .modeSet r _ => r.at_
  | .modeReleaseQuarantine r _ _ => r.at_
  | .modeRead r => r.at_
  | .lifecycleProvision r _ _ _ => r.at_
  | .lifecycleCommission r _ _ => r.at_
  | .lifecycleSecondLife r _ _ _ => r.at_
  | .lifecycleRetire r _ _ => r.at_
  | .lifecycleFieldReturn r _ _ _ => r.at_
  | .transitSetRate r _ => r.at_
  | .rateChangeEffect at_ => at_
  | .twiddleTableBuilt at_ => at_
  | .transitEnumerate r _ => r.at_
  | .ringEnableWrite w _ => w.at_
  | .ringRetry at_ _ => at_
  | .transitRejoin r _ => r.at_
  | .autoRejoin at_ _ => at_
  | .transitSetAssembly r _ => r.at_
  | .transitAcceptRoster r _ => r.at_
  | .transitRead r _ => r.at_
  | .transitNodeRequest r _ _ _ _ _ => r.at_
  | .trainDeparture at_ _ => at_
  | .sampleInstant at_ => at_
  | .trainReceived at_ _ _ _ => at_
  | .frameReceived at_ _ _ _ => at_
  | .responseFrameReceived at_ _ _ _ _ _ _ => at_
  | .echoReply at_ _ _ _ _ => at_
  | .echoSchedule at_ _ => at_
  | .losDeclare at_ _ _ => at_
  | .losClear at_ _ _ => at_
  | .breakSetReceived at_ _ _ _ _ => at_
  | .trainEndBTimeout at_ _ => at_
  | .frameMissing at_ _ _ _ => at_
  | .mailboxGo w _ => w.at_
  | .mailboxTimeout at_ _ => at_
  | .rateRegisterWrite w => w.at_
  | .watermarkEval at_ => at_
  | .almanacChannelFault at_ _ => at_
  | .lqAck w => w.at_
  | .captureSetLateness r _ _ => r.at_
  | .captureReadEntries r _ _ _ _ => r.at_
  | .captureTimeMark r _ _ => r.at_
  | .timeHi at_ _ => at_
  | .uplinkSync at_ _ _ _ => at_
  | .discHoldover at_ => at_
  | .fitCycle at_ _ => at_
  | .fitOverrun at_ _ => at_
  | .pilotTimeout at_ => at_
  | .spgEnableWrite w => w.at_
  | .spectroSetBin r _ _ _ _ _ _ _ => r.at_
  | .spectroReadBinState r _ _ => r.at_
  | .spectroReadImpedance r _ _ _ => r.at_
  | .spectroReadFit r _ => r.at_
  | .spectroReadTemperature r _ => r.at_
  | .spectroReadPilot r => r.at_
  | .spectroPilotState r _ => r.at_
  | .spectroLoadChemistry r _ _ => r.at_
  | .spectroSetNodeChemistry r _ _ => r.at_
  | .spectroResetAverages r _ _ _ => r.at_
  | .restCorrection at_ _ => at_
  | .cellWatchEntry at_ _ _ => at_
  | .cellWatchExit at_ _ => at_
  | .cellQuarantinePromotion at_ _ => at_
  | .limitPeriodBoundary at_ => at_
  | .limitBaseWrite w _ => w.at_
  | .limitCapWrite w _ _ => w.at_
  | .limitTighten r _ _ _ => r.at_
  | .limitRelax r _ _ => r.at_
  | .limitRead r => r.at_
  | .limitSetPublication r _ _ _ => r.at_
  | .estimLoadProfile r _ _ => r.at_
  | .estimRead r _ _ _ => r.at_
  | .cellReadState r _ => r.at_
  | .cellSetState r _ _ => r.at_
  | .balanceSetPolicy r _ _ _ => r.at_
  | .balanceRead r => r.at_
  | .estimSetAdapt r _ _ => r.at_
  | .estimSetWatch r _ _ => r.at_
  | .packSampleWrite at_ _ => at_
  | .intermediateSample at_ _ => at_
  | .stuckDetect at_ _ => at_
  | .modfltSet at_ _ => at_
  | .modfltClear at_ _ => at_
  | .calibrationWrite w _ => w.at_
  | .meterEnable w => w.at_
  | .pulseOutput at_ => at_
  | .meterRead r => r.at_
  | .meterCalibrate r _ _ _ _ _ _ => r.at_
  | .calibrateAverageDone at_ => at_
  | .meterSelectChannel r _ => r.at_
  | .meterSetCrosscheck r _ _ _ _ => r.at_
  | .meterLoadWweTable r _ => r.at_
  | .meterActivateWweTable r _ => r.at_
  | .meterReadWweTable r _ => r.at_
  | .meterSetRating r _ _ => r.at_
  | .meterSetPulse r _ _ _ => r.at_
  | .shutterSetContactor r _ _ => r.at_
  | .contactorRegisterRequest w => w.at_
  | .shutterDerate r _ => r.at_
  | .derateBitWrite w _ => w.at_
  | .shutterSetLimpFloor r _ => r.at_
  | .limpRegisterWrite w => w.at_
  | .shutterSetPrecharge r _ _ => r.at_
  | .shutterSetHazard r _ _ _ _ _ => r.at_
  | .shutterSetBleed r _ _ _ => r.at_
  | .shutterRead r => r.at_
  | .bleedRegisterWrite w _ _ => w.at_
  | .prechargeAutoOpen at_ => at_
  | .prechargeTimeout at_ => at_
  | .hazardAssert at_ _ => at_
  | .hazardClear at_ _ => at_
  | .hazardOpen at_ _ => at_
  | .hazardStuck at_ _ => at_
  | .cfaultSet at_ _ => at_
  | .cfaultClear at_ _ => at_
  | .chatterDeclare at_ _ => at_
  | .chatterEnd at_ _ _ _ => at_
  | .blockAssembly at_ => at_
  | .sealComplete at_ => at_
  | .archiveEntryWrite at_ _ => at_
  | .archiveFault at_ => at_
  | .archiveRetry at_ _ _ _ => at_
  | .ledgerEnable w => w.at_
  | .ledgerSealNow r => r.at_
  | .ledgerReadHead r => r.at_
  | .ledgerReadSeals r _ _ => r.at_
  | .ledgerReadArchive r _ _ _ => r.at_
  | .ledgerAckOffload r _ _ => r.at_
  | .ledgerSetArchive r _ _ _ => r.at_
  | .leaseReadTallies r => r.at_
  | .ledgerHandoverPrepare r _ => r.at_
  | .aluAdd m => m.at_
  | .aluSub m => m.at_
  | .aluAnd m => m.at_
  | .aluOr m => m.at_
  | .aluXor m => m.at_
  | .shfSll m => m.at_
  | .shfSrl m => m.at_
  | .shfSra m => m.at_
  | .macMul m => m.at_
  | .macAcc m => m.at_
  | .macCmul m => m.at_
  | .macCacc m => m.at_
  | .lsuLdw m => m.at_
  | .lsuLdp m => m.at_
  | .lsuStw m => m.at_
  | .cmpEq m => m.at_
  | .cmpNe m => m.at_
  | .cmpLt m => m.at_
  | .cmpGe m => m.at_
  | .cmpLtu m => m.at_
  | .strGet m => m.at_
  | .br m => m.at_
  | .limm m => m.at_
  | .sysHalt m => m.at_
  | .sysYield m => m.at_
  | .sysMark m => m.at_
  | .swtrap m _ => m.at_
  | .leRun w _ => w.at_
  | .leStep w _ => w.at_
  | .leSuspend w _ => w.at_
  | .leSkip w _ => w.at_
  | .leReset w _ => w.at_
  | .streamReplay w _ => w.at_
  | .emuDepositArm w _ => w.at_
  | .compositeMove m _ => m.at_
  | .lswRd m => m.at_
  | .lswWr m => m.at_
  | .busLd m => m.at_
  | .busSt m => m.at_
  | .busLoadComplete at_ _ => at_
  | .sysReturn m => m.at_
  | .ltrapTaken at_ _ => at_
  | .ltrapAck w _ => w.at_
  | .dtCommit w _ => w.at_
  | .dtRetire w _ => w.at_
  | .vceReset w _ => w.at_
  | .jobPromote at_ _ _ => at_
  | .jobDeadlineMiss at_ _ _ => at_
  | .checkpointMiss at_ _ => at_
  | .laneFault at_ _ _ _ => at_
  | .vceFault at_ _ => at_
  | .pairMismatch at_ _ _ => at_
  | .gateCall m => m.at_
  | .gateRet m => m.at_
  | .excRet m => m.at_
  | .excSetpc m => m.at_
  | .excSetsp m => m.at_
  | .hold m => m.at_
  | .holdEnd m => m.at_
  | .holdOverrun at_ _ => at_
  | .interruptTaken at_ _ => at_
  | .sliceSwitch at_ => at_
  | .regionCommit w _ _ => w.at_
  | .gateEntryCommit w _ => w.at_
  | .violationPop w _ => w.at_
  | .windowCommit w _ => w.at_
  | .complementaryPairFault at_ _ _ => at_
  | .sramControllerFault at_ _ _ _ => at_
  | .d2dSessionStart at_ => at_
  | .d2dHelloReply at_ _ _ => at_
  | .d2dTransfer at_ _ _ _ _ => at_
  | .flashOpProgram w _ => w.at_
  | .flashOpErase w _ => w.at_
  | .flashOpVerify w _ => w.at_
  | .flashOpSelect w _ => w.at_
  | .flashOpComplete at_ _ => at_
  | .flashResume at_ _ => at_
  | .bankRelease w => w.at_
  | .flashRead r _ _ => r.at_
  | .flashProgram r _ _ _ => r.at_
  | .flashErase r _ _ _ => r.at_
  | .flashVerify r _ _ _ _ => r.at_
  | .flashActivateTwin r _ _ _ => r.at_
  | .flashReadStatus r => r.at_
  | .cellarEntryQueue w => w.at_
  | .cellarEntryCommit at_ => at_
  | .cellarDieReset at_ => at_
  | .incidentTimeout at_ => at_
  | .incClose w => w.at_
  | .vresThreshold at_ _ => at_
  | .backupPowerLoss at_ => at_
  | .cellarReadSummary r => r.at_
  | .cellarReadEntries r _ _ => r.at_
  | .cellarReadSeals r _ _ => r.at_
  | .cellarCloseIncident r => r.at_
  | .keyPortWrite w _ => w.at_
  | .stagingTimeout at_ _ => at_
  | .ksWrite w => w.at_
  | .ksLoad w => w.at_
  | .ksImport w => w.at_
  | .ksEpoch w => w.at_
  | .ksClear w => w.at_
  | .ksGen w => w.at_
  | .ksExport w => w.at_
  | .cipherClaim w _ => w.at_
  | .cipherClaimLapse at_ _ => at_
  | .cipherOperation w _ => w.at_
  | .cipherOperationDone at_ _ => at_
  | .entropySourceFail at_ _ _ => at_
  | .starterReseed at_ _ => at_
  | .rngRead at_ _ _ _ _ => at_
  | .keysChallenge r => r.at_
  | .keysGenerate r _ => r.at_
  | .keysReadPublic r _ => r.at_
  | .keysInstallCert r _ => r.at_
  | .keysReestablish r _ _ => r.at_
  | .keysRaiseEpoch r _ => r.at_
  | .keysReadState r => r.at_
  | .tamperTrip at_ _ _ => at_
  | .tamperClear at_ _ _ => at_
  | .tamperSelfTest at_ _ => at_
  | .tamperTestTimeout at_ => at_
  | .gradeWrite w => w.at_
  | .backupTamperResponse at_ _ _ => at_
  | .backupTamperTest at_ _ => at_
  | .packetReceived at_ _ => at_
  | .replyIssue w _ => w.at_
  | .spiWrite at_ _ _ => at_
  | .spiRead at_ _ => at_
  | .spiStatus at_ => at_
  | .canFrameReceived at_ _ _ _ _ _ => at_
  | .canReassemblyTimeout at_ _ => at_
  | .ethernetDatagramReceived at_ _ _ _ => at_
  | .ethernetReassemblyTimeout at_ _ => at_
  | .arpRequest at_ _ _ => at_
  | .tracePacket at_ => at_
  | .serviceActivation at_ _ => at_
  | .pps at_ _ _ => at_
  | .serviceBlockReceived at_ _ _ _ _ _ => at_
  | .serviceCwtTimeout at_ => at_
  | .serviceBusy at_ => at_
  | .resynch at_ _ => at_
  | .poll at_ _ => at_
  | .status at_ _ => at_
  | .unlock at_ _ => at_
  | .forcedErase at_ _ => at_
  | .areaRead at_ _ => at_
  | .areaWrite at_ _ => at_
  | .serviceProbeRemoval at_ _ _ => at_
  | .serviceReadConfig r => r.at_
  | .serviceSetPassword r _ => r.at_
  | .serviceReadArea r _ _ => r.at_
  | .serviceWriteArea r _ _ => r.at_
  | .fieldOn at_ _ _ => at_
  | .fieldLoss at_ => at_
  | .reqa at_ _ => at_
  | .anticollision at_ _ _ => at_
  | .hlta at_ => at_
  | .rats at_ _ => at_
  | .deselect at_ => at_
  | .tagInfo at_ => at_
  | .tagRead at_ _ _ => at_
  | .tagWrite at_ _ _ _ _ => at_
  | .pwCheck at_ _ => at_
  | .tagSummary at_ => at_
  | .tagSeal at_ _ => at_
  | .tagEntries at_ _ _ => at_
  | .wiredItemWait at_ => at_
  | .tagStage w => w.at_
  | .tagCommit w => w.at_
  | .tagDiscard w => w.at_
  | .rollForward at_ _ _ => at_
  | .tagReadConfig r => r.at_
  | .tagSetConfig r _ _ _ _ _ => r.at_
  | .passportRead r _ _ => r.at_
  | .passportWrite r _ _ => r.at_
  | .passportSign r _ _ => r.at_
  | .asmAnnounce at_ _ _ _ _ _ _ => at_
  | .sealReq at_ _ => at_
  | .assemblyFrameReceived at_ _ _ _ _ => at_
  | .managerLoss at_ => at_
  | .assemblyRead r => r.at_
  | .assemblySetRole r _ _ => r.at_
  | .assemblySetDeputy r _ => r.at_
  | .assemblySuccessionSeal r _ _ _ => r.at_
  | .assemblySucceed r _ _ _ _ => r.at_
  | .assemblyReadWorker r _ => r.at_
  | .faultAck w => w.at_
  | .faultDeclare w => w.at_
  | .dormantPowerOff at_ => at_
  | .selftestRun r _ _ _ _ => r.at_
  | .selftestReadResult r _ => r.at_
  | .selftestAbort r => r.at_
  | .selftestTestComplete at_ _ => at_
  | .lockSet w _ => w.at_
  | .counterClear w _ => w.at_
  | .registerWrite w _ => w.at_
  | .operandMove m _ => m.at_
  | .jobRelease at_ _ _ => at_
  | .ksOperationDone at_ => at_
  | .sramBankInitialised at_ _ => at_
  | .linkChanged at_ _ _ _ => at_
  | .deactivation at_ => at_
  | .clockStop at_ _ _ => at_
  | .rfBlockReceived at_ _ _ _ => at_
  | .rfPps at_ _ _ => at_
  | .d2dLinkDrop at_ => at_
  | .commandFrame at_ _ _ _ _ => at_

end Sys2Proof
end

