-- ==== Sys2Proof/Safety.lean ====
section
/-!
DEFINITION. Safety.lean: what counts as a safe run, in the terms claims use: the canonical form of the stores, a step that completes, when a command of
the tables is accepted, when a write on the spine is admitted, and what an engine's own triggers do once an instruction has issued.
-/
namespace Sys2Proof.Machine

/-- The three stores of the whole part are in canonical form: equal contents are then equal data. -/
def State.Canonical (s : State) : Prop :=
  Sparse.wf regDefault s.regs = true ∧ Memory.wf s.mem = true ∧ Sparse.wf (fun _ => (0 : Word)) s.latched = true

/-- Of two readings of a row of fuse pairs, the later has every fuse blown that the earlier had (R32, R418). -/
def OneWay (a b : List (Bool × Bool)) : Prop :=
  ∀ i, ((at! a i (false, false)).1 = true → (at! b i (false, false)).1 = true) ∧ ((at! a i (false, false)).2 = true → (at! b i (false, false)).2 = true)

/-- No fuse that was blown in `s` is unblown in `t`: the life-cycle fuses, the field-return pair, the tamper disables, the repair fuses. -/
def State.FusesKept (s t : State) : Prop :=
  OneWay s.life.fuses t.life.fuses ∧ (s.life.frPair.1 = true → t.life.frPair.1 = true) ∧ (s.life.frPair.2 = true → t.life.frPair.2 = true) ∧
  OneWay s.tmp.fuses t.tmp.fuses ∧ s.bist.fuses <+: t.bist.fuses

/-- The step completes: no fault and no refusal. -/
def Completes (s : State) : Prop := ∃ t, step s = .next t

/-- The checks of R437 that come before a command's own chapter pass: its path, the service port's set and lock, its world, the mode, the Dormant entry
phase and the recovery monitor. The life-cycle check is said apart. While the logic die is dead only the service port answers. -/
def passes (t : State) (r : Req) (op : Nat) : Bool :=
  (t.alive || r.path == 4) && (pathCheck t r op).isNone && (svcCheck t r op).isNone && (recoveryCheck t op).isNone && (lockCheck t r).isNone &&
  (worldCheck r op).isNone && (modeCheck t op).isNone && (phaseCheck t op).isNone && (linkCheck t op).isNone

/-- The gate of an address admits a write that arrives whole, and its target can take it (R18, R327, R336, R527). -/
def admitted (t : State) (w : Wr) (addr : Nat) : Bool :=
  t.alive && !damaged t (wrAcc w addr) w.value w.noise && (gateCheck t (wrAcc w addr)).isNone && !outOfReach t addr

/-! ### Commands of the tables and writes on the spine -/

/-- The requester and the opcode of a row that is a command of the tables (R445), MODE.SET apart, whose refusal also raises MODE_IRQ. -/
def cmdOf : Instr → Option (Req × Nat)
  | .deviceIdentify r => some (r, 0x0101)
  | .deviceReadStatus r => some (r, 0x0102)
  | .deviceReadFaults r _ _ => some (r, 0x0103)
  | .deviceTrace r _ _ => some (r, 0x0104)
  | .deviceReadReg r _ _ => some (r, 0x0105)
  | .deviceReset r _ _ => some (r, 0x0106)
  | .deviceTamperRead r => some (r, 0x0120)
  | .deviceTamperSetGrade r _ _ => some (r, 0x0121)
  | .deviceTamperDisable r _ _ _ => some (r, 0x0122)
  | .sessionOpen r _ _ _ _ => some (r, 0x0110)
  | .sessionFinish r _ _ => some (r, 0x0111)
  | .sessionClose r => some (r, 0x0112)
  | .sessionRead r => some (r, 0x0113)
  | .modeReleaseQuarantine r _ _ => some (r, 0x0202)
  | .modeRead r => some (r, 0x0203)
  | .lifecycleProvision r _ _ _ => some (r, 0x0210)
  | .lifecycleCommission r _ _ => some (r, 0x0211)
  | .lifecycleSecondLife r _ _ _ => some (r, 0x0212)
  | .lifecycleRetire r _ _ => some (r, 0x0213)
  | .lifecycleFieldReturn r _ _ _ => some (r, 0x0214)
  | .transitSetRate r _ => some (r, 0x0301)
  | .transitEnumerate r _ => some (r, 0x0302)
  | .transitRejoin r _ => some (r, 0x0303)
  | .transitSetAssembly r _ => some (r, 0x0304)
  | .transitAcceptRoster r _ => some (r, 0x0305)
  | .transitRead r _ => some (r, 0x0306)
  | .transitNodeRequest r _ _ _ _ _ => some (r, 0x0307)
  | .captureSetLateness r _ _ => some (r, 0x0310)
  | .captureReadEntries r _ _ _ _ => some (r, 0x0311)
  | .captureTimeMark r _ _ => some (r, 0x0312)
  | .spectroSetBin r _ _ _ _ _ _ _ => some (r, 0x0401)
  | .spectroReadBinState r _ _ => some (r, 0x0402)
  | .spectroReadImpedance r _ _ _ => some (r, 0x0403)
  | .spectroReadFit r _ => some (r, 0x0404)
  | .spectroReadTemperature r _ => some (r, 0x0405)
  | .spectroReadPilot r => some (r, 0x0406)
  | .spectroPilotState r _ => some (r, 0x0407)
  | .spectroLoadChemistry r _ _ => some (r, 0x0408)
  | .spectroSetNodeChemistry r _ _ => some (r, 0x0409)
  | .spectroResetAverages r _ _ _ => some (r, 0x040A)
  | .limitTighten r _ _ _ => some (r, 0x0640)
  | .limitRelax r _ _ => some (r, 0x0641)
  | .limitRead r => some (r, 0x0642)
  | .limitSetPublication r _ _ _ => some (r, 0x0643)
  | .estimLoadProfile r _ _ => some (r, 0x0648)
  | .estimRead r _ _ _ => some (r, 0x0649)
  | .cellReadState r _ => some (r, 0x064A)
  | .cellSetState r _ _ => some (r, 0x064B)
  | .balanceSetPolicy r _ _ _ => some (r, 0x064C)
  | .balanceRead r => some (r, 0x064D)
  | .estimSetAdapt r _ _ => some (r, 0x064E)
  | .estimSetWatch r _ _ => some (r, 0x064F)
  | .meterRead r => some (r, 0x0501)
  | .meterCalibrate r _ _ _ _ _ _ => some (r, 0x0502)
  | .meterSelectChannel r _ => some (r, 0x0503)
  | .meterSetCrosscheck r _ _ _ _ => some (r, 0x0504)
  | .meterLoadWweTable r _ => some (r, 0x0505)
  | .meterActivateWweTable r _ => some (r, 0x0506)
  | .meterReadWweTable r _ => some (r, 0x0507)
  | .meterSetRating r _ _ => some (r, 0x0508)
  | .meterSetPulse r _ _ _ => some (r, 0x0509)
  | .shutterSetContactor r _ _ => some (r, 0x0601)
  | .shutterDerate r _ => some (r, 0x0602)
  | .shutterSetLimpFloor r _ => some (r, 0x0603)
  | .shutterSetPrecharge r _ _ => some (r, 0x0604)
  | .shutterSetHazard r _ _ _ _ _ => some (r, 0x0605)
  | .shutterSetBleed r _ _ _ => some (r, 0x0606)
  | .shutterRead r => some (r, 0x0607)
  | .ledgerSealNow r => some (r, 0x0701)
  | .ledgerReadHead r => some (r, 0x0702)
  | .ledgerReadSeals r _ _ => some (r, 0x0703)
  | .ledgerReadArchive r _ _ _ => some (r, 0x0704)
  | .ledgerAckOffload r _ _ => some (r, 0x0705)
  | .ledgerSetArchive r _ _ _ => some (r, 0x0706)
  | .leaseReadTallies r => some (r, 0x0707)
  | .ledgerHandoverPrepare r _ => some (r, 0x0708)
  | .flashRead r _ _ => some (r, 0x0A01)
  | .flashProgram r _ _ _ => some (r, 0x0A02)
  | .flashErase r _ _ _ => some (r, 0x0A03)
  | .flashVerify r _ _ _ _ => some (r, 0x0A04)
  | .flashActivateTwin r _ _ _ => some (r, 0x0A05)
  | .flashReadStatus r => some (r, 0x0A06)
  | .cellarReadSummary r => some (r, 0x0C01)
  | .cellarReadEntries r _ _ => some (r, 0x0C02)
  | .cellarReadSeals r _ _ => some (r, 0x0C03)
  | .cellarCloseIncident r => some (r, 0x0C04)
  | .keysChallenge r => some (r, 0x0801)
  | .keysGenerate r _ => some (r, 0x0802)
  | .keysReadPublic r _ => some (r, 0x0803)
  | .keysInstallCert r _ => some (r, 0x0804)
  | .keysReestablish r _ _ => some (r, 0x0805)
  | .keysRaiseEpoch r _ => some (r, 0x0806)
  | .keysReadState r => some (r, 0x0807)
  | .serviceReadConfig r => some (r, 0x0D06)
  | .serviceSetPassword r _ => some (r, 0x0D07)
  | .serviceReadArea r _ _ => some (r, 0x0D08)
  | .serviceWriteArea r _ _ => some (r, 0x0D09)
  | .tagReadConfig r => some (r, 0x0D01)
  | .tagSetConfig r _ _ _ _ _ => some (r, 0x0D02)
  | .passportRead r _ _ => some (r, 0x0D03)
  | .passportWrite r _ _ => some (r, 0x0D04)
  | .passportSign r _ _ => some (r, 0x0D05)
  | .assemblyRead r => some (r, 0x0901)
  | .assemblySetRole r _ _ => some (r, 0x0902)
  | .assemblySetDeputy r _ => some (r, 0x0903)
  | .assemblySuccessionSeal r _ _ _ => some (r, 0x0904)
  | .assemblySucceed r _ _ _ _ => some (r, 0x0905)
  | .assemblyReadWorker r _ => some (r, 0x0906)
  | .selftestRun r _ _ _ _ => some (r, 0x0B01)
  | .selftestReadResult r _ => some (r, 0x0B02)
  | .selftestAbort r => some (r, 0x0B03)
  | _ => none

/-- The write and the register address of a row that is one posted write to a register of its own (R328). -/
def writeOf : Instr → Option (Wr × Nat)
  | .cprResetWrite w _ => some (w, r_CPR_RESET)
  | .ringEnableWrite w ring => some (w, r_TR_CTRL ring)
  | .mailboxGo w ring => some (w, r_TR_CMD_HDR ring)
  | .rateRegisterWrite w => some (w, r_TRG_CTRL)
  | .lqAck w => some (w, r_ALM_LQ_ACK)
  | .spgEnableWrite w => some (w, r_SPG_CTRL)
  | .limitBaseWrite w discharge => some (w, if discharge then r_LIM_BASE_DIS else r_LIM_BASE_CHG)
  | .limitCapWrite w operator discharge => some (w, capReg (capIdx operator discharge))
  | .meterEnable w => some (w, r_MER_CTRL)
  | .contactorRegisterRequest w => some (w, r_SHT_CTC_CMD)
  | .derateBitWrite w operator => some (w, if operator then r_SHT_DERATE_OP else r_SHT_DERATE_CU)
  | .limpRegisterWrite w => some (w, r_SHT_LIMP)
  | .bleedRegisterWrite w ring node => some (w, r_SHT_BLEED ring node)
  | .ledgerEnable w => some (w, r_LDG_CTRL)
  | .ltrapAck w v => some (w, r_VAT_LTRAP v)
  | .dtCommit w v => some (w, r_VAT_DT_CMD v)
  | .dtRetire w v => some (w, r_VAT_DT_CMD v)
  | .vceReset w v => some (w, r_VAT_CTRL v)
  | .violationPop w world => some (w, r_TG_VPOP world)
  | .windowCommit w n => some (w, r_TG_WIN_HI n)
  | .flashOpProgram w _ => some (w, r_FLC_CMD)
  | .flashOpErase w _ => some (w, r_FLC_CMD)
  | .flashOpVerify w _ => some (w, r_FLC_CMD)
  | .flashOpSelect w _ => some (w, r_FLC_CMD)
  | .bankRelease w => some (w, r_FLC_BANK)
  | .cellarEntryQueue w => some (w, r_CEL_WCMD)
  | .incClose w => some (w, r_CEL_CTRL)
  | .keyPortWrite w offset => some (w, 0x70000000 + offset)
  | .ksWrite w => some (w, r_KS_CMD)
  | .ksLoad w => some (w, r_KS_CMD)
  | .ksImport w => some (w, r_KS_CMD)
  | .ksEpoch w => some (w, r_KS_CMD)
  | .ksClear w => some (w, r_KS_CMD)
  | .ksGen w => some (w, r_KS_CMD)
  | .ksExport w => some (w, r_KS_CMD)
  | .cipherClaim w blk => some (w, r_CB_CLAIM blk)
  | .cipherOperation w blk => some (w, r_CB_CMD blk)
  | .gradeWrite w => some (w, r_TMP_GRADE)
  | .replyIssue w world => some (w, r_CMD_RPLY_CTL world)
  | .tagStage w => some (w, r_TAG_WCMD)
  | .tagCommit w => some (w, r_TAG_WCMD)
  | .tagDiscard w => some (w, r_TAG_WCMD)
  | .faultAck w => some (w, r_FLT_ACK)
  | .faultDeclare w => some (w, r_FLT_DECLARE)
  | .domainControlWrite w e => if e < 320 then some (w, r_CPR_DOM e) else none
  | .leRun w e => if e < 256 then some (w, r_LE_CTRL e) else none
  | .leStep w e => if e < 256 then some (w, r_LE_CTRL e) else none
  | .leSuspend w e => if e < 256 then some (w, r_LE_CTRL e) else none
  | .leSkip w e => if e < 256 then some (w, r_LE_CTRL e) else none
  | .leReset w e => if e < 256 then some (w, r_LE_CTRL e) else none
  | .streamReplay w e => if e < 256 then some (w, r_LE_STR_POS e) else none
  | .emuDepositArm w e => if e < 256 then some (w, r_LE_EMU_CTL e) else none
  | .regionCommit w ctx i => if ctx < 8 ∧ i < 8 then some (w, r_CORE_RGN_HI ctx i) else none
  | .gateEntryCommit w g => if g < 256 then some ({ w with value := w.value % 2 ^ 31 + 2 ^ 31 }, r_CORE_GATE g 0) else none
  | .calibrationWrite w offset => if calOffset offset then some (w, 0x40090000 + offset) else none
  | .registerWrite w a => if a % 4 = 0 ∧ (a / 0x10000 ∈ [0x4000, 0x4016, 0x401F, 0x4020] ∨ plainMemory a = true) then some (w, a) else none
  | _ => none

/-! ### Moves -/

/-- The instruction word of a row of the move set, where its engine has that destination (R242, R296): the move, and the word it stands in. -/
def moveWord (c : Instr) : Option (Mv × Nat) :=
  let dest (m : Mv) (d : Nat) : Option (Mv × Nat) := if nameable m.eng d then some (m, Mv.wordTo m d) else none
  let destOn (kind : Eng → Bool) (m : Mv) (d : Nat) : Option (Mv × Nat) := if kind m.eng then dest m d else none
  match c with
  | .aluAdd m => dest m 0x41
  | .aluSub m => dest m 0x42
  | .aluAnd m => dest m 0x43
  | .aluOr m => dest m 0x44
  | .aluXor m => dest m 0x45
  | .shfSll m => dest m 0x47
  | .shfSrl m => dest m 0x48
  | .shfSra m => dest m 0x49
  | .macMul m => dest m 0x4C
  | .macAcc m => dest m 0x4D
  | .macCmul m => dest m 0x4E
  | .macCacc m => dest m 0x4F
  | .lsuLdw m => dest m 0x52
  | .lsuLdp m => dest m 0x53
  | .lsuStw m => dest m 0x54
  | .cmpEq m => dest m 0x56
  | .cmpNe m => dest m 0x57
  | .cmpLt m => dest m 0x58
  | .cmpGe m => dest m 0x59
  | .cmpLtu m => dest m 0x5A
  | .strGet m => dest m 0x5B
  | .br m => dest m 0x5C
  | .limm m => dest m 0x5D
  | .busLd m => dest m 0x61
  | .busSt m => dest m 0x62
  | .lswRd m => destOn isVce m 0x71
  | .lswWr m => destOn isVce m 0x72
  | .gateCall m => destOn isCore m 0x70
  | .gateRet m => destOn isCore m 0x71
  | .excRet m => destOn isCore m 0x72
  | .hold m => destOn isCore m 0x73
  | .holdEnd m => destOn isCore m 0x74
  | .excSetpc m => destOn isCore m 0x76
  | .excSetsp m => destOn isCore m 0x77
  | .compositeMove m entry => destOn isVce m (0xC0 + entry % 64)
  | .operandMove m dst => dest m dst
  | .sysHalt m => some (m, Mv.wordSys m 1)
  | .sysYield m => some (m, Mv.wordSys m 2)
  | .sysMark m => some (m, Mv.wordSys m 3)
  | .sysReturn m => some (m, Mv.wordSys m 4)
  | .swtrap m code => some (m, Mv.wordSys m (0x10 + code % 16))
  | _ => none

/-- The engine that a move's instruction belongs to runs, the memory it needs is up and its fetch is good (R237, R261, R276, R331): it issues `word`. -/
def moveIssues (s : State) (m : Mv) (word : Nat) : Bool :=
  let t := s.at m.at_
  let noise := m.noise / 2 ^ 24
  match m.eng with
  | .lane e => decide (e < 256) && decide (m.slot < 2) && (t.lane e).stat == 1 && t.clocked e && t.bankUp (physical (.lane e) 0) &&
      decide ((t.lane e).u.pc < t.fget (f_LE_CODE_LIM_LIM e)) && !t.spoiled (physical (.lane e) (t.lane e).u.pc)
  | .vce v => decide (m.slot < 3) && wideReady t (.vce v) word && !(t.fetch (.vce v) (t.units (.vce v)).pc noise).2
  | .core p => decide (m.slot < 3) && wideReady t (.core p) word && !(t.fetch (.core p) (t.units (.core p)).pc noise).2 &&
      (t.fetch (.core p) (t.units (.core p)).pc noise).1.pairRuns p

/-- The state in which the instruction issues: its bytes have been fetched. -/
def atIssue (s : State) (m : Mv) : State :=
  let t := s.at m.at_
  match m.eng with
  | .lane e => (t.checkRead (physical (.lane e) (t.lane e).u.pc) 4).1
  | g => (t.fetch g (t.units g).pc (m.noise / 2 ^ 24)).1

/-- What issuing an instruction word gives on the engine of a move. -/
def issueOn (t : State) (m : Mv) (word : Nat) : Issued :=
  match m.eng with
  | .lane e => issueWord t (.lane e) word (fun _ => none) false false false
  | .vce v => issueWord t (.vce v) word (vceSrc t v) false false (voided (m.noise / 4096))
  | .core p => issueWord t (.core p) word (coreSrc t p) false (unprivileged (t.ctxOn p)) (voided (m.noise / 4096))

/-- The instruction has issued without a trap, and the engine's own triggers are done. -/
def settled (m : Mv) (r : Issued) : State :=
  match m.eng with
  | .lane e => r.posts.foldl (fun t x => t.laneSys e x.v.toNat)
      ((r.s.putLane e { r.s.lane e with since := (r.s.lane e).since + 1, disp := (r.s.lane e).disp + 1 }).voidStream e (m.noise % 4096))
  | .vce v => r.posts.foldl (fun t x => t.vcePost v m.noise x) r.s
  | .core p => (coreOrder r.posts).foldl (fun t x => t.corePost p m.noise x) r.s

/-- The value of a move that stands alone in its instruction, with no LIMM before it; none where its source does not exist. -/
def soleValue (t : State) (m : Mv) : Option Word :=
  let u := (t.units m.eng).tick
  if m.imm then (if m.src < 2 ^ limmBits m.eng then some (wordOf (signed (limmBits m.eng) m.src)) else none)
  else match m.eng with
  | .lane e => if m.src < 0x30 ∧ srcOk (.lane e) false (toWide m.src) = true then some (u.src (idWord (.lane e)) (toWide m.src)) else none
  | .vce v => if srcOk (.vce v) false m.src then some ((vceSrc t v m.src).getD (u.src (idWord (.vce v)) m.src)) else none
  | .core p => if srcOk (.core p) false m.src then some ((coreSrc t p m.src).getD (u.src (idWord (.core p)) m.src)) else none

/-- The engine has issued: its units are `u`, the program counter moves on, and a lane's stream read that does not arrive whole is void. -/
def passed (t : State) (m : Mv) (u : Units) : State :=
  match m.eng with
  | .lane e => (t.putLane e { t.lane e with u := u.advance (.lane e), since := (t.lane e).since + 1, disp := (t.lane e).disp + 1 }).voidStream e (m.noise % 4096)
  | g => t.putUnits g (u.advance g)

end Sys2Proof.Machine
end

