-- ==== Sys2Proof/Certificates/Slice0/Obligations.lean ====
section
/-!
DEFINITION. Certificates/Slice0/Obligations.lean: the statements for the provers. A statement that a row of the table completes names the state it answers
and, where the row has a choice, the conditions on the state and its operands; `t` is always the state at the command's stamp.
-/
section
open Sys2Proof Sys2Proof.Machine

/-- A step takes the command at the front of the queue: its effect is the command's on the state with the queue's rest. -/
def Obligations.StepTakesTheFront : Prop :=
  ∀ (c : Instr) (rest : List Instr) (s : State), s.pending = c :: rest → step s = exec c { s with pending := rest }

/-- The model's choice (log entry 1): with no command waiting the part idles. -/
def Obligations.EmptyQueueIdles : Prop := ∀ s : State, s.pending = [] → step s = .next s

/-- R438 and the effects of every chapter: no row of the table stops the part; each answers a next state in every state, and so does every step. -/
def Obligations.NothingStops : Prop := (∀ (c : Instr) (s : State), ∃ t, exec c s = .next t) ∧ ∀ s : State, Completes s

/-- A command changes nothing of the queue: what waited behind it still waits, in the same order. -/
def Obligations.CommandsLeaveTheQueue : Prop := ∀ (c : Instr) (s t : State), exec c s = .next t → t.pending = s.pending

/-- The state after reset is in canonical form: registers, memory and the latched halves list nothing that an unlisted entry reads as. -/
def Obligations.ResetIsCanonical : Prop := State.reset.Canonical ∧ State.reset.pending = []

/-- Every step keeps the canonical form of the three stores: equal contents stay equal data, whatever command runs. -/
def Obligations.StepKeepsCanonical : Prop := ∀ s t : State, s.Canonical → step s = .next t → t.Canonical

/-- R32, R35, R418, R542: fuses are one-way. No step of the part unblows a fuse of the life-cycle counter, of the field-return pair, of the tamper
disables or of the repairs. -/
def Obligations.FusesAreOneWay : Prop := ∀ s t : State, step s = .next t → s.FusesKept t

/-- R32, R35: once all four positions of the life-cycle counter are blown, or the field-return pair is, they stay so, and the fuses spell Retired or
Field-return for good; from Field-return there is no way out. -/
def Obligations.FinalLifeCycles : Prop :=
  ∀ s t : State, step s = .next t → (s.life.frPair = (true, true) → fusedLc t.life = 5) ∧
    (at! s.life.fuses 3 (false, false) = (true, true) → fusedLc t.life = 4 ∨ fusedLc t.life = 5)

/-- R6, R7, R9: a write of a register of the map, field by field: RO and WO fields keep their value; RW takes the value written, and RWL too unless its lock bit
is 1; a 1 clears a W1C bit and sets a W1S bit, and a 0 has no effect on either; a reserved bit keeps. -/
def Obligations.WritesFollowAccessCodes : Prop :=
  ∀ (a : Nat) (r : RegRow) (locked : Bool) (old v t : Word), rowAt a = some r → t = writeRow r locked old v →
    (∀ f ∈ r.fields, ∀ i, f.lsb ≤ i → i < f.lsb + f.width → t.getLsbD i = (match f.acc with
      | .ro | .wo => old.getLsbD i
      | .rw => v.getLsbD i
      | .rwl => if locked then old.getLsbD i else v.getLsbD i
      | .w1c => old.getLsbD i && !v.getLsbD i
      | .w1s => old.getLsbD i || v.getLsbD i)) ∧
    (∀ i, (∀ f ∈ r.fields, ¬ (f.lsb ≤ i ∧ i < f.lsb + f.width)) → t.getLsbD i = old.getLsbD i)

/-- R3, R4: what is written is what is read: a register, a field of one, a byte of memory and a little-endian number of n bytes; every register, field beside it
and byte outside keeps its value. -/
def Obligations.ReadAfterWrite : Prop :=
  (∀ (s : State) (a b : Nat) (w : Word), (s.setReg a w).reg b = if b = a then w else s.reg b) ∧
  (∀ (s : State) (f : Fld) (v : Nat), f.lsb + f.width ≤ 32 → (s.fput f v).fget f = v % 2 ^ f.width ∧
    ∀ g : Fld, g.addr ≠ f.addr ∨ g.lsb + g.width ≤ f.lsb ∨ f.lsb + f.width ≤ g.lsb → (s.fput f v).fget g = s.fget g) ∧
  (∀ (s : State) (a n v : Nat), (s.storeN a n v).loadN a n = v % 256 ^ n ∧ ∀ b, b < a ∨ a + n ≤ b → (s.storeN a n v).byte b = s.byte b)

/-- R31, R42, R317, R322, R324: what the registers read after reset: Provisioning and Blank, the custody share of 70 %, the permission words of the programmable
slots and of the memory gates, and every window off. The pending queue and the violation logs are empty. -/
def Obligations.ResetRegisters : Prop :=
  State.reset.pending = [] ∧ State.reset.mode = 0 ∧ State.reset.lc = 0 ∧ State.reset.regN r_CORE_TSHARE = 0x46 ∧
  (∀ g ∈ [0, 4, 5], State.reset.regN (r_TG_PERM g) = 0x1030) ∧
  (∀ g p, (g, p) ∈ [(64, 0x50), (65, 0x50), (66, 0x01000010), (67, 0x10), (68, 0x70), (69, 0x10), (70, 0x11011)] → State.reset.regN (r_TG_PERM g) = p) ∧
  (∀ i < 16, State.reset.isSet (f_TG_WIN_HI_EN i) = false ∧ State.reset.regN (r_TG_PERM (80 + i)) = 0) ∧
  (∀ w < 2, State.reset.fget (f_TG_VSTAT_DEPTH w) = 0)

/-- R457: the service user area is not on the spine: an admitted read of its window answers zero and changes nothing, and a write there changes neither the area nor
any memory or register beyond the notice of a denied one or the bus fault of one that does not arrive whole (R336). -/
def Obligations.UserAreaWindow : Prop :=
  (∀ (s : State) (a : Acc), 0x50142000 ≤ a.addr → a.addr < 0x50143000 → a.addr % 4 = 0 → gateCheck s a = none → ∀ noise,
    s.spineRead a noise = (if damaged s a 0 (noise % 256) = true ∨ damaged s a 0 noise = true then (s.busFault a.addr, 0, true) else (s, 0, false))) ∧
  (∀ (w : Wr) (a : Nat) (s t : State), 0x50142000 ≤ a → a < 0x50143000 → t = s.at w.at_ →
    exec (.registerWrite w a) s = .next t ∨ exec (.registerWrite w a) s = .next (t.busFault a) ∨ ∃ reason, exec (.registerWrite w a) s = .next (t.notice (wrAcc w a) reason))

/-- R290: VAT_CTRL.SPARE_EN may be written only while EN is 0; a write at any other time leaves it. (A locked block keeps it too, R7.) -/
def Obligations.SpareEnable : Prop :=
  ∀ (w : Wr) (v : Nat) (s t u : State), v < 16 → t = s.at w.at_ → admitted t w (r_VAT_CTRL v) = true → exec (.registerWrite w (r_VAT_CTRL v)) s = .next u →
    (t.fget (f_VAT_CTRL_EN v) = 1 → u.fget (f_VAT_CTRL_SPARE_EN v) = t.fget (f_VAT_CTRL_SPARE_EN v)) ∧
    (t.fget (f_VAT_CTRL_EN v) = 0 → t.fget (f_VAT_CTRL_LOCK v) = 0 → u.fget (f_VAT_CTRL_SPARE_EN v) = w.value / 2 % 2) ∧
    u.fget (f_VAT_CTRL_EN v) = w.value % 2

/-- R323: the debug class is denied at every gate outside Blank, Provisioned and Field-return, whatever TG_PERM holds, and at gates 64–79 in every state. -/
def Obligations.DebugClassDenied : Prop :=
  ∀ (s : State) (a : Acc) (g : Nat), gateOf s a.addr = some g → a.cls = 7 → s.lc ∉ [0, 1, 5] ∨ (64 ≤ g ∧ g ≤ 79) →
    gateCheck s a ≠ none ∧ (a.kind = 0 → ∀ noise, ∃ reason, gateCheck s a = some reason ∧ s.spineRead a noise =
      (if a.addr % 4 ≠ 0 then (s, 0, true) else if damaged s a 0 (noise % 256) = true then (s.busFault a.addr, 0, true) else (s.notice a reason, 0, true)))


/-- R326: a data read of an execute-only window by any class returns zero with an error response and raises a violation, whatever TG_PERM grants (one whose transfer does not arrive whole raises a bus fault instead, R336); a fetch by a
class other than debug follows the X bits. -/
def Obligations.ExecuteOnlyWindows : Prop :=
  ∀ (s : State) (a : Acc) (i : Nat), windowOf s a.addr = some i → gateOf s a.addr = some (80 + i) → s.isSet (f_TG_WIN_LO_XO i) = true → a.addr % 4 = 0 →
    (a.kind = 0 → ∀ noise, s.spineRead a noise = (if damaged s a 0 (noise % 256) = true then (s.busFault a.addr, 0, true) else (s.notice a 3, 0, true))) ∧
    (a.kind = 2 → a.cls < 7 → isolated s a.addr = false → (gateCheck s a = none ↔ permBit s (80 + i) a.cls 2 = true))

/-- R322, R327: at a programmable gate outside a self-test's isolation the permission word decides: class k may read, write or fetch as bits 4k, 4k + 1 and
4k + 2 say. -/
def Obligations.PermissionWordDecides : Prop :=
  ∀ (s : State) (a : Acc) (g : Nat), gateOf s a.addr = some g → g ∈ [0, 4, 5, 65, 68] → a.cls < 7 → a.kind < 3 → isolated s a.addr = false →
    (gateCheck s a = none ↔ (s.reg (r_TG_PERM g)).getLsbD (4 * a.cls + a.kind) = true)

/-- R329, R330: a notice equal in gate, class, engine, kind and address to the newest entry of the log increments its REPEAT up to 255; another takes the next
entry, or, when eight are held, overwrites entry 7 and counts in LOST. The other entries stay. -/
def Obligations.NoticeLog : Prop :=
  ∀ (s t : State) (w info addr d : Nat), w < 2 → info < 2 ^ 32 → addr < 2 ^ 32 → s.now < 2 ^ 64 → info % 2 ^ 8 = 0 → d = s.fget (f_TG_VSTAT_DEPTH w) → d ≤ 8 →
    t = s.noticeIn w info addr →
    (0 < d → s.regN (r_TG_VLOG_ADDR w (d - 1)) = addr → s.regN (r_TG_VLOG_INFO w (d - 1)) / 2 ^ 11 = info / 2 ^ 11 →
      t = s.fput (f_TG_VLOG_INFO_REPEAT w (d - 1)) (min 255 (s.fget (f_TG_VLOG_INFO_REPEAT w (d - 1)) + 1))) ∧
    (d = 0 ∨ s.regN (r_TG_VLOG_ADDR w (d - 1)) ≠ addr ∨ s.regN (r_TG_VLOG_INFO w (d - 1)) / 2 ^ 11 ≠ info / 2 ^ 11 →
      (let j := min d 7
       t.regN (r_TG_VLOG_ADDR w j) = addr ∧ t.regN (r_TG_VLOG_INFO w j) = info ∧ t.get64 (r_TG_VLOG_STAMP_LO w j) (r_TG_VLOG_STAMP_HI w j) = s.now ∧
       t.fget (f_TG_VSTAT_DEPTH w) = min 8 (d + 1) ∧
       t.fget (f_TG_VSTAT_LOST w) = (if d = 8 then min 65535 (s.fget (f_TG_VSTAT_LOST w) + 1) else s.fget (f_TG_VSTAT_LOST w)) ∧
       ∀ i < 8, i ≠ j → t.reg (r_TG_VLOG_ADDR w i) = s.reg (r_TG_VLOG_ADDR w i) ∧ t.reg (r_TG_VLOG_INFO w i) = s.reg (r_TG_VLOG_INFO w i) ∧
         t.reg (r_TG_VLOG_STAMP_LO w i) = s.reg (r_TG_VLOG_STAMP_LO w i) ∧ t.reg (r_TG_VLOG_STAMP_HI w i) = s.reg (r_TG_VLOG_STAMP_HI w i)))

/-- R328, R329: a notice writes nothing but the violation log: every other part of the state, and every register of another block, is as before. -/
def Obligations.NoticeFrame : Prop :=
  ∀ (s t : State) (a : Acc) (reason : Nat), t = s.notice a reason →
    { t with regs := s.regs } = s ∧ ∀ r, ¬ (0x40030000 ≤ r ∧ r < 0x40040000) → t.reg r = s.reg r

/-- R437, R438: a command of the tables that fails a check of its path, the service port's set, the recovery monitor, its lock or its world is answered with
the first failing check's status and changes nothing but what the reply itself writes; one that fails at its life-cycle state or mode alone is answered
E_LIFECYCLE or E_MODE. While the logic die is dead only the service port answers. -/
def Obligations.RefusedCommandsReplyOnly : Prop :=
  ∀ (c : Instr) (r : Req) (op : Nat) (s t : State), cmdOf c = some (r, op) → t = s.at r.at_ →
    (t.alive = false → r.path ≠ 4 → exec c s = .next t) ∧
    (t.alive = true ∨ r.path = 4 →
      (∀ e, firstOf [pathCheck t r op, svcCheck t r op, recoveryCheck t op, lockCheck t r, worldCheck r op] = some e → exec c s = .next (t.refuse r op e)) ∧
      (firstOf [pathCheck t r op, svcCheck t r op, recoveryCheck t op, lockCheck t r, worldCheck r op] = none → modeCheck t op = some E_MODE →
        exec c s = .next (t.reply r op E_LIFECYCLE []) ∨ exec c s = .next (t.reply r op E_MODE [])))

/-- What a final reply writes (R426, R433–R435, R455): the queue of packets, the requester's account of outstanding commands, the service port and
registers; nothing else of the part changes, and of the registers only CMD_REFUSED, SVC_STATUS and SVC_LASTWR. The reply to a session's last SEQ then closes
the session; every other reply ends so. -/
def Obligations.ReplyFrame : Prop :=
  ∀ (s t : State) (r : Req) (op status : Nat) (body : List Byte), t = s.answer r op status body →
    s.reply r op status body = (if r.slot < 8 ∧ r.seq = 0xFFFFFFFF then t.closeSession r.slot true else t) ∧
    { t with regs := s.regs, cmd := s.cmd, svc := s.svc } = s ∧
    (∀ a, a ≠ f_CMD_REFUSED_VALUE.addr → a ≠ f_SVC_STATUS_BUSY.addr → a ≠ f_SVC_LASTWR_VALID.addr → t.reg a = s.reg a) ∧
    (status = OK → t.fget f_CMD_REFUSED_VALUE = s.fget f_CMD_REFUSED_VALUE) ∧
    (status ≠ OK → t.fget f_CMD_REFUSED_VALUE = satU f_CMD_REFUSED_VALUE.width (s.fget f_CMD_REFUSED_VALUE + 1)) ∧
    (r.path ≠ 4 → t.svc = s.svc ∧ (t.cmd.tx = s.cmd.tx ∨
      ∃ w, t.cmd.tx = s.cmd.tx ++ [⟨r.path, r.slot, op, r.seq, r.world, status, false, false, 0, replyTlvs op status body, w⟩]))

/-- R328, R336: a posted write that does not arrive whole has no effect but the bus fault it raises; one that a gate denies has no effect at its target, and an
imprecise notice is issued, which is all that changes; a write admitted to a target out of reach (a domain held in reset, or the Cellar die while its link has no
session: the model's choice, log entry 45) changes nothing, and neither does one to a dead part. -/
def Obligations.DeniedWritesNotifyOnly : Prop :=
  ∀ (c : Instr) (w : Wr) (a : Nat) (s t : State), writeOf c = some (w, a) → t = s.at w.at_ →
    (t.alive = false → exec c s = .next t) ∧
    (t.alive = true → damaged t (wrAcc w a) w.value w.noise = true → exec c s = .next (t.busFault a)) ∧
    (t.alive = true → damaged t (wrAcc w a) w.value w.noise = false → ∀ reason, gateCheck t (wrAcc w a) = some reason →
      exec c s = .next (t.notice (wrAcc w a) reason)) ∧
    (t.alive = true → damaged t (wrAcc w a) w.value w.noise = false → gateCheck t (wrAcc w a) = none → outOfReach t a = true → exec c s = .next t)

/-- R244: in real mode MAC.MUL and MAC.ACC form the exact product of V and B as signed 32-bit integers; ACC is a signed accumulator of 72 bits, MAC.ACC adds modulo 2^72,
and OV is set when an addition leaves the range of s72 and stays until the next MUL. The rounding function is floor((a + 2^(s−1)) / 2^s), and a for s = 0. -/
def Obligations.RealMacIsExact : Prop :=
  (∀ (base : Nat × Bool) (v b : Word) (r : Nat × Bool), r = macReal base false v b → r.1 < 2 ^ 72 ∧ signed 72 r.1 = v.toInt * b.toInt ∧ r.2 = false) ∧
  (∀ (base : Nat × Bool) (v b : Word) (r : Nat × Bool), r = macReal base true v b → r.1 < 2 ^ 72 ∧
    (r.1 : Int) = ((base.1 : Int) + v.toInt * b.toInt) % 2 ^ 72 ∧
    (r.2 = true ↔ base.2 = true ∨ signed 72 base.1 + v.toInt * b.toInt < -2 ^ 71 ∨ 2 ^ 71 ≤ signed 72 base.1 + v.toInt * b.toInt)) ∧
  (∀ (a : Int) (s : Nat), rnd a s = if s = 0 then a else (a + 2 ^ (s - 1)) / 2 ^ s)

/-- R245: in complex mode V and B are packed complex values, real part low; ACC.RE takes V.re × B.re − V.im × B.im and ACC.IM takes V.re × B.im + V.im × B.re exactly;
MAC.CACC adds each half modulo 2^36, and OV is set when a half leaves s36. MAC.LO, MAC.MID and MAC.HI return the raw bits in both modes. -/
def Obligations.ComplexMacIsExact : Prop :=
  (∀ (base : Nat × Bool) (v b : Word) (r : Nat × Bool) (re im : Int),
    re = (v.setWidth 16).toInt * (b.setWidth 16).toInt - (v.extractLsb' 16 16).toInt * (b.extractLsb' 16 16).toInt →
    im = (v.setWidth 16).toInt * (b.extractLsb' 16 16).toInt + (v.extractLsb' 16 16).toInt * (b.setWidth 16).toInt →
    (r = macComplex base false v b → signed 36 r.1 = re ∧ signed 36 (r.1 / 2 ^ 36) = im ∧ r.1 < 2 ^ 72 ∧ r.2 = false) ∧
    (r = macComplex base true v b → ((r.1 % 2 ^ 36 : Nat) : Int) = ((base.1 % 2 ^ 36 : Nat) + re) % 2 ^ 36 ∧ r.1 < 2 ^ 72 ∧
      ((r.1 / 2 ^ 36 : Nat) : Int) = ((base.1 / 2 ^ 36 % 2 ^ 36 : Nat) + im) % 2 ^ 36 ∧
      (r.2 = true ↔ base.2 = true ∨ satS 36 (signed 36 base.1 + re) ≠ signed 36 base.1 + re ∨
        satS 36 (signed 36 (base.1 / 2 ^ 36) + im) ≠ signed 36 (base.1 / 2 ^ 36) + im))) ∧
  (∀ (u : Units) (id : Word), u.acc < 2 ^ 72 → (u.src id 0x42).toNat = u.acc % 2 ^ 32 ∧ (u.src id 0x43).toNat = u.acc / 2 ^ 32 % 2 ^ 32 ∧
    (u.src id 0x44).toNat % 2 ^ 8 = u.acc / 2 ^ 64)

/-- R260: a BR that takes effect in the instruction at b issues b + 4 and b + 8 as delay slots and then the instruction at V; BR.LINK takes b + 12, visible from the first
delay slot. A misaligned target or one of 0x4000 or above traps with BR_TARGET, and a BR in a delay slot with BR_DELAY; a guarded BR with G at 0 leaves both alone. -/
def Obligations.LaneBranches : Prop :=
  ∀ (m : Mv) (s t : State) (u : Units) (v : Word) (e : Nat), moveIssues s m (Mv.wordTo m 0x5C) = true → m.word = 0 → m.eng = .lane e → t = atIssue s m → u = (t.lane e).u.tick → u.preN = 0 →
    u.pc + 16 < 2 ^ 32 → soleValue t m = some v →
    (m.ge = false ∨ u.g = true → v.toNat % 4 = 0 → v.toNat < 0x4000 → u.dslot = 0 →
      ∃ (w : State) (x : Units), exec (.br m) s = .next w ∧ x = (w.lane e).u ∧ x.pc = u.pc + 4 ∧ x.dslot = 2 ∧ (x.advance (.lane e)).pc = u.pc + 8 ∧
        ((x.advance (.lane e)).advance (.lane e)).pc = v.toNat ∧ ((x.advance (.lane e)).advance (.lane e)).dslot = 0 ∧
        x.tick.link = BitVec.ofNat 32 (u.pc + 12)) ∧
    (m.ge = false ∨ u.g = true → v.toNat % 4 ≠ 0 ∨ 0x4000 ≤ v.toNat → ∃ w, exec (.br m) s = .next w ∧ (w.lane e).stat = 4 ∧ w.fget (f_LE_TRAP_CAUSE_CAUSE e) = 0x0A) ∧
    (m.ge = false ∨ u.g = true → v.toNat % 4 = 0 → v.toNat < 0x4000 → 0 < u.dslot →
      ∃ w, exec (.br m) s = .next w ∧ (w.lane e).stat = 4 ∧ w.fget (f_LE_TRAP_CAUSE_CAUSE e) = 0x0B) ∧
    (m.ge = true → u.g = false → exec (.br m) s = .next (passed t m u))

/-- R94: on capture of a frame the stamp is expanded from N, the stamp at which its EOF was received: E = N − ((N[31:0] − CSTAMP) mod 2^32), the latest stamp not later than N
whose bits [31:0] equal CSTAMP. -/
def Obligations.ExpandedStamp : Prop :=
  (∀ n c : Nat, c < 2 ^ 32 →
    (∀ e, expand n c = some e → (e : Int) = n - ((n : Int) % 2 ^ 32 - c) % 2 ^ 32 ∧ e ≤ n ∧ e % 2 ^ 32 = c ∧ ∀ e' ≤ n, e' % 2 ^ 32 = c → e' ≤ e) ∧
    (expand n c = none → ∀ e' ≤ n, e' % 2 ^ 32 ≠ c)) ∧
  (∀ (s : State) (r n status c seq k : Nat), bit status 0 = false → frameInstant s r n status c seq = some (k, false) → ∃ e, expand s.now c = some e ∧ stampOf k = e)

/-- R71: the check values of the two CRCs over the ASCII string "123456789". -/
def Obligations.CrcCheckValues : Prop :=
  crc32c [0x31, 0x32, 0x33, 0x34, 0x35, 0x36, 0x37, 0x38, 0x39] = 0xE3069283 ∧ crc8 [0x31, 0x32, 0x33, 0x34, 0x35, 0x36, 0x37, 0x38, 0x39] = 0xF4

/-- R512: a new fault whose class is in service is queued one severity higher, at most 3, with ESCALATED set; otherwise a queued record that is not in service and
matches in class, UNIT and severity counts it; otherwise it is queued as a new record. R513: the queue holds 32 records, and one that finds it full replaces the
newest, unless that is in service or of higher severity; either way FLT_LOST counts one. -/
def Obligations.FaultQueue : Prop :=
  ∀ (s t : State) (cls sev unit detail rflags : Nat), t = s.takeFault cls sev unit detail rflags → cls < 16 → rflags % 2 = 0 → s.flt.queue.length ≤ 32 →
    (∀ r, s.flt.queue.find? (fun x => x.cls == cls && bit x.rflags 5) = some r → s.flt.queue.length < 32 →
      t.flt.queue = s.flt.queue ++ [⟨s.now, cls, min 3 (r.sev + 1), rflags + 1, unit, 0xFFFF, detail, 0⟩]) ∧
    (∀ r, s.flt.queue.find? (fun x => x.cls == cls && bit x.rflags 5) = some r → ∀ q l, s.flt.queue = q ++ [l] → s.flt.queue.length = 32 →
      t.flt.queue = (if bit l.rflags 5 = true ∨ min 3 (r.sev + 1) < l.sev then q ++ [l]
        else q ++ [⟨s.now, cls, min 3 (r.sev + 1), rflags + 1, unit, 0xFFFF, detail, 0⟩]) ∧
      t.fget f_FLT_LOST_COUNT = satU f_FLT_LOST_COUNT.width (s.fget f_FLT_LOST_COUNT + 1)) ∧
    ((∀ x ∈ s.flt.queue, x.cls = cls → bit x.rflags 5 = false) →
      ((∃ x ∈ s.flt.queue, x.cls = cls ∧ x.unit = unit ∧ x.sev = sev) →
        t.flt.queue = s.flt.queue.map (fun x => if x.cls = cls ∧ x.unit = unit ∧ x.sev = sev then { x with count := satU 16 (x.count + 1) } else x)) ∧
      ((∀ x ∈ s.flt.queue, ¬ (x.cls = cls ∧ x.unit = unit ∧ x.sev = sev)) →
        (s.flt.queue.length < 32 → t.flt.queue = s.flt.queue ++ [⟨s.now, cls, sev, rflags, unit, 0xFFFF, detail, 0⟩]) ∧
        (∀ q l, s.flt.queue = q ++ [l] → s.flt.queue.length = 32 →
          t.flt.queue = (if bit l.rflags 5 = true ∨ sev < l.sev then q ++ [l] else q ++ [⟨s.now, cls, sev, rflags, unit, 0xFFFF, detail, 0⟩]) ∧
          t.fget f_FLT_LOST_COUNT = satU f_FLT_LOST_COUNT.width (s.fget f_FLT_LOST_COUNT + 1))))

/-- R511: the presented record is the queued record of highest severity, and among records of equal severity the oldest. -/
def Obligations.PresentedRecord : Prop :=
  ∀ (q : List FaultRec) (r : FaultRec), presented q = some r ↔
    ∃ l m, q = l ++ r :: m ∧ (∀ x ∈ l, x.sev < r.sev) ∧ ∀ x ∈ m, x.sev ≤ r.sev

/-- R11, R27: a command parameter holding a locus is rejected with E_PARAM_RANGE, and nothing else happens, when its reserved bits are not zero, NODE or CELL is 16–30, only
one of the two is 31, both are 31 off RING 7, ASSEMBLY is 0xFFFF or DEVICE is 65–127. A pack locus is RING 7, NODE 31 and CELL 31 exactly. R10: the part emits none with a
reserved bit. -/
def Obligations.LocusParameters : Prop :=
  (∀ (c : Instr) (r : Req) (op l : Nat) (s t : State), t = s.at r.at_ → passes t r op = true →
    (∃ a b, (c, op) ∈ [(Instr.estimRead r l a b, 0x0649), (.cellReadState r (some l), 0x064A), (.cellSetState r l a, 0x064B), (.shutterSetBleed r l a b, 0x0606),
      (.spectroReadImpedance r l a b, 0x0403), (.spectroReadFit r l, 0x0404), (.spectroReadTemperature r l, 0x0405), (.spectroSetNodeChemistry r l a, 0x0409),
      (.spectroResetAverages r (some l) a b, 0x040A)]) →
    l % 2 ^ 20 ≠ 0 ∨ (16 ≤ l / 2 ^ 33 % 32 ∧ l / 2 ^ 33 % 32 ≤ 30) ∨ (16 ≤ l / 2 ^ 28 % 32 ∧ l / 2 ^ 28 % 32 ≤ 30) ∨
      (l / 2 ^ 33 % 32 = 31 ∧ l / 2 ^ 28 % 32 ≠ 31) ∨ (l / 2 ^ 28 % 32 = 31 ∧ l / 2 ^ 33 % 32 ≠ 31) ∨
      (l / 2 ^ 33 % 32 = 31 ∧ l / 2 ^ 28 % 32 = 31 ∧ l / 2 ^ 38 % 8 ≠ 7) ∨ l / 2 ^ 48 % 2 ^ 16 = 0xFFFF ∨ (65 ≤ l / 2 ^ 41 % 128) →
    exec c s = .next (t.refuse r op (blame E_PARAM_RANGE 1))) ∧
  (∀ l, locusOk l = true → (locusNode l = 31 ∨ locusCell l = 31) → locusRing l = 7 ∧ locusNode l = 31 ∧ locusCell l = 31) ∧
  (∀ (s : State) (ring node cell chan : Nat), s.locus ring node cell chan % 2 ^ 20 = 0)

/-- R460: UNLOCK counts the attempt before it compares the password: a correct one sets the count back to 0, a wrong one leaves it counted, and at a count of 8 the port
is locked out, where every function but RESYNCH, STATUS and FORCED_ERASE is refused with E_LOCKED and nothing more is counted. -/
def Obligations.UnlockAttempts : Prop :=
  ∀ (at_ : Nat) (inf : List Byte) (s t : State), t = s.svcAt at_ → t.svc.atr = true → t.svc.failures < 3 → inf.length = 8 →
    (svcLockedOut t = false → t.svc.password = some (leNat inf) →
      ∃ u, exec (.unlock at_ inf) s = .next u ∧ u.svc.attempts = 0 ∧ u.svc.unlocked = true ∧ u.svc.lockout = t.svc.lockout) ∧
    (svcLockedOut t = false → t.svc.password ≠ some (leNat inf) → t.svc.attempts < 8 →
      ∃ u, exec (.unlock at_ inf) s = .next u ∧ u.svc.attempts = t.svc.attempts + 1 ∧ u.svc.unlocked = t.svc.unlocked ∧
        (u.svc.lockout = true ↔ t.svc.attempts = 7) ∧ u.svc.last = svcBlock 228 (leBytes 2 E_LOCKED ++ leBytes 1 (7 - t.svc.attempts) ++ [0#8])) ∧
    (svcLockedOut t = true → exec (.unlock at_ inf) s = .next (t.svcAnswer 4 (statusInf E_LOCKED 2)) ∧
      (∀ i : Byte, i.toNat < 64 → exec (.areaRead at_ [i]) s = .next (t.svcAnswer 6 (statusInf E_LOCKED 66))) ∧
      exec (.poll at_ []) s = .next (t.svcAnswer 2 (statusInf E_LOCKED 0)))

/-- R365, R368–R381, R446: each command of the Cellar record completes with the record's own operation. A staged entry (CEL_WBUF: its stamp, type and
payload) is offered when CEL_WCMD is written with GO, and a refusal shows at once; a commit moves the oldest queued entry into its slot and lets a
transition that waits for it go on; the loss of both supplies ends the logic die's run and clears what R376 lists. -/
def Obligations.CellarRecordCompletes : Prop :=
  (∀ (at_ : Nat) (s t : State), t = s.at at_ →
    exec (.cellarEntryCommit at_) s = .next t.celCommit.continueTransition ∧
    (∀ i, t.cel.incident = some i → exec (.incidentTimeout at_) s = .next
      (if 32768 ≤ (t.backupCount + 2 ^ 48 - i.lastCount) % 2 ^ 48 then t.closeIncident else t)) ∧
    (∀ mv, exec (.vresThreshold at_ mv) s = .next (State.fput { t with cel := keep t.cel mv } f_CEL_VRES_MV (clamp 0 5500 mv))) ∧
    (∃ u v, v = t.powerDown none ∧ exec (.backupPowerLoss at_) s = .next u ∧ u.cel.record = v.cel.record ∧ u.cel.queue = v.cel.queue ∧ u.cel.bcount = 0 ∧
      u.cel.bre = 0 ∧ u.cel.qlatch = false ∧ u.cel.headKept = false ∧ u.cel.main = false ∧ u.cel.vbak = false ∧ u.pwr.pwrEn = false ∧ u.mem = v.mem) ∧
    (∃ u, exec (.cellarDieReset at_) s = .next u ∧ u.cel = t.cellarStart.cel ∧ u.mem = t.mem ∧ u.fget f_TG_STATUS_D2D_UP = 0 ∧ u.svc = t.svc)) ∧
  (∀ (w : Wr) (s t : State), t = s.at w.at_ →
    (admitted t w r_CEL_CTRL = true → ∀ t1, t1 = (if bit w.value 1 then (countersOf r_CEL_CTRL).foldl (fun u a => u.setRegN a 0) t else t) →
      exec (.incClose w) s = .next (if bit w.value 0 then t1.closeIncident else t1)) ∧
    (admitted t w r_CEL_WCMD = true → bit w.value 31 = true → ∀ t1 buf t2 st,
      t1 = (t.fput f_CEL_WCMD_CONT (flag (bit w.value 1))).fput f_CEL_WCMD_INC (flag (bit w.value 0)) →
      buf = (List.range 16).flatMap (fun i => w4 t1 (r_CEL_WBUF i)) →
      t1.celAccept ⟨leNat (buf.take 8), (at! buf 12 0).toNat, flag (bit w.value 1) * 2, bit w.value 0, (buf.drop 16).take 44⟩ = (t2, st) →
      exec (.cellarEntryQueue w) s = .next (t2.fputs [(f_CEL_WRESULT_VALID, flag (st != OK)), (f_CEL_WRESULT_STATUS, st)])) ∧
    (admitted t w r_CEL_WCMD = true → bit w.value 31 = false →
      exec (.cellarEntryQueue w) s = .next ((t.fput f_CEL_WCMD_CONT (flag (bit w.value 1))).fput f_CEL_WCMD_INC (flag (bit w.value 0))))) ∧
  (∀ (r : Req) (s t : State), t = s.at r.at_ →
    (passes t r 0x0C04 = true → exec (.cellarCloseIncident r) s = .next (t.closeIncident.reply r 0x0C04 OK [])) ∧
    (passes t r 0x0C01 = true → exec (.cellarReadSummary r) s = .next (t.reply r 0x0C01 OK (cellarSummary t))) ∧
    (∀ first count e, passes t r 0x0C02 = true → 1 ≤ count → count ≤ 960 → newestEntry t.cel = some e → first ≤ e.eno →
      exec (.cellarReadEntries r first count) s = .next (t.reply r 0x0C02 OK
        (((heldEntries t.cel).filter (fun x => decide (first ≤ x.eno ∧ x.eno < first + count))).flatMap CelEntry.bytes))) ∧
    (∀ first last, passes t r 0x0C03 = true → first ≤ last → last - first < 64 → (mirrorSeals t.cel first last).length = last + 1 - first →
      exec (.cellarReadSeals r first last) s = .next (t.reply r 0x0C03 OK ((mirrorSeals t.cel first last).flatMap (·.2)))))

/-- R386–R390: an operation of the key store that a write of KS_CMD starts while none runs: whatever its check answers. With the check failed it holds the
check's status and changes nothing else; with it passed its effect on the slots stands at once. KS_OPERATION_DONE reports the status held; with no operation
held it commits an anchored epoch that a command raised, or takes the next step of a re-establishment. A store that is busy takes no other operation. -/
def Obligations.KeyStoreOperationsComplete : Prop :=
  (∀ (w : Wr) (s t : State) (st : Nat), t = s.at w.at_ → admitted t w r_KS_CMD = true → t.isSet f_KS_CMD_GO = false →
    (st = slotRefusal t (clsWorld w.cls) t.argSlot → ∀ u, u = ksStarted t 5 st →
      exec (.ksClear w) s = .next (if st = OK then (u.emptySlotAt u.argSlot).settleKeys u else u)) ∧
    (st = loadKeyRefusal t false (clsWorld w.cls) (t.fget f_KS_ARG_TARGET) t.argSlot → ∀ u, u = ksStarted t 2 st →
      exec (.ksLoad w) s = .next (if st = OK then (u.loadKey (u.fget f_KS_ARG_TARGET) u.argSlot).settleKeys u else u)) ∧
    (st = (if slotRefusal t (clsWorld w.cls) t.argSlot = OK then slotStatus t t.argSlot else slotRefusal t (clsWorld w.cls) t.argSlot) → ∀ u, u = ksStarted t 7 st →
      exec (.ksExport w) s = .next (if st = OK then (u.placeBlob u.argSlot).settleKeys u else u)) ∧
    (st = (if slotRefusal t (clsWorld w.cls) t.argSlot ≠ OK then slotRefusal t (clsWorld w.cls) t.argSlot
           else if 12 ≤ t.argSlot ∧ slotStatus t t.argSlot ≠ OK then slotStatus t t.argSlot
           else if t.slotEpoch t.argSlot = 0xFFFFFFFF then E_PARAM_RANGE else OK) → ∀ u, u = ksStarted t 4 st →
      exec (.ksEpoch w) s = .next
        (if st = OK then (if 4 ≤ u.argSlot ∧ u.argSlot ≤ 11 then u else u.raiseEpoch u.argSlot).settleKeys u else u)) ∧
    (st = (if t.isSet f_CUL_STATUS_NOSEED then E_BUSY
           else loadRefusal t false (clsWorld w.cls) t.argSlot (t.fget f_KS_ARG_PARENT) (t.fget f_KS_ARG_USAGE) (t.fget f_KS_ARG_LEN)) →
      ∀ u len usage alg, u = ksStarted t 6 st → len = u.fget f_KS_ARG_LEN → usage = u.fget f_KS_ARG_USAGE → alg = algOf (u.fget f_KS_ARG_ALG) usage →
        exec (.ksGen w) s = .next (if st = OK then
          ((u.predicted.loadSlot u.argSlot (clsWorld w.cls) (u.fget f_KS_ARG_PARENT) usage alg len (drawnKey u alg len)).placeBlob u.argSlot).settleKeys u else u)) ∧
    (st = loadRefusal t false (clsWorld w.cls) t.argSlot (t.fget f_KS_ARG_PARENT) (t.fget f_KS_ARG_USAGE) (t.fget f_KS_ARG_LEN) → s.keys.op = none →
      ∀ u len usage key, u = ksStarted t 1 st → len = u.fget f_KS_ARG_LEN → usage = u.fget f_KS_ARG_USAGE →
        key = BitVec.ofNat 512 (leNat ((at! u.keys.staging (clsWorld w.cls - 1) (zeros 64, never)).1.take len)) →
        exec (.ksWrite w) s = .next (State.wipeStaging (if st = OK then
          ((u.loadSlot u.argSlot (clsWorld w.cls) (u.fget f_KS_ARG_PARENT) usage (algOf (u.fget f_KS_ARG_ALG) usage) len key).placeBlob u.argSlot).settleKeys u
          else u) (clsWorld w.cls))) ∧
    (st = importStatus t (clsWorld w.cls) → ∀ u, u = ksStarted t 3 st →
      exec (.ksImport w) s = .next (if st = OK then (u.importBlob (clsWorld w.cls)).settleKeys u else u))) ∧
  (∀ (w : Wr) (s t : State), t = s.at w.at_ → admitted t w r_KS_CMD = true → t.isSet f_KS_CMD_GO = true → s.keys.op ≠ none →
    ∀ c ∈ [Instr.ksClear w, .ksLoad w, .ksExport w, .ksEpoch w, .ksGen w, .ksWrite w, .ksImport w], exec c s = .next t) ∧
  (∀ (w : Wr) (s t : State) (offset world : Nat) (bs : List Byte), t = s.at w.at_ → admitted t w (0x70000000 + offset) = true → offset + 4 ≤ 64 →
    world = clsWorld w.cls → world ≠ 0 → bs = (at! t.keys.staging (world - 1) (zeros 64, never)).1 →
    exec (.keyPortWrite w offset) s = .next { t with keys := { t.keys with
      staging := setAt t.keys.staging (world - 1) (bs.take offset ++ leBytes 4 w.value ++ bs.drop (offset + 4), t.now) } }) ∧
  (∀ (at_ world : Nat) (s t : State), t = s.at at_ →
    exec (.stagingTimeout at_ world) s = .next
      (if (at! t.keys.staging (world - 1) (zeros 64, never)).2 + ticksPerMs ≤ t.now then t.wipeStaging world else t)) ∧
  (∀ (at_ : Nat) (s t : State), t = s.at at_ →
    (∀ op arg st u, t.keys.op = some (op, arg, st) →
      u = (if op = 4 ∧ st = OK ∧ 4 ≤ arg % 64 ∧ arg % 64 ≤ 11 then (t.raiseEpoch (arg % 64)).settleKeys t else t) →
      exec (.ksOperationDone at_) s = .next (((State.fputs { u with keys := { u.keys with op := none } }
        [(f_KS_CMD_GO, 0), (f_KS_RESULT_VALID, 1), (f_KS_RESULT_STATUS, st)])).raise f_KS_IRQ_DONE)) ∧
    (∀ slot r rest, t.keys.op = none → t.keys.raising = (slot, r) :: rest →
      exec (.ksOperationDone at_) s = .next
        (((State.raiseEpoch { t with keys := { t.keys with raising := rest } } slot).settleKeys t).reply r 0x0806 OK [])) ∧
    (t.keys.op = none → t.keys.raising = [] → exec (.ksOperationDone at_) s = .next (if t.keys.reestStep = 0 then t else t.rootStep)))

/-- R396, R397, R403–R405, R408: the cipher blocks and Culture. A claim of a free SHA-2 or public-key block by the writer's own world clears the block, and so
does giving it up; no other claim changes anything. GO starts the function of a block that is not BUSY and holds what it will report; the output and the result
appear when it ends. A failed entropy source is counted and leaves the conditioner; a starter that is due takes its seed; one that serves answers a read with a
free value, one that refuses with 0. -/
def Obligations.CipherAndCultureComplete : Prop :=
  (∀ (w : Wr) (s t : State) (blk v : Nat), t = s.at w.at_ → v = w.value % 4 →
    (admitted t w (r_CB_CLAIM blk) = true → exec (.cipherClaim w blk) s = .next
      (if (blk = 2 ∨ blk = 3) ∧ t.claim blk = 0 ∧ v = clsWorld w.cls ∧ v ≠ 0 then (t.clearBlock blk).fput (f_CB_CLAIM_WORLD blk) v
       else if (blk = 2 ∨ blk = 3) ∧ t.claim blk = clsWorld w.cls ∧ v = 0 then (t.clearBlock blk).fput (f_CB_CLAIM_WORLD blk) 0
       else t)) ∧
    (admitted t w (r_CB_CMD blk) = true → blk ≤ 4 → t.isSet (f_CB_CMD_BUSY blk) = true → exec (.cipherOperation w blk) s = .next t) ∧
    (admitted t w (r_CB_CMD blk) = true → blk ≤ 4 → t.isSet (f_CB_CMD_BUSY blk) = false → ∀ t1 func st, func = w.value % 256 → t1 = t.fput (f_CB_CMD_FUNC blk) func →
      st = cipherStatus t1 blk func →
      (bit w.value 31 = false → exec (.cipherOperation w blk) s = .next t1) ∧
      (bit w.value 31 = true → st ≠ OK →
        exec (.cipherOperation w blk) s = .next ((t1.drawn.setCipher blk { t1.cipher blk with busy := some (func, st, []) }).fput (f_CB_CMD_BUSY blk) 1)) ∧
      (bit w.value 31 = true → st = OK → ∀ t2 text aad input c iv verdict,
        t1.dmaRead (t1.regN (r_CB_SRC blk)) (t1.regN (r_CB_AAD blk) + t1.regN (r_CB_LEN blk)) = (t2, text) →
        aad = text.take (t2.regN (r_CB_AAD blk)) → input = text.drop (t2.regN (r_CB_AAD blk)) → c = t2.cipher blk → iv = t2.getBytes (r_CB_IV blk 0) 16 →
        verdict = (if ((blk = 3 ∧ (func = 2 ∨ func = 4 ∨ func = 8)) ∨ (blk = 4 ∧ func = 2)) ∧ Config.cipherAccepts blk func c.key iv aad input = false
                   then E_VERIFY else OK) →
        exec (.cipherOperation w blk) s = .next ((t2.drawn.setCipher blk
          { c with busy := some (func, verdict, if verdict = OK then Config.cipher blk func c.key iv aad input t2.fresh else []),
                   gcmCount := if blk ≤ 1 ∧ func = 4 then c.gcmCount + 1 else c.gcmCount,
                   gcmIv := if blk = 4 ∧ func = 1 then some (t2.regN (r_CB_IV blk 0), t2.get64 (r_CB_IV blk 1) (r_CB_IV blk 2)) else c.gcmIv }).fput
          (f_CB_CMD_BUSY blk) 1)))) ∧
  (∀ (at_ : Nat) (s t : State), t = s.at at_ →
    (∀ blk, exec (.cipherClaimLapse at_ blk) s = .next
      (if (blk = 2 ∨ blk = 3) ∧ (t.cipher blk).busy = none ∧ (t.cipher blk).lastEnd + 10 * ticksPerMs ≤ t.now then
        (t.clearBlock blk).fput (f_CB_CLAIM_WORLD blk) 0 else t)) ∧
    (∀ blk, (t.cipher blk).busy = none → exec (.cipherOperationDone at_ blk) s = .next t) ∧
    (∀ blk func st out t2, (t.cipher blk).busy = some (func, st, out) → t2 = t.setCipher blk { t.cipher blk with busy := none, lastEnd := t.now } →
      exec (.cipherOperationDone at_ blk) s = .next ((((t2.dmaWrite (t2.regN (r_CB_DST blk)) out).fput (f_CB_CMD_BUSY blk) 0).setRegN (r_CB_RESULT blk)
        (2 ^ 31 + st)).orReg (r_CB_IRQ blk) 1)) ∧
    (∀ src apt, exec (.entropySourceFail at_ src apt) s = .next (if 3 ≤ src ∨ (s.source src).excluded = true then t else t.sourceFail src apt)) ∧
    (∀ n u, u = (t.setStarter n ⟨0, t.now⟩).drawn → exec (.starterReseed at_ n) s = .next
      (if n < 24 ∧ t.isSet f_CUL_STATUS_NOSEED = false ∧ reseedDue t n = true then
        (if u.keys.starters.any (fun x => decide (2 ^ 20 ≤ x.requests)) then u else u.fput f_CUL_STATUS_STALL 0) else t)) ∧
    (∀ cls eng reg noise a i, a = ⟨0, cls, eng, 0, if reg.vat then r_CUL_VRNG reg.n else r_CUL_RNG reg.n⟩ → i = (if reg.vat then reg.n else 20 + reg.n) →
      (damaged t a 0 noise = true → exec (.rngRead at_ cls eng reg noise) s = .next { t.busFault a.addr with readback := 0 }) ∧
      (damaged t a 0 noise = false → ∀ reason, gateCheck t a = some reason →
        exec (.rngRead at_ cls eng reg noise) s = .next { t.notice a reason with readback := 0 }) ∧
      (damaged t a 0 noise = false → gateCheck t a = none → ∀ u, t.serve i = (u, none) →
        exec (.rngRead at_ cls eng reg noise) s = .next { u with readback := 0 }) ∧
      (damaged t a 0 noise = false → gateCheck t a = none → (t.starter i).requests < 2 ^ 20 →
        exec (.rngRead at_ cls eng reg noise) s = .next
          (({ t.setStarter i { t.starter i with requests := (t.starter i).requests + 1 } with readback := t.draw 32 } : State).drawn))))

/-- R389, R393, R398, R401, R406: the commands of the key store. A challenge, a generated key and a token check draw free values; a check that asks the
model's signature scheme is written as the two branches it can take. -/
def Obligations.KeyCommandsComplete : Prop :=
  ∀ (r : Req) (s t : State), t = s.at r.at_ →
    (passes t r 0x0801 = true → (t.starter (19 + worldOf r)).requests < 2 ^ 20 → ∀ u, u = t.asked (19 + worldOf r) →
      exec (.keysChallenge r) s = .next ((u.setChallenge r (some ⟨t.draw 128, t.now⟩)).reply r 0x0801 OK (leBytes 16 (t.draw 128)))) ∧
    (passes t r 0x0801 = true → 2 ^ 20 ≤ (t.starter (19 + worldOf r)).requests →
      exec (.keysChallenge r) s = .next ((t.fput f_CUL_STATUS_STALL 1).reply r 0x0801 E_BUSY [])) ∧
    (∀ slot parent usage world alg u, passes t r 0x0802 = true → 1 ≤ t.lc → t.lc ≤ 3 → 12 ≤ slot → slot ≤ 19 →
      t.slotWorld slot = 0 ∨ t.slotWorld slot = worldOf r → t.isSet f_CUL_STATUS_NOSEED = false → fixedUse slot = some (parent, usage, world, alg) →
      loadRefusal t false (worldOf r) slot parent usage (algLen alg) = OK →
      u = ((t.predicted.loadSlot slot (worldOf r) parent usage alg (algLen alg) (drawnKey t alg (algLen alg))).placeBlob slot).settleKeys t →
      exec (.keysGenerate r slot) s = .next (u.reply r 0x0802 OK (u.publicOf slot ++ blobOf u slot))) ∧
    (∀ slot, passes t r 0x0803 = true → 13 ≤ slot → slot ≤ 19 → slotStatus t slot = OK →
      exec (.keysReadPublic r slot) s = .next (t.reply r 0x0803 OK (t.publicOf slot))) ∧
    (∀ cert e1 e2 ok, passes t r 0x0804 = true → roleSlots cert.role = some (e1, e2) → t.slotWorld e1 = worldOf r → ok = certOk t cert →
      exec (.keysInstallCert r cert) s = .next (if ok then
        State.reply { t with keys := { t.keys with certs := setAt t.keys.certs (cert.role - 1) (some cert) } } r 0x0804 OK []
        else t.reply r 0x0804 E_VERIFY [])) ∧
    (∀ tok keys u ok, passes t r 0x0805 = true → 1 ≤ t.lc → t.lc ≤ 4 → t.mode = 4 ∨ t.mode = 2 → t.cel.reest = false →
      t.isSet f_CUL_STATUS_NOSEED = false → t.checkOwnerToken r 0x0805 (paramDigest []) tok keys = (u, ok) →
      exec (.keysReestablish r tok keys) s = .next (if ok then State.fput { u with
          cel := { u.cel with reest := true, breDone := false }, keys := { u.keys with reestReq := some r, reestStep := 1 } } f_KS_STATUS_REEST_PEND 1
        else u.reply r 0x0805 E_SESSION [])) ∧
    (∀ slot, passes t r 0x0806 = true → t.mode = 2 ∨ t.mode = 3 ∨ t.mode = 4 → 4 ≤ slot → slot < 64 → 
      t.slotWorld slot = 0 ∨ t.slotWorld slot = worldOf r → slot < 12 ∨ slotStatus t slot = OK → t.slotEpoch slot ≠ 0xFFFFFFFF →
      exec (.keysRaiseEpoch r slot) s = .next (if slot ≤ 11 then { t with keys := { t.keys with raising := t.keys.raising ++ [(slot, r)] } }
        else ((t.raiseEpoch slot).settleKeys t).reply r 0x0806 OK [])) ∧
    (passes t r 0x0807 = true → exec (.keysReadState r) s = .next (t.reply r 0x0807 OK
      ((List.range 64).flatMap (fun n => leBytes 4 (slotWord t n)) ++ (List.range 64).flatMap (fun n => leBytes 4 (epochWord t n)))))

/-- R410–R421: a net or port carries its seed and then the recurrence of its LFSR, and is detected by its last steps; a monitor's trip, its end and its test; the
grades; the responses on backup; and the commands that read, grade and disable a source. The order of the sequence's bits is the model's choice (log entry
105). -/
def Obligations.TamperCompletes : Prop :=
  (∀ seed k : Nat, seed < 2 ^ 31 → (k < 31 → lfsrBit seed k = seed.testBit k) ∧
    (k < 64 → lfsrBit seed (k + 31) = xor (lfsrBit seed (k + 28)) (lfsrBit seed k))) ∧
  (∀ (at_ : Nat) (s t : State), t = s.at at_ →
    (∀ i m, t.alive = false → exec (.tamperTrip at_ i m) s = .next t) ∧
    (∀ i m u, t.alive = true → u = t.noteMismatch i m →
      exec (.tamperTrip at_ i m) s = .next (if detects t i m then u.tripCondition i (measureOf t i m) else u)) ∧
    (∀ i m, 66 ≤ i → detects t i m = true) ∧
    (∀ i m, i ≤ 65 → (detects t i m = true ↔ mismatched t i m 0 = true ∧ (t.cel.main = true → mismatched t i m 1 = true))) ∧
    (∀ i m, exec (.tamperClear at_ i m) s = .next (t.tripCleared i (measureOf t i m))) ∧
    (∀ b, exec (.tamperSelfTest at_ b) s = .next (t.selfTest b)) ∧
    exec (.tamperTestTimeout at_) s = .next t.monitorFault ∧
    (∀ i m, exec (.backupTamperResponse at_ i m) s = .next (if detects t i m then t.backupTrip i (measureOf t i m) 0 else t)) ∧
    (∀ b u, u = { t with tmp := { t.tmp with backNext := (t.tmp.backNext + 1) % 66 } } →
      exec (.backupTamperTest at_ b) s = .next (if t.cel.main = true ∨ t.cel.vbak = false then t else if b then u else u.backupTrip t.tmp.backNext 0 2))) ∧
  (∀ (w : Wr) (s t : State), t = s.at w.at_ → admitted t w r_TMP_GRADE = true →
    (t.isSet f_TMP_CTRL_LOCK = false ∨ lowers t w.value = false → exec (.gradeWrite w) s = .next (t.putGrades w.value)) ∧
    (t.isSet f_TMP_CTRL_LOCK = true → lowers t w.value = true → exec (.gradeWrite w) s = .next (t.raise f_TMP_IRQ_GRADE_REFUSED))) ∧
  (∀ (r : Req) (s t : State), t = s.at r.at_ →
    (passes t r 0x0120 = true → ∃ body, exec (.deviceTamperRead r) s = .next (t.reply r 0x0120 OK body) ∧ body.length = 116) ∧
    (∀ src grade, passes t r 0x0121 = true → exec (.deviceTamperSetGrade r src grade) s = .next
      (if 14 ≤ src then t.refuse r 0x0121 (blame E_PARAM_RANGE 0x0100)
       else if 4 ≤ grade then t.refuse r 0x0121 (blame E_PARAM_RANGE 0x0101)
       else if t.srcDisabled src = true then t.refuse r 0x0121 (blame E_PARAM_CONFLICT 0x0100)
       else if t.isSet f_TMP_CTRL_LOCK = true ∧ grade < t.gradeOf src then t.refuse r 0x0121 (blame E_PARAM_CONFLICT 0x0101)
       else (t.putGrades (withGrade t src grade)).reply r 0x0121 OK [])) ∧
    (∀ src tok keys, passes t r 0x0122 = true → t.lc = 0 → t.mode = 0 ∨ t.mode = 2 → r.world = 3 → src < 14 →
      exec (.deviceTamperDisable r src tok keys) s = .next ((t.disableSource src).reply r 0x0122 OK [])) ∧
    (∀ src k keys u ok, passes t r 0x0122 = true → t.lc = 1 → t.mode = 0 ∨ t.mode = 2 → worldOf r = 1 → src < 14 →
      t.checkOwnerToken r 0x0122 (paramDigest (tlv 0x0100 (leBytes 1 src))) k keys = (u, ok) →
      exec (.deviceTamperDisable r src (some k) keys) s = .next (if ok then (u.disableSource src).reply r 0x0122 OK [] else u.reply r 0x0122 E_SESSION [])))

/-- R426, R437–R442, R449, R516: the transports. A packet that awaits its check leaves the queue and, while packets are accepted, is checked; SPI, CAN FD
and Ethernet bring packets in, segment by segment, and count what they drop; a port that is not enabled takes nothing; a reply that firmware issues and
the trace's packets go out. -/
def Obligations.TransportsComplete : Prop :=
  (∀ (at_ : Nat) (s t : State), t = s.at at_ →
    (∀ path p u, t.cmd.rx.find? (fun x => x.path == path) = some p → u = { t with cmd := { t.cmd with rx := t.cmd.rx.erase p } } →
      exec (.packetReceived at_ path) s = .next (if u.isSet f_CMD_CTRL_EN = true then (u.notePeer path (headerOf p.bytes).seq p.peer).checkPacket path p.peer p.bytes else u)) ∧
    (∀ path, t.cmd.rx.find? (fun x => x.path == path) = none → exec (.packetReceived at_ path) s = .next t) ∧
    (∀ len bytes, t.isSet (f_XP_CTRL_EN 0) = true → exec (.spiWrite at_ len bytes) s = .next
      (if bytes.length = len ∧ 32 ≤ len ∧ len ≤ 65567 ∧ rxReady t = true then t.addRx ⟨0, 0, bytes⟩
       else State.xpError { t with cmd := { t.cmd with rxErr := true } } 0)) ∧
    (∀ whole p b, t.isSet (f_XP_CTRL_EN 0) = true → t.cmd.tx.find? (fun x => x.path == 0) = some p → b = p.wire →
      exec (.spiRead at_ whole) s = .next { t with cmd := { t.cmd with out := leBytes 4 b.length ++ b, tx := if whole then t.cmd.tx.erase p else t.cmd.tx } }) ∧
    (∀ whole, t.isSet (f_XP_CTRL_EN 0) = true → t.cmd.tx.find? (fun x => x.path == 0) = none →
      exec (.spiRead at_ whole) s = .next { t with cmd := { t.cmd with out := zeros 4 } }) ∧
    (∀ len, t.isSet (f_XP_CTRL_EN 0) = true → len = (match t.cmd.tx.find? (fun x => x.path == 0) with | some p => p.wire.length | none => 0) →
      exec (.spiStatus at_) s = .next { t with cmd := { t.cmd with out := leBytes 4 (len % 2 ^ 17 + 2 ^ 17 * flag (rxReady t) + 2 ^ 18 * flag t.cmd.rxErr), rxErr := false } }) ∧
    (∀ len bytes whole, t.isSet (f_XP_CTRL_EN 0) = false → exec (.spiWrite at_ len bytes) s = .next t ∧ exec (.spiRead at_ whole) s = .next t ∧
      exec (.spiStatus at_) s = .next t) ∧
    (∀ chan ident ide fd bytes cfg, chan < 2 → cfg = t.regN (r_XP_CFG2 (chan + 1)) → exec (.canFrameReceived at_ chan ident ide fd bytes) s = .next
      (if t.isSet (f_XP_CTRL_EN (chan + 1)) = false ∨ ident ≠ cfg % 2 ^ 29 ∨ ide ≠ bit cfg 29 then t
       else if fd = false then t.xpError (chan + 1)
       else match bytes with | [] => t.xpError (chan + 1) | hd :: data => t.canSegment chan hd.toNat data)) ∧
    (∀ chan x, at! t.cmd.can chan none = some x → exec (.canReassemblyTimeout at_ chan) s = .next
      (if x.last + 50 * ticksPerMs < t.now then (t.setCan chan none).xpError (chan + 1) else t)) ∧
    (∀ src good bytes, exec (.ethernetDatagramReceived at_ src good bytes) s = .next
      (if t.isSet (f_XP_CTRL_EN 3) = false then t
       else if good = false ∨ bytes.length < 4 ∨ 1404 < bytes.length then t.xpError 3 else t.ethSegment src bytes)) ∧
    (∀ src x, t.cmd.eth.find? (fun y => y.src == src) = some x → exec (.ethernetReassemblyTimeout at_ src) s = .next
      (if x.last + 200 * ticksPerMs < t.now then State.xpError { t with cmd := { t.cmd with eth := t.cmd.eth.filter (fun y => y.src != src) } } 3 else t)) ∧
    (∀ target sender, exec (.arpRequest at_ target sender) s = .next
      (if t.isSet (f_XP_CTRL_EN 3) = true ∧ bit (t.regN (r_XP_CFG3 3)) 8 = true ∧ target = t.regN (r_XP_CFG2 3) then
        { t with cmd := { t.cmd with arp := t.cmd.arp ++ [(target, sender)] } } else t)) ∧
    (∀ x up g, 1 ≤ x → x ≤ 2 → exec (.linkChanged at_ (x + 26) up g) s = .next
      ((((t.fput (f_XP_STATUS_LINK x) (flag up)).orReg (r_XP_IRQ x) 4).fput (f_XP_STATUS_BUSOFF x) (flag (!up))).flushTx x)) ∧
    (∀ up g, exec (.linkChanged at_ 29 up g) s = .next
      ((((t.fput (f_XP_STATUS_LINK 3) (flag up)).orReg (r_XP_IRQ 3) 4).fput (f_XP_STATUS_G1000 3) (flag (up && g))).flushTx 3)) ∧
    (∀ x n e rest, t.cmd.trace = some x → x.items = (n, e) :: rest → exec (.tracePacket at_) s = .next
      (if 1024 ≤ x.size ∨ e.stamp + 100 * ticksPerMs ≤ t.now then t.tracePacket x else t))) ∧
  (∀ (w : Wr) (s t : State) (world len : Nat), t = s.at w.at_ → admitted t w (r_CMD_RPLY_CTL world) = true → len = w.value % 2 ^ 17 →
    ∀ u : State, u = t.fputs [(f_CMD_RPLY_CTL_INTERIM world, flag (bit w.value 30)), (f_CMD_RPLY_CTL_INDEX world, w.value / 2 ^ 17 % 128),
      (f_CMD_RPLY_CTL_LEN world, len)] →
    exec (.replyIssue w world) s = .next (if bit w.value 31 = true ∧ 4 ≤ len ∧ len ≤ 65535 then u.issueReply world else u))

/-- R428–R435, R446, R509–R511, R516: sessions, the trace, the fault queue and the commands that identify the part. Opening draws a free identifier and asks
the model's handshake; closing discards what no firmware has taken, answers last and then frees the slot; an admitted FLT_ACK takes the presented record away. -/
def Obligations.SessionsAndDeviceComplete : Prop :=
  (∀ (r : Req) (s t : State), t = s.at r.at_ →
    (∀ en mask, passes t r 0x0104 = true →
      (8 ≤ r.slot → exec (.deviceTrace r en mask) s = .next (t.reply r 0x0104 E_SESSION [])) ∧
      (∀ x, r.slot < 8 → t.cmd.trace = some x → x.slot ≠ r.slot → exec (.deviceTrace r en mask) s = .next (t.reply r 0x0104 E_BUSY [])) ∧
      (r.slot < 8 → (∀ x, t.cmd.trace = some x → x.slot = r.slot) → exec (.deviceTrace r en mask) s =
        .next (State.reply { t with cmd := { t.cmd with trace := if en then some ⟨r.slot, mask, [], 0, none⟩ else none } } r 0x0104 OK []))) ∧
    (∀ peer qh ek nonce, passes t r 0x0110 = true → freeSlot t r.world = none → exec (.sessionOpen r peer qh ek nonce) s = .next (t.reply r 0x0110 E_BUSY [])) ∧
    (∀ peer qh ek nonce i, passes t r 0x0110 = true → freeSlot t r.world = some i → i < t.cmd.sessions.length →
      ∃ (u : State) (body : List Byte), exec (.sessionOpen r peer qh ek nonce) s = .next (u.reply r 0x0110 OK body) ∧ (u.session i).phase = 1 ∧
        (u.session i).world = r.world ∧ (u.session i).path = r.path ∧ (u.session i).peer = peer ∧ (u.session i).last = t.now ∧
        u.regs = t.regs ∧ u.mem = t.mem ∧ (∀ j, j ≠ i → u.session j = t.session j)) ∧
    (∀ cert sig x, passes t r 0x0111 = true → x = t.session r.slot →
      exec (.sessionFinish r cert sig) s = .next (if hostCertOk t x.world cert && Config.sigValid (BitVec.ofNat 384 cert.hashEc) 3 [th2 x cert] sig.ec sig.pq
        then (t.setSession r.slot { x with phase := 2, seqHi := r.seq, last := t.now }).reply r 0x0111 OK []
        else (t.reply r 0x0111 E_SESSION []).closeSession r.slot false)) ∧
    (passes t r 0x0112 = true → 8 ≤ r.slot → exec (.sessionClose r) s = .next (t.reply r 0x0112 E_SESSION [])) ∧
    (∀ u v : State, passes t r 0x0112 = true → r.slot < 8 → u = t.discardNew r.slot r.seq → r.slot < u.cmd.sessions.length →
      v = u.setSession r.slot { u.session r.slot with closing := some r } → exec (.sessionClose r) s = .next
        (if (u.session r.slot).outst ≤ 1 then (v.answer r 0x0112 OK []).closeSession r.slot false else v)) ∧
    (passes t r 0x0113 = true → exec (.sessionRead r) s = .next (t.reply r 0x0113 OK ((List.range 8).flatMap (fun i => leBytes 4 (sessWord t i))))) ∧
    (∀ first count, passes t r 0x0103 = true → exec (.deviceReadFaults r first count) s = .next
      (if 31 < first then t.refuse r 0x0103 (blame E_PARAM_RANGE 0x0100) else if count = 0 ∨ 32 < count then t.refuse r 0x0103 (blame E_PARAM_RANGE 0x0101)
       else t.reply r 0x0103 OK ((((presentationOrder t.flt.queue).drop first).take count).flatMap FaultRec.bytes))) ∧
    (passes t r 0x0101 = true → exec (.deviceIdentify r) s = .next (t.reply r 0x0101 OK (leBytes 8 Config.serial.toNat ++ leBytes 2 Config.stepping.toNat ++
      w4 t r_DEV_BEHAVIOUR ++ leBytes 1 Config.grade.toNat ++ w4 t r_LC_STATE ++ w4 t r_MODE_STATUS ++ w4 t r_FLC_IMGVER))) ∧
    (passes t r 0x0102 = true → exec (.deviceReadStatus r) s = .next (t.reply r 0x0102 OK
      (([r_MODE_STATUS, r_MODE_CAUSE, r_ALM_STATUS, r_TG_STATUS, r_CORE_STATUS, r_CMD_STATUS].map (view t)).flatMap (leBytes 4)))) ∧
    (∀ addr count u bs denied, passes t r 0x0105 = true → 1 ≤ count → count ≤ 256 → addr % 4 = 0 → addr + 4 * count ≤ 2 ^ 32 →
      t.readWords (worldOf r) addr count = (u, bs, denied) →
      exec (.deviceReadReg r addr count) s = .next (u.reply r 0x0105 (if denied then E_WORLD else OK) bs))) ∧
  (∀ (at_ slot : Nat) (s t : State), t = s.at at_ →
    exec (.sessionFinishTimeout at_ slot) s = .next (if (t.session slot).phase = 1 ∧ (t.session slot).last + 10 * ticksPerS ≤ t.now then t.closeSession slot false else t) ∧
    exec (.sessionIdleTimeout at_ slot) s = .next
      (if (t.session slot).phase = 2 ∧ (t.session slot).last + t.regN r_CMD_IDLE * ticksPerS ≤ t.now then t.closeSession slot true else t)) ∧
  (∀ (w : Wr) (s t : State), t = s.at w.at_ → admitted t w r_FLT_ACK = true →
    (bit w.value 0 = false ∨ presented t.flt.queue = none → exec (.faultAck w) s = .next t) ∧
    (∀ x, bit w.value 0 = true → presented t.flt.queue = some x → exec (.faultAck w) s = .next { t with flt := { t.flt with queue := t.flt.queue.erase x } }))

/-- R60, R73, R75, R78, R80, R86, R97, R446: what the host and firmware do to the Transit rings: rates, enumeration, rejoin, the roster, the mailbox to a node,
and the ring registers. The commands hold for every ring; `onRing` is the operation that lets rings 0–7 alone be acted on. -/
def Obligations.RingCommandsComplete : Prop :=
  (∀ (r : Req) (s t : State), t = s.at r.at_ →
    (∀ rate, passes t r 0x0301 = true → exec (.transitSetRate r rate) s = .next
      (match firstOf [need (decide (rate < 4)) (blame E_PARAM_RANGE 0x0100), need t.tr.pending.isNone E_BUSY, need (!t.locked r_TRG_CTRL) E_PARAM_CONFLICT] with
       | some e => t.refuse r 0x0301 e
       | none => (t.requestRate rate).reply r 0x0301 OK [])) ∧
    (∀ ring, passes t r 0x0302 = true → exec (.transitEnumerate r ring) s = .next
      (match firstOf [need (decide (ring < 8)) (blame E_PARAM_RANGE 0x0100)] with
       | some e => t.refuse r 0x0302 e
       | none => (t.startRing ring).reply r 0x0302 OK [])) ∧
    (∀ ring, passes t r 0x0303 = true → exec (.transitRejoin r ring) s = .next
      (match firstOf [need (decide (ring < 8)) (blame E_PARAM_RANGE 0x0100), need (t.ringState ring == 4) E_PARAM_CONFLICT] with
       | some e => t.refuse r 0x0303 e
       | none => (t.beginRejoin ring).reply r 0x0303 OK [])) ∧
    (∀ rings, passes t r 0x0304 = true → exec (.transitSetAssembly r rings) s = .next
      (match firstOf [need (decide (rings < 256) && rings % 16 == 0) (blame E_PARAM_RANGE 0x0100), need (!t.locked r_TRG_CTRL) E_PARAM_CONFLICT,
          need (!(t.isSet f_TRG_CTRL_UPLINK && rings != 0)) (blame E_PARAM_CONFLICT 0x0100)] with
       | some e => t.refuse r 0x0304 e
       | none => (t.fput f_TRG_CTRL_ASM (rings / 16)).reply r 0x0304 OK [])) ∧
    (∀ ring, passes t r 0x0305 = true → exec (.transitAcceptRoster r ring) s = .next
      (match firstOf [need (decide (ring < 8)) (blame E_PARAM_RANGE 0x0100)] with
       | some e => t.refuse r 0x0305 e
       | none => ((rosterChanges (t.ring ring)).foldl (fun u n => u.newNodeStates ring n) (t.acceptRoster ring)).reply r 0x0305 OK [])) ∧
    (∀ ring, passes t r 0x0306 = true → exec (.transitRead r ring) s = .next
      (match firstOf [need (decide (ring < 8)) (blame E_PARAM_RANGE 0x0100)] with
       | some e => t.refuse r 0x0306 e
       | none => t.reply r 0x0306 OK ([r_TR_STATUS ring, r_TR_NODES ring, r_TR_BREAK ring, r_TR_CRC_ERRORS ring, r_TR_RETRANSMITS ring, r_TR_MISSING ring,
          r_TR_HOLDOVERS ring].flatMap (w4 t) ++ (t.ring ring).roster.flatMap (fun x => leBytes 4 (x.getD 0))))) ∧
    (∀ ring end_ node opc payload (u : State), passes t r 0x0307 = true →
      u = State.fputs ((List.range 4).foldl (fun u i => u.setRegN (r_TR_CMD_DATA ring i) (leNat (((padTo 16 payload).drop (4 * i)).take 4))) t)
        [(f_TR_CMD_HDR_END ring, end_), (f_TR_CMD_HDR_LEN ring, payload.length), (f_TR_CMD_HDR_ADDR ring, node), (f_TR_CMD_HDR_OPC ring, opc)] →
      exec (.transitNodeRequest r ring end_ node opc payload) s = .next
      (match firstOf [need (decide (ring < 8)) (blame E_PARAM_RANGE 0x0100), need (decide (end_ < 2)) (blame E_PARAM_RANGE 0x0101),
          need (decide (node < 16)) (blame E_PARAM_RANGE 0x0102), need (decide (opc < 256)) (blame E_PARAM_RANGE 0x0103),
          need (decide (payload.length ≤ 16)) (blame E_PARAM_RANGE 0x0104), need (!mailboxBusy t ring) E_BUSY] with
       | some e => t.refuse r 0x0307 e
       | none => (u.setRing ring { u.ring ring with nodeReq := some r }).mailboxGo ring)) ∧
    (∀ ring bound, passes t r 0x0310 = true → exec (.captureSetLateness r ring bound) s = .next
      (match firstOf [need (decide (ring < 8)) (blame E_PARAM_RANGE 0x0100), need (decide (4 ≤ bound ∧ bound ≤ 512)) (blame E_PARAM_RANGE 0x0101),
          need (!t.locked (r_ALM_SRC_CFG ring)) E_PARAM_CONFLICT] with
       | some e => t.refuse r 0x0310 e
       | none => (t.fput (f_ALM_SRC_CFG_BOUND ring) bound).reply r 0x0310 OK [])) ∧
    (∀ ring mask first last ks, passes t r 0x0311 = true → ks = (spanInstants t first last).eraseDups → exec (.captureReadEntries r ring mask first last) s = .next
      (match firstOf [need (decide (ring < 8)) (blame E_PARAM_RANGE 0x0100), need (decide (mask < 65536)) (blame E_PARAM_RANGE 0x0101),
          need (decide (first < last)) (blame E_PARAM_RANGE 0x0103), need (decide (stampOf (t.alm.inst - 1023) ≤ first)) (blame E_PARAM_RANGE 0x0102)] with
       | some e => t.refuse r 0x0311 e
       | none => (ks.foldl State.readRow t).reply r 0x0311 OK (ks.flatMap (entriesAt t ring mask)))) ∧
    (∀ secs nanos, passes t r 0x0312 = true → exec (.captureTimeMark r secs nanos) s = .next
      (match firstOf [need (decide (secs < 2 ^ 64)) (blame E_PARAM_RANGE 0x0100), need (decide (nanos < 1000000000)) (blame E_PARAM_RANGE 0x0101)] with
       | some e => t.refuse r 0x0312 e
       | none => (t.emit (t.packLocus 0) 10 1 (leBytes 8 secs ++ leBytes 4 nanos)).reply r 0x0312 OK []))) ∧
  (∀ (w : Wr) (s t : State), t = s.at w.at_ →
    (∀ ring u, admitted t w (r_TR_CTRL ring) = true → u = t.writeWord (r_TR_CTRL ring) w.value → exec (.ringEnableWrite w ring) s = .next
      (if ring < 8 then
        (if u.isSet (f_TR_CTRL_EN ring) = true ∧ t.isSet (f_TR_CTRL_EN ring) = false then u.startRing ring
         else if t.isSet (f_TR_CTRL_EN ring) = true ∧ u.isSet (f_TR_CTRL_EN ring) = false then u.stopRing ring else u)
       else t)) ∧
    (∀ ring, admitted t w (r_TR_CMD_HDR ring) = true → exec (.mailboxGo w ring) s = .next
      (if ring < 8 then
        (if bit w.value 31 = false then t.writeWord (r_TR_CMD_HDR ring) w.value
         else if mailboxBusy t ring = true then t else (t.writeWord (r_TR_CMD_HDR ring) (w.value % 2 ^ 31)).mailboxGo ring)
       else t)) ∧
    (admitted t w r_TRG_CTRL = true → bit w.value 8 = true → w.value / 16 % 16 ≠ 0 → exec (.rateRegisterWrite w) s = .next t) ∧
    (∀ u v : State, admitted t w r_TRG_CTRL = true → bit w.value 8 = false ∨ w.value / 16 % 16 = 0 →
      u = t.writeWord r_TRG_CTRL (w.value / 4 * 4 + t.fget f_TRG_CTRL_RATE) →
      v = (if u.ringInService 7 = false ∧ u.ringState 7 ≠ 0 then u.stopRing 7 else u) → exec (.rateRegisterWrite w) s = .next
      (if t.locked r_TRG_CTRL || t.tr.pending.isSome || w.value % 4 == t.fget f_TRG_STATUS_RATE then v else v.requestRate (w.value % 4))) ∧
    (admitted t w r_ALM_LQ_ACK = true → exec (.lqAck w) s = .next
      (t.fput f_ALM_LQ_STATUS_OVF (t.fget f_ALM_LQ_STATUS_OVF - w.value % 2 ^ 11))))

/-- R64–R66, R76–R85, R91, R98, R112–R116, R507: what the rings bring in and what their clocks do, ring by ring: frames, answers, trains, breaks, timeouts, and the
Almanac's own events. What a line carries is decoded first: a response, a frame, an ECHO or a BREAK that its coding or its CRC spoils is none. -/
def Obligations.RingEventsComplete : Prop :=
  ∀ (at_ : Nat) (s t : State), t = s.at at_ →
    (∀ ring, ring < 8 →
      exec (.ringRetry at_ ring) s = .next (if t.ringState ring = 5 ∧ (t.ring ring).started + 100 * ticksPerMs ≤ t.now then t.startRing ring else t) ∧
      (t.isSet (f_TR_CMD_HDR_BUSY ring) = false ∨ (t.ring ring).mbTrains < 4 → exec (.mailboxTimeout at_ ring) s = .next t) ∧
      (∀ u, t.isSet (f_TR_CMD_HDR_BUSY ring) = true → 4 ≤ (t.ring ring).mbTrains →
        u = t.fputs [(f_TR_CMD_HDR_BUSY ring, 0), (f_TR_RSP_HDR_VALID ring, 0), (f_TR_RSP_HDR_TIMEOUT ring, 1), (f_TR_RSP_HDR_LEN ring, 0),
          (f_TR_RSP_HDR_NODE ring, t.fget (f_TR_CMD_HDR_ADDR ring)), (f_TR_RSP_HDR_OPC ring, t.fget (f_TR_CMD_HDR_OPC ring)), (f_TR_RSP_HDR_NSTAT ring, 0)] →
        exec (.mailboxTimeout at_ ring) s = .next (match (u.ring ring).nodeReq with
          | none => u
          | some q => (u.setRing ring { u.ring ring with nodeReq := none }).reply q 0x0307 OK (w4 u (r_TR_RSP_HDR ring)))) ∧
      (∀ rd rsp hdr data crc r, r = responseOf (lineChars ⟨rd, rsp ++ hdr ++ data ++ crc⟩) →
        (∀ node opc nstat p, r = some (node, opc, nstat, p) →
          exec (.responseFrameReceived at_ ring rd rsp hdr data crc) s = .next ((t.responseFrame ring node opc nstat p).noteSerials ring)) ∧
        (r = none → exec (.responseFrameReceived at_ ring rd rsp hdr data crc) s = .next (t.bump (f_TR_CRC_ERRORS_COUNT ring)))) ∧
      (∀ endB line rt, echoOf (lineChars line) = none → exec (.echoReply at_ ring endB line rt) s = .next t) ∧
      (∀ endB line rt node u, echoOf (lineChars line) = some node → node < 16 →
        u = (if t.isSet (f_TR_CMD_HDR_BUSY ring) = true ∧ t.fget (f_TR_CMD_HDR_OPC ring) = 0x02 ∧ t.fget (f_TR_CMD_HDR_ADDR ring) = node
          then t.mailboxDone ring node 0x02 0 [] else t) →
        exec (.echoReply at_ ring endB line rt) s = .next (if u.isSet (f_TR_BREAK_ACTIVE ring) = true then u else u.takeDelay ring node rt endB)) ∧
      (∀ endB line node, echoOf (lineChars line) = some node ∨ (∃ up, breakOf (lineChars line) = some (node, up)) → 16 ≤ node →
        (echoOf (lineChars line) = some node → ∀ rt, exec (.echoReply at_ ring endB line rt) s = .next t) ∧
        ((∃ up, breakOf (lineChars line) = some (node, up)) → exec (.breakSetReceived at_ ring endB line.rd line.groups) s = .next t)) ∧
      exec (.echoSchedule at_ ring) s = .next (if t.ringState ring = 3 then
        t.queueCmds ring ((nodesOf (t.ring ring)).map (fun n => ⟨n, 0x02, [], t.bothEnds ring && (t.segment ring true).contains n⟩)) else t) ∧
      (∀ endB line, breakOf (lineChars line) = none → exec (.breakSetReceived at_ ring endB line.rd line.groups) s = .next t) ∧
      (∀ endB line node la fb, breakOf (lineChars line) = some (node, true) → node < 16 → t.running ring = true →
        la = t.fget (f_TR_BREAK_LAST_A ring) → fb = t.fget (f_TR_BREAK_FIRST_B ring) →
        exec (.breakSetReceived at_ ring endB line.rd line.groups) s = .next (if t.isSet (f_TR_BREAK_ACTIVE ring) = true
          then t.declareBreak ring (if la ≠ 31 then la else if node = 0 then 31 else node - 1) (if fb ≠ 31 ∧ endB = true then max fb node else node)
          else t.declareBreak ring (if node = 0 then 31 else node - 1) node)) ∧
      (∀ endB line node la fb next, breakOf (lineChars line) = some (node, false) → node < 16 → t.running ring = true →
        la = t.fget (f_TR_BREAK_LAST_A ring) → fb = t.fget (f_TR_BREAK_FIRST_B ring) → next = (if node + 1 < t.fget (f_TR_NODES_COUNT ring) then node + 1 else 31) →
        exec (.breakSetReceived at_ ring endB line.rd line.groups) s = .next (if t.isSet (f_TR_BREAK_ACTIVE ring) = true
          then t.declareBreak ring (if la ≠ 31 then min la node else node) (if fb ≠ 31 then fb else next)
          else t.declareBreak ring node next)) ∧
      (∀ endB line node up, breakOf (lineChars line) = some (node, up) → node < 16 → t.running ring = false → exec (.breakSetReceived at_ ring endB line.rd line.groups) s = .next
        (if t.ringState ring = 2 then t.openEnum ring else t)) ∧
      exec (.trainEndBTimeout at_ ring) s = .next (t.breakUnplaced ring) ∧
      exec (.autoRejoin at_ ring) s = .next (if t.ringState ring = 4 ∧ t.isSet (f_TR_CTRL_AUTOREJOIN ring) = true ∧ 8000 ≤ (t.ring ring).goodTrains ∧
        (t.ring ring).rejoin.isNone = true ∧ (t.ring ring).askRejoin = false then t.beginRejoin ring else t) ∧
      exec (.trainDeparture at_ ring) s = .next (t.depart ring) ∧
      (∀ endB tstamp loopNs intact, exec (.trainReceived at_ ring ⟨endB, tstamp, loopNs⟩ intact) s = .next (t.trainReceived ring endB tstamp loopNs intact)) ∧
      (∀ node k, exec (.frameMissing at_ ring node k) s = .next (t.frameMissing ring node k)) ∧
      (∀ endB, exec (.losDeclare at_ ring endB) s = .next (t.los ring endB)) ∧
      (∀ endB, exec (.losClear at_ ring endB) s = .next (t.fput (if endB then f_TR_STATUS_B_LOCK ring else f_TR_STATUS_A_LOCK ring) 1)) ∧
      (∀ tstamp line bs, cellFrameOf (lineChars line) = some bs → exec (.frameReceived at_ ring tstamp line) s = .next (t.cellFrame ring bs)) ∧
      (∀ tstamp line n p bs, cellFrameOf (lineChars line) = none → asmFrameOf (lineChars line) = some (n, p, bs) →
        exec (.frameReceived at_ ring tstamp line) s = .next (t.asmFrame ring tstamp bs)) ∧
      (∀ tstamp line, cellFrameOf (lineChars line) = none → asmFrameOf (lineChars line) = none →
        exec (.frameReceived at_ ring tstamp line) s = .next (t.bump (f_TR_CRC_ERRORS_COUNT ring)))) ∧
    (∀ chan, exec (.almanacChannelFault at_ chan) s = .next (if chan < 2 then t.channelFault chan else t)) ∧
    (∀ stamp, exec (.timeHi at_ stamp) s = .next (t.timeHi stamp)) ∧
    exec (.discHoldover at_) s = .next (if t.isSet f_TRG_CTRL_UPLINK = true ∧ 2 * 390625 ≤ 8 * (t.now - t.alm.syncAt) then t.discHoldover else t)

/-- R119–R143: the Spectrograph: its tables and enable, the pilot protocol, the bins' settings, and what it reads out of a cell that this part holds; of a
position that holds no data a read returns the absent form of its record (R28). -/
def Obligations.SpectrographCompletes : Prop :=
  (∀ (at_ : Nat) (s t : State), t = s.at at_ →
    exec (.twiddleTableBuilt at_) s = .next (t.fput f_SPG_STATUS_REGEN 0) ∧
    exec (.pilotTimeout at_) s = .next (if t.fget f_SPG_STATUS_PSTATE = 1 ∧ t.spg.pilotAt + 60 * ticksPerS ≤ t.now then t.holdOff else t) ∧
    (∀ cell, exec (.fitOverrun at_ cell) s = .next (if cell < packCell then (t.bump f_SPG_FIT_OVERRUN_COUNT).raise f_SPG_IRQ_FIT_OVERRUN else t))) ∧
  (∀ (w : Wr) (s t u v : State), t = s.at w.at_ → admitted t w r_SPG_CTRL = true → u = t.writeWord r_SPG_CTRL w.value →
    v = (List.range 128).foldl (fun u n => u.fput (f_SPG_BIN_STAT_SEGPOS n) 0) u.discardSegments →
    (t.isSet f_SPG_CTRL_EN = u.isSet f_SPG_CTRL_EN → exec (.spgEnableWrite w) s = .next u) ∧
    (t.isSet f_SPG_CTRL_EN = false → u.isSet f_SPG_CTRL_EN = true → exec (.spgEnableWrite w) s = .next { v with spg := { v.spg with
      origin := some (v.alm.inst + 1), cells := v.spg.cells.map (fun (i, x) => (i, { x with ref := none })) } }) ∧
    (t.isSet f_SPG_CTRL_EN = true → u.isSet f_SPG_CTRL_EN = false → exec (.spgEnableWrite w) s = .next { v with spg := { v.spg with origin := none } })) ∧
  (∀ (r : Req) (s t : State), t = s.at r.at_ →
    (∀ report, passes t r 0x0407 = true → exec (.spectroPilotState r report) s = .next
      (match firstOf
          [need (t.mode == 2 || t.mode == 3) E_MODE, need (decide (report < 3)) (blame E_PARAM_RANGE 0x0100),
             need (t.fget f_SPG_STATUS_PSTATE == (if report = 1 then 3 else 1)) (blame E_PARAM_CONFLICT 0x0100)] with
       | some e => t.refuse r 0x0407 e
       | none => State.reply (match report with
          | 0 => (State.fputs { t with spg := { t.spg with pilotFolds := 0 } } [(f_SPG_STATUS_PSTATE, 2), (f_SPG_PILOT_REQ_STATE, 2)]).raise f_SPG_IRQ_PILOT
          | 1 => ((t.fputs [(f_SPG_STATUS_PSTATE, 0), (f_SPG_PILOT_REQ_STATE, 0)]).raise f_SPG_IRQ_PILOT).raisePilot
          | _ => t.holdOff) r 0x0407 OK [])) ∧
    (∀ b, passes t r 0x0406 = true → b = t.fget f_SPG_PILOT_REQ_BIN → exec (.spectroReadPilot r) s = .next
      (t.reply r 0x0406 OK (leBytes 1 (t.fget f_SPG_PILOT_REQ_STATE) ++ leBytes 1 b ++ leBytes 4 (microHz b) ++
        w4 t r_SPG_PILOT_AMP ++ w4 t r_SPG_PILOT_DUR))) ∧
    (∀ first last gate avgsh avgshPilot ifloor agemax, passes t r 0x0401 = true → exec (.spectroSetBin r first last gate avgsh avgshPilot ifloor agemax) s = .next
      (match firstOf
          [need (binRangeOk first last) (blame E_PARAM_RANGE 0x0101), need (decide (gate < 65536)) (blame E_PARAM_RANGE 0x0102),
             need (decide (2 ≤ avgsh ∧ avgsh ≤ 7)) (blame E_PARAM_RANGE 0x0103),
             need (decide (2 ≤ avgshPilot ∧ avgshPilot ≤ 7)) (blame E_PARAM_RANGE 0x0104),
             need (decide (1 ≤ ifloor ∧ ifloor < 65536)) (blame E_PARAM_RANGE 0x0105), need (decide (agemax < 65536)) (blame E_PARAM_RANGE 0x0106)] with
       | some e => t.refuse r 0x0401 e
       | none => ((binRange first last).foldl (fun u n =>
          State.fputs { u with spg := { u.spg with configured := setAt u.spg.configured n (gate, avgsh) } }
            [(f_SPG_BIN_CFG_GATE n, gate), (f_SPG_BIN_CFG_AVGSH n, avgsh), (f_SPG_BIN_CFG_AVGSH_PILOT n, avgshPilot), (f_SPG_BIN_LIM_IFLOOR n, ifloor),
             (f_SPG_BIN_LIM_AGEMAX n, agemax)]) t).reply r 0x0401 OK [])) ∧
    (∀ first last, passes t r 0x0402 = true → exec (.spectroReadBinState r first last) s = .next
      (match firstOf
          [need (binRangeOk first last) (blame E_PARAM_RANGE 0x0101)] with
       | some e => t.refuse r 0x0402 e
       | none => t.reply r 0x0402 OK
          ((binRange first last).flatMap (fun n => w4 t (r_SPG_BIN_CFG n) ++ w4 t (r_SPG_BIN_LIM n) ++ w4 t (r_SPG_BIN_IRMS n) ++ w4 t (r_SPG_BIN_STAT n))))) ∧
    (∀ l first last, passes t r 0x0403 = true → exec (.spectroReadImpedance r l first last) s = .next
      (match firstOf
          [need (cellLocusOk l) (blame E_PARAM_RANGE 0x0001), need (binRangeOk first last) (blame E_PARAM_RANGE 0x0101)] with
       | some e => t.refuse r 0x0403 e
       | none => t.reply r 0x0403 OK ((binRange first last).flatMap (fun n => leBytes 8 (withChan l (0x80 + n)) ++
          (match t.ownCell l with | some i => if t.holdsCell i then impRecord t i n else absentImpedance | none => absentImpedance))))) ∧
    (∀ l, passes t r 0x0404 = true → exec (.spectroReadFit r l) s = .next
      (match firstOf
          [need (cellLocusOk l) (blame E_PARAM_RANGE 0x0001)] with
       | some e => t.refuse r 0x0404 e
       | none => t.reply r 0x0404 OK (leBytes 8 (withChan l 0x10) ++
          (match t.ownCell l with | some i => (keyed t.spg.fits i).getD absentFit | none => absentFit)))) ∧
    (∀ l, passes t r 0x0405 = true → exec (.spectroReadTemperature r l) s = .next
      (match firstOf
          [need (cellLocusOk l) (blame E_PARAM_RANGE 0x0001)] with
       | some e => t.refuse r 0x0405 e
       | none => t.reply r 0x0405 OK (leBytes 8 (withChan l 0x02) ++ (match t.ownCell l with | some i => tempRecord t i | none => zeros 16)))) ∧
    (∀ k table, passes t r 0x0408 = true → exec (.spectroLoadChemistry r k table) s = .next
      (match firstOf
          [need (decide (k < 4)) (blame E_PARAM_RANGE 0x0100), need (chemOk table) (blame E_PARAM_RANGE 0x0008)] with
       | some e => t.refuse r 0x0408 e
       | none => State.reply { t with spg := { t.spg with chem := setAt t.spg.chem k (some table) } } r 0x0408 OK [])) ∧
    (∀ l k, passes t r 0x0409 = true → exec (.spectroSetNodeChemistry r l k) s = .next
      (match firstOf
          [need (cellLocusOk l && decide (locusCell l = 0)) (blame E_PARAM_RANGE 0x0001), need (decide (k < 4)) (blame E_PARAM_RANGE 0x0100),
             need ((at! t.spg.chem k none).isSome) (blame E_PARAM_MISSING 0x0100)] with
       | some e => t.refuse r 0x0409 e
       | none => State.reply (if (t.ownCell l).isNone then t else
          { t with spg := { t.spg with nodeChem := setAt t.spg.nodeChem (16 * locusRing l + locusNode l) (some k) } }) r 0x0409 OK [])) ∧
    (∀ l first last (u : State), passes t r 0x040A = true → u = t.resetAverages (fun _ => true) first last false → exec (.spectroResetAverages r l first last) s = .next
      (match firstOf
          [need (match l with | some c => cellLocusOk c | none => true) (blame E_PARAM_RANGE 0x0001),
             need (binRangeOk first last) (blame E_PARAM_RANGE 0x0101)] with
       | some e => t.refuse r 0x040A e
       | none => State.reply (match l with
          | some c => (match t.ownCell c with | some i => t.resetAverages (· == i) first last false | none => t)
          | none => { u with spg := { u.spg with sii := (binRange first last).foldl (fun l n => setAt l n 0) u.spg.sii } }) r 0x040A OK [])))

/-- R163–R184: the energy meter: its channels' faults, the samples, the pulse output, calibration, and the commands of class 0x05. -/
def Obligations.MeterCompletes : Prop :=
  (∀ (at_ : Nat) (s t : State), t = s.at at_ →
    (∀ i, exec (.stuckDetect at_ i) s = .next (if 4 ≤ i ∨ t.isSet (f_MER_CH_STAT_STUCK i) = true then t else t.setStuck i t.now)) ∧
    (∀ i u, u = ((t.fput (f_MER_CH_STAT_MODFLT i) 1).putBit f_MER_STATUS_MODFLT i true).raise f_MER_IRQ_MODFLT →
      exec (.modfltSet at_ i) s = .next (if i < 4 ∧ t.isSet (f_MER_CH_STAT_STUCK i) = true ∧ at! t.mer.stuckAt i 0 + ticksPerMs ≤ t.now
        then State.chooseChannel (if i < 2 then { u with mer := { u.mer with spoiled := true } } else u) else t)) ∧
    (∀ i u, u = (t.fput (f_MER_CH_STAT_MODFLT i) 0).putBit f_MER_STATUS_MODFLT i false →
      exec (.modfltClear at_ i) s = .next (if i < 4 ∧ t.isSet (f_MER_CH_STAT_MODFLT i) = true ∧ t.isSet (f_MER_CH_STAT_STUCK i) = false ∧
          at! t.mer.freeAt i 0 + ticksPerS ≤ t.now
        then State.chooseChannel (if i < 2 then { u with mer := { u.mer with spoiled := true } } else u) else t)) ∧
    (∀ bits p, p = t.takeFour bits → exec (.intermediateSample at_ bits) s = .next (p.1.intermediate p.2)) ∧
    (∀ k, exec (.packSampleWrite at_ k) s = .next (if nextPackInstant t = some k then t.packSample k (t.firCodes k) else t)) ∧
    (t.isSet f_MER_CTRL_PULSE_EN = false ∨ t.mer.pulses = 0 → exec (.pulseOutput at_) s = .next t) ∧
    (∀ p, t.mer.pulseAt = some p → t.now < p + 5 * ticksPerMs → exec (.pulseOutput at_) s = .next t) ∧
    (t.isSet f_MER_CTRL_PULSE_EN = true → 0 < t.mer.pulses → (∀ p, t.mer.pulseAt = some p → p + 5 * ticksPerMs ≤ t.now) →
      exec (.pulseOutput at_) s = .next (State.putPulses { t with mer := { t.mer with pulseAt := some t.now } } (t.mer.pulses - 1))) ∧
    (t.mer.cal = none → exec (.calibrateAverageDone at_) s = .next t) ∧
    (∀ c, t.mer.cal = some c → exec (.calibrateAverageDone at_) s = .next (if 160000 ≤ c.count then t.calDone c else t))) ∧
  (∀ (w : Wr) (s t : State), t = s.at w.at_ →
    (∀ u, admitted t w r_MER_CTRL = true → u = t.writeWord r_MER_CTRL w.value → exec (.meterEnable w) s = .next
      (if t.isSet f_MER_CTRL_EN = false ∧ u.isSet f_MER_CTRL_EN = true then
        State.putNocap { u with mer := { u.mer with wweFrom := u.now, count := List.replicate 10 0, rem := List.replicate 10 0, period := List.replicate 6 0 } }
       else u)) ∧
    (∀ offset, calOffset offset = false → exec (.calibrationWrite w offset) s = .next t) ∧
    (∀ offset, calOffset offset = true → admitted t w (0x40090000 + offset) = true → exec (.calibrationWrite w offset) s = .next
      (if t.mode ≠ 0 ∧ t.mode ≠ 2 then t.bump f_MER_CAL_REFUSED_COUNT else if offset = 0xC ∧ xcOk w.value = false then t
       else t.calWrite offset (w.value % 2 ^ 32)))) ∧
  (∀ (r : Req) (s t : State), t = s.at r.at_ →
    (passes t r 0x0501 = true → exec (.meterRead r) s = .next
      (t.reply r 0x0501 OK ((List.range 10).flatMap (fun j => leBytes 8 (accValue t j)) ++ w4 t r_MER_STATUS ++
        w4 t r_MER_UNMET_TIME ++ w4 t r_MER_UNMET_CHARGE))) ∧
    (∀ form input ref gain ofs dly, passes t r 0x0502 = true → exec (.meterCalibrate r form input ref gain ofs dly) s = .next
      (match firstOf
          [need (t.mode == 0 || t.mode == 2) E_MODE, need (decide (form < 3)) (blame E_PARAM_RANGE 0x0100),
             need (decide (input < 4)) (blame E_PARAM_RANGE 0x0101), need (decide (ref < 2 ^ 32)) (blame E_PARAM_RANGE 0x0102),
             need (decide (gain < 2 ^ 32)) (blame E_PARAM_RANGE 0x0102), need (decide (ofs < 2 ^ 24)) (blame E_PARAM_RANGE 0x0103),
             need (decide (dly < 4096)) (blame E_PARAM_RANGE 0x0104), need t.mer.cal.isNone E_BUSY] with
       | some e => t.refuse r 0x0502 e
       | none => (if form = 2 then
            (((t.calWrite (0x40 + 16 * input) gain).calWrite (0x44 + 16 * input) ofs).calWrite (0x48 + 16 * input)
              (t.regN (r_MER_CH_DLY input) / 4096 * 4096 + dly)).reply r 0x0502 OK []
          else { t with mer := { t.mer with cal := some ⟨input, form == 1, ref, 0, 0, r⟩ } }))) ∧
    (∀ channel, passes t r 0x0503 = true → exec (.meterSelectChannel r channel) s = .next
      (match firstOf
          [need (channel == 1 || channel == 2) (blame E_PARAM_RANGE 0x0100), need (!t.inputFaulted (channel - 1)) (blame E_PARAM_CONFLICT 0x0100)] with
       | some e => t.refuse r 0x0503 e
       | none => (t.setChannel channel).reply r 0x0503 OK [])) ∧
    (∀ en rel abs noload, passes t r 0x0504 = true → exec (.meterSetCrosscheck r en rel abs noload) s = .next
      (match firstOf
          [need (t.mode == 0 || t.mode == 2) E_MODE, need (decide (2 ≤ rel ∧ rel ≤ 50)) (blame E_PARAM_RANGE 0x0101),
             need (decide (100 ≤ abs ∧ abs < 65536)) (blame E_PARAM_RANGE 0x0102), need (decide (1 ≤ noload ∧ noload ≤ 255)) (blame E_PARAM_RANGE 0x0103)] with
       | some e => t.refuse r 0x0504 e
       | none => (t.calWrite 0xC (abs * 65536 + noload * 256 + 128 * flag en + rel)).reply r 0x0504 OK [])) ∧
    (∀ iRated cap, passes t r 0x0508 = true → exec (.meterSetRating r iRated cap) s = .next
      (match firstOf
          [need (t.mode == 0 || t.mode == 2) E_MODE, need (decide (1 ≤ iRated ∧ iRated < 65536)) (blame E_PARAM_RANGE 0x0100),
             need (decide (10 ≤ cap ∧ cap < 65536)) (blame E_PARAM_RANGE 0x0101)] with
       | some e => t.refuse r 0x0508 e
       | none => (t.calWrite 8 (cap * 65536 + iRated)).reply r 0x0508 OK [])) ∧
    (∀ en sel imp, passes t r 0x0509 = true → exec (.meterSetPulse r en sel imp) s = .next
      (match firstOf
          [need (decide (sel ≤ 2)) (blame E_PARAM_RANGE 0x0101), need (decide (1000 ≤ imp ∧ imp ≤ 100000)) (blame E_PARAM_RANGE 0x0102)] with
       | some e => t.refuse r 0x0509 e
       | none => (t.fputs [(f_MER_CTRL_PULSE_EN, flag en), (f_MER_PULSE_CFG_SEL, sel), (f_MER_PULSE_CFG_IMP, imp)]).reply r 0x0509 OK [])) ∧
    (∀ table ws n u, passes t r 0x0505 = true → clampWeights (table.drop 32) = (ws, n) →
      u = { t with mer := { t.mer with tables := setAt t.mer.tables (1 - t.fget f_MER_STATUS_TBANK) (sparseBytes (table.take 32 ++ ws)) } } →
      exec (.meterLoadWweTable r table) s = .next
      (match firstOf
          [need (decide (table.length = 11296)) (blame E_LENGTH 0x0008), need (!t.isSet f_MER_STATUS_TPEND) E_BUSY,
             need (axesOk table) (blame E_PARAM_RANGE 0x0008)] with
       | some e => t.refuse r 0x0505 e
       | none => (u.bumpBy f_MER_WWE_CLAMPS_COUNT n).reply r 0x0505 OK (leBytes 4 n))) ∧
    (∀ digest, passes t r 0x0506 = true → exec (.meterActivateWweTable r digest) s = .next
      (match firstOf
          [need (!t.isSet f_MER_STATUS_TPEND) E_BUSY, need (digest == digestBytes (standbyBytes t)) (blame E_PARAM_CONFLICT 0x0100)] with
       | some e => t.refuse r 0x0506 e
       | none => (State.fput { t with mer := { t.mer with digest := digest } } f_MER_STATUS_TPEND 1).reply r 0x0506 OK [])) ∧
    (∀ bank b, passes t r 0x0507 = true → 
      b = tableBytes (at! t.mer.tables (if bank = 0 then t.fget f_MER_STATUS_TBANK else 1 - t.fget f_MER_STATUS_TBANK) []) →
      exec (.meterReadWweTable r bank) s = .next
      (match firstOf
          [need (decide (bank < 2)) (blame E_PARAM_RANGE 0x0100)] with
       | some e => t.refuse r 0x0507 e
       | none => t.reply r 0x0507 OK (b ++ digestBytes b))))

/-- R144–R154, R159–R161: the estimators, the cell states and the balancing policy. A cell's state changes only by its check, its time or an order; a read of a
position that holds no data returns zeros (R28). -/
def Obligations.EstimatorsComplete : Prop :=
  (∀ (at_ : Nat) (s t : State), t = s.at at_ →
    (∀ c, exec (.restCorrection at_ c) s = .next (t.restCorrection c)) ∧
    (∀ c check, keyed t.est.cells c = none → exec (.cellWatchEntry at_ c check) s = .next t ∧ exec (.cellWatchExit at_ c) s = .next t ∧
      exec (.cellQuarantinePromotion at_ c) s = .next t) ∧
    (∀ c x, keyed t.est.cells c = some x →
      (∀ check, exec (.cellWatchEntry at_ c check) s = .next
        (if x.state = 0 ∧ check < 10 ∧ at! persistence check 1 ≤ at! x.fails check 0 then t.toWatch c x (failedMask x) else t)) ∧
      exec (.cellWatchExit at_ c) s = .next (if t.exitDue x = true then t.setCellState c x 0 0 (t.watchTime x) else t) ∧
      exec (.cellQuarantinePromotion at_ c) s = .next (if t.exitDue x = true then t.setCellState c x 0 0 (t.watchTime x)
        else if x.state = 1 ∧ 86400 ≤ t.watchTime x then t.setCellState c x 2 x.cause (t.watchTime x) else t)) ∧
    (∀ unpublished, exec (.fitCycle at_ unpublished) s = .next
      (t.spg.due.foldl (fun u d => u.fitCycle d unpublished) { t with spg := { t.spg with due := [] } }))) ∧
  (∀ (r : Req) (s t : State), t = s.at r.at_ →
    (∀ l i x target, passes t r 0x064B = true → cellLocusOk l = true → target < 3 → t.ownCell l = some i → keyed t.est.cells i = some x →
      exec (.cellSetState r l target) s = .next
      (if x.state = 2 ∧ target = 1 then
         (if t.mode ≠ 2 ∧ t.mode ≠ 3 then t.reply r 0x064B E_MODE []
          else if t.pnow < x.cleanFrom + 3600 * ticksPerS then t.reply r 0x064B E_PARAM_CONFLICT [] else (t.toWatch i x x.cause).reply r 0x064B OK [])
       else if x.state = 0 ∧ target = 1 then (t.toWatch i x x.cause).reply r 0x064B OK []
       else if x.state = 1 ∧ target = 2 then (t.setCellState i x 2 x.cause (t.watchTime x)).reply r 0x064B OK []
       else t.refuse r 0x064B (blame E_PARAM_CONFLICT 0x0100))) ∧
    (∀ l target, passes t r 0x064B = true → cellLocusOk l = true → target < 3 → t.ownCell l = none →
      exec (.cellSetState r l target) s = .next (t.reply r 0x064B OK [])) ∧
    (∀ l target, passes t r 0x064B = true → cellLocusOk l = false → exec (.cellSetState r l target) s = .next (t.refuse r 0x064B (blame E_PARAM_RANGE 0x0001))) ∧
    (∀ l target, passes t r 0x064B = true → cellLocusOk l = true → 3 ≤ target →
      exec (.cellSetState r l target) s = .next (t.refuse r 0x064B (blame E_PARAM_RANGE 0x0100))) ∧
    (∀ k profile, passes t r 0x0648 = true → exec (.estimLoadProfile r k profile) s = .next
      (match firstOf
          [need (t.mode == 2 || t.mode == 3) E_MODE, need (decide (k < 4)) (blame E_PARAM_RANGE 0x0100),
             need (profileOk profile) (blame E_PARAM_RANGE 0x0008)] with
       | some e => t.refuse r 0x0648 e
       | none => State.reply { t with est := { t.est with profiles := setAt t.est.profiles k (some profile) } } r 0x0648 OK [])) ∧
    (∀ locus first last, passes t r 0x0649 = true → exec (.estimRead r locus first last) s = .next
      (match firstOf
          [need (cellLocusOk locus) (blame E_PARAM_RANGE 0x0001), need (decide (first ≤ last ∧ last ≤ 6)) (blame E_PARAM_RANGE 0x0101)] with
       | some e => t.refuse r 0x0649 e
       | none => t.reply r 0x0649 OK ((binRange first last).flatMap (fun k => leBytes 8 (withChan locus (0x40 + k)) ++
          (match t.ownCell locus with | some i => estRecord t i k | none => zeros 16))))) ∧
    (∀ locus, passes t r 0x064A = true → exec (.cellReadState r locus) s = .next
      (match firstOf
          [need (match locus with | some l => cellLocusOk l | none => true) (blame E_PARAM_RANGE 0x0001)] with
       | some e => t.refuse r 0x064A e
       | none => t.reply r 0x064A OK (match locus with
          | some l => leBytes 8 (withChan l 0x03) ++ (match t.ownCell l with | some i => stateRecord t i | none => zeros 16)
          | none => t.populated.flatMap (fun i => leBytes 8 (t.cellLocus i 0x03) ++ stateRecord t i)))) ∧
    (∀ start stop tMax, passes t r 0x064C = true → exec (.balanceSetPolicy r start stop tMax) s = .next
      (match firstOf
          [need (decide (2 ≤ start ∧ start ≤ 100)) (blame E_PARAM_RANGE 0x0100), need (decide (1 ≤ stop ∧ stop < start)) (blame E_PARAM_RANGE 0x0101),
             need (decide (20 ≤ tMax ∧ tMax ≤ 70)) (blame E_PARAM_RANGE 0x0102)] with
       | some e => t.refuse r 0x064C e
       | none => State.reply { t with est := { t.est with balStart := start, balStop := stop, tBal := tMax } } r 0x064C OK [])) ∧
    (passes t r 0x064D = true → exec (.balanceRead r) s = .next
      (t.reply r 0x064D OK (t.est.bleed.flatMap (fun (m, f) => leBytes 2 m ++ leBytes 2 f)))) ∧
    (∀ enable gateMin, passes t r 0x064E = true → exec (.estimSetAdapt r enable gateMin) s = .next
      (match firstOf
          [need (decide (52429 ≤ gateMin ∧ gateMin ≤ 65535)) (blame E_PARAM_RANGE 0x0101)] with
       | some e => t.refuse r 0x064E e
       | none => State.reply { t with est := { t.est with adapt := enable, gateMin := gateMin } } r 0x064E OK [])) ∧
    (∀ qfactor watchExit, passes t r 0x064F = true → exec (.estimSetWatch r qfactor watchExit) s = .next
      (match firstOf
          [need (decide (25 ≤ qfactor ∧ qfactor ≤ 75)) (blame E_PARAM_RANGE 0x0100),
             need (decide (600 ≤ watchExit ∧ watchExit ≤ 7200)) (blame E_PARAM_RANGE 0x0101)] with
       | some e => t.refuse r 0x064F e
       | none => State.reply { t with est := { t.est with qfactor := qfactor, watchExit := watchExit } } r 0x064F OK [])))

/-- R187–R206: the Shutter's commands and registers: a contactor request is answered with the outcome of its checks, the derates and floors take effect, a
hazard input is configured, and a bleed enable outside its bounds is refused and counted. -/
def Obligations.ShutterCommandsComplete : Prop :=
  (∀ (r : Req) (s t : State), t = s.at r.at_ →
    (∀ output close u st, passes t r 0x0601 = true → t.contactor (worldOf r) output close = (u, st) → exec (.shutterSetContactor r output close) s = .next
      (match firstOf
          [need (decide (output < 3) || (contactorGate t close).isSome) (blame E_PARAM_RANGE 0x0100)] with
       | some e => t.refuse r 0x0601 e
       | none => u.reply r 0x0601 st [])) ∧
    (∀ b, passes t r 0x0602 = true → exec (.shutterDerate r b) s = .next
      ((t.worldDerate (worldOf r == 2) b).reply r 0x0602 OK [])) ∧
    (∀ pct, passes t r 0x0603 = true → exec (.shutterSetLimpFloor r pct) s = .next
      (match firstOf
          [need (limpOk pct) (blame E_PARAM_RANGE 0x0100)] with
       | some e => t.refuse r 0x0603 e
       | none => (t.setLimp pct).reply r 0x0603 OK [])) ∧
    (∀ preMin preMax, passes t r 0x0604 = true → exec (.shutterSetPrecharge r preMin preMax) s = .next
      (match firstOf
          [need (preMinOk preMin) (blame E_PARAM_RANGE 0x0100), need (preMaxOk preMax) (blame E_PARAM_RANGE 0x0101),
             need (!t.isSet f_SHT_CTRL_LOCK) E_PARAM_CONFLICT] with
       | some e => t.refuse r 0x0604 e
       | none => (t.fputs [(f_SHT_PRE_CFG_PRE_MIN, preMin), (f_SHT_PRE_CFG_PRE_MAX, preMax)]).reply r 0x0604 OK [])) ∧
    (∀ h action openDly filt plaus, passes t r 0x0605 = true → exec (.shutterSetHazard r h action openDly filt plaus) s = .next
      (match firstOf
          [need (t.mode == 2) E_MODE, need (decide (1 ≤ h ∧ h < 4)) (blame E_PARAM_RANGE 0x0100), need (decide (action < 3)) (blame E_PARAM_RANGE 0x0101),
             need (decide (openDly ≤ 1000)) (blame E_PARAM_RANGE 0x0102), need (decide (1 ≤ filt ∧ filt ≤ 100)) (blame E_PARAM_RANGE 0x0103),
             need (decide (1 ≤ plaus ∧ plaus ≤ 255)) (blame E_PARAM_RANGE 0x0104), need (!t.isSet f_SHT_CTRL_LOCK) E_PARAM_CONFLICT] with
       | some e => t.refuse r 0x0605 e
       | none => (t.setHazard h action openDly filt plaus).reply r 0x0605 OK [])) ∧
    (∀ locus mask duty, passes t r 0x0606 = true → exec (.shutterSetBleed r locus mask duty) s = .next
      (match firstOf
          [need (cellLocusOk locus) (blame E_PARAM_RANGE 0x0001), need (decide (mask < 65536)) (blame E_PARAM_RANGE 0x0100),
             need (decide (duty < 256)) (blame E_PARAM_RANGE 0x0101)] with
       | some e => t.refuse r 0x0606 e
       | none => (if bleedOk mask duty = false then t.shtRefused.reply r 0x0606 E_BOUND []
          else match t.ownCell locus with
            | some _ => (t.setBleed (locusRing locus) (locusNode locus) mask duty).reply r 0x0606 OK []
            | none => t.reply r 0x0606 OK []))) ∧
    (passes t r 0x0607 = true → exec (.shutterRead r) s = .next
      (t.reply r 0x0607 OK
      (w4 t r_SHT_STATUS ++ w4 t r_SHT_HZ_STAT ++ w4 t r_SHT_HOLD ++ leBytes 4 (dwellWord t) ++ w4 t r_LIM_PUB)))) ∧
  (∀ (w : Wr) (s t : State), t = s.at w.at_ →
    (admitted t w r_SHT_CTC_CMD = true → w.value % 4 = 3 → exec (.contactorRegisterRequest w) s = .next t) ∧
    (∀ o u st world, admitted t w r_SHT_CTC_CMD = true → o = w.value % 4 → o < 3 → world = (if operatorCls w.cls then 2 else 1) →
      t.contactor world o (bit w.value 8) = (u, st) → exec (.contactorRegisterRequest w) s = .next (u.fputs [(f_SHT_CTC_RESULT_VALID, 1),
        (f_SHT_CTC_RESULT_WORLD, world), (f_SHT_CTC_RESULT_STATE, flag (bit w.value 8)), (f_SHT_CTC_RESULT_STATUS, st)])) ∧
    (∀ op, admitted t w (if op then r_SHT_DERATE_OP else r_SHT_DERATE_CU) = true → exec (.derateBitWrite w op) s = .next (t.worldDerate op (bit w.value 0))) ∧
    (admitted t w r_SHT_LIMP = true → exec (.limpRegisterWrite w) s = .next (if limpOk (w.value % 32) = true then t.setLimp (w.value % 32) else t)) ∧
    (∀ ring node, admitted t w (r_SHT_BLEED ring node) = true → exec (.bleedRegisterWrite w ring node) s = .next
      (if 8 ≤ ring ∨ 16 ≤ node ∨ t.mode = 4 then t
       else if bleedOk (w.value % 65536) (w.value / 65536 % 256) = true then t.setBleed ring node (w.value % 65536) (w.value / 65536 % 256) else t.shtRefused)))

/-- R188–R203: what the Shutter does at an edge or a time: hazards, feedback, chatter, precharge; each change leaves its record. An edge of a Shutter that is
without power is none. -/
def Obligations.ShutterEventsComplete : Prop :=
  ∀ (at_ : Nat) (s t : State), t = s.at at_ →
    exec (.prechargeAutoOpen at_) s = .next (if t.outClosed 2 = true ∧ t.sht.preAt ≤ t.sht.mposAt ∧ t.sht.mposAt + 20 * ticksPerMs ≤ t.now ∧
      at! t.sht.changed 0 never ≠ never then t.setOut 2 false 3 else t) ∧
    exec (.prechargeTimeout at_) s = .next (if t.outClosed 2 = true ∧ t.outClosed 0 = false ∧
      t.sht.preAt + t.fget f_SHT_PRE_CFG_PRE_MAX * 10 * ticksPerMs ≤ t.now then (t.raise f_SHT_IRQ_PRETIMEOUT).setOut 2 false 4 else t) ∧
    (∀ h, exec (.hazardAssert at_ h) s = .next (if h < 4 ∧ t.pwr.up = true then t.hazardAssert h else t)) ∧
    (∀ h rose, exec (.hazardClear at_ ⟨h, rose⟩) s = .next (if h < 4 ∧ t.pwr.up = true then t.hazardClear h rose else t)) ∧
    (∀ h, exec (.hazardOpen at_ h) s = .next (t.hazardOpen h)) ∧
    (∀ h, exec (.hazardStuck at_ h) s = .next (if h < 4 ∧ t.hazardOn h = true ∧ t.bitOf f_SHT_HZ_STAT_STUCK h = false ∧
      max (at! t.sht.assertAt h 0) t.sht.overAt + t.fget (f_SHT_HZ_CFG_PLAUS h) * 100 * ticksPerMs ≤ t.now
      then ((t.putBit f_SHT_HZ_STAT_STUCK h true).raise f_SHT_IRQ_STUCK).outRecord 7 h t.currentWord else t)) ∧
    (∀ o, exec (.cfaultSet at_ o) s = .next (if t.pwr.up = true ∧ o < 3 ∧ t.isSet f_SHT_CTRL_FBCHK = true ∧ t.bitOf f_SHT_IN_STAT_CHATTER o = false ∧
      t.bitOf f_SHT_STATUS_CFAULT o = false then
        (((t.putBit f_SHT_STATUS_CFAULT o true).putBit f_SHT_IN_STAT_FB o (!t.outClosed o)).raise f_SHT_IRQ_CFAULT).outRecord 8 o t.currentWord else t)) ∧
    (∀ o, exec (.cfaultClear at_ o) s = .next (if t.pwr.up = true ∧ o < 3 ∧ t.bitOf f_SHT_IN_STAT_CHATTER o = false ∧ t.bitOf f_SHT_STATUS_CFAULT o = true then
        (((t.putBit f_SHT_STATUS_CFAULT o false).putBit f_SHT_IN_STAT_FB o (t.outClosed o)).raise f_SHT_IRQ_CFAULT).outRecord 8 o t.currentWord else t)) ∧
    (∀ o, exec (.chatterDeclare at_ o) s = .next
      (if t.pwr.up = true ∧ o < 3 then (t.putBit f_SHT_IN_STAT_CHATTER o true).raise f_SHT_IRQ_CHATTER else t)) ∧
    (∀ o edges closed, exec (.chatterEnd at_ o edges closed) s = .next (if t.pwr.up = true ∧ o < 3 ∧ t.bitOf f_SHT_IN_STAT_CHATTER o = true then
      ((t.putBit f_SHT_IN_STAT_CHATTER o false).putBit f_SHT_IN_STAT_FB o closed).outRecord 9 o (edges % 2 ^ 32) else t))

/-- R155–R162: the limit arbiter: bases, caps, their relaxation by the custody world, the read and the publication's address, which must not be an identifier of its channel (R444) nor be locked (R564). -/
def Obligations.LimitsComplete : Prop :=
  (∀ (w : Wr) (s t : State) (discharge : Bool), t = s.at w.at_ →
    (∀ a u, a = (if discharge then r_LIM_BASE_DIS else r_LIM_BASE_CHG) → admitted t w a = true → u = t.writeWord a w.value →
      exec (.limitBaseWrite w discharge) s = .next
        { u with lim := { u.lim with wroteChg := u.lim.wroteChg || !discharge, wroteDis := u.lim.wroteDis || discharge } }) ∧
    (∀ op v l, admitted t w (capReg (capIdx op discharge)) = true → v = w.value % 65536 → l = w.value / 65536 % 65536 →
      exec (.limitCapWrite w op discharge) s = .next
        (if lifeOk l = false then t else if capRefused t op discharge v = true then t.opRefused else t.tighten op discharge v l))) ∧
  (∀ (r : Req) (s t : State) (discharge : Bool), t = s.at r.at_ →
    (∀ value life, passes t r 0x0640 = true → exec (.limitTighten r discharge value life) s = .next
      (match firstOf
          [need (decide (value < 65536)) (blame E_PARAM_RANGE 0x0101), need (lifeOk life) (blame E_PARAM_RANGE 0x0102)] with
       | some e => t.refuse r 0x0640 e
       | none => (if capRefused t (worldOf r == 2) discharge value = true then t.opRefused.reply r 0x0640 E_WORLD []
          else (t.tighten (worldOf r == 2) discharge value life).reply r 0x0640 OK []))) ∧
    (∀ value, passes t r 0x0641 = true → exec (.limitRelax r discharge value) s = .next
      (match firstOf
          [need (t.mode != 4) E_MODE, need (match value with | some v => decide (v < 65536) | none => true) (blame E_PARAM_RANGE 0x0101),
             need (value.isNone || (t.cap (capIdx false discharge)).isSome) (blame E_PARAM_CONFLICT 0x0101)] with
       | some e => t.refuse r 0x0641 e
       | none => (State.putCap (match value, t.cap (capIdx false discharge) with
            | some v, some (_, e) => t.putCap (capIdx false discharge) (some (v, e))
            | _, _ => t.putCap (capIdx false discharge) none) (capIdx true discharge) none).reply r 0x0641 OK [])) ∧
    (passes t r 0x0642 = true → exec (.limitRead r) s = .next
      (t.reply r 0x0642 OK (leBytes 2 t.lim.base.1 ++ leBytes 2 t.lim.base.2 ++
      (List.range 4).flatMap (fun i => leBytes 4 (capWord t i)) ++ w4 t r_LIM_REQ ++ t.lim.frame))) ∧
    (∀ chan ident ide, passes t r 0x0643 = true → exec (.limitSetPublication r chan ident ide) s = .next
      (match firstOf
          [need (decide (chan < 2)) (blame E_PARAM_RANGE 0x0100), need (decide (ident < (if ide then 2 ^ 29 else 2 ^ 11))) (blame E_PARAM_RANGE 0x0101),
             need (!t.isSet f_LIM_CTRL_LOCK) E_PARAM_CONFLICT, need (!namesChannelId t chan ident ide) (blame E_PARAM_CONFLICT 0x0101)] with
       | some e => t.refuse r 0x0643 e
       | none => (t.fputs [(f_LIM_PUB_CFG_CHAN, chan), (f_LIM_PUB_CFG_IDE, flag ide), (f_LIM_PUB_CFG_ID, ident)]).reply r 0x0643 OK [])))

/-- R343–R361, R402: the flash array: operations through the registers and through the firmware channel, their end, and the commands that read the array and
its controller. Whether an operation starts is the controller's own check (`flashStart`, R348); its status is the reply's. -/
def Obligations.FlashCompletes : Prop :=
  (∀ (w : Wr) (s t : State) (bank : Option Nat), t = s.at w.at_ → admitted t w r_FLC_CMD = true →
    (bit w.value 31 = true → t.isSet f_FLC_CMD_BUSY = true →
      (w.value % 16 = 1 → exec (.flashOpProgram w bank) s = .next ((t.bump f_FLC_REFUSED_VALUE).raise f_FLC_IRQ_REFUSED)) ∧
      (w.value % 16 = 2 → exec (.flashOpErase w bank) s = .next ((t.bump f_FLC_REFUSED_VALUE).raise f_FLC_IRQ_REFUSED)) ∧
      (w.value % 16 = 3 → exec (.flashOpVerify w bank) s = .next ((t.bump f_FLC_REFUSED_VALUE).raise f_FLC_IRQ_REFUSED)) ∧
      (w.value % 16 = 4 → exec (.flashOpSelect w bank) s = .next ((t.bump f_FLC_REFUSED_VALUE).raise f_FLC_IRQ_REFUSED))) ∧
    (∀ go : Nat → State, bit w.value 31 = true → t.isSet f_FLC_CMD_BUSY = false → go = (fun op =>
      let u := t.fputs [(f_FLC_CMD_MARGIN, w.value / 1024 % 4), (f_FLC_CMD_OP, op)]
      (u.flashStart bank ⟨op, u.regN r_FLC_ADDR, u.regN r_FLC_LEN, u.regN r_FLC_SRC, w.value / 1024 % 4, [], none⟩ false).1) →
      (w.value % 16 = 1 → exec (.flashOpProgram w bank) s = .next (go 1)) ∧
      (w.value % 16 = 2 → exec (.flashOpErase w bank) s = .next (go 2)) ∧
      (w.value % 16 = 3 → exec (.flashOpVerify w bank) s = .next (go 3)) ∧
      (w.value % 16 = 4 → exec (.flashOpSelect w bank) s = .next (go 4))) ∧
    (bit w.value 31 = false → exec (.flashOpProgram w bank) s = .next t ∧ exec (.flashOpErase w bank) s = .next t ∧
      exec (.flashOpVerify w bank) s = .next t ∧ exec (.flashOpSelect w bank) s = .next t)) ∧
  (∀ (w : Wr) (s t : State), t = s.at w.at_ → admitted t w r_FLC_BANK = true →
    exec (.bankRelease w) s = .next (t.releaseBanks (w.value / 256 % 256))) ∧
  (∀ (at_ : Nat) (s t : State), t = s.at at_ → (∀ fail intent, exec (.flashOpComplete at_ ⟨fail, intent⟩) s = .next (t.flashComplete fail intent)) ∧
    (∀ bank, exec (.flashResume at_ bank) s = .next (if bank < 8 then t.putBit f_FLC_STATUS_SUSP bank false else t))) ∧
  (∀ (r : Req) (s t : State), t = s.at r.at_ →
    (∀ addr len settled, passes t r 0x0A01 = true →
      settled = (sectorsOf addr len).all (fun a => t.bitOf f_FLC_STATUS_RELEASED (bankOf a) && !t.unsettledAt a) →
      exec (.flashRead r addr len) s = .next
      (match firstOf [need (inFlash addr) (blame E_PARAM_RANGE 0x0100), need (decide (1 ≤ len ∧ len ≤ 61440 ∧ addr + len ≤ 0x05000000)) (blame E_PARAM_RANGE 0x0101),
          need (decide (twinBase 0 ≤ addr ∧ addr + len ≤ twinBase 0 + 128) || decide (twinBase 1 ≤ addr ∧ addr + len ≤ twinBase 1 + 128) || settled)
            E_SECTOR_UNSETTLED] with
       | some e => t.refuse r 0x0A01 e
       | none => (((sectorsOf addr len).foldl (fun u a => u.flashTouched a) t).checkRead addr len).1.reply r 0x0A01 OK (t.peek addr len))) ∧
    (∀ bank addr data u st, passes t r 0x0A02 = true → t.flashStart bank ⟨1, addr, data.length, 0, 0, data, some (r, 0x0A02)⟩ true = (u, st) → exec (.flashProgram r bank addr data) s = .next
      (match firstOf [need (!t.isSet f_FLC_CMD_BUSY) E_BUSY, need (t.fget f_CPR_STATUS_STAGE != 3 || decide (flashBase ≤ addr ∧ addr + data.length ≤ flashBase + 66 * 0x1000)) E_MODE] with
       | some e => t.refuse r 0x0A02 e
       | none => match st with
          | some x => u.reply r 0x0A02 x (if x = E_PARAM_RANGE then leBytes 2 (flashFault 1 addr 0) else [])
          | none => u)) ∧
    (∀ bank addr n u st, passes t r 0x0A03 = true → t.flashStart bank ⟨2, addr, n * 0x1000, 0, 0, [], some (r, 0x0A03)⟩ true = (u, st) → exec (.flashErase r bank addr n) s = .next
      (match firstOf [need (!t.isSet f_FLC_CMD_BUSY) E_BUSY, need (t.fget f_CPR_STATUS_STAGE != 3 || decide (flashBase ≤ addr / 0x1000 * 0x1000 ∧ addr / 0x1000 * 0x1000 + n * 0x1000 ≤ flashBase + 66 * 0x1000)) E_MODE] with
       | some e => t.refuse r 0x0A03 e
       | none => match st with
          | some x => u.reply r 0x0A03 x (if x = E_PARAM_RANGE then leBytes 2 (flashFault 2 addr 0) else [])
          | none => u)) ∧
    (∀ addr len margin data u st, passes t r 0x0A04 = true → t.flashStart none ⟨3, addr, len, 0, margin, data, some (r, 0x0A04)⟩ true = (u, st) → exec (.flashVerify r addr len margin data) s = .next
      (match firstOf [need (!t.isSet f_FLC_CMD_BUSY) E_BUSY, need (margin != 1 || data.length == len) (blame E_PARAM_RANGE 0x0008)] with
       | some e => t.refuse r 0x0A04 e
       | none => match st with
          | some x => u.reply r 0x0A04 x (if x = E_PARAM_RANGE then leBytes 2 (flashFault 3 addr margin) else [])
          | none => u)) ∧
    (∀ bank twinB v u st, passes t r 0x0A05 = true → t.flashStart bank ⟨4, twinBase (flag twinB), 0, v, 0, [], some (r, 0x0A05)⟩ true = (u, st) → exec (.flashActivateTwin r bank twinB v) s = .next
      (match firstOf [need (!t.isSet f_FLC_CMD_BUSY) E_BUSY, need (imageSigned t (flag twinB) && digestOk t (flag twinB)) E_VERIFY] with
       | some e => t.refuse r 0x0A05 e
       | none => match st with
          | some x => u.reply r 0x0A05 x (if x = E_PARAM_RANGE then leBytes 2 (flashFault 4 (twinBase (flag twinB)) 0) else [])
          | none => u)) ∧
    (passes t r 0x0A06 = true → exec (.flashReadStatus r) s = .next
      (t.reply r 0x0A06 OK (w4 t r_FLC_STATUS ++ w4 t r_FLC_SELECT ++ w4 t r_FLC_IMGVER ++
      w4 t r_FLC_BANK ++ (List.range 8).flatMap (fun b => w4 t (r_FLC_JSTAT b))))))

/-- R207–R234: the ledger: its control register, the assembly of a block and a seal, the archive device, and the commands of class 0x07. -/
def Obligations.LedgerCompletes : Prop :=
  (∀ (w : Wr) (s t : State), t = s.at w.at_ → admitted t w r_LDG_CTRL = true → exec (.ledgerEnable w) s = .next (t.ledgerControl w.value)) ∧
  (∀ (at_ : Nat) (s t : State), t = s.at at_ →
    exec (.blockAssembly at_) s = .next t.assembleDue.ledgerNext ∧
    exec (.sealComplete at_) s = .next t.sealComplete.ledgerNext ∧
    (∀ ok, arcRunning t = false ∨ t.ldg.arc.queue = [] → exec (.archiveEntryWrite at_ ok) s = .next t) ∧
    (∀ x rest, arcRunning t = true → t.ldg.arc.queue = x :: rest → exec (.archiveEntryWrite at_ true) s = .next (t.arcWrite x rest) ∧
      exec (.archiveEntryWrite at_ false) s = .next (t.arcFail x)) ∧
    exec (.archiveFault at_) s = .next (if arcRunning t = true ∧ t.ldg.arc.queue.isEmpty = false ∧ t.ldg.arc.last + 10 * ticksPerS ≤ t.now then t.putArcState 2 else t) ∧
    (∀ mib unit64 device, exec (.archiveRetry at_ mib unit64 device) s = .next
      (if t.fget f_LDG_STATUS_ARC_STATE = 2 then t.discoverArchive mib unit64 device else t))) ∧
  (∀ (r : Req) (s t : State), t = s.at r.at_ →
    (passes t r 0x0701 = true → exec (.ledgerSealNow r) s = .next
      (match firstOf
          [need (decide (1 ≤ t.lc ∧ t.lc ≤ 3)) E_LIFECYCLE,
             need (t.ldg.jobs.isEmpty && t.ldg.head.isSome && (t.ldg.sealAt == never || decide (t.ldg.sealAt + ticksPerS ≤ t.now))) E_BUSY] with
       | some e => t.refuse r 0x0701 e
       | none => t.askSeal 1 0 (t.now + 2 * ticksPerS) (some (r, 0x0701)))) ∧
    (passes t r 0x0702 = true → exec (.ledgerReadHead r) s = .next
      (t.reply r 0x0702 OK (match t.ldg.head with
      | some (seq, stamp, h) => leBytes 8 seq ++ leBytes 8 stamp ++ hashBytes h ++ leBytes 4 (t.ldg.chain.getD 0) ++ leBytes 8 (t.ldg.sealSeq - 1)
      | none => zeros 76))) ∧
    (∀ first last, passes t r 0x0703 = true → exec (.ledgerReadSeals r first last) s = .next
      (match firstOf
          [need (decide (t.ldg.sealSeq ≤ first + 64)) (blame E_PARAM_RANGE 0x0100),
             need (decide (first ≤ last ∧ last < t.ldg.sealSeq)) (blame E_PARAM_RANGE 0x0101)] with
       | some e => t.refuse r 0x0703 e
       | none => ((List.range (last + 1 - first)).foldl (fun u i => (u.checkRead (0x04DC0000 + (first + i) % 64 * 0x1000) 3616).1) t).reply r 0x0703 OK
          ((List.range (last + 1 - first)).flatMap (fun i => t.peek (0x04DC0000 + (first + i) % 64 * 0x1000) 3616)))) ∧
    (∀ log first size, passes t r 0x0704 = true → exec (.ledgerReadArchive r log first size) s = .next
      (match firstOf
          [need (decide (log < 3)) (blame E_PARAM_RANGE 0x0100),
             need (match (at! t.ldg.arc.logs log emptyLog).entries.head? with | some e => decide (e.lseq ≤ first) | none => decide ((at! t.ldg.arc.logs log emptyLog).next ≤ first)) (blame E_PARAM_RANGE 0x0101),
             need (decide (size ≤ 61440)) (blame E_PARAM_RANGE 0x0102)] with
       | some e => t.refuse r 0x0704 e
       | none => t.reply r 0x0704 OK (takeEntries t ((at! t.ldg.arc.logs log emptyLog).entries.filter (fun e => decide (first ≤ e.lseq))) size))) ∧
    (∀ log lseq l, passes t r 0x0705 = true → l = at! t.ldg.arc.logs log emptyLog → exec (.ledgerAckOffload r log lseq) s = .next
      (match firstOf
          [need (decide (log < 3)) (blame E_PARAM_RANGE 0x0100), need (decide (lseq < (at! t.ldg.arc.logs log emptyLog).next)) (blame E_PARAM_RANGE 0x0101)] with
       | some e => t.refuse r 0x0705 e
       | none => (State.putFill (t.setArc { t.ldg.arc with
          logs := setAt t.ldg.arc.logs log { l with ack := max l.ack (lseq + 1) } })).reply r 0x0705 OK [])) ∧
    (∀ blocks events seals, passes t r 0x0706 = true → exec (.ledgerSetArchive r blocks events seals) s = .next
      (match firstOf
          [need (t.mode == 2 || t.mode == 3) E_MODE, need (decide (1 ≤ blocks)) (blame E_PARAM_RANGE 0x0100),
             need (decide (1 ≤ events)) (blame E_PARAM_RANGE 0x0101), need (decide (1 ≤ seals)) (blame E_PARAM_RANGE 0x0102),
             need (blocks + events + seals == 16) E_PARAM_RANGE,
             need (t.ldg.arc.logs.all (fun l => l.entries.all (fun e => decide (e.lseq < l.ack)))) E_PARAM_CONFLICT] with
       | some e => t.refuse r 0x0706 e
       | none => State.reply (if t.ldg.arc.size = 0 then t.setArc { t.ldg.arc with shares := (blocks, events, seals) }
          else t.formatArchive t.ldg.arc.size t.ldg.arc.ulog (blocks, events, seals)) r 0x0706 OK [])) ∧
    (passes t r 0x0707 = true → exec (.leaseReadTallies r) s = .next
      (t.reply r 0x0707 OK
      (t.ldg.headMeter.take 16 ++ (t.ldg.headMeter.drop 48).take 16 ++ t.ldg.headModes))) ∧
    (∀ newRoot, passes t r 0x0708 = true → match firstOf
        [need (t.lc == 2) E_LIFECYCLE, need (t.mode == 2) E_MODE, need (decide (newRoot < 2 ^ 384)) (blame E_PARAM_RANGE 0x0100),
           need (!t.evidenceNow) E_KEY_EMPTY] with
      | some e => exec (.ledgerHandoverPrepare r newRoot) s = .next (t.refuse r 0x0708 e)
      | none => ∃ (u : State) (body : List Byte) (x : Handover), exec (.ledgerHandoverPrepare r newRoot) s = .next (u.reply r 0x0708 OK body) ∧
        u.ldg.handover = some x ∧ x.nonce = t.draw 128 ∧ x.expiry = t.now + 600 * ticksPerS ∧ u.fget f_LDG_STATUS_HOPREP = 1 ∧ u.mem = t.mem))

/-- R265, R267, R268, R279, R280, R290–R292, R299–R302, R325, R330, R342: writes of the engines', the vats', the core block's and the gates' registers that have rows
of their own. A row names the bit that its write sets; the value's other bits are as written. A write of a window or of a violation log by another than its
writer is refused and counted. -/
def Obligations.EngineRegistersComplete : Prop :=
  ∀ (w : Wr) (s t : State), t = s.at w.at_ →
    (∀ e, e < 256 → admitted t w (r_LE_CTRL e) = true →
      exec (.leRun w e) s = .next (t.laneControl e (w.value ||| 1)) ∧ exec (.leStep w e) s = .next (t.laneControl e (w.value ||| 2)) ∧
      exec (.leSuspend w e) s = .next (t.laneControl e (w.value ||| 4)) ∧ exec (.leSkip w e) s = .next (t.laneControl e (w.value ||| 0x11)) ∧
      exec (.leReset w e) s = .next (t.laneControl e (w.value ||| 8))) ∧
    (∀ e, e < 256 → admitted t w (r_LE_STR_POS e) = true → exec (.streamReplay w e) s = .next (t.replay e w.value)) ∧
    (∀ e, e < 256 → admitted t w (r_LE_EMU_CTL e) = true → exec (.emuDepositArm w e) s = .next (t.emuControl e (w.value ||| 2 ^ 31))) ∧
    (∀ v, admitted t w (r_VAT_DT_CMD v) = true → exec (.dtCommit w v) s = .next (t.dtCommand v (2 ^ 31 + 2 ^ 28 + w.value % 2 ^ 28)) ∧
      exec (.dtRetire w v) s = .next (t.dtCommand v (2 ^ 31 + 2 ^ 29 + w.value % 2 ^ 28))) ∧
    (∀ v, admitted t w (r_VAT_LTRAP v) = true → exec (.ltrapAck w v) s = .next (t.ackTrap v (w.value ||| 2 ^ 31))) ∧
    (∀ v, admitted t w (r_VAT_CTRL v) = true → exec (.vceReset w v) s = .next (t.vatControl v (w.value ||| 4))) ∧
    (∀ ctx i, ctx < 8 → i < 8 → admitted t w (r_CORE_RGN_HI ctx i) = true → exec (.regionCommit w ctx i) s = .next (t.commitRegion w ctx i)) ∧
    (∀ g, g < 256 → admitted t w (r_CORE_GATE g 0) = true →
      exec (.gateEntryCommit w g) s = .next (t.writeGate { w with value := w.value % 2 ^ 31 + 2 ^ 31 } g 0)) ∧
    (∀ world, world < 2 → admitted t w (r_TG_VPOP world) = true → exec (.violationPop w world) s = .next
      (if logWriter t w world = true then (if bit w.value 0 = true then t.popNotice world else t) else t.bump f_TG_WR_REFUSED_COUNT)) ∧
    (∀ i lo base last, admitted t w (r_TG_WIN_HI i) = true → lo = at! t.gates.staged i 0 → base = bitsOf lo 12 20 → last = w.value / 4096 % 2 ^ 20 →
      exec (.windowCommit w i) s = .next
      (if ringCtx01 (wrAcc w 0) = true ∧ t.isSet f_CORE_STATUS_WMODE = false ∧ t.isSet f_TG_CTRL_LOCK = false ∧ i < 16 ∧ base ≤ last ∧
          (generalArea base).isSome = true ∧ generalArea base = generalArea last
       then ((t.setReg (r_TG_WIN_LO i) lo).fput (f_TG_WIN_HI_LAST i) last).fput (f_TG_WIN_HI_EN i) (w.value % 2)
       else t.bump f_TG_WR_REFUSED_COUNT)) ∧
    (admitted t w r_FLT_DECLARE = true → exec (.faultDeclare w) s = .next
      (if w.value / 2 ^ 30 % 4 = 1 then t.laneFault (w.value % 256) 0 none else if w.value / 2 ^ 30 % 4 = 2 then t.vceFault (w.value % 16) else t))

/-- R263–R292, R306–R317, R332–R341, R503–R507: what happens to the engines, the vats, the custody pairs, the memories and the link by themselves. -/
def Obligations.EngineEventsComplete : Prop :=
  ∀ (at_ : Nat) (s t : State), t = s.at at_ →
    (∀ v, exec (.ltrapTaken at_ v) s = .next (t.takeLtrap v)) ∧
    (∀ v job, exec (.jobRelease at_ v job) s = .next (t.releaseJob v job) ∧ exec (.jobPromote at_ v job) s = .next (t.promoteJob v job) ∧
      exec (.jobDeadlineMiss at_ v job) s = .next (t.missJob v job)) ∧
    (∀ e, exec (.checkpointMiss at_ e) s = .next (t.missCheckpoint e)) ∧
    (∀ e cause bad, exec (.laneFault at_ e cause bad) s = .next (t.laneFault e cause bad)) ∧
    (∀ v, exec (.vceFault at_ v) s = .next (t.vceFault v)) ∧
    (∀ pair addr, exec (.pairMismatch at_ pair addr) s = .next (if pair < 2 ∧ t.pairLost pair = false then t.losePair pair (addr % 2 ^ 32) else t)) ∧
    (∀ pair, exec (.interruptTaken at_ pair) s = .next (t.takeInterrupt pair)) ∧
    (∀ pair, exec (.holdOverrun at_ pair) s = .next (t.overrunHold pair)) ∧
    exec (.sliceSwitch at_) s = .next t.switchSlice ∧
    (∀ bank, exec (.sramBankInitialised at_ bank) s = .next (t.bankReady bank)) ∧
    (∀ bank a b, exec (.sramControllerFault at_ bank a b) s = .next (t.controllerFault bank a b)) ∧
    (∀ kind index, exec (.complementaryPairFault at_ kind index) s = .next (t.pairFault kind index)) ∧
    exec (.d2dSessionStart at_) s = .next t.hello ∧
    (∀ nonceC mac, exec (.d2dHelloReply at_ nonceC mac) s = .next (t.helloReply nonceC mac)) ∧
    (∀ counter mac toCellar payload, exec (.d2dTransfer at_ counter mac toCellar payload) s = .next (t.transfer counter mac toCellar payload)) ∧
    exec (.d2dLinkDrop at_) s = .next t.linkLost

/-- R450–R464: the service port: its activation, the block protocol and the S-block functions. A function that the port's set and lock admit runs; a wrong
password is counted before it is compared (R460). `svcAt` first ends what the port owed at that moment. -/
def Obligations.ServicePortCompletes : Prop :=
  (∀ (at_ : Nat) (s t : State), t = s.svcAt at_ →
    (∀ mv b c, b = decide (2700 ≤ mv ∧ mv ≤ 3300) → c = decide (1620 ≤ mv ∧ mv ≤ 1980) → exec (.serviceActivation at_ mv) s = .next
      (if b = false ∧ c = false then t else
      ((State.fputs (t.setSvc
        { t.svc with atr := true, mode := atrMode t, nsHost := 0, nsPart := 0, chain := [], replies := [], last := atrBytes, failures := 0, owed := false, unlocked := false })
        [(f_SVC_STATUS_CLASS, flag c), (f_SVC_STATUS_DI, 0), (f_SVC_STATUS_CLKSTOP, 0),
        (f_SVC_STATUS_BUSY, 0)]).orReg r_SVC_IRQ 1).svcCopy)) ∧
    (∀ v, t.svc.atr = true → 0x11 ≤ v → v ≤ 0x13 → exec (.pps at_ 14 (some v)) s = .next
      ((t.svcSend [0xFF#8, 0x1E#8, BitVec.ofNat 8 v, 0xFF#8 ^^^ 0x1E#8 ^^^ BitVec.ofNat 8 v]).fput f_SVC_STATUS_DI (v - 0x11))) ∧
    (∀ k p, t.svc.atr = true → (∀ v, p = some v → ¬ (k = 14 ∧ 0x11 ≤ v ∧ v ≤ 0x13)) → exec (.pps at_ k p) s = .next
      ((t.svcSend [0xFF#8, BitVec.ofNat 8 (k % 16), 0xFF#8 ^^^ BitVec.ofNat 8 (k % 16)]).fput f_SVC_STATUS_DI 0)) ∧
    (∀ inf, t.svc.atr = true →
      exec (.resynch at_ inf) s = .next (match svcRefusal t 1 inf with | some e => t.svcAnswer 1 (statusInf e (svcPad 1)) | none => svcResynch t)) ∧
    (∀ inf, t.svc.atr = true → t.svc.failures < 3 →
      exec (.poll at_ inf) s = .next (match svcRefusal t 2 inf with | some e => t.svcAnswer 2 (statusInf e (svcPad 2)) | none => svcPoll t) ∧
      exec (.status at_ inf) s = .next (match svcRefusal t 3 inf with | some e => t.svcAnswer 3 (statusInf e (svcPad 3)) | none => svcStatus t) ∧
      exec (.unlock at_ inf) s = .next (match svcRefusal t 4 inf with | some e => t.svcAnswer 4 (statusInf e (svcPad 4)) | none => svcUnlock inf t) ∧
      exec (.forcedErase at_ inf) s = .next (match svcRefusal t 5 inf with | some e => t.svcAnswer 5 (statusInf e (svcPad 5)) | none => svcErase inf t) ∧
      exec (.areaRead at_ inf) s = .next (match svcRefusal t 6 inf with | some e => t.svcAnswer 6 (statusInf e (svcPad 6)) | none => svcAreaRead inf t) ∧
      exec (.areaWrite at_ inf) s = .next (match svcRefusal t 7 inf with | some e => t.svcAnswer 7 (statusInf e (svcPad 7)) | none => svcAreaWrite inf t)) ∧
    (∀ inf, t.svc.atr = true → 3 ≤ t.svc.failures → exec (.poll at_ inf) s = .next t ∧ exec (.status at_ inf) s = .next t ∧ exec (.unlock at_ inf) s = .next t ∧
      exec (.forcedErase at_ inf) s = .next t ∧ exec (.areaRead at_ inf) s = .next t ∧ exec (.areaWrite at_ inf) s = .next t) ∧
    (∀ len inf, t.svc.atr = true → t.svc.failures < 3 → len ≠ 255 → inf.length = len →
      exec (.serviceBlockReceived at_ 0x20 len inf true true) s = .next (if t.svc.nsHost = 0 then t.svcI true inf else t.svcBad 2) ∧
      exec (.serviceBlockReceived at_ 0x00 len inf true true) s = .next (if t.svc.nsHost = 0 then t.svcI false inf else t.svcBad 2) ∧
      exec (.serviceBlockReceived at_ 0x60 len inf true true) s = .next (if t.svc.nsHost = 1 then t.svcI true inf else t.svcBad 2) ∧
      exec (.serviceBlockReceived at_ 0x40 len inf true true) s = .next (if t.svc.nsHost = 1 then t.svcI false inf else t.svcBad 2) ∧
      (∀ n e, n < 2 → e < 3 → exec (.serviceBlockReceived at_ (0x80 + 16 * n + e) len inf true true) s = .next (t.svcAck n e)) ∧
      exec (.serviceBlockReceived at_ 0xE0 len inf true true) s = .next t) ∧
    (∀ len inf f, t.svc.atr = true → len ≠ 255 → inf.length = len → f < 32 → exec (.serviceBlockReceived at_ (0xC0 + f) len inf true true) s = .next
      (if 1 ≤ f ∧ f ≤ 7 then t.svcDispatch at_ f inf else t.svcBad 2)) ∧
    (∀ pcb len inf, t.svc.atr = true → len = 255 ∨ inf.length ≠ len → exec (.serviceBlockReceived at_ pcb len inf true true) s = .next (t.svcBad 2)) ∧
    (∀ pcb len inf edc parity, t.svc.atr = true → edc = false ∨ parity = false → exec (.serviceBlockReceived at_ pcb len inf edc parity) s = .next (t.svcBad 1)) ∧
    (t.svc.atr = true → exec (.serviceCwtTimeout at_) s = .next (t.svcBad 1)) ∧
    (∀ u inside, t.svc.atr = true → u = t.fput f_SVC_STATUS_CLKSTOP 1 → exec (.clockStop at_ false inside) s = .next (if inside = true then u.svcBad 1 else u)) ∧
    (∀ u inside, t.svc.atr = true → u = t.fput f_SVC_STATUS_CLKSTOP 0 →
      exec (.clockStop at_ true inside) s = .next (if u.svc.cmdOut = true ∧ u.svc.owed = true then u else (u.fput f_SVC_STATUS_BUSY 0).svcPump)) ∧
    exec (.deactivation at_) s = .next t.svcOff ∧
    (∀ k p inf pcb len edc parity restart inside, t.svc.atr = false → exec (.pps at_ k p) s = .next t ∧ exec (.resynch at_ inf) s = .next t ∧
      exec (.poll at_ inf) s = .next t ∧ exec (.status at_ inf) s = .next t ∧ exec (.unlock at_ inf) s = .next t ∧
      exec (.forcedErase at_ inf) s = .next t ∧ exec (.areaRead at_ inf) s = .next t ∧ exec (.areaWrite at_ inf) s = .next t ∧
      exec (.serviceBlockReceived at_ pcb len inf edc parity) s = .next t ∧ exec (.serviceCwtTimeout at_) s = .next t ∧
      exec (.clockStop at_ restart inside) s = .next t)) ∧
  (∀ (at_ : Nat) (s t : State), t = s.at at_ →
    exec (.serviceBusy at_) s = .next
      (if t.svc.atr = true ∧ (t.svc.owed = true ∨ t.svc.writing.isSome = true) then t.fput f_SVC_STATUS_BUSY 1 else t) ∧
    (∀ whole torn, t.svc.writing = none → exec (.serviceProbeRemoval at_ whole torn) s = .next t.svcOff) ∧
    (∀ whole torn w, t.svc.writing = some w → exec (.serviceProbeRemoval at_ whole torn) s = .next
      (if t.cel.main = true ∨ (w.data.length ≤ whole ∧ torn = false) then (t.finishWrite w).svcOff else (t.tearWrite w whole torn).svcOff))) ∧
  (∀ (r : Req) (s t : State), t = s.at r.at_ →
    (passes t r 0x0D06 = true → exec (.serviceReadConfig r) s = .next
      (t.reply r 0x0D06 OK
      (w4 t r_SVC_CTRL ++ w4 t r_SVC_STATUS ++ w4 t r_SVC_LASTWR ++ leBytes 4 (undefMask t 0) ++ leBytes 4 (undefMask t 32)))) ∧
    (∀ password, passes t r 0x0D07 = true → exec (.serviceSetPassword r password) s = .next
      (match firstOf
          [need (match password with | some p => decide (p < 2 ^ 64) | none => true) (blame E_LENGTH 0x0100)] with
       | some e => t.refuse r 0x0D07 e
       | none => ((t.setSvc { t.svc with
          password := password, attempts := 0, lockout := false, unlocked := t.svc.atr && !svcPwLocked t }).svcCopy).reply r 0x0D07 OK [])) ∧
    (∀ first count rs, passes t r 0x0D08 = true → rs = (List.range count).map (fun i => areaRead t (first + i)) → exec (.serviceReadArea r first count) s = .next
      (match firstOf
          [need (decide (first < 64)) (blame E_PARAM_RANGE 0x0100), need (decide (1 ≤ count ∧ first + count ≤ 64)) (blame E_PARAM_RANGE 0x0101)] with
       | some e => t.refuse r 0x0D08 e
       | none => t.reply r 0x0D08 (if rs.all (fun x => x.1 == OK) then OK else E_BLOCK_UNDEFINED) (rs.flatMap (·.2)))) ∧
    (∀ first data, passes t r 0x0D09 = true → exec (.serviceWriteArea r first data) s = .next
      (match firstOf
          [need (decide (first < 64)) (blame E_PARAM_RANGE 0x0100),
             need (decide (1 ≤ data.length ∧ data.length % 64 = 0 ∧ first + data.length / 64 ≤ 64)) (blame E_PARAM_RANGE 0x0008)] with
       | some e => t.refuse r 0x0D09 e
       | none => ((t.writeAreas first (chunks 64 64 data)).svcCopy).reply r 0x0D09 OK [])))

/-- R466–R479: the passport tag on the radio side: the states of activation, the layer 4 protocol and its commands, which read committed content or stage a
write that the field store must carry. -/
def Obligations.TagFieldCompletes : Prop :=
  ∀ (at_ : Nat) (s t : State), t = s.at at_ →
    (∀ n store, exec (.rollForward at_ n store) s = .next (((t.setTag { t.tag with store := store }).rollMany n).tagCopies)) ∧
    (∀ due, due = (match t.tag.items with | (_, q) :: _ => decide (q + 50 * ticksPerMs ≤ t.now) | [] => t.tag.group) →
      exec (.wiredItemWait at_) s = .next (if due = true ∧ rfFree t = false ∧ t.tag.wtx = 0 then t.setTag { t.tag with wtx := 1 } else t)) ∧
    (∀ h store u, u = t.tagTo 1 → exec (.fieldOn at_ h store) s = .next
      (((u.setTag { u.tag with strength := h, store := store }).orReg r_TAG_IRQ 1).tagCopies)) ∧
    (∀ u, u = t.tagTo 0 → exec (.fieldLoss at_) s = .next (((u.setTag { u.tag with strength := 0, store := 0 }).orReg r_TAG_IRQ 1).tagRunItems)) ∧
    (∀ wupa, exec (.reqa at_ wupa) s = .next (if t.isSet f_TAG_CTRL_EN = true ∧ (t.tag.rf = 1 ∨ (wupa = true ∧ t.tag.rf = 4))
      then ((t.tagTo 2).tagOut [0x44#8, 0x00#8]).tagCopies else t)) ∧
    (∀ level bits mine, mine = bitsLsb (cascade level) → t.tag.rf ≠ 2 ∨ level ≠ t.tag.level ∨ level < 1 ∨ 2 < level ∨ mine.take bits.length ≠ bits →
      exec (.anticollision at_ level bits) s = .next t) ∧
    (∀ level bits mine, t.tag.rf = 2 → level = t.tag.level → 1 ≤ level → level ≤ 2 → mine = bitsLsb (cascade level) → bits.length < 40 →
      mine.take bits.length = bits → exec (.anticollision at_ level bits) s = .next (t.tagOut (packBits (mine.drop bits.length)))) ∧
    (∀ bits, t.tag.rf = 2 → t.tag.level = 1 → 40 ≤ bits.length → (bitsLsb (cascade 1)).take bits.length = bits →
      exec (.anticollision at_ 1 bits) s = .next ((t.setTag { t.tag with level := 2 }).tagOut [0x04#8])) ∧
    (∀ bits, t.tag.rf = 2 → t.tag.level = 2 → 40 ≤ bits.length → (bitsLsb (cascade 2)).take bits.length = bits →
      exec (.anticollision at_ 2 bits) s = .next (((t.setTag { t.tag with rf := 3 }).tagOut [0x20#8]).tagCopies)) ∧
    exec (.hlta at_) s = .next (if t.tag.rf = 3 ∧ t.tag.prot = false then (t.tagTo 4).tagCopies else t) ∧
    (∀ p, exec (.rats at_ p) s = .next (if t.tag.rf = 3 ∧ t.tag.prot = false then
      ((t.setTag { t.tag with prot := true, fsd := fsdOf (p / 16 % 16), bno := 1 }).tagOut
        [0x09#8, 0x78#8, 0x33#8, 0x60#8, 0x00#8, 0x44#8, 0x5A#8, 0x50#8, 0x54#8]).tagCopies else t)) ∧
    (∀ dr ds, exec (.rfPps at_ dr ds) s = .next (if t.tag.rf ≠ 3 ∨ t.tag.prot = false then t
      else if dr ≤ t.fget f_TAG_CTRL_MAXRATE ∧ ds ≤ t.fget f_TAG_CTRL_MAXRATE then ((t.setTag { t.tag with dr := dr, ds := ds }).tagOut [0xD0#8]).tagCopies
      else t.tagOut [0xD0#8])) ∧
    exec (.deselect at_) s = .next t.tagDeselect ∧
    (∀ u, t.tag.rf = 3 → t.tag.prot = true → u = t.setTag { t.tag with bno := 1 - t.tag.bno } →
      exec (.tagInfo at_) s = .next (State.tagAnswer (tagInfo u)) ∧
      (∀ a n, exec (.tagRead at_ a n) s = .next (State.tagAnswer (tagRead a n u))) ∧
      (∀ p, exec (.pwCheck at_ p) s = .next (State.tagAnswer (tagPassword p u))) ∧
      exec (.tagSummary at_) s = .next (State.tagAnswer (u, OK, cellarSummary u)) ∧
      (∀ q, exec (.tagSeal at_ q) s = .next (State.tagAnswer (tagSeal q u))) ∧
      (∀ a n, exec (.tagEntries at_ a n) s = .next (State.tagAnswer (tagEntries a n u)))) ∧
    (t.tag.rf ≠ 3 ∨ t.tag.prot = false → (∀ a n p q, exec (.tagInfo at_) s = .next t ∧ exec (.tagRead at_ a n) s = .next t ∧ exec (.pwCheck at_ p) s = .next t ∧
      exec (.tagSummary at_) s = .next t ∧ exec (.tagSeal at_ q) s = .next t ∧ exec (.tagEntries at_ a n) s = .next t)) ∧
    (∀ s1 v u block data store cut, s1 = s.setTag { s.tag with store := store } → v = s1.at at_ → v.tag.rf = 3 → v.tag.prot = true →
      u = State.tagAnswer (if data.length ≠ 16 then tagNo (v.setTag { v.tag with bno := 1 - v.tag.bno }) E_LENGTH
        else tagWrite block data cut (v.setTag { v.tag with bno := 1 - v.tag.bno })) →
      exec (.tagWrite at_ block data store cut) s = .next (if cut.isSome then (u.setTag { u.tag with resp := [], out := [] }).tagRunItems else u)) ∧
    (∀ pcb inf good, t.tag.rf ≠ 3 ∨ t.tag.prot = false ∨ good = false → exec (.rfBlockReceived at_ pcb inf good) s = .next t) ∧
    (∀ pcb inf, t.tag.rf = 3 → t.tag.prot = true → t.tag.wtx ≠ 1 → t.tag.wtx ≠ 2 → exec (.rfBlockReceived at_ pcb inf true) s = .next (t.tagBlockIn pcb inf)) ∧
    (∀ pcb inf, t.tag.rf = 3 → t.tag.prot = true → t.tag.wtx = 1 → exec (.rfBlockReceived at_ pcb inf true) s = .next
      ((((t.setTag { t.tag with wtx := 2, held := some (pcb, inf, true) }).tagOut [0xF2#8, 0x01#8]).bump f_TAG_WTX_VALUE).orReg r_TAG_IRQ 32)) ∧
    (∀ pcb inf, t.tag.rf = 3 → t.tag.prot = true → t.tag.wtx = 2 → pcb ≠ 0xF2 → exec (.rfBlockReceived at_ pcb inf true) s = .next t) ∧
    (∀ inf (u v : State), t.tag.rf = 3 → t.tag.prot = true → t.tag.wtx = 2 → u = t.setTag { t.tag with wtx := 0, held := none } →
      v = (if u.tag.items.isEmpty then (if u.tag.group && energyOk u then u.rollOne.rollEnd else u) else u.tagOne) →
      exec (.rfBlockReceived at_ 0xF2 inf true) s = .next (match t.tag.held with | some (p, b, _) => (v.tagBlockIn p b).tagCopies | none => v.tagCopies))

/-- R470–R481: the passport tag on the wired side: staging, commit and discard through TAG_WCMD, the tag's settings, and the passport's commands. A write of the
passport is a group whose reply comes once it has rolled forward. -/
def Obligations.TagWiredCompletes : Prop :=
  (∀ (w : Wr) (s t : State), t = s.at w.at_ → admitted t w r_TAG_WCMD = true →
    exec (.tagStage w) s = .next (t.tagWcmd w.value) ∧ exec (.tagCommit w) s = .next (t.tagWcmd w.value) ∧ exec (.tagDiscard w) s = .next (t.tagWcmd w.value)) ∧
  (∀ (r : Req) (s t : State), t = s.at r.at_ →
    (passes t r 0x0D01 = true → exec (.tagReadConfig r) s = .next
      (t.reply r 0x0D01 OK (w4 t r_TAG_CTRL ++ w4 t.tagCopies r_TAG_STATUS ++ leBytes 7 Config.uid.toNat))) ∧
    (∀ en record vharv rate password u, passes t r 0x0D02 = true → 
      u = t.fputs [(f_TAG_CTRL_EN, flag en), (f_TAG_CTRL_RECORD, flag record), (f_TAG_CTRL_VHARV_EN, flag vharv), (f_TAG_CTRL_MAXRATE, rate)] →
      exec (.tagSetConfig r en record vharv rate password) s = .next
      (match firstOf
          [need (decide (rate ≤ 2)) (blame E_PARAM_RANGE 0x0103), need (!(password.isSome && t.tag.lockout)) (blame E_PARAM_CONFLICT 0x0104),
             need (!t.isSet f_TAG_CTRL_LOCK) E_PARAM_CONFLICT] with
       | some e => t.refuse r 0x0D02 e
       | none => ((u.setTag { u.tag with password := password, attempts := if password.isSome then 0 else u.tag.attempts }).tagCopies).reply r 0x0D02 OK [])) ∧
    (∀ first count, passes t r 0x0D03 = true → exec (.passportRead r first count) s = .next
      (match firstOf
          [need (decide (first < 512)) (blame E_PARAM_RANGE 0x0100), need (decide (1 ≤ count ∧ first + count ≤ 512)) (blame E_PARAM_RANGE 0x0101)] with
       | some e => t.refuse r 0x0D03 e
       | none => t.reply r 0x0D03 OK (t.passportBytes first count))) ∧
    (∀ first data, passes t r 0x0D04 = true → exec (.passportWrite r first data) s = .next
      (match firstOf
          [need (decide (64 ≤ first ∧ first < 512)) (blame E_PARAM_RANGE 0x0100),
             need (decide (data.length % 16 = 0 ∧ 1 ≤ data.length / 16 ∧ data.length / 16 ≤ 40 ∧ first + data.length / 16 ≤ 512)) (blame E_PARAM_RANGE 0x0008),
             need (!groupBusy t) E_BUSY] with
       | some e => t.refuse r 0x0D04 e
       | none => t.writeGroup r 0x0D04 first (chunks 16 64 data))) ∧
    (∀ identity chemistry cnt body, passes t r 0x0D05 = true →
      cnt = leNat ((t.passportBytes 1 1).drop 8 |>.take 4) + 1 →
      body = padTo 0x240 (custodyContent t (identity.getD (t.passportBytes 4 8)) (chemistry.getD (t.passportBytes 12 4)) cnt ++ signatureRecord t cnt) →
      exec (.passportSign r identity chemistry) s = .next (match firstOf [need (decide (1 ≤ t.lc ∧ t.lc ≤ 3)) E_LIFECYCLE,
          need (match identity with | some b => b.length == 128 | none => true) (blame E_LENGTH 0x0100),
          need (match chemistry with | some b => b.length == 64 | none => true) (blame E_LENGTH 0x0101), need (!groupBusy t) E_BUSY,
          if slotStatus t 17 = OK then none else some (slotStatus t 17)] with
       | some e => t.refuse r 0x0D05 e
       | none => t.drawn.writeGroup r 0x0D05 0 (chunks 16 64
          (body ++ (leBytes 64 (Config.signP256 (t.slotKey 17) (passportContext ++ body) t.fresh).toNat).reverse)))))

/-- R34–R49, R230–R232, R492–R495: mode and life-cycle commands. A MODE.SET that R44 admits leaves its target pending, one that it refuses is answered and
raises MODE_IRQ.REFUSED; the life-cycle commands and those of a succession verify their tokens and then begin what R39, R493 and R494 describe. Whether a
signature verifies is not the block's to say: both answers are stated. -/
def Obligations.ModesAndLifeCycleComplete : Prop :=
  ∀ (r : Req) (s t : State), t = s.at r.at_ →
    (∀ target, passes t r 0x0201 = true → exec (.modeSet r target) s = .next (match modeSetRefusal t r target with
      | some e => (t.raise f_MODE_IRQ_REFUSED).refuse r 0x0201 e
      | none => (State.fput { t with life := { t.life with modeReq := some r } } f_MODE_STATUS_PVALID 1).fput f_MODE_STATUS_PENDING target)) ∧
    (∀ tok keys u ok, passes t r 0x0202 = true → 
      (u, ok) = (if t.lc = 0 then t.checkToken r 0x0202 3 (paramDigest []) Config.vendorRoot tok else t.checkOwnerToken r 0x0202 (paramDigest []) tok keys) →
      exec (.modeReleaseQuarantine r tok keys) s = .next
      (match firstOf
          [need (t.mode == 4) E_MODE, need (!t.isSet f_MODE_STATUS_PVALID) E_BUSY, need (!t.life.custodyLost) E_PARAM_CONFLICT] with
       | some e => t.refuse r 0x0202 e
       | none => (if ok = false then u.reply r 0x0202 E_SESSION []
          else if releaseKeys u = false then u.reply r 0x0202 E_KEY_EMPTY [] else u.beginRelease r tok.kind))) ∧
    (passes t r 0x0203 = true → exec (.modeRead r) s = .next
      (t.reply r 0x0203 OK
      (w4 t r_MODE_STATUS ++ w4 t r_MODE_CAUSE ++ w4 t r_MODE_ENTRY_STAMP_LO ++ w4 t r_MODE_ENTRY_STAMP_HI))) ∧
    (∀ root assembly utc, passes t r 0x0210 = true → exec (.lifecycleProvision r root assembly utc) s = .next
      (match firstOf
          [need (t.lc == 0) E_LIFECYCLE, need (r.world == 3) E_WORLD, need (t.mode == 0) E_MODE, need (decide (root < 2 ^ 384)) (blame E_PARAM_RANGE 0x0100),
             need (decide (assembly < 0xFFFF)) (blame E_PARAM_RANGE 0x0101), need (decide (utc < 2 ^ 64)) (blame E_PARAM_RANGE 0x0102),
             need (!t.isSet f_CUL_STATUS_NOSEED) E_BUSY, notBusy t] with
       | some e => t.refuse r 0x0210 e
       | none => t.provision r root assembly utc)) ∧
    (∀ token keys u ok, passes t r 0x0211 = true → (u, ok) = t.checkOwnerToken r 0x0211 (paramDigest []) token keys → exec (.lifecycleCommission r token keys) s = .next
      (match firstOf
          [need (t.lc == 1) E_LIFECYCLE, need (t.mode == 2) E_MODE, need (decide (r.slot < 8)) E_SESSION, notBusy t] with
       | some e => t.refuse r 0x0211 e
       | none => (if ok then u.sealTestHead.beginTransition r 0x0211 2 0 else u.reply r 0x0211 E_SESSION []))) ∧
    (∀ token keys u ok, passes t r 0x0213 = true → (u, ok) = t.checkOwnerToken r 0x0213 (paramDigest []) token keys → exec (.lifecycleRetire r token keys) s = .next
      (match firstOf
          [need (t.lc == 2 || t.lc == 3) E_LIFECYCLE, need (t.mode == 2) E_MODE, notBusy t] with
       | some e => t.refuse r 0x0213 e
       | none => (if ok then u.beginTransition r 0x0213 4 4 else u.reply r 0x0213 E_SESSION []))) ∧
    (∀ vendor owner keys u ok, passes t r 0x0214 = true → (u, ok) = t.checkOwnerToken r 0x0214 (paramDigest []) owner keys → exec (.lifecycleFieldReturn r vendor owner keys) s = .next
      (match firstOf
          [need (decide (1 ≤ t.lc ∧ t.lc ≤ 4)) E_LIFECYCLE, need (t.mode == 2 || t.mode == 4) E_MODE, notBusy t] with
       | some e => t.refuse r 0x0214 e
       | none => (if tokenOk t r 0x0214 3 (paramDigest []) Config.vendorRoot vendor && ok then u.beginTransition r 0x0214 5 5
          else u.reply r 0x0214 E_SESSION []))) ∧
    (∀ newSerial token keys u ok, passes t r 0x0904 = true → 
      (u, ok) = t.checkOwnerToken r 0x0904 (paramDigest (tlv 0x0100 (leBytes 8 newSerial))) token keys →
      exec (.assemblySuccessionSeal r newSerial token keys) s = .next
      (match firstOf
          [need (decide (1 ≤ t.lc ∧ t.lc ≤ 3)) E_LIFECYCLE, need (t.mode == 2) E_MODE, need (decide (newSerial < 2 ^ 64)) (blame E_PARAM_RANGE 0x0100),
             need (t.asm.ceded == 0 && t.ldg.chain.isSome && !t.ldg.ended && (t.ledgerRuns || t.ldg.head.isSome)) E_SUCCESSION, notBusy t] with
       | some e => t.refuse r 0x0904 e
       | none => (if ok then u.beginCeding r newSerial else u.reply r 0x0904 E_SESSION []))) ∧
    (∀ cert block sealed keyCert, passes t r 0x0905 = true → exec (.assemblySucceed r cert block sealed keyCert) s = .next
      (match firstOf
          [need (t.lc == 1) E_LIFECYCLE, need (t.mode == 2) E_MODE, need (keyCert.isSome || leNat ((sealed.drop 5).take 1) == 4) (blame E_PARAM_MISSING 5),
             need (adoptionOk t cert block sealed keyCert) E_SUCCESSION] with
       | some e => t.refuse r 0x0905 e
       | none => (t.beginAdoption cert block).reply r 0x0905 OK [])) ∧
    (∀ nonce keys sig e, passes t r 0x0212 = true → firstOf ([need (t.lc == 2) E_LIFECYCLE, need (t.mode == 2) E_MODE, notBusy t,
        need (!t.evidenceNow) E_KEY_EMPTY] ++ handoverRefusal t nonce keys sig ++ [need (freeEntry t).isSome E_LIFECYCLE]) = some e →
      exec (.lifecycleSecondLife r nonce keys sig) s = .next (t.refuse r 0x0212 e)) ∧
    (∀ nonce keys sig h i ok, passes t r 0x0212 = true → t.lc = 2 → t.mode = 2 → t.life.transition = none → t.evidenceNow = false →
      t.ldg.handover = some h → h.nonce = nonce → t.now ≤ h.expiry → freeEntry t = some i →
      ok = (Config.ownerKeyHash keys.ec keys.pq == h.newRoot && Config.sigValid h.newRoot handoverContext [leNat h.hs] sig.ec sig.pq) →
      exec (.lifecycleSecondLife r nonce keys sig) s = .next
        (if ok then (t.beginHandover h i sig).beginTransition r 0x0212 3 3 else t.reply r 0x0212 E_SESSION []))

/-- R482–R491, R500: the uplink's moments, the frames of an Assembly ring at their two ends, the loss of the manager, and class 0x09's commands. A line is
what the port received: its characters decide whether a head, a command frame or an Assembly frame was read. -/
def Obligations.AssemblyCompletes : Prop :=
  (∀ (at_ : Nat) (s t : State), t = s.at at_ →
    (∀ endB line held err, t.isSet f_TRG_CTRL_UPLINK = false → exec (.uplinkSync at_ endB ⟨line, held⟩ err) s = .next t) ∧
    (∀ endB line held err t1 t2, t.isSet f_TRG_CTRL_UPLINK = true → t1 = { t with alm := { t.alm with syncAt := t.now, missedSync := 0 } } →
      t2 = (if disciplined t1 = true then t1.uplinkSync err else t1) → exec (.uplinkSync at_ endB ⟨line, held⟩ err) s = .next
      (match trainHead (lineChars line) with
        | none => t.syncMissed
        | some h => if h.collect = true then t.insertFrames h held 0 none
          else if bit h.flags 3 ≠ endB then t
          else match t2.tr.up.addr with
            | some p => if t2.role = 2 then
                State.insertFrames (t2.setAsm { t2.asm with digests := t2.asm.digests.drop 1 }) h held (stampOf (t2.instantNamed h.tstamp - 1))
                  (some (assemblyBytes p (nextPayload t2)))
              else t2.insertFrames h held 0 none
            | none => t2.insertFrames h held 0 none)) ∧
    (∀ ring term assembly deputy flags serial, exec (.asmAnnounce at_ ring term assembly deputy flags serial) s = .next
      (if ring < 8 then t.asmAnnounce ring term assembly deputy flags else t)) ∧
    (∀ q, exec (.sealReq at_ q) s = .next (if t.isSet f_TRG_CTRL_UPLINK = true ∧ t.role = 2 then t.sealReq q else t)) ∧
    (∀ rd hdr data crc, exec (.commandFrame at_ rd hdr data crc) s = .next (match commandOf (lineChars ⟨rd, hdr ++ data ++ crc⟩) with
      | some (addr, opc, payload) => if t.isSet f_TRG_CTRL_UPLINK = true then t.uplinkCommand addr opc payload else t
      | none => t)) ∧
    (∀ ring rd hdr data, ring < 8 → exec (.assemblyFrameReceived at_ ring rd hdr data) s = .next (match asmFrameOf (lineChars ⟨rd, hdr ++ data⟩) with
      | some (node, payload, _) => if 4 ≤ ring then t.asmPayload ring node payload else t
      | none => t.bump (f_TR_CRC_ERRORS_COUNT ring))) ∧
    exec (.managerLoss at_) s = .next t.managerLoss ∧
    (t.role ≠ 2 ∨ t.isSet f_ASM_STATUS_DEPUTY = false ∨ syncsMissing t = false → t.managerLoss = t) ∧
    (t.role = 2 → t.isSet f_ASM_STATUS_DEPUTY = true → syncsMissing t = true → t.isSet f_ASM_CTRL_PROMOTE_EN = false →
      t.managerLoss = (t.raise f_ASM_IRQ_LOSS).put64 r_ASM_LOSS_STAMP_LO r_ASM_LOSS_STAMP_HI t.now)) ∧
  (∀ (r : Req) (s t : State), t = s.at r.at_ →
    (passes t r 0x0901 = true → exec (.assemblyRead r) s = .next
      (t.reply r 0x0901 OK
      (w4 t r_ASM_STATUS ++ w4 t r_ASM_TERM ++ w4 t r_ASM_DEPUTY ++ w4 t r_ASM_PRESENT_LO ++ w4 t r_ASM_PRESENT_HI ++ w4 t r_DEV_BEHAVIOUR))) ∧
    (∀ role mask term, passes t r 0x0902 = true → term = (max t.asm.highTerm (t.fget f_ASM_TERM_VALUE) + 1) % 2 ^ 32 → exec (.assemblySetRole r role mask) s = .next
      (match firstOf
          [need (resuming t role || t.asm.strap == 3) E_ASSEMBLY_ROLE, need (resuming t role || t.mode == 0 || t.mode == 2) E_MODE,
             need (decide (role ≤ 2)) (blame E_PARAM_RANGE 0x0100), need (decide (mask < 256) && mask % 16 == 0) (blame E_PARAM_RANGE 0x0101)] with
       | some e => t.refuse r 0x0902 e
       | none => State.reply
          (if resuming t role = true then
            ((t.setAsm { t.asm with demoted := [], announce := true }).seeTerm term).fputs [(f_ASM_TERM_VALUE, term), (f_ASM_STATUS_DEMOTED, 0)]
           else (t.setAsm { t.asm with role := role, mask := if role = 1 then mask / 16 else 0, device := 0 }).fput f_ASM_STATUS_DEVICE 0) r 0x0902 OK [])) ∧
    (∀ device, passes t r 0x0903 = true → exec (.assemblySetDeputy r device) s = .next
      (match firstOf
          [need (t.role == 1 || t.role == 3) E_ASSEMBLY_ROLE, need (decide (device ≤ 64)) (blame E_PARAM_RANGE 0x0100),
             need (!(t.role == 1 && device != 0 && t.asm.demoted.contains (4 + (device - 1) / 16))) E_ASSEMBLY_ROLE,
             need (device == 0 || t.isPresent device) (blame E_PARAM_CONFLICT 0x0100)] with
       | some e => t.refuse r 0x0903 e
       | none => (t.fput f_ASM_DEPUTY_DEVICE device).reply r 0x0903 OK [])) ∧
    (∀ device, passes t r 0x0906 = true → exec (.assemblyReadWorker r device) s = .next
      (match firstOf
          [need (decide (1 ≤ device ∧ device ≤ 64)) (blame E_PARAM_RANGE 0x0100)] with
       | some e => t.refuse r 0x0906 e
       | none => t.reply r 0x0906 OK
          (padTo 32 (t.worker device).status ++ leBytes 8 ((t.worker device).merged.getD 0)))))

/-- R202, R520–R535: power, resets and clock domains. A loss of the main supply or a brown-out takes the logic die down, POR release starts it; a warm reset
with any cause restarts all but peripheral group 0; CPR_DOM gates or resets a domain unless R527 refuses, and DEVICE.RESET queues what it asks for. -/
def Obligations.PowerCompletes : Prop :=
  (∀ (at_ : Nat) (s t : State), t = s.at at_ →
    exec (.mainSupplyLoss at_) s = .next (t.powerDown none) ∧
    (∀ rails us, exec (.brownOut at_ rails us) s = .next
      (if 10 < us ∧ rails % 16 ≠ 0 ∧ t.pwr.up = true then t.powerDown (some (rails % 16)) else t)) ∧
    (∀ cause boot, cause ≠ 0 → exec (.warmReset at_ cause boot) s = .next (if t.alive = true ∧ cause ≤ 5 then t.warmReset cause boot else t)) ∧
    (∀ boot, t.alive = true → (∃ d q, (0, d, q) ∈ t.pwr.requests ∧ resetBoundary q ≤ t.now) → exec (.warmReset at_ 0 boot) s = .next (t.warmReset 0 boot)) ∧
    (∀ boot, t.alive = false ∨ (∀ d q, (0, d, q) ∈ t.pwr.requests → t.now < resetBoundary q) → exec (.warmReset at_ 0 boot) s = .next t) ∧
    (∀ ns boot, exec (.rstNLow at_ ns boot) s = .next (if t.alive = true ∧ 1000 ≤ ns then t.warmReset 2 boot else t)) ∧
    (∀ line relocked boot, exec (.pllLockLoss at_ line relocked boot) s = .next
      (if t.pwr.up = false then t else if relocked = true then t.warmReset 4 boot else t.pllHeld line)) ∧
    (∀ boot a, t.pwr.armed = some a → exec (.startWatchdogExpiry at_ boot) s = .next
      (if t.alive = true ∧ t.fget f_CPR_STATUS_STAGE = 1 ∧ a + t.fget f_CPR_START_TO_VALUE * ticksPerMs ≤ t.now
        then (t.bump f_CPR_STATUS_STARTFAIL).warmReset 3 boot else t)) ∧
    (∀ boot, t.pwr.armed = none → exec (.startWatchdogExpiry at_ boot) s = .next t) ∧
    (∀ us boot u, u = { t with pwr := { t.pwr with pwrEn := true } } → exec (.wakeNFall at_ us boot) s = .next
      (if us < 1000 ∨ t.pwr.pwrEn = true ∨ (t.cel.vbak = false ∧ t.cel.main = false) then t
       else if u.pwr.up = true then ((u.fput f_CPR_STATUS_PWR_EN 1).raise f_CPR_IRQ_WAKE).warmReset 5 boot else u)) ∧
    exec (.dormantPowerOff at_) s = .next (if t.alive = true then t.dormantStep else t)) ∧
  (∀ count boot s, exec (.porRelease count boot) s = .next (s.porRelease count boot)) ∧
  (∀ (w : Wr) (s t u v : State), t = s.at w.at_ → u = (t.bump f_CPR_REFUSED_VALUE).raise f_CPR_IRQ_REFUSED →
    (∀ d, d < 320 → admitted t w (r_CPR_DOM d) = true → v = (if bit w.value 1 = true ∧ t.isSet (f_CPR_DOM_RST d) = false then t.resetDomain d else t) →
      exec (.domainControlWrite w d) s = .next
        (if (bit w.value 0 = false ∨ bit w.value 1 = true) ∧ domainRefused t d = true then u
         else v.fputs [(f_CPR_DOM_CLKEN d, flag (bit w.value 0)), (f_CPR_DOM_RST d, flag (bit w.value 1)), (f_CPR_DOM_RUNNING d, flag (bit w.value 0)),
          (f_CPR_DOM_INRESET d, flag (bit w.value 1))])) ∧
    (∀ boot d, admitted t w r_CPR_RESET = true → d = w.value % 512 → exec (.cprResetWrite w boot) s = .next
      (if w.value / 2 ^ 24 % 256 ≠ 0x5A then u
       else if w.value / 2 ^ 16 % 4 = 0 then t.warmReset 1 boot
       else if w.value / 2 ^ 16 % 4 = 1 ∧ d ≤ 319 ∧ domainRefused t d = false then t.resetDomain d
       else u))) ∧
  (∀ (r : Req) (s t : State), t = s.at r.at_ →
    (∀ kind domain d, passes t r 0x0106 = true → d = domain.getD 0 → exec (.deviceReset r kind domain) s = .next
      (match firstOf
          [need (kind != 1 || domain.isSome) (blame E_PARAM_MISSING 0x0101), need (decide (kind ≤ 1)) (blame E_PARAM_RANGE 0x0100),
             need (t.fget f_CPR_STATUS_STAGE != 3 || kind == 0) E_MODE, need (kind == 1 || t.mode != 1) E_MODE,
             need (kind == 0 || decide (d ≤ 319)) (blame E_PARAM_RANGE 0x0101), need (kind == 0 || !domainRefused t d) (blame E_PARAM_CONFLICT 0x0101)] with
       | some e => t.refuse r 0x0106 e
       | none => State.reply
          { t with pwr := { t.pwr with requests := t.pwr.requests ++ [(kind, d, t.now)] } } r 0x0106 OK [])))

/-- R36, R50, R538–R546, R59, R60, R98, R104, R155, R555: self-test, and what the part does at an instant, a rate change, an evaluation of the watermark and
a limit period boundary. No row drives the debug TAP: whatever instruction is in force, a Shutter ball keeps the level the Shutter gives it. -/
def Obligations.SelfTestAndPeriodComplete : Prop :=
  (∀ (at_ : Nat) (s t : State), t = s.at at_ →
    (∀ fails, exec (.selftestTestComplete at_ fails) s = .next (t.testComplete fails)) ∧
    (∀ u, u = t.stepForward.dueChannel → exec (.sampleInstant at_) s = .next
      (if u.alive = true then (newInstants u.alm.inst (instantAt u.now)).foldl State.instantBegins u else u)) ∧
    (∀ rate k, t.tr.pending = some (rate, k) → exec (.rateChangeEffect at_) s = .next
      (if stampOf k ≤ t.now then (t.ringRateEffect rate k).spgRateEffect rate k else t)) ∧
    (t.tr.pending = none → exec (.rateChangeEffect at_) s = .next t) ∧
    exec (.watermarkEval at_) s = .next (if t.alive = true then t.watermark else t) ∧
    (∀ p, p = t.now / ticksPerPeriod * ticksPerPeriod → exec (.limitPeriodBoundary at_) s = .next
      (if t.pwr.up = true ∧ t.lim.period < t.now / ticksPerPeriod then (if t.alive = true then t.boundary p else t.arbitrate p) else t))) ∧
  (∀ (s : State) (b : OutBall) (high : List OutBall) (i : TapInstr), b.shutter = true →
    ((s.tapSelect i).tapPreload high).ballLevel b = s.drivenLevel b ∧ s.ballLevel b = s.drivenLevel b) ∧
  (∀ (r : Req) (s t : State), t = s.at r.at_ →
    (∀ mask fuse token keys u v ok good, passes t r 0x0B01 = true → 
      (v, good) = (match token with
        | some k => t.checkToken r 0x0B01 2 (paramDigest (runParams mask fuse)) (custodyRoot t) k
        | none => (t, false)) →
      (u, ok) = (if t.lc = 2 ∨ t.lc = 3 then (v, good && (token.isSome && t.slotState 15 == 1 && t.slotState 16 == 1)) else (t, true)) →
      exec (.selftestRun r mask fuse token keys) s = .next
      (match firstOf
          [need ((testLc (testsOf mask)) t.lc) E_LIFECYCLE, need (testMode t) E_MODE, need (maskOk mask) (blame E_PARAM_RANGE 0x0100),
             need (!(testsOf mask).any (isolationBusy t)) E_BUSY, need (!fuse || t.lc == 0 || t.lc == 1 || t.lc == 5) E_LIFECYCLE, need t.bist.left.isEmpty E_BUSY] with
       | some e => t.refuse r 0x0B01 e
       | none => (if ok = true then
            (u.startRun (testsOf mask) fuse).reply r 0x0B01 OK (leBytes 2 ((u.bist.run + 1) % 65536)) else u.reply r 0x0B01 E_SESSION []))) ∧
    (∀ run, passes t r 0x0B02 = true → exec (.selftestReadResult r run) s = .next
      (match firstOf
          [need (!(recordsOf t run).isEmpty) (blame E_PARAM_RANGE 0x0100)] with
       | some e => t.refuse r 0x0B02 e
       | none => t.reply r 0x0B02 OK (recordsOf t run).flatten)) ∧
    (passes t r 0x0B03 = true → exec (.selftestAbort r) s = .next
      (match firstOf
          [need (!t.bist.left.isEmpty) E_PARAM_CONFLICT] with
       | some e => t.refuse r 0x0B03 e
       | none => (t.stopTests 2).reply r 0x0B03 OK [])))

/-- R6, R7, R331: a write to a register by REGISTER_WRITE has the effect of its block's rules; in a block without rules of its own (modes, Culture, assembly,
service port) it is the field write of R6. A word of memory is stored, or waits while its bank is initialised; a store into a vat's shared memory may
change its job table. LOCK_SET and COUNTER_CLEAR are writes that set the lock bit or the CLRCNT bit of a register that has one. -/
def Obligations.RegisterWritesComplete : Prop :=
  ∀ (w : Wr) (a : Nat) (s t : State), t = s.at w.at_ →
    exec (.registerWrite w a) s = .next (regWrite s w a) ∧
    (a % 4 ≠ 0 → exec (.registerWrite w a) s = .next t) ∧
    (a % 4 = 0 → a / 0x10000 ∈ [0x4000, 0x4016, 0x401F, 0x4020] → admitted t w a = true → exec (.registerWrite w a) s = .next (t.writeWord a w.value)) ∧
    (a % 4 = 0 → plainMemory a = true → admitted t w a = true → exec (.registerWrite w a) s = .next
      (if t.bankUp a = false then { t with gates := { t.gates with writes := t.gates.writes ++ [(w, a)] } }
       else if 0x30000000 ≤ a ∧ a < 0x31000000 then (t.storeN a 4 w.value).jobsWritten ((a - 0x30000000) / 0x100000)
       else t.storeN a 4 w.value)) ∧
    (lockReg a = some a → exec (.lockSet w a) s = exec (.registerWrite { w with value := w.value % 2 ^ 31 + 2 ^ 31 } a) s) ∧
    (lockReg a ≠ some a → exec (.lockSet w a) s = .next t) ∧
    (∀ b, clrBit a = some b → exec (.counterClear w a) s = exec (.registerWrite { w with value := setBitIn (w.value % 2 ^ 32) b true } a) s) ∧
    (clrBit a = none → exec (.counterClear w a) s = .next t)

/-- R240–R262, R271, R296–R308: a row of the move set, on an engine that runs and whose instruction does not trap, completes: every move of its instruction
takes effect at once (`issueOn`), and the engine's own triggers follow (`settled`). A row whose engine lacks the destination does nothing. -/
def Obligations.MovesComplete : Prop :=
  (∀ (m : Mv) (s t : State) (r : Issued) (w : Nat), moveIssues s m w = true → t = atIssue s m → r = issueOn t m w → r.trap = none →
      (∀ v, m.eng = .vce v → expansion t v r.posts = none) →
    (∀ c dst, (c, dst) ∈ [(Instr.aluAdd m, 0x41), (.aluSub m, 0x42), (.aluAnd m, 0x43), (.aluOr m, 0x44), (.aluXor m, 0x45), (.shfSll m, 0x47), (.shfSrl m, 0x48),
        (.shfSra m, 0x49), (.macMul m, 0x4C), (.macAcc m, 0x4D), (.macCmul m, 0x4E), (.macCacc m, 0x4F), (.lsuLdw m, 0x52), (.lsuLdp m, 0x53), (.lsuStw m, 0x54),
        (.cmpEq m, 0x56), (.cmpNe m, 0x57), (.cmpLt m, 0x58), (.cmpGe m, 0x59), (.cmpLtu m, 0x5A), (.strGet m, 0x5B), (.br m, 0x5C), (.limm m, 0x5D)] →
      w = Mv.wordTo m dst → exec c s = .next (settled m r)) ∧
    (∀ dst, nameable m.eng dst = true → w = Mv.wordTo m dst → exec (.operandMove m dst) s = .next (settled m r)) ∧
    (∀ c dst, (c, dst) ∈ [(Instr.busLd m, 0x61), (.busSt m, 0x62)] → isVce m.eng = true ∨ isCore m.eng = true → w = Mv.wordTo m dst →
      exec c s = .next (settled m r)) ∧
    (∀ c dst, (c, dst) ∈ [(Instr.lswRd m, 0x71), (.lswWr m, 0x72)] → isVce m.eng = true → w = Mv.wordTo m dst → exec c s = .next (settled m r)) ∧
    (∀ c dst, (c, dst) ∈ [(Instr.gateCall m, 0x70), (.gateRet m, 0x71), (.excRet m, 0x72), (.hold m, 0x73), (.holdEnd m, 0x74), (.excSetpc m, 0x76), (.excSetsp m, 0x77)] →
      isCore m.eng = true → w = Mv.wordTo m dst → exec c s = .next (settled m r)) ∧
    (∀ c v, (c, v) ∈ [(Instr.sysHalt m, 1), (.sysYield m, 2), (.sysMark m, 3), (.sysReturn m, 4)] → w = Mv.wordSys m v → exec c s = .next (settled m r))) ∧
  (∀ (m : Mv) (s : State),
    (∀ dst, nameable m.eng dst = false → exec (.operandMove m dst) s = .next (s.at m.at_)) ∧
    (isVce m.eng = false → ∀ entry, ∀ c ∈ [Instr.lswRd m, .lswWr m, .compositeMove m entry], exec c s = .next (s.at m.at_)) ∧
    (isCore m.eng = false → ∀ c ∈ [Instr.gateCall m, .gateRet m, .excRet m, .hold m, .holdEnd m, .excSetpc m, .excSetsp m], exec c s = .next (s.at m.at_)) ∧
    (isVce m.eng = false → isCore m.eng = false → ∀ c ∈ [Instr.busLd m, .busSt m], exec c s = .next (s.at m.at_)))


/-- R237, R261, R263, R275, R276, R278, R280, R306: an instruction that traps takes its engine's trap with its cause: a lane stops with it, or its word is
uncorrectable and the lane faults; the vat's core and a thread enter their handlers. SWTRAP is such a trap, taken after its instruction's other moves. A lane
whose fetch lies at its code limit or in an uncorrectable word does not issue. A composite move runs its entry's micro-instructions with the move's value as
ARG, and a bus load's answer lands in its unit (R275). -/
def Obligations.TrapsAndCompositesComplete : Prop :=
  (∀ (c : Instr) (m : Mv) (s t : State) (r : Issued) (w : Nat) (x : Trap), moveWord c = some (m, w) → moveIssues s m w = true → t = atIssue s m →
    r = issueOn t m w → r.trap = some x →
    (∀ e u, m.eng = .lane e → u = (if x.cause = 0x20 then r.s.putLane e { r.s.lane e with since := (r.s.lane e).since + 1, disp := (r.s.lane e).disp + 1 } else r.s) →
      exec c s = .next (if x.cause = 0x30 then u.laneFault e 0x30 (some (ueWord t e w x.slot)) else u.laneTrap e (t.lane e).u.pc w x)) ∧
    (∀ v, m.eng = .vce v → exec c s = .next ((settled m r).vceTrap v (t.vat v).u.pc 0 x)) ∧
    (∀ p, m.eng = .core p → exec c s = .next
      ((settled m r).coreTrap p (if x.cause = 0x20 then ((settled m r).units (.core p)).pc else (t.units (.core p)).pc) x))) ∧
  (∀ (c : Instr) (m : Mv) (s t : State) (w e pc : Nat), moveWord c = some (m, w) → t = s.at m.at_ → m.eng = .lane e → pc = (t.lane e).u.pc →
    ((t.lane e).stat ≠ 1 ∨ t.clocked e = false → exec c s = .next t) ∧
    (e < 256 → m.slot < 2 → (t.lane e).stat = 1 → t.clocked e = true → t.bankUp (physical (.lane e) 0) = true →
      (t.fget (f_LE_CODE_LIM_LIM e) ≤ pc → exec c s = .next (t.laneTrap e pc 0 ⟨0x13, 0, 0⟩)) ∧
      (pc < t.fget (f_LE_CODE_LIM_LIM e) → t.spoiled (physical (.lane e) pc) = true → exec c s = .next (t.laneFault e 0x30 (some pc))))) ∧
  (∀ (m : Mv) (s t : State) (r : Issued) (entry v w : Nat) (arg : Word) (ws : List Nat), w = Mv.wordTo m (0xC0 + entry % 64) → moveIssues s m w = true →
    t = atIssue s m → m.eng = .vce v → r = issueOn t m w → r.trap = none → expansion t v r.posts = some (arg, ws) →
    exec (.compositeMove m entry) s = .next (((settled m r).putVat v { (settled m r).vat v with arg := arg }).expand v (t.vat v).u.pc m.noise ws 1)) ∧
  (∀ (at_ : Nat) (s t : State) (g : Eng) (noise : Nat), t = s.at at_ →
    (isVce g = false ∧ isCore g = false ∨ (t.units g).busAddr = none → exec (.busLoadComplete at_ ⟨g, noise⟩) s = .next t) ∧
    (∀ a cls ctx, isVce g = true ∨ isCore g = true → (t.units g).busAddr = some (a, cls, ctx) →
      (t.bankUp a = false → exec (.busLoadComplete at_ ⟨g, noise⟩) s = .next t) ∧
      (∀ u v err, t.bankUp a = true → t.spineRead ⟨0, cls, (accOf t g 0 a).eng, ctx, a⟩ noise = (u, v, err) →
        exec (.busLoadComplete at_ ⟨g, noise⟩) s = .next (u.putUnits g { u.units g with busR := v, busDone := true, busErr := err, busAddr := none }))))


/-- R243–R247, R250, R260, R274: what a move does that stands alone in its instruction: a trigger sends its unit's result at the unit's latency, on every kind of
engine; a guarded move whose guard is 0 sends nothing. -/
def Obligations.SoleMoveResults : Prop :=
  ∀ (m : Mv) (s t : State) (u : Units) (v : Word) (acts : Bool), m.word = 0 → t = atIssue s m → u = (t.units m.eng).tick → u.preN = 0 →
    soleValue t m = some v → acts = (!m.ge || u.g) →
    (∀ c dist x word, moveWord c = some (m, word) → moveIssues s m word = true →
        (c, dist, x) ∈ [(Instr.aluAdd m, 1, Landing.port 0x40 (u.aluA + v)), (.aluSub m, 1, .port 0x40 (u.aluA - v)), (.aluAnd m, 1, .port 0x40 (u.aluA &&& v)),
        (.aluOr m, 1, .port 0x40 (u.aluA ||| v)), (.aluXor m, 1, .port 0x40 (u.aluA ^^^ v)), (.shfSll m, 1, .port 0x41 (v <<< (u.shfA.toNat % 32))),
        (.shfSrl m, 1, .port 0x41 (v >>> (u.shfA.toNat % 32))), (.shfSra m, 1, .port 0x41 (v.sshiftRight (u.shfA.toNat % 32))),
        (.cmpEq m, 1, .port 0x4A (if v = u.cmpB then 1 else 0)), (.cmpNe m, 1, .port 0x4A (if v = u.cmpB then 0 else 1)),
        (.cmpLt m, 1, .port 0x4A (if v.toInt < u.cmpB.toInt then 1 else 0)), (.cmpGe m, 1, .port 0x4A (if v.toInt < u.cmpB.toInt then 0 else 1)),
        (.cmpLtu m, 1, .port 0x4A (if v.toNat < u.cmpB.toNat then 1 else 0))] →
      exec c s = .next (passed t m (if acts then u.send dist x else u))) ∧
    (∀ c q word, moveWord c = some (m, word) → moveIssues s m word = true →
        (c, q) ∈ [(Instr.macMul m, macReal u.macBase false v u.macB), (.macAcc m, macReal u.macBase true v u.macB)] →
      exec c s = .next (passed t m (if acts then u.send (if isCore m.eng then 4 else 3) (.mac q.1 q.2 false u.macSh) else u))) ∧
    (∀ c q word, moveWord c = some (m, word) → moveIssues s m word = true →
        (c, q) ∈ [(Instr.macCmul m, macComplex u.macBase false v u.macB), (.macCacc m, macComplex u.macBase true v u.macB)] →
      exec c s = .next (passed t m (if acts then u.send (if isCore m.eng then 4 else 3) (.mac q.1 q.2 true u.macSh) else u))) ∧
    (∀ n, moveIssues s m (Mv.wordTo m 0x5C) = true → acts = true → u.dslot = 0 → n = instrBytes m.eng → v.toNat % n = 0 → n = 8 ∨ v.toNat < 0x4000 →
      exec (.br m) s = .next (passed t m { u.send 1 (.port 0x4D (BitVec.ofNat 32 (u.pc + 3 * n))) with target := v.toNat, dslot := 3 })) ∧
    (∀ a w, moveIssues s m (Mv.wordTo m 0x52) = true → acts = true → lsuCause t m.eng (voided (m.noise / 4096)) v.toNat false = none →
      a = physical m.eng v.toNat → w = (t.putUnits m.eng u).loadWord m.eng v.toNat → exec (.lsuLdw m) s = .next (passed w m (w.units m.eng)) ∧
      (t.upsetsIn a 4 = [] → exec (.lsuLdw m) s = .next
        (passed t m (u.send (if isCore m.eng then 5 else 3) (.port 0x48 (BitVec.ofNat 32 (t.loadN a 4))))))) ∧
    (moveIssues s m (Mv.wordTo m 0x54) = true → acts = true → lsuCause t m.eng (voided (m.noise / 4096)) v.toNat true = none →
      ∃ w, exec (.lsuStw m) s = .next w ∧ w.mem = (t.storeN (physical m.eng v.toNat) 4 u.lsuD.toNat).mem) ∧
    (acts = false → ∀ c word, (c, word) ∈ [(Instr.br m, Mv.wordTo m 0x5C), (.lsuLdw m, Mv.wordTo m 0x52), (.lsuStw m, Mv.wordTo m 0x54)] →
      moveIssues s m word = true → exec c s = .next (passed t m u))

end
end

