-- ==== Sys2Proof/Laws/Store.lean ====
section
/-!
SUPPORT. Laws/Store.lean: the laws of a sparse store: what a read gives after a write, and that every operation keeps the canonical form.
-/
namespace Sys2Proof.Machine

theorem Sparse.rising_of_some {α : Type} {lo : Nat} {m : Sparse α} (h : Sparse.rising (some lo) m = true) : Sparse.rising none m = true := by
  cases m with
  | nil => rfl
  | cons x t => obtain ⟨k, v⟩ := x; simp [Sparse.rising] at *; exact h.2

theorem Sparse.rising_mono {α : Type} {lo lo' : Nat} {m : Sparse α} (hl : lo' ≤ lo) (h : Sparse.rising (some lo) m = true) : Sparse.rising (some lo') m = true := by
  cases m with
  | nil => rfl
  | cons x t => obtain ⟨k, v⟩ := x; simp [Sparse.rising] at *; exact ⟨by omega, h.2⟩

theorem Sparse.rising_erase {α : Type} (a : Nat) : ∀ (m : Sparse α) (lo : Option Nat), Sparse.rising lo m = true → Sparse.rising lo (Sparse.erase m a) = true
  | [], _, _ => by simp [Sparse.erase, Sparse.rising]
  | (k, v) :: t, lo, h => by
    simp only [Sparse.erase]
    have ht : Sparse.rising (some k) t = true := by cases lo <;> simp_all [Sparse.rising]
    split
    · have := Sparse.rising_erase a t (some k) ht
      cases lo with
      | none => exact Sparse.rising_of_some this
      | some l => exact Sparse.rising_mono (by simp [Sparse.rising] at h; omega) this
    · have := Sparse.rising_erase a t (some k) ht
      cases lo <;> simp_all [Sparse.rising]

theorem Sparse.minimal_erase {α : Type} [DecidableEq α] (d : Nat → α) (a : Nat) : ∀ (m : Sparse α), Sparse.minimal d m = true → Sparse.minimal d (Sparse.erase m a) = true
  | [], _ => by simp [Sparse.erase, Sparse.minimal]
  | (k, v) :: t, h => by
    simp only [Sparse.erase]
    simp [Sparse.minimal] at h
    split
    · exact Sparse.minimal_erase d a t h.2
    · simp [Sparse.minimal, h.1, Sparse.minimal_erase d a t h.2]

/-- No entry has key `a`. -/
def Sparse.absent {α : Type} (a : Nat) : Sparse α → Prop
  | [] => True
  | (k, _) :: t => k ≠ a ∧ Sparse.absent a t

theorem Sparse.absent_erase {α : Type} (a : Nat) : ∀ (m : Sparse α), Sparse.absent a (Sparse.erase m a)
  | [] => trivial
  | (k, v) :: t => by
    simp only [Sparse.erase]; split
    · exact Sparse.absent_erase a t
    · exact ⟨‹_›, Sparse.absent_erase a t⟩

theorem Sparse.rising_insert {α : Type} (a : Nat) (x : α) : ∀ (m : Sparse α) (lo : Option Nat), Sparse.absent a m → (∀ l, lo = some l → l < a) →
    Sparse.rising lo m = true → Sparse.rising lo (Sparse.insert m a x) = true
  | [], lo, _, hl, _ => by cases lo <;> simp_all [Sparse.insert, Sparse.rising]
  | (k, v) :: t, lo, hab, hl, h => by
    obtain ⟨hne, hab⟩ := hab
    have ht : Sparse.rising (some k) t = true := by cases lo <;> simp_all [Sparse.rising]
    simp only [Sparse.insert]; split
    · cases lo <;> simp_all [Sparse.rising]
    · have := Sparse.rising_insert a x t (some k) hab (by intro l hl; cases hl; omega) ht
      cases lo <;> simp_all [Sparse.rising]

theorem Sparse.minimal_insert {α : Type} [DecidableEq α] (d : Nat → α) (a : Nat) (x : α) (hx : x ≠ d a) : ∀ (m : Sparse α), Sparse.minimal d m = true → Sparse.minimal d (Sparse.insert m a x) = true
  | [], _ => by simp [Sparse.insert, Sparse.minimal, hx]
  | (k, v) :: t, h => by
    simp [Sparse.minimal] at h
    simp only [Sparse.insert]; split
    · simp [Sparse.minimal, h, hx]
    · simp [Sparse.minimal, h.1, Sparse.minimal_insert d a x hx t h.2]

theorem Sparse.wf_set {α : Type} [DecidableEq α] (d : Nat → α) (m : Sparse α) (a : Nat) (x : α) (h : Sparse.wf d m = true) : Sparse.wf d (Sparse.set d m a x) = true := by
  simp only [Sparse.wf, Bool.and_eq_true] at *
  simp only [Sparse.set]; split
  · exact ⟨Sparse.rising_erase a m none h.1, Sparse.minimal_erase d a m h.2⟩
  · exact ⟨Sparse.rising_insert a x _ none (Sparse.absent_erase a m) (by simp) (Sparse.rising_erase a m none h.1),
      Sparse.minimal_insert d a x ‹_› _ (Sparse.minimal_erase d a m h.2)⟩

theorem Sparse.rising_drop {α : Type} (p : Nat → Bool) : ∀ (m : Sparse α) (lo : Option Nat), Sparse.rising lo m = true → Sparse.rising lo (Sparse.drop p m) = true
  | [], _, _ => by simp [Sparse.drop, Sparse.rising]
  | (k, v) :: t, lo, h => by
    simp only [Sparse.drop]
    have ht : Sparse.rising (some k) t = true := by cases lo <;> simp_all [Sparse.rising]
    have := Sparse.rising_drop p t (some k) ht
    split
    · cases lo with
      | none => exact Sparse.rising_of_some this
      | some l => exact Sparse.rising_mono (by simp [Sparse.rising] at h; omega) this
    · cases lo <;> simp_all [Sparse.rising]

theorem Sparse.minimal_drop {α : Type} [DecidableEq α] (d : Nat → α) (p : Nat → Bool) : ∀ (m : Sparse α), Sparse.minimal d m = true → Sparse.minimal d (Sparse.drop p m) = true
  | [], _ => by simp [Sparse.drop, Sparse.minimal]
  | (k, v) :: t, h => by
    simp only [Sparse.drop]
    simp [Sparse.minimal] at h
    split
    · exact Sparse.minimal_drop d p t h.2
    · simp [Sparse.minimal, h.1, Sparse.minimal_drop d p t h.2]

theorem Sparse.wf_drop {α : Type} [DecidableEq α] (d : Nat → α) (p : Nat → Bool) (m : Sparse α) (h : Sparse.wf d m = true) : Sparse.wf d (Sparse.drop p m) = true := by
  simp only [Sparse.wf, Bool.and_eq_true] at *
  exact ⟨Sparse.rising_drop p m none h.1, Sparse.minimal_drop d p m h.2⟩


end Sys2Proof.Machine
end

