-- ==== Sys2Proof/Laws/State.lean ====
section
/-!
SUPPORT. Laws/State.lean: what a named update leaves of every field of the state, one lemma a field, and what a read gives after a write of registers,
fields and bytes.
-/
namespace Sys2Proof.Machine

/-! ### Fields of the state under the named updates -/

@[simp] theorem State.setReg_pending (s : State) (a : Nat) (w : Word) : (s.setReg a w).pending = s.pending := rfl
@[simp] theorem State.setReg_now (s : State) (a : Nat) (w : Word) : (s.setReg a w).now = s.now := rfl
@[simp] theorem State.setReg_fresh (s : State) (a : Nat) (w : Word) : (s.setReg a w).fresh = s.fresh := rfl
@[simp] theorem State.setReg_latched (s : State) (a : Nat) (w : Word) : (s.setReg a w).latched = s.latched := rfl
@[simp] theorem State.setReg_mem (s : State) (a : Nat) (w : Word) : (s.setReg a w).mem = s.mem := rfl
@[simp] theorem State.setReg_upsets (s : State) (a : Nat) (w : Word) : (s.setReg a w).upsets = s.upsets := rfl
@[simp] theorem State.setReg_readback (s : State) (a : Nat) (w : Word) : (s.setReg a w).readback = s.readback := rfl
@[simp] theorem State.setReg_cmd (s : State) (a : Nat) (w : Word) : (s.setReg a w).cmd = s.cmd := rfl
@[simp] theorem State.setReg_flt (s : State) (a : Nat) (w : Word) : (s.setReg a w).flt = s.flt := rfl
@[simp] theorem State.setReg_events (s : State) (a : Nat) (w : Word) : (s.setReg a w).events = s.events := rfl
@[simp] theorem State.setReg_evno (s : State) (a : Nat) (w : Word) : (s.setReg a w).evno = s.evno := rfl
@[simp] theorem State.setReg_recs (s : State) (a : Nat) (w : Word) : (s.setReg a w).recs = s.recs := rfl
@[simp] theorem State.setReg_cel (s : State) (a : Nat) (w : Word) : (s.setReg a w).cel = s.cel := rfl
@[simp] theorem State.setReg_keys (s : State) (a : Nat) (w : Word) : (s.setReg a w).keys = s.keys := rfl
@[simp] theorem State.setReg_tmp (s : State) (a : Nat) (w : Word) : (s.setReg a w).tmp = s.tmp := rfl
@[simp] theorem State.setReg_life (s : State) (a : Nat) (w : Word) : (s.setReg a w).life = s.life := rfl
@[simp] theorem State.setReg_gates (s : State) (a : Nat) (w : Word) : (s.setReg a w).gates = s.gates := rfl
@[simp] theorem State.setReg_tr (s : State) (a : Nat) (w : Word) : (s.setReg a w).tr = s.tr := rfl
@[simp] theorem State.setReg_alm (s : State) (a : Nat) (w : Word) : (s.setReg a w).alm = s.alm := rfl
@[simp] theorem State.setReg_spg (s : State) (a : Nat) (w : Word) : (s.setReg a w).spg = s.spg := rfl
@[simp] theorem State.setReg_est (s : State) (a : Nat) (w : Word) : (s.setReg a w).est = s.est := rfl
@[simp] theorem State.setReg_lim (s : State) (a : Nat) (w : Word) : (s.setReg a w).lim = s.lim := rfl
@[simp] theorem State.setReg_mer (s : State) (a : Nat) (w : Word) : (s.setReg a w).mer = s.mer := rfl
@[simp] theorem State.setReg_sht (s : State) (a : Nat) (w : Word) : (s.setReg a w).sht = s.sht := rfl
@[simp] theorem State.setReg_flc (s : State) (a : Nat) (w : Word) : (s.setReg a w).flc = s.flc := rfl
@[simp] theorem State.setReg_ldg (s : State) (a : Nat) (w : Word) : (s.setReg a w).ldg = s.ldg := rfl
@[simp] theorem State.setReg_asm (s : State) (a : Nat) (w : Word) : (s.setReg a w).asm = s.asm := rfl
@[simp] theorem State.setReg_eng (s : State) (a : Nat) (w : Word) : (s.setReg a w).eng = s.eng := rfl
@[simp] theorem State.setReg_svc (s : State) (a : Nat) (w : Word) : (s.setReg a w).svc = s.svc := rfl
@[simp] theorem State.setReg_tag (s : State) (a : Nat) (w : Word) : (s.setReg a w).tag = s.tag := rfl
@[simp] theorem State.setReg_pwr (s : State) (a : Nat) (w : Word) : (s.setReg a w).pwr = s.pwr := rfl
@[simp] theorem State.setReg_bist (s : State) (a : Nat) (w : Word) : (s.setReg a w).bist = s.bist := rfl
@[simp] theorem State.setReg_tap (s : State) (a : Nat) (w : Word) : (s.setReg a w).tap = s.tap := rfl

@[simp] theorem State.setRegN_pending (s : State) (a v : Nat) : (s.setRegN a v).pending = s.pending := rfl
@[simp] theorem State.setRegN_now (s : State) (a v : Nat) : (s.setRegN a v).now = s.now := rfl
@[simp] theorem State.setRegN_fresh (s : State) (a v : Nat) : (s.setRegN a v).fresh = s.fresh := rfl
@[simp] theorem State.setRegN_latched (s : State) (a v : Nat) : (s.setRegN a v).latched = s.latched := rfl
@[simp] theorem State.setRegN_mem (s : State) (a v : Nat) : (s.setRegN a v).mem = s.mem := rfl
@[simp] theorem State.setRegN_upsets (s : State) (a v : Nat) : (s.setRegN a v).upsets = s.upsets := rfl
@[simp] theorem State.setRegN_readback (s : State) (a v : Nat) : (s.setRegN a v).readback = s.readback := rfl
@[simp] theorem State.setRegN_cmd (s : State) (a v : Nat) : (s.setRegN a v).cmd = s.cmd := rfl
@[simp] theorem State.setRegN_flt (s : State) (a v : Nat) : (s.setRegN a v).flt = s.flt := rfl
@[simp] theorem State.setRegN_events (s : State) (a v : Nat) : (s.setRegN a v).events = s.events := rfl
@[simp] theorem State.setRegN_evno (s : State) (a v : Nat) : (s.setRegN a v).evno = s.evno := rfl
@[simp] theorem State.setRegN_recs (s : State) (a v : Nat) : (s.setRegN a v).recs = s.recs := rfl
@[simp] theorem State.setRegN_cel (s : State) (a v : Nat) : (s.setRegN a v).cel = s.cel := rfl
@[simp] theorem State.setRegN_keys (s : State) (a v : Nat) : (s.setRegN a v).keys = s.keys := rfl
@[simp] theorem State.setRegN_tmp (s : State) (a v : Nat) : (s.setRegN a v).tmp = s.tmp := rfl
@[simp] theorem State.setRegN_life (s : State) (a v : Nat) : (s.setRegN a v).life = s.life := rfl
@[simp] theorem State.setRegN_gates (s : State) (a v : Nat) : (s.setRegN a v).gates = s.gates := rfl
@[simp] theorem State.setRegN_tr (s : State) (a v : Nat) : (s.setRegN a v).tr = s.tr := rfl
@[simp] theorem State.setRegN_alm (s : State) (a v : Nat) : (s.setRegN a v).alm = s.alm := rfl
@[simp] theorem State.setRegN_spg (s : State) (a v : Nat) : (s.setRegN a v).spg = s.spg := rfl
@[simp] theorem State.setRegN_est (s : State) (a v : Nat) : (s.setRegN a v).est = s.est := rfl
@[simp] theorem State.setRegN_lim (s : State) (a v : Nat) : (s.setRegN a v).lim = s.lim := rfl
@[simp] theorem State.setRegN_mer (s : State) (a v : Nat) : (s.setRegN a v).mer = s.mer := rfl
@[simp] theorem State.setRegN_sht (s : State) (a v : Nat) : (s.setRegN a v).sht = s.sht := rfl
@[simp] theorem State.setRegN_flc (s : State) (a v : Nat) : (s.setRegN a v).flc = s.flc := rfl
@[simp] theorem State.setRegN_ldg (s : State) (a v : Nat) : (s.setRegN a v).ldg = s.ldg := rfl
@[simp] theorem State.setRegN_asm (s : State) (a v : Nat) : (s.setRegN a v).asm = s.asm := rfl
@[simp] theorem State.setRegN_eng (s : State) (a v : Nat) : (s.setRegN a v).eng = s.eng := rfl
@[simp] theorem State.setRegN_svc (s : State) (a v : Nat) : (s.setRegN a v).svc = s.svc := rfl
@[simp] theorem State.setRegN_tag (s : State) (a v : Nat) : (s.setRegN a v).tag = s.tag := rfl
@[simp] theorem State.setRegN_pwr (s : State) (a v : Nat) : (s.setRegN a v).pwr = s.pwr := rfl
@[simp] theorem State.setRegN_bist (s : State) (a v : Nat) : (s.setRegN a v).bist = s.bist := rfl
@[simp] theorem State.setRegN_tap (s : State) (a v : Nat) : (s.setRegN a v).tap = s.tap := rfl

@[simp] theorem State.fput_pending (s : State) (f : Fld) (v : Nat) : (s.fput f v).pending = s.pending := rfl
@[simp] theorem State.fput_now (s : State) (f : Fld) (v : Nat) : (s.fput f v).now = s.now := rfl
@[simp] theorem State.fput_fresh (s : State) (f : Fld) (v : Nat) : (s.fput f v).fresh = s.fresh := rfl
@[simp] theorem State.fput_latched (s : State) (f : Fld) (v : Nat) : (s.fput f v).latched = s.latched := rfl
@[simp] theorem State.fput_mem (s : State) (f : Fld) (v : Nat) : (s.fput f v).mem = s.mem := rfl
@[simp] theorem State.fput_upsets (s : State) (f : Fld) (v : Nat) : (s.fput f v).upsets = s.upsets := rfl
@[simp] theorem State.fput_readback (s : State) (f : Fld) (v : Nat) : (s.fput f v).readback = s.readback := rfl
@[simp] theorem State.fput_cmd (s : State) (f : Fld) (v : Nat) : (s.fput f v).cmd = s.cmd := rfl
@[simp] theorem State.fput_flt (s : State) (f : Fld) (v : Nat) : (s.fput f v).flt = s.flt := rfl
@[simp] theorem State.fput_events (s : State) (f : Fld) (v : Nat) : (s.fput f v).events = s.events := rfl
@[simp] theorem State.fput_evno (s : State) (f : Fld) (v : Nat) : (s.fput f v).evno = s.evno := rfl
@[simp] theorem State.fput_recs (s : State) (f : Fld) (v : Nat) : (s.fput f v).recs = s.recs := rfl
@[simp] theorem State.fput_cel (s : State) (f : Fld) (v : Nat) : (s.fput f v).cel = s.cel := rfl
@[simp] theorem State.fput_keys (s : State) (f : Fld) (v : Nat) : (s.fput f v).keys = s.keys := rfl
@[simp] theorem State.fput_tmp (s : State) (f : Fld) (v : Nat) : (s.fput f v).tmp = s.tmp := rfl
@[simp] theorem State.fput_life (s : State) (f : Fld) (v : Nat) : (s.fput f v).life = s.life := rfl
@[simp] theorem State.fput_gates (s : State) (f : Fld) (v : Nat) : (s.fput f v).gates = s.gates := rfl
@[simp] theorem State.fput_tr (s : State) (f : Fld) (v : Nat) : (s.fput f v).tr = s.tr := rfl
@[simp] theorem State.fput_alm (s : State) (f : Fld) (v : Nat) : (s.fput f v).alm = s.alm := rfl
@[simp] theorem State.fput_spg (s : State) (f : Fld) (v : Nat) : (s.fput f v).spg = s.spg := rfl
@[simp] theorem State.fput_est (s : State) (f : Fld) (v : Nat) : (s.fput f v).est = s.est := rfl
@[simp] theorem State.fput_lim (s : State) (f : Fld) (v : Nat) : (s.fput f v).lim = s.lim := rfl
@[simp] theorem State.fput_mer (s : State) (f : Fld) (v : Nat) : (s.fput f v).mer = s.mer := rfl
@[simp] theorem State.fput_sht (s : State) (f : Fld) (v : Nat) : (s.fput f v).sht = s.sht := rfl
@[simp] theorem State.fput_flc (s : State) (f : Fld) (v : Nat) : (s.fput f v).flc = s.flc := rfl
@[simp] theorem State.fput_ldg (s : State) (f : Fld) (v : Nat) : (s.fput f v).ldg = s.ldg := rfl
@[simp] theorem State.fput_asm (s : State) (f : Fld) (v : Nat) : (s.fput f v).asm = s.asm := rfl
@[simp] theorem State.fput_eng (s : State) (f : Fld) (v : Nat) : (s.fput f v).eng = s.eng := rfl
@[simp] theorem State.fput_svc (s : State) (f : Fld) (v : Nat) : (s.fput f v).svc = s.svc := rfl
@[simp] theorem State.fput_tag (s : State) (f : Fld) (v : Nat) : (s.fput f v).tag = s.tag := rfl
@[simp] theorem State.fput_pwr (s : State) (f : Fld) (v : Nat) : (s.fput f v).pwr = s.pwr := rfl
@[simp] theorem State.fput_bist (s : State) (f : Fld) (v : Nat) : (s.fput f v).bist = s.bist := rfl
@[simp] theorem State.fput_tap (s : State) (f : Fld) (v : Nat) : (s.fput f v).tap = s.tap := rfl

@[simp] theorem State.bump_pending (s : State) (f : Fld) : (s.bump f).pending = s.pending := rfl
@[simp] theorem State.bump_now (s : State) (f : Fld) : (s.bump f).now = s.now := rfl
@[simp] theorem State.bump_fresh (s : State) (f : Fld) : (s.bump f).fresh = s.fresh := rfl
@[simp] theorem State.bump_latched (s : State) (f : Fld) : (s.bump f).latched = s.latched := rfl
@[simp] theorem State.bump_mem (s : State) (f : Fld) : (s.bump f).mem = s.mem := rfl
@[simp] theorem State.bump_upsets (s : State) (f : Fld) : (s.bump f).upsets = s.upsets := rfl
@[simp] theorem State.bump_readback (s : State) (f : Fld) : (s.bump f).readback = s.readback := rfl
@[simp] theorem State.bump_cmd (s : State) (f : Fld) : (s.bump f).cmd = s.cmd := rfl
@[simp] theorem State.bump_flt (s : State) (f : Fld) : (s.bump f).flt = s.flt := rfl
@[simp] theorem State.bump_events (s : State) (f : Fld) : (s.bump f).events = s.events := rfl
@[simp] theorem State.bump_evno (s : State) (f : Fld) : (s.bump f).evno = s.evno := rfl
@[simp] theorem State.bump_recs (s : State) (f : Fld) : (s.bump f).recs = s.recs := rfl
@[simp] theorem State.bump_cel (s : State) (f : Fld) : (s.bump f).cel = s.cel := rfl
@[simp] theorem State.bump_keys (s : State) (f : Fld) : (s.bump f).keys = s.keys := rfl
@[simp] theorem State.bump_tmp (s : State) (f : Fld) : (s.bump f).tmp = s.tmp := rfl
@[simp] theorem State.bump_life (s : State) (f : Fld) : (s.bump f).life = s.life := rfl
@[simp] theorem State.bump_gates (s : State) (f : Fld) : (s.bump f).gates = s.gates := rfl
@[simp] theorem State.bump_tr (s : State) (f : Fld) : (s.bump f).tr = s.tr := rfl
@[simp] theorem State.bump_alm (s : State) (f : Fld) : (s.bump f).alm = s.alm := rfl
@[simp] theorem State.bump_spg (s : State) (f : Fld) : (s.bump f).spg = s.spg := rfl
@[simp] theorem State.bump_est (s : State) (f : Fld) : (s.bump f).est = s.est := rfl
@[simp] theorem State.bump_lim (s : State) (f : Fld) : (s.bump f).lim = s.lim := rfl
@[simp] theorem State.bump_mer (s : State) (f : Fld) : (s.bump f).mer = s.mer := rfl
@[simp] theorem State.bump_sht (s : State) (f : Fld) : (s.bump f).sht = s.sht := rfl
@[simp] theorem State.bump_flc (s : State) (f : Fld) : (s.bump f).flc = s.flc := rfl
@[simp] theorem State.bump_ldg (s : State) (f : Fld) : (s.bump f).ldg = s.ldg := rfl
@[simp] theorem State.bump_asm (s : State) (f : Fld) : (s.bump f).asm = s.asm := rfl
@[simp] theorem State.bump_eng (s : State) (f : Fld) : (s.bump f).eng = s.eng := rfl
@[simp] theorem State.bump_svc (s : State) (f : Fld) : (s.bump f).svc = s.svc := rfl
@[simp] theorem State.bump_tag (s : State) (f : Fld) : (s.bump f).tag = s.tag := rfl
@[simp] theorem State.bump_pwr (s : State) (f : Fld) : (s.bump f).pwr = s.pwr := rfl
@[simp] theorem State.bump_bist (s : State) (f : Fld) : (s.bump f).bist = s.bist := rfl
@[simp] theorem State.bump_tap (s : State) (f : Fld) : (s.bump f).tap = s.tap := rfl

@[simp] theorem State.bumpBy_pending (s : State) (f : Fld) (n : Nat) : (s.bumpBy f n).pending = s.pending := rfl
@[simp] theorem State.bumpBy_now (s : State) (f : Fld) (n : Nat) : (s.bumpBy f n).now = s.now := rfl
@[simp] theorem State.bumpBy_fresh (s : State) (f : Fld) (n : Nat) : (s.bumpBy f n).fresh = s.fresh := rfl
@[simp] theorem State.bumpBy_latched (s : State) (f : Fld) (n : Nat) : (s.bumpBy f n).latched = s.latched := rfl
@[simp] theorem State.bumpBy_mem (s : State) (f : Fld) (n : Nat) : (s.bumpBy f n).mem = s.mem := rfl
@[simp] theorem State.bumpBy_upsets (s : State) (f : Fld) (n : Nat) : (s.bumpBy f n).upsets = s.upsets := rfl
@[simp] theorem State.bumpBy_readback (s : State) (f : Fld) (n : Nat) : (s.bumpBy f n).readback = s.readback := rfl
@[simp] theorem State.bumpBy_cmd (s : State) (f : Fld) (n : Nat) : (s.bumpBy f n).cmd = s.cmd := rfl
@[simp] theorem State.bumpBy_flt (s : State) (f : Fld) (n : Nat) : (s.bumpBy f n).flt = s.flt := rfl
@[simp] theorem State.bumpBy_events (s : State) (f : Fld) (n : Nat) : (s.bumpBy f n).events = s.events := rfl
@[simp] theorem State.bumpBy_evno (s : State) (f : Fld) (n : Nat) : (s.bumpBy f n).evno = s.evno := rfl
@[simp] theorem State.bumpBy_recs (s : State) (f : Fld) (n : Nat) : (s.bumpBy f n).recs = s.recs := rfl
@[simp] theorem State.bumpBy_cel (s : State) (f : Fld) (n : Nat) : (s.bumpBy f n).cel = s.cel := rfl
@[simp] theorem State.bumpBy_keys (s : State) (f : Fld) (n : Nat) : (s.bumpBy f n).keys = s.keys := rfl
@[simp] theorem State.bumpBy_tmp (s : State) (f : Fld) (n : Nat) : (s.bumpBy f n).tmp = s.tmp := rfl
@[simp] theorem State.bumpBy_life (s : State) (f : Fld) (n : Nat) : (s.bumpBy f n).life = s.life := rfl
@[simp] theorem State.bumpBy_gates (s : State) (f : Fld) (n : Nat) : (s.bumpBy f n).gates = s.gates := rfl
@[simp] theorem State.bumpBy_tr (s : State) (f : Fld) (n : Nat) : (s.bumpBy f n).tr = s.tr := rfl
@[simp] theorem State.bumpBy_alm (s : State) (f : Fld) (n : Nat) : (s.bumpBy f n).alm = s.alm := rfl
@[simp] theorem State.bumpBy_spg (s : State) (f : Fld) (n : Nat) : (s.bumpBy f n).spg = s.spg := rfl
@[simp] theorem State.bumpBy_est (s : State) (f : Fld) (n : Nat) : (s.bumpBy f n).est = s.est := rfl
@[simp] theorem State.bumpBy_lim (s : State) (f : Fld) (n : Nat) : (s.bumpBy f n).lim = s.lim := rfl
@[simp] theorem State.bumpBy_mer (s : State) (f : Fld) (n : Nat) : (s.bumpBy f n).mer = s.mer := rfl
@[simp] theorem State.bumpBy_sht (s : State) (f : Fld) (n : Nat) : (s.bumpBy f n).sht = s.sht := rfl
@[simp] theorem State.bumpBy_flc (s : State) (f : Fld) (n : Nat) : (s.bumpBy f n).flc = s.flc := rfl
@[simp] theorem State.bumpBy_ldg (s : State) (f : Fld) (n : Nat) : (s.bumpBy f n).ldg = s.ldg := rfl
@[simp] theorem State.bumpBy_asm (s : State) (f : Fld) (n : Nat) : (s.bumpBy f n).asm = s.asm := rfl
@[simp] theorem State.bumpBy_eng (s : State) (f : Fld) (n : Nat) : (s.bumpBy f n).eng = s.eng := rfl
@[simp] theorem State.bumpBy_svc (s : State) (f : Fld) (n : Nat) : (s.bumpBy f n).svc = s.svc := rfl
@[simp] theorem State.bumpBy_tag (s : State) (f : Fld) (n : Nat) : (s.bumpBy f n).tag = s.tag := rfl
@[simp] theorem State.bumpBy_pwr (s : State) (f : Fld) (n : Nat) : (s.bumpBy f n).pwr = s.pwr := rfl
@[simp] theorem State.bumpBy_bist (s : State) (f : Fld) (n : Nat) : (s.bumpBy f n).bist = s.bist := rfl
@[simp] theorem State.bumpBy_tap (s : State) (f : Fld) (n : Nat) : (s.bumpBy f n).tap = s.tap := rfl

@[simp] theorem State.raise_pending (s : State) (f : Fld) : (s.raise f).pending = s.pending := rfl
@[simp] theorem State.raise_now (s : State) (f : Fld) : (s.raise f).now = s.now := rfl
@[simp] theorem State.raise_fresh (s : State) (f : Fld) : (s.raise f).fresh = s.fresh := rfl
@[simp] theorem State.raise_latched (s : State) (f : Fld) : (s.raise f).latched = s.latched := rfl
@[simp] theorem State.raise_mem (s : State) (f : Fld) : (s.raise f).mem = s.mem := rfl
@[simp] theorem State.raise_upsets (s : State) (f : Fld) : (s.raise f).upsets = s.upsets := rfl
@[simp] theorem State.raise_readback (s : State) (f : Fld) : (s.raise f).readback = s.readback := rfl
@[simp] theorem State.raise_cmd (s : State) (f : Fld) : (s.raise f).cmd = s.cmd := rfl
@[simp] theorem State.raise_flt (s : State) (f : Fld) : (s.raise f).flt = s.flt := rfl
@[simp] theorem State.raise_events (s : State) (f : Fld) : (s.raise f).events = s.events := rfl
@[simp] theorem State.raise_evno (s : State) (f : Fld) : (s.raise f).evno = s.evno := rfl
@[simp] theorem State.raise_recs (s : State) (f : Fld) : (s.raise f).recs = s.recs := rfl
@[simp] theorem State.raise_cel (s : State) (f : Fld) : (s.raise f).cel = s.cel := rfl
@[simp] theorem State.raise_keys (s : State) (f : Fld) : (s.raise f).keys = s.keys := rfl
@[simp] theorem State.raise_tmp (s : State) (f : Fld) : (s.raise f).tmp = s.tmp := rfl
@[simp] theorem State.raise_life (s : State) (f : Fld) : (s.raise f).life = s.life := rfl
@[simp] theorem State.raise_gates (s : State) (f : Fld) : (s.raise f).gates = s.gates := rfl
@[simp] theorem State.raise_tr (s : State) (f : Fld) : (s.raise f).tr = s.tr := rfl
@[simp] theorem State.raise_alm (s : State) (f : Fld) : (s.raise f).alm = s.alm := rfl
@[simp] theorem State.raise_spg (s : State) (f : Fld) : (s.raise f).spg = s.spg := rfl
@[simp] theorem State.raise_est (s : State) (f : Fld) : (s.raise f).est = s.est := rfl
@[simp] theorem State.raise_lim (s : State) (f : Fld) : (s.raise f).lim = s.lim := rfl
@[simp] theorem State.raise_mer (s : State) (f : Fld) : (s.raise f).mer = s.mer := rfl
@[simp] theorem State.raise_sht (s : State) (f : Fld) : (s.raise f).sht = s.sht := rfl
@[simp] theorem State.raise_flc (s : State) (f : Fld) : (s.raise f).flc = s.flc := rfl
@[simp] theorem State.raise_ldg (s : State) (f : Fld) : (s.raise f).ldg = s.ldg := rfl
@[simp] theorem State.raise_asm (s : State) (f : Fld) : (s.raise f).asm = s.asm := rfl
@[simp] theorem State.raise_eng (s : State) (f : Fld) : (s.raise f).eng = s.eng := rfl
@[simp] theorem State.raise_svc (s : State) (f : Fld) : (s.raise f).svc = s.svc := rfl
@[simp] theorem State.raise_tag (s : State) (f : Fld) : (s.raise f).tag = s.tag := rfl
@[simp] theorem State.raise_pwr (s : State) (f : Fld) : (s.raise f).pwr = s.pwr := rfl
@[simp] theorem State.raise_bist (s : State) (f : Fld) : (s.raise f).bist = s.bist := rfl
@[simp] theorem State.raise_tap (s : State) (f : Fld) : (s.raise f).tap = s.tap := rfl

@[simp] theorem State.putBit_pending (s : State) (f : Fld) (i : Nat) (b : Bool) : (s.putBit f i b).pending = s.pending := rfl
@[simp] theorem State.putBit_now (s : State) (f : Fld) (i : Nat) (b : Bool) : (s.putBit f i b).now = s.now := rfl
@[simp] theorem State.putBit_fresh (s : State) (f : Fld) (i : Nat) (b : Bool) : (s.putBit f i b).fresh = s.fresh := rfl
@[simp] theorem State.putBit_latched (s : State) (f : Fld) (i : Nat) (b : Bool) : (s.putBit f i b).latched = s.latched := rfl
@[simp] theorem State.putBit_mem (s : State) (f : Fld) (i : Nat) (b : Bool) : (s.putBit f i b).mem = s.mem := rfl
@[simp] theorem State.putBit_upsets (s : State) (f : Fld) (i : Nat) (b : Bool) : (s.putBit f i b).upsets = s.upsets := rfl
@[simp] theorem State.putBit_readback (s : State) (f : Fld) (i : Nat) (b : Bool) : (s.putBit f i b).readback = s.readback := rfl
@[simp] theorem State.putBit_cmd (s : State) (f : Fld) (i : Nat) (b : Bool) : (s.putBit f i b).cmd = s.cmd := rfl
@[simp] theorem State.putBit_flt (s : State) (f : Fld) (i : Nat) (b : Bool) : (s.putBit f i b).flt = s.flt := rfl
@[simp] theorem State.putBit_events (s : State) (f : Fld) (i : Nat) (b : Bool) : (s.putBit f i b).events = s.events := rfl
@[simp] theorem State.putBit_evno (s : State) (f : Fld) (i : Nat) (b : Bool) : (s.putBit f i b).evno = s.evno := rfl
@[simp] theorem State.putBit_recs (s : State) (f : Fld) (i : Nat) (b : Bool) : (s.putBit f i b).recs = s.recs := rfl
@[simp] theorem State.putBit_cel (s : State) (f : Fld) (i : Nat) (b : Bool) : (s.putBit f i b).cel = s.cel := rfl
@[simp] theorem State.putBit_keys (s : State) (f : Fld) (i : Nat) (b : Bool) : (s.putBit f i b).keys = s.keys := rfl
@[simp] theorem State.putBit_tmp (s : State) (f : Fld) (i : Nat) (b : Bool) : (s.putBit f i b).tmp = s.tmp := rfl
@[simp] theorem State.putBit_life (s : State) (f : Fld) (i : Nat) (b : Bool) : (s.putBit f i b).life = s.life := rfl
@[simp] theorem State.putBit_gates (s : State) (f : Fld) (i : Nat) (b : Bool) : (s.putBit f i b).gates = s.gates := rfl
@[simp] theorem State.putBit_tr (s : State) (f : Fld) (i : Nat) (b : Bool) : (s.putBit f i b).tr = s.tr := rfl
@[simp] theorem State.putBit_alm (s : State) (f : Fld) (i : Nat) (b : Bool) : (s.putBit f i b).alm = s.alm := rfl
@[simp] theorem State.putBit_spg (s : State) (f : Fld) (i : Nat) (b : Bool) : (s.putBit f i b).spg = s.spg := rfl
@[simp] theorem State.putBit_est (s : State) (f : Fld) (i : Nat) (b : Bool) : (s.putBit f i b).est = s.est := rfl
@[simp] theorem State.putBit_lim (s : State) (f : Fld) (i : Nat) (b : Bool) : (s.putBit f i b).lim = s.lim := rfl
@[simp] theorem State.putBit_mer (s : State) (f : Fld) (i : Nat) (b : Bool) : (s.putBit f i b).mer = s.mer := rfl
@[simp] theorem State.putBit_sht (s : State) (f : Fld) (i : Nat) (b : Bool) : (s.putBit f i b).sht = s.sht := rfl
@[simp] theorem State.putBit_flc (s : State) (f : Fld) (i : Nat) (b : Bool) : (s.putBit f i b).flc = s.flc := rfl
@[simp] theorem State.putBit_ldg (s : State) (f : Fld) (i : Nat) (b : Bool) : (s.putBit f i b).ldg = s.ldg := rfl
@[simp] theorem State.putBit_asm (s : State) (f : Fld) (i : Nat) (b : Bool) : (s.putBit f i b).asm = s.asm := rfl
@[simp] theorem State.putBit_eng (s : State) (f : Fld) (i : Nat) (b : Bool) : (s.putBit f i b).eng = s.eng := rfl
@[simp] theorem State.putBit_svc (s : State) (f : Fld) (i : Nat) (b : Bool) : (s.putBit f i b).svc = s.svc := rfl
@[simp] theorem State.putBit_tag (s : State) (f : Fld) (i : Nat) (b : Bool) : (s.putBit f i b).tag = s.tag := rfl
@[simp] theorem State.putBit_pwr (s : State) (f : Fld) (i : Nat) (b : Bool) : (s.putBit f i b).pwr = s.pwr := rfl
@[simp] theorem State.putBit_bist (s : State) (f : Fld) (i : Nat) (b : Bool) : (s.putBit f i b).bist = s.bist := rfl
@[simp] theorem State.putBit_tap (s : State) (f : Fld) (i : Nat) (b : Bool) : (s.putBit f i b).tap = s.tap := rfl

@[simp] theorem State.put64_pending (s : State) (lo hi v : Nat) : (s.put64 lo hi v).pending = s.pending := rfl
@[simp] theorem State.put64_now (s : State) (lo hi v : Nat) : (s.put64 lo hi v).now = s.now := rfl
@[simp] theorem State.put64_fresh (s : State) (lo hi v : Nat) : (s.put64 lo hi v).fresh = s.fresh := rfl
@[simp] theorem State.put64_latched (s : State) (lo hi v : Nat) : (s.put64 lo hi v).latched = s.latched := rfl
@[simp] theorem State.put64_mem (s : State) (lo hi v : Nat) : (s.put64 lo hi v).mem = s.mem := rfl
@[simp] theorem State.put64_upsets (s : State) (lo hi v : Nat) : (s.put64 lo hi v).upsets = s.upsets := rfl
@[simp] theorem State.put64_readback (s : State) (lo hi v : Nat) : (s.put64 lo hi v).readback = s.readback := rfl
@[simp] theorem State.put64_cmd (s : State) (lo hi v : Nat) : (s.put64 lo hi v).cmd = s.cmd := rfl
@[simp] theorem State.put64_flt (s : State) (lo hi v : Nat) : (s.put64 lo hi v).flt = s.flt := rfl
@[simp] theorem State.put64_events (s : State) (lo hi v : Nat) : (s.put64 lo hi v).events = s.events := rfl
@[simp] theorem State.put64_evno (s : State) (lo hi v : Nat) : (s.put64 lo hi v).evno = s.evno := rfl
@[simp] theorem State.put64_recs (s : State) (lo hi v : Nat) : (s.put64 lo hi v).recs = s.recs := rfl
@[simp] theorem State.put64_cel (s : State) (lo hi v : Nat) : (s.put64 lo hi v).cel = s.cel := rfl
@[simp] theorem State.put64_keys (s : State) (lo hi v : Nat) : (s.put64 lo hi v).keys = s.keys := rfl
@[simp] theorem State.put64_tmp (s : State) (lo hi v : Nat) : (s.put64 lo hi v).tmp = s.tmp := rfl
@[simp] theorem State.put64_life (s : State) (lo hi v : Nat) : (s.put64 lo hi v).life = s.life := rfl
@[simp] theorem State.put64_gates (s : State) (lo hi v : Nat) : (s.put64 lo hi v).gates = s.gates := rfl
@[simp] theorem State.put64_tr (s : State) (lo hi v : Nat) : (s.put64 lo hi v).tr = s.tr := rfl
@[simp] theorem State.put64_alm (s : State) (lo hi v : Nat) : (s.put64 lo hi v).alm = s.alm := rfl
@[simp] theorem State.put64_spg (s : State) (lo hi v : Nat) : (s.put64 lo hi v).spg = s.spg := rfl
@[simp] theorem State.put64_est (s : State) (lo hi v : Nat) : (s.put64 lo hi v).est = s.est := rfl
@[simp] theorem State.put64_lim (s : State) (lo hi v : Nat) : (s.put64 lo hi v).lim = s.lim := rfl
@[simp] theorem State.put64_mer (s : State) (lo hi v : Nat) : (s.put64 lo hi v).mer = s.mer := rfl
@[simp] theorem State.put64_sht (s : State) (lo hi v : Nat) : (s.put64 lo hi v).sht = s.sht := rfl
@[simp] theorem State.put64_flc (s : State) (lo hi v : Nat) : (s.put64 lo hi v).flc = s.flc := rfl
@[simp] theorem State.put64_ldg (s : State) (lo hi v : Nat) : (s.put64 lo hi v).ldg = s.ldg := rfl
@[simp] theorem State.put64_asm (s : State) (lo hi v : Nat) : (s.put64 lo hi v).asm = s.asm := rfl
@[simp] theorem State.put64_eng (s : State) (lo hi v : Nat) : (s.put64 lo hi v).eng = s.eng := rfl
@[simp] theorem State.put64_svc (s : State) (lo hi v : Nat) : (s.put64 lo hi v).svc = s.svc := rfl
@[simp] theorem State.put64_tag (s : State) (lo hi v : Nat) : (s.put64 lo hi v).tag = s.tag := rfl
@[simp] theorem State.put64_pwr (s : State) (lo hi v : Nat) : (s.put64 lo hi v).pwr = s.pwr := rfl
@[simp] theorem State.put64_bist (s : State) (lo hi v : Nat) : (s.put64 lo hi v).bist = s.bist := rfl
@[simp] theorem State.put64_tap (s : State) (lo hi v : Nat) : (s.put64 lo hi v).tap = s.tap := rfl

@[simp] theorem State.fputs_pending : ∀ (l : List (Fld × Nat)) (s : State), (s.fputs l).pending = s.pending
  | [], _ => rfl
  | (f, v) :: l, s => State.fputs_pending l (s.fput f v)
@[simp] theorem State.fputs_now : ∀ (l : List (Fld × Nat)) (s : State), (s.fputs l).now = s.now
  | [], _ => rfl
  | (f, v) :: l, s => State.fputs_now l (s.fput f v)
@[simp] theorem State.fputs_fresh : ∀ (l : List (Fld × Nat)) (s : State), (s.fputs l).fresh = s.fresh
  | [], _ => rfl
  | (f, v) :: l, s => State.fputs_fresh l (s.fput f v)
@[simp] theorem State.fputs_latched : ∀ (l : List (Fld × Nat)) (s : State), (s.fputs l).latched = s.latched
  | [], _ => rfl
  | (f, v) :: l, s => State.fputs_latched l (s.fput f v)
@[simp] theorem State.fputs_mem : ∀ (l : List (Fld × Nat)) (s : State), (s.fputs l).mem = s.mem
  | [], _ => rfl
  | (f, v) :: l, s => State.fputs_mem l (s.fput f v)
@[simp] theorem State.fputs_upsets : ∀ (l : List (Fld × Nat)) (s : State), (s.fputs l).upsets = s.upsets
  | [], _ => rfl
  | (f, v) :: l, s => State.fputs_upsets l (s.fput f v)
@[simp] theorem State.fputs_readback : ∀ (l : List (Fld × Nat)) (s : State), (s.fputs l).readback = s.readback
  | [], _ => rfl
  | (f, v) :: l, s => State.fputs_readback l (s.fput f v)
@[simp] theorem State.fputs_cmd : ∀ (l : List (Fld × Nat)) (s : State), (s.fputs l).cmd = s.cmd
  | [], _ => rfl
  | (f, v) :: l, s => State.fputs_cmd l (s.fput f v)
@[simp] theorem State.fputs_flt : ∀ (l : List (Fld × Nat)) (s : State), (s.fputs l).flt = s.flt
  | [], _ => rfl
  | (f, v) :: l, s => State.fputs_flt l (s.fput f v)
@[simp] theorem State.fputs_events : ∀ (l : List (Fld × Nat)) (s : State), (s.fputs l).events = s.events
  | [], _ => rfl
  | (f, v) :: l, s => State.fputs_events l (s.fput f v)
@[simp] theorem State.fputs_evno : ∀ (l : List (Fld × Nat)) (s : State), (s.fputs l).evno = s.evno
  | [], _ => rfl
  | (f, v) :: l, s => State.fputs_evno l (s.fput f v)
@[simp] theorem State.fputs_recs : ∀ (l : List (Fld × Nat)) (s : State), (s.fputs l).recs = s.recs
  | [], _ => rfl
  | (f, v) :: l, s => State.fputs_recs l (s.fput f v)
@[simp] theorem State.fputs_cel : ∀ (l : List (Fld × Nat)) (s : State), (s.fputs l).cel = s.cel
  | [], _ => rfl
  | (f, v) :: l, s => State.fputs_cel l (s.fput f v)
@[simp] theorem State.fputs_keys : ∀ (l : List (Fld × Nat)) (s : State), (s.fputs l).keys = s.keys
  | [], _ => rfl
  | (f, v) :: l, s => State.fputs_keys l (s.fput f v)
@[simp] theorem State.fputs_tmp : ∀ (l : List (Fld × Nat)) (s : State), (s.fputs l).tmp = s.tmp
  | [], _ => rfl
  | (f, v) :: l, s => State.fputs_tmp l (s.fput f v)
@[simp] theorem State.fputs_life : ∀ (l : List (Fld × Nat)) (s : State), (s.fputs l).life = s.life
  | [], _ => rfl
  | (f, v) :: l, s => State.fputs_life l (s.fput f v)
@[simp] theorem State.fputs_gates : ∀ (l : List (Fld × Nat)) (s : State), (s.fputs l).gates = s.gates
  | [], _ => rfl
  | (f, v) :: l, s => State.fputs_gates l (s.fput f v)
@[simp] theorem State.fputs_tr : ∀ (l : List (Fld × Nat)) (s : State), (s.fputs l).tr = s.tr
  | [], _ => rfl
  | (f, v) :: l, s => State.fputs_tr l (s.fput f v)
@[simp] theorem State.fputs_alm : ∀ (l : List (Fld × Nat)) (s : State), (s.fputs l).alm = s.alm
  | [], _ => rfl
  | (f, v) :: l, s => State.fputs_alm l (s.fput f v)
@[simp] theorem State.fputs_spg : ∀ (l : List (Fld × Nat)) (s : State), (s.fputs l).spg = s.spg
  | [], _ => rfl
  | (f, v) :: l, s => State.fputs_spg l (s.fput f v)
@[simp] theorem State.fputs_est : ∀ (l : List (Fld × Nat)) (s : State), (s.fputs l).est = s.est
  | [], _ => rfl
  | (f, v) :: l, s => State.fputs_est l (s.fput f v)
@[simp] theorem State.fputs_lim : ∀ (l : List (Fld × Nat)) (s : State), (s.fputs l).lim = s.lim
  | [], _ => rfl
  | (f, v) :: l, s => State.fputs_lim l (s.fput f v)
@[simp] theorem State.fputs_mer : ∀ (l : List (Fld × Nat)) (s : State), (s.fputs l).mer = s.mer
  | [], _ => rfl
  | (f, v) :: l, s => State.fputs_mer l (s.fput f v)
@[simp] theorem State.fputs_sht : ∀ (l : List (Fld × Nat)) (s : State), (s.fputs l).sht = s.sht
  | [], _ => rfl
  | (f, v) :: l, s => State.fputs_sht l (s.fput f v)
@[simp] theorem State.fputs_flc : ∀ (l : List (Fld × Nat)) (s : State), (s.fputs l).flc = s.flc
  | [], _ => rfl
  | (f, v) :: l, s => State.fputs_flc l (s.fput f v)
@[simp] theorem State.fputs_ldg : ∀ (l : List (Fld × Nat)) (s : State), (s.fputs l).ldg = s.ldg
  | [], _ => rfl
  | (f, v) :: l, s => State.fputs_ldg l (s.fput f v)
@[simp] theorem State.fputs_asm : ∀ (l : List (Fld × Nat)) (s : State), (s.fputs l).asm = s.asm
  | [], _ => rfl
  | (f, v) :: l, s => State.fputs_asm l (s.fput f v)
@[simp] theorem State.fputs_eng : ∀ (l : List (Fld × Nat)) (s : State), (s.fputs l).eng = s.eng
  | [], _ => rfl
  | (f, v) :: l, s => State.fputs_eng l (s.fput f v)
@[simp] theorem State.fputs_svc : ∀ (l : List (Fld × Nat)) (s : State), (s.fputs l).svc = s.svc
  | [], _ => rfl
  | (f, v) :: l, s => State.fputs_svc l (s.fput f v)
@[simp] theorem State.fputs_tag : ∀ (l : List (Fld × Nat)) (s : State), (s.fputs l).tag = s.tag
  | [], _ => rfl
  | (f, v) :: l, s => State.fputs_tag l (s.fput f v)
@[simp] theorem State.fputs_pwr : ∀ (l : List (Fld × Nat)) (s : State), (s.fputs l).pwr = s.pwr
  | [], _ => rfl
  | (f, v) :: l, s => State.fputs_pwr l (s.fput f v)
@[simp] theorem State.fputs_bist : ∀ (l : List (Fld × Nat)) (s : State), (s.fputs l).bist = s.bist
  | [], _ => rfl
  | (f, v) :: l, s => State.fputs_bist l (s.fput f v)
@[simp] theorem State.fputs_tap : ∀ (l : List (Fld × Nat)) (s : State), (s.fputs l).tap = s.tap
  | [], _ => rfl
  | (f, v) :: l, s => State.fputs_tap l (s.fput f v)

@[simp] theorem State.resetRegs_pending (s : State) (p : Nat → Bool) : (s.resetRegs p).pending = s.pending := rfl
@[simp] theorem State.resetRegs_now (s : State) (p : Nat → Bool) : (s.resetRegs p).now = s.now := rfl
@[simp] theorem State.resetRegs_fresh (s : State) (p : Nat → Bool) : (s.resetRegs p).fresh = s.fresh := rfl
@[simp] theorem State.resetRegs_mem (s : State) (p : Nat → Bool) : (s.resetRegs p).mem = s.mem := rfl
@[simp] theorem State.resetRegs_upsets (s : State) (p : Nat → Bool) : (s.resetRegs p).upsets = s.upsets := rfl
@[simp] theorem State.resetRegs_readback (s : State) (p : Nat → Bool) : (s.resetRegs p).readback = s.readback := rfl
@[simp] theorem State.resetRegs_cmd (s : State) (p : Nat → Bool) : (s.resetRegs p).cmd = s.cmd := rfl
@[simp] theorem State.resetRegs_flt (s : State) (p : Nat → Bool) : (s.resetRegs p).flt = s.flt := rfl
@[simp] theorem State.resetRegs_events (s : State) (p : Nat → Bool) : (s.resetRegs p).events = s.events := rfl
@[simp] theorem State.resetRegs_evno (s : State) (p : Nat → Bool) : (s.resetRegs p).evno = s.evno := rfl
@[simp] theorem State.resetRegs_recs (s : State) (p : Nat → Bool) : (s.resetRegs p).recs = s.recs := rfl
@[simp] theorem State.resetRegs_cel (s : State) (p : Nat → Bool) : (s.resetRegs p).cel = s.cel := rfl
@[simp] theorem State.resetRegs_keys (s : State) (p : Nat → Bool) : (s.resetRegs p).keys = s.keys := rfl
@[simp] theorem State.resetRegs_tmp (s : State) (p : Nat → Bool) : (s.resetRegs p).tmp = s.tmp := rfl
@[simp] theorem State.resetRegs_life (s : State) (p : Nat → Bool) : (s.resetRegs p).life = s.life := rfl
@[simp] theorem State.resetRegs_gates (s : State) (p : Nat → Bool) : (s.resetRegs p).gates = s.gates := rfl
@[simp] theorem State.resetRegs_tr (s : State) (p : Nat → Bool) : (s.resetRegs p).tr = s.tr := rfl
@[simp] theorem State.resetRegs_alm (s : State) (p : Nat → Bool) : (s.resetRegs p).alm = s.alm := rfl
@[simp] theorem State.resetRegs_spg (s : State) (p : Nat → Bool) : (s.resetRegs p).spg = s.spg := rfl
@[simp] theorem State.resetRegs_est (s : State) (p : Nat → Bool) : (s.resetRegs p).est = s.est := rfl
@[simp] theorem State.resetRegs_lim (s : State) (p : Nat → Bool) : (s.resetRegs p).lim = s.lim := rfl
@[simp] theorem State.resetRegs_mer (s : State) (p : Nat → Bool) : (s.resetRegs p).mer = s.mer := rfl
@[simp] theorem State.resetRegs_sht (s : State) (p : Nat → Bool) : (s.resetRegs p).sht = s.sht := rfl
@[simp] theorem State.resetRegs_flc (s : State) (p : Nat → Bool) : (s.resetRegs p).flc = s.flc := rfl
@[simp] theorem State.resetRegs_ldg (s : State) (p : Nat → Bool) : (s.resetRegs p).ldg = s.ldg := rfl
@[simp] theorem State.resetRegs_asm (s : State) (p : Nat → Bool) : (s.resetRegs p).asm = s.asm := rfl
@[simp] theorem State.resetRegs_eng (s : State) (p : Nat → Bool) : (s.resetRegs p).eng = s.eng := rfl
@[simp] theorem State.resetRegs_svc (s : State) (p : Nat → Bool) : (s.resetRegs p).svc = s.svc := rfl
@[simp] theorem State.resetRegs_tag (s : State) (p : Nat → Bool) : (s.resetRegs p).tag = s.tag := rfl
@[simp] theorem State.resetRegs_pwr (s : State) (p : Nat → Bool) : (s.resetRegs p).pwr = s.pwr := rfl
@[simp] theorem State.resetRegs_bist (s : State) (p : Nat → Bool) : (s.resetRegs p).bist = s.bist := rfl
@[simp] theorem State.resetRegs_tap (s : State) (p : Nat → Bool) : (s.resetRegs p).tap = s.tap := rfl

@[simp] theorem State.setByte_pending (s : State) (a : Nat) (b : Byte) : (s.setByte a b).pending = s.pending := rfl
@[simp] theorem State.setByte_now (s : State) (a : Nat) (b : Byte) : (s.setByte a b).now = s.now := rfl
@[simp] theorem State.setByte_fresh (s : State) (a : Nat) (b : Byte) : (s.setByte a b).fresh = s.fresh := rfl
@[simp] theorem State.setByte_regs (s : State) (a : Nat) (b : Byte) : (s.setByte a b).regs = s.regs := rfl
@[simp] theorem State.setByte_latched (s : State) (a : Nat) (b : Byte) : (s.setByte a b).latched = s.latched := rfl
@[simp] theorem State.setByte_upsets (s : State) (a : Nat) (b : Byte) : (s.setByte a b).upsets = s.upsets := rfl
@[simp] theorem State.setByte_readback (s : State) (a : Nat) (b : Byte) : (s.setByte a b).readback = s.readback := rfl
@[simp] theorem State.setByte_cmd (s : State) (a : Nat) (b : Byte) : (s.setByte a b).cmd = s.cmd := rfl
@[simp] theorem State.setByte_flt (s : State) (a : Nat) (b : Byte) : (s.setByte a b).flt = s.flt := rfl
@[simp] theorem State.setByte_events (s : State) (a : Nat) (b : Byte) : (s.setByte a b).events = s.events := rfl
@[simp] theorem State.setByte_evno (s : State) (a : Nat) (b : Byte) : (s.setByte a b).evno = s.evno := rfl
@[simp] theorem State.setByte_recs (s : State) (a : Nat) (b : Byte) : (s.setByte a b).recs = s.recs := rfl
@[simp] theorem State.setByte_cel (s : State) (a : Nat) (b : Byte) : (s.setByte a b).cel = s.cel := rfl
@[simp] theorem State.setByte_keys (s : State) (a : Nat) (b : Byte) : (s.setByte a b).keys = s.keys := rfl
@[simp] theorem State.setByte_tmp (s : State) (a : Nat) (b : Byte) : (s.setByte a b).tmp = s.tmp := rfl
@[simp] theorem State.setByte_life (s : State) (a : Nat) (b : Byte) : (s.setByte a b).life = s.life := rfl
@[simp] theorem State.setByte_gates (s : State) (a : Nat) (b : Byte) : (s.setByte a b).gates = s.gates := rfl
@[simp] theorem State.setByte_tr (s : State) (a : Nat) (b : Byte) : (s.setByte a b).tr = s.tr := rfl
@[simp] theorem State.setByte_alm (s : State) (a : Nat) (b : Byte) : (s.setByte a b).alm = s.alm := rfl
@[simp] theorem State.setByte_spg (s : State) (a : Nat) (b : Byte) : (s.setByte a b).spg = s.spg := rfl
@[simp] theorem State.setByte_est (s : State) (a : Nat) (b : Byte) : (s.setByte a b).est = s.est := rfl
@[simp] theorem State.setByte_lim (s : State) (a : Nat) (b : Byte) : (s.setByte a b).lim = s.lim := rfl
@[simp] theorem State.setByte_mer (s : State) (a : Nat) (b : Byte) : (s.setByte a b).mer = s.mer := rfl
@[simp] theorem State.setByte_sht (s : State) (a : Nat) (b : Byte) : (s.setByte a b).sht = s.sht := rfl
@[simp] theorem State.setByte_flc (s : State) (a : Nat) (b : Byte) : (s.setByte a b).flc = s.flc := rfl
@[simp] theorem State.setByte_ldg (s : State) (a : Nat) (b : Byte) : (s.setByte a b).ldg = s.ldg := rfl
@[simp] theorem State.setByte_asm (s : State) (a : Nat) (b : Byte) : (s.setByte a b).asm = s.asm := rfl
@[simp] theorem State.setByte_eng (s : State) (a : Nat) (b : Byte) : (s.setByte a b).eng = s.eng := rfl
@[simp] theorem State.setByte_svc (s : State) (a : Nat) (b : Byte) : (s.setByte a b).svc = s.svc := rfl
@[simp] theorem State.setByte_tag (s : State) (a : Nat) (b : Byte) : (s.setByte a b).tag = s.tag := rfl
@[simp] theorem State.setByte_pwr (s : State) (a : Nat) (b : Byte) : (s.setByte a b).pwr = s.pwr := rfl
@[simp] theorem State.setByte_bist (s : State) (a : Nat) (b : Byte) : (s.setByte a b).bist = s.bist := rfl
@[simp] theorem State.setByte_tap (s : State) (a : Nat) (b : Byte) : (s.setByte a b).tap = s.tap := rfl

@[simp] theorem State.store_pending : ∀ (l : List Byte) (a : Nat) (s : State), (s.store a l).pending = s.pending
  | [], _, _ => rfl
  | b :: l, a, s => State.store_pending l (a + 1) (s.setByte a b)
@[simp] theorem State.store_now : ∀ (l : List Byte) (a : Nat) (s : State), (s.store a l).now = s.now
  | [], _, _ => rfl
  | b :: l, a, s => State.store_now l (a + 1) (s.setByte a b)
@[simp] theorem State.store_fresh : ∀ (l : List Byte) (a : Nat) (s : State), (s.store a l).fresh = s.fresh
  | [], _, _ => rfl
  | b :: l, a, s => State.store_fresh l (a + 1) (s.setByte a b)
@[simp] theorem State.store_regs : ∀ (l : List Byte) (a : Nat) (s : State), (s.store a l).regs = s.regs
  | [], _, _ => rfl
  | b :: l, a, s => State.store_regs l (a + 1) (s.setByte a b)
@[simp] theorem State.store_latched : ∀ (l : List Byte) (a : Nat) (s : State), (s.store a l).latched = s.latched
  | [], _, _ => rfl
  | b :: l, a, s => State.store_latched l (a + 1) (s.setByte a b)
@[simp] theorem State.store_upsets : ∀ (l : List Byte) (a : Nat) (s : State), (s.store a l).upsets = s.upsets
  | [], _, _ => rfl
  | b :: l, a, s => State.store_upsets l (a + 1) (s.setByte a b)
@[simp] theorem State.store_readback : ∀ (l : List Byte) (a : Nat) (s : State), (s.store a l).readback = s.readback
  | [], _, _ => rfl
  | b :: l, a, s => State.store_readback l (a + 1) (s.setByte a b)
@[simp] theorem State.store_cmd : ∀ (l : List Byte) (a : Nat) (s : State), (s.store a l).cmd = s.cmd
  | [], _, _ => rfl
  | b :: l, a, s => State.store_cmd l (a + 1) (s.setByte a b)
@[simp] theorem State.store_flt : ∀ (l : List Byte) (a : Nat) (s : State), (s.store a l).flt = s.flt
  | [], _, _ => rfl
  | b :: l, a, s => State.store_flt l (a + 1) (s.setByte a b)
@[simp] theorem State.store_events : ∀ (l : List Byte) (a : Nat) (s : State), (s.store a l).events = s.events
  | [], _, _ => rfl
  | b :: l, a, s => State.store_events l (a + 1) (s.setByte a b)
@[simp] theorem State.store_evno : ∀ (l : List Byte) (a : Nat) (s : State), (s.store a l).evno = s.evno
  | [], _, _ => rfl
  | b :: l, a, s => State.store_evno l (a + 1) (s.setByte a b)
@[simp] theorem State.store_recs : ∀ (l : List Byte) (a : Nat) (s : State), (s.store a l).recs = s.recs
  | [], _, _ => rfl
  | b :: l, a, s => State.store_recs l (a + 1) (s.setByte a b)
@[simp] theorem State.store_cel : ∀ (l : List Byte) (a : Nat) (s : State), (s.store a l).cel = s.cel
  | [], _, _ => rfl
  | b :: l, a, s => State.store_cel l (a + 1) (s.setByte a b)
@[simp] theorem State.store_keys : ∀ (l : List Byte) (a : Nat) (s : State), (s.store a l).keys = s.keys
  | [], _, _ => rfl
  | b :: l, a, s => State.store_keys l (a + 1) (s.setByte a b)
@[simp] theorem State.store_tmp : ∀ (l : List Byte) (a : Nat) (s : State), (s.store a l).tmp = s.tmp
  | [], _, _ => rfl
  | b :: l, a, s => State.store_tmp l (a + 1) (s.setByte a b)
@[simp] theorem State.store_life : ∀ (l : List Byte) (a : Nat) (s : State), (s.store a l).life = s.life
  | [], _, _ => rfl
  | b :: l, a, s => State.store_life l (a + 1) (s.setByte a b)
@[simp] theorem State.store_gates : ∀ (l : List Byte) (a : Nat) (s : State), (s.store a l).gates = s.gates
  | [], _, _ => rfl
  | b :: l, a, s => State.store_gates l (a + 1) (s.setByte a b)
@[simp] theorem State.store_tr : ∀ (l : List Byte) (a : Nat) (s : State), (s.store a l).tr = s.tr
  | [], _, _ => rfl
  | b :: l, a, s => State.store_tr l (a + 1) (s.setByte a b)
@[simp] theorem State.store_alm : ∀ (l : List Byte) (a : Nat) (s : State), (s.store a l).alm = s.alm
  | [], _, _ => rfl
  | b :: l, a, s => State.store_alm l (a + 1) (s.setByte a b)
@[simp] theorem State.store_spg : ∀ (l : List Byte) (a : Nat) (s : State), (s.store a l).spg = s.spg
  | [], _, _ => rfl
  | b :: l, a, s => State.store_spg l (a + 1) (s.setByte a b)
@[simp] theorem State.store_est : ∀ (l : List Byte) (a : Nat) (s : State), (s.store a l).est = s.est
  | [], _, _ => rfl
  | b :: l, a, s => State.store_est l (a + 1) (s.setByte a b)
@[simp] theorem State.store_lim : ∀ (l : List Byte) (a : Nat) (s : State), (s.store a l).lim = s.lim
  | [], _, _ => rfl
  | b :: l, a, s => State.store_lim l (a + 1) (s.setByte a b)
@[simp] theorem State.store_mer : ∀ (l : List Byte) (a : Nat) (s : State), (s.store a l).mer = s.mer
  | [], _, _ => rfl
  | b :: l, a, s => State.store_mer l (a + 1) (s.setByte a b)
@[simp] theorem State.store_sht : ∀ (l : List Byte) (a : Nat) (s : State), (s.store a l).sht = s.sht
  | [], _, _ => rfl
  | b :: l, a, s => State.store_sht l (a + 1) (s.setByte a b)
@[simp] theorem State.store_flc : ∀ (l : List Byte) (a : Nat) (s : State), (s.store a l).flc = s.flc
  | [], _, _ => rfl
  | b :: l, a, s => State.store_flc l (a + 1) (s.setByte a b)
@[simp] theorem State.store_ldg : ∀ (l : List Byte) (a : Nat) (s : State), (s.store a l).ldg = s.ldg
  | [], _, _ => rfl
  | b :: l, a, s => State.store_ldg l (a + 1) (s.setByte a b)
@[simp] theorem State.store_asm : ∀ (l : List Byte) (a : Nat) (s : State), (s.store a l).asm = s.asm
  | [], _, _ => rfl
  | b :: l, a, s => State.store_asm l (a + 1) (s.setByte a b)
@[simp] theorem State.store_eng : ∀ (l : List Byte) (a : Nat) (s : State), (s.store a l).eng = s.eng
  | [], _, _ => rfl
  | b :: l, a, s => State.store_eng l (a + 1) (s.setByte a b)
@[simp] theorem State.store_svc : ∀ (l : List Byte) (a : Nat) (s : State), (s.store a l).svc = s.svc
  | [], _, _ => rfl
  | b :: l, a, s => State.store_svc l (a + 1) (s.setByte a b)
@[simp] theorem State.store_tag : ∀ (l : List Byte) (a : Nat) (s : State), (s.store a l).tag = s.tag
  | [], _, _ => rfl
  | b :: l, a, s => State.store_tag l (a + 1) (s.setByte a b)
@[simp] theorem State.store_pwr : ∀ (l : List Byte) (a : Nat) (s : State), (s.store a l).pwr = s.pwr
  | [], _, _ => rfl
  | b :: l, a, s => State.store_pwr l (a + 1) (s.setByte a b)
@[simp] theorem State.store_bist : ∀ (l : List Byte) (a : Nat) (s : State), (s.store a l).bist = s.bist
  | [], _, _ => rfl
  | b :: l, a, s => State.store_bist l (a + 1) (s.setByte a b)
@[simp] theorem State.store_tap : ∀ (l : List Byte) (a : Nat) (s : State), (s.store a l).tap = s.tap
  | [], _, _ => rfl
  | b :: l, a, s => State.store_tap l (a + 1) (s.setByte a b)

@[simp] theorem State.setUpset_pending (s : State) (a n : Nat) : (s.setUpset a n).pending = s.pending := rfl
@[simp] theorem State.setUpset_now (s : State) (a n : Nat) : (s.setUpset a n).now = s.now := rfl
@[simp] theorem State.setUpset_fresh (s : State) (a n : Nat) : (s.setUpset a n).fresh = s.fresh := rfl
@[simp] theorem State.setUpset_regs (s : State) (a n : Nat) : (s.setUpset a n).regs = s.regs := rfl
@[simp] theorem State.setUpset_latched (s : State) (a n : Nat) : (s.setUpset a n).latched = s.latched := rfl
@[simp] theorem State.setUpset_mem (s : State) (a n : Nat) : (s.setUpset a n).mem = s.mem := rfl
@[simp] theorem State.setUpset_readback (s : State) (a n : Nat) : (s.setUpset a n).readback = s.readback := rfl
@[simp] theorem State.setUpset_cmd (s : State) (a n : Nat) : (s.setUpset a n).cmd = s.cmd := rfl
@[simp] theorem State.setUpset_flt (s : State) (a n : Nat) : (s.setUpset a n).flt = s.flt := rfl
@[simp] theorem State.setUpset_events (s : State) (a n : Nat) : (s.setUpset a n).events = s.events := rfl
@[simp] theorem State.setUpset_evno (s : State) (a n : Nat) : (s.setUpset a n).evno = s.evno := rfl
@[simp] theorem State.setUpset_recs (s : State) (a n : Nat) : (s.setUpset a n).recs = s.recs := rfl
@[simp] theorem State.setUpset_cel (s : State) (a n : Nat) : (s.setUpset a n).cel = s.cel := rfl
@[simp] theorem State.setUpset_keys (s : State) (a n : Nat) : (s.setUpset a n).keys = s.keys := rfl
@[simp] theorem State.setUpset_tmp (s : State) (a n : Nat) : (s.setUpset a n).tmp = s.tmp := rfl
@[simp] theorem State.setUpset_life (s : State) (a n : Nat) : (s.setUpset a n).life = s.life := rfl
@[simp] theorem State.setUpset_gates (s : State) (a n : Nat) : (s.setUpset a n).gates = s.gates := rfl
@[simp] theorem State.setUpset_tr (s : State) (a n : Nat) : (s.setUpset a n).tr = s.tr := rfl
@[simp] theorem State.setUpset_alm (s : State) (a n : Nat) : (s.setUpset a n).alm = s.alm := rfl
@[simp] theorem State.setUpset_spg (s : State) (a n : Nat) : (s.setUpset a n).spg = s.spg := rfl
@[simp] theorem State.setUpset_est (s : State) (a n : Nat) : (s.setUpset a n).est = s.est := rfl
@[simp] theorem State.setUpset_lim (s : State) (a n : Nat) : (s.setUpset a n).lim = s.lim := rfl
@[simp] theorem State.setUpset_mer (s : State) (a n : Nat) : (s.setUpset a n).mer = s.mer := rfl
@[simp] theorem State.setUpset_sht (s : State) (a n : Nat) : (s.setUpset a n).sht = s.sht := rfl
@[simp] theorem State.setUpset_flc (s : State) (a n : Nat) : (s.setUpset a n).flc = s.flc := rfl
@[simp] theorem State.setUpset_ldg (s : State) (a n : Nat) : (s.setUpset a n).ldg = s.ldg := rfl
@[simp] theorem State.setUpset_asm (s : State) (a n : Nat) : (s.setUpset a n).asm = s.asm := rfl
@[simp] theorem State.setUpset_eng (s : State) (a n : Nat) : (s.setUpset a n).eng = s.eng := rfl
@[simp] theorem State.setUpset_svc (s : State) (a n : Nat) : (s.setUpset a n).svc = s.svc := rfl
@[simp] theorem State.setUpset_tag (s : State) (a n : Nat) : (s.setUpset a n).tag = s.tag := rfl
@[simp] theorem State.setUpset_pwr (s : State) (a n : Nat) : (s.setUpset a n).pwr = s.pwr := rfl
@[simp] theorem State.setUpset_bist (s : State) (a n : Nat) : (s.setUpset a n).bist = s.bist := rfl
@[simp] theorem State.setUpset_tap (s : State) (a n : Nat) : (s.setUpset a n).tap = s.tap := rfl

@[simp] theorem State.heal_pending (s : State) (a n : Nat) : (s.heal a n).pending = s.pending := rfl
@[simp] theorem State.heal_now (s : State) (a n : Nat) : (s.heal a n).now = s.now := rfl
@[simp] theorem State.heal_fresh (s : State) (a n : Nat) : (s.heal a n).fresh = s.fresh := rfl
@[simp] theorem State.heal_regs (s : State) (a n : Nat) : (s.heal a n).regs = s.regs := rfl
@[simp] theorem State.heal_latched (s : State) (a n : Nat) : (s.heal a n).latched = s.latched := rfl
@[simp] theorem State.heal_mem (s : State) (a n : Nat) : (s.heal a n).mem = s.mem := rfl
@[simp] theorem State.heal_readback (s : State) (a n : Nat) : (s.heal a n).readback = s.readback := rfl
@[simp] theorem State.heal_cmd (s : State) (a n : Nat) : (s.heal a n).cmd = s.cmd := rfl
@[simp] theorem State.heal_flt (s : State) (a n : Nat) : (s.heal a n).flt = s.flt := rfl
@[simp] theorem State.heal_events (s : State) (a n : Nat) : (s.heal a n).events = s.events := rfl
@[simp] theorem State.heal_evno (s : State) (a n : Nat) : (s.heal a n).evno = s.evno := rfl
@[simp] theorem State.heal_recs (s : State) (a n : Nat) : (s.heal a n).recs = s.recs := rfl
@[simp] theorem State.heal_cel (s : State) (a n : Nat) : (s.heal a n).cel = s.cel := rfl
@[simp] theorem State.heal_keys (s : State) (a n : Nat) : (s.heal a n).keys = s.keys := rfl
@[simp] theorem State.heal_tmp (s : State) (a n : Nat) : (s.heal a n).tmp = s.tmp := rfl
@[simp] theorem State.heal_life (s : State) (a n : Nat) : (s.heal a n).life = s.life := rfl
@[simp] theorem State.heal_gates (s : State) (a n : Nat) : (s.heal a n).gates = s.gates := rfl
@[simp] theorem State.heal_tr (s : State) (a n : Nat) : (s.heal a n).tr = s.tr := rfl
@[simp] theorem State.heal_alm (s : State) (a n : Nat) : (s.heal a n).alm = s.alm := rfl
@[simp] theorem State.heal_spg (s : State) (a n : Nat) : (s.heal a n).spg = s.spg := rfl
@[simp] theorem State.heal_est (s : State) (a n : Nat) : (s.heal a n).est = s.est := rfl
@[simp] theorem State.heal_lim (s : State) (a n : Nat) : (s.heal a n).lim = s.lim := rfl
@[simp] theorem State.heal_mer (s : State) (a n : Nat) : (s.heal a n).mer = s.mer := rfl
@[simp] theorem State.heal_sht (s : State) (a n : Nat) : (s.heal a n).sht = s.sht := rfl
@[simp] theorem State.heal_flc (s : State) (a n : Nat) : (s.heal a n).flc = s.flc := rfl
@[simp] theorem State.heal_ldg (s : State) (a n : Nat) : (s.heal a n).ldg = s.ldg := rfl
@[simp] theorem State.heal_asm (s : State) (a n : Nat) : (s.heal a n).asm = s.asm := rfl
@[simp] theorem State.heal_eng (s : State) (a n : Nat) : (s.heal a n).eng = s.eng := rfl
@[simp] theorem State.heal_svc (s : State) (a n : Nat) : (s.heal a n).svc = s.svc := rfl
@[simp] theorem State.heal_tag (s : State) (a n : Nat) : (s.heal a n).tag = s.tag := rfl
@[simp] theorem State.heal_pwr (s : State) (a n : Nat) : (s.heal a n).pwr = s.pwr := rfl
@[simp] theorem State.heal_bist (s : State) (a n : Nat) : (s.heal a n).bist = s.bist := rfl
@[simp] theorem State.heal_tap (s : State) (a n : Nat) : (s.heal a n).tap = s.tap := rfl

@[simp] theorem State.write_pending (s : State) (a : Nat) (l : List Byte) : (s.write a l).pending = s.pending := State.store_pending _ _ _
@[simp] theorem State.write_now (s : State) (a : Nat) (l : List Byte) : (s.write a l).now = s.now := State.store_now _ _ _
@[simp] theorem State.write_fresh (s : State) (a : Nat) (l : List Byte) : (s.write a l).fresh = s.fresh := State.store_fresh _ _ _
@[simp] theorem State.write_regs (s : State) (a : Nat) (l : List Byte) : (s.write a l).regs = s.regs := State.store_regs _ _ _
@[simp] theorem State.write_latched (s : State) (a : Nat) (l : List Byte) : (s.write a l).latched = s.latched := State.store_latched _ _ _
@[simp] theorem State.write_readback (s : State) (a : Nat) (l : List Byte) : (s.write a l).readback = s.readback := State.store_readback _ _ _
@[simp] theorem State.write_cmd (s : State) (a : Nat) (l : List Byte) : (s.write a l).cmd = s.cmd := State.store_cmd _ _ _
@[simp] theorem State.write_flt (s : State) (a : Nat) (l : List Byte) : (s.write a l).flt = s.flt := State.store_flt _ _ _
@[simp] theorem State.write_events (s : State) (a : Nat) (l : List Byte) : (s.write a l).events = s.events := State.store_events _ _ _
@[simp] theorem State.write_evno (s : State) (a : Nat) (l : List Byte) : (s.write a l).evno = s.evno := State.store_evno _ _ _
@[simp] theorem State.write_recs (s : State) (a : Nat) (l : List Byte) : (s.write a l).recs = s.recs := State.store_recs _ _ _
@[simp] theorem State.write_cel (s : State) (a : Nat) (l : List Byte) : (s.write a l).cel = s.cel := State.store_cel _ _ _
@[simp] theorem State.write_keys (s : State) (a : Nat) (l : List Byte) : (s.write a l).keys = s.keys := State.store_keys _ _ _
@[simp] theorem State.write_tmp (s : State) (a : Nat) (l : List Byte) : (s.write a l).tmp = s.tmp := State.store_tmp _ _ _
@[simp] theorem State.write_life (s : State) (a : Nat) (l : List Byte) : (s.write a l).life = s.life := State.store_life _ _ _
@[simp] theorem State.write_gates (s : State) (a : Nat) (l : List Byte) : (s.write a l).gates = s.gates := State.store_gates _ _ _
@[simp] theorem State.write_tr (s : State) (a : Nat) (l : List Byte) : (s.write a l).tr = s.tr := State.store_tr _ _ _
@[simp] theorem State.write_alm (s : State) (a : Nat) (l : List Byte) : (s.write a l).alm = s.alm := State.store_alm _ _ _
@[simp] theorem State.write_spg (s : State) (a : Nat) (l : List Byte) : (s.write a l).spg = s.spg := State.store_spg _ _ _
@[simp] theorem State.write_est (s : State) (a : Nat) (l : List Byte) : (s.write a l).est = s.est := State.store_est _ _ _
@[simp] theorem State.write_lim (s : State) (a : Nat) (l : List Byte) : (s.write a l).lim = s.lim := State.store_lim _ _ _
@[simp] theorem State.write_mer (s : State) (a : Nat) (l : List Byte) : (s.write a l).mer = s.mer := State.store_mer _ _ _
@[simp] theorem State.write_sht (s : State) (a : Nat) (l : List Byte) : (s.write a l).sht = s.sht := State.store_sht _ _ _
@[simp] theorem State.write_flc (s : State) (a : Nat) (l : List Byte) : (s.write a l).flc = s.flc := State.store_flc _ _ _
@[simp] theorem State.write_ldg (s : State) (a : Nat) (l : List Byte) : (s.write a l).ldg = s.ldg := State.store_ldg _ _ _
@[simp] theorem State.write_asm (s : State) (a : Nat) (l : List Byte) : (s.write a l).asm = s.asm := State.store_asm _ _ _
@[simp] theorem State.write_eng (s : State) (a : Nat) (l : List Byte) : (s.write a l).eng = s.eng := State.store_eng _ _ _
@[simp] theorem State.write_svc (s : State) (a : Nat) (l : List Byte) : (s.write a l).svc = s.svc := State.store_svc _ _ _
@[simp] theorem State.write_tag (s : State) (a : Nat) (l : List Byte) : (s.write a l).tag = s.tag := State.store_tag _ _ _
@[simp] theorem State.write_pwr (s : State) (a : Nat) (l : List Byte) : (s.write a l).pwr = s.pwr := State.store_pwr _ _ _
@[simp] theorem State.write_bist (s : State) (a : Nat) (l : List Byte) : (s.write a l).bist = s.bist := State.store_bist _ _ _
@[simp] theorem State.write_tap (s : State) (a : Nat) (l : List Byte) : (s.write a l).tap = s.tap := State.store_tap _ _ _

@[simp] theorem State.storeN_pending (s : State) (a n v : Nat) : (s.storeN a n v).pending = s.pending := State.store_pending _ _ _
@[simp] theorem State.storeN_now (s : State) (a n v : Nat) : (s.storeN a n v).now = s.now := State.store_now _ _ _
@[simp] theorem State.storeN_fresh (s : State) (a n v : Nat) : (s.storeN a n v).fresh = s.fresh := State.store_fresh _ _ _
@[simp] theorem State.storeN_regs (s : State) (a n v : Nat) : (s.storeN a n v).regs = s.regs := State.store_regs _ _ _
@[simp] theorem State.storeN_latched (s : State) (a n v : Nat) : (s.storeN a n v).latched = s.latched := State.store_latched _ _ _
@[simp] theorem State.storeN_readback (s : State) (a n v : Nat) : (s.storeN a n v).readback = s.readback := State.store_readback _ _ _
@[simp] theorem State.storeN_cmd (s : State) (a n v : Nat) : (s.storeN a n v).cmd = s.cmd := State.store_cmd _ _ _
@[simp] theorem State.storeN_flt (s : State) (a n v : Nat) : (s.storeN a n v).flt = s.flt := State.store_flt _ _ _
@[simp] theorem State.storeN_events (s : State) (a n v : Nat) : (s.storeN a n v).events = s.events := State.store_events _ _ _
@[simp] theorem State.storeN_evno (s : State) (a n v : Nat) : (s.storeN a n v).evno = s.evno := State.store_evno _ _ _
@[simp] theorem State.storeN_recs (s : State) (a n v : Nat) : (s.storeN a n v).recs = s.recs := State.store_recs _ _ _
@[simp] theorem State.storeN_cel (s : State) (a n v : Nat) : (s.storeN a n v).cel = s.cel := State.store_cel _ _ _
@[simp] theorem State.storeN_keys (s : State) (a n v : Nat) : (s.storeN a n v).keys = s.keys := State.store_keys _ _ _
@[simp] theorem State.storeN_tmp (s : State) (a n v : Nat) : (s.storeN a n v).tmp = s.tmp := State.store_tmp _ _ _
@[simp] theorem State.storeN_life (s : State) (a n v : Nat) : (s.storeN a n v).life = s.life := State.store_life _ _ _
@[simp] theorem State.storeN_gates (s : State) (a n v : Nat) : (s.storeN a n v).gates = s.gates := State.store_gates _ _ _
@[simp] theorem State.storeN_tr (s : State) (a n v : Nat) : (s.storeN a n v).tr = s.tr := State.store_tr _ _ _
@[simp] theorem State.storeN_alm (s : State) (a n v : Nat) : (s.storeN a n v).alm = s.alm := State.store_alm _ _ _
@[simp] theorem State.storeN_spg (s : State) (a n v : Nat) : (s.storeN a n v).spg = s.spg := State.store_spg _ _ _
@[simp] theorem State.storeN_est (s : State) (a n v : Nat) : (s.storeN a n v).est = s.est := State.store_est _ _ _
@[simp] theorem State.storeN_lim (s : State) (a n v : Nat) : (s.storeN a n v).lim = s.lim := State.store_lim _ _ _
@[simp] theorem State.storeN_mer (s : State) (a n v : Nat) : (s.storeN a n v).mer = s.mer := State.store_mer _ _ _
@[simp] theorem State.storeN_sht (s : State) (a n v : Nat) : (s.storeN a n v).sht = s.sht := State.store_sht _ _ _
@[simp] theorem State.storeN_flc (s : State) (a n v : Nat) : (s.storeN a n v).flc = s.flc := State.store_flc _ _ _
@[simp] theorem State.storeN_ldg (s : State) (a n v : Nat) : (s.storeN a n v).ldg = s.ldg := State.store_ldg _ _ _
@[simp] theorem State.storeN_asm (s : State) (a n v : Nat) : (s.storeN a n v).asm = s.asm := State.store_asm _ _ _
@[simp] theorem State.storeN_eng (s : State) (a n v : Nat) : (s.storeN a n v).eng = s.eng := State.store_eng _ _ _
@[simp] theorem State.storeN_svc (s : State) (a n v : Nat) : (s.storeN a n v).svc = s.svc := State.store_svc _ _ _
@[simp] theorem State.storeN_tag (s : State) (a n v : Nat) : (s.storeN a n v).tag = s.tag := State.store_tag _ _ _
@[simp] theorem State.storeN_pwr (s : State) (a n v : Nat) : (s.storeN a n v).pwr = s.pwr := State.store_pwr _ _ _
@[simp] theorem State.storeN_bist (s : State) (a n v : Nat) : (s.storeN a n v).bist = s.bist := State.store_bist _ _ _
@[simp] theorem State.storeN_tap (s : State) (a n v : Nat) : (s.storeN a n v).tap = s.tap := State.store_tap _ _ _

@[simp] theorem State.clock_pending (s : State) (t : Nat) : (s.clock t).pending = s.pending := rfl
@[simp] theorem State.clock_fresh (s : State) (t : Nat) : (s.clock t).fresh = s.fresh := rfl
@[simp] theorem State.clock_regs (s : State) (t : Nat) : (s.clock t).regs = s.regs := rfl
@[simp] theorem State.clock_latched (s : State) (t : Nat) : (s.clock t).latched = s.latched := rfl
@[simp] theorem State.clock_mem (s : State) (t : Nat) : (s.clock t).mem = s.mem := rfl
@[simp] theorem State.clock_upsets (s : State) (t : Nat) : (s.clock t).upsets = s.upsets := rfl
@[simp] theorem State.clock_readback (s : State) (t : Nat) : (s.clock t).readback = s.readback := rfl
@[simp] theorem State.clock_cmd (s : State) (t : Nat) : (s.clock t).cmd = s.cmd := rfl
@[simp] theorem State.clock_flt (s : State) (t : Nat) : (s.clock t).flt = s.flt := rfl
@[simp] theorem State.clock_events (s : State) (t : Nat) : (s.clock t).events = s.events := rfl
@[simp] theorem State.clock_evno (s : State) (t : Nat) : (s.clock t).evno = s.evno := rfl
@[simp] theorem State.clock_recs (s : State) (t : Nat) : (s.clock t).recs = s.recs := rfl
@[simp] theorem State.clock_cel (s : State) (t : Nat) : (s.clock t).cel = s.cel := rfl
@[simp] theorem State.clock_keys (s : State) (t : Nat) : (s.clock t).keys = s.keys := rfl
@[simp] theorem State.clock_tmp (s : State) (t : Nat) : (s.clock t).tmp = s.tmp := rfl
@[simp] theorem State.clock_life (s : State) (t : Nat) : (s.clock t).life = s.life := rfl
@[simp] theorem State.clock_gates (s : State) (t : Nat) : (s.clock t).gates = s.gates := rfl
@[simp] theorem State.clock_tr (s : State) (t : Nat) : (s.clock t).tr = s.tr := rfl
@[simp] theorem State.clock_alm (s : State) (t : Nat) : (s.clock t).alm = s.alm := rfl
@[simp] theorem State.clock_spg (s : State) (t : Nat) : (s.clock t).spg = s.spg := rfl
@[simp] theorem State.clock_est (s : State) (t : Nat) : (s.clock t).est = s.est := rfl
@[simp] theorem State.clock_lim (s : State) (t : Nat) : (s.clock t).lim = s.lim := rfl
@[simp] theorem State.clock_mer (s : State) (t : Nat) : (s.clock t).mer = s.mer := rfl
@[simp] theorem State.clock_sht (s : State) (t : Nat) : (s.clock t).sht = s.sht := rfl
@[simp] theorem State.clock_flc (s : State) (t : Nat) : (s.clock t).flc = s.flc := rfl
@[simp] theorem State.clock_ldg (s : State) (t : Nat) : (s.clock t).ldg = s.ldg := rfl
@[simp] theorem State.clock_asm (s : State) (t : Nat) : (s.clock t).asm = s.asm := rfl
@[simp] theorem State.clock_eng (s : State) (t : Nat) : (s.clock t).eng = s.eng := rfl
@[simp] theorem State.clock_svc (s : State) (t : Nat) : (s.clock t).svc = s.svc := rfl
@[simp] theorem State.clock_tag (s : State) (t : Nat) : (s.clock t).tag = s.tag := rfl
@[simp] theorem State.clock_pwr (s : State) (t : Nat) : (s.clock t).pwr = s.pwr := rfl
@[simp] theorem State.clock_bist (s : State) (t : Nat) : (s.clock t).bist = s.bist := rfl
@[simp] theorem State.clock_tap (s : State) (t : Nat) : (s.clock t).tap = s.tap := rfl

@[simp] theorem State.drawn_pending (s : State) : (s.drawn).pending = s.pending := rfl
@[simp] theorem State.drawn_now (s : State) : (s.drawn).now = s.now := rfl
@[simp] theorem State.drawn_regs (s : State) : (s.drawn).regs = s.regs := rfl
@[simp] theorem State.drawn_latched (s : State) : (s.drawn).latched = s.latched := rfl
@[simp] theorem State.drawn_mem (s : State) : (s.drawn).mem = s.mem := rfl
@[simp] theorem State.drawn_upsets (s : State) : (s.drawn).upsets = s.upsets := rfl
@[simp] theorem State.drawn_readback (s : State) : (s.drawn).readback = s.readback := rfl
@[simp] theorem State.drawn_cmd (s : State) : (s.drawn).cmd = s.cmd := rfl
@[simp] theorem State.drawn_flt (s : State) : (s.drawn).flt = s.flt := rfl
@[simp] theorem State.drawn_events (s : State) : (s.drawn).events = s.events := rfl
@[simp] theorem State.drawn_evno (s : State) : (s.drawn).evno = s.evno := rfl
@[simp] theorem State.drawn_recs (s : State) : (s.drawn).recs = s.recs := rfl
@[simp] theorem State.drawn_cel (s : State) : (s.drawn).cel = s.cel := rfl
@[simp] theorem State.drawn_keys (s : State) : (s.drawn).keys = s.keys := rfl
@[simp] theorem State.drawn_tmp (s : State) : (s.drawn).tmp = s.tmp := rfl
@[simp] theorem State.drawn_life (s : State) : (s.drawn).life = s.life := rfl
@[simp] theorem State.drawn_gates (s : State) : (s.drawn).gates = s.gates := rfl
@[simp] theorem State.drawn_tr (s : State) : (s.drawn).tr = s.tr := rfl
@[simp] theorem State.drawn_alm (s : State) : (s.drawn).alm = s.alm := rfl
@[simp] theorem State.drawn_spg (s : State) : (s.drawn).spg = s.spg := rfl
@[simp] theorem State.drawn_est (s : State) : (s.drawn).est = s.est := rfl
@[simp] theorem State.drawn_lim (s : State) : (s.drawn).lim = s.lim := rfl
@[simp] theorem State.drawn_mer (s : State) : (s.drawn).mer = s.mer := rfl
@[simp] theorem State.drawn_sht (s : State) : (s.drawn).sht = s.sht := rfl
@[simp] theorem State.drawn_flc (s : State) : (s.drawn).flc = s.flc := rfl
@[simp] theorem State.drawn_ldg (s : State) : (s.drawn).ldg = s.ldg := rfl
@[simp] theorem State.drawn_asm (s : State) : (s.drawn).asm = s.asm := rfl
@[simp] theorem State.drawn_eng (s : State) : (s.drawn).eng = s.eng := rfl
@[simp] theorem State.drawn_svc (s : State) : (s.drawn).svc = s.svc := rfl
@[simp] theorem State.drawn_tag (s : State) : (s.drawn).tag = s.tag := rfl
@[simp] theorem State.drawn_pwr (s : State) : (s.drawn).pwr = s.pwr := rfl
@[simp] theorem State.drawn_bist (s : State) : (s.drawn).bist = s.bist := rfl
@[simp] theorem State.drawn_tap (s : State) : (s.drawn).tap = s.tap := rfl

@[simp] theorem State.setAsm_pending (s : State) (a : AsmState) : (s.setAsm a).pending = s.pending := rfl
@[simp] theorem State.setAsm_now (s : State) (a : AsmState) : (s.setAsm a).now = s.now := rfl
@[simp] theorem State.setAsm_fresh (s : State) (a : AsmState) : (s.setAsm a).fresh = s.fresh := rfl
@[simp] theorem State.setAsm_regs (s : State) (a : AsmState) : (s.setAsm a).regs = s.regs := rfl
@[simp] theorem State.setAsm_latched (s : State) (a : AsmState) : (s.setAsm a).latched = s.latched := rfl
@[simp] theorem State.setAsm_mem (s : State) (a : AsmState) : (s.setAsm a).mem = s.mem := rfl
@[simp] theorem State.setAsm_upsets (s : State) (a : AsmState) : (s.setAsm a).upsets = s.upsets := rfl
@[simp] theorem State.setAsm_readback (s : State) (a : AsmState) : (s.setAsm a).readback = s.readback := rfl
@[simp] theorem State.setAsm_cmd (s : State) (a : AsmState) : (s.setAsm a).cmd = s.cmd := rfl
@[simp] theorem State.setAsm_flt (s : State) (a : AsmState) : (s.setAsm a).flt = s.flt := rfl
@[simp] theorem State.setAsm_events (s : State) (a : AsmState) : (s.setAsm a).events = s.events := rfl
@[simp] theorem State.setAsm_evno (s : State) (a : AsmState) : (s.setAsm a).evno = s.evno := rfl
@[simp] theorem State.setAsm_recs (s : State) (a : AsmState) : (s.setAsm a).recs = s.recs := rfl
@[simp] theorem State.setAsm_cel (s : State) (a : AsmState) : (s.setAsm a).cel = s.cel := rfl
@[simp] theorem State.setAsm_keys (s : State) (a : AsmState) : (s.setAsm a).keys = s.keys := rfl
@[simp] theorem State.setAsm_tmp (s : State) (a : AsmState) : (s.setAsm a).tmp = s.tmp := rfl
@[simp] theorem State.setAsm_life (s : State) (a : AsmState) : (s.setAsm a).life = s.life := rfl
@[simp] theorem State.setAsm_gates (s : State) (a : AsmState) : (s.setAsm a).gates = s.gates := rfl
@[simp] theorem State.setAsm_tr (s : State) (a : AsmState) : (s.setAsm a).tr = s.tr := rfl
@[simp] theorem State.setAsm_alm (s : State) (a : AsmState) : (s.setAsm a).alm = s.alm := rfl
@[simp] theorem State.setAsm_spg (s : State) (a : AsmState) : (s.setAsm a).spg = s.spg := rfl
@[simp] theorem State.setAsm_est (s : State) (a : AsmState) : (s.setAsm a).est = s.est := rfl
@[simp] theorem State.setAsm_lim (s : State) (a : AsmState) : (s.setAsm a).lim = s.lim := rfl
@[simp] theorem State.setAsm_mer (s : State) (a : AsmState) : (s.setAsm a).mer = s.mer := rfl
@[simp] theorem State.setAsm_sht (s : State) (a : AsmState) : (s.setAsm a).sht = s.sht := rfl
@[simp] theorem State.setAsm_flc (s : State) (a : AsmState) : (s.setAsm a).flc = s.flc := rfl
@[simp] theorem State.setAsm_ldg (s : State) (a : AsmState) : (s.setAsm a).ldg = s.ldg := rfl
@[simp] theorem State.setAsm_eng (s : State) (a : AsmState) : (s.setAsm a).eng = s.eng := rfl
@[simp] theorem State.setAsm_svc (s : State) (a : AsmState) : (s.setAsm a).svc = s.svc := rfl
@[simp] theorem State.setAsm_tag (s : State) (a : AsmState) : (s.setAsm a).tag = s.tag := rfl
@[simp] theorem State.setAsm_pwr (s : State) (a : AsmState) : (s.setAsm a).pwr = s.pwr := rfl
@[simp] theorem State.setAsm_bist (s : State) (a : AsmState) : (s.setAsm a).bist = s.bist := rfl
@[simp] theorem State.setAsm_tap (s : State) (a : AsmState) : (s.setAsm a).tap = s.tap := rfl

@[simp] theorem State.setArc_pending (s : State) (a : ArcState) : (s.setArc a).pending = s.pending := rfl
@[simp] theorem State.setArc_now (s : State) (a : ArcState) : (s.setArc a).now = s.now := rfl
@[simp] theorem State.setArc_fresh (s : State) (a : ArcState) : (s.setArc a).fresh = s.fresh := rfl
@[simp] theorem State.setArc_regs (s : State) (a : ArcState) : (s.setArc a).regs = s.regs := rfl
@[simp] theorem State.setArc_latched (s : State) (a : ArcState) : (s.setArc a).latched = s.latched := rfl
@[simp] theorem State.setArc_mem (s : State) (a : ArcState) : (s.setArc a).mem = s.mem := rfl
@[simp] theorem State.setArc_upsets (s : State) (a : ArcState) : (s.setArc a).upsets = s.upsets := rfl
@[simp] theorem State.setArc_readback (s : State) (a : ArcState) : (s.setArc a).readback = s.readback := rfl
@[simp] theorem State.setArc_cmd (s : State) (a : ArcState) : (s.setArc a).cmd = s.cmd := rfl
@[simp] theorem State.setArc_flt (s : State) (a : ArcState) : (s.setArc a).flt = s.flt := rfl
@[simp] theorem State.setArc_events (s : State) (a : ArcState) : (s.setArc a).events = s.events := rfl
@[simp] theorem State.setArc_evno (s : State) (a : ArcState) : (s.setArc a).evno = s.evno := rfl
@[simp] theorem State.setArc_recs (s : State) (a : ArcState) : (s.setArc a).recs = s.recs := rfl
@[simp] theorem State.setArc_cel (s : State) (a : ArcState) : (s.setArc a).cel = s.cel := rfl
@[simp] theorem State.setArc_keys (s : State) (a : ArcState) : (s.setArc a).keys = s.keys := rfl
@[simp] theorem State.setArc_tmp (s : State) (a : ArcState) : (s.setArc a).tmp = s.tmp := rfl
@[simp] theorem State.setArc_life (s : State) (a : ArcState) : (s.setArc a).life = s.life := rfl
@[simp] theorem State.setArc_gates (s : State) (a : ArcState) : (s.setArc a).gates = s.gates := rfl
@[simp] theorem State.setArc_tr (s : State) (a : ArcState) : (s.setArc a).tr = s.tr := rfl
@[simp] theorem State.setArc_alm (s : State) (a : ArcState) : (s.setArc a).alm = s.alm := rfl
@[simp] theorem State.setArc_spg (s : State) (a : ArcState) : (s.setArc a).spg = s.spg := rfl
@[simp] theorem State.setArc_est (s : State) (a : ArcState) : (s.setArc a).est = s.est := rfl
@[simp] theorem State.setArc_lim (s : State) (a : ArcState) : (s.setArc a).lim = s.lim := rfl
@[simp] theorem State.setArc_mer (s : State) (a : ArcState) : (s.setArc a).mer = s.mer := rfl
@[simp] theorem State.setArc_sht (s : State) (a : ArcState) : (s.setArc a).sht = s.sht := rfl
@[simp] theorem State.setArc_flc (s : State) (a : ArcState) : (s.setArc a).flc = s.flc := rfl
@[simp] theorem State.setArc_asm (s : State) (a : ArcState) : (s.setArc a).asm = s.asm := rfl
@[simp] theorem State.setArc_eng (s : State) (a : ArcState) : (s.setArc a).eng = s.eng := rfl
@[simp] theorem State.setArc_svc (s : State) (a : ArcState) : (s.setArc a).svc = s.svc := rfl
@[simp] theorem State.setArc_tag (s : State) (a : ArcState) : (s.setArc a).tag = s.tag := rfl
@[simp] theorem State.setArc_pwr (s : State) (a : ArcState) : (s.setArc a).pwr = s.pwr := rfl
@[simp] theorem State.setArc_bist (s : State) (a : ArcState) : (s.setArc a).bist = s.bist := rfl
@[simp] theorem State.setArc_tap (s : State) (a : ArcState) : (s.setArc a).tap = s.tap := rfl

@[simp] theorem State.putThread_pending (s : State) (w : Nat) (x : Thread) : (s.putThread w x).pending = s.pending := rfl
@[simp] theorem State.putThread_now (s : State) (w : Nat) (x : Thread) : (s.putThread w x).now = s.now := rfl
@[simp] theorem State.putThread_fresh (s : State) (w : Nat) (x : Thread) : (s.putThread w x).fresh = s.fresh := rfl
@[simp] theorem State.putThread_regs (s : State) (w : Nat) (x : Thread) : (s.putThread w x).regs = s.regs := rfl
@[simp] theorem State.putThread_latched (s : State) (w : Nat) (x : Thread) : (s.putThread w x).latched = s.latched := rfl
@[simp] theorem State.putThread_mem (s : State) (w : Nat) (x : Thread) : (s.putThread w x).mem = s.mem := rfl
@[simp] theorem State.putThread_upsets (s : State) (w : Nat) (x : Thread) : (s.putThread w x).upsets = s.upsets := rfl
@[simp] theorem State.putThread_readback (s : State) (w : Nat) (x : Thread) : (s.putThread w x).readback = s.readback := rfl
@[simp] theorem State.putThread_cmd (s : State) (w : Nat) (x : Thread) : (s.putThread w x).cmd = s.cmd := rfl
@[simp] theorem State.putThread_flt (s : State) (w : Nat) (x : Thread) : (s.putThread w x).flt = s.flt := rfl
@[simp] theorem State.putThread_events (s : State) (w : Nat) (x : Thread) : (s.putThread w x).events = s.events := rfl
@[simp] theorem State.putThread_evno (s : State) (w : Nat) (x : Thread) : (s.putThread w x).evno = s.evno := rfl
@[simp] theorem State.putThread_recs (s : State) (w : Nat) (x : Thread) : (s.putThread w x).recs = s.recs := rfl
@[simp] theorem State.putThread_cel (s : State) (w : Nat) (x : Thread) : (s.putThread w x).cel = s.cel := rfl
@[simp] theorem State.putThread_keys (s : State) (w : Nat) (x : Thread) : (s.putThread w x).keys = s.keys := rfl
@[simp] theorem State.putThread_tmp (s : State) (w : Nat) (x : Thread) : (s.putThread w x).tmp = s.tmp := rfl
@[simp] theorem State.putThread_life (s : State) (w : Nat) (x : Thread) : (s.putThread w x).life = s.life := rfl
@[simp] theorem State.putThread_gates (s : State) (w : Nat) (x : Thread) : (s.putThread w x).gates = s.gates := rfl
@[simp] theorem State.putThread_tr (s : State) (w : Nat) (x : Thread) : (s.putThread w x).tr = s.tr := rfl
@[simp] theorem State.putThread_alm (s : State) (w : Nat) (x : Thread) : (s.putThread w x).alm = s.alm := rfl
@[simp] theorem State.putThread_spg (s : State) (w : Nat) (x : Thread) : (s.putThread w x).spg = s.spg := rfl
@[simp] theorem State.putThread_est (s : State) (w : Nat) (x : Thread) : (s.putThread w x).est = s.est := rfl
@[simp] theorem State.putThread_lim (s : State) (w : Nat) (x : Thread) : (s.putThread w x).lim = s.lim := rfl
@[simp] theorem State.putThread_mer (s : State) (w : Nat) (x : Thread) : (s.putThread w x).mer = s.mer := rfl
@[simp] theorem State.putThread_sht (s : State) (w : Nat) (x : Thread) : (s.putThread w x).sht = s.sht := rfl
@[simp] theorem State.putThread_flc (s : State) (w : Nat) (x : Thread) : (s.putThread w x).flc = s.flc := rfl
@[simp] theorem State.putThread_ldg (s : State) (w : Nat) (x : Thread) : (s.putThread w x).ldg = s.ldg := rfl
@[simp] theorem State.putThread_asm (s : State) (w : Nat) (x : Thread) : (s.putThread w x).asm = s.asm := rfl
@[simp] theorem State.putThread_svc (s : State) (w : Nat) (x : Thread) : (s.putThread w x).svc = s.svc := rfl
@[simp] theorem State.putThread_tag (s : State) (w : Nat) (x : Thread) : (s.putThread w x).tag = s.tag := rfl
@[simp] theorem State.putThread_pwr (s : State) (w : Nat) (x : Thread) : (s.putThread w x).pwr = s.pwr := rfl
@[simp] theorem State.putThread_bist (s : State) (w : Nat) (x : Thread) : (s.putThread w x).bist = s.bist := rfl
@[simp] theorem State.putThread_tap (s : State) (w : Nat) (x : Thread) : (s.putThread w x).tap = s.tap := rfl

@[simp] theorem State.putLane_pending (s : State) (e : Nat) (l : LaneState) : (s.putLane e l).pending = s.pending := rfl
@[simp] theorem State.putLane_now (s : State) (e : Nat) (l : LaneState) : (s.putLane e l).now = s.now := rfl
@[simp] theorem State.putLane_fresh (s : State) (e : Nat) (l : LaneState) : (s.putLane e l).fresh = s.fresh := rfl
@[simp] theorem State.putLane_regs (s : State) (e : Nat) (l : LaneState) : (s.putLane e l).regs = s.regs := rfl
@[simp] theorem State.putLane_latched (s : State) (e : Nat) (l : LaneState) : (s.putLane e l).latched = s.latched := rfl
@[simp] theorem State.putLane_mem (s : State) (e : Nat) (l : LaneState) : (s.putLane e l).mem = s.mem := rfl
@[simp] theorem State.putLane_upsets (s : State) (e : Nat) (l : LaneState) : (s.putLane e l).upsets = s.upsets := rfl
@[simp] theorem State.putLane_readback (s : State) (e : Nat) (l : LaneState) : (s.putLane e l).readback = s.readback := rfl
@[simp] theorem State.putLane_cmd (s : State) (e : Nat) (l : LaneState) : (s.putLane e l).cmd = s.cmd := rfl
@[simp] theorem State.putLane_flt (s : State) (e : Nat) (l : LaneState) : (s.putLane e l).flt = s.flt := rfl
@[simp] theorem State.putLane_events (s : State) (e : Nat) (l : LaneState) : (s.putLane e l).events = s.events := rfl
@[simp] theorem State.putLane_evno (s : State) (e : Nat) (l : LaneState) : (s.putLane e l).evno = s.evno := rfl
@[simp] theorem State.putLane_recs (s : State) (e : Nat) (l : LaneState) : (s.putLane e l).recs = s.recs := rfl
@[simp] theorem State.putLane_cel (s : State) (e : Nat) (l : LaneState) : (s.putLane e l).cel = s.cel := rfl
@[simp] theorem State.putLane_keys (s : State) (e : Nat) (l : LaneState) : (s.putLane e l).keys = s.keys := rfl
@[simp] theorem State.putLane_tmp (s : State) (e : Nat) (l : LaneState) : (s.putLane e l).tmp = s.tmp := rfl
@[simp] theorem State.putLane_life (s : State) (e : Nat) (l : LaneState) : (s.putLane e l).life = s.life := rfl
@[simp] theorem State.putLane_gates (s : State) (e : Nat) (l : LaneState) : (s.putLane e l).gates = s.gates := rfl
@[simp] theorem State.putLane_tr (s : State) (e : Nat) (l : LaneState) : (s.putLane e l).tr = s.tr := rfl
@[simp] theorem State.putLane_alm (s : State) (e : Nat) (l : LaneState) : (s.putLane e l).alm = s.alm := rfl
@[simp] theorem State.putLane_spg (s : State) (e : Nat) (l : LaneState) : (s.putLane e l).spg = s.spg := rfl
@[simp] theorem State.putLane_est (s : State) (e : Nat) (l : LaneState) : (s.putLane e l).est = s.est := rfl
@[simp] theorem State.putLane_lim (s : State) (e : Nat) (l : LaneState) : (s.putLane e l).lim = s.lim := rfl
@[simp] theorem State.putLane_mer (s : State) (e : Nat) (l : LaneState) : (s.putLane e l).mer = s.mer := rfl
@[simp] theorem State.putLane_sht (s : State) (e : Nat) (l : LaneState) : (s.putLane e l).sht = s.sht := rfl
@[simp] theorem State.putLane_flc (s : State) (e : Nat) (l : LaneState) : (s.putLane e l).flc = s.flc := rfl
@[simp] theorem State.putLane_ldg (s : State) (e : Nat) (l : LaneState) : (s.putLane e l).ldg = s.ldg := rfl
@[simp] theorem State.putLane_asm (s : State) (e : Nat) (l : LaneState) : (s.putLane e l).asm = s.asm := rfl
@[simp] theorem State.putLane_svc (s : State) (e : Nat) (l : LaneState) : (s.putLane e l).svc = s.svc := rfl
@[simp] theorem State.putLane_tag (s : State) (e : Nat) (l : LaneState) : (s.putLane e l).tag = s.tag := rfl
@[simp] theorem State.putLane_pwr (s : State) (e : Nat) (l : LaneState) : (s.putLane e l).pwr = s.pwr := rfl
@[simp] theorem State.putLane_bist (s : State) (e : Nat) (l : LaneState) : (s.putLane e l).bist = s.bist := rfl
@[simp] theorem State.putLane_tap (s : State) (e : Nat) (l : LaneState) : (s.putLane e l).tap = s.tap := rfl

@[simp] theorem State.putVat_pending (s : State) (v : Nat) (x : VatState) : (s.putVat v x).pending = s.pending := rfl
@[simp] theorem State.putVat_now (s : State) (v : Nat) (x : VatState) : (s.putVat v x).now = s.now := rfl
@[simp] theorem State.putVat_fresh (s : State) (v : Nat) (x : VatState) : (s.putVat v x).fresh = s.fresh := rfl
@[simp] theorem State.putVat_regs (s : State) (v : Nat) (x : VatState) : (s.putVat v x).regs = s.regs := rfl
@[simp] theorem State.putVat_latched (s : State) (v : Nat) (x : VatState) : (s.putVat v x).latched = s.latched := rfl
@[simp] theorem State.putVat_mem (s : State) (v : Nat) (x : VatState) : (s.putVat v x).mem = s.mem := rfl
@[simp] theorem State.putVat_upsets (s : State) (v : Nat) (x : VatState) : (s.putVat v x).upsets = s.upsets := rfl
@[simp] theorem State.putVat_readback (s : State) (v : Nat) (x : VatState) : (s.putVat v x).readback = s.readback := rfl
@[simp] theorem State.putVat_cmd (s : State) (v : Nat) (x : VatState) : (s.putVat v x).cmd = s.cmd := rfl
@[simp] theorem State.putVat_flt (s : State) (v : Nat) (x : VatState) : (s.putVat v x).flt = s.flt := rfl
@[simp] theorem State.putVat_events (s : State) (v : Nat) (x : VatState) : (s.putVat v x).events = s.events := rfl
@[simp] theorem State.putVat_evno (s : State) (v : Nat) (x : VatState) : (s.putVat v x).evno = s.evno := rfl
@[simp] theorem State.putVat_recs (s : State) (v : Nat) (x : VatState) : (s.putVat v x).recs = s.recs := rfl
@[simp] theorem State.putVat_cel (s : State) (v : Nat) (x : VatState) : (s.putVat v x).cel = s.cel := rfl
@[simp] theorem State.putVat_keys (s : State) (v : Nat) (x : VatState) : (s.putVat v x).keys = s.keys := rfl
@[simp] theorem State.putVat_tmp (s : State) (v : Nat) (x : VatState) : (s.putVat v x).tmp = s.tmp := rfl
@[simp] theorem State.putVat_life (s : State) (v : Nat) (x : VatState) : (s.putVat v x).life = s.life := rfl
@[simp] theorem State.putVat_gates (s : State) (v : Nat) (x : VatState) : (s.putVat v x).gates = s.gates := rfl
@[simp] theorem State.putVat_tr (s : State) (v : Nat) (x : VatState) : (s.putVat v x).tr = s.tr := rfl
@[simp] theorem State.putVat_alm (s : State) (v : Nat) (x : VatState) : (s.putVat v x).alm = s.alm := rfl
@[simp] theorem State.putVat_spg (s : State) (v : Nat) (x : VatState) : (s.putVat v x).spg = s.spg := rfl
@[simp] theorem State.putVat_est (s : State) (v : Nat) (x : VatState) : (s.putVat v x).est = s.est := rfl
@[simp] theorem State.putVat_lim (s : State) (v : Nat) (x : VatState) : (s.putVat v x).lim = s.lim := rfl
@[simp] theorem State.putVat_mer (s : State) (v : Nat) (x : VatState) : (s.putVat v x).mer = s.mer := rfl
@[simp] theorem State.putVat_sht (s : State) (v : Nat) (x : VatState) : (s.putVat v x).sht = s.sht := rfl
@[simp] theorem State.putVat_flc (s : State) (v : Nat) (x : VatState) : (s.putVat v x).flc = s.flc := rfl
@[simp] theorem State.putVat_ldg (s : State) (v : Nat) (x : VatState) : (s.putVat v x).ldg = s.ldg := rfl
@[simp] theorem State.putVat_asm (s : State) (v : Nat) (x : VatState) : (s.putVat v x).asm = s.asm := rfl
@[simp] theorem State.putVat_svc (s : State) (v : Nat) (x : VatState) : (s.putVat v x).svc = s.svc := rfl
@[simp] theorem State.putVat_tag (s : State) (v : Nat) (x : VatState) : (s.putVat v x).tag = s.tag := rfl
@[simp] theorem State.putVat_pwr (s : State) (v : Nat) (x : VatState) : (s.putVat v x).pwr = s.pwr := rfl
@[simp] theorem State.putVat_bist (s : State) (v : Nat) (x : VatState) : (s.putVat v x).bist = s.bist := rfl
@[simp] theorem State.putVat_tap (s : State) (v : Nat) (x : VatState) : (s.putVat v x).tap = s.tap := rfl

@[simp] theorem State.setRing_pending (s : State) (r : Nat) (x : RingState) : (s.setRing r x).pending = s.pending := rfl
@[simp] theorem State.setRing_now (s : State) (r : Nat) (x : RingState) : (s.setRing r x).now = s.now := rfl
@[simp] theorem State.setRing_fresh (s : State) (r : Nat) (x : RingState) : (s.setRing r x).fresh = s.fresh := rfl
@[simp] theorem State.setRing_regs (s : State) (r : Nat) (x : RingState) : (s.setRing r x).regs = s.regs := rfl
@[simp] theorem State.setRing_latched (s : State) (r : Nat) (x : RingState) : (s.setRing r x).latched = s.latched := rfl
@[simp] theorem State.setRing_mem (s : State) (r : Nat) (x : RingState) : (s.setRing r x).mem = s.mem := rfl
@[simp] theorem State.setRing_upsets (s : State) (r : Nat) (x : RingState) : (s.setRing r x).upsets = s.upsets := rfl
@[simp] theorem State.setRing_readback (s : State) (r : Nat) (x : RingState) : (s.setRing r x).readback = s.readback := rfl
@[simp] theorem State.setRing_cmd (s : State) (r : Nat) (x : RingState) : (s.setRing r x).cmd = s.cmd := rfl
@[simp] theorem State.setRing_flt (s : State) (r : Nat) (x : RingState) : (s.setRing r x).flt = s.flt := rfl
@[simp] theorem State.setRing_events (s : State) (r : Nat) (x : RingState) : (s.setRing r x).events = s.events := rfl
@[simp] theorem State.setRing_evno (s : State) (r : Nat) (x : RingState) : (s.setRing r x).evno = s.evno := rfl
@[simp] theorem State.setRing_recs (s : State) (r : Nat) (x : RingState) : (s.setRing r x).recs = s.recs := rfl
@[simp] theorem State.setRing_cel (s : State) (r : Nat) (x : RingState) : (s.setRing r x).cel = s.cel := rfl
@[simp] theorem State.setRing_keys (s : State) (r : Nat) (x : RingState) : (s.setRing r x).keys = s.keys := rfl
@[simp] theorem State.setRing_tmp (s : State) (r : Nat) (x : RingState) : (s.setRing r x).tmp = s.tmp := rfl
@[simp] theorem State.setRing_life (s : State) (r : Nat) (x : RingState) : (s.setRing r x).life = s.life := rfl
@[simp] theorem State.setRing_gates (s : State) (r : Nat) (x : RingState) : (s.setRing r x).gates = s.gates := rfl
@[simp] theorem State.setRing_alm (s : State) (r : Nat) (x : RingState) : (s.setRing r x).alm = s.alm := rfl
@[simp] theorem State.setRing_spg (s : State) (r : Nat) (x : RingState) : (s.setRing r x).spg = s.spg := rfl
@[simp] theorem State.setRing_est (s : State) (r : Nat) (x : RingState) : (s.setRing r x).est = s.est := rfl
@[simp] theorem State.setRing_lim (s : State) (r : Nat) (x : RingState) : (s.setRing r x).lim = s.lim := rfl
@[simp] theorem State.setRing_mer (s : State) (r : Nat) (x : RingState) : (s.setRing r x).mer = s.mer := rfl
@[simp] theorem State.setRing_sht (s : State) (r : Nat) (x : RingState) : (s.setRing r x).sht = s.sht := rfl
@[simp] theorem State.setRing_flc (s : State) (r : Nat) (x : RingState) : (s.setRing r x).flc = s.flc := rfl
@[simp] theorem State.setRing_ldg (s : State) (r : Nat) (x : RingState) : (s.setRing r x).ldg = s.ldg := rfl
@[simp] theorem State.setRing_asm (s : State) (r : Nat) (x : RingState) : (s.setRing r x).asm = s.asm := rfl
@[simp] theorem State.setRing_eng (s : State) (r : Nat) (x : RingState) : (s.setRing r x).eng = s.eng := rfl
@[simp] theorem State.setRing_svc (s : State) (r : Nat) (x : RingState) : (s.setRing r x).svc = s.svc := rfl
@[simp] theorem State.setRing_tag (s : State) (r : Nat) (x : RingState) : (s.setRing r x).tag = s.tag := rfl
@[simp] theorem State.setRing_pwr (s : State) (r : Nat) (x : RingState) : (s.setRing r x).pwr = s.pwr := rfl
@[simp] theorem State.setRing_bist (s : State) (r : Nat) (x : RingState) : (s.setRing r x).bist = s.bist := rfl
@[simp] theorem State.setRing_tap (s : State) (r : Nat) (x : RingState) : (s.setRing r x).tap = s.tap := rfl

@[simp] theorem State.setUp_pending (s : State) (u : Uplink) : (s.setUp u).pending = s.pending := rfl
@[simp] theorem State.setUp_now (s : State) (u : Uplink) : (s.setUp u).now = s.now := rfl
@[simp] theorem State.setUp_fresh (s : State) (u : Uplink) : (s.setUp u).fresh = s.fresh := rfl
@[simp] theorem State.setUp_regs (s : State) (u : Uplink) : (s.setUp u).regs = s.regs := rfl
@[simp] theorem State.setUp_latched (s : State) (u : Uplink) : (s.setUp u).latched = s.latched := rfl
@[simp] theorem State.setUp_mem (s : State) (u : Uplink) : (s.setUp u).mem = s.mem := rfl
@[simp] theorem State.setUp_upsets (s : State) (u : Uplink) : (s.setUp u).upsets = s.upsets := rfl
@[simp] theorem State.setUp_readback (s : State) (u : Uplink) : (s.setUp u).readback = s.readback := rfl
@[simp] theorem State.setUp_cmd (s : State) (u : Uplink) : (s.setUp u).cmd = s.cmd := rfl
@[simp] theorem State.setUp_flt (s : State) (u : Uplink) : (s.setUp u).flt = s.flt := rfl
@[simp] theorem State.setUp_events (s : State) (u : Uplink) : (s.setUp u).events = s.events := rfl
@[simp] theorem State.setUp_evno (s : State) (u : Uplink) : (s.setUp u).evno = s.evno := rfl
@[simp] theorem State.setUp_recs (s : State) (u : Uplink) : (s.setUp u).recs = s.recs := rfl
@[simp] theorem State.setUp_cel (s : State) (u : Uplink) : (s.setUp u).cel = s.cel := rfl
@[simp] theorem State.setUp_keys (s : State) (u : Uplink) : (s.setUp u).keys = s.keys := rfl
@[simp] theorem State.setUp_tmp (s : State) (u : Uplink) : (s.setUp u).tmp = s.tmp := rfl
@[simp] theorem State.setUp_life (s : State) (u : Uplink) : (s.setUp u).life = s.life := rfl
@[simp] theorem State.setUp_gates (s : State) (u : Uplink) : (s.setUp u).gates = s.gates := rfl
@[simp] theorem State.setUp_alm (s : State) (u : Uplink) : (s.setUp u).alm = s.alm := rfl
@[simp] theorem State.setUp_spg (s : State) (u : Uplink) : (s.setUp u).spg = s.spg := rfl
@[simp] theorem State.setUp_est (s : State) (u : Uplink) : (s.setUp u).est = s.est := rfl
@[simp] theorem State.setUp_lim (s : State) (u : Uplink) : (s.setUp u).lim = s.lim := rfl
@[simp] theorem State.setUp_mer (s : State) (u : Uplink) : (s.setUp u).mer = s.mer := rfl
@[simp] theorem State.setUp_sht (s : State) (u : Uplink) : (s.setUp u).sht = s.sht := rfl
@[simp] theorem State.setUp_flc (s : State) (u : Uplink) : (s.setUp u).flc = s.flc := rfl
@[simp] theorem State.setUp_ldg (s : State) (u : Uplink) : (s.setUp u).ldg = s.ldg := rfl
@[simp] theorem State.setUp_asm (s : State) (u : Uplink) : (s.setUp u).asm = s.asm := rfl
@[simp] theorem State.setUp_eng (s : State) (u : Uplink) : (s.setUp u).eng = s.eng := rfl
@[simp] theorem State.setUp_svc (s : State) (u : Uplink) : (s.setUp u).svc = s.svc := rfl
@[simp] theorem State.setUp_tag (s : State) (u : Uplink) : (s.setUp u).tag = s.tag := rfl
@[simp] theorem State.setUp_pwr (s : State) (u : Uplink) : (s.setUp u).pwr = s.pwr := rfl
@[simp] theorem State.setUp_bist (s : State) (u : Uplink) : (s.setUp u).bist = s.bist := rfl
@[simp] theorem State.setUp_tap (s : State) (u : Uplink) : (s.setUp u).tap = s.tap := rfl

@[simp] theorem State.setSvc_pending (s : State) (x : SvcState) : (s.setSvc x).pending = s.pending := rfl
@[simp] theorem State.setSvc_now (s : State) (x : SvcState) : (s.setSvc x).now = s.now := rfl
@[simp] theorem State.setSvc_fresh (s : State) (x : SvcState) : (s.setSvc x).fresh = s.fresh := rfl
@[simp] theorem State.setSvc_regs (s : State) (x : SvcState) : (s.setSvc x).regs = s.regs := rfl
@[simp] theorem State.setSvc_latched (s : State) (x : SvcState) : (s.setSvc x).latched = s.latched := rfl
@[simp] theorem State.setSvc_mem (s : State) (x : SvcState) : (s.setSvc x).mem = s.mem := rfl
@[simp] theorem State.setSvc_upsets (s : State) (x : SvcState) : (s.setSvc x).upsets = s.upsets := rfl
@[simp] theorem State.setSvc_readback (s : State) (x : SvcState) : (s.setSvc x).readback = s.readback := rfl
@[simp] theorem State.setSvc_cmd (s : State) (x : SvcState) : (s.setSvc x).cmd = s.cmd := rfl
@[simp] theorem State.setSvc_flt (s : State) (x : SvcState) : (s.setSvc x).flt = s.flt := rfl
@[simp] theorem State.setSvc_events (s : State) (x : SvcState) : (s.setSvc x).events = s.events := rfl
@[simp] theorem State.setSvc_evno (s : State) (x : SvcState) : (s.setSvc x).evno = s.evno := rfl
@[simp] theorem State.setSvc_recs (s : State) (x : SvcState) : (s.setSvc x).recs = s.recs := rfl
@[simp] theorem State.setSvc_cel (s : State) (x : SvcState) : (s.setSvc x).cel = s.cel := rfl
@[simp] theorem State.setSvc_keys (s : State) (x : SvcState) : (s.setSvc x).keys = s.keys := rfl
@[simp] theorem State.setSvc_tmp (s : State) (x : SvcState) : (s.setSvc x).tmp = s.tmp := rfl
@[simp] theorem State.setSvc_life (s : State) (x : SvcState) : (s.setSvc x).life = s.life := rfl
@[simp] theorem State.setSvc_gates (s : State) (x : SvcState) : (s.setSvc x).gates = s.gates := rfl
@[simp] theorem State.setSvc_tr (s : State) (x : SvcState) : (s.setSvc x).tr = s.tr := rfl
@[simp] theorem State.setSvc_alm (s : State) (x : SvcState) : (s.setSvc x).alm = s.alm := rfl
@[simp] theorem State.setSvc_spg (s : State) (x : SvcState) : (s.setSvc x).spg = s.spg := rfl
@[simp] theorem State.setSvc_est (s : State) (x : SvcState) : (s.setSvc x).est = s.est := rfl
@[simp] theorem State.setSvc_lim (s : State) (x : SvcState) : (s.setSvc x).lim = s.lim := rfl
@[simp] theorem State.setSvc_mer (s : State) (x : SvcState) : (s.setSvc x).mer = s.mer := rfl
@[simp] theorem State.setSvc_sht (s : State) (x : SvcState) : (s.setSvc x).sht = s.sht := rfl
@[simp] theorem State.setSvc_flc (s : State) (x : SvcState) : (s.setSvc x).flc = s.flc := rfl
@[simp] theorem State.setSvc_ldg (s : State) (x : SvcState) : (s.setSvc x).ldg = s.ldg := rfl
@[simp] theorem State.setSvc_asm (s : State) (x : SvcState) : (s.setSvc x).asm = s.asm := rfl
@[simp] theorem State.setSvc_eng (s : State) (x : SvcState) : (s.setSvc x).eng = s.eng := rfl
@[simp] theorem State.setSvc_tag (s : State) (x : SvcState) : (s.setSvc x).tag = s.tag := rfl
@[simp] theorem State.setSvc_pwr (s : State) (x : SvcState) : (s.setSvc x).pwr = s.pwr := rfl
@[simp] theorem State.setSvc_bist (s : State) (x : SvcState) : (s.setSvc x).bist = s.bist := rfl
@[simp] theorem State.setSvc_tap (s : State) (x : SvcState) : (s.setSvc x).tap = s.tap := rfl

@[simp] theorem State.setTag_pending (s : State) (x : TagState) : (s.setTag x).pending = s.pending := rfl
@[simp] theorem State.setTag_now (s : State) (x : TagState) : (s.setTag x).now = s.now := rfl
@[simp] theorem State.setTag_fresh (s : State) (x : TagState) : (s.setTag x).fresh = s.fresh := rfl
@[simp] theorem State.setTag_regs (s : State) (x : TagState) : (s.setTag x).regs = s.regs := rfl
@[simp] theorem State.setTag_latched (s : State) (x : TagState) : (s.setTag x).latched = s.latched := rfl
@[simp] theorem State.setTag_mem (s : State) (x : TagState) : (s.setTag x).mem = s.mem := rfl
@[simp] theorem State.setTag_upsets (s : State) (x : TagState) : (s.setTag x).upsets = s.upsets := rfl
@[simp] theorem State.setTag_readback (s : State) (x : TagState) : (s.setTag x).readback = s.readback := rfl
@[simp] theorem State.setTag_cmd (s : State) (x : TagState) : (s.setTag x).cmd = s.cmd := rfl
@[simp] theorem State.setTag_flt (s : State) (x : TagState) : (s.setTag x).flt = s.flt := rfl
@[simp] theorem State.setTag_events (s : State) (x : TagState) : (s.setTag x).events = s.events := rfl
@[simp] theorem State.setTag_evno (s : State) (x : TagState) : (s.setTag x).evno = s.evno := rfl
@[simp] theorem State.setTag_recs (s : State) (x : TagState) : (s.setTag x).recs = s.recs := rfl
@[simp] theorem State.setTag_cel (s : State) (x : TagState) : (s.setTag x).cel = s.cel := rfl
@[simp] theorem State.setTag_keys (s : State) (x : TagState) : (s.setTag x).keys = s.keys := rfl
@[simp] theorem State.setTag_tmp (s : State) (x : TagState) : (s.setTag x).tmp = s.tmp := rfl
@[simp] theorem State.setTag_life (s : State) (x : TagState) : (s.setTag x).life = s.life := rfl
@[simp] theorem State.setTag_gates (s : State) (x : TagState) : (s.setTag x).gates = s.gates := rfl
@[simp] theorem State.setTag_tr (s : State) (x : TagState) : (s.setTag x).tr = s.tr := rfl
@[simp] theorem State.setTag_alm (s : State) (x : TagState) : (s.setTag x).alm = s.alm := rfl
@[simp] theorem State.setTag_spg (s : State) (x : TagState) : (s.setTag x).spg = s.spg := rfl
@[simp] theorem State.setTag_est (s : State) (x : TagState) : (s.setTag x).est = s.est := rfl
@[simp] theorem State.setTag_lim (s : State) (x : TagState) : (s.setTag x).lim = s.lim := rfl
@[simp] theorem State.setTag_mer (s : State) (x : TagState) : (s.setTag x).mer = s.mer := rfl
@[simp] theorem State.setTag_sht (s : State) (x : TagState) : (s.setTag x).sht = s.sht := rfl
@[simp] theorem State.setTag_flc (s : State) (x : TagState) : (s.setTag x).flc = s.flc := rfl
@[simp] theorem State.setTag_ldg (s : State) (x : TagState) : (s.setTag x).ldg = s.ldg := rfl
@[simp] theorem State.setTag_asm (s : State) (x : TagState) : (s.setTag x).asm = s.asm := rfl
@[simp] theorem State.setTag_eng (s : State) (x : TagState) : (s.setTag x).eng = s.eng := rfl
@[simp] theorem State.setTag_svc (s : State) (x : TagState) : (s.setTag x).svc = s.svc := rfl
@[simp] theorem State.setTag_pwr (s : State) (x : TagState) : (s.setTag x).pwr = s.pwr := rfl
@[simp] theorem State.setTag_bist (s : State) (x : TagState) : (s.setTag x).bist = s.bist := rfl
@[simp] theorem State.setTag_tap (s : State) (x : TagState) : (s.setTag x).tap = s.tap := rfl

@[simp] theorem State.clock_now (s : State) (t : Nat) : (s.clock t).now = max s.now t := by
  simp only [State.clock]; split <;> omega

/-! ### Sparse stores -/

theorem Sparse.get_erase {α : Type} (d : Nat → α) (a b : Nat) : ∀ (m : Sparse α), Sparse.get d (Sparse.erase m a) b = if b = a then d a else Sparse.get d m b
  | [] => by simp [Sparse.erase, Sparse.get]; intro h; rw [h]
  | (k, v) :: t => by
    have ih := Sparse.get_erase d a b t
    simp only [Sparse.erase]
    by_cases hk : k = a
    · rw [if_pos hk, ih]
      by_cases hb : b = a
      · simp [hb]
      · simp [hb, Sparse.get, hk, Ne.symm hb]
    · rw [if_neg hk]
      by_cases hb : k = b
      · subst hb; simp [Sparse.get, hk]
      · simp [Sparse.get, hb, ih]

theorem Sparse.get_insert {α : Type} (d : Nat → α) (a b : Nat) (x : α) : ∀ (m : Sparse α), Sparse.absent a m →
    Sparse.get d (Sparse.insert m a x) b = if b = a then x else Sparse.get d m b
  | [], _ => by
    by_cases h : b = a
    · simp [Sparse.insert, Sparse.get, h]
    · simp [Sparse.insert, Sparse.get, h, Ne.symm h]
  | (k, v) :: t, ⟨hk, ht⟩ => by
    have ih := Sparse.get_insert d a b x t ht
    simp only [Sparse.insert]
    by_cases hb : b = a
    · subst hb
      split
      · simp [Sparse.get]
      · simp [Sparse.get, hk, ih]
    · split
      · simp [Sparse.get, Ne.symm hb]
      · simp only [Sparse.get, ih, hb]; split <;> simp

/-- A read after a write. -/
theorem Sparse.get_set {α : Type} [DecidableEq α] (d : Nat → α) (m : Sparse α) (a b : Nat) (x : α) :
    Sparse.get d (Sparse.set d m a x) b = if b = a then x else Sparse.get d m b := by
  simp only [Sparse.set]
  split
  · rw [Sparse.get_erase]; split <;> simp_all
  · rw [Sparse.get_insert _ _ _ _ _ (Sparse.absent_erase a m), Sparse.get_erase]; split <;> simp_all

/-! ### Registers, fields and bytes -/

theorem State.reg_setReg (s : State) (a b : Nat) (w : Word) : (s.setReg a w).reg b = if b = a then w else s.reg b :=
  Sparse.get_set regDefault s.regs a b w

theorem State.byte_setByte (s : State) (a b : Nat) (x : Byte) : (s.setByte a x).byte b = if b = a then x else s.byte b :=
  Sparse.get_set memDefault s.mem a b x

/-- A store changes its own bytes alone. -/
theorem State.byte_store_outside (b : Nat) : ∀ (l : List Byte) (a : Nat) (s : State), (b < a ∨ a + l.length ≤ b) → (s.store a l).byte b = s.byte b
  | [], _, _, _ => rfl
  | x :: l, a, s, h => by
    have h1 : (s.setByte a x).byte b = s.byte b := by
      rw [State.byte_setByte, if_neg]; simp at h; omega
    rw [← h1]
    exact State.byte_store_outside b l (a + 1) (s.setByte a x) (by simp at h; omega)

theorem testBit_fieldMask (lsb width i : Nat) (h : lsb + width ≤ 32) : (fieldMask lsb width).getLsbD i = decide (lsb ≤ i ∧ i < lsb + width) := by
  simp only [fieldMask, BitVec.getLsbD_shiftLeft, BitVec.getLsbD_ofNat, Nat.testBit_two_pow_sub_one]
  rw [Bool.eq_iff_iff]
  simp only [Bool.and_eq_true, Bool.not_eq_true', decide_eq_true_eq, decide_eq_false_iff_not]
  omega

theorem testBit_bitsOf (w : Word) (lsb width i : Nat) : (bitsOf w lsb width).testBit i = (decide (i < width) && w.getLsbD (lsb + i)) := by
  simp [bitsOf, Nat.testBit_mod_two_pow, Nat.testBit_div_two_pow, BitVec.getLsbD, Nat.add_comm]

theorem getLsbD_withBits (w : Word) (lsb width v i : Nat) (h : lsb + width ≤ 32) :
    (withBits w lsb width v).getLsbD i = if lsb ≤ i ∧ i < lsb + width then v.testBit (i - lsb) else w.getLsbD i := by
  simp only [withBits, BitVec.getLsbD_or, BitVec.getLsbD_and, BitVec.getLsbD_not, testBit_fieldMask _ _ _ h, BitVec.getLsbD_shiftLeft, BitVec.getLsbD_ofNat]
  by_cases h1 : lsb ≤ i ∧ i < lsb + width
  · have : i < 32 := by omega
    have h3 : ¬ i < lsb := by omega
    have h4 : i - lsb < 32 := by omega
    simp [h1, h3, h4, this]
  · by_cases h2 : i < 32
    · simp [h1, h2]
    · have : w.getLsbD i = false := BitVec.getLsbD_of_ge w i (by omega)
      simp [h1, this]

/-- A field reads what was written to it. -/
theorem State.fget_fput (s : State) (f : Fld) (v : Nat) (h : f.lsb + f.width ≤ 32) : (s.fput f v).fget f = v % 2 ^ f.width := by
  simp only [State.fget, State.fput, State.reg_setReg, if_true]
  apply Nat.eq_of_testBit_eq
  intro i
  rw [testBit_bitsOf, getLsbD_withBits _ _ _ _ _ h, Nat.testBit_mod_two_pow]
  by_cases hi : i < f.width
  · simp [hi]
  · simp [hi]

/-- A field of another register, or of other bits, is unchanged. -/
theorem State.fget_fput_ne (s : State) (f g : Fld) (v : Nat) (hf : f.lsb + f.width ≤ 32)
    (h : g.addr ≠ f.addr ∨ g.lsb + g.width ≤ f.lsb ∨ f.lsb + f.width ≤ g.lsb) : (s.fput f v).fget g = s.fget g := by
  simp only [State.fget, State.fput, State.reg_setReg]
  split
  · next ha =>
    rw [← ha]
    apply Nat.eq_of_testBit_eq
    intro i
    rw [testBit_bitsOf, testBit_bitsOf, getLsbD_withBits _ _ _ _ _ hf]
    by_cases hi : i < g.width
    · rw [if_neg]; rcases h with h | h | h
      · exact absurd ha h
      · omega
      · omega
    · simp [hi]
  · rfl

end Sys2Proof.Machine
end

