-- ==== Sys2Proof/Laws/Answers.lean ====
section
/-!
SUPPORT. Laws/Answers.lean: what the two frames of a meaning answer: a command of the tables that every check admits has its effect and its reply, one that a
check refuses is answered and does nothing else; a write that its gate admits has its effect, one that it denies leaves a notice, one that is damaged a bus fault.
-/
namespace Sys2Proof.Machine

/-- A life-cycle state read again is read once. -/
theorem State.lcReread_lcReread (s : State) : s.lcReread.lcReread = s.lcReread := by
  cases hr : s.life.reread with
  | none =>
    have h : s.lcReread = s := by simp only [State.lcReread, hr]
    rw [h, h]
  | some p =>
    obtain ⟨a, c⟩ := p
    by_cases ha : a ≤ s.now
    · have h : s.lcReread.life.reread = none := by simp only [State.lcReread, hr, ha, if_true]; rfl
      generalize s.lcReread = u at h
      simp only [State.lcReread, h]
    · have h : s.lcReread = s := by simp only [State.lcReread, hr, ha, if_false]
      rw [h, h]

@[simp] theorem State.lcReread_now (s : State) : s.lcReread.now = s.now := by
  unfold State.lcReread
  repeat' split
  all_goals rfl

theorem State.clock_of_le (s : State) (t : Nat) (h : t ≤ s.now) : s.clock t = s := by
  have : ¬ s.now < t := by omega
  simp [State.clock, this]

@[simp] theorem State.at_now (s : State) (t : Nat) : (s.at t).now = max s.now t := by simp [State.at]

/-- A command's stamp arrives once: arriving at it again changes nothing. -/
theorem State.at_at (s : State) (t : Nat) : (s.at t).at t = s.at t := by
  have h : (s.at t).clock t = s.at t := State.clock_of_le _ _ (by rw [State.at_now]; exact Nat.le_max_right _ _)
  calc (s.at t).at t = ((s.at t).clock t).lcReread := rfl
    _ = (s.at t).lcReread := by rw [h]
    _ = s.at t := State.lcReread_lcReread _

/-- Once the checks of R437 that come before a command's own have passed, and its life-cycle states admit it, its own checks decide. -/
theorem refusal_passes (t : State) (r : Req) (op : Nat) (lc : Nat → Bool) (chk : State → List (Option Nat)) (hp : passes t r op = true) (hl : lc t.lc = true) :
    refusal t r op lc chk = firstOf (chk t) := by
  simp only [passes, Bool.and_eq_true, Option.isNone_iff_eq_none] at hp
  obtain ⟨⟨⟨⟨⟨⟨⟨⟨_, h1⟩, h2⟩, h3⟩, h4⟩, h5⟩, h6⟩, h7⟩, h8⟩ := hp
  simp [refusal, h1, h2, h3, h4, h5, h6, h7, h8, lcCheck, hl, firstOf]

/-- A command that passes is answered: the logic die runs, or the service port asks. -/
theorem passes_answered (t : State) (r : Req) (op : Nat) (hp : passes t r op = true) : t.alive = true ∨ r.path = 4 := by
  simp only [passes, Bool.and_eq_true, Bool.or_eq_true, beq_iff_eq] at hp
  exact hp.1.1.1.1.1.1.1.1

/-- A command whose own checks decide. -/
theorem runCmd_checks (s : State) (r : Req) (op : Nat) (lc : Nat → Bool) (chk : State → List (Option Nat)) (eff : Effect)
    (hp : passes (s.at r.at_) r op = true) (hl : lc (s.at r.at_).lc = true) :
    runCmd s r op lc chk eff = match firstOf (chk (s.at r.at_)) with
      | some e => (s.at r.at_).refuse r op e
      | none => match eff (s.at r.at_) with
        | (u, some (st, body)) => u.reply r op st body
        | (u, none) => u := by
  have ha : (!(s.at r.at_).alive && r.path != 4) = false := by
    rcases passes_answered _ _ _ hp with h | h <;> simp [h]
  simp only [runCmd, refusal_passes _ _ _ _ _ hp hl, ha]
  rfl

/-- A command whose life-cycle states and own checks decide. -/
theorem runCmd_stateChecks (s : State) (r : Req) (op : Nat) (lc : Nat → Bool) (chk : State → List (Option Nat)) (eff : Effect)
    (hp : passes (s.at r.at_) r op = true) :
    runCmd s r op lc chk eff = match firstOf (need (lc (s.at r.at_).lc) E_LIFECYCLE :: chk (s.at r.at_)) with
      | some e => (s.at r.at_).refuse r op e
      | none => match eff (s.at r.at_) with
        | (u, some (st, body)) => u.reply r op st body
        | (u, none) => u := by
  cases hl : lc (s.at r.at_).lc with
  | true => rw [runCmd_checks _ _ _ _ _ _ hp hl]; rfl
  | false =>
    have ha : (!(s.at r.at_).alive && r.path != 4) = false := by
      rcases passes_answered _ _ _ hp with h | h <;> simp [h]
    have hr : refusal (s.at r.at_) r op lc chk = some E_LIFECYCLE := by
      simp only [passes, Bool.and_eq_true, Option.isNone_iff_eq_none] at hp
      obtain ⟨⟨⟨⟨⟨⟨⟨⟨_, h1⟩, h2⟩, h3⟩, h4⟩, h5⟩, h6⟩, h7⟩, h8⟩ := hp
      simp [refusal, h1, h2, h3, h4, h5, lcCheck, hl, firstOf]
    simp only [runCmd, hr, ha]
    rfl

/-- A command whose checks all pass. -/
theorem runCmd_passes (s : State) (r : Req) (op : Nat) (lc : Nat → Bool) (chk : State → List (Option Nat)) (eff : Effect)
    (hp : passes (s.at r.at_) r op = true) (hl : lc (s.at r.at_).lc = true) (hc : firstOf (chk (s.at r.at_)) = none) :
    runCmd s r op lc chk eff = match eff (s.at r.at_) with
      | (u, some (st, body)) => u.reply r op st body
      | (u, none) => u := by
  rw [runCmd_checks _ _ _ _ _ _ hp hl, hc]

/-- A refusal that names no parameter is its status alone. -/
theorem refuse_status (s : State) (r : Req) (op e : Nat) (h : e < 0x10000) : s.refuse r op e = s.reply r op e [] := by
  simp [State.refuse, blamed, h, Nat.mod_eq_of_lt h]

/-- A command that a check refuses. -/
theorem runCmd_refused (s : State) (r : Req) (op : Nat) (lc : Nat → Bool) (chk : State → List (Option Nat)) (eff : Effect) (e : Nat)
    (ha : (s.at r.at_).alive = true ∨ r.path = 4) (hr : refusal (s.at r.at_) r op lc chk = some e) :
    runCmd s r op lc chk eff = (s.at r.at_).refuse r op e := by
  have hb : (!(s.at r.at_).alive && r.path != 4) = false := by
    rcases ha with h | h <;> simp [h]
  simp only [runCmd, hr, hb]
  rfl

/-- A write that is admitted. -/
theorem guarded_admitted (s : State) (w : Wr) (addr : Nat) (eff : State → State) (h : admitted (s.at w.at_) w addr = true) :
    guarded s w addr eff = eff (s.at w.at_) := by
  simp only [admitted, Bool.and_eq_true, Option.isNone_iff_eq_none, Bool.not_eq_true'] at h
  simp [guarded, h]

/-- A write that does not arrive whole (R336). -/
theorem guarded_damaged (s : State) (w : Wr) (addr : Nat) (eff : State → State) (ha : (s.at w.at_).alive = true)
    (hd : damaged (s.at w.at_) (wrAcc w addr) w.value w.noise = true) :
    guarded s w addr eff = (s.at w.at_).busFault addr := by
  simp [guarded, ha, hd]

/-- A write that its gate denies (R328). -/
theorem guarded_denied (s : State) (w : Wr) (addr : Nat) (eff : State → State) (reason : Nat) (ha : (s.at w.at_).alive = true)
    (hd : damaged (s.at w.at_) (wrAcc w addr) w.value w.noise = false) (hg : gateCheck (s.at w.at_) (wrAcc w addr) = some reason) :
    guarded s w addr eff = (s.at w.at_).notice (wrAcc w addr) reason := by
  simp [guarded, ha, hd, hg]

/-- A key store operation whose status is OK. -/
theorem ksStart_ok (w : Wr) (op : Nat) (s : State) (status : State → Nat) (eff : State → State) (h : admitted (s.at w.at_) w r_KS_CMD = true)
    (hg : (s.at w.at_).isSet f_KS_CMD_GO = false) (hs : status (s.at w.at_) = OK) :
    ksStart w op s status eff = (eff (ksStarted (s.at w.at_) op OK)).settleKeys (ksStarted (s.at w.at_) op OK) := by
  simp [ksStart, guarded_admitted s w _ _ h, hg, hs]

/-- A key store operation that a check refuses. -/
theorem ksStart_refused (w : Wr) (op : Nat) (s : State) (status : State → Nat) (eff : State → State) (st : Nat) (h : admitted (s.at w.at_) w r_KS_CMD = true)
    (hg : (s.at w.at_).isSet f_KS_CMD_GO = false) (hs : status (s.at w.at_) = st) (hn : st ≠ OK) :
    ksStart w op s status eff = ksStarted (s.at w.at_) op st := by
  simp [ksStart, guarded_admitted s w _ _ h, hg, hs, hn]

end Sys2Proof.Machine
end

