-- ==== Sys2Proof/Laws/Keep.lean ====
section
/-!
SUPPORT. Laws/Keep.lean: every operation of the machine leaves the queue of waiting commands alone, keeps canonical stores canonical and
unblows no fuse: one lemma per operation, by name of the operation.
-/
set_option linter.unusedTactic false
set_option linter.unreachableTactic false
set_option linter.unusedVariables false
namespace Sys2Proof.Machine

/-- Against a state `b`: its queue, stores as canonical, and no fuse unblown; said of the fields. -/
def HeldF (b : State) (p : List Instr) (r l : Sparse Word) (m : Sparse Byte) (f : List (Bool × Bool)) (g : Bool × Bool) (h : List (Bool × Bool)) (i : List (Nat × Nat × Nat)) : Prop :=
  (p = b.pending ∧ (b.Canonical → Sparse.wf regDefault r = true ∧ Memory.wf m = true ∧ Sparse.wf (fun _ => (0 : Word)) l = true)) ∧
  OneWay b.life.fuses f ∧ (b.life.frPair.1 = true → g.1 = true) ∧ (b.life.frPair.2 = true → g.2 = true) ∧ OneWay b.tmp.fuses h ∧ b.bist.fuses <+: i
/-- The queue is that of `b`, the stores are canonical if those of `b` were, and no fuse blown in `b` is unblown. -/
def Held (b s : State) : Prop := HeldF b s.pending s.regs s.latched s.mem s.life.fuses s.life.frPair s.tmp.fuses s.bist.fuses

variable {qs s : State}
theorem held_mk {p n f r l m up rb a b c d rc e g h i j k o t u v w x y z aa ab ac ad ae af tp} (hh : HeldF qs p r l m i.fuses i.frPair h.fuses af.fuses) :
   Held qs (State.mk p n f r l m up rb a b c d rc e g h i j k o t u v w x y z aa ab ac ad ae af tp) := hh
theorem held_fold (h : Held qs s) : HeldF qs s.pending s.regs s.latched s.mem s.life.fuses s.life.frPair s.tmp.fuses s.bist.fuses := h
theorem held_regs (h : Held qs s) (a w) : HeldF qs s.pending (Sparse.set regDefault s.regs a w) s.latched s.mem s.life.fuses s.life.frPair s.tmp.fuses s.bist.fuses :=
  ⟨⟨h.1.1, fun c => ⟨Sparse.wf_set _ _ _ _ (h.1.2 c).1, (h.1.2 c).2⟩⟩, h.2⟩
theorem held_latched (h : Held qs s) (a w) : HeldF qs s.pending s.regs (Sparse.set (fun _ => (0 : Word)) s.latched a w) s.mem s.life.fuses s.life.frPair s.tmp.fuses s.bist.fuses :=
  ⟨⟨h.1.1, fun c => ⟨(h.1.2 c).1, (h.1.2 c).2.1, Sparse.wf_set _ _ _ _ (h.1.2 c).2.2⟩⟩, h.2⟩
theorem held_mem (h : Held qs s) (a w) : HeldF qs s.pending s.regs s.latched (Sparse.set memDefault s.mem a w) s.life.fuses s.life.frPair s.tmp.fuses s.bist.fuses :=
  ⟨⟨h.1.1, fun c => ⟨(h.1.2 c).1, Sparse.wf_set _ _ _ _ (h.1.2 c).2.1, (h.1.2 c).2.2⟩⟩, h.2⟩
theorem held_drop (h : Held qs s) (p) : HeldF qs s.pending (Sparse.drop p s.regs) (Sparse.drop p s.latched) s.mem s.life.fuses s.life.frPair s.tmp.fuses s.bist.fuses :=
  ⟨⟨h.1.1, fun c => ⟨Sparse.wf_drop _ _ _ (h.1.2 c).1, (h.1.2 c).2.1, Sparse.wf_drop _ _ _ (h.1.2 c).2.2⟩⟩, h.2⟩
theorem held_dropmem (h : Held qs s) (p) : HeldF qs s.pending s.regs s.latched (Sparse.drop p s.mem) s.life.fuses s.life.frPair s.tmp.fuses s.bist.fuses :=
  ⟨⟨h.1.1, fun c => ⟨(h.1.2 c).1, Sparse.wf_drop _ _ _ (h.1.2 c).2.1, (h.1.2 c).2.2⟩⟩, h.2⟩
theorem oneWay_refl (a : List (Bool × Bool)) : OneWay a a := fun _ => ⟨id, id⟩
theorem oneWay_set {a b : List (Bool × Bool)} (h : OneWay a b) (i : Nat) : OneWay a (setAt b i (true, true)) := by
  intro j
  have h := h j
  simp only [setAt, at!, List.getD_eq_getElem?_getD, List.getElem?_set] at *
  split
  · split
    · simp
    · simp_all
  · exact h
theorem held_fuses (h : Held qs s) (i) : HeldF qs s.pending s.regs s.latched s.mem (setAt s.life.fuses i (true, true)) s.life.frPair s.tmp.fuses s.bist.fuses :=
  ⟨h.1, oneWay_set h.2.1 i, h.2.2⟩
theorem held_frPair (h : Held qs s) : HeldF qs s.pending s.regs s.latched s.mem s.life.fuses (true, true) s.tmp.fuses s.bist.fuses :=
  ⟨h.1, h.2.1, fun _ => rfl, fun _ => rfl, h.2.2.2.2⟩
theorem held_disable (h : Held qs s) (i) : HeldF qs s.pending s.regs s.latched s.mem s.life.fuses s.life.frPair (setAt s.tmp.fuses i (true, true)) s.bist.fuses :=
  ⟨h.1, h.2.1, h.2.2.1, h.2.2.2.1, oneWay_set h.2.2.2.2.1 i, h.2.2.2.2.2⟩
theorem held_repair (h : Held qs s) (x) : HeldF qs s.pending s.regs s.latched s.mem s.life.fuses s.life.frPair s.tmp.fuses (s.bist.fuses ++ x) :=
  ⟨h.1, h.2.1, h.2.2.1, h.2.2.2.1, h.2.2.2.2.1, h.2.2.2.2.2.trans (List.prefix_append _ _)⟩
theorem held_foldl {α : Type} (l : List α) (g : State → α → State) (h : Held qs s) (hg : ∀ t, Held qs t → ∀ x, Held qs (g t x)) : Held qs (l.foldl g s) := by
  induction l generalizing s with
  | nil => exact h
  | cons x t ih => exact ih (hg _ h x)
theorem held_foldl_pair {α β : Type} (l : List α) (g : State × β → α → State × β) (p : State × β) (h : Held qs p.1)
    (hg : ∀ t : State × β, Held qs t.1 → ∀ x, Held qs (g t x).1) : Held qs (l.foldl g p).1 := by
  induction l generalizing p with
  | nil => exact h
  | cons x t ih => exact ih (g p x) (hg p h x)
theorem held_pair {α : Type} {p : State × α} {a : State} {b : α} (e : p = (a, b)) (h : Held qs p.1) : Held qs a := by subst e; exact h
theorem held_ite {c : Prop} [Decidable c] {a b : State} (h1 : c → Held qs a) (h2 : ¬ c → Held qs b) : Held qs (if c then a else b) := by
  split
  · exact h1 ‹_›
  · exact h2 ‹_›
theorem held_pair2 {α : Type} {p : α × State} {a : State} {b : α} (e : p = (b, a)) (h : Held qs p.2) : Held qs a := by subst e; exact h
theorem Held.canonical (h : Held qs s) (c : qs.Canonical) : s.Canonical := h.1.2 c
theorem Held.queue (h : Held qs s) : s.pending = qs.pending := h.1.1
theorem Held.fusesKept (h : Held qs s) : qs.FusesKept s := h.2
theorem held_self (s : State) : Held s s := ⟨⟨rfl, id⟩, oneWay_refl _, id, id, oneWay_refl _, List.prefix_rfl⟩

/-! ### Ops -/

theorem State.setReg_held (s : State) (a : Nat) (w : Word) (hs : Held qs s) : Held qs (State.setReg s a w) := by
  unfold State.setReg
  repeat' (first | intro _ | with_reducible first | assumption | apply held_mk | apply held_regs | apply held_latched | apply held_mem | apply held_drop | apply held_dropmem)

theorem State.fput_held (s : State) (f : Fld) (v : Nat) (hs : Held qs s) : Held qs (State.fput s f v) := by
  unfold State.fput
  repeat' (first | intro _ | with_reducible first | assumption | apply State.setReg_held)

theorem State.fputs_held (s : State) (l : List (Fld × Nat)) (hs : Held qs s) : Held qs (State.fputs s l) := by
  induction l generalizing s with
  | nil => exact hs
  | cons x t ih => obtain ⟨f, v⟩ := x; exact ih _ (State.fput_held _ _ _ hs)

theorem State.bump_held (s : State) (f : Fld) (hs : Held qs s) : Held qs (State.bump s f) := by
  unfold State.bump
  repeat' (first | intro _ | with_reducible first | assumption | apply State.fput_held)

theorem State.bumpBy_held (s : State) (f : Fld) (n : Nat) (hs : Held qs s) : Held qs (State.bumpBy s f n) := by
  unfold State.bumpBy
  repeat' (first | intro _ | with_reducible first | assumption | apply State.fput_held)

theorem State.raise_held (s : State) (f : Fld) (hs : Held qs s) : Held qs (State.raise s f) := by
  unfold State.raise
  repeat' (first | intro _ | with_reducible first | assumption | apply State.fput_held)

theorem State.setRegN_held (s : State) (a : Nat) (v : Nat) (hs : Held qs s) : Held qs (State.setRegN s a v) := by
  unfold State.setRegN
  repeat' (first | intro _ | with_reducible first | assumption | apply State.setReg_held)

theorem State.orReg_held (s : State) (a : Nat) (v : Nat) (hs : Held qs s) : Held qs (State.orReg s a v) := by
  unfold State.orReg
  repeat' (first | intro _ | with_reducible first | assumption | apply State.setRegN_held)

theorem State.put64_held (s : State) (lo : Nat) (hi : Nat) (v : Nat) (hs : Held qs s) : Held qs (State.put64 s lo hi v) := by
  unfold State.put64
  repeat' (first | intro _ | with_reducible first | assumption | apply State.setRegN_held)

theorem State.putBit_held (s : State) (f : Fld) (i : Nat) (b : Bool) (hs : Held qs s) : Held qs (State.putBit s f i b) := by
  unfold State.putBit
  repeat' (first | intro _ | with_reducible first | assumption | apply State.fput_held)

theorem State.writeWord_held (s : State) (a : Nat) (v : Nat) (hs : Held qs s) : Held qs (State.writeWord s a v) := by
  unfold State.writeWord
  repeat' (first | intro _ | with_reducible first | assumption | apply State.setReg_held | apply State.setRegN_held | apply held_ite | apply held_foldl | (fail_if_no_progress (with_reducible apply held_mk; with_reducible apply held_fold)) | split | extract_lets | dsimp only | dsimp +zetaDelta only)

theorem State.resetRegs_held (s : State) (p : Nat → Bool) (hs : Held qs s) : Held qs (State.resetRegs s p) := by
  unfold State.resetRegs
  repeat' (first | intro _ | with_reducible first | assumption | apply held_mk | apply held_regs | apply held_latched | apply held_mem | apply held_drop | apply held_dropmem)

theorem State.setByte_held (s : State) (a : Nat) (b : Byte) (hs : Held qs s) : Held qs (State.setByte s a b) := by
  unfold State.setByte
  repeat' (first | intro _ | with_reducible first | assumption | apply held_mk | apply held_regs | apply held_latched | apply held_mem | apply held_drop | apply held_dropmem)

theorem State.store_held (s : State) (a : Nat) (l : List Byte) (hs : Held qs s) : Held qs (State.store s a l) := by
  induction l generalizing s a with
  | nil => exact hs
  | cons x t ih => exact ih _ _ (State.setByte_held _ _ _ hs)

theorem State.setUpset_held (s : State) (a : Nat) (n : Nat) (hs : Held qs s) : Held qs (State.setUpset s a n) := by
  unfold State.setUpset
  repeat' (first | intro _ | with_reducible first | assumption | (fail_if_no_progress (with_reducible apply held_mk; with_reducible apply held_fold)) | dsimp only)

theorem State.heal_held (s : State) (a : Nat) (n : Nat) (hs : Held qs s) : Held qs (State.heal s a n) := by
  unfold State.heal
  repeat' (first | intro _ | with_reducible first | assumption | (fail_if_no_progress (with_reducible apply held_mk; with_reducible apply held_fold)) | dsimp only)

theorem State.write_held (s : State) (a : Nat) (bs : List Byte) (hs : Held qs s) : Held qs (State.write s a bs) := by
  unfold State.write
  repeat' (first | intro _ | with_reducible first | assumption | apply State.store_held | apply State.heal_held)

theorem State.storeN_held (s : State) (a : Nat) (n : Nat) (v : Nat) (hs : Held qs s) : Held qs (State.storeN s a n v) := by
  unfold State.storeN
  repeat' (first | intro _ | with_reducible first | assumption | apply State.write_held)

theorem State.clock_held (s : State) (t : Nat) (hs : Held qs s) : Held qs (State.clock s t) := by
  unfold State.clock
  repeat' (first | intro _ | with_reducible first | assumption | apply held_ite | (fail_if_no_progress (with_reducible apply held_mk; with_reducible apply held_fold)) | split)

theorem State.lcReread_held (s : State) (hs : Held qs s) : Held qs (State.lcReread s) := by
  unfold State.lcReread
  repeat' (first | intro _ | with_reducible first | assumption | apply State.fput_held | apply held_ite | (fail_if_no_progress (with_reducible apply held_mk; with_reducible apply held_fold)) | split)

theorem State.at_held (s : State) (t : Nat) (hs : Held qs s) : Held qs (State.at s t) := by
  unfold State.at
  repeat' (first | intro _ | with_reducible first | assumption | apply State.clock_held | apply State.lcReread_held)

theorem State.drawn_held (s : State) (hs : Held qs s) : Held qs (State.drawn s) := by
  unfold State.drawn
  repeat' (first | intro _ | with_reducible first | assumption | (fail_if_no_progress (with_reducible apply held_mk; with_reducible apply held_fold)))

theorem State.emit_held (s : State) (locus : Nat) (block : Nat) (ecode : Nat) (detail : List Byte) (hs : Held qs s) : Held qs (State.emit s locus block ecode detail) := by
  unfold State.emit
  repeat' (first | intro _ | with_reducible first | assumption | apply State.bump_held | apply held_ite | (with_reducible apply held_pair (by with_reducible assumption)) | (with_reducible apply held_pair2 (by with_reducible assumption)) | (fail_if_no_progress (with_reducible apply held_mk; with_reducible apply held_fold)) | split | extract_lets | dsimp only | dsimp +zetaDelta only)

theorem State.emitRecord_held (s : State) (locus : Nat) (block : Nat) (rest : List Byte) (hs : Held qs s) : Held qs (State.emitRecord s locus block rest) := by
  unfold State.emitRecord
  repeat' (first | intro _ | with_reducible first | assumption | apply State.emit_held)

theorem State.emitValue_held (s : State) (locus : Nat) (record : List Byte) (hs : Held qs s) : Held qs (State.emitValue s locus record) := by
  unfold State.emitValue
  repeat' (first | intro _ | with_reducible first | assumption | (fail_if_no_progress (with_reducible apply held_mk; with_reducible apply held_fold)))

theorem State.setCount_held (s : State) (n : Nat) (hs : Held qs s) : Held qs (State.setCount s n) := by
  unfold State.setCount
  repeat' (first | intro _ | with_reducible first | assumption | (fail_if_no_progress (with_reducible apply held_mk; with_reducible apply held_fold)))

theorem State.loadStamp_held (s : State) (t : Nat) (hs : Held qs s) : Held qs (State.loadStamp s t) := by
  unfold State.loadStamp
  repeat' (first | intro _ | with_reducible first | assumption | (fail_if_no_progress (with_reducible apply held_mk; with_reducible apply held_fold)))

theorem State.openIncident_held (s : State) (stamp : Nat) (hs : Held qs s) : Held qs (State.openIncident s stamp).1 := by
  unfold State.openIncident
  repeat' (first | intro _ | with_reducible first | assumption | (fail_if_no_progress (with_reducible apply held_mk; with_reducible apply held_fold)) | split | extract_lets | dsimp only | dsimp +zetaDelta only)

theorem State.celAccept_held (s : State) (e : CelQueued) (hs : Held qs s) : Held qs (State.celAccept s e).1 := by
  unfold State.celAccept
  repeat' (first | intro _ | with_reducible first | assumption | apply State.bump_held | apply State.openIncident_held | apply held_ite | (with_reducible apply held_pair (by with_reducible assumption)) | (with_reducible apply held_pair2 (by with_reducible assumption)) | (fail_if_no_progress (with_reducible apply held_mk; with_reducible apply held_fold)) | split | extract_lets | dsimp only | dsimp +zetaDelta only)

theorem State.celOffer_held (s : State) (e : CelQueued) (hs : Held qs s) : Held qs (State.celOffer s e).1 := by
  unfold State.celOffer
  repeat' (first | intro _ | with_reducible first | assumption | apply State.celAccept_held | apply held_ite | split | dsimp only)

theorem State.celGroup_held (s : State) (zz : List CelQueued) (hs : Held qs s) : Held qs (State.celGroup s zz) := by
  induction zz generalizing s with
  | nil =>
    unfold State.celGroup
    repeat' (first | intro _ | with_reducible first | assumption | apply State.celAccept_held | apply held_ite | (with_reducible apply held_pair (by with_reducible assumption)) | (with_reducible apply held_pair2 (by with_reducible assumption)) | split | extract_lets | dsimp only | dsimp +zetaDelta only)
  | cons zx zt ih =>
    unfold State.celGroup
    repeat' (first | intro _ | with_reducible first | assumption | apply ih | apply State.celAccept_held | apply held_ite | (with_reducible apply held_pair (by with_reducible assumption)) | (with_reducible apply held_pair2 (by with_reducible assumption)) | split | extract_lets | dsimp only | dsimp +zetaDelta only)

theorem State.hold_held (s : State) (x : LinkItem) (hs : Held qs s) : Held qs (State.hold s x) := by
  unfold State.hold
  repeat' (first | intro _ | with_reducible first | assumption | (fail_if_no_progress (with_reducible apply held_mk; with_reducible apply held_fold)))

theorem State.celSend_held (s : State) (l : List CelQueued) (hs : Held qs s) : Held qs (State.celSend s l) := by
  unfold State.celSend
  repeat' (first | intro _ | with_reducible first | assumption | apply State.celGroup_held | apply State.hold_held | apply held_ite | split)

theorem State.linkLost_held (s : State) (hs : Held qs s) : Held qs (State.linkLost s) := by
  unfold State.linkLost
  repeat' (first | intro _ | with_reducible first | assumption | apply State.fput_held | apply held_ite | (fail_if_no_progress (with_reducible apply held_mk; with_reducible apply held_fold)) | split | dsimp only)

theorem State.celWrite_held (s : State) (type : Nat) (inc : Bool) (payload : List Byte) (hs : Held qs s) : Held qs (State.celWrite s type inc payload) := by
  unfold State.celWrite
  repeat' (first | intro _ | with_reducible first | assumption | apply State.celSend_held)

theorem State.celWrite2_held (s : State) (t1 : Nat) (t2 : Nat) (p1 : List Byte) (p2 : List Byte) (hs : Held qs s) : Held qs (State.celWrite2 s t1 t2 p1 p2) := by
  unfold State.celWrite2
  repeat' (first | intro _ | with_reducible first | assumption | apply State.celSend_held)

theorem State.faultEvent_held (s : State) (r : FaultRec) (hs : Held qs s) : Held qs (State.faultEvent s r) := by
  unfold State.faultEvent
  repeat' (first | intro _ | with_reducible first | assumption | apply State.emit_held)

theorem State.noteUnended_held (s : State) (r : FaultRec) (hs : Held qs s) : Held qs (State.noteUnended s r) := by
  unfold State.noteUnended
  repeat' (first | intro _ | with_reducible first | assumption | apply held_ite | (fail_if_no_progress (with_reducible apply held_mk; with_reducible apply held_fold)) | split | dsimp only)

theorem State.takeFault_held (s : State) (cls : Nat) (sev : Nat) (unit : Nat) (detail : Nat) (rflags : Nat) (hs : Held qs s) : Held qs (State.takeFault s cls sev unit detail rflags) := by
  unfold State.takeFault
  repeat' (first | intro _ | with_reducible first | assumption | apply State.bump_held | apply State.celWrite_held | apply State.faultEvent_held | apply State.noteUnended_held | apply held_ite | (with_reducible apply held_pair (by with_reducible assumption)) | (with_reducible apply held_pair2 (by with_reducible assumption)) | (fail_if_no_progress (with_reducible apply held_mk; with_reducible apply held_fold)) | split | extract_lets | dsimp only | dsimp +zetaDelta only)

theorem State.faultRecovered_held (s : State) (cls : Nat) (unit : Nat) (rtime : Nat) (more : Nat) (hs : Held qs s) : Held qs (State.faultRecovered s cls unit rtime more) := by
  unfold State.faultRecovered
  repeat' (first | intro _ | with_reducible first | assumption | apply State.faultEvent_held | apply held_ite | (fail_if_no_progress (with_reducible apply held_mk; with_reducible apply held_fold)) | split | extract_lets | dsimp only | dsimp +zetaDelta only)

theorem State.recoverNow_held (s : State) (cls : Nat) (unit : Nat) (more : Nat) (hs : Held qs s) : Held qs (State.recoverNow s cls unit more) := by
  unfold State.recoverNow
  repeat' (first | intro _ | with_reducible first | assumption | apply State.faultRecovered_held | (fail_if_no_progress (with_reducible apply held_mk; with_reducible apply held_fold)) | split | dsimp only)

theorem State.recoverWithin_held (s : State) (cls : Nat) (unit : Nat) (bound : Nat) (more : Nat) (hs : Held qs s) : Held qs (State.recoverWithin s cls unit bound more) := by
  unfold State.recoverWithin
  repeat' (first | intro _ | with_reducible first | assumption | apply State.drawn_held | apply State.faultRecovered_held | (fail_if_no_progress (with_reducible apply held_mk; with_reducible apply held_fold)) | extract_lets | dsimp only | dsimp +zetaDelta only)

theorem State.doubleFault_held (s : State) (cls : Nat) (sev : Nat) (unit : Nat) (detail : Nat) (rflags : Nat) (first : Nat) (firstUnit : Nat) (hs : Held qs s) : Held qs (State.doubleFault s cls sev unit detail rflags first firstUnit) := by
  unfold State.doubleFault
  repeat' (first | intro _ | with_reducible first | assumption | apply State.takeFault_held)

theorem State.elementFault_held (s : State) (cls : Nat) (sev : Nat) (unit : Nat) (detail : Nat) (rflags : Nat) (hs : Held qs s) : Held qs (State.elementFault s cls sev unit detail rflags) := by
  unfold State.elementFault
  repeat' (first | intro _ | with_reducible first | assumption | apply State.takeFault_held | apply State.doubleFault_held | (fail_if_no_progress (with_reducible apply held_mk; with_reducible apply held_fold)) | split | dsimp only)

theorem State.checkUnit_held (s : State) (a : Nat) (hs : Held qs s) : Held qs (State.checkUnit s a) := by
  unfold State.checkUnit
  repeat' (first | intro _ | with_reducible first | assumption | apply State.bump_held | apply State.raise_held | apply State.setUpset_held | apply State.takeFault_held | apply held_ite | split | extract_lets | dsimp only | dsimp +zetaDelta only)

theorem State.checkRead_held (s : State) (a : Nat) (n : Nat) (hs : Held qs s) : Held qs (State.checkRead s a n).1 := by
  unfold State.checkRead
  repeat' (first | intro _ | with_reducible first | assumption | apply State.checkUnit_held | apply held_foldl | extract_lets | dsimp only | dsimp +zetaDelta only)

theorem State.setSession_held (s : State) (i : Nat) (x : Session) (hs : Held qs s) : Held qs (State.setSession s i x) := by
  unfold State.setSession
  repeat' (first | intro _ | with_reducible first | assumption | (fail_if_no_progress (with_reducible apply held_mk; with_reducible apply held_fold)))

theorem State.svcFirst_held (s : State) (hs : Held qs s) : Held qs (State.svcFirst s) := by
  unfold State.svcFirst
  repeat' (first | intro _ | with_reducible first | assumption | (fail_if_no_progress (with_reducible apply held_mk; with_reducible apply held_fold)) | split)

theorem State.svcLoad_held (s : State) (hs : Held qs s) : Held qs (State.svcLoad s) := by
  unfold State.svcLoad
  repeat' (first | intro _ | with_reducible first | assumption | apply State.svcFirst_held | (fail_if_no_progress (with_reducible apply held_mk; with_reducible apply held_fold)) | split | dsimp only)

theorem State.svcPump_held (s : State) (hs : Held qs s) : Held qs (State.svcPump s) := by
  unfold State.svcPump
  repeat' (first | intro _ | with_reducible first | assumption | apply State.svcLoad_held | apply held_ite | split)

theorem State.queueTx_held (s : State) (q : Reply) (hs : Held qs s) : Held qs (State.queueTx s q) := by
  unfold State.queueTx
  repeat' (first | intro _ | with_reducible first | assumption | (fail_if_no_progress (with_reducible apply held_mk; with_reducible apply held_fold)))

theorem State.svcSendReply_held (s : State) (q : Reply) (hs : Held qs s) : Held qs (State.svcSendReply s q) := by
  unfold State.svcSendReply
  repeat' (first | intro _ | with_reducible first | assumption | apply State.fput_held | apply State.fputs_held | apply State.svcPump_held | apply State.queueTx_held | apply held_ite | (fail_if_no_progress (with_reducible apply held_mk; with_reducible apply held_fold)) | split | extract_lets | dsimp only | dsimp +zetaDelta only)

theorem State.transmit_held (s : State) (p : Reply) (hs : Held qs s) : Held qs (State.transmit s p) := by
  unfold State.transmit
  repeat' (first | intro _ | with_reducible first | assumption | apply held_ite | (fail_if_no_progress (with_reducible apply held_mk; with_reducible apply held_fold)) | split | extract_lets | dsimp only | dsimp +zetaDelta only)

theorem State.dispatchTx_held (s : State) (q : Reply) (hs : Held qs s) : Held qs (State.dispatchTx s q) := by
  unfold State.dispatchTx
  repeat' (first | intro _ | with_reducible first | assumption | apply State.queueTx_held | apply State.transmit_held | apply held_ite | split)

theorem State.flushTx_held (s : State) (path : Nat) (hs : Held qs s) : Held qs (State.flushTx s path) := by
  unfold State.flushTx
  repeat' (first | intro _ | with_reducible first | assumption | apply State.transmit_held | apply held_ite | apply held_foldl | (fail_if_no_progress (with_reducible apply held_mk; with_reducible apply held_fold)) | split | dsimp only)

theorem State.send_held (s : State) (p : Reply) (hs : Held qs s) : Held qs (State.send s p) := by
  unfold State.send
  repeat' (first | intro _ | with_reducible first | assumption | apply State.hold_held | apply State.svcSendReply_held | apply State.dispatchTx_held | apply held_ite | (fail_if_no_progress (with_reducible apply held_mk; with_reducible apply held_fold)) | split | extract_lets | dsimp only | dsimp +zetaDelta only)

theorem State.settle_held (s : State) (r : Req) (hs : Held qs s) : Held qs (State.settle s r) := by
  unfold State.settle
  repeat' (first | intro _ | with_reducible first | assumption | apply State.setSession_held | apply held_ite | (fail_if_no_progress (with_reducible apply held_mk; with_reducible apply held_fold)) | split)

theorem State.closeSession_held (s : State) (i : Nat) (told : Bool) (hs : Held qs s) : Held qs (State.closeSession s i told) := by
  unfold State.closeSession
  repeat' (first | intro _ | with_reducible first | assumption | apply State.raise_held | apply State.setSession_held | apply held_ite | (fail_if_no_progress (with_reducible apply held_mk; with_reducible apply held_fold)) | split | extract_lets | dsimp only | dsimp +zetaDelta only)

theorem State.answer_held (s : State) (r : Req) (op : Nat) (status : Nat) (body : List Byte) (hs : Held qs s) : Held qs (State.answer s r op status body) := by
  unfold State.answer
  repeat' (first | intro _ | with_reducible first | assumption | apply State.bump_held | apply State.send_held | apply State.settle_held | apply held_ite | split | extract_lets | dsimp only | dsimp +zetaDelta only)

theorem State.endClose_held (s : State) (slot : Nat) (hs : Held qs s) : Held qs (State.endClose s slot) := by
  unfold State.endClose
  repeat' (first | intro _ | with_reducible first | assumption | apply State.closeSession_held | apply State.answer_held | apply held_ite | (fail_if_no_progress (with_reducible apply held_mk; with_reducible apply held_fold)) | split)

theorem State.closeLast_held (s : State) (slot : Nat) (seq : Nat) (hs : Held qs s) : Held qs (State.closeLast s slot seq) := by
  unfold State.closeLast
  repeat' (first | intro _ | with_reducible first | assumption | apply State.closeSession_held | apply State.endClose_held | apply held_ite | split)

theorem State.reply_held (s : State) (r : Req) (op : Nat) (status : Nat) (body : List Byte) (hs : Held qs s) : Held qs (State.reply s r op status body) := by
  unfold State.reply
  repeat' (first | intro _ | with_reducible first | assumption | apply State.answer_held | apply State.closeLast_held)

theorem State.refuse_held (s : State) (r : Req) (op : Nat) (e : Nat) (hs : Held qs s) : Held qs (State.refuse s r op e) := by
  unfold State.refuse
  repeat' (first | intro _ | with_reducible first | assumption | apply State.reply_held)

theorem State.closeWorld_held (s : State) (w : Nat) (hs : Held qs s) : Held qs (State.closeWorld s w) := by
  unfold State.closeWorld
  repeat' (first | intro _ | with_reducible first | assumption | apply State.closeSession_held | apply held_ite | apply held_foldl | split | dsimp only)

theorem State.closeAll_held (s : State) (hs : Held qs s) : Held qs (State.closeAll s) := by
  unfold State.closeAll
  repeat' (first | intro _ | with_reducible first | assumption | apply State.closeSession_held | apply held_foldl | dsimp only)

theorem runCmd_held (s : State) (r : Req) (op : Nat) (lc : Nat → Bool) (chk : State → List (Option Nat)) (eff : Effect) (hs : Held qs s)
    (he : ∀ t, Held qs t → Held qs (eff t).1) : Held qs (runCmd s r op lc chk eff) := by
  have h0 := State.at_held s r.at_ hs
  have h1 := he _ h0
  unfold runCmd
  dsimp only
  split
  · exact h0
  · split
    · exact State.reply_held _ _ _ _ _ h0
    · split
      · rename_i e; rw [e] at h1; exact State.reply_held _ _ _ _ _ h1
      · rename_i e; rw [e] at h1; exact h1

theorem okEff_held (f : State → State) (hf : ∀ t, Held qs t → Held qs (f t)) : ∀ t, Held qs t → Held qs (okEff f t).1 := hf

theorem readEff_held (f : State → List Byte) : ∀ t, Held qs t → Held qs (readEff f t).1 := fun _ h => h

theorem State.setChallenge_held (s : State) (r : Req) (c : Option Challenge) (hs : Held qs s) : Held qs (State.setChallenge s r c) := by
  unfold State.setChallenge
  repeat' (first | intro _ | with_reducible first | assumption | apply State.setSession_held | apply held_ite | (fail_if_no_progress (with_reducible apply held_mk; with_reducible apply held_fold)) | split)

theorem State.checkToken_held (s : State) (r : Req) (op : Nat) (kind : Nat) (digest : Nat) (root : BitVec 384) (t : Token) (hs : Held qs s) : Held qs (State.checkToken s r op kind digest root t).1 := by
  unfold State.checkToken
  repeat' (first | intro _ | with_reducible first | assumption | apply State.setChallenge_held | dsimp only)

theorem State.checkOwnerToken_held (s : State) (r : Req) (op : Nat) (digest : Nat) (t : Token) (k : PubKeys) (hs : Held qs s) : Held qs (State.checkOwnerToken s r op digest t k).1 := by
  unfold State.checkOwnerToken
  repeat' (first | intro _ | with_reducible first | assumption | apply State.checkToken_held | (with_reducible apply held_pair (by with_reducible assumption)) | (with_reducible apply held_pair2 (by with_reducible assumption)) | split | extract_lets | dsimp only | dsimp +zetaDelta only)

theorem done_held (s : State) (hs : Held qs s) : ∃ out, done s = .next out ∧ Held qs out := by
  refine ⟨_, rfl, ?_⟩
  repeat' (first | intro _ | with_reducible first | assumption)

/-! ### Gates -/

theorem State.noticeIn_held (s : State) (w : Nat) (info : Nat) (addr : Nat) (hs : Held qs s) : Held qs (State.noticeIn s w info addr) := by
  unfold State.noticeIn
  repeat' (first | intro _ | with_reducible first | assumption | apply State.fput_held | apply State.bump_held | apply State.setRegN_held | apply State.put64_held | apply State.write_held | apply held_ite | split | extract_lets | dsimp only | dsimp +zetaDelta only)

theorem State.notice_held (s : State) (a : Acc) (reason : Nat) (hs : Held qs s) : Held qs (State.notice s a reason) := by
  unfold State.notice
  repeat' (first | intro _ | with_reducible first | assumption | apply State.noticeIn_held | apply held_ite | (fail_if_no_progress (with_reducible apply held_mk; with_reducible apply held_fold)) | split | extract_lets | dsimp only | dsimp +zetaDelta only)

theorem State.busFault_held (s : State) (a : Nat) (hs : Held qs s) : Held qs (State.busFault s a) := by
  unfold State.busFault
  repeat' (first | intro _ | with_reducible first | assumption | apply State.bump_held | apply State.takeFault_held)

theorem guarded_held (s : State) (w : Wr) (addr : Nat) (eff : State → State) (hs : Held qs s) (heff : ∀ t, Held qs t → Held qs (eff t)) : Held qs (guarded s w addr eff) := by
  unfold guarded
  repeat' (first | intro _ | with_reducible first | assumption | apply heff | apply State.at_held | apply State.notice_held | apply State.busFault_held | apply held_ite | (fail_if_no_progress (with_reducible apply held_mk; with_reducible apply held_fold)) | split | extract_lets | dsimp only | dsimp +zetaDelta only)

theorem State.dmaWord_held (s : State) (a : Nat) (n : Nat) (hs : Held qs s) : Held qs (State.dmaWord s a n).1 := by
  unfold State.dmaWord
  repeat' (first | intro _ | with_reducible first | assumption | apply State.checkRead_held | apply State.notice_held | (fail_if_no_progress (with_reducible apply held_mk; with_reducible apply held_fold)) | split | dsimp only)

theorem State.dmaRead_held (s : State) (a n : Nat) (hs : Held qs s) : Held qs (State.dmaRead s a n).1 :=
  held_foldl_pair _ _ _ hs fun t ht w => State.dmaWord_held t.1 w.1 w.2 ht

theorem State.dmaWrite_held (s : State) (a : Nat) (bs : List Byte) (hs : Held qs s) : Held qs (State.dmaWrite s a bs) := by
  unfold State.dmaWrite
  repeat' (first | intro _ | with_reducible first | assumption | apply State.write_held | apply State.notice_held | apply held_ite | apply held_foldl | (fail_if_no_progress (with_reducible apply held_mk; with_reducible apply held_fold)) | split | dsimp only)

theorem State.popNotice_held (s : State) (w : Nat) (hs : Held qs s) : Held qs (State.popNotice s w) := by
  unfold State.popNotice
  repeat' (first | intro _ | with_reducible first | assumption | apply State.fput_held | apply State.setRegN_held | apply held_ite | apply held_foldl | split | extract_lets | dsimp only | dsimp +zetaDelta only)

theorem execViolationPop_held (w : Wr) (world : Nat) (s : State) (hs : Held qs s) : ∃ out, execViolationPop w world s = .next out ∧ Held qs out := by
  refine ⟨_, rfl, ?_⟩
  repeat' (first | intro _ | with_reducible first | assumption | apply State.bump_held | apply done_held | apply guarded_held | apply State.popNotice_held | apply held_ite | split | dsimp only)

theorem execWindowCommit_held (w : Wr) (i : Nat) (s : State) (hs : Held qs s) : ∃ out, execWindowCommit w i s = .next out ∧ Held qs out := by
  refine ⟨_, rfl, ?_⟩
  repeat' (first | intro _ | with_reducible first | assumption | apply State.setReg_held | apply State.fput_held | apply State.bump_held | apply done_held | apply guarded_held | apply held_ite | split | extract_lets | dsimp only | dsimp +zetaDelta only)

/-! ### Cellar -/

theorem State.celCommit_held (s : State) (hs : Held qs s) : Held qs (State.celCommit s) := by
  unfold State.celCommit
  repeat' (first | intro _ | with_reducible first | assumption | apply State.fput_held | apply State.fputs_held | apply held_ite | (with_reducible apply held_pair (by with_reducible assumption)) | (with_reducible apply held_pair2 (by with_reducible assumption)) | (fail_if_no_progress (with_reducible apply held_mk; with_reducible apply held_fold)) | split | extract_lets | dsimp only | dsimp +zetaDelta only)

theorem execCellarEntryQueue_held (w : Wr) (s : State) (hs : Held qs s) : ∃ out, execCellarEntryQueue w s = .next out ∧ Held qs out := by
  refine ⟨_, rfl, ?_⟩
  repeat' (first | intro _ | with_reducible first | assumption | apply State.fput_held | apply State.fputs_held | apply State.celAccept_held | apply done_held | apply guarded_held | apply held_ite | (with_reducible apply held_pair (by with_reducible assumption)) | (with_reducible apply held_pair2 (by with_reducible assumption)) | split | extract_lets | dsimp only | dsimp +zetaDelta only)

theorem State.celDrain_held (s : State) (zz : Nat) (hs : Held qs s) : Held qs (State.celDrain s zz) := by
  induction zz generalizing s with
  | zero =>
    unfold State.celDrain
    repeat' (first | intro _ | with_reducible first | assumption | apply State.celCommit_held | apply held_ite | split)
  | succ zn ih =>
    unfold State.celDrain
    repeat' (first | intro _ | with_reducible first | assumption | apply ih | apply State.celCommit_held | apply held_ite | split)

theorem State.closeIncident_held (s : State) (hs : Held qs s) : Held qs (State.closeIncident s) := by
  unfold State.closeIncident
  repeat' (first | intro _ | with_reducible first | assumption | apply State.celDrain_held | (fail_if_no_progress (with_reducible apply held_mk; with_reducible apply held_fold)) | split | extract_lets | dsimp only | dsimp +zetaDelta only)

theorem State.incidentTimeout_held (s : State) (hs : Held qs s) : Held qs (State.incidentTimeout s) := by
  unfold State.incidentTimeout
  repeat' (first | intro _ | with_reducible first | assumption | apply State.closeIncident_held | apply held_ite | (fail_if_no_progress (with_reducible apply held_mk; with_reducible apply held_fold)) | split)

theorem execIncidentTimeout_held (at_ : Nat) (s : State) (hs : Held qs s) : ∃ out, execIncidentTimeout at_ s = .next out ∧ Held qs out := by
  refine ⟨_, rfl, ?_⟩
  repeat' (first | intro _ | with_reducible first | assumption | apply State.at_held | apply done_held | apply State.incidentTimeout_held)

theorem execIncClose_held (w : Wr) (s : State) (hs : Held qs s) : ∃ out, execIncClose w s = .next out ∧ Held qs out := by
  refine ⟨_, rfl, ?_⟩
  repeat' (first | intro _ | with_reducible first | assumption | apply State.setRegN_held | apply done_held | apply guarded_held | apply State.closeIncident_held | apply held_ite | apply held_foldl | split | extract_lets | dsimp only | dsimp +zetaDelta only)

theorem execCellarCloseIncident_held (r : Req) (s : State) (hs : Held qs s) : ∃ out, execCellarCloseIncident r s = .next out ∧ Held qs out := by
  refine ⟨_, rfl, ?_⟩
  repeat' (first | intro _ | with_reducible first | assumption | apply runCmd_held | apply okEff_held | apply done_held | apply State.closeIncident_held | dsimp only)

theorem State.mirrorSeal_held (s : State) (n : Nat) (bytes : List Byte) (hs : Held qs s) : Held qs (State.mirrorSeal s n bytes) := by
  unfold State.mirrorSeal
  repeat' (first | intro _ | with_reducible first | assumption | (fail_if_no_progress (with_reducible apply held_mk; with_reducible apply held_fold)) | dsimp only)

theorem State.sendSeal_held (s : State) (n : Nat) (bytes : List Byte) (hs : Held qs s) : Held qs (State.sendSeal s n bytes) := by
  unfold State.sendSeal
  repeat' (first | intro _ | with_reducible first | assumption | apply State.hold_held | apply State.mirrorSeal_held | apply held_ite | split)

theorem State.cellarStart_held (s0 : State) (hs0 : Held qs s0) : Held qs (State.cellarStart s0) := by
  unfold State.cellarStart
  repeat' (first | intro _ | with_reducible first | assumption | apply State.fput_held | apply State.bumpBy_held | apply State.drawn_held | apply held_ite | (with_reducible apply held_pair (by with_reducible assumption)) | (with_reducible apply held_pair2 (by with_reducible assumption)) | (fail_if_no_progress (with_reducible apply held_mk; with_reducible apply held_fold)) | split | extract_lets | dsimp only | dsimp +zetaDelta only)

theorem execCellarDieReset_held (at_ : Nat) (s : State) (hs : Held qs s) : ∃ out, execCellarDieReset at_ s = .next out ∧ Held qs out := by
  refine ⟨_, rfl, ?_⟩
  repeat' (first | intro _ | with_reducible first | assumption | apply State.resetRegs_held | apply State.at_held | apply State.linkLost_held | apply done_held | apply State.cellarStart_held | (fail_if_no_progress (with_reducible apply held_mk; with_reducible apply held_fold)) | extract_lets | dsimp only | dsimp +zetaDelta only)

theorem execVresThreshold_held (at_ : Nat) (mv : Nat) (s : State) (hs : Held qs s) : ∃ out, execVresThreshold at_ mv s = .next out ∧ Held qs out := by
  refine ⟨_, rfl, ?_⟩
  repeat' (first | intro _ | with_reducible first | assumption | apply State.fput_held | apply State.at_held | apply done_held | (fail_if_no_progress (with_reducible apply held_mk; with_reducible apply held_fold)) | extract_lets | dsimp only | dsimp +zetaDelta only)

theorem State.abandonRoots_held (s : State) (hs : Held qs s) : Held qs (State.abandonRoots s) := by
  unfold State.abandonRoots
  repeat' (first | intro _ | with_reducible first | assumption | apply State.fput_held | apply State.reply_held | apply held_ite | (fail_if_no_progress (with_reducible apply held_mk; with_reducible apply held_fold)) | split | extract_lets | dsimp only | dsimp +zetaDelta only)

theorem State.clearBre_held (s : State) (hs : Held qs s) : Held qs (State.clearBre s) := by
  unfold State.clearBre
  repeat' (first | intro _ | with_reducible first | assumption | apply State.fput_held | apply State.raise_held | apply State.abandonRoots_held | (fail_if_no_progress (with_reducible apply held_mk; with_reducible apply held_fold)))

theorem State.loseBackup_held (s1 : State) (hs1 : Held qs s1) : Held qs (State.loseBackup s1) := by
  unfold State.loseBackup
  repeat' (first | intro _ | with_reducible first | assumption | apply State.fput_held | apply State.resetRegs_held | apply State.clearBre_held | (fail_if_no_progress (with_reducible apply held_mk; with_reducible apply held_fold)) | extract_lets | dsimp only | dsimp +zetaDelta only)

theorem execCellarReadSummary_held (r : Req) (s : State) (hs : Held qs s) : ∃ out, execCellarReadSummary r s = .next out ∧ Held qs out := by
  refine ⟨_, rfl, ?_⟩
  repeat' (first | intro _ | with_reducible first | assumption | apply runCmd_held | apply readEff_held | apply done_held | dsimp only)

theorem execCellarReadEntries_held (r : Req) (first : Nat) (count : Nat) (s : State) (hs : Held qs s) : ∃ out, execCellarReadEntries r first count s = .next out ∧ Held qs out := by
  refine ⟨_, rfl, ?_⟩
  repeat' (first | intro _ | with_reducible first | assumption | apply runCmd_held | apply readEff_held | apply done_held | (fail_if_no_progress (with_reducible apply held_mk; with_reducible apply held_fold)) | split | dsimp only)

theorem execCellarReadSeals_held (r : Req) (first : Nat) (last : Nat) (s : State) (hs : Held qs s) : ∃ out, execCellarReadSeals r first last s = .next out ∧ Held qs out := by
  refine ⟨_, rfl, ?_⟩
  repeat' (first | intro _ | with_reducible first | assumption | apply runCmd_held | apply readEff_held | apply done_held | dsimp only)

/-! ### Keys -/

theorem State.setSlot_held (s : State) (n : Nat) (k : KeySlot) (hs : Held qs s) : Held qs (State.setSlot s n k) := by
  unfold State.setSlot
  repeat' (first | intro _ | with_reducible first | assumption | (fail_if_no_progress (with_reducible apply held_mk; with_reducible apply held_fold)))

theorem State.setCipher_held (s : State) (b : Nat) (c : CipherBlk) (hs : Held qs s) : Held qs (State.setCipher s b c) := by
  unfold State.setCipher
  repeat' (first | intro _ | with_reducible first | assumption | (fail_if_no_progress (with_reducible apply held_mk; with_reducible apply held_fold)))

theorem State.dropKey_held (s : State) (b : Nat) (hs : Held qs s) : Held qs (State.dropKey s b) := by
  unfold State.dropKey
  repeat' (first | intro _ | with_reducible first | assumption | apply State.fput_held | apply State.orReg_held | apply State.setCipher_held | apply held_ite | (fail_if_no_progress (with_reducible apply held_mk; with_reducible apply held_fold)) | split | extract_lets | dsimp only | dsimp +zetaDelta only)

theorem State.noteEvidence_held (s : State) (hs : Held qs s) : Held qs (State.noteEvidence s) := by
  unfold State.noteEvidence
  repeat' (first | intro _ | with_reducible first | assumption | (fail_if_no_progress (with_reducible apply held_mk; with_reducible apply held_fold)))

theorem State.settleKeys_held (new : State) (old : State) (hnew : Held qs new) (hold : Held qs old) : Held qs (State.settleKeys new old) := by
  unfold State.settleKeys
  repeat' (first | intro _ | with_reducible first | assumption | apply State.raise_held | apply State.dropKey_held | apply State.noteEvidence_held | apply held_ite | apply held_foldl | split | extract_lets | dsimp only | dsimp +zetaDelta only)

theorem State.emptySlotAt_held (s : State) (n : Nat) (hs : Held qs s) : Held qs (State.emptySlotAt s n) := by
  unfold State.emptySlotAt
  repeat' (first | intro _ | with_reducible first | assumption | apply State.setSlot_held)

theorem State.zeroiseWorking_held (s : State) (hs : Held qs s) : Held qs (State.zeroiseWorking s) := by
  unfold State.zeroiseWorking
  repeat' (first | intro _ | with_reducible first | assumption | apply State.dropKey_held | apply State.settleKeys_held | apply held_ite | apply held_foldl | (fail_if_no_progress (with_reducible apply held_mk; with_reducible apply held_fold)) | split | extract_lets | dsimp only | dsimp +zetaDelta only)

theorem State.raiseEpoch_held (s : State) (n : Nat) (hs : Held qs s) : Held qs (State.raiseEpoch s n) := by
  unfold State.raiseEpoch
  repeat' (first | intro _ | with_reducible first | assumption | apply State.setSlot_held | apply held_ite | (fail_if_no_progress (with_reducible apply held_mk; with_reducible apply held_fold)) | split)

theorem State.putWords_held (s : State) (base : Nat) (n : Nat) (bs : List Byte) (hs : Held qs s) : Held qs (State.putWords s base n bs) := by
  unfold State.putWords
  repeat' (first | intro _ | with_reducible first | assumption | apply State.setRegN_held | apply held_foldl | dsimp only)

theorem State.placeBlob_held (s : State) (n : Nat) (hs : Held qs s) : Held qs (State.placeBlob s n) := by
  unfold State.placeBlob
  repeat' (first | intro _ | with_reducible first | assumption | apply State.putWords_held)

theorem State.loadSlot_held (s : State) (n : Nat) (world : Nat) (parent : Nat) (usage : Nat) (alg : Nat) (len : Nat) (key : BitVec 512) (hs : Held qs s) : Held qs (State.loadSlot s n world parent usage alg len key) := by
  unfold State.loadSlot
  repeat' (first | intro _ | with_reducible first | assumption | apply State.setSlot_held)

theorem State.setStarter_held (s : State) (n : Nat) (x : Starter) (hs : Held qs s) : Held qs (State.setStarter s n x) := by
  unfold State.setStarter
  repeat' (first | intro _ | with_reducible first | assumption | (fail_if_no_progress (with_reducible apply held_mk; with_reducible apply held_fold)))

theorem State.asked_held (s : State) (n : Nat) (hs : Held qs s) : Held qs (State.asked s n) := by
  unfold State.asked
  repeat' (first | intro _ | with_reducible first | assumption | apply State.drawn_held | apply State.setStarter_held | (fail_if_no_progress (with_reducible apply held_mk; with_reducible apply held_fold)))

theorem State.predicted_held (s : State) (hs : Held qs s) : Held qs (State.predicted s) := by
  unfold State.predicted
  repeat' (first | intro _ | with_reducible first | assumption | apply State.drawn_held | apply State.setStarter_held)

theorem State.serve_held (s : State) (n : Nat) (hs : Held qs s) : Held qs (State.serve s n).1 := by
  unfold State.serve
  repeat' (first | intro _ | with_reducible first | assumption | apply State.fput_held | apply State.asked_held | apply held_ite | split | dsimp only)

theorem ksStarted_held (t : State) (op : Nat) (st : Nat) (ht : Held qs t) : Held qs (ksStarted t op st) := by
  unfold ksStarted
  repeat' (first | intro _ | with_reducible first | assumption | apply State.fput_held | (fail_if_no_progress (with_reducible apply held_mk; with_reducible apply held_fold)) | extract_lets | dsimp only | dsimp +zetaDelta only)

theorem ksStart_held (w : Wr) (op : Nat) (s : State) (status : State → Nat) (eff : State → State) (hs : Held qs s) (heff : ∀ t, Held qs t → Held qs (eff t)) : Held qs (ksStart w op s status eff) := by
  unfold ksStart
  repeat' (first | intro _ | with_reducible first | assumption | apply heff | apply guarded_held | apply State.settleKeys_held | apply ksStarted_held | apply held_ite | split | extract_lets | dsimp only | dsimp +zetaDelta only)

theorem State.wipeStaging_held (s : State) (world : Nat) (hs : Held qs s) : Held qs (State.wipeStaging s world) := by
  unfold State.wipeStaging
  repeat' (first | intro _ | with_reducible first | assumption | (fail_if_no_progress (with_reducible apply held_mk; with_reducible apply held_fold)))

theorem execKeyPortWrite_held (w : Wr) (offset : Nat) (s : State) (hs : Held qs s) : ∃ out, execKeyPortWrite w offset s = .next out ∧ Held qs out := by
  refine ⟨_, rfl, ?_⟩
  repeat' (first | intro _ | with_reducible first | assumption | apply done_held | apply guarded_held | apply held_ite | (with_reducible apply held_pair (by with_reducible assumption)) | (with_reducible apply held_pair2 (by with_reducible assumption)) | (fail_if_no_progress (with_reducible apply held_mk; with_reducible apply held_fold)) | split | extract_lets | dsimp only | dsimp +zetaDelta only)

theorem execStagingTimeout_held (at_ : Nat) (world : Nat) (s : State) (hs : Held qs s) : ∃ out, execStagingTimeout at_ world s = .next out ∧ Held qs out := by
  refine ⟨_, rfl, ?_⟩
  repeat' (first | intro _ | with_reducible first | assumption | apply State.at_held | apply done_held | apply State.wipeStaging_held | (with_reducible apply held_pair (by with_reducible assumption)) | (with_reducible apply held_pair2 (by with_reducible assumption)) | split | extract_lets | dsimp only | dsimp +zetaDelta only)

theorem execKsWrite_held (w : Wr) (s : State) (hs : Held qs s) : ∃ out, execKsWrite w s = .next out ∧ Held qs out := by
  refine ⟨_, rfl, ?_⟩
  repeat' (first | intro _ | with_reducible first | assumption | apply done_held | apply State.placeBlob_held | apply State.loadSlot_held | apply ksStart_held | apply State.wipeStaging_held | (with_reducible apply held_pair (by with_reducible assumption)) | (with_reducible apply held_pair2 (by with_reducible assumption)) | (fail_if_no_progress (with_reducible apply held_mk; with_reducible apply held_fold)) | split | extract_lets | dsimp only | dsimp +zetaDelta only)

theorem State.loadKey_held (s : State) (b : Nat) (slot : Nat) (hs : Held qs s) : Held qs (State.loadKey s b slot) := by
  unfold State.loadKey
  repeat' (first | intro _ | with_reducible first | assumption | apply State.fput_held | apply State.setCipher_held | (fail_if_no_progress (with_reducible apply held_mk; with_reducible apply held_fold)) | extract_lets | dsimp only | dsimp +zetaDelta only)

theorem execKsLoad_held (w : Wr) (s : State) (hs : Held qs s) : ∃ out, execKsLoad w s = .next out ∧ Held qs out := by
  refine ⟨_, rfl, ?_⟩
  repeat' (first | intro _ | with_reducible first | assumption | apply done_held | apply ksStart_held | apply State.loadKey_held | dsimp only)

theorem State.importBlob_held (t : State) (world : Nat) (ht : Held qs t) : Held qs (State.importBlob t world) := by
  unfold State.importBlob
  repeat' (first | intro _ | with_reducible first | assumption | apply State.setSlot_held | (fail_if_no_progress (with_reducible apply held_mk; with_reducible apply held_fold)) | split | extract_lets | dsimp only | dsimp +zetaDelta only)

theorem execKsImport_held (w : Wr) (s : State) (hs : Held qs s) : ∃ out, execKsImport w s = .next out ∧ Held qs out := by
  refine ⟨_, rfl, ?_⟩
  repeat' (first | intro _ | with_reducible first | assumption | apply done_held | apply ksStart_held | apply State.importBlob_held | dsimp only)

theorem execKsEpoch_held (w : Wr) (s : State) (hs : Held qs s) : ∃ out, execKsEpoch w s = .next out ∧ Held qs out := by
  refine ⟨_, rfl, ?_⟩
  repeat' (first | intro _ | with_reducible first | assumption | apply done_held | apply State.raiseEpoch_held | apply ksStart_held | apply held_ite | split | extract_lets | dsimp only | dsimp +zetaDelta only)

theorem execKsClear_held (w : Wr) (s : State) (hs : Held qs s) : ∃ out, execKsClear w s = .next out ∧ Held qs out := by
  refine ⟨_, rfl, ?_⟩
  repeat' (first | intro _ | with_reducible first | assumption | apply done_held | apply State.emptySlotAt_held | apply ksStart_held | dsimp only)

theorem execKsGen_held (w : Wr) (s : State) (hs : Held qs s) : ∃ out, execKsGen w s = .next out ∧ Held qs out := by
  refine ⟨_, rfl, ?_⟩
  repeat' (first | intro _ | with_reducible first | assumption | apply done_held | apply State.placeBlob_held | apply State.loadSlot_held | apply State.predicted_held | apply ksStart_held | apply held_ite | split | extract_lets | dsimp only | dsimp +zetaDelta only)

theorem execKsExport_held (w : Wr) (s : State) (hs : Held qs s) : ∃ out, execKsExport w s = .next out ∧ Held qs out := by
  refine ⟨_, rfl, ?_⟩
  repeat' (first | intro _ | with_reducible first | assumption | apply done_held | apply State.placeBlob_held | apply ksStart_held | apply held_ite | split | extract_lets | dsimp only | dsimp +zetaDelta only)

theorem State.clearBlock_held (s : State) (b : Nat) (hs : Held qs s) : Held qs (State.clearBlock s b) := by
  unfold State.clearBlock
  repeat' (first | intro _ | with_reducible first | assumption | apply State.fput_held | apply State.setCipher_held | (fail_if_no_progress (with_reducible apply held_mk; with_reducible apply held_fold)))

theorem execCipherClaim_held (w : Wr) (blk : Nat) (s : State) (hs : Held qs s) : ∃ out, execCipherClaim w blk s = .next out ∧ Held qs out := by
  refine ⟨_, rfl, ?_⟩
  repeat' (first | intro _ | with_reducible first | assumption | apply State.fput_held | apply done_held | apply guarded_held | apply State.clearBlock_held | apply held_ite | split | extract_lets | dsimp only | dsimp +zetaDelta only)

theorem execCipherClaimLapse_held (at_ : Nat) (blk : Nat) (s : State) (hs : Held qs s) : ∃ out, execCipherClaimLapse at_ blk s = .next out ∧ Held qs out := by
  refine ⟨_, rfl, ?_⟩
  repeat' (first | intro _ | with_reducible first | assumption | apply State.fput_held | apply State.at_held | apply done_held | apply State.clearBlock_held | apply held_ite | apply held_foldl | (with_reducible apply held_pair (by with_reducible assumption)) | (with_reducible apply held_pair2 (by with_reducible assumption)) | (fail_if_no_progress (with_reducible apply held_mk; with_reducible apply held_fold)) | split | extract_lets | dsimp only | dsimp +zetaDelta only)

theorem execCipherOperation_held (w : Wr) (blk : Nat) (s : State) (hs : Held qs s) : ∃ out, execCipherOperation w blk s = .next out ∧ Held qs out := by
  refine ⟨_, rfl, ?_⟩
  repeat' (first | intro _ | with_reducible first | assumption | apply State.fput_held | apply State.drawn_held | apply done_held | apply guarded_held | apply State.dmaRead_held | apply State.setCipher_held | apply held_ite | (with_reducible apply held_pair (by with_reducible assumption)) | (with_reducible apply held_pair2 (by with_reducible assumption)) | (fail_if_no_progress (with_reducible apply held_mk; with_reducible apply held_fold)) | split | extract_lets | dsimp only | dsimp +zetaDelta only)

theorem execCipherOperationDone_held (at_ : Nat) (blk : Nat) (s : State) (hs : Held qs s) : ∃ out, execCipherOperationDone at_ blk s = .next out ∧ Held qs out := by
  refine ⟨_, rfl, ?_⟩
  repeat' (first | intro _ | with_reducible first | assumption | apply State.fput_held | apply State.setRegN_held | apply State.orReg_held | apply State.at_held | apply done_held | apply State.dmaWrite_held | apply State.setCipher_held | (fail_if_no_progress (with_reducible apply held_mk; with_reducible apply held_fold)) | split | extract_lets | dsimp only | dsimp +zetaDelta only)

theorem State.checkSeed_held (s : State) (hs : Held qs s) : Held qs (State.checkSeed s) := by
  unfold State.checkSeed
  repeat' (first | intro _ | with_reducible first | assumption | apply State.fput_held | apply State.orReg_held | apply held_ite | split)

theorem State.excludeSource_held (s : State) (src : Nat) (count : Nat) (hs : Held qs s) : Held qs (State.excludeSource s src count) := by
  unfold State.excludeSource
  repeat' (first | intro _ | with_reducible first | assumption | apply State.orReg_held | apply State.putBit_held | apply State.takeFault_held | apply State.checkSeed_held)

theorem State.sourceFail_held (s : State) (src : Nat) (apt : Bool) (hs : Held qs s) : Held qs (State.sourceFail s src apt) := by
  unfold State.sourceFail
  repeat' (first | intro _ | with_reducible first | assumption | apply State.bump_held | apply State.orReg_held | apply State.putBit_held | apply State.excludeSource_held | apply held_ite | (fail_if_no_progress (with_reducible apply held_mk; with_reducible apply held_fold)) | split | extract_lets | dsimp only | dsimp +zetaDelta only)

theorem execEntropySourceFail_held (at_ : Nat) (src : Nat) (apt : Bool) (s : State) (hs : Held qs s) : ∃ out, execEntropySourceFail at_ src apt s = .next out ∧ Held qs out := by
  refine ⟨_, rfl, ?_⟩
  repeat' (first | intro _ | with_reducible first | assumption | apply State.at_held | apply done_held | apply State.sourceFail_held | apply held_ite | apply held_foldl | (with_reducible apply held_pair (by with_reducible assumption)) | (with_reducible apply held_pair2 (by with_reducible assumption)) | (fail_if_no_progress (with_reducible apply held_mk; with_reducible apply held_fold)) | split | extract_lets | dsimp only | dsimp +zetaDelta only)

theorem execStarterReseed_held (at_ : Nat) (n : Nat) (s : State) (hs : Held qs s) : ∃ out, execStarterReseed at_ n s = .next out ∧ Held qs out := by
  refine ⟨_, rfl, ?_⟩
  repeat' (first | intro _ | with_reducible first | assumption | apply State.fput_held | apply State.at_held | apply State.drawn_held | apply done_held | apply State.setStarter_held | apply held_ite | apply held_foldl | (with_reducible apply held_pair (by with_reducible assumption)) | (with_reducible apply held_pair2 (by with_reducible assumption)) | (fail_if_no_progress (with_reducible apply held_mk; with_reducible apply held_fold)) | split | extract_lets | dsimp only | dsimp +zetaDelta only)

theorem execRngRead_held (at_ : Nat) (cls : Nat) (eng : Nat) (reg : RngReg) (noise : Nat) (s : State) (hs : Held qs s) : ∃ out, execRngRead at_ cls eng reg noise s = .next out ∧ Held qs out := by
  refine ⟨_, rfl, ?_⟩
  repeat' (first | intro _ | with_reducible first | assumption | apply State.at_held | apply done_held | apply State.notice_held | apply State.busFault_held | apply State.serve_held | apply held_ite | (with_reducible apply held_pair (by with_reducible assumption)) | (with_reducible apply held_pair2 (by with_reducible assumption)) | (fail_if_no_progress (with_reducible apply held_mk; with_reducible apply held_fold)) | split | extract_lets | dsimp only | dsimp +zetaDelta only)

theorem execKeysChallenge_held (r : Req) (s : State) (hs : Held qs s) : ∃ out, execKeysChallenge r s = .next out ∧ Held qs out := by
  refine ⟨_, rfl, ?_⟩
  repeat' (first | intro _ | with_reducible first | assumption | apply runCmd_held | apply State.setChallenge_held | apply done_held | apply State.serve_held | (with_reducible apply held_pair (by with_reducible assumption)) | (with_reducible apply held_pair2 (by with_reducible assumption)) | (fail_if_no_progress (with_reducible apply held_mk; with_reducible apply held_fold)) | split | dsimp only)

theorem execKeysGenerate_held (r : Req) (slot : Nat) (s : State) (hs : Held qs s) : ∃ out, execKeysGenerate r slot s = .next out ∧ Held qs out := by
  refine ⟨_, rfl, ?_⟩
  repeat' (first | intro _ | with_reducible first | assumption | apply runCmd_held | apply done_held | apply State.settleKeys_held | apply State.placeBlob_held | apply State.loadSlot_held | apply State.predicted_held | apply held_ite | (fail_if_no_progress (with_reducible apply held_mk; with_reducible apply held_fold)) | split | extract_lets | dsimp only | dsimp +zetaDelta only)

theorem execKeysReadPublic_held (r : Req) (slot : Nat) (s : State) (hs : Held qs s) : ∃ out, execKeysReadPublic r slot s = .next out ∧ Held qs out := by
  refine ⟨_, rfl, ?_⟩
  repeat' (first | intro _ | with_reducible first | assumption | apply runCmd_held | apply readEff_held | apply done_held | apply held_ite | split | extract_lets | dsimp only | dsimp +zetaDelta only)

theorem execKeysInstallCert_held (r : Req) (cert : Cert) (s : State) (hs : Held qs s) : ∃ out, execKeysInstallCert r cert s = .next out ∧ Held qs out := by
  refine ⟨_, rfl, ?_⟩
  repeat' (first | intro _ | with_reducible first | assumption | apply runCmd_held | apply okEff_held | apply done_held | (fail_if_no_progress (with_reducible apply held_mk; with_reducible apply held_fold)) | split | dsimp only)

theorem State.newBre_held (s : State) (hs : Held qs s) : Held qs (State.newBre s) := by
  unfold State.newBre
  repeat' (first | intro _ | with_reducible first | assumption | apply State.fput_held | apply State.raise_held | apply State.predicted_held | (fail_if_no_progress (with_reducible apply held_mk; with_reducible apply held_fold)))

theorem State.genRoot_held (s : State) (n : Nat) (world : Nat) (hs : Held qs s) : Held qs (State.genRoot s n world) := by
  unfold State.genRoot
  repeat' (first | intro _ | with_reducible first | assumption | apply State.placeBlob_held | apply State.loadSlot_held | apply State.predicted_held | apply held_ite | split)

theorem State.endRoots_held (s : State) (hs : Held qs s) : Held qs (State.endRoots s) := by
  unfold State.endRoots
  repeat' (first | intro _ | with_reducible first | assumption | apply State.fput_held | apply State.reply_held | apply held_ite | (fail_if_no_progress (with_reducible apply held_mk; with_reducible apply held_fold)) | split | extract_lets | dsimp only | dsimp +zetaDelta only)

theorem State.rootStep_held (s : State) (hs : Held qs s) : Held qs (State.rootStep s) := by
  unfold State.rootStep
  repeat' (first | intro _ | with_reducible first | assumption | apply State.settleKeys_held | apply State.raiseEpoch_held | apply State.newBre_held | apply State.genRoot_held | apply State.endRoots_held | apply held_ite | apply held_foldl | (fail_if_no_progress (with_reducible apply held_mk; with_reducible apply held_fold)) | split | extract_lets | dsimp only | dsimp +zetaDelta only)

theorem State.reestablish_held (s : State) (hs : Held qs s) : Held qs (State.reestablish s) := by
  unfold State.reestablish
  repeat' (first | intro _ | with_reducible first | assumption | apply State.rootStep_held | (fail_if_no_progress (with_reducible apply held_mk; with_reducible apply held_fold)))

theorem execKeysReestablish_held (r : Req) (tok : Token) (keys : PubKeys) (s : State) (hs : Held qs s) : ∃ out, execKeysReestablish r tok keys s = .next out ∧ Held qs out := by
  refine ⟨_, rfl, ?_⟩
  repeat' (first | intro _ | with_reducible first | assumption | apply State.fput_held | apply runCmd_held | apply State.checkOwnerToken_held | apply done_held | apply held_ite | (with_reducible apply held_pair (by with_reducible assumption)) | (with_reducible apply held_pair2 (by with_reducible assumption)) | (fail_if_no_progress (with_reducible apply held_mk; with_reducible apply held_fold)) | split | extract_lets | dsimp only | dsimp +zetaDelta only)

theorem execKeysRaiseEpoch_held (r : Req) (slot : Nat) (s : State) (hs : Held qs s) : ∃ out, execKeysRaiseEpoch r slot s = .next out ∧ Held qs out := by
  refine ⟨_, rfl, ?_⟩
  repeat' (first | intro _ | with_reducible first | assumption | apply runCmd_held | apply done_held | apply State.settleKeys_held | apply State.raiseEpoch_held | apply held_ite | (fail_if_no_progress (with_reducible apply held_mk; with_reducible apply held_fold)) | split | dsimp only)

theorem State.keyStep_held (t : State) (ht : Held qs t) : Held qs (State.keyStep t) := by
  unfold State.keyStep
  repeat' (first | intro _ | with_reducible first | assumption | apply State.fput_held | apply State.raise_held | apply State.reply_held | apply State.settleKeys_held | apply State.raiseEpoch_held | apply State.rootStep_held | apply held_ite | (fail_if_no_progress (with_reducible apply held_mk; with_reducible apply held_fold)) | split | extract_lets | dsimp only | dsimp +zetaDelta only)

theorem execKsOperationDone_held (at_ : Nat) (s : State) (hs : Held qs s) : ∃ out, execKsOperationDone at_ s = .next out ∧ Held qs out := by
  refine ⟨_, rfl, ?_⟩
  repeat' (first | intro _ | with_reducible first | assumption | apply State.at_held | apply done_held | apply State.keyStep_held)

theorem execKeysReadState_held (r : Req) (s : State) (hs : Held qs s) : ∃ out, execKeysReadState r s = .next out ∧ Held qs out := by
  refine ⟨_, rfl, ?_⟩
  repeat' (first | intro _ | with_reducible first | assumption | apply runCmd_held | apply readEff_held | apply done_held | dsimp only)

/-! ### Modes -/

theorem State.dropPending_held (s : State) (hs : Held qs s) : Held qs (State.dropPending s) := by
  unfold State.dropPending
  repeat' (first | intro _ | with_reducible first | assumption | apply State.fput_held | apply State.raise_held | apply State.reply_held | (fail_if_no_progress (with_reducible apply held_mk; with_reducible apply held_fold)) | split | extract_lets | dsimp only | dsimp +zetaDelta only)

theorem State.stopTests_held (s : State) (why : Nat) (hs : Held qs s) : Held qs (State.stopTests s why) := by
  unfold State.stopTests
  repeat' (first | intro _ | with_reducible first | assumption | apply held_ite | (fail_if_no_progress (with_reducible apply held_mk; with_reducible apply held_fold)) | split)

theorem State.withdrawPilot_held (s : State) (hs : Held qs s) : Held qs (State.withdrawPilot s) := by
  unfold State.withdrawPilot
  repeat' (first | intro _ | with_reducible first | assumption | apply State.fputs_held | apply State.raise_held | apply held_ite | split)

theorem State.closeService_held (s : State) (hs : Held qs s) : Held qs (State.closeService s) := by
  unfold State.closeService
  repeat' (first | intro _ | with_reducible first | assumption | apply State.closeSession_held | apply held_ite | apply held_foldl | split | dsimp only)

theorem State.leaveMode_held (s : State) (hs : Held qs s) : Held qs (State.leaveMode s) := by
  unfold State.leaveMode
  repeat' (first | intro _ | with_reducible first | assumption | apply State.withdrawPilot_held | apply State.closeService_held | apply held_ite | split)

theorem State.dropCalibration_held (s : State) (hs : Held qs s) : Held qs (State.dropCalibration s) := by
  unfold State.dropCalibration
  repeat' (first | intro _ | with_reducible first | assumption | apply State.reply_held | apply held_ite | (fail_if_no_progress (with_reducible apply held_mk; with_reducible apply held_fold)) | split)

theorem State.pushSnap_held (s : State) (x : Snap) (hs : Held qs s) : Held qs (State.pushSnap s x) := by
  unfold State.pushSnap
  repeat' (first | intro _ | with_reducible first | assumption | (fail_if_no_progress (with_reducible apply held_mk; with_reducible apply held_fold)))

theorem State.noteMode_held (s : State) (m : Nat) (hs : Held qs s) : Held qs (State.noteMode s m) := by
  unfold State.noteMode
  repeat' (first | intro _ | with_reducible first | assumption | apply State.pushSnap_held | apply held_ite | (fail_if_no_progress (with_reducible apply held_mk; with_reducible apply held_fold)) | split | extract_lets | dsimp only | dsimp +zetaDelta only)

theorem State.setMode_held (s : State) (m : Nat) (cause : Nat) (world : Nat) (detail : Nat) (hs : Held qs s) : Held qs (State.setMode s m cause world detail) := by
  unfold State.setMode
  repeat' (first | intro _ | with_reducible first | assumption | apply State.fput_held | apply State.raise_held | apply State.put64_held | apply State.stopTests_held | apply State.leaveMode_held | apply State.dropCalibration_held | apply State.noteMode_held | apply held_ite | split | extract_lets | dsimp only | dsimp +zetaDelta only)

theorem State.quarantineRules_held (s : State) (hs : Held qs s) : Held qs (State.quarantineRules s) := by
  unfold State.quarantineRules
  repeat' (first | intro _ | with_reducible first | assumption | apply State.setReg_held | apply State.fput_held | apply held_foldl | (fail_if_no_progress (with_reducible apply held_mk; with_reducible apply held_fold)) | extract_lets | dsimp only | dsimp +zetaDelta only)

theorem State.enterQuarantine_held (s : State) (cause : Nat) (detail : Nat) (hs : Held qs s) : Held qs (State.enterQuarantine s cause detail) := by
  unfold State.enterQuarantine
  repeat' (first | intro _ | with_reducible first | assumption | apply State.raise_held | apply State.dropPending_held | apply State.setMode_held | apply State.quarantineRules_held | apply held_ite | split | extract_lets | dsimp only | dsimp +zetaDelta only)

theorem State.setLatch_held (s : State) (b : Bool) (hs : Held qs s) : Held qs (State.setLatch s b) := by
  unfold State.setLatch
  repeat' (first | intro _ | with_reducible first | assumption | apply State.fput_held | (fail_if_no_progress (with_reducible apply held_mk; with_reducible apply held_fold)))

theorem State.abandonTransition_held (s : State) (index : Nat) (hs : Held qs s) : Held qs (State.abandonTransition s index) := by
  unfold State.abandonTransition
  repeat' (first | intro _ | with_reducible first | assumption | apply State.hold_held | apply State.celWrite_held | apply State.reply_held | apply held_ite | (fail_if_no_progress (with_reducible apply held_mk; with_reducible apply held_fold)) | split | extract_lets | dsimp only | dsimp +zetaDelta only)

/-! ### Tamper -/

theorem State.tamperEntry_held (s : State) (inc : Bool) (event : Bool) (payload : List Byte) (hs : Held qs s) : Held qs (State.tamperEntry s inc event payload) := by
  unfold State.tamperEntry
  repeat' (first | intro _ | with_reducible first | assumption | apply State.emit_held | apply State.celWrite_held | apply held_ite | split | extract_lets | dsimp only | dsimp +zetaDelta only)

theorem State.gradeTwo_held (s : State) (hs : Held qs s) : Held qs (State.gradeTwo s) := by
  unfold State.gradeTwo
  repeat' (first | intro _ | with_reducible first | assumption | apply State.closeAll_held | apply State.zeroiseWorking_held | apply State.stopTests_held)

theorem State.gradeThree_held (s : State) (index : Nat) (hs : Held qs s) : Held qs (State.gradeThree s index) := by
  unfold State.gradeThree
  repeat' (first | intro _ | with_reducible first | assumption | apply State.clearBre_held | apply State.settleKeys_held | apply State.enterQuarantine_held | apply State.setLatch_held | apply State.abandonTransition_held)

theorem State.actGrade_held (s : State) (g : Nat) (index : Nat) (again : Bool) (hs : Held qs s) : Held qs (State.actGrade s g index again) := by
  unfold State.actGrade
  repeat' (first | intro _ | with_reducible first | assumption | apply State.raise_held | apply State.gradeTwo_held | apply State.gradeThree_held | apply held_ite | split | extract_lets | dsimp only | dsimp +zetaDelta only)

theorem State.lastTrip_held (s : State) (index : Nat) (src : Nat) (grade : Nat) (kind : Nat) (side : Nat) (hs : Held qs s) : Held qs (State.lastTrip s index src grade kind side) := by
  unfold State.lastTrip
  repeat' (first | intro _ | with_reducible first | assumption | apply State.fputs_held | apply State.put64_held)

theorem State.countTrip_held (s : State) (index : Nat) (src : Nat) (hs : Held qs s) : Held qs (State.countTrip s index src) := by
  unfold State.countTrip
  repeat' (first | intro _ | with_reducible first | assumption | apply State.bump_held | apply State.putBit_held | apply held_ite | split | extract_lets | dsimp only | dsimp +zetaDelta only)

theorem State.noteTrip_held (s : State) (src : Nat) (hs : Held qs s) : Held qs (State.noteTrip s src) := by
  unfold State.noteTrip
  repeat' (first | intro _ | with_reducible first | assumption | apply held_ite | (fail_if_no_progress (with_reducible apply held_mk; with_reducible apply held_fold)) | split)

theorem State.abandonTest_held (s : State) (src : Nat) (hs : Held qs s) : Held qs (State.abandonTest s src) := by
  unfold State.abandonTest
  repeat' (first | intro _ | with_reducible first | assumption | apply State.fput_held | apply held_ite | split)

theorem State.trip_held (s : State) (index : Nat) (measure : Nat) (kind : Nat) (hs : Held qs s) : Held qs (State.trip s index measure kind) := by
  unfold State.trip
  repeat' (first | intro _ | with_reducible first | assumption | apply State.tamperEntry_held | apply State.actGrade_held | apply State.lastTrip_held | apply State.countTrip_held | apply State.noteTrip_held | apply State.abandonTest_held | apply held_ite | split | extract_lets | dsimp only | dsimp +zetaDelta only)

theorem State.tripCondition_held (s : State) (index : Nat) (measure : Nat) (hs : Held qs s) : Held qs (State.tripCondition s index measure) := by
  unfold State.tripCondition
  repeat' (first | intro _ | with_reducible first | assumption | apply State.putBit_held | apply State.trip_held | apply held_ite | (fail_if_no_progress (with_reducible apply held_mk; with_reducible apply held_fold)) | split | extract_lets | dsimp only | dsimp +zetaDelta only)

theorem State.noteMismatch_held (s : State) (index : Nat) (measure : Nat) (hs : Held qs s) : Held qs (State.noteMismatch s index measure) := by
  unfold State.noteMismatch
  repeat' (first | intro _ | with_reducible first | assumption | apply State.putBit_held | apply held_ite | split)

theorem State.seedNets_held (s : State) (n : Nat) (start : Nat) (hs : Held qs s) : Held qs (State.seedNets s n start) := by
  unfold State.seedNets
  repeat' (first | intro _ | with_reducible first | assumption | apply State.asked_held | (fail_if_no_progress (with_reducible apply held_mk; with_reducible apply held_fold)) | extract_lets | dsimp only | dsimp +zetaDelta only)

theorem State.monitorTrip_held (s : State) (index : Nat) (measure : Nat) (hs : Held qs s) : Held qs (State.monitorTrip s index measure) := by
  unfold State.monitorTrip
  repeat' (first | intro _ | with_reducible first | assumption | apply State.tripCondition_held | apply State.noteMismatch_held | apply held_ite | split | extract_lets | dsimp only | dsimp +zetaDelta only)

theorem execTamperTrip_held (at_ : Nat) (index : Nat) (measure : Nat) (s : State) (hs : Held qs s) : ∃ out, execTamperTrip at_ index measure s = .next out ∧ Held qs out := by
  refine ⟨_, rfl, ?_⟩
  repeat' (first | intro _ | with_reducible first | assumption | apply State.at_held | apply done_held | apply State.monitorTrip_held)

theorem State.tripCleared_held (s : State) (index : Nat) (measure : Nat) (hs : Held qs s) : Held qs (State.tripCleared s index measure) := by
  unfold State.tripCleared
  repeat' (first | intro _ | with_reducible first | assumption | apply State.putBit_held | apply State.tamperEntry_held | apply held_ite | apply held_foldl | (fail_if_no_progress (with_reducible apply held_mk; with_reducible apply held_fold)) | split | extract_lets | dsimp only | dsimp +zetaDelta only)

theorem execTamperClear_held (at_ : Nat) (index : Nat) (measure : Nat) (s : State) (hs : Held qs s) : ∃ out, execTamperClear at_ index measure s = .next out ∧ Held qs out := by
  refine ⟨_, rfl, ?_⟩
  repeat' (first | intro _ | with_reducible first | assumption | apply State.at_held | apply done_held | apply State.tripCleared_held | extract_lets | dsimp only | dsimp +zetaDelta only)

theorem State.tripPulse_held (s : State) (index : Nat) (hs : Held qs s) : Held qs (State.tripPulse s index) := by
  unfold State.tripPulse
  repeat' (first | intro _ | with_reducible first | assumption | apply State.tripCondition_held | apply State.tripCleared_held | apply held_ite | split)

theorem State.selfTest_held (s : State) (tripped : Bool) (hs : Held qs s) : Held qs (State.selfTest s tripped) := by
  unfold State.selfTest
  repeat' (first | intro _ | with_reducible first | assumption | apply State.fputs_held | apply held_ite | (fail_if_no_progress (with_reducible apply held_mk; with_reducible apply held_fold)) | split | extract_lets | dsimp only | dsimp +zetaDelta only)

theorem execTamperSelfTest_held (at_ : Nat) (tripped : Bool) (s : State) (hs : Held qs s) : ∃ out, execTamperSelfTest at_ tripped s = .next out ∧ Held qs out := by
  refine ⟨_, rfl, ?_⟩
  repeat' (first | intro _ | with_reducible first | assumption | apply State.at_held | apply done_held | apply State.selfTest_held)

theorem State.monitorFault_held (s : State) (hs : Held qs s) : Held qs (State.monitorFault s) := by
  unfold State.monitorFault
  repeat' (first | intro _ | with_reducible first | assumption | apply State.fput_held | apply State.raise_held | apply State.putBit_held | apply State.trip_held | apply held_ite | split | extract_lets | dsimp only | dsimp +zetaDelta only)

theorem execTamperTestTimeout_held (at_ : Nat) (s : State) (hs : Held qs s) : ∃ out, execTamperTestTimeout at_ s = .next out ∧ Held qs out := by
  refine ⟨_, rfl, ?_⟩
  repeat' (first | intro _ | with_reducible first | assumption | apply State.at_held | apply done_held | apply State.monitorFault_held)

theorem State.putGrades_held (s : State) (v : Nat) (hs : Held qs s) : Held qs (State.putGrades s v) := by
  unfold State.putGrades
  repeat' (first | intro _ | with_reducible first | assumption | apply State.setRegN_held | apply State.tamperEntry_held | apply held_ite | apply held_foldl | (fail_if_no_progress (with_reducible apply held_mk; with_reducible apply held_fold)) | split | extract_lets | dsimp only | dsimp +zetaDelta only)

theorem execGradeWrite_held (w : Wr) (s : State) (hs : Held qs s) : ∃ out, execGradeWrite w s = .next out ∧ Held qs out := by
  refine ⟨_, rfl, ?_⟩
  repeat' (first | intro _ | with_reducible first | assumption | apply State.raise_held | apply done_held | apply guarded_held | apply State.putGrades_held | apply held_ite | split | dsimp only)

theorem State.backupEntry_held (s : State) (payload : List Byte) (hs : Held qs s) : Held qs (State.backupEntry s payload) := by
  unfold State.backupEntry
  repeat' (first | intro _ | with_reducible first | assumption | apply State.bump_held | apply State.openIncident_held | apply held_ite | (with_reducible apply held_pair (by with_reducible assumption)) | (with_reducible apply held_pair2 (by with_reducible assumption)) | (fail_if_no_progress (with_reducible apply held_mk; with_reducible apply held_fold)) | split | extract_lets | dsimp only | dsimp +zetaDelta only)

theorem State.backupTrip_held (s : State) (index : Nat) (measure : Nat) (kind : Nat) (hs : Held qs s) : Held qs (State.backupTrip s index measure kind) := by
  unfold State.backupTrip
  repeat' (first | intro _ | with_reducible first | assumption | apply State.clearBre_held | apply State.noteTrip_held | apply State.backupEntry_held | apply held_ite | (fail_if_no_progress (with_reducible apply held_mk; with_reducible apply held_fold)) | split | extract_lets | dsimp only | dsimp +zetaDelta only)

theorem execBackupTamperResponse_held (at_ : Nat) (index : Nat) (measure : Nat) (s : State) (hs : Held qs s) : ∃ out, execBackupTamperResponse at_ index measure s = .next out ∧ Held qs out := by
  refine ⟨_, rfl, ?_⟩
  repeat' (first | intro _ | with_reducible first | assumption | apply State.at_held | apply done_held | apply State.backupTrip_held | apply held_ite | apply held_foldl | (with_reducible apply held_pair (by with_reducible assumption)) | (with_reducible apply held_pair2 (by with_reducible assumption)) | (fail_if_no_progress (with_reducible apply held_mk; with_reducible apply held_fold)) | split | extract_lets | dsimp only | dsimp +zetaDelta only)

theorem execBackupTamperTest_held (at_ : Nat) (tripped : Bool) (s : State) (hs : Held qs s) : ∃ out, execBackupTamperTest at_ tripped s = .next out ∧ Held qs out := by
  refine ⟨_, rfl, ?_⟩
  repeat' (first | intro _ | with_reducible first | assumption | apply State.at_held | apply done_held | apply State.backupTrip_held | apply held_ite | (fail_if_no_progress (with_reducible apply held_mk; with_reducible apply held_fold)) | split | extract_lets | dsimp only | dsimp +zetaDelta only)

theorem execDeviceTamperRead_held (r : Req) (s : State) (hs : Held qs s) : ∃ out, execDeviceTamperRead r s = .next out ∧ Held qs out := by
  refine ⟨_, rfl, ?_⟩
  repeat' (first | intro _ | with_reducible first | assumption | apply runCmd_held | apply readEff_held | apply done_held | dsimp only)

theorem execDeviceTamperSetGrade_held (r : Req) (src : Nat) (grade : Nat) (s : State) (hs : Held qs s) : ∃ out, execDeviceTamperSetGrade r src grade s = .next out ∧ Held qs out := by
  refine ⟨_, rfl, ?_⟩
  repeat' (first | intro _ | with_reducible first | assumption | apply runCmd_held | apply okEff_held | apply done_held | apply State.putGrades_held | dsimp only)

theorem State.disableSource_held (s : State) (src : Nat) (hs : Held qs s) : Held qs (State.disableSource s src) := by
  unfold State.disableSource
  repeat' (first | intro _ | with_reducible first | assumption | apply State.fput_held | apply State.putBit_held | apply State.tamperEntry_held | apply held_ite | apply held_foldl | apply held_mk | apply held_fuses | apply held_frPair | apply held_disable | apply held_repair | apply held_fold | (with_reducible apply held_pair (by with_reducible assumption)) | (with_reducible apply held_pair2 (by with_reducible assumption)) | (fail_if_no_progress (with_reducible apply held_mk; with_reducible apply held_fold)) | split | extract_lets | dsimp only | dsimp +zetaDelta only)

theorem execDeviceTamperDisable_held (r : Req) (src : Nat) (tok : Option Token) (keys : PubKeys) (s : State) (hs : Held qs s) : ∃ out, execDeviceTamperDisable r src tok keys s = .next out ∧ Held qs out := by
  refine ⟨_, rfl, ?_⟩
  repeat' (first | intro _ | with_reducible first | assumption | apply runCmd_held | apply State.checkOwnerToken_held | apply done_held | apply State.disableSource_held | apply held_ite | (with_reducible apply held_pair (by with_reducible assumption)) | (with_reducible apply held_pair2 (by with_reducible assumption)) | (fail_if_no_progress (with_reducible apply held_mk; with_reducible apply held_fold)) | split | extract_lets | dsimp only | dsimp +zetaDelta only)

/-! ### Packets -/

theorem State.xpError_held (s : State) (path : Nat) (hs : Held qs s) : Held qs (State.xpError s path) := by
  unfold State.xpError
  repeat' (first | intro _ | with_reducible first | assumption | apply State.bump_held | apply State.orReg_held | apply held_ite | split)

theorem State.refusePacket_held (s : State) (r : Req) (secured : Bool) (op : Nat) (e : Nat) (hs : Held qs s) : Held qs (State.refusePacket s r secured op e) := by
  unfold State.refusePacket
  repeat' (first | intro _ | with_reducible first | assumption | apply State.bump_held | apply State.send_held | apply State.closeLast_held | apply held_ite | split)

theorem State.tagFailure_held (s : State) (slot : Nat) (hs : Held qs s) : Held qs (State.tagFailure s slot) := by
  unfold State.tagFailure
  repeat' (first | intro _ | with_reducible first | assumption | apply State.bump_held | apply State.raise_held | apply State.setSession_held | apply State.closeSession_held | apply held_ite | (fail_if_no_progress (with_reducible apply held_mk; with_reducible apply held_fold)) | split | extract_lets | dsimp only | dsimp +zetaDelta only)

theorem State.enqueue_held (s : State) (w : Nat) (r : Req) (op : Nat) (body : List Byte) (hs : Held qs s) : Held qs (State.enqueue s w r op body) := by
  unfold State.enqueue
  repeat' (first | intro _ | with_reducible first | assumption | apply State.fput_held | apply State.raise_held | apply State.dmaWrite_held | (fail_if_no_progress (with_reducible apply held_mk; with_reducible apply held_fold)) | extract_lets | dsimp only | dsimp +zetaDelta only)

theorem State.takeCommand_held (s : State) (r : Req) (hs : Held qs s) : Held qs (State.takeCommand s r) := by
  unfold State.takeCommand
  repeat' (first | intro _ | with_reducible first | assumption | apply State.raise_held | apply State.setSession_held | apply held_ite | (fail_if_no_progress (with_reducible apply held_mk; with_reducible apply held_fold)) | split | extract_lets | dsimp only | dsimp +zetaDelta only)

theorem State.admitPacket_held (s : State) (path : Nat) (h : Header) (slot : Option Nat) (body : List Byte) (hs : Held qs s) : Held qs (State.admitPacket s path h slot body) := by
  unfold State.admitPacket
  repeat' (first | intro _ | with_reducible first | assumption | apply State.refusePacket_held | apply State.enqueue_held | apply State.takeCommand_held | (fail_if_no_progress (with_reducible apply held_mk; with_reducible apply held_fold)) | split | extract_lets | dsimp only | dsimp +zetaDelta only)

theorem State.checkPacket_held (s : State) (path : Nat) (peer : Nat) (bs : List Byte) (hs : Held qs s) : Held qs (State.checkPacket s path peer bs) := by
  unfold State.checkPacket
  repeat' (first | intro _ | with_reducible first | assumption | apply State.bump_held | apply State.orReg_held | apply State.setSession_held | apply State.xpError_held | apply State.refusePacket_held | apply State.tagFailure_held | apply State.admitPacket_held | apply held_ite | (fail_if_no_progress (with_reducible apply held_mk; with_reducible apply held_fold)) | split | extract_lets | dsimp only | dsimp +zetaDelta only)

theorem State.notePeer_held (s : State) (path : Nat) (seq : Nat) (peer : Nat) (hs : Held qs s) : Held qs (State.notePeer s path seq peer) := by
  unfold State.notePeer
  repeat' (first | intro _ | with_reducible first | assumption | apply held_ite | (fail_if_no_progress (with_reducible apply held_mk; with_reducible apply held_fold)) | split | dsimp only)

theorem execPacketReceived_held (at_ : Nat) (path : Nat) (s : State) (hs : Held qs s) : ∃ out, execPacketReceived at_ path s = .next out ∧ Held qs out := by
  refine ⟨_, rfl, ?_⟩
  repeat' (first | intro _ | with_reducible first | assumption | apply State.at_held | apply done_held | apply State.checkPacket_held | apply State.notePeer_held | apply held_ite | (fail_if_no_progress (with_reducible apply held_mk; with_reducible apply held_fold)) | split | extract_lets | dsimp only | dsimp +zetaDelta only)

theorem State.issueReply_held (s0 : State) (w : Nat) (hs0 : Held qs s0) : Held qs (State.issueReply s0 w) := by
  unfold State.issueReply
  repeat' (first | intro _ | with_reducible first | assumption | apply State.bump_held | apply State.send_held | apply State.settle_held | apply State.closeLast_held | apply State.dmaRead_held | apply State.dmaWrite_held | apply held_ite | (with_reducible apply held_pair (by with_reducible assumption)) | (with_reducible apply held_pair2 (by with_reducible assumption)) | (fail_if_no_progress (with_reducible apply held_mk; with_reducible apply held_fold)) | split | extract_lets | dsimp only | dsimp +zetaDelta only)

theorem execReplyIssue_held (w : Wr) (world : Nat) (s : State) (hs : Held qs s) : ∃ out, execReplyIssue w world s = .next out ∧ Held qs out := by
  refine ⟨_, rfl, ?_⟩
  repeat' (first | intro _ | with_reducible first | assumption | apply State.fputs_held | apply done_held | apply guarded_held | apply State.issueReply_held | apply held_ite | split | extract_lets | dsimp only | dsimp +zetaDelta only)

theorem State.addRx_held (s : State) (p : RxPacket) (hs : Held qs s) : Held qs (State.addRx s p) := by
  unfold State.addRx
  repeat' (first | intro _ | with_reducible first | assumption | (fail_if_no_progress (with_reducible apply held_mk; with_reducible apply held_fold)))

theorem execSpiWrite_held (at_ : Nat) (len : Nat) (bytes : List Byte) (s : State) (hs : Held qs s) : ∃ out, execSpiWrite at_ len bytes s = .next out ∧ Held qs out := by
  refine ⟨_, rfl, ?_⟩
  repeat' (first | intro _ | with_reducible first | assumption | apply State.at_held | apply done_held | apply State.xpError_held | apply State.addRx_held | apply held_ite | (fail_if_no_progress (with_reducible apply held_mk; with_reducible apply held_fold)) | split | extract_lets | dsimp only | dsimp +zetaDelta only)

theorem execSpiRead_held (at_ : Nat) (whole : Bool) (s : State) (hs : Held qs s) : ∃ out, execSpiRead at_ whole s = .next out ∧ Held qs out := by
  refine ⟨_, rfl, ?_⟩
  repeat' (first | intro _ | with_reducible first | assumption | apply State.at_held | apply done_held | apply held_ite | (fail_if_no_progress (with_reducible apply held_mk; with_reducible apply held_fold)) | split | extract_lets | dsimp only | dsimp +zetaDelta only)

theorem execSpiStatus_held (at_ : Nat) (s : State) (hs : Held qs s) : ∃ out, execSpiStatus at_ s = .next out ∧ Held qs out := by
  refine ⟨_, rfl, ?_⟩
  repeat' (first | intro _ | with_reducible first | assumption | apply State.at_held | apply done_held | (fail_if_no_progress (with_reducible apply held_mk; with_reducible apply held_fold)) | split | extract_lets | dsimp only | dsimp +zetaDelta only)

theorem State.setCan_held (s : State) (c : Nat) (x : Option Reassembly) (hs : Held qs s) : Held qs (State.setCan s c x) := by
  unfold State.setCan
  repeat' (first | intro _ | with_reducible first | assumption | (fail_if_no_progress (with_reducible apply held_mk; with_reducible apply held_fold)))

theorem State.canDone_held (s : State) (c : Nat) (bs : List Byte) (hs : Held qs s) : Held qs (State.canDone s c bs) := by
  unfold State.canDone
  repeat' (first | intro _ | with_reducible first | assumption | apply State.xpError_held | apply State.addRx_held | apply held_ite | split)

theorem State.canSegment_held (s : State) (c : Nat) (hd : Nat) (data : List Byte) (hs : Held qs s) : Held qs (State.canSegment s c hd data) := by
  unfold State.canSegment
  repeat' (first | intro _ | with_reducible first | assumption | apply State.xpError_held | apply State.setCan_held | apply State.canDone_held | apply held_ite | (fail_if_no_progress (with_reducible apply held_mk; with_reducible apply held_fold)) | split | extract_lets | dsimp only | dsimp +zetaDelta only)

theorem execCanFrameReceived_held (at_ : Nat) (chan : Nat) (ident : Nat) (ide : Bool) (fd : Bool) (bytes : List Byte) (s : State) (hs : Held qs s) : ∃ out, execCanFrameReceived at_ chan ident ide fd bytes s = .next out ∧ Held qs out := by
  refine ⟨_, rfl, ?_⟩
  repeat' (first | intro _ | with_reducible first | assumption | apply State.at_held | apply done_held | apply State.xpError_held | apply State.canSegment_held | apply held_ite | (fail_if_no_progress (with_reducible apply held_mk; with_reducible apply held_fold)) | split | extract_lets | dsimp only | dsimp +zetaDelta only)

theorem execCanReassemblyTimeout_held (at_ : Nat) (chan : Nat) (s : State) (hs : Held qs s) : ∃ out, execCanReassemblyTimeout at_ chan s = .next out ∧ Held qs out := by
  refine ⟨_, rfl, ?_⟩
  repeat' (first | intro _ | with_reducible first | assumption | apply State.at_held | apply done_held | apply State.xpError_held | apply State.setCan_held | apply held_ite | (fail_if_no_progress (with_reducible apply held_mk; with_reducible apply held_fold)) | split | extract_lets | dsimp only | dsimp +zetaDelta only)

theorem State.ethSegment_held (s : State) (src : Nat) (bytes : List Byte) (hs : Held qs s) : Held qs (State.ethSegment s src bytes) := by
  unfold State.ethSegment
  repeat' (first | intro _ | with_reducible first | assumption | apply State.xpError_held | apply State.addRx_held | apply held_ite | (fail_if_no_progress (with_reducible apply held_mk; with_reducible apply held_fold)) | split | extract_lets | dsimp only | dsimp +zetaDelta only)

theorem execEthernetDatagramReceived_held (at_ : Nat) (src : Nat) (good : Bool) (bytes : List Byte) (s : State) (hs : Held qs s) : ∃ out, execEthernetDatagramReceived at_ src good bytes s = .next out ∧ Held qs out := by
  refine ⟨_, rfl, ?_⟩
  repeat' (first | intro _ | with_reducible first | assumption | apply State.at_held | apply done_held | apply State.xpError_held | apply State.ethSegment_held | apply held_ite | split | extract_lets | dsimp only | dsimp +zetaDelta only)

theorem execEthernetReassemblyTimeout_held (at_ : Nat) (src : Nat) (s : State) (hs : Held qs s) : ∃ out, execEthernetReassemblyTimeout at_ src s = .next out ∧ Held qs out := by
  refine ⟨_, rfl, ?_⟩
  repeat' (first | intro _ | with_reducible first | assumption | apply State.at_held | apply done_held | apply State.xpError_held | apply held_ite | (fail_if_no_progress (with_reducible apply held_mk; with_reducible apply held_fold)) | split | extract_lets | dsimp only | dsimp +zetaDelta only)

theorem execArpRequest_held (at_ : Nat) (target : Nat) (sender : Nat) (s : State) (hs : Held qs s) : ∃ out, execArpRequest at_ target sender s = .next out ∧ Held qs out := by
  refine ⟨_, rfl, ?_⟩
  repeat' (first | intro _ | with_reducible first | assumption | apply State.at_held | apply done_held | apply held_ite | apply held_foldl | (with_reducible apply held_pair (by with_reducible assumption)) | (with_reducible apply held_pair2 (by with_reducible assumption)) | (fail_if_no_progress (with_reducible apply held_mk; with_reducible apply held_fold)) | split | extract_lets | dsimp only | dsimp +zetaDelta only)

theorem execLinkChanged_held (at_ : Nat) (slot : Nat) (up : Bool) (g1000 : Bool) (s : State) (hs : Held qs s) : ∃ out, execLinkChanged at_ slot up g1000 s = .next out ∧ Held qs out := by
  refine ⟨_, rfl, ?_⟩
  repeat' (first | intro _ | with_reducible first | assumption | apply State.fput_held | apply State.orReg_held | apply State.at_held | apply State.flushTx_held | apply done_held | apply held_ite | split | extract_lets | dsimp only | dsimp +zetaDelta only)

theorem State.tracePacket_held (s : State) (t : Trace) (hs : Held qs s) : Held qs (State.tracePacket s t) := by
  unfold State.tracePacket
  repeat' (first | intro _ | with_reducible first | assumption | apply State.setSession_held | apply State.send_held | apply State.closeLast_held | (fail_if_no_progress (with_reducible apply held_mk; with_reducible apply held_fold)) | extract_lets | dsimp only | dsimp +zetaDelta only)

theorem execTracePacket_held (at_ : Nat) (s : State) (hs : Held qs s) : ∃ out, execTracePacket at_ s = .next out ∧ Held qs out := by
  refine ⟨_, rfl, ?_⟩
  repeat' (first | intro _ | with_reducible first | assumption | apply State.at_held | apply done_held | apply State.tracePacket_held | apply held_ite | (with_reducible apply held_pair (by with_reducible assumption)) | (with_reducible apply held_pair2 (by with_reducible assumption)) | (fail_if_no_progress (with_reducible apply held_mk; with_reducible apply held_fold)) | split | extract_lets | dsimp only | dsimp +zetaDelta only)

theorem execDeviceTrace_held (r : Req) (enable : Bool) (mask : Nat) (s : State) (hs : Held qs s) : ∃ out, execDeviceTrace r enable mask s = .next out ∧ Held qs out := by
  refine ⟨_, rfl, ?_⟩
  repeat' (first | intro _ | with_reducible first | assumption | apply runCmd_held | apply okEff_held | apply done_held | apply held_ite | (fail_if_no_progress (with_reducible apply held_mk; with_reducible apply held_fold)) | split | dsimp only)

theorem execSessionOpen_held (r : Req) (peer : Nat) (qh : Nat) (kemEk : Nat) (nonce : Nat) (s : State) (hs : Held qs s) : ∃ out, execSessionOpen r peer qh kemEk nonce s = .next out ∧ Held qs out := by
  refine ⟨_, rfl, ?_⟩
  repeat' (first | intro _ | with_reducible first | assumption | apply State.drawn_held | apply State.setSession_held | apply runCmd_held | apply done_held | apply State.asked_held | apply State.notePeer_held | apply held_ite | (with_reducible apply held_pair (by with_reducible assumption)) | (with_reducible apply held_pair2 (by with_reducible assumption)) | (fail_if_no_progress (with_reducible apply held_mk; with_reducible apply held_fold)) | split | extract_lets | dsimp only | dsimp +zetaDelta only)

theorem execSessionFinish_held (r : Req) (cert : Cert) (sig : Sig) (s : State) (hs : Held qs s) : ∃ out, execSessionFinish r cert sig s = .next out ∧ Held qs out := by
  refine ⟨_, rfl, ?_⟩
  repeat' (first | intro _ | with_reducible first | assumption | apply State.setSession_held | apply State.closeSession_held | apply State.reply_held | apply runCmd_held | apply done_held | apply held_ite | (fail_if_no_progress (with_reducible apply held_mk; with_reducible apply held_fold)) | split | extract_lets | dsimp only | dsimp +zetaDelta only)

theorem State.discardNew_held (s : State) (i : Nat) (seq : Nat) (hs : Held qs s) : Held qs (State.discardNew s i seq) := by
  unfold State.discardNew
  repeat' (first | intro _ | with_reducible first | assumption | apply State.setSession_held | apply State.dmaWrite_held | apply held_foldl | (fail_if_no_progress (with_reducible apply held_mk; with_reducible apply held_fold)) | extract_lets | dsimp only | dsimp +zetaDelta only)

theorem execSessionClose_held (r : Req) (s : State) (hs : Held qs s) : ∃ out, execSessionClose r s = .next out ∧ Held qs out := by
  refine ⟨_, rfl, ?_⟩
  repeat' (first | intro _ | with_reducible first | assumption | apply State.setSession_held | apply State.endClose_held | apply runCmd_held | apply done_held | apply State.discardNew_held | (fail_if_no_progress (with_reducible apply held_mk; with_reducible apply held_fold)) | extract_lets | dsimp only | dsimp +zetaDelta only)

theorem execSessionFinishTimeout_held (at_ : Nat) (slot : Nat) (s : State) (hs : Held qs s) : ∃ out, execSessionFinishTimeout at_ slot s = .next out ∧ Held qs out := by
  refine ⟨_, rfl, ?_⟩
  repeat' (first | intro _ | with_reducible first | assumption | apply State.at_held | apply State.closeSession_held | apply done_held | apply held_ite | apply held_foldl | (with_reducible apply held_pair (by with_reducible assumption)) | (with_reducible apply held_pair2 (by with_reducible assumption)) | (fail_if_no_progress (with_reducible apply held_mk; with_reducible apply held_fold)) | split | extract_lets | dsimp only | dsimp +zetaDelta only)

theorem execSessionIdleTimeout_held (at_ : Nat) (slot : Nat) (s : State) (hs : Held qs s) : ∃ out, execSessionIdleTimeout at_ slot s = .next out ∧ Held qs out := by
  refine ⟨_, rfl, ?_⟩
  repeat' (first | intro _ | with_reducible first | assumption | apply State.at_held | apply State.closeSession_held | apply done_held | apply held_ite | apply held_foldl | (with_reducible apply held_pair (by with_reducible assumption)) | (with_reducible apply held_pair2 (by with_reducible assumption)) | (fail_if_no_progress (with_reducible apply held_mk; with_reducible apply held_fold)) | split | extract_lets | dsimp only | dsimp +zetaDelta only)

theorem execSessionRead_held (r : Req) (s : State) (hs : Held qs s) : ∃ out, execSessionRead r s = .next out ∧ Held qs out := by
  refine ⟨_, rfl, ?_⟩
  repeat' (first | intro _ | with_reducible first | assumption | apply runCmd_held | apply readEff_held | apply done_held | dsimp only)

theorem execDeviceReadFaults_held (r : Req) (first : Nat) (count : Nat) (s : State) (hs : Held qs s) : ∃ out, execDeviceReadFaults r first count s = .next out ∧ Held qs out := by
  refine ⟨_, rfl, ?_⟩
  repeat' (first | intro _ | with_reducible first | assumption | apply runCmd_held | apply readEff_held | apply done_held | dsimp only)

theorem execFaultAck_held (w : Wr) (s : State) (hs : Held qs s) : ∃ out, execFaultAck w s = .next out ∧ Held qs out := by
  refine ⟨_, rfl, ?_⟩
  repeat' (first | intro _ | with_reducible first | assumption | apply done_held | apply guarded_held | apply held_ite | (fail_if_no_progress (with_reducible apply held_mk; with_reducible apply held_fold)) | split | dsimp only)

/-! ### Transit -/

theorem State.ringRateEffect_held (s : State) (rate : Nat) (k : Nat) (hs : Held qs s) : Held qs (State.ringRateEffect s rate k) := by
  unfold State.ringRateEffect
  repeat' (first | intro _ | with_reducible first | assumption | apply State.fputs_held | apply State.put64_held | (fail_if_no_progress (with_reducible apply held_mk; with_reducible apply held_fold)))

theorem State.setRing_held (s : State) (r : Nat) (x : RingState) (hs : Held qs s) : Held qs (State.setRing s r x) := by
  unfold State.setRing
  repeat' (first | intro _ | with_reducible first | assumption | (fail_if_no_progress (with_reducible apply held_mk; with_reducible apply held_fold)))

theorem onRing_held (s : State) (r : Nat) (f : State → State) (hs : Held qs s) (hf : ∀ t, Held qs t → Held qs (f t)) : Held qs (onRing s r f) := by
  unfold onRing
  repeat' (first | intro _ | with_reducible first | assumption | apply hf | apply held_ite | split)

theorem State.putRingState_held (s : State) (r : Nat) (st : Nat) (hs : Held qs s) : Held qs (State.putRingState s r st) := by
  unfold State.putRingState
  repeat' (first | intro _ | with_reducible first | assumption | apply State.fput_held | apply State.putBit_held | apply held_ite | split | extract_lets | dsimp only | dsimp +zetaDelta only)

theorem State.queueCmds_held (s : State) (r : Nat) (cs : List NodeCmd) (hs : Held qs s) : Held qs (State.queueCmds s r cs) := by
  unfold State.queueCmds
  repeat' (first | intro _ | with_reducible first | assumption | apply State.setRing_held | (fail_if_no_progress (with_reducible apply held_mk; with_reducible apply held_fold)))

theorem State.sendWrap_held (s : State) (r : Nat) (k : Nat) (hs : Held qs s) : Held qs (State.sendWrap s r k) := by
  unfold State.sendWrap
  repeat' (first | intro _ | with_reducible first | assumption | apply State.setRing_held | apply held_ite | (fail_if_no_progress (with_reducible apply held_mk; with_reducible apply held_fold)) | split | extract_lets | dsimp only | dsimp +zetaDelta only)

theorem State.moveRejoin_held (s : State) (k : Nat) (r : Nat) (hs : Held qs s) : Held qs (State.moveRejoin s k r) := by
  unfold State.moveRejoin
  repeat' (first | intro _ | with_reducible first | assumption | apply State.sendWrap_held | apply held_ite | split)

theorem State.beginRejoin_held (s : State) (r : Nat) (hs : Held qs s) : Held qs (State.beginRejoin s r) := by
  unfold State.beginRejoin
  repeat' (first | intro _ | with_reducible first | assumption | apply State.setRing_held | (fail_if_no_progress (with_reducible apply held_mk; with_reducible apply held_fold)))

theorem State.rejoinStep_held (s : State) (r : Nat) (k : Nat) (hs : Held qs s) : Held qs (State.rejoinStep s r k) := by
  unfold State.rejoinStep
  repeat' (first | intro _ | with_reducible first | assumption | apply State.fputs_held | apply State.raise_held | apply State.setRing_held | apply State.putRingState_held | apply State.sendWrap_held | apply held_ite | (fail_if_no_progress (with_reducible apply held_mk; with_reducible apply held_fold)) | split | extract_lets | dsimp only | dsimp +zetaDelta only)

theorem State.requestRate_held (s : State) (rate : Nat) (hs : Held qs s) : Held qs (State.requestRate s rate) := by
  unfold State.requestRate
  repeat' (first | intro _ | with_reducible first | assumption | apply State.fputs_held | apply State.moveRejoin_held | apply held_foldl | (fail_if_no_progress (with_reducible apply held_mk; with_reducible apply held_fold)) | dsimp only)

theorem execTransitSetRate_held (r : Req) (rate : Nat) (s : State) (hs : Held qs s) : ∃ out, execTransitSetRate r rate s = .next out ∧ Held qs out := by
  refine ⟨_, rfl, ?_⟩
  repeat' (first | intro _ | with_reducible first | assumption | apply runCmd_held | apply okEff_held | apply done_held | apply State.requestRate_held | dsimp only)

theorem State.dropPresent_held (s : State) (r : Nat) (keep : Nat) (hs : Held qs s) : Held qs (State.dropPresent s r keep) := by
  unfold State.dropPresent
  repeat' (first | intro _ | with_reducible first | assumption | apply State.fput_held | apply State.raise_held | apply held_ite | split | extract_lets | dsimp only | dsimp +zetaDelta only)

theorem State.startRing_held (s : State) (r : Nat) (hs : Held qs s) : Held qs (State.startRing s r) := by
  unfold State.startRing
  repeat' (first | intro _ | with_reducible first | assumption | apply State.fputs_held | apply State.setRing_held | apply State.putRingState_held | apply State.dropPresent_held | apply held_ite | (fail_if_no_progress (with_reducible apply held_mk; with_reducible apply held_fold)) | split | extract_lets | dsimp only | dsimp +zetaDelta only)

theorem State.stopRing_held (s : State) (r : Nat) (hs : Held qs s) : Held qs (State.stopRing s r) := by
  unfold State.stopRing
  repeat' (first | intro _ | with_reducible first | assumption | apply State.fput_held | apply State.setRing_held | apply State.putRingState_held | (fail_if_no_progress (with_reducible apply held_mk; with_reducible apply held_fold)))

theorem execTransitEnumerate_held (r : Req) (ring : Nat) (s : State) (hs : Held qs s) : ∃ out, execTransitEnumerate r ring s = .next out ∧ Held qs out := by
  refine ⟨_, rfl, ?_⟩
  repeat' (first | intro _ | with_reducible first | assumption | apply runCmd_held | apply okEff_held | apply done_held | apply State.startRing_held | dsimp only)

theorem execRingEnableWrite_held (w : Wr) (ring : Nat) (s : State) (hs : Held qs s) : ∃ out, execRingEnableWrite w ring s = .next out ∧ Held qs out := by
  refine ⟨_, rfl, ?_⟩
  repeat' (first | intro _ | with_reducible first | assumption | apply State.writeWord_held | apply done_held | apply guarded_held | apply onRing_held | apply State.startRing_held | apply State.stopRing_held | apply held_ite | split | extract_lets | dsimp only | dsimp +zetaDelta only)

theorem execRingRetry_held (at_ : Nat) (ring : Nat) (s : State) (hs : Held qs s) : ∃ out, execRingRetry at_ ring s = .next out ∧ Held qs out := by
  refine ⟨_, rfl, ?_⟩
  repeat' (first | intro _ | with_reducible first | assumption | apply State.at_held | apply done_held | apply onRing_held | apply State.startRing_held | apply held_ite | split | dsimp only)

theorem State.beginDelays_held (s : State) (r : Nat) (hs : Held qs s) : Held qs (State.beginDelays s r) := by
  unfold State.beginDelays
  repeat' (first | intro _ | with_reducible first | assumption | apply State.setRing_held | apply held_ite | (fail_if_no_progress (with_reducible apply held_mk; with_reducible apply held_fold)) | split | extract_lets | dsimp only | dsimp +zetaDelta only)

theorem State.endEnum_held (s : State) (r : Nat) (hs : Held qs s) : Held qs (State.endEnum s r) := by
  unfold State.endEnum
  repeat' (first | intro _ | with_reducible first | assumption | apply State.setRing_held | apply State.beginDelays_held | apply held_ite | (fail_if_no_progress (with_reducible apply held_mk; with_reducible apply held_fold)) | split | extract_lets | dsimp only | dsimp +zetaDelta only)

theorem State.openEnum_held (s : State) (r : Nat) (hs : Held qs s) : Held qs (State.openEnum s r) := by
  unfold State.openEnum
  repeat' (first | intro _ | with_reducible first | assumption | apply State.fputs_held | apply State.setRing_held | (fail_if_no_progress (with_reducible apply held_mk; with_reducible apply held_fold)))

theorem State.lockStep_held (s : State) (r : Nat) (hs : Held qs s) : Held qs (State.lockStep s r) := by
  unfold State.lockStep
  repeat' (first | intro _ | with_reducible first | assumption | apply State.fput_held | apply State.setRing_held | apply State.putRingState_held | apply State.openEnum_held | apply held_ite | (fail_if_no_progress (with_reducible apply held_mk; with_reducible apply held_fold)) | split | extract_lets | dsimp only | dsimp +zetaDelta only)

theorem State.askRetx_held (s : State) (r : Nat) (fr : List Expected) (endB : Bool) (first : Bool) (upTo : Option Nat) (hs : Held qs s) : Held qs (State.askRetx s r fr endB first upTo) := by
  unfold State.askRetx
  repeat' (first | intro _ | with_reducible first | assumption | apply State.fput_held | apply State.setRing_held | apply held_ite | (fail_if_no_progress (with_reducible apply held_mk; with_reducible apply held_fold)) | split | extract_lets | dsimp only | dsimp +zetaDelta only)

theorem State.askSegment_held (s : State) (r : Nat) (endB : Bool) (hs : Held qs s) : Held qs (State.askSegment s r endB) := by
  unfold State.askSegment
  repeat' (first | intro _ | with_reducible first | assumption | apply State.askRetx_held)

theorem State.slotCmd_held (s : State) (r : Nat) (k : Nat) (endB : Bool) (hs : Held qs s) : Held qs (State.slotCmd s r k endB).1 := by
  unfold State.slotCmd
  repeat' (first | intro _ | with_reducible first | assumption | apply State.fputs_held | apply State.setRing_held | apply held_ite | (fail_if_no_progress (with_reducible apply held_mk; with_reducible apply held_fold)) | split | extract_lets | dsimp only | dsimp +zetaDelta only)

theorem State.sendCollect_held (s : State) (r : Nat) (endB : Bool) (hs : Held qs s) : Held qs (State.sendCollect s r endB) := by
  unfold State.sendCollect
  repeat' (first | intro _ | with_reducible first | assumption | apply State.setRing_held | apply State.slotCmd_held | apply held_ite | (with_reducible apply held_pair (by with_reducible assumption)) | (with_reducible apply held_pair2 (by with_reducible assumption)) | (fail_if_no_progress (with_reducible apply held_mk; with_reducible apply held_fold)) | split | extract_lets | dsimp only | dsimp +zetaDelta only)

theorem State.declareBreak_held (s : State) (r : Nat) (lastA : Nat) (firstB : Nat) (hs : Held qs s) : Held qs (State.declareBreak s r lastA firstB) := by
  unfold State.declareBreak
  repeat' (first | intro _ | with_reducible first | assumption | apply State.fput_held | apply State.fputs_held | apply State.raise_held | apply State.takeFault_held | apply State.setRing_held | apply State.putRingState_held | apply State.askSegment_held | apply State.sendCollect_held | apply held_ite | (fail_if_no_progress (with_reducible apply held_mk; with_reducible apply held_fold)) | split | extract_lets | dsimp only | dsimp +zetaDelta only)

theorem State.breakStep_held (s : State) (r : Nat) (hs : Held qs s) : Held qs (State.breakStep s r) := by
  unfold State.breakStep
  repeat' (first | intro _ | with_reducible first | assumption | apply State.setRing_held | apply State.askSegment_held | apply held_ite | (fail_if_no_progress (with_reducible apply held_mk; with_reducible apply held_fold)) | split | extract_lets | dsimp only | dsimp +zetaDelta only)

theorem State.enterOpen_held (s : State) (r : Nat) (hs : Held qs s) : Held qs (State.enterOpen s r) := by
  unfold State.enterOpen
  repeat' (first | intro _ | with_reducible first | assumption | apply State.setRing_held | apply State.declareBreak_held | apply held_foldl | (fail_if_no_progress (with_reducible apply held_mk; with_reducible apply held_fold)) | split | extract_lets | dsimp only | dsimp +zetaDelta only)

theorem State.enumStep_held (s : State) (r : Nat) (hs : Held qs s) : Held qs (State.enumStep s r) := by
  unfold State.enumStep
  repeat' (first | intro _ | with_reducible first | assumption | apply State.fput_held | apply State.setRing_held | apply State.putRingState_held | apply State.endEnum_held | apply State.lockStep_held | apply State.enterOpen_held | apply held_ite | (fail_if_no_progress (with_reducible apply held_mk; with_reducible apply held_fold)) | split | extract_lets | dsimp only | dsimp +zetaDelta only)

theorem State.rosterCheck_held (s : State) (r : Nat) (n : Nat) (serial : Nat) (hs : Held qs s) : Held qs (State.rosterCheck s r n serial) := by
  unfold State.rosterCheck
  repeat' (first | intro _ | with_reducible first | assumption | apply State.fput_held | apply State.raise_held | apply State.emit_held | apply held_ite | split | extract_lets | dsimp only | dsimp +zetaDelta only)

theorem State.enumTaken_held (s : State) (r : Nat) (p : Nat) (serial : Nat) (endB : Bool) (next : Nat) (more : List NodeCmd) (hs : Held qs s) : Held qs (State.enumTaken s r p serial endB next more) := by
  unfold State.enumTaken
  repeat' (first | intro _ | with_reducible first | assumption | apply State.fput_held | apply State.setRing_held | apply State.endEnum_held | apply held_ite | (fail_if_no_progress (with_reducible apply held_mk; with_reducible apply held_fold)) | split | extract_lets | dsimp only | dsimp +zetaDelta only)

theorem State.enumAnswer_held (s : State) (r : Nat) (n : Nat) (nstat : Nat) (payload : List Byte) (hs : Held qs s) : Held qs (State.enumAnswer s r n nstat payload) := by
  unfold State.enumAnswer
  repeat' (first | intro _ | with_reducible first | assumption | apply State.fput_held | apply State.raise_held | apply State.emit_held | apply State.setRing_held | apply State.endEnum_held | apply State.enumTaken_held | apply held_ite | (fail_if_no_progress (with_reducible apply held_mk; with_reducible apply held_fold)) | split | extract_lets | dsimp only | dsimp +zetaDelta only)

theorem State.nodeReset_held (s : State) (r : Nat) (n : Nat) (hs : Held qs s) : Held qs (State.nodeReset s r n) := by
  unfold State.nodeReset
  repeat' (first | intro _ | with_reducible first | assumption | apply State.setRing_held | (fail_if_no_progress (with_reducible apply held_mk; with_reducible apply held_fold)) | extract_lets | dsimp only | dsimp +zetaDelta only)

theorem State.acceptRoster_held (s : State) (r : Nat) (hs : Held qs s) : Held qs (State.acceptRoster s r) := by
  unfold State.acceptRoster
  repeat' (first | intro _ | with_reducible first | assumption | apply State.fput_held | apply State.setRing_held | apply held_ite | (fail_if_no_progress (with_reducible apply held_mk; with_reducible apply held_fold)) | split | extract_lets | dsimp only | dsimp +zetaDelta only)

theorem State.putDelay_held (s : State) (r : Nat) (n : Nat) (da : Nat) (db : Nat) (hs : Held qs s) : Held qs (State.putDelay s r n da db) := by
  unfold State.putDelay
  repeat' (first | intro _ | with_reducible first | assumption | apply State.fputs_held | apply held_ite | split)

theorem State.takeDelay_held (s : State) (r : Nat) (n : Nat) (rt : Nat) (endB : Bool) (hs : Held qs s) : Held qs (State.takeDelay s r n rt endB) := by
  unfold State.takeDelay
  repeat' (first | intro _ | with_reducible first | assumption | apply State.setRing_held | apply State.putDelay_held | apply held_ite | (fail_if_no_progress (with_reducible apply held_mk; with_reducible apply held_fold)) | split | extract_lets | dsimp only | dsimp +zetaDelta only)

theorem State.mailboxDone_held (s : State) (r : Nat) (node : Nat) (opc : Nat) (nstat : Nat) (payload : List Byte) (hs : Held qs s) : Held qs (State.mailboxDone s r node opc nstat payload) := by
  unfold State.mailboxDone
  repeat' (first | intro _ | with_reducible first | assumption | apply State.fputs_held | apply State.raise_held | apply State.setRegN_held | apply State.reply_held | apply State.setRing_held | apply held_foldl | (fail_if_no_progress (with_reducible apply held_mk; with_reducible apply held_fold)) | split | extract_lets | dsimp only | dsimp +zetaDelta only)

theorem State.mailboxGo_held (s : State) (r : Nat) (hs : Held qs s) : Held qs (State.mailboxGo s r) := by
  unfold State.mailboxGo
  repeat' (first | intro _ | with_reducible first | assumption | apply State.fput_held | apply State.mailboxDone_held | apply held_ite | split)

theorem execMailboxGo_held (w : Wr) (ring : Nat) (s : State) (hs : Held qs s) : ∃ out, execMailboxGo w ring s = .next out ∧ Held qs out := by
  refine ⟨_, rfl, ?_⟩
  repeat' (first | intro _ | with_reducible first | assumption | apply State.writeWord_held | apply done_held | apply guarded_held | apply onRing_held | apply State.mailboxGo_held | apply held_ite | split | dsimp only)

theorem execMailboxTimeout_held (at_ : Nat) (ring : Nat) (s : State) (hs : Held qs s) : ∃ out, execMailboxTimeout at_ ring s = .next out ∧ Held qs out := by
  refine ⟨_, rfl, ?_⟩
  repeat' (first | intro _ | with_reducible first | assumption | apply State.fputs_held | apply State.at_held | apply State.reply_held | apply done_held | apply State.setRing_held | apply onRing_held | apply held_ite | (fail_if_no_progress (with_reducible apply held_mk; with_reducible apply held_fold)) | split | extract_lets | dsimp only | dsimp +zetaDelta only)

theorem execTransitNodeRequest_held (r : Req) (ring : Nat) (end_ : Nat) (node : Nat) (opc : Nat) (payload : List Byte) (s : State) (hs : Held qs s) : ∃ out, execTransitNodeRequest r ring end_ node opc payload s = .next out ∧ Held qs out := by
  refine ⟨_, rfl, ?_⟩
  repeat' (first | intro _ | with_reducible first | assumption | apply State.fputs_held | apply State.setRegN_held | apply runCmd_held | apply done_held | apply State.setRing_held | apply State.mailboxGo_held | apply held_foldl | (fail_if_no_progress (with_reducible apply held_mk; with_reducible apply held_fold)) | extract_lets | dsimp only | dsimp +zetaDelta only)

theorem State.sealGone_held (s : State) (r : Nat) (node : Nat) (hs : Held qs s) : Held qs (State.sealGone s r node) := by
  unfold State.sealGone
  repeat' (first | intro _ | with_reducible first | assumption | apply State.emit_held | apply held_ite | apply held_foldl | (fail_if_no_progress (with_reducible apply held_mk; with_reducible apply held_fold)) | split | extract_lets | dsimp only | dsimp +zetaDelta only)

theorem State.responseFrame_held (s : State) (r : Nat) (node : Nat) (opc : Nat) (nstat : Nat) (payload : List Byte) (hs : Held qs s) : Held qs (State.responseFrame s r node opc nstat payload) := by
  unfold State.responseFrame
  repeat' (first | intro _ | with_reducible first | assumption | apply State.setRing_held | apply State.rosterCheck_held | apply State.enumAnswer_held | apply State.mailboxDone_held | apply State.sealGone_held | apply held_ite | (fail_if_no_progress (with_reducible apply held_mk; with_reducible apply held_fold)) | split | extract_lets | dsimp only | dsimp +zetaDelta only)

theorem execEchoReply_held (at_ : Nat) (ring : Nat) (endB : Bool) (line : Line) (rt : Nat) (s : State) (hs : Held qs s) : ∃ out, execEchoReply at_ ring endB line rt s = .next out ∧ Held qs out := by
  refine ⟨_, rfl, ?_⟩
  repeat' (first | intro _ | with_reducible first | assumption | apply State.at_held | apply done_held | apply onRing_held | apply State.takeDelay_held | apply State.mailboxDone_held | apply held_ite | (fail_if_no_progress (with_reducible apply held_mk; with_reducible apply held_fold)) | split | extract_lets | dsimp only | dsimp +zetaDelta only)

theorem execEchoSchedule_held (at_ : Nat) (ring : Nat) (s : State) (hs : Held qs s) : ∃ out, execEchoSchedule at_ ring s = .next out ∧ Held qs out := by
  refine ⟨_, rfl, ?_⟩
  repeat' (first | intro _ | with_reducible first | assumption | apply State.at_held | apply done_held | apply onRing_held | apply State.queueCmds_held | apply held_ite | split | dsimp only)

theorem State.breakSet_held (s : State) (r : Nat) (node : Nat) (upstream : Bool) (endB : Bool) (hs : Held qs s) : Held qs (State.breakSet s r node upstream endB) := by
  unfold State.breakSet
  repeat' (first | intro _ | with_reducible first | assumption | apply State.openEnum_held | apply State.declareBreak_held | apply held_ite | split | extract_lets | dsimp only | dsimp +zetaDelta only)

theorem execBreakSetReceived_held (at_ : Nat) (ring : Nat) (endB : Bool) (rd : Bool) (groups : List Nat) (s : State) (hs : Held qs s) : ∃ out, execBreakSetReceived at_ ring endB rd groups s = .next out ∧ Held qs out := by
  refine ⟨_, rfl, ?_⟩
  repeat' (first | intro _ | with_reducible first | assumption | apply State.at_held | apply done_held | apply onRing_held | apply State.breakSet_held | (fail_if_no_progress (with_reducible apply held_mk; with_reducible apply held_fold)) | split | dsimp only)

theorem State.breakUnplaced_held (s : State) (r : Nat) (hs : Held qs s) : Held qs (State.breakUnplaced s r) := by
  unfold State.breakUnplaced
  repeat' (first | intro _ | with_reducible first | assumption | apply State.openEnum_held | apply State.declareBreak_held | apply held_ite | split)

theorem execTrainEndBTimeout_held (at_ : Nat) (ring : Nat) (s : State) (hs : Held qs s) : ∃ out, execTrainEndBTimeout at_ ring s = .next out ∧ Held qs out := by
  refine ⟨_, rfl, ?_⟩
  repeat' (first | intro _ | with_reducible first | assumption | apply State.at_held | apply done_held | apply onRing_held | apply State.breakUnplaced_held | dsimp only)

theorem execTransitRejoin_held (r : Req) (ring : Nat) (s : State) (hs : Held qs s) : ∃ out, execTransitRejoin r ring s = .next out ∧ Held qs out := by
  refine ⟨_, rfl, ?_⟩
  repeat' (first | intro _ | with_reducible first | assumption | apply runCmd_held | apply okEff_held | apply done_held | apply State.beginRejoin_held | dsimp only)

theorem execAutoRejoin_held (at_ : Nat) (ring : Nat) (s : State) (hs : Held qs s) : ∃ out, execAutoRejoin at_ ring s = .next out ∧ Held qs out := by
  refine ⟨_, rfl, ?_⟩
  repeat' (first | intro _ | with_reducible first | assumption | apply State.at_held | apply done_held | apply onRing_held | apply State.beginRejoin_held | apply held_ite | split | dsimp only)

theorem State.sendBleeds_held (s : State) (r : Nat) (hs : Held qs s) : Held qs (State.sendBleeds s r) := by
  unfold State.sendBleeds
  repeat' (first | intro _ | with_reducible first | assumption | apply State.setRing_held | apply held_ite | (fail_if_no_progress (with_reducible apply held_mk; with_reducible apply held_fold)) | split | extract_lets | dsimp only | dsimp +zetaDelta only)

theorem State.judgeLinks_held (s : State) (r : Nat) (k : Nat) (hs : Held qs s) : Held qs (State.judgeLinks s r k) := by
  unfold State.judgeLinks
  repeat' (first | intro _ | with_reducible first | assumption | apply State.setRing_held | apply held_ite | (fail_if_no_progress (with_reducible apply held_mk; with_reducible apply held_fold)) | split | extract_lets | dsimp only | dsimp +zetaDelta only)

theorem State.asmDuties_held (s : State) (r : Nat) (k : Nat) (hs : Held qs s) : Held qs (State.asmDuties s r k) := by
  unfold State.asmDuties
  repeat' (first | intro _ | with_reducible first | assumption | apply State.bump_held | apply State.setRing_held | apply State.queueCmds_held | apply held_ite | (fail_if_no_progress (with_reducible apply held_mk; with_reducible apply held_fold)) | split | extract_lets | dsimp only | dsimp +zetaDelta only)

theorem State.depart_held (s : State) (r : Nat) (hs : Held qs s) : Held qs (State.depart s r) := by
  unfold State.depart
  repeat' (first | intro _ | with_reducible first | assumption | apply State.recoverNow_held | apply State.setRing_held | apply State.rejoinStep_held | apply State.slotCmd_held | apply State.breakStep_held | apply State.enumStep_held | apply State.sendBleeds_held | apply State.judgeLinks_held | apply State.asmDuties_held | apply held_ite | (with_reducible apply held_pair (by with_reducible assumption)) | (with_reducible apply held_pair2 (by with_reducible assumption)) | (fail_if_no_progress (with_reducible apply held_mk; with_reducible apply held_fold)) | split | extract_lets | dsimp only | dsimp +zetaDelta only)

theorem execTrainDeparture_held (at_ : Nat) (ring : Nat) (s : State) (hs : Held qs s) : ∃ out, execTrainDeparture at_ ring s = .next out ∧ Held qs out := by
  refine ⟨_, rfl, ?_⟩
  repeat' (first | intro _ | with_reducible first | assumption | apply State.at_held | apply done_held | apply onRing_held | apply State.depart_held | dsimp only)

theorem State.presence_held (s : State) (r : Nat) (hs : Held qs s) : Held qs (State.presence s r) := by
  unfold State.presence
  repeat' (first | intro _ | with_reducible first | assumption | apply State.dropPresent_held | apply State.nodeReset_held | apply held_ite | apply held_foldl | (fail_if_no_progress (with_reducible apply held_mk; with_reducible apply held_fold)) | split | extract_lets | dsimp only | dsimp +zetaDelta only)

theorem State.presences_held (s : State) (hs : Held qs s) : Held qs (State.presences s) := by
  unfold State.presences
  repeat' (first | intro _ | with_reducible first | assumption | apply State.presence_held | apply held_foldl | dsimp only)

theorem State.requestMissing_held (s : State) (r : Nat) (k : Nat) (endB : Bool) (hs : Held qs s) : Held qs (State.requestMissing s r k endB) := by
  unfold State.requestMissing
  repeat' (first | intro _ | with_reducible first | assumption | apply State.askRetx_held | apply held_ite | split | extract_lets | dsimp only | dsimp +zetaDelta only)

theorem State.fillGap_held (s : State) (r : Nat) (endB : Bool) (hs : Held qs s) : Held qs (State.fillGap s r endB) := by
  unfold State.fillGap
  repeat' (first | intro _ | with_reducible first | assumption | apply State.sendCollect_held | apply held_ite | split)

theorem State.putLoop_held (s : State) (r : Nat) (loopNs : Nat) (hs : Held qs s) : Held qs (State.putLoop s r loopNs) := by
  unfold State.putLoop
  repeat' (first | intro _ | with_reducible first | assumption | apply State.fput_held | apply State.raise_held | apply held_ite | split | extract_lets | dsimp only | dsimp +zetaDelta only)

theorem State.trainReceived_held (s : State) (r : Nat) (endB : Bool) (tstamp : Option Nat) (loopNs : Nat) (intact : Bool) (hs : Held qs s) : Held qs (State.trainReceived s r endB tstamp loopNs intact) := by
  unfold State.trainReceived
  repeat' (first | intro _ | with_reducible first | assumption | apply State.breakUnplaced_held | apply State.presence_held | apply State.requestMissing_held | apply State.fillGap_held | apply State.putLoop_held | apply held_ite | (fail_if_no_progress (with_reducible apply held_mk; with_reducible apply held_fold)) | split | extract_lets | dsimp only | dsimp +zetaDelta only)

theorem execTrainReceived_held (at_ : Nat) (ring : Nat) (e : TrainTail) (intact : Bool) (s : State) (hs : Held qs s) : ∃ out, execTrainReceived at_ ring e intact s = .next out ∧ Held qs out := by
  refine ⟨_, rfl, ?_⟩
  repeat' (first | intro _ | with_reducible first | assumption | apply State.at_held | apply done_held | apply onRing_held | apply State.trainReceived_held | dsimp only)

theorem State.frameMissing_held (s : State) (r : Nat) (node : Nat) (k : Nat) (hs : Held qs s) : Held qs (State.frameMissing s r node k) := by
  unfold State.frameMissing
  repeat' (first | intro _ | with_reducible first | assumption | apply State.fput_held | apply State.bump_held | apply State.emit_held | apply State.setRing_held | apply State.dropPresent_held | apply held_ite | (fail_if_no_progress (with_reducible apply held_mk; with_reducible apply held_fold)) | split | extract_lets | dsimp only | dsimp +zetaDelta only)

theorem execFrameMissing_held (at_ : Nat) (ring : Nat) (node : Nat) (k : Nat) (s : State) (hs : Held qs s) : ∃ out, execFrameMissing at_ ring node k s = .next out ∧ Held qs out := by
  refine ⟨_, rfl, ?_⟩
  repeat' (first | intro _ | with_reducible first | assumption | apply State.at_held | apply done_held | apply onRing_held | apply State.frameMissing_held | dsimp only)

theorem State.los_held (s : State) (r : Nat) (endB : Bool) (hs : Held qs s) : Held qs (State.los s r endB) := by
  unfold State.los
  repeat' (first | intro _ | with_reducible first | assumption | apply State.fput_held | apply State.breakSet_held | apply held_ite | (fail_if_no_progress (with_reducible apply held_mk; with_reducible apply held_fold)) | split | extract_lets | dsimp only | dsimp +zetaDelta only)

theorem execLosDeclare_held (at_ : Nat) (ring : Nat) (endB : Bool) (s : State) (hs : Held qs s) : ∃ out, execLosDeclare at_ ring endB s = .next out ∧ Held qs out := by
  refine ⟨_, rfl, ?_⟩
  repeat' (first | intro _ | with_reducible first | assumption | apply State.at_held | apply done_held | apply onRing_held | apply State.los_held | dsimp only)

theorem execLosClear_held (at_ : Nat) (ring : Nat) (endB : Bool) (s : State) (hs : Held qs s) : ∃ out, execLosClear at_ ring endB s = .next out ∧ Held qs out := by
  refine ⟨_, rfl, ?_⟩
  repeat' (first | intro _ | with_reducible first | assumption | apply State.fput_held | apply State.at_held | apply done_held | apply onRing_held | apply held_ite | split | dsimp only)

theorem execTransitSetAssembly_held (r : Req) (rings : Nat) (s : State) (hs : Held qs s) : ∃ out, execTransitSetAssembly r rings s = .next out ∧ Held qs out := by
  refine ⟨_, rfl, ?_⟩
  repeat' (first | intro _ | with_reducible first | assumption | apply State.fput_held | apply runCmd_held | apply okEff_held | apply done_held | dsimp only)

theorem execTransitRead_held (r : Req) (ring : Nat) (s : State) (hs : Held qs s) : ∃ out, execTransitRead r ring s = .next out ∧ Held qs out := by
  refine ⟨_, rfl, ?_⟩
  repeat' (first | intro _ | with_reducible first | assumption | apply runCmd_held | apply readEff_held | apply done_held | dsimp only)

theorem execRateRegisterWrite_held (w : Wr) (s : State) (hs : Held qs s) : ∃ out, execRateRegisterWrite w s = .next out ∧ Held qs out := by
  refine ⟨_, rfl, ?_⟩
  repeat' (first | intro _ | with_reducible first | assumption | apply State.writeWord_held | apply done_held | apply guarded_held | apply State.requestRate_held | apply State.stopRing_held | apply held_ite | split | extract_lets | dsimp only | dsimp +zetaDelta only)

theorem State.setUp_held (s : State) (u : Uplink) (hs : Held qs s) : Held qs (State.setUp s u) := by
  unfold State.setUp
  repeat' (first | intro _ | with_reducible first | assumption | (fail_if_no_progress (with_reducible apply held_mk; with_reducible apply held_fold)))

theorem State.commandFrame_held (s : State) (addr : Nat) (opc : Nat) (payload : List Byte) (hs : Held qs s) : Held qs (State.commandFrame s addr opc payload) := by
  unfold State.commandFrame
  repeat' (first | intro _ | with_reducible first | assumption | apply State.drawn_held | apply State.answer_held | apply State.setUp_held | apply held_ite | (fail_if_no_progress (with_reducible apply held_mk; with_reducible apply held_fold)) | split | extract_lets | dsimp only | dsimp +zetaDelta only)

theorem State.insertFrames_held (s : State) (h : TrainHead) (held : Nat) (cstamp : Nat) (own : Option (List Byte)) (hs : Held qs s) : Held qs (State.insertFrames s h held cstamp own) := by
  unfold State.insertFrames
  repeat' (first | intro _ | with_reducible first | assumption | apply State.setUp_held | apply held_ite | (with_reducible apply held_pair (by with_reducible assumption)) | (with_reducible apply held_pair2 (by with_reducible assumption)) | (fail_if_no_progress (with_reducible apply held_mk; with_reducible apply held_fold)) | split | extract_lets | dsimp only | dsimp +zetaDelta only)

/-! ### Almanac -/

theorem State.invalidate_held (s : State) (a : Nat) (hs : Held qs s) : Held qs (State.invalidate s a) := by
  unfold State.invalidate
  repeat' (first | intro _ | with_reducible first | assumption | apply State.setByte_held)

theorem State.dropSlot_held (s : State) (a : Nat) (hs : Held qs s) : Held qs (State.dropSlot s a) := by
  unfold State.dropSlot
  repeat' (first | intro _ | with_reducible first | assumption | apply State.fput_held | apply State.heal_held | apply State.setRing_held | apply State.invalidate_held | apply held_ite | (fail_if_no_progress (with_reducible apply held_mk; with_reducible apply held_fold)) | split | extract_lets | dsimp only | dsimp +zetaDelta only)

theorem State.dropPack_held (s : State) (k : Nat) (hs : Held qs s) : Held qs (State.dropPack s k) := by
  unfold State.dropPack
  repeat' (first | intro _ | with_reducible first | assumption | apply State.heal_held | apply State.invalidate_held | apply held_ite | split | extract_lets | dsimp only | dsimp +zetaDelta only)

theorem State.readSlot_held (s : State) (a : Nat) (hs : Held qs s) : Held qs (State.readSlot s a) := by
  unfold State.readSlot
  repeat' (first | intro _ | with_reducible first | assumption | apply State.checkRead_held | apply State.dropSlot_held | apply held_ite | (with_reducible apply held_pair (by with_reducible assumption)) | (with_reducible apply held_pair2 (by with_reducible assumption)) | split | extract_lets | dsimp only | dsimp +zetaDelta only)

theorem State.readPack_held (s : State) (k : Nat) (hs : Held qs s) : Held qs (State.readPack s k) := by
  unfold State.readPack
  repeat' (first | intro _ | with_reducible first | assumption | apply State.checkRead_held | apply State.dropPack_held | apply held_ite | (with_reducible apply held_pair (by with_reducible assumption)) | (with_reducible apply held_pair2 (by with_reducible assumption)) | split | extract_lets | dsimp only | dsimp +zetaDelta only)

theorem State.readRow_held (s : State) (k : Nat) (hs : Held qs s) : Held qs (State.readRow s k) := by
  unfold State.readRow
  repeat' (first | intro _ | with_reducible first | assumption | apply State.readSlot_held | apply State.readPack_held | apply held_foldl | dsimp only)

theorem State.clearRow_held (s : State) (k : Nat) (hs : Held qs s) : Held qs (State.clearRow s k) := by
  unfold State.clearRow
  repeat' (first | intro _ | with_reducible first | assumption | apply State.invalidate_held | apply held_foldl | dsimp only)

theorem State.clearStore_held (s : State) (hs : Held qs s) : Held qs (State.clearStore s) := by
  unfold State.clearStore
  repeat' (first | intro _ | with_reducible first | assumption | apply State.clearRow_held | apply held_foldl | dsimp only)

theorem State.loseLate_held (s : State) (k : Nat) (hs : Held qs s) : Held qs (State.loseLate s k) := by
  unfold State.loseLate
  repeat' (first | intro _ | with_reducible first | assumption | apply State.fput_held | apply State.bumpBy_held | apply State.raise_held | apply held_ite | (fail_if_no_progress (with_reducible apply held_mk; with_reducible apply held_fold)) | split | extract_lets | dsimp only | dsimp +zetaDelta only)

theorem State.fold_held (s : State) (xs : List LateRef) (hs : Held qs s) : Held qs (State.fold s xs) := by
  unfold State.fold
  repeat' (first | intro _ | with_reducible first | assumption | apply held_ite | (fail_if_no_progress (with_reducible apply held_mk; with_reducible apply held_fold)) | split)

theorem State.foldQueue_held (s : State) (hs : Held qs s) : Held qs (State.foldQueue s) := by
  unfold State.foldQueue
  repeat' (first | intro _ | with_reducible first | assumption | apply State.fput_held | apply State.fold_held | (fail_if_no_progress (with_reducible apply held_mk; with_reducible apply held_fold)) | extract_lets | dsimp only | dsimp +zetaDelta only)

theorem State.storeLate_held (s : State) (x : LateRef) (flags : Nat) (hs : Held qs s) : Held qs (State.storeLate s x flags) := by
  unfold State.storeLate
  repeat' (first | intro _ | with_reducible first | assumption | apply State.fput_held | apply State.bump_held | apply State.raise_held | apply State.setByte_held | apply held_ite | (fail_if_no_progress (with_reducible apply held_mk; with_reducible apply held_fold)) | split | extract_lets | dsimp only | dsimp +zetaDelta only)

theorem execLqAck_held (w : Wr) (s : State) (hs : Held qs s) : ∃ out, execLqAck w s = .next out ∧ Held qs out := by
  refine ⟨_, rfl, ?_⟩
  repeat' (first | intro _ | with_reducible first | assumption | apply State.fput_held | apply done_held | apply guarded_held | dsimp only)

theorem State.noteFrame_held (s : State) (r : Nat) (n : Nat) (k : Nat) (seq : Nat) (status : Nat) (fixed : Bool) (hs : Held qs s) : Held qs (State.noteFrame s r n k seq status fixed) := by
  unfold State.noteFrame
  repeat' (first | intro _ | with_reducible first | assumption | apply State.fput_held | apply State.bump_held | apply State.putBit_held | apply State.setRing_held | apply held_ite | (fail_if_no_progress (with_reducible apply held_mk; with_reducible apply held_fold)) | split | extract_lets | dsimp only | dsimp +zetaDelta only)

theorem State.capture_held (s : State) (r : Nat) (n : Nat) (k : Nat) (fixed : Bool) (kind : Nat) (bs : List Byte) (hs : Held qs s) : Held qs (State.capture s r n k fixed kind bs) := by
  unfold State.capture
  repeat' (first | intro _ | with_reducible first | assumption | apply State.write_held | apply State.storeLate_held | apply held_ite | split | extract_lets | dsimp only | dsimp +zetaDelta only)

theorem State.bleedEvent_held (s : State) (r : Nat) (n : Nat) (status : Nat) (bs : List Byte) (hs : Held qs s) : Held qs (State.bleedEvent s r n status bs) := by
  unfold State.bleedEvent
  repeat' (first | intro _ | with_reducible first | assumption | apply State.emit_held | apply held_ite | apply held_foldl | split | extract_lets | dsimp only | dsimp +zetaDelta only)

theorem State.cellFrame_held (s : State) (r : Nat) (bs : List Byte) (hs : Held qs s) : Held qs (State.cellFrame s r bs) := by
  unfold State.cellFrame
  repeat' (first | intro _ | with_reducible first | assumption | apply State.bump_held | apply State.nodeReset_held | apply State.noteFrame_held | apply State.capture_held | apply State.bleedEvent_held | apply held_ite | (fail_if_no_progress (with_reducible apply held_mk; with_reducible apply held_fold)) | split | extract_lets | dsimp only | dsimp +zetaDelta only)

theorem State.asmFrame_held (s : State) (r : Nat) (tstamp : Nat) (bs : List Byte) (hs : Held qs s) : Held qs (State.asmFrame s r tstamp bs) := by
  unfold State.asmFrame
  repeat' (first | intro _ | with_reducible first | assumption | apply State.bump_held | apply State.noteFrame_held | apply State.capture_held | apply held_ite | split | extract_lets | dsimp only | dsimp +zetaDelta only)

theorem execFrameReceived_held (at_ : Nat) (ring : Nat) (tstamp : Nat) (line : Line) (s : State) (hs : Held qs s) : ∃ out, execFrameReceived at_ ring tstamp line s = .next out ∧ Held qs out := by
  refine ⟨_, rfl, ?_⟩
  repeat' (first | intro _ | with_reducible first | assumption | apply State.bump_held | apply State.at_held | apply done_held | apply onRing_held | apply State.cellFrame_held | apply State.asmFrame_held | (fail_if_no_progress (with_reducible apply held_mk; with_reducible apply held_fold)) | split | dsimp only)

theorem State.channelFault_held (s : State) (c : Nat) (hs : Held qs s) : Held qs (State.channelFault s c) := by
  unfold State.channelFault
  repeat' (first | intro _ | with_reducible first | assumption | apply State.fput_held | apply State.recoverWithin_held | apply State.doubleFault_held | apply State.elementFault_held | apply held_ite | (fail_if_no_progress (with_reducible apply held_mk; with_reducible apply held_fold)) | split | extract_lets | dsimp only | dsimp +zetaDelta only)

theorem execAlmanacChannelFault_held (at_ : Nat) (chan : Nat) (s : State) (hs : Held qs s) : ∃ out, execAlmanacChannelFault at_ chan s = .next out ∧ Held qs out := by
  refine ⟨_, rfl, ?_⟩
  repeat' (first | intro _ | with_reducible first | assumption | apply State.at_held | apply done_held | apply State.channelFault_held | apply held_ite | apply held_foldl | (with_reducible apply held_pair (by with_reducible assumption)) | (with_reducible apply held_pair2 (by with_reducible assumption)) | (fail_if_no_progress (with_reducible apply held_mk; with_reducible apply held_fold)) | split | extract_lets | dsimp only | dsimp +zetaDelta only)

theorem execCaptureSetLateness_held (r : Req) (ring : Nat) (bound : Nat) (s : State) (hs : Held qs s) : ∃ out, execCaptureSetLateness r ring bound s = .next out ∧ Held qs out := by
  refine ⟨_, rfl, ?_⟩
  repeat' (first | intro _ | with_reducible first | assumption | apply State.fput_held | apply runCmd_held | apply okEff_held | apply done_held | dsimp only)

theorem execCaptureReadEntries_held (r : Req) (ring : Nat) (mask : Nat) (first : Nat) (last : Nat) (s : State) (hs : Held qs s) : ∃ out, execCaptureReadEntries r ring mask first last s = .next out ∧ Held qs out := by
  refine ⟨_, rfl, ?_⟩
  repeat' (first | intro _ | with_reducible first | assumption | apply runCmd_held | apply done_held | apply State.readRow_held | apply held_foldl | extract_lets | dsimp only | dsimp +zetaDelta only)

theorem execCaptureTimeMark_held (r : Req) (secs : Nat) (nanos : Nat) (s : State) (hs : Held qs s) : ∃ out, execCaptureTimeMark r secs nanos s = .next out ∧ Held qs out := by
  refine ⟨_, rfl, ?_⟩
  repeat' (first | intro _ | with_reducible first | assumption | apply State.emit_held | apply runCmd_held | apply okEff_held | apply done_held | dsimp only)

theorem State.loseDisc_held (s : State) (hs : Held qs s) : Held qs (State.loseDisc s) := by
  unfold State.loseDisc
  repeat' (first | intro _ | with_reducible first | assumption | apply State.fput_held | apply State.raise_held | apply held_ite | split)

theorem State.timeHi_held (s : State) (stamp : Nat) (hs : Held qs s) : Held qs (State.timeHi s stamp) := by
  unfold State.timeHi
  repeat' (first | intro _ | with_reducible first | assumption | apply State.fput_held | apply held_ite | (fail_if_no_progress (with_reducible apply held_mk; with_reducible apply held_fold)) | split | extract_lets | dsimp only | dsimp +zetaDelta only)

theorem execTimeHi_held (at_ : Nat) (stamp : Nat) (s : State) (hs : Held qs s) : ∃ out, execTimeHi at_ stamp s = .next out ∧ Held qs out := by
  refine ⟨_, rfl, ?_⟩
  repeat' (first | intro _ | with_reducible first | assumption | apply State.at_held | apply done_held | apply State.timeHi_held)

theorem State.stepForward_held (s : State) (hs : Held qs s) : Held qs (State.stepForward s) := by
  unfold State.stepForward
  repeat' (first | intro _ | with_reducible first | assumption | apply State.fput_held | apply State.raise_held | apply State.at_held | apply State.emit_held | (fail_if_no_progress (with_reducible apply held_mk; with_reducible apply held_fold)) | split | extract_lets | dsimp only | dsimp +zetaDelta only)

theorem State.discHoldover_held (s : State) (hs : Held qs s) : Held qs (State.discHoldover s) := by
  unfold State.discHoldover
  repeat' (first | intro _ | with_reducible first | assumption | apply State.fput_held | apply State.loseDisc_held | (fail_if_no_progress (with_reducible apply held_mk; with_reducible apply held_fold)))

theorem State.syncMissed_held (s : State) (hs : Held qs s) : Held qs (State.syncMissed s) := by
  unfold State.syncMissed
  repeat' (first | intro _ | with_reducible first | assumption | apply State.discHoldover_held | apply held_ite | (fail_if_no_progress (with_reducible apply held_mk; with_reducible apply held_fold)) | split | extract_lets | dsimp only | dsimp +zetaDelta only)

theorem State.uplinkSync_held (s : State) (err : Int) (hs : Held qs s) : Held qs (State.uplinkSync s err) := by
  unfold State.uplinkSync
  repeat' (first | intro _ | with_reducible first | assumption | apply State.fput_held | apply State.fputs_held | apply State.drawn_held | apply State.loseDisc_held | apply held_ite | (fail_if_no_progress (with_reducible apply held_mk; with_reducible apply held_fold)) | split | extract_lets | dsimp only | dsimp +zetaDelta only)

theorem execDiscHoldover_held (at_ : Nat) (s : State) (hs : Held qs s) : ∃ out, execDiscHoldover at_ s = .next out ∧ Held qs out := by
  refine ⟨_, rfl, ?_⟩
  repeat' (first | intro _ | with_reducible first | assumption | apply State.at_held | apply done_held | apply State.discHoldover_held | apply held_ite | apply held_foldl | (with_reducible apply held_pair (by with_reducible assumption)) | (with_reducible apply held_pair2 (by with_reducible assumption)) | (fail_if_no_progress (with_reducible apply held_mk; with_reducible apply held_fold)) | split | extract_lets | dsimp only | dsimp +zetaDelta only)

/-! ### Spectro -/

theorem State.setSpgCell_held (s : State) (i : Nat) (x : SpgCell) (hs : Held qs s) : Held qs (State.setSpgCell s i x) := by
  unfold State.setSpgCell
  repeat' (first | intro _ | with_reducible first | assumption | (fail_if_no_progress (with_reducible apply held_mk; with_reducible apply held_fold)))

theorem State.feedCell_held (s : State) (i : Nat) (v : Option Int) (hs : Held qs s) : Held qs (State.feedCell s i v) := by
  unfold State.feedCell
  repeat' (first | intro _ | with_reducible first | assumption | apply State.bump_held | apply State.setSpgCell_held | apply held_ite | (with_reducible apply held_pair (by with_reducible assumption)) | (with_reducible apply held_pair2 (by with_reducible assumption)) | split | extract_lets | dsimp only | dsimp +zetaDelta only)

theorem State.feedCurrent_held (s : State) (v : Option Int) (hs : Held qs s) : Held qs (State.feedCurrent s v) := by
  unfold State.feedCurrent
  repeat' (first | intro _ | with_reducible first | assumption | apply State.bump_held | apply State.setSpgCell_held | apply held_ite | (fail_if_no_progress (with_reducible apply held_mk; with_reducible apply held_fold)) | split | extract_lets | dsimp only | dsimp +zetaDelta only)

theorem State.updateTemp_held (s : State) (i : Nat) (n : Nat) (hs : Held qs s) : Held qs (State.updateTemp s i n) := by
  unfold State.updateTemp
  repeat' (first | intro _ | with_reducible first | assumption | apply held_ite | (with_reducible apply held_pair (by with_reducible assumption)) | (with_reducible apply held_pair2 (by with_reducible assumption)) | (fail_if_no_progress (with_reducible apply held_mk; with_reducible apply held_fold)) | split | extract_lets | dsimp only | dsimp +zetaDelta only)

theorem State.foldOne_held (s : State) (i : Nat) (n : Nat) (a : Nat) (ii : Nat) (irms : Nat) (stamp : Nat) (ai : Int × Int) (hs : Held qs s) : Held qs (State.foldOne s i n a ii irms stamp ai) := by
  unfold State.foldOne
  repeat' (first | intro _ | with_reducible first | assumption | apply State.setSpgCell_held | apply State.updateTemp_held | apply held_ite | (with_reducible apply held_pair (by with_reducible assumption)) | (with_reducible apply held_pair2 (by with_reducible assumption)) | (fail_if_no_progress (with_reducible apply held_mk; with_reducible apply held_fold)) | split | extract_lets | dsimp only | dsimp +zetaDelta only)

theorem State.foldBin_held (s : State) (n : Nat) (stamp : Nat) (hs : Held qs s) : Held qs (State.foldBin s n stamp) := by
  unfold State.foldBin
  repeat' (first | intro _ | with_reducible first | assumption | apply State.fput_held | apply State.fputs_held | apply State.bump_held | apply State.raise_held | apply State.setSpgCell_held | apply State.foldOne_held | apply held_ite | apply held_foldl | (fail_if_no_progress (with_reducible apply held_mk; with_reducible apply held_fold)) | split | extract_lets | dsimp only | dsimp +zetaDelta only)

theorem State.dump_held (s : State) (m : Nat) (k : Nat) (hs : Held qs s) : Held qs (State.dump s m k) := by
  unfold State.dump
  repeat' (first | intro _ | with_reducible first | assumption | apply State.fput_held | apply State.foldBin_held | apply held_ite | apply held_foldl | (fail_if_no_progress (with_reducible apply held_mk; with_reducible apply held_fold)) | split | extract_lets | dsimp only | dsimp +zetaDelta only)

theorem State.spgSample_held (s : State) (k : Nat) (hs : Held qs s) : Held qs (State.spgSample s k) := by
  unfold State.spgSample
  repeat' (first | intro _ | with_reducible first | assumption | apply State.feedCell_held | apply State.feedCurrent_held | apply State.dump_held | apply held_ite | apply held_foldl | (fail_if_no_progress (with_reducible apply held_mk; with_reducible apply held_fold)) | split | extract_lets | dsimp only | dsimp +zetaDelta only)

theorem State.voidSegments_held (s : State) (hs : Held qs s) : Held qs (State.voidSegments s) := by
  unfold State.voidSegments
  repeat' (first | intro _ | with_reducible first | assumption | (fail_if_no_progress (with_reducible apply held_mk; with_reducible apply held_fold)) | dsimp only)

theorem State.spgPass_held (s : State) (k : Nat) (hs : Held qs s) : Held qs (State.spgPass s k) := by
  unfold State.spgPass
  repeat' (first | intro _ | with_reducible first | assumption | apply State.spgSample_held | apply State.voidSegments_held | apply held_ite | (fail_if_no_progress (with_reducible apply held_mk; with_reducible apply held_fold)) | split | extract_lets | dsimp only | dsimp +zetaDelta only)

theorem State.discardSegments_held (s : State) (hs : Held qs s) : Held qs (State.discardSegments s) := by
  unfold State.discardSegments
  repeat' (first | intro _ | with_reducible first | assumption | (fail_if_no_progress (with_reducible apply held_mk; with_reducible apply held_fold)) | dsimp only)

theorem State.putBinRate_held (s : State) (rate : Nat) (hs : Held qs s) : Held qs (State.putBinRate s rate) := by
  unfold State.putBinRate
  repeat' (first | intro _ | with_reducible first | assumption | apply State.fputs_held | apply held_foldl | dsimp only)

theorem State.spgRateEffect_held (s : State) (rate : Nat) (k : Nat) (hs : Held qs s) : Held qs (State.spgRateEffect s rate k) := by
  unfold State.spgRateEffect
  repeat' (first | intro _ | with_reducible first | assumption | apply State.fputs_held | apply State.raise_held | apply State.discardSegments_held | apply State.putBinRate_held | apply held_ite | (fail_if_no_progress (with_reducible apply held_mk; with_reducible apply held_fold)) | split | extract_lets | dsimp only | dsimp +zetaDelta only)

theorem execTwiddleTableBuilt_held (at_ : Nat) (s : State) (hs : Held qs s) : ∃ out, execTwiddleTableBuilt at_ s = .next out ∧ Held qs out := by
  refine ⟨_, rfl, ?_⟩
  repeat' (first | intro _ | with_reducible first | assumption | apply State.fput_held | apply State.at_held | apply done_held)

theorem execSpgEnableWrite_held (w : Wr) (s : State) (hs : Held qs s) : ∃ out, execSpgEnableWrite w s = .next out ∧ Held qs out := by
  refine ⟨_, rfl, ?_⟩
  repeat' (first | intro _ | with_reducible first | assumption | apply State.fput_held | apply State.writeWord_held | apply done_held | apply guarded_held | apply State.discardSegments_held | apply held_ite | apply held_foldl | (fail_if_no_progress (with_reducible apply held_mk; with_reducible apply held_fold)) | split | extract_lets | dsimp only | dsimp +zetaDelta only)

theorem State.resetAverages_held (s : State) (p : Nat → Bool) (first : Nat) (last : Nat) (valid : Bool) (hs : Held qs s) : Held qs (State.resetAverages s p first last valid) := by
  unfold State.resetAverages
  repeat' (first | intro _ | with_reducible first | assumption | apply held_ite | (fail_if_no_progress (with_reducible apply held_mk; with_reducible apply held_fold)) | split | dsimp only)

theorem State.newNodeCells_held (s : State) (r : Nat) (n : Nat) (hs : Held qs s) : Held qs (State.newNodeCells s r n) := by
  unfold State.newNodeCells
  repeat' (first | intro _ | with_reducible first | assumption | apply State.resetAverages_held | dsimp only)

theorem State.noteSerials_held (s : State) (r : Nat) (hs : Held qs s) : Held qs (State.noteSerials s r) := by
  unfold State.noteSerials
  repeat' (first | intro _ | with_reducible first | assumption | apply State.newNodeCells_held | apply held_ite | apply held_foldl | (fail_if_no_progress (with_reducible apply held_mk; with_reducible apply held_fold)) | split | extract_lets | dsimp only | dsimp +zetaDelta only)

theorem execResponseFrameReceived_held (at_ : Nat) (ring : Nat) (rd : Bool) (rsp : List Nat) (hdr : List Nat) (data : List Nat) (crc : List Nat) (s : State) (hs : Held qs s) : ∃ out, execResponseFrameReceived at_ ring rd rsp hdr data crc s = .next out ∧ Held qs out := by
  refine ⟨_, rfl, ?_⟩
  repeat' (first | intro _ | with_reducible first | assumption | apply State.bump_held | apply State.at_held | apply done_held | apply onRing_held | apply State.responseFrame_held | apply State.noteSerials_held | (fail_if_no_progress (with_reducible apply held_mk; with_reducible apply held_fold)) | split | dsimp only)

theorem State.evalStarved_held (s : State) (hs : Held qs s) : Held qs (State.evalStarved s) := by
  unfold State.evalStarved
  repeat' (first | intro _ | with_reducible first | assumption | apply State.fput_held | apply State.raise_held | apply held_ite | apply held_foldl | split | extract_lets | dsimp only | dsimp +zetaDelta only)

theorem State.raisePilot_held (s : State) (hs : Held qs s) : Held qs (State.raisePilot s) := by
  unfold State.raisePilot
  repeat' (first | intro _ | with_reducible first | assumption | apply State.fputs_held | apply State.raise_held | apply held_ite | (fail_if_no_progress (with_reducible apply held_mk; with_reducible apply held_fold)) | split | extract_lets | dsimp only | dsimp +zetaDelta only)

theorem State.holdOff_held (s : State) (hs : Held qs s) : Held qs (State.holdOff s) := by
  unfold State.holdOff
  repeat' (first | intro _ | with_reducible first | assumption | apply State.fputs_held | apply State.raise_held | apply State.raisePilot_held | (fail_if_no_progress (with_reducible apply held_mk; with_reducible apply held_fold)) | extract_lets | dsimp only | dsimp +zetaDelta only)

theorem execPilotTimeout_held (at_ : Nat) (s : State) (hs : Held qs s) : ∃ out, execPilotTimeout at_ s = .next out ∧ Held qs out := by
  refine ⟨_, rfl, ?_⟩
  repeat' (first | intro _ | with_reducible first | assumption | apply State.at_held | apply done_held | apply State.holdOff_held | apply held_ite | apply held_foldl | (with_reducible apply held_pair (by with_reducible assumption)) | (with_reducible apply held_pair2 (by with_reducible assumption)) | (fail_if_no_progress (with_reducible apply held_mk; with_reducible apply held_fold)) | split | extract_lets | dsimp only | dsimp +zetaDelta only)

theorem execSpectroPilotState_held (r : Req) (report : Nat) (s : State) (hs : Held qs s) : ∃ out, execSpectroPilotState r report s = .next out ∧ Held qs out := by
  refine ⟨_, rfl, ?_⟩
  repeat' (first | intro _ | with_reducible first | assumption | apply State.fputs_held | apply State.raise_held | apply runCmd_held | apply okEff_held | apply done_held | apply State.raisePilot_held | apply State.holdOff_held | (fail_if_no_progress (with_reducible apply held_mk; with_reducible apply held_fold)) | split | dsimp only)

theorem execSpectroReadPilot_held (r : Req) (s : State) (hs : Held qs s) : ∃ out, execSpectroReadPilot r s = .next out ∧ Held qs out := by
  refine ⟨_, rfl, ?_⟩
  repeat' (first | intro _ | with_reducible first | assumption | apply runCmd_held | apply readEff_held | apply done_held | extract_lets | dsimp only | dsimp +zetaDelta only)

theorem State.fitCell_held (s : State) (i : Nat) (d : FitDue) (hs : Held qs s) : Held qs (State.fitCell s i d) := by
  unfold State.fitCell
  repeat' (first | intro _ | with_reducible first | assumption | apply held_ite | (fail_if_no_progress (with_reducible apply held_mk; with_reducible apply held_fold)) | split | extract_lets | dsimp only | dsimp +zetaDelta only)

theorem execFitOverrun_held (at_ : Nat) (cell : Nat) (s : State) (hs : Held qs s) : ∃ out, execFitOverrun at_ cell s = .next out ∧ Held qs out := by
  refine ⟨_, rfl, ?_⟩
  repeat' (first | intro _ | with_reducible first | assumption | apply State.bump_held | apply State.raise_held | apply State.at_held | apply done_held | apply held_ite | apply held_foldl | (with_reducible apply held_pair (by with_reducible assumption)) | (with_reducible apply held_pair2 (by with_reducible assumption)) | (fail_if_no_progress (with_reducible apply held_mk; with_reducible apply held_fold)) | split | extract_lets | dsimp only | dsimp +zetaDelta only)

theorem execSpectroSetBin_held (r : Req) (first : Nat) (last : Nat) (gate : Nat) (avgsh : Nat) (avgshPilot : Nat) (ifloor : Nat) (agemax : Nat) (s : State) (hs : Held qs s) : ∃ out, execSpectroSetBin r first last gate avgsh avgshPilot ifloor agemax s = .next out ∧ Held qs out := by
  refine ⟨_, rfl, ?_⟩
  repeat' (first | intro _ | with_reducible first | assumption | apply State.fputs_held | apply runCmd_held | apply okEff_held | apply done_held | apply held_foldl | (fail_if_no_progress (with_reducible apply held_mk; with_reducible apply held_fold)) | dsimp only)

theorem execSpectroReadBinState_held (r : Req) (first : Nat) (last : Nat) (s : State) (hs : Held qs s) : ∃ out, execSpectroReadBinState r first last s = .next out ∧ Held qs out := by
  refine ⟨_, rfl, ?_⟩
  repeat' (first | intro _ | with_reducible first | assumption | apply runCmd_held | apply readEff_held | apply done_held | dsimp only)

theorem execSpectroReadImpedance_held (r : Req) (locus : Nat) (first : Nat) (last : Nat) (s : State) (hs : Held qs s) : ∃ out, execSpectroReadImpedance r locus first last s = .next out ∧ Held qs out := by
  refine ⟨_, rfl, ?_⟩
  repeat' (first | intro _ | with_reducible first | assumption | apply runCmd_held | apply readEff_held | apply done_held | apply held_ite | (fail_if_no_progress (with_reducible apply held_mk; with_reducible apply held_fold)) | split | dsimp only)

theorem execSpectroReadFit_held (r : Req) (locus : Nat) (s : State) (hs : Held qs s) : ∃ out, execSpectroReadFit r locus s = .next out ∧ Held qs out := by
  refine ⟨_, rfl, ?_⟩
  repeat' (first | intro _ | with_reducible first | assumption | apply runCmd_held | apply readEff_held | apply done_held | (fail_if_no_progress (with_reducible apply held_mk; with_reducible apply held_fold)) | split | dsimp only)

theorem execSpectroReadTemperature_held (r : Req) (locus : Nat) (s : State) (hs : Held qs s) : ∃ out, execSpectroReadTemperature r locus s = .next out ∧ Held qs out := by
  refine ⟨_, rfl, ?_⟩
  repeat' (first | intro _ | with_reducible first | assumption | apply runCmd_held | apply readEff_held | apply done_held | (fail_if_no_progress (with_reducible apply held_mk; with_reducible apply held_fold)) | split | dsimp only)

theorem execSpectroLoadChemistry_held (r : Req) (t : Nat) (table : List Byte) (s : State) (hs : Held qs s) : ∃ out, execSpectroLoadChemistry r t table s = .next out ∧ Held qs out := by
  refine ⟨_, rfl, ?_⟩
  repeat' (first | intro _ | with_reducible first | assumption | apply runCmd_held | apply okEff_held | apply done_held | (fail_if_no_progress (with_reducible apply held_mk; with_reducible apply held_fold)) | dsimp only)

theorem execSpectroSetNodeChemistry_held (r : Req) (locus : Nat) (t : Nat) (s : State) (hs : Held qs s) : ∃ out, execSpectroSetNodeChemistry r locus t s = .next out ∧ Held qs out := by
  refine ⟨_, rfl, ?_⟩
  repeat' (first | intro _ | with_reducible first | assumption | apply runCmd_held | apply okEff_held | apply done_held | apply held_ite | (fail_if_no_progress (with_reducible apply held_mk; with_reducible apply held_fold)) | split | dsimp only)

theorem execSpectroResetAverages_held (r : Req) (locus : Option Nat) (first : Nat) (last : Nat) (s : State) (hs : Held qs s) : ∃ out, execSpectroResetAverages r locus first last s = .next out ∧ Held qs out := by
  refine ⟨_, rfl, ?_⟩
  repeat' (first | intro _ | with_reducible first | assumption | apply runCmd_held | apply okEff_held | apply done_held | apply State.resetAverages_held | apply held_foldl | (fail_if_no_progress (with_reducible apply held_mk; with_reducible apply held_fold)) | split | extract_lets | dsimp only | dsimp +zetaDelta only)

/-! ### Meridian -/

theorem State.setChannel_held (s : State) (c : Nat) (hs : Held qs s) : Held qs (State.setChannel s c) := by
  unfold State.setChannel
  repeat' (first | intro _ | with_reducible first | assumption | apply held_ite | (fail_if_no_progress (with_reducible apply held_mk; with_reducible apply held_fold)) | split | extract_lets | dsimp only | dsimp +zetaDelta only)

theorem State.dueChannel_held (s : State) (hs : Held qs s) : Held qs (State.dueChannel s) := by
  unfold State.dueChannel
  repeat' (first | intro _ | with_reducible first | assumption | apply State.fputs_held | apply State.raise_held | apply held_ite | split | extract_lets | dsimp only | dsimp +zetaDelta only)

theorem State.chooseChannel_held (s : State) (hs : Held qs s) : Held qs (State.chooseChannel s) := by
  unfold State.chooseChannel
  repeat' (first | intro _ | with_reducible first | assumption | apply State.setChannel_held | (fail_if_no_progress (with_reducible apply held_mk; with_reducible apply held_fold)) | split | extract_lets | dsimp only | dsimp +zetaDelta only)

theorem State.setStuck_held (s : State) (i : Nat) (t : Nat) (hs : Held qs s) : Held qs (State.setStuck s i t) := by
  unfold State.setStuck
  repeat' (first | intro _ | with_reducible first | assumption | apply State.fput_held | (fail_if_no_progress (with_reducible apply held_mk; with_reducible apply held_fold)))

theorem State.clearStuck_held (s : State) (i : Nat) (hs : Held qs s) : Held qs (State.clearStuck s i) := by
  unfold State.clearStuck
  repeat' (first | intro _ | with_reducible first | assumption | apply State.fput_held | (fail_if_no_progress (with_reducible apply held_mk; with_reducible apply held_fold)))

theorem execStuckDetect_held (at_ : Nat) (input : Nat) (s : State) (hs : Held qs s) : ∃ out, execStuckDetect at_ input s = .next out ∧ Held qs out := by
  refine ⟨_, rfl, ?_⟩
  repeat' (first | intro _ | with_reducible first | assumption | apply State.at_held | apply done_held | apply State.setStuck_held | apply held_ite | apply held_foldl | (with_reducible apply held_pair (by with_reducible assumption)) | (with_reducible apply held_pair2 (by with_reducible assumption)) | (fail_if_no_progress (with_reducible apply held_mk; with_reducible apply held_fold)) | split | extract_lets | dsimp only | dsimp +zetaDelta only)

theorem execModfltSet_held (at_ : Nat) (input : Nat) (s : State) (hs : Held qs s) : ∃ out, execModfltSet at_ input s = .next out ∧ Held qs out := by
  refine ⟨_, rfl, ?_⟩
  repeat' (first | intro _ | with_reducible first | assumption | apply State.fput_held | apply State.raise_held | apply State.putBit_held | apply State.at_held | apply done_held | apply State.chooseChannel_held | apply held_ite | apply held_foldl | (with_reducible apply held_pair (by with_reducible assumption)) | (with_reducible apply held_pair2 (by with_reducible assumption)) | (fail_if_no_progress (with_reducible apply held_mk; with_reducible apply held_fold)) | split | extract_lets | dsimp only | dsimp +zetaDelta only)

theorem execModfltClear_held (at_ : Nat) (input : Nat) (s : State) (hs : Held qs s) : ∃ out, execModfltClear at_ input s = .next out ∧ Held qs out := by
  refine ⟨_, rfl, ?_⟩
  repeat' (first | intro _ | with_reducible first | assumption | apply State.fput_held | apply State.putBit_held | apply State.at_held | apply done_held | apply State.chooseChannel_held | apply held_ite | apply held_foldl | (with_reducible apply held_pair (by with_reducible assumption)) | (with_reducible apply held_pair2 (by with_reducible assumption)) | (fail_if_no_progress (with_reducible apply held_mk; with_reducible apply held_fold)) | split | extract_lets | dsimp only | dsimp +zetaDelta only)

theorem State.putPulses_held (s : State) (n : Nat) (hs : Held qs s) : Held qs (State.putPulses s n) := by
  unfold State.putPulses
  repeat' (first | intro _ | with_reducible first | assumption | apply State.fput_held | (fail_if_no_progress (with_reducible apply held_mk; with_reducible apply held_fold)))

theorem State.addEnergy_held (s : State) (j : Nat) (units : Nat) (per : Nat) (hs : Held qs s) : Held qs (State.addEnergy s j units per) := by
  unfold State.addEnergy
  repeat' (first | intro _ | with_reducible first | assumption | apply State.putPulses_held | apply held_ite | (fail_if_no_progress (with_reducible apply held_mk; with_reducible apply held_fold)) | split | extract_lets | dsimp only | dsimp +zetaDelta only)

theorem State.addPower_held (s : State) (per : Nat) (j : Nat) (u : Nat) (i : Option Int) (hs : Held qs s) : Held qs (State.addPower s per j u i) := by
  unfold State.addPower
  repeat' (first | intro _ | with_reducible first | assumption | apply State.addEnergy_held | apply held_ite | (fail_if_no_progress (with_reducible apply held_mk; with_reducible apply held_fold)) | split | extract_lets | dsimp only | dsimp +zetaDelta only)

theorem State.unmetered_held (s : State) (i : Option Int) (hs : Held qs s) : Held qs (State.unmetered s i) := by
  unfold State.unmetered
  repeat' (first | intro _ | with_reducible first | assumption | apply State.bumpBy_held | apply State.raise_held | (fail_if_no_progress (with_reducible apply held_mk; with_reducible apply held_fold)) | extract_lets | dsimp only | dsimp +zetaDelta only)

theorem State.takeBits_held (s : State) (i : Nat) (new : Nat) (hs : Held qs s) : Held qs (State.takeBits s i new).1 := by
  unfold State.takeBits
  repeat' (first | intro _ | with_reducible first | assumption | apply State.fput_held | apply State.setStuck_held | apply State.clearStuck_held | apply held_ite | (with_reducible apply held_pair (by with_reducible assumption)) | (with_reducible apply held_pair2 (by with_reducible assumption)) | (fail_if_no_progress (with_reducible apply held_mk; with_reducible apply held_fold)) | split | extract_lets | dsimp only | dsimp +zetaDelta only)

theorem State.intermediate_held (s0 : State) (cs : List Int) (hs0 : Held qs s0) : Held qs (State.intermediate s0 cs) := by
  unfold State.intermediate
  repeat' (first | intro _ | with_reducible first | assumption | apply State.dueChannel_held | apply held_ite | apply held_foldl | (fail_if_no_progress (with_reducible apply held_mk; with_reducible apply held_fold)) | split | extract_lets | dsimp only | dsimp +zetaDelta only)

theorem State.takeFour_held (s : State) (bits : List Nat) (hs : Held qs s) : Held qs (State.takeFour s bits).1 :=
  held_foldl_pair _ _ _ hs fun t ht i => State.takeBits_held t.1 i (at! bits i 0) ht

theorem execIntermediateSample_held (at_ : Nat) (bits : List Nat) (s : State) (hs : Held qs s) : ∃ out, execIntermediateSample at_ bits s = .next out ∧ Held qs out := by
  refine ⟨_, rfl, ?_⟩
  repeat' (first | intro _ | with_reducible first | assumption | apply State.at_held | apply done_held | apply State.intermediate_held | apply State.takeFour_held | extract_lets | dsimp only | dsimp +zetaDelta only)

theorem State.meterSamples_held (s : State) (k : Nat) (v : Option Nat) (hs : Held qs s) : Held qs (State.meterSamples s k v) := by
  unfold State.meterSamples
  repeat' (first | intro _ | with_reducible first | assumption | apply State.addPower_held | apply State.unmetered_held | apply held_foldl | (fail_if_no_progress (with_reducible apply held_mk; with_reducible apply held_fold)) | split | extract_lets | dsimp only | dsimp +zetaDelta only)

theorem State.packSample_held (s : State) (k : Nat) (cs : List Int) (hs : Held qs s) : Held qs (State.packSample s k cs) := by
  unfold State.packSample
  repeat' (first | intro _ | with_reducible first | assumption | apply State.fputs_held | apply State.write_held | apply State.storeLate_held | apply State.dueChannel_held | apply State.meterSamples_held | apply held_ite | (with_reducible apply held_pair (by with_reducible assumption)) | (with_reducible apply held_pair2 (by with_reducible assumption)) | (fail_if_no_progress (with_reducible apply held_mk; with_reducible apply held_fold)) | split | extract_lets | dsimp only | dsimp +zetaDelta only)

theorem execPackSampleWrite_held (at_ : Nat) (k : Nat) (s : State) (hs : Held qs s) : ∃ out, execPackSampleWrite at_ k s = .next out ∧ Held qs out := by
  refine ⟨_, rfl, ?_⟩
  repeat' (first | intro _ | with_reducible first | assumption | apply State.at_held | apply done_held | apply State.packSample_held | apply held_ite | apply held_foldl | (with_reducible apply held_pair (by with_reducible assumption)) | (with_reducible apply held_pair2 (by with_reducible assumption)) | (fail_if_no_progress (with_reducible apply held_mk; with_reducible apply held_fold)) | split | extract_lets | dsimp only | dsimp +zetaDelta only)

theorem State.commitPeriod_held (s : State) (hs : Held qs s) : Held qs (State.commitPeriod s) := by
  unfold State.commitPeriod
  repeat' (first | intro _ | with_reducible first | assumption | apply State.addEnergy_held | apply held_ite | apply held_foldl | (fail_if_no_progress (with_reducible apply held_mk; with_reducible apply held_fold)) | split | extract_lets | dsimp only | dsimp +zetaDelta only)

theorem State.xfault_held (s : State) (set : Bool) (a : Int) (b : Int) (hs : Held qs s) : Held qs (State.xfault s set a b) := by
  unfold State.xfault
  repeat' (first | intro _ | with_reducible first | assumption | apply State.fput_held | apply State.raise_held | apply State.emit_held)

theorem State.crosscheck_held (s : State) (hs : Held qs s) : Held qs (State.crosscheck s) := by
  unfold State.crosscheck
  repeat' (first | intro _ | with_reducible first | assumption | apply State.fput_held | apply State.bump_held | apply State.xfault_held | apply held_ite | (with_reducible apply held_pair (by with_reducible assumption)) | (with_reducible apply held_pair2 (by with_reducible assumption)) | (fail_if_no_progress (with_reducible apply held_mk; with_reducible apply held_fold)) | split | extract_lets | dsimp only | dsimp +zetaDelta only)

theorem State.exchangeTable_held (s : State) (p : Nat) (hs : Held qs s) : Held qs (State.exchangeTable s p) := by
  unfold State.exchangeTable
  repeat' (first | intro _ | with_reducible first | assumption | apply State.fputs_held | apply State.raise_held | apply State.emit_held | apply held_ite | (fail_if_no_progress (with_reducible apply held_mk; with_reducible apply held_fold)) | split | extract_lets | dsimp only | dsimp +zetaDelta only)

theorem State.meridianPeriod_held (s : State) (p : Nat) (hs : Held qs s) : Held qs (State.meridianPeriod s p) := by
  unfold State.meridianPeriod
  repeat' (first | intro _ | with_reducible first | assumption | apply State.fput_held | apply State.commitPeriod_held | apply State.crosscheck_held | apply State.exchangeTable_held | apply held_ite | apply held_foldl | (fail_if_no_progress (with_reducible apply held_mk; with_reducible apply held_fold)) | split | extract_lets | dsimp only | dsimp +zetaDelta only)

theorem State.classBoundary_held (s : State) (b : Nat) (hs : Held qs s) : Held qs (State.classBoundary s b) := by
  unfold State.classBoundary
  repeat' (first | intro _ | with_reducible first | assumption | apply State.fput_held | (fail_if_no_progress (with_reducible apply held_mk; with_reducible apply held_fold)) | extract_lets | dsimp only | dsimp +zetaDelta only)

theorem State.wweSample_held (s : State) (k : Nat) (hs : Held qs s) : Held qs (State.wweSample s k) := by
  unfold State.wweSample
  repeat' (first | intro _ | with_reducible first | assumption | apply State.addEnergy_held | apply held_ite | (fail_if_no_progress (with_reducible apply held_mk; with_reducible apply held_fold)) | split | extract_lets | dsimp only | dsimp +zetaDelta only)

theorem State.putNocap_held (s : State) (hs : Held qs s) : Held qs (State.putNocap s) := by
  unfold State.putNocap
  repeat' (first | intro _ | with_reducible first | assumption | apply State.fput_held | apply held_ite | split)

theorem execMeterEnable_held (w : Wr) (s : State) (hs : Held qs s) : ∃ out, execMeterEnable w s = .next out ∧ Held qs out := by
  refine ⟨_, rfl, ?_⟩
  repeat' (first | intro _ | with_reducible first | assumption | apply State.writeWord_held | apply done_held | apply guarded_held | apply State.putNocap_held | apply held_ite | (fail_if_no_progress (with_reducible apply held_mk; with_reducible apply held_fold)) | split | extract_lets | dsimp only | dsimp +zetaDelta only)

theorem execPulseOutput_held (at_ : Nat) (s : State) (hs : Held qs s) : ∃ out, execPulseOutput at_ s = .next out ∧ Held qs out := by
  refine ⟨_, rfl, ?_⟩
  repeat' (first | intro _ | with_reducible first | assumption | apply State.at_held | apply done_held | apply State.putPulses_held | apply held_ite | apply held_foldl | (with_reducible apply held_pair (by with_reducible assumption)) | (with_reducible apply held_pair2 (by with_reducible assumption)) | (fail_if_no_progress (with_reducible apply held_mk; with_reducible apply held_fold)) | split | extract_lets | dsimp only | dsimp +zetaDelta only)

theorem State.calWrite_held (s : State) (o : Nat) (v : Nat) (hs : Held qs s) : Held qs (State.calWrite s o v) := by
  unfold State.calWrite
  repeat' (first | intro _ | with_reducible first | assumption | apply State.writeWord_held | apply State.emit_held | apply State.chooseChannel_held | apply State.putNocap_held | apply held_ite | (fail_if_no_progress (with_reducible apply held_mk; with_reducible apply held_fold)) | split | extract_lets | dsimp only | dsimp +zetaDelta only)

theorem execCalibrationWrite_held (w : Wr) (offset : Nat) (s : State) (hs : Held qs s) : ∃ out, execCalibrationWrite w offset s = .next out ∧ Held qs out := by
  refine ⟨_, rfl, ?_⟩
  repeat' (first | intro _ | with_reducible first | assumption | apply State.bump_held | apply State.at_held | apply done_held | apply guarded_held | apply State.calWrite_held | apply held_ite | split | dsimp only)

theorem execMeterCalibrate_held (r : Req) (form : Nat) (input : Nat) (ref : Nat) (gain : Nat) (ofs : Nat) (dly : Nat) (s : State) (hs : Held qs s) : ∃ out, execMeterCalibrate r form input ref gain ofs dly s = .next out ∧ Held qs out := by
  refine ⟨_, rfl, ?_⟩
  repeat' (first | intro _ | with_reducible first | assumption | apply runCmd_held | apply done_held | apply State.calWrite_held | apply held_ite | (fail_if_no_progress (with_reducible apply held_mk; with_reducible apply held_fold)) | split | extract_lets | dsimp only | dsimp +zetaDelta only)

theorem State.calDone_held (s : State) (c : Calib) (hs : Held qs s) : Held qs (State.calDone s c) := by
  unfold State.calDone
  repeat' (first | intro _ | with_reducible first | assumption | apply State.reply_held | apply State.calWrite_held | apply held_ite | (fail_if_no_progress (with_reducible apply held_mk; with_reducible apply held_fold)) | split | extract_lets | dsimp only | dsimp +zetaDelta only)

theorem execCalibrateAverageDone_held (at_ : Nat) (s : State) (hs : Held qs s) : ∃ out, execCalibrateAverageDone at_ s = .next out ∧ Held qs out := by
  refine ⟨_, rfl, ?_⟩
  repeat' (first | intro _ | with_reducible first | assumption | apply State.at_held | apply done_held | apply State.calDone_held | apply held_ite | (fail_if_no_progress (with_reducible apply held_mk; with_reducible apply held_fold)) | split | extract_lets | dsimp only | dsimp +zetaDelta only)

theorem execMeterRead_held (r : Req) (s : State) (hs : Held qs s) : ∃ out, execMeterRead r s = .next out ∧ Held qs out := by
  refine ⟨_, rfl, ?_⟩
  repeat' (first | intro _ | with_reducible first | assumption | apply runCmd_held | apply readEff_held | apply done_held | dsimp only)

theorem execMeterSelectChannel_held (r : Req) (channel : Nat) (s : State) (hs : Held qs s) : ∃ out, execMeterSelectChannel r channel s = .next out ∧ Held qs out := by
  refine ⟨_, rfl, ?_⟩
  repeat' (first | intro _ | with_reducible first | assumption | apply runCmd_held | apply okEff_held | apply done_held | apply State.setChannel_held | dsimp only)

theorem execMeterSetCrosscheck_held (r : Req) (enable : Bool) (rel : Nat) (abs : Nat) (noload : Nat) (s : State) (hs : Held qs s) : ∃ out, execMeterSetCrosscheck r enable rel abs noload s = .next out ∧ Held qs out := by
  refine ⟨_, rfl, ?_⟩
  repeat' (first | intro _ | with_reducible first | assumption | apply runCmd_held | apply okEff_held | apply done_held | apply State.calWrite_held | dsimp only)

theorem execMeterSetRating_held (r : Req) (iRated : Nat) (cap : Nat) (s : State) (hs : Held qs s) : ∃ out, execMeterSetRating r iRated cap s = .next out ∧ Held qs out := by
  refine ⟨_, rfl, ?_⟩
  repeat' (first | intro _ | with_reducible first | assumption | apply runCmd_held | apply okEff_held | apply done_held | apply State.calWrite_held | dsimp only)

theorem execMeterSetPulse_held (r : Req) (enable : Bool) (sel : Nat) (imp : Nat) (s : State) (hs : Held qs s) : ∃ out, execMeterSetPulse r enable sel imp s = .next out ∧ Held qs out := by
  refine ⟨_, rfl, ?_⟩
  repeat' (first | intro _ | with_reducible first | assumption | apply State.fputs_held | apply runCmd_held | apply okEff_held | apply done_held | dsimp only)

theorem execMeterLoadWweTable_held (r : Req) (table : List Byte) (s : State) (hs : Held qs s) : ∃ out, execMeterLoadWweTable r table s = .next out ∧ Held qs out := by
  refine ⟨_, rfl, ?_⟩
  repeat' (first | intro _ | with_reducible first | assumption | apply State.bumpBy_held | apply runCmd_held | apply done_held | (with_reducible apply held_pair (by with_reducible assumption)) | (with_reducible apply held_pair2 (by with_reducible assumption)) | (fail_if_no_progress (with_reducible apply held_mk; with_reducible apply held_fold)) | split | extract_lets | dsimp only | dsimp +zetaDelta only)

theorem execMeterActivateWweTable_held (r : Req) (digest : List Byte) (s : State) (hs : Held qs s) : ∃ out, execMeterActivateWweTable r digest s = .next out ∧ Held qs out := by
  refine ⟨_, rfl, ?_⟩
  repeat' (first | intro _ | with_reducible first | assumption | apply State.fput_held | apply runCmd_held | apply okEff_held | apply done_held | (fail_if_no_progress (with_reducible apply held_mk; with_reducible apply held_fold)) | dsimp only)

theorem execMeterReadWweTable_held (r : Req) (bank : Nat) (s : State) (hs : Held qs s) : ∃ out, execMeterReadWweTable r bank s = .next out ∧ Held qs out := by
  refine ⟨_, rfl, ?_⟩
  repeat' (first | intro _ | with_reducible first | assumption | apply runCmd_held | apply readEff_held | apply done_held | extract_lets | dsimp only | dsimp +zetaDelta only)

/-! ### Estim -/

theorem State.putEst_held (s : State) (i : Nat) (x : EstCell) (hs : Held qs s) : Held qs (State.putEst s i x) := by
  unfold State.putEst
  repeat' (first | intro _ | with_reducible first | assumption | (fail_if_no_progress (with_reducible apply held_mk; with_reducible apply held_fold)))

theorem State.withEst_held (s : State) (i : Nat) (hs : Held qs s) : Held qs (State.withEst s i).1 := by
  unfold State.withEst
  repeat' (first | intro _ | with_reducible first | assumption | apply State.drawn_held | apply State.putEst_held | (fail_if_no_progress (with_reducible apply held_mk; with_reducible apply held_fold)) | split | extract_lets | dsimp only | dsimp +zetaDelta only)

theorem State.putEstimates_held (s : State) (i : Nat) (x : EstCell) (ks : List Nat) (hs : Held qs s) : Held qs (State.putEstimates s i x ks) := by
  unfold State.putEstimates
  repeat' (first | intro _ | with_reducible first | assumption | apply State.emitValue_held | apply State.putEst_held | apply held_foldl | dsimp only)

theorem State.noteInstant_held (s : State) (k : Nat) (hs : Held qs s) : Held qs (State.noteInstant s k) := by
  unfold State.noteInstant
  repeat' (first | intro _ | with_reducible first | assumption | (fail_if_no_progress (with_reducible apply held_mk; with_reducible apply held_fold)) | extract_lets | dsimp only | dsimp +zetaDelta only)

theorem State.estInstant_held (s : State) (k : Nat) (hs : Held qs s) : Held qs (State.estInstant s k) := by
  unfold State.estInstant
  repeat' (first | intro _ | with_reducible first | assumption | apply State.putEst_held | apply State.withEst_held | apply State.putEstimates_held | apply State.noteInstant_held | apply held_ite | apply held_foldl | (with_reducible apply held_pair (by with_reducible assumption)) | (with_reducible apply held_pair2 (by with_reducible assumption)) | (fail_if_no_progress (with_reducible apply held_mk; with_reducible apply held_fold)) | split | extract_lets | dsimp only | dsimp +zetaDelta only)

theorem State.restCorrection_held (s : State) (i : Nat) (hs : Held qs s) : Held qs (State.restCorrection s i) := by
  unfold State.restCorrection
  repeat' (first | intro _ | with_reducible first | assumption | apply State.putEstimates_held | apply held_ite | (with_reducible apply held_pair (by with_reducible assumption)) | (with_reducible apply held_pair2 (by with_reducible assumption)) | (fail_if_no_progress (with_reducible apply held_mk; with_reducible apply held_fold)) | split | extract_lets | dsimp only | dsimp +zetaDelta only)

theorem execRestCorrection_held (at_ : Nat) (cell : Nat) (s : State) (hs : Held qs s) : ∃ out, execRestCorrection at_ cell s = .next out ∧ Held qs out := by
  refine ⟨_, rfl, ?_⟩
  repeat' (first | intro _ | with_reducible first | assumption | apply State.at_held | apply done_held | apply State.restCorrection_held)

theorem State.estFit_held (s : State) (i : Nat) (b : Nat) (hs : Held qs s) : Held qs (State.estFit s i b) := by
  unfold State.estFit
  repeat' (first | intro _ | with_reducible first | assumption | apply State.putEst_held | apply State.withEst_held | apply State.putEstimates_held | apply held_ite | (with_reducible apply held_pair (by with_reducible assumption)) | (with_reducible apply held_pair2 (by with_reducible assumption)) | (fail_if_no_progress (with_reducible apply held_mk; with_reducible apply held_fold)) | split | extract_lets | dsimp only | dsimp +zetaDelta only)

theorem State.putGrowth_held (s : State) (hs : Held qs s) : Held qs (State.putGrowth s) := by
  unfold State.putGrowth
  repeat' (first | intro _ | with_reducible first | assumption | apply State.fput_held | (fail_if_no_progress (with_reducible apply held_mk; with_reducible apply held_fold)) | extract_lets | dsimp only | dsimp +zetaDelta only)

theorem State.estPeriodCell_held (s : State) (i : Nat) (hs : Held qs s) : Held qs (State.estPeriodCell s i) := by
  unfold State.estPeriodCell
  repeat' (first | intro _ | with_reducible first | assumption | apply State.withEst_held | apply State.putEstimates_held | apply held_ite | (with_reducible apply held_pair (by with_reducible assumption)) | (with_reducible apply held_pair2 (by with_reducible assumption)) | (fail_if_no_progress (with_reducible apply held_mk; with_reducible apply held_fold)) | split | extract_lets | dsimp only | dsimp +zetaDelta only)

theorem State.setCellState_held (s : State) (i : Nat) (x : EstCell) (st : Nat) (cause : Nat) (wt : Nat) (hs : Held qs s) : Held qs (State.setCellState s i x st cause wt) := by
  unfold State.setCellState
  repeat' (first | intro _ | with_reducible first | assumption | apply State.emitRecord_held | apply State.putEst_held | (fail_if_no_progress (with_reducible apply held_mk; with_reducible apply held_fold)))

theorem State.toWatch_held (s : State) (i : Nat) (x : EstCell) (cause : Nat) (hs : Held qs s) : Held qs (State.toWatch s i x cause) := by
  unfold State.toWatch
  repeat' (first | intro _ | with_reducible first | assumption | apply State.setCellState_held | (fail_if_no_progress (with_reducible apply held_mk; with_reducible apply held_fold)))

theorem execCellWatchEntry_held (at_ : Nat) (cell : Nat) (check : Nat) (s : State) (hs : Held qs s) : ∃ out, execCellWatchEntry at_ cell check s = .next out ∧ Held qs out := by
  refine ⟨_, rfl, ?_⟩
  repeat' (first | intro _ | with_reducible first | assumption | apply State.at_held | apply done_held | apply State.toWatch_held | apply held_ite | (fail_if_no_progress (with_reducible apply held_mk; with_reducible apply held_fold)) | split | extract_lets | dsimp only | dsimp +zetaDelta only)

theorem execCellWatchExit_held (at_ : Nat) (cell : Nat) (s : State) (hs : Held qs s) : ∃ out, execCellWatchExit at_ cell s = .next out ∧ Held qs out := by
  refine ⟨_, rfl, ?_⟩
  repeat' (first | intro _ | with_reducible first | assumption | apply State.at_held | apply done_held | apply State.setCellState_held | apply held_ite | (fail_if_no_progress (with_reducible apply held_mk; with_reducible apply held_fold)) | split | extract_lets | dsimp only | dsimp +zetaDelta only)

theorem execCellQuarantinePromotion_held (at_ : Nat) (cell : Nat) (s : State) (hs : Held qs s) : ∃ out, execCellQuarantinePromotion at_ cell s = .next out ∧ Held qs out := by
  refine ⟨_, rfl, ?_⟩
  repeat' (first | intro _ | with_reducible first | assumption | apply State.at_held | apply done_held | apply State.setCellState_held | apply held_ite | (fail_if_no_progress (with_reducible apply held_mk; with_reducible apply held_fold)) | split | extract_lets | dsimp only | dsimp +zetaDelta only)

theorem State.newNodeStates_held (s : State) (r : Nat) (n : Nat) (hs : Held qs s) : Held qs (State.newNodeStates s r n) := by
  unfold State.newNodeStates
  repeat' (first | intro _ | with_reducible first | assumption | apply State.putEst_held | apply State.setCellState_held | apply held_ite | apply held_foldl | (fail_if_no_progress (with_reducible apply held_mk; with_reducible apply held_fold)) | split | extract_lets | dsimp only | dsimp +zetaDelta only)

theorem execTransitAcceptRoster_held (r : Req) (ring : Nat) (s : State) (hs : Held qs s) : ∃ out, execTransitAcceptRoster r ring s = .next out ∧ Held qs out := by
  refine ⟨_, rfl, ?_⟩
  repeat' (first | intro _ | with_reducible first | assumption | apply runCmd_held | apply okEff_held | apply done_held | apply State.acceptRoster_held | apply State.newNodeStates_held | apply held_foldl | dsimp only)

theorem State.balance_held (s : State) (hs : Held qs s) : Held qs (State.balance s) := by
  unfold State.balance
  repeat' (first | intro _ | with_reducible first | assumption | (fail_if_no_progress (with_reducible apply held_mk; with_reducible apply held_fold)) | split | extract_lets | dsimp only | dsimp +zetaDelta only)

theorem State.estPeriod_held (s : State) (b : Nat) (hs : Held qs s) : Held qs (State.estPeriod s b) := by
  unfold State.estPeriod
  repeat' (first | intro _ | with_reducible first | assumption | apply State.estPeriodCell_held | apply State.balance_held | apply held_ite | apply held_foldl | (fail_if_no_progress (with_reducible apply held_mk; with_reducible apply held_fold)) | split | extract_lets | dsimp only | dsimp +zetaDelta only)

theorem State.adaptBin_held (s : State) (n : Nat) (folds : Nat) (gated : Nat) (hs : Held qs s) : Held qs (State.adaptBin s n folds gated) := by
  unfold State.adaptBin
  repeat' (first | intro _ | with_reducible first | assumption | apply State.fput_held | apply State.emit_held | apply held_ite | (with_reducible apply held_pair (by with_reducible assumption)) | (with_reducible apply held_pair2 (by with_reducible assumption)) | split | extract_lets | dsimp only | dsimp +zetaDelta only)

theorem State.adapt_held (s : State) (hs : Held qs s) : Held qs (State.adapt s) := by
  unfold State.adapt
  repeat' (first | intro _ | with_reducible first | assumption | apply State.adaptBin_held | apply held_ite | apply held_foldl | (with_reducible apply held_pair (by with_reducible assumption)) | (with_reducible apply held_pair2 (by with_reducible assumption)) | split | extract_lets | dsimp only | dsimp +zetaDelta only)

theorem State.fitCycle_held (s : State) (d : FitDue) (unpublished : List Nat) (hs : Held qs s) : Held qs (State.fitCycle s d unpublished) := by
  unfold State.fitCycle
  repeat' (first | intro _ | with_reducible first | assumption | apply State.setRegN_held | apply State.evalStarved_held | apply State.raisePilot_held | apply State.fitCell_held | apply State.classBoundary_held | apply State.estFit_held | apply State.putGrowth_held | apply State.adapt_held | apply held_ite | apply held_foldl | (fail_if_no_progress (with_reducible apply held_mk; with_reducible apply held_fold)) | split | extract_lets | dsimp only | dsimp +zetaDelta only)

theorem execFitCycle_held (at_ : Nat) (unpublished : List Nat) (s : State) (hs : Held qs s) : ∃ out, execFitCycle at_ unpublished s = .next out ∧ Held qs out := by
  refine ⟨_, rfl, ?_⟩
  repeat' (first | intro _ | with_reducible first | assumption | apply State.at_held | apply done_held | apply State.fitCycle_held | apply held_ite | apply held_foldl | (with_reducible apply held_pair (by with_reducible assumption)) | (with_reducible apply held_pair2 (by with_reducible assumption)) | (fail_if_no_progress (with_reducible apply held_mk; with_reducible apply held_fold)) | split | extract_lets | dsimp only | dsimp +zetaDelta only)

theorem execEstimLoadProfile_held (r : Req) (t : Nat) (profile : List Byte) (s : State) (hs : Held qs s) : ∃ out, execEstimLoadProfile r t profile s = .next out ∧ Held qs out := by
  refine ⟨_, rfl, ?_⟩
  repeat' (first | intro _ | with_reducible first | assumption | apply runCmd_held | apply okEff_held | apply done_held | (fail_if_no_progress (with_reducible apply held_mk; with_reducible apply held_fold)) | dsimp only)

theorem execEstimRead_held (r : Req) (locus : Nat) (first : Nat) (last : Nat) (s : State) (hs : Held qs s) : ∃ out, execEstimRead r locus first last s = .next out ∧ Held qs out := by
  refine ⟨_, rfl, ?_⟩
  repeat' (first | intro _ | with_reducible first | assumption | apply runCmd_held | apply readEff_held | apply done_held | (fail_if_no_progress (with_reducible apply held_mk; with_reducible apply held_fold)) | split | dsimp only)

theorem execCellReadState_held (r : Req) (locus : Option Nat) (s : State) (hs : Held qs s) : ∃ out, execCellReadState r locus s = .next out ∧ Held qs out := by
  refine ⟨_, rfl, ?_⟩
  repeat' (first | intro _ | with_reducible first | assumption | apply runCmd_held | apply readEff_held | apply done_held | (fail_if_no_progress (with_reducible apply held_mk; with_reducible apply held_fold)) | split | dsimp only)

theorem execCellSetState_held (r : Req) (locus : Nat) (target : Nat) (s : State) (hs : Held qs s) : ∃ out, execCellSetState r locus target s = .next out ∧ Held qs out := by
  refine ⟨_, rfl, ?_⟩
  repeat' (first | intro _ | with_reducible first | assumption | apply runCmd_held | apply okEff_held | apply done_held | apply State.setCellState_held | apply State.toWatch_held | apply held_ite | (fail_if_no_progress (with_reducible apply held_mk; with_reducible apply held_fold)) | split | extract_lets | dsimp only | dsimp +zetaDelta only)

theorem execBalanceSetPolicy_held (r : Req) (start : Nat) (stop : Nat) (tMax : Nat) (s : State) (hs : Held qs s) : ∃ out, execBalanceSetPolicy r start stop tMax s = .next out ∧ Held qs out := by
  refine ⟨_, rfl, ?_⟩
  repeat' (first | intro _ | with_reducible first | assumption | apply runCmd_held | apply okEff_held | apply done_held | (fail_if_no_progress (with_reducible apply held_mk; with_reducible apply held_fold)) | dsimp only)

theorem execBalanceRead_held (r : Req) (s : State) (hs : Held qs s) : ∃ out, execBalanceRead r s = .next out ∧ Held qs out := by
  refine ⟨_, rfl, ?_⟩
  repeat' (first | intro _ | with_reducible first | assumption | apply runCmd_held | apply readEff_held | apply done_held | dsimp only)

theorem execEstimSetAdapt_held (r : Req) (enable : Bool) (gateMin : Nat) (s : State) (hs : Held qs s) : ∃ out, execEstimSetAdapt r enable gateMin s = .next out ∧ Held qs out := by
  refine ⟨_, rfl, ?_⟩
  repeat' (first | intro _ | with_reducible first | assumption | apply runCmd_held | apply okEff_held | apply done_held | apply State.adapt_held | (fail_if_no_progress (with_reducible apply held_mk; with_reducible apply held_fold)) | dsimp only)

theorem execEstimSetWatch_held (r : Req) (qfactor : Nat) (watchExit : Nat) (s : State) (hs : Held qs s) : ∃ out, execEstimSetWatch r qfactor watchExit s = .next out ∧ Held qs out := by
  refine ⟨_, rfl, ?_⟩
  repeat' (first | intro _ | with_reducible first | assumption | apply runCmd_held | apply okEff_held | apply done_held | (fail_if_no_progress (with_reducible apply held_mk; with_reducible apply held_fold)) | dsimp only)

/-! ### Shutter -/

theorem State.outRecord_held (s : State) (cause : Nat) (detail : Nat) (value : Nat) (hs : Held qs s) : Held qs (State.outRecord s cause detail value) := by
  unfold State.outRecord
  repeat' (first | intro _ | with_reducible first | assumption | apply State.emitRecord_held)

theorem State.setOut_held (s : State) (o : Nat) (closed : Bool) (cause : Nat) (hs : Held qs s) : Held qs (State.setOut s o closed cause) := by
  unfold State.setOut
  repeat' (first | intro _ | with_reducible first | assumption | apply State.putBit_held | apply State.outRecord_held | apply held_ite | (fail_if_no_progress (with_reducible apply held_mk; with_reducible apply held_fold)) | split | extract_lets | dsimp only | dsimp +zetaDelta only)

theorem State.setDerate_held (s : State) (i : Nat) (b : Bool) (hs : Held qs s) : Held qs (State.setDerate s i b) := by
  unfold State.setDerate
  repeat' (first | intro _ | with_reducible first | assumption | apply State.fput_held | apply State.putBit_held | apply held_ite | (fail_if_no_progress (with_reducible apply held_mk; with_reducible apply held_fold)) | split | extract_lets | dsimp only | dsimp +zetaDelta only)

theorem State.derateRecord_held (s : State) (s0 : State) (cause : Nat) (hs : Held qs s) (hs0 : Held qs s0) : Held qs (State.derateRecord s s0 cause) := by
  unfold State.derateRecord
  repeat' (first | intro _ | with_reducible first | assumption | apply State.outRecord_held | apply held_ite | split)

theorem State.worldDerate_held (s : State) (operator : Bool) (b : Bool) (hs : Held qs s) : Held qs (State.worldDerate s operator b) := by
  unfold State.worldDerate
  repeat' (first | intro _ | with_reducible first | assumption | apply State.fput_held | apply State.setDerate_held | apply State.derateRecord_held)

theorem State.shtRefused_held (s : State) (hs : Held qs s) : Held qs (State.shtRefused s) := by
  unfold State.shtRefused
  repeat' (first | intro _ | with_reducible first | assumption | apply State.bump_held | apply State.raise_held)

theorem State.contactor_held (s : State) (world : Nat) (o : Nat) (close : Bool) (hs : Held qs s) : Held qs (State.contactor s world o close).1 := by
  unfold State.contactor
  repeat' (first | intro _ | with_reducible first | assumption | apply State.setOut_held | apply State.shtRefused_held | apply held_ite | split | extract_lets | dsimp only | dsimp +zetaDelta only)

theorem execShutterSetContactor_held (r : Req) (output : Nat) (close : Bool) (s : State) (hs : Held qs s) : ∃ out, execShutterSetContactor r output close s = .next out ∧ Held qs out := by
  refine ⟨_, rfl, ?_⟩
  repeat' (first | intro _ | with_reducible first | assumption | apply runCmd_held | apply done_held | apply State.contactor_held | (with_reducible apply held_pair (by with_reducible assumption)) | (with_reducible apply held_pair2 (by with_reducible assumption)) | split | extract_lets | dsimp only | dsimp +zetaDelta only)

theorem execContactorRegisterRequest_held (w : Wr) (s : State) (hs : Held qs s) : ∃ out, execContactorRegisterRequest w s = .next out ∧ Held qs out := by
  refine ⟨_, rfl, ?_⟩
  repeat' (first | intro _ | with_reducible first | assumption | apply State.fputs_held | apply done_held | apply guarded_held | apply State.contactor_held | apply held_ite | (with_reducible apply held_pair (by with_reducible assumption)) | (with_reducible apply held_pair2 (by with_reducible assumption)) | split | extract_lets | dsimp only | dsimp +zetaDelta only)

theorem execPrechargeAutoOpen_held (at_ : Nat) (s : State) (hs : Held qs s) : ∃ out, execPrechargeAutoOpen at_ s = .next out ∧ Held qs out := by
  refine ⟨_, rfl, ?_⟩
  repeat' (first | intro _ | with_reducible first | assumption | apply State.at_held | apply done_held | apply State.setOut_held | apply held_ite | apply held_foldl | (with_reducible apply held_pair (by with_reducible assumption)) | (with_reducible apply held_pair2 (by with_reducible assumption)) | (fail_if_no_progress (with_reducible apply held_mk; with_reducible apply held_fold)) | split | extract_lets | dsimp only | dsimp +zetaDelta only)

theorem execPrechargeTimeout_held (at_ : Nat) (s : State) (hs : Held qs s) : ∃ out, execPrechargeTimeout at_ s = .next out ∧ Held qs out := by
  refine ⟨_, rfl, ?_⟩
  repeat' (first | intro _ | with_reducible first | assumption | apply State.raise_held | apply State.at_held | apply done_held | apply State.setOut_held | apply held_ite | apply held_foldl | (with_reducible apply held_pair (by with_reducible assumption)) | (with_reducible apply held_pair2 (by with_reducible assumption)) | (fail_if_no_progress (with_reducible apply held_mk; with_reducible apply held_fold)) | split | extract_lets | dsimp only | dsimp +zetaDelta only)

theorem execShutterDerate_held (r : Req) (assert : Bool) (s : State) (hs : Held qs s) : ∃ out, execShutterDerate r assert s = .next out ∧ Held qs out := by
  refine ⟨_, rfl, ?_⟩
  repeat' (first | intro _ | with_reducible first | assumption | apply runCmd_held | apply okEff_held | apply done_held | apply State.worldDerate_held | dsimp only)

theorem execDerateBitWrite_held (w : Wr) (operator : Bool) (s : State) (hs : Held qs s) : ∃ out, execDerateBitWrite w operator s = .next out ∧ Held qs out := by
  refine ⟨_, rfl, ?_⟩
  repeat' (first | intro _ | with_reducible first | assumption | apply done_held | apply guarded_held | apply State.worldDerate_held | dsimp only)

theorem State.setLimp_held (s : State) (pct : Nat) (hs : Held qs s) : Held qs (State.setLimp s pct) := by
  unfold State.setLimp
  repeat' (first | intro _ | with_reducible first | assumption | apply State.fput_held | apply State.fputs_held | apply held_ite | split)

theorem execShutterSetLimpFloor_held (r : Req) (pct : Nat) (s : State) (hs : Held qs s) : ∃ out, execShutterSetLimpFloor r pct s = .next out ∧ Held qs out := by
  refine ⟨_, rfl, ?_⟩
  repeat' (first | intro _ | with_reducible first | assumption | apply runCmd_held | apply okEff_held | apply done_held | apply State.setLimp_held | dsimp only)

theorem execLimpRegisterWrite_held (w : Wr) (s : State) (hs : Held qs s) : ∃ out, execLimpRegisterWrite w s = .next out ∧ Held qs out := by
  refine ⟨_, rfl, ?_⟩
  repeat' (first | intro _ | with_reducible first | assumption | apply done_held | apply guarded_held | apply State.setLimp_held | apply held_ite | split | dsimp only)

theorem execShutterSetPrecharge_held (r : Req) (preMin : Nat) (preMax : Nat) (s : State) (hs : Held qs s) : ∃ out, execShutterSetPrecharge r preMin preMax s = .next out ∧ Held qs out := by
  refine ⟨_, rfl, ?_⟩
  repeat' (first | intro _ | with_reducible first | assumption | apply State.fputs_held | apply runCmd_held | apply okEff_held | apply done_held | dsimp only)

theorem State.hwDerate_held (s : State) (hs : Held qs s) : Held qs (State.hwDerate s) := by
  unfold State.hwDerate
  repeat' (first | intro _ | with_reducible first | assumption | apply State.setDerate_held | dsimp only)

theorem State.setHazard_held (s : State) (h : Nat) (action : Nat) (openDly : Nat) (filt : Nat) (plaus : Nat) (hs : Held qs s) : Held qs (State.setHazard s h action openDly filt plaus) := by
  unfold State.setHazard
  repeat' (first | intro _ | with_reducible first | assumption | apply State.fputs_held | apply State.derateRecord_held | apply State.hwDerate_held)

theorem execShutterSetHazard_held (r : Req) (h : Nat) (action : Nat) (openDly : Nat) (filt : Nat) (plaus : Nat) (s : State) (hs : Held qs s) : ∃ out, execShutterSetHazard r h action openDly filt plaus s = .next out ∧ Held qs out := by
  refine ⟨_, rfl, ?_⟩
  repeat' (first | intro _ | with_reducible first | assumption | apply runCmd_held | apply okEff_held | apply done_held | apply State.setHazard_held | dsimp only)

theorem State.hazardStamp_held (s : State) (hs : Held qs s) : Held qs (State.hazardStamp s) := by
  unfold State.hazardStamp
  repeat' (first | intro _ | with_reducible first | assumption | apply State.raise_held | apply State.put64_held)

theorem State.hazardAssert_held (s : State) (h : Nat) (hs : Held qs s) : Held qs (State.hazardAssert s h) := by
  unfold State.hazardAssert
  repeat' (first | intro _ | with_reducible first | assumption | apply State.fputs_held | apply State.bump_held | apply State.putBit_held | apply State.hold_held | apply State.outRecord_held | apply State.hwDerate_held | apply State.hazardStamp_held | apply held_ite | (fail_if_no_progress (with_reducible apply held_mk; with_reducible apply held_fold)) | split | extract_lets | dsimp only | dsimp +zetaDelta only)

theorem execHazardAssert_held (at_ : Nat) (h : Nat) (s : State) (hs : Held qs s) : ∃ out, execHazardAssert at_ h s = .next out ∧ Held qs out := by
  refine ⟨_, rfl, ?_⟩
  repeat' (first | intro _ | with_reducible first | assumption | apply State.at_held | apply done_held | apply State.hazardAssert_held | apply held_ite | apply held_foldl | (with_reducible apply held_pair (by with_reducible assumption)) | (with_reducible apply held_pair2 (by with_reducible assumption)) | (fail_if_no_progress (with_reducible apply held_mk; with_reducible apply held_fold)) | split | extract_lets | dsimp only | dsimp +zetaDelta only)

theorem State.hazardClear_held (s : State) (h : Nat) (rose : Nat) (hs : Held qs s) : Held qs (State.hazardClear s h rose) := by
  unfold State.hazardClear
  repeat' (first | intro _ | with_reducible first | assumption | apply State.fput_held | apply State.putBit_held | apply State.outRecord_held | apply State.hwDerate_held | apply State.hazardStamp_held | apply held_ite | split | extract_lets | dsimp only | dsimp +zetaDelta only)

theorem execHazardClear_held (at_ : Nat) (pin : HighPin) (s : State) (hs : Held qs s) : ∃ out, execHazardClear at_ pin s = .next out ∧ Held qs out := by
  refine ⟨_, rfl, ?_⟩
  repeat' (first | intro _ | with_reducible first | assumption | apply State.at_held | apply done_held | apply State.hazardClear_held | apply held_ite | apply held_foldl | (with_reducible apply held_pair (by with_reducible assumption)) | (with_reducible apply held_pair2 (by with_reducible assumption)) | (fail_if_no_progress (with_reducible apply held_mk; with_reducible apply held_fold)) | split | extract_lets | dsimp only | dsimp +zetaDelta only)

theorem State.hazardOpen_held (s : State) (h : Nat) (hs : Held qs s) : Held qs (State.hazardOpen s h) := by
  unfold State.hazardOpen
  repeat' (first | intro _ | with_reducible first | assumption | apply State.setOut_held | apply held_ite | apply held_foldl | (fail_if_no_progress (with_reducible apply held_mk; with_reducible apply held_fold)) | split | extract_lets | dsimp only | dsimp +zetaDelta only)

theorem execHazardOpen_held (at_ : Nat) (h : Nat) (s : State) (hs : Held qs s) : ∃ out, execHazardOpen at_ h s = .next out ∧ Held qs out := by
  refine ⟨_, rfl, ?_⟩
  repeat' (first | intro _ | with_reducible first | assumption | apply State.at_held | apply done_held | apply State.hazardOpen_held)

theorem execHazardStuck_held (at_ : Nat) (h : Nat) (s : State) (hs : Held qs s) : ∃ out, execHazardStuck at_ h s = .next out ∧ Held qs out := by
  refine ⟨_, rfl, ?_⟩
  repeat' (first | intro _ | with_reducible first | assumption | apply State.raise_held | apply State.putBit_held | apply State.at_held | apply done_held | apply State.outRecord_held | apply held_ite | apply held_foldl | (with_reducible apply held_pair (by with_reducible assumption)) | (with_reducible apply held_pair2 (by with_reducible assumption)) | (fail_if_no_progress (with_reducible apply held_mk; with_reducible apply held_fold)) | split | extract_lets | dsimp only | dsimp +zetaDelta only)

theorem execCfaultSet_held (at_ : Nat) (output : Nat) (s : State) (hs : Held qs s) : ∃ out, execCfaultSet at_ output s = .next out ∧ Held qs out := by
  refine ⟨_, rfl, ?_⟩
  repeat' (first | intro _ | with_reducible first | assumption | apply State.raise_held | apply State.putBit_held | apply State.at_held | apply done_held | apply State.outRecord_held | apply held_ite | apply held_foldl | (with_reducible apply held_pair (by with_reducible assumption)) | (with_reducible apply held_pair2 (by with_reducible assumption)) | (fail_if_no_progress (with_reducible apply held_mk; with_reducible apply held_fold)) | split | extract_lets | dsimp only | dsimp +zetaDelta only)

theorem execCfaultClear_held (at_ : Nat) (output : Nat) (s : State) (hs : Held qs s) : ∃ out, execCfaultClear at_ output s = .next out ∧ Held qs out := by
  refine ⟨_, rfl, ?_⟩
  repeat' (first | intro _ | with_reducible first | assumption | apply State.raise_held | apply State.putBit_held | apply State.at_held | apply done_held | apply State.outRecord_held | apply held_ite | apply held_foldl | (with_reducible apply held_pair (by with_reducible assumption)) | (with_reducible apply held_pair2 (by with_reducible assumption)) | (fail_if_no_progress (with_reducible apply held_mk; with_reducible apply held_fold)) | split | extract_lets | dsimp only | dsimp +zetaDelta only)

theorem execChatterDeclare_held (at_ : Nat) (output : Nat) (s : State) (hs : Held qs s) : ∃ out, execChatterDeclare at_ output s = .next out ∧ Held qs out := by
  refine ⟨_, rfl, ?_⟩
  repeat' (first | intro _ | with_reducible first | assumption | apply State.raise_held | apply State.putBit_held | apply State.at_held | apply done_held | apply held_ite | apply held_foldl | (with_reducible apply held_pair (by with_reducible assumption)) | (with_reducible apply held_pair2 (by with_reducible assumption)) | (fail_if_no_progress (with_reducible apply held_mk; with_reducible apply held_fold)) | split | extract_lets | dsimp only | dsimp +zetaDelta only)

theorem execChatterEnd_held (at_ : Nat) (output : Nat) (edges : Nat) (closed : Bool) (s : State) (hs : Held qs s) : ∃ out, execChatterEnd at_ output edges closed s = .next out ∧ Held qs out := by
  refine ⟨_, rfl, ?_⟩
  repeat' (first | intro _ | with_reducible first | assumption | apply State.putBit_held | apply State.at_held | apply done_held | apply State.outRecord_held | apply held_ite | apply held_foldl | (with_reducible apply held_pair (by with_reducible assumption)) | (with_reducible apply held_pair2 (by with_reducible assumption)) | (fail_if_no_progress (with_reducible apply held_mk; with_reducible apply held_fold)) | split | extract_lets | dsimp only | dsimp +zetaDelta only)

theorem State.setBleed_held (s : State) (r : Nat) (n : Nat) (mask : Nat) (duty : Nat) (hs : Held qs s) : Held qs (State.setBleed s r n mask duty) := by
  unfold State.setBleed
  repeat' (first | intro _ | with_reducible first | assumption | apply State.fputs_held | (fail_if_no_progress (with_reducible apply held_mk; with_reducible apply held_fold)) | extract_lets | dsimp only | dsimp +zetaDelta only)

theorem execShutterSetBleed_held (r : Req) (locus : Nat) (mask : Nat) (duty : Nat) (s : State) (hs : Held qs s) : ∃ out, execShutterSetBleed r locus mask duty s = .next out ∧ Held qs out := by
  refine ⟨_, rfl, ?_⟩
  repeat' (first | intro _ | with_reducible first | assumption | apply runCmd_held | apply done_held | apply State.shtRefused_held | apply State.setBleed_held | apply held_ite | (fail_if_no_progress (with_reducible apply held_mk; with_reducible apply held_fold)) | split | dsimp only)

theorem execBleedRegisterWrite_held (w : Wr) (ring : Nat) (node : Nat) (s : State) (hs : Held qs s) : ∃ out, execBleedRegisterWrite w ring node s = .next out ∧ Held qs out := by
  refine ⟨_, rfl, ?_⟩
  repeat' (first | intro _ | with_reducible first | assumption | apply done_held | apply guarded_held | apply State.shtRefused_held | apply State.setBleed_held | apply held_ite | split | dsimp only)

theorem State.takeLimp_held (s : State) (hs : Held qs s) : Held qs (State.takeLimp s) := by
  unfold State.takeLimp
  repeat' (first | intro _ | with_reducible first | assumption | apply State.fputs_held | apply held_ite | split)

theorem State.shape_held (s : State) (p : Nat) (reqC : Nat) (reqD : Nat) (hs : Held qs s) : Held qs (State.shape s p reqC reqD) := by
  unfold State.shape
  repeat' (first | intro _ | with_reducible first | assumption | apply State.fputs_held | apply State.hold_held | apply State.takeLimp_held | apply held_ite | (fail_if_no_progress (with_reducible apply held_mk; with_reducible apply held_fold)) | split | extract_lets | dsimp only | dsimp +zetaDelta only)

theorem execShutterRead_held (r : Req) (s : State) (hs : Held qs s) : ∃ out, execShutterRead r s = .next out ∧ Held qs out := by
  refine ⟨_, rfl, ?_⟩
  repeat' (first | intro _ | with_reducible first | assumption | apply runCmd_held | apply readEff_held | apply done_held | dsimp only)

/-! ### Tap -/

theorem State.tapSelect_held (s : State) (i : TapInstr) (hs : Held qs s) : Held qs (State.tapSelect s i) := by
  unfold State.tapSelect
  repeat' (first | intro _ | with_reducible first | assumption | apply held_ite | (fail_if_no_progress (with_reducible apply held_mk; with_reducible apply held_fold)) | split)

theorem State.tapSample_held (s : State) (hs : Held qs s) : Held qs (State.tapSample s) := by
  unfold State.tapSample
  repeat' (first | intro _ | with_reducible first | assumption | apply held_ite | (fail_if_no_progress (with_reducible apply held_mk; with_reducible apply held_fold)) | split)

theorem State.tapPreload_held (s : State) (high : List OutBall) (hs : Held qs s) : Held qs (State.tapPreload s high) := by
  unfold State.tapPreload
  repeat' (first | intro _ | with_reducible first | assumption | (fail_if_no_progress (with_reducible apply held_mk; with_reducible apply held_fold)) | split)

/-! ### Limits -/

theorem execLimitBaseWrite_held (w : Wr) (discharge : Bool) (s : State) (hs : Held qs s) : ∃ out, execLimitBaseWrite w discharge s = .next out ∧ Held qs out := by
  refine ⟨_, rfl, ?_⟩
  repeat' (first | intro _ | with_reducible first | assumption | apply State.writeWord_held | apply done_held | apply guarded_held | apply held_ite | (fail_if_no_progress (with_reducible apply held_mk; with_reducible apply held_fold)) | split | extract_lets | dsimp only | dsimp +zetaDelta only)

theorem State.putCap_held (s : State) (i : Nat) (c : Option (Nat × Nat)) (hs : Held qs s) : Held qs (State.putCap s i c) := by
  unfold State.putCap
  repeat' (first | intro _ | with_reducible first | assumption | apply State.fput_held | apply State.setRegN_held | (fail_if_no_progress (with_reducible apply held_mk; with_reducible apply held_fold)) | extract_lets | dsimp only | dsimp +zetaDelta only)

theorem State.opRefused_held (s : State) (hs : Held qs s) : Held qs (State.opRefused s) := by
  unfold State.opRefused
  repeat' (first | intro _ | with_reducible first | assumption | apply State.bump_held | apply State.raise_held)

theorem State.tighten_held (s : State) (operator : Bool) (discharge : Bool) (value : Nat) (life : Nat) (hs : Held qs s) : Held qs (State.tighten s operator discharge value life) := by
  unfold State.tighten
  repeat' (first | intro _ | with_reducible first | assumption | apply State.putCap_held)

theorem execLimitCapWrite_held (w : Wr) (operator : Bool) (discharge : Bool) (s : State) (hs : Held qs s) : ∃ out, execLimitCapWrite w operator discharge s = .next out ∧ Held qs out := by
  refine ⟨_, rfl, ?_⟩
  repeat' (first | intro _ | with_reducible first | assumption | apply done_held | apply guarded_held | apply State.opRefused_held | apply State.tighten_held | apply held_ite | split | extract_lets | dsimp only | dsimp +zetaDelta only)

theorem execLimitTighten_held (r : Req) (discharge : Bool) (value : Nat) (life : Nat) (s : State) (hs : Held qs s) : ∃ out, execLimitTighten r discharge value life s = .next out ∧ Held qs out := by
  refine ⟨_, rfl, ?_⟩
  repeat' (first | intro _ | with_reducible first | assumption | apply runCmd_held | apply done_held | apply State.opRefused_held | apply State.tighten_held | apply held_ite | split | extract_lets | dsimp only | dsimp +zetaDelta only)

theorem execLimitRelax_held (r : Req) (discharge : Bool) (value : Option Nat) (s : State) (hs : Held qs s) : ∃ out, execLimitRelax r discharge value s = .next out ∧ Held qs out := by
  refine ⟨_, rfl, ?_⟩
  repeat' (first | intro _ | with_reducible first | assumption | apply runCmd_held | apply okEff_held | apply done_held | apply State.putCap_held | (fail_if_no_progress (with_reducible apply held_mk; with_reducible apply held_fold)) | split | extract_lets | dsimp only | dsimp +zetaDelta only)

theorem execLimitRead_held (r : Req) (s : State) (hs : Held qs s) : ∃ out, execLimitRead r s = .next out ∧ Held qs out := by
  refine ⟨_, rfl, ?_⟩
  repeat' (first | intro _ | with_reducible first | assumption | apply runCmd_held | apply readEff_held | apply done_held | dsimp only)

theorem execLimitSetPublication_held (r : Req) (chan : Nat) (ident : Nat) (ide : Bool) (s : State) (hs : Held qs s) : ∃ out, execLimitSetPublication r chan ident ide s = .next out ∧ Held qs out := by
  refine ⟨_, rfl, ?_⟩
  repeat' (first | intro _ | with_reducible first | assumption | apply State.fputs_held | apply runCmd_held | apply okEff_held | apply done_held | dsimp only)

theorem State.lapseCaps_held (s : State) (p : Nat) (hs : Held qs s) : Held qs (State.lapseCaps s p) := by
  unfold State.lapseCaps
  repeat' (first | intro _ | with_reducible first | assumption | apply State.raise_held | apply State.putCap_held | apply held_ite | apply held_foldl | (fail_if_no_progress (with_reducible apply held_mk; with_reducible apply held_fold)) | split | dsimp only)

theorem State.latchBases_held (s : State) (hs : Held qs s) : Held qs (State.latchBases s) := by
  unfold State.latchBases
  repeat' (first | intro _ | with_reducible first | assumption | apply State.fput_held | apply State.bump_held | apply State.raise_held | apply held_ite | (fail_if_no_progress (with_reducible apply held_mk; with_reducible apply held_fold)) | split | extract_lets | dsimp only | dsimp +zetaDelta only)

theorem State.lowerCeiling_held (s : State) (hs : Held qs s) : Held qs (State.lowerCeiling s) := by
  unfold State.lowerCeiling
  repeat' (first | intro _ | with_reducible first | assumption | apply State.fput_held | apply held_ite | (fail_if_no_progress (with_reducible apply held_mk; with_reducible apply held_fold)) | split)

theorem State.publish_held (s : State) (p : Nat) (flags : Nat) (hs : Held qs s) : Held qs (State.publish s p flags) := by
  unfold State.publish
  repeat' (first | intro _ | with_reducible first | assumption | apply State.raise_held | apply State.emitValue_held | apply held_ite | (fail_if_no_progress (with_reducible apply held_mk; with_reducible apply held_fold)) | split | extract_lets | dsimp only | dsimp +zetaDelta only)

theorem State.arbitrate_held (s : State) (p : Nat) (hs : Held qs s) : Held qs (State.arbitrate s p) := by
  unfold State.arbitrate
  repeat' (first | intro _ | with_reducible first | assumption | apply State.fputs_held | apply State.put64_held | apply State.shape_held | apply State.lapseCaps_held | apply State.latchBases_held | apply State.lowerCeiling_held | apply State.publish_held | (fail_if_no_progress (with_reducible apply held_mk; with_reducible apply held_fold)) | extract_lets | dsimp only | dsimp +zetaDelta only)

/-! ### Flash -/

theorem State.putJournal_held (s : State) (b : Nat) (j : Journal) (hs : Held qs s) : Held qs (State.putJournal s b j) := by
  unfold State.putJournal
  repeat' (first | intro _ | with_reducible first | assumption | apply State.fputs_held | apply State.raise_held | apply State.putBit_held | apply held_ite | apply held_foldl | (fail_if_no_progress (with_reducible apply held_mk; with_reducible apply held_fold)) | split | extract_lets | dsimp only | dsimp +zetaDelta only)

theorem State.blank_held (s : State) (a n : Nat) (hs : Held qs s) : Held qs (State.blank s a n) := held_dropmem (State.heal_held s a n hs) _

theorem State.eraseSector_held (s : State) (a : Nat) (hs : Held qs s) : Held qs (State.eraseSector s a) := by
  unfold State.eraseSector
  repeat' (first | intro _ | with_reducible first | assumption | apply State.putJournal_held | apply State.blank_held | extract_lets | dsimp only | dsimp +zetaDelta only)

theorem State.scatter_held (s : State) (a : Nat) (n : Nat) (hs : Held qs s) : Held qs (State.scatter s a n) := by
  unfold State.scatter
  repeat' (first | intro _ | with_reducible first | assumption | apply held_foldl | (fail_if_no_progress (with_reducible apply held_mk; with_reducible apply held_fold)) | dsimp only)

theorem State.spoilSector_held (s : State) (a : Nat) (hs : Held qs s) : Held qs (State.spoilSector s a) := by
  unfold State.spoilSector
  repeat' (first | intro _ | with_reducible first | assumption | apply State.store_held | apply State.putJournal_held | apply State.blank_held | apply State.scatter_held | apply held_foldl | (fail_if_no_progress (with_reducible apply held_mk; with_reducible apply held_fold)) | extract_lets | dsimp only | dsimp +zetaDelta only)

theorem State.programLines_held (s : State) (a : Nat) (bs : List Byte) (hs : Held qs s) : Held qs (State.programLines s a bs) := by
  unfold State.programLines
  repeat' (first | intro _ | with_reducible first | assumption | apply State.write_held | apply held_foldl | (fail_if_no_progress (with_reducible apply held_mk; with_reducible apply held_fold)) | extract_lets | dsimp only | dsimp +zetaDelta only)

theorem State.ledgerWrite_held (s : State) (a : Nat) (erase : Bool) (bs : List Byte) (hs : Held qs s) : Held qs (State.ledgerWrite s a erase bs) := by
  unfold State.ledgerWrite
  repeat' (first | intro _ | with_reducible first | assumption | apply State.eraseSector_held | apply State.programLines_held | apply held_ite | apply held_foldl | (with_reducible apply held_pair (by with_reducible assumption)) | (with_reducible apply held_pair2 (by with_reducible assumption)) | (fail_if_no_progress (with_reducible apply held_mk; with_reducible apply held_fold)) | split | extract_lets | dsimp only | dsimp +zetaDelta only)

theorem State.flashResult_held (s : State) (op : Nat) (st : Nat) (hs : Held qs s) : Held qs (State.flashResult s op st) := by
  unfold State.flashResult
  repeat' (first | intro _ | with_reducible first | assumption | apply State.fputs_held)

theorem State.flashStart_held (s : State) (bank : Option Nat) (o : FlashOp) (data : Bool) (hs : Held qs s) : Held qs (State.flashStart s bank o data).1 := by
  unfold State.flashStart
  repeat' (first | intro _ | with_reducible first | assumption | apply State.fputs_held | apply State.raise_held | apply State.putBit_held | apply State.dmaRead_held | apply State.flashResult_held | apply held_ite | (with_reducible apply held_pair (by with_reducible assumption)) | (with_reducible apply held_pair2 (by with_reducible assumption)) | (fail_if_no_progress (with_reducible apply held_mk; with_reducible apply held_fold)) | split | extract_lets | dsimp only | dsimp +zetaDelta only)

theorem State.flashGo_held (s : State) (w : Wr) (bank : Option Nat) (op : Nat) (hs : Held qs s) : Held qs (State.flashGo s w bank op) := by
  unfold State.flashGo
  repeat' (first | intro _ | with_reducible first | assumption | apply State.fputs_held | apply State.bump_held | apply State.raise_held | apply State.flashStart_held | apply held_ite | split | extract_lets | dsimp only | dsimp +zetaDelta only)

theorem execFlashOpProgram_held (w : Wr) (bank : Option Nat) (s : State) (hs : Held qs s) : ∃ out, execFlashOpProgram w bank s = .next out ∧ Held qs out := by
  refine ⟨_, rfl, ?_⟩
  repeat' (first | intro _ | with_reducible first | assumption | apply done_held | apply guarded_held | apply State.flashGo_held | dsimp only)

theorem execFlashOpErase_held (w : Wr) (bank : Option Nat) (s : State) (hs : Held qs s) : ∃ out, execFlashOpErase w bank s = .next out ∧ Held qs out := by
  refine ⟨_, rfl, ?_⟩
  repeat' (first | intro _ | with_reducible first | assumption | apply done_held | apply guarded_held | apply State.flashGo_held | dsimp only)

theorem execFlashOpVerify_held (w : Wr) (bank : Option Nat) (s : State) (hs : Held qs s) : ∃ out, execFlashOpVerify w bank s = .next out ∧ Held qs out := by
  refine ⟨_, rfl, ?_⟩
  repeat' (first | intro _ | with_reducible first | assumption | apply done_held | apply guarded_held | apply State.flashGo_held | dsimp only)

theorem execFlashOpSelect_held (w : Wr) (bank : Option Nat) (s : State) (hs : Held qs s) : ∃ out, execFlashOpSelect w bank s = .next out ∧ Held qs out := by
  refine ⟨_, rfl, ?_⟩
  repeat' (first | intro _ | with_reducible first | assumption | apply done_held | apply guarded_held | apply State.flashGo_held | dsimp only)

theorem State.undefinedLine_held (s : State) (a : Nat) (hs : Held qs s) : Held qs (State.undefinedLine s a) := by
  unfold State.undefinedLine
  repeat' (first | intro _ | with_reducible first | assumption | apply State.scatter_held | apply State.programLines_held | (fail_if_no_progress (with_reducible apply held_mk; with_reducible apply held_fold)) | extract_lets | dsimp only | dsimp +zetaDelta only)

theorem State.selectTwin_held (s : State) (t : Nat) (imgver : Nat) (hs : Held qs s) : Held qs (State.selectTwin s t imgver) := by
  unfold State.selectTwin
  repeat' (first | intro _ | with_reducible first | assumption | apply State.setRegN_held | apply State.putJournal_held | apply held_ite | (fail_if_no_progress (with_reducible apply held_mk; with_reducible apply held_fold)) | split | extract_lets | dsimp only | dsimp +zetaDelta only)

theorem State.intentFails_held (s : State) (a : Nat) (hs : Held qs s) : Held qs (State.intentFails s a) := by
  unfold State.intentFails
  repeat' (first | intro _ | with_reducible first | assumption | apply State.putJournal_held | (fail_if_no_progress (with_reducible apply held_mk; with_reducible apply held_fold)) | extract_lets | dsimp only | dsimp +zetaDelta only)

theorem State.flashEffect_held (s : State) (o : FlashOp) (fail : Option Nat) (intent : Bool) (hs : Held qs s) : Held qs (State.flashEffect s o fail intent).1 := by
  unfold State.flashEffect
  repeat' (first | intro _ | with_reducible first | assumption | apply State.eraseSector_held | apply State.spoilSector_held | apply State.programLines_held | apply State.undefinedLine_held | apply State.selectTwin_held | apply State.intentFails_held | apply held_ite | apply held_foldl | (fail_if_no_progress (with_reducible apply held_mk; with_reducible apply held_fold)) | split | extract_lets | dsimp only | dsimp +zetaDelta only)

theorem State.flashComplete_held (s : State) (fail : Option Nat) (intent : Bool) (hs : Held qs s) : Held qs (State.flashComplete s fail intent) := by
  unfold State.flashComplete
  repeat' (first | intro _ | with_reducible first | assumption | apply State.fput_held | apply State.bump_held | apply State.raise_held | apply State.setRegN_held | apply State.putBit_held | apply State.reply_held | apply State.flashResult_held | apply State.flashEffect_held | apply held_ite | (with_reducible apply held_pair (by with_reducible assumption)) | (with_reducible apply held_pair2 (by with_reducible assumption)) | (fail_if_no_progress (with_reducible apply held_mk; with_reducible apply held_fold)) | split | extract_lets | dsimp only | dsimp +zetaDelta only)

theorem execFlashOpComplete_held (at_ : Nat) (result : FlashEnd) (s : State) (hs : Held qs s) : ∃ out, execFlashOpComplete at_ result s = .next out ∧ Held qs out := by
  refine ⟨_, rfl, ?_⟩
  repeat' (first | intro _ | with_reducible first | assumption | apply State.at_held | apply done_held | apply State.flashComplete_held)

theorem State.flashTouched_held (s : State) (a : Nat) (hs : Held qs s) : Held qs (State.flashTouched s a) := by
  unfold State.flashTouched
  repeat' (first | intro _ | with_reducible first | assumption | apply State.bump_held | apply State.putBit_held | apply held_ite | split)

theorem execFlashResume_held (at_ : Nat) (bank : Nat) (s : State) (hs : Held qs s) : ∃ out, execFlashResume at_ bank s = .next out ∧ Held qs out := by
  refine ⟨_, rfl, ?_⟩
  repeat' (first | intro _ | with_reducible first | assumption | apply State.putBit_held | apply State.at_held | apply done_held | apply held_ite | apply held_foldl | (with_reducible apply held_pair (by with_reducible assumption)) | (with_reducible apply held_pair2 (by with_reducible assumption)) | (fail_if_no_progress (with_reducible apply held_mk; with_reducible apply held_fold)) | split | extract_lets | dsimp only | dsimp +zetaDelta only)

theorem State.releaseBanks_held (s : State) (mask : Nat) (hs : Held qs s) : Held qs (State.releaseBanks s mask) := by
  unfold State.releaseBanks
  repeat' (first | intro _ | with_reducible first | assumption | apply State.bump_held | apply State.raise_held | apply State.putBit_held | apply held_ite | apply held_foldl | split | dsimp only)

theorem execBankRelease_held (w : Wr) (s : State) (hs : Held qs s) : ∃ out, execBankRelease w s = .next out ∧ Held qs out := by
  refine ⟨_, rfl, ?_⟩
  repeat' (first | intro _ | with_reducible first | assumption | apply done_held | apply guarded_held | apply State.releaseBanks_held | dsimp only)

theorem State.flashCut_held (s : State) (hs : Held qs s) : Held qs (State.flashCut s) := by
  unfold State.flashCut
  repeat' (first | intro _ | with_reducible first | assumption | apply State.fputs_held | apply State.drawn_held | apply State.flashEffect_held | apply held_ite | (fail_if_no_progress (with_reducible apply held_mk; with_reducible apply held_fold)) | split | extract_lets | dsimp only | dsimp +zetaDelta only)

theorem execFlashRead_held (r : Req) (addr : Nat) (len : Nat) (s : State) (hs : Held qs s) : ∃ out, execFlashRead r addr len s = .next out ∧ Held qs out := by
  refine ⟨_, rfl, ?_⟩
  repeat' (first | intro _ | with_reducible first | assumption | apply State.checkRead_held | apply runCmd_held | apply done_held | apply State.flashTouched_held | apply held_foldl | extract_lets | dsimp only | dsimp +zetaDelta only)

theorem flashCmd_held (s : State) (r : Req) (code : Nat) (bank : Option Nat) (o : FlashOp) (extra : State → List (Option Nat)) (hs : Held qs s) : Held qs (flashCmd s r code bank o extra) := by
  unfold flashCmd
  repeat' (first | intro _ | with_reducible first | assumption | apply runCmd_held | apply State.flashStart_held | apply held_ite | (with_reducible apply held_pair (by with_reducible assumption)) | (with_reducible apply held_pair2 (by with_reducible assumption)) | (fail_if_no_progress (with_reducible apply held_mk; with_reducible apply held_fold)) | split | dsimp only)

theorem execFlashProgram_held (r : Req) (bank : Option Nat) (addr : Nat) (data : List Byte) (s : State) (hs : Held qs s) : ∃ out, execFlashProgram r bank addr data s = .next out ∧ Held qs out := by
  refine ⟨_, rfl, ?_⟩
  repeat' (first | intro _ | with_reducible first | assumption | apply done_held | apply flashCmd_held)

theorem execFlashErase_held (r : Req) (bank : Option Nat) (addr : Nat) (sectors : Nat) (s : State) (hs : Held qs s) : ∃ out, execFlashErase r bank addr sectors s = .next out ∧ Held qs out := by
  refine ⟨_, rfl, ?_⟩
  repeat' (first | intro _ | with_reducible first | assumption | apply done_held | apply flashCmd_held)

theorem execFlashVerify_held (r : Req) (addr : Nat) (len : Nat) (margin : Nat) (expected : List Byte) (s : State) (hs : Held qs s) : ∃ out, execFlashVerify r addr len margin expected s = .next out ∧ Held qs out := by
  refine ⟨_, rfl, ?_⟩
  repeat' (first | intro _ | with_reducible first | assumption | apply done_held | apply flashCmd_held | dsimp only)

theorem execFlashActivateTwin_held (r : Req) (bank : Option Nat) (twinB : Bool) (imgver : Nat) (s : State) (hs : Held qs s) : ∃ out, execFlashActivateTwin r bank twinB imgver s = .next out ∧ Held qs out := by
  refine ⟨_, rfl, ?_⟩
  repeat' (first | intro _ | with_reducible first | assumption | apply done_held | apply flashCmd_held | dsimp only)

theorem execFlashReadStatus_held (r : Req) (s : State) (hs : Held qs s) : ∃ out, execFlashReadStatus r s = .next out ∧ Held qs out := by
  refine ⟨_, rfl, ?_⟩
  repeat' (first | intro _ | with_reducible first | assumption | apply runCmd_held | apply readEff_held | apply done_held | dsimp only)

/-! ### Ledger -/

theorem State.closeBlock_held (s : State) (to_ : Nat) (hs : Held qs s) : Held qs (State.closeBlock s to_) := by
  unfold State.closeBlock
  repeat' (first | intro _ | with_reducible first | assumption | apply State.hold_held | (fail_if_no_progress (with_reducible apply held_mk; with_reducible apply held_fold)) | extract_lets | dsimp only | dsimp +zetaDelta only)

theorem State.closeBlocks_held (s : State) (zz : Nat) (hs : Held qs s) : Held qs (State.closeBlocks s zz) := by
  induction zz generalizing s with
  | zero =>
    unfold State.closeBlocks
    repeat' (first | intro _ | with_reducible first | assumption | apply State.closeBlock_held | apply held_ite | split | extract_lets | dsimp only | dsimp +zetaDelta only)
  | succ zn ih =>
    unfold State.closeBlocks
    repeat' (first | intro _ | with_reducible first | assumption | apply ih | apply State.closeBlock_held | apply held_ite | split | extract_lets | dsimp only | dsimp +zetaDelta only)

theorem State.putHoldq_held (s : State) (hs : Held qs s) : Held qs (State.putHoldq s) := by
  unfold State.putHoldq
  repeat' (first | intro _ | with_reducible first | assumption | apply State.fput_held)

theorem State.setArc_held (s : State) (a : ArcState) (hs : Held qs s) : Held qs (State.setArc s a) := by
  unfold State.setArc
  repeat' (first | intro _ | with_reducible first | assumption | (fail_if_no_progress (with_reducible apply held_mk; with_reducible apply held_fold)))

theorem State.arcAdd_held (s : State) (items : List ArcItem) (hs : Held qs s) : Held qs (State.arcAdd s items) := by
  unfold State.arcAdd
  repeat' (first | intro _ | with_reducible first | assumption | apply State.bumpBy_held | apply State.putHoldq_held | apply State.setArc_held | apply held_ite | (with_reducible apply held_pair (by with_reducible assumption)) | (with_reducible apply held_pair2 (by with_reducible assumption)) | (fail_if_no_progress (with_reducible apply held_mk; with_reducible apply held_fold)) | split | extract_lets | dsimp only | dsimp +zetaDelta only)

theorem State.writeTally_held (s : State) (bs : List Byte) (hs : Held qs s) : Held qs (State.writeTally s bs) := by
  unfold State.writeTally
  repeat' (first | intro _ | with_reducible first | assumption | apply State.ledgerWrite_held | (fail_if_no_progress (with_reducible apply held_mk; with_reducible apply held_fold)) | extract_lets | dsimp only | dsimp +zetaDelta only)

theorem State.askSeal_held (s : State) (kind : Nat) (sflags : Nat) (due : Nat) (req : Option (Req × Nat)) (hs : Held qs s) : Held qs (State.askSeal s kind sflags due req) := by
  unfold State.askSeal
  repeat' (first | intro _ | with_reducible first | assumption | apply State.fput_held | (fail_if_no_progress (with_reducible apply held_mk; with_reducible apply held_fold)) | split | extract_lets | dsimp only | dsimp +zetaDelta only)

theorem State.assemble_held (s : State) (c : Closed) (hs : Held qs s) : Held qs (State.assemble s c) := by
  unfold State.assemble
  repeat' (first | intro _ | with_reducible first | assumption | apply State.bumpBy_held | apply State.raise_held | apply State.put64_held | apply State.foldQueue_held | apply State.arcAdd_held | apply State.writeTally_held | apply State.askSeal_held | apply held_ite | (fail_if_no_progress (with_reducible apply held_mk; with_reducible apply held_fold)) | split | extract_lets | dsimp only | dsimp +zetaDelta only)

theorem State.assembleDue_held (s : State) (hs : Held qs s) : Held qs (State.assembleDue s) := by
  unfold State.assembleDue
  repeat' (first | intro _ | with_reducible first | assumption | apply State.assemble_held | apply held_ite | (fail_if_no_progress (with_reducible apply held_mk; with_reducible apply held_fold)) | split)

theorem State.tallyBackup_held (s : State) (hs : Held qs s) : Held qs (State.tallyBackup s) := by
  unfold State.tallyBackup
  repeat' (first | intro _ | with_reducible first | assumption | apply State.celWrite2_held | (fail_if_no_progress (with_reducible apply held_mk; with_reducible apply held_fold)) | split)

theorem State.sealComplete_held (s : State) (hs : Held qs s) : Held qs (State.sealComplete s) := by
  unfold State.sealComplete
  repeat' (first | intro _ | with_reducible first | assumption | apply State.fputs_held | apply State.bump_held | apply State.raise_held | apply State.put64_held | apply State.reply_held | apply State.sendSeal_held | apply State.ledgerWrite_held | apply State.arcAdd_held | apply State.tallyBackup_held | apply held_ite | (fail_if_no_progress (with_reducible apply held_mk; with_reducible apply held_fold)) | split | extract_lets | dsimp only | dsimp +zetaDelta only)

theorem State.continueFrom_held (s : State) (seq : Nat) (stamp : Nat) (h : BitVec 384) (meter : List Byte) (modes : List Byte) (bflags : Nat) (hs : Held qs s) : Held qs (State.continueFrom s seq stamp h meter modes bflags) := by
  unfold State.continueFrom
  repeat' (first | intro _ | with_reducible first | assumption | apply State.put64_held | (fail_if_no_progress (with_reducible apply held_mk; with_reducible apply held_fold)) | extract_lets | dsimp only | dsimp +zetaDelta only)

theorem State.powerGap_held (s : State) (seq : Nat) (h : BitVec 384) (hs : Held qs s) : Held qs (State.powerGap s seq h) := by
  unfold State.powerGap
  repeat' (first | intro _ | with_reducible first | assumption | apply State.bumpBy_held | apply State.arcAdd_held | apply held_ite | (fail_if_no_progress (with_reducible apply held_mk; with_reducible apply held_fold)) | split | extract_lets | dsimp only | dsimp +zetaDelta only)

theorem State.loseCustody_held (s : State) (hs : Held qs s) : Held qs (State.loseCustody s) := by
  unfold State.loseCustody
  repeat' (first | intro _ | with_reducible first | assumption | apply State.fput_held | apply State.enterQuarantine_held | (fail_if_no_progress (with_reducible apply held_mk; with_reducible apply held_fold)))

theorem State.beginGenesis_held (s : State) (hs : Held qs s) : Held qs (State.beginGenesis s) := by
  unfold State.beginGenesis
  repeat' (first | intro _ | with_reducible first | assumption | apply held_ite | (fail_if_no_progress (with_reducible apply held_mk; with_reducible apply held_fold)) | split | extract_lets | dsimp only | dsimp +zetaDelta only)

theorem State.continueFromTally_held (s : State) (n : Nat) (seq : Nat) (hs : Held qs s) : Held qs (State.continueFromTally s n seq) := by
  unfold State.continueFromTally
  repeat' (first | intro _ | with_reducible first | assumption | apply State.continueFrom_held | apply State.powerGap_held | (fail_if_no_progress (with_reducible apply held_mk; with_reducible apply held_fold)) | extract_lets | dsimp only | dsimp +zetaDelta only)

theorem State.continueFromBackup_held (s : State) (seq : Nat) (k : List Byte) (hs : Held qs s) : Held qs (State.continueFromBackup s seq k) := by
  unfold State.continueFromBackup
  repeat' (first | intro _ | with_reducible first | assumption | apply State.continueFrom_held | apply State.powerGap_held | extract_lets | dsimp only | dsimp +zetaDelta only)

theorem State.ledgerEnable_held (s : State) (hs : Held qs s) : Held qs (State.ledgerEnable s) := by
  unfold State.ledgerEnable
  repeat' (first | intro _ | with_reducible first | assumption | apply State.noteEvidence_held | apply State.loseCustody_held | apply State.beginGenesis_held | apply State.continueFromTally_held | apply State.continueFromBackup_held | apply held_ite | (fail_if_no_progress (with_reducible apply held_mk; with_reducible apply held_fold)) | split | extract_lets | dsimp only | dsimp +zetaDelta only)

theorem State.resumeLedger_held (s : State) (hs : Held qs s) : Held qs (State.resumeLedger s) := by
  unfold State.resumeLedger
  repeat' (first | intro _ | with_reducible first | assumption | apply State.fput_held | apply State.put64_held | apply State.ledgerEnable_held | apply held_ite | apply held_foldl | split | extract_lets | dsimp only | dsimp +zetaDelta only)

theorem State.putArcState_held (s : State) (n : Nat) (hs : Held qs s) : Held qs (State.putArcState s n) := by
  unfold State.putArcState
  repeat' (first | intro _ | with_reducible first | assumption | apply State.fput_held | apply State.raise_held | apply State.putHoldq_held | apply held_ite | apply held_foldl | (with_reducible apply held_pair (by with_reducible assumption)) | (with_reducible apply held_pair2 (by with_reducible assumption)) | (fail_if_no_progress (with_reducible apply held_mk; with_reducible apply held_fold)) | split | extract_lets | dsimp only | dsimp +zetaDelta only)

theorem State.ledgerControl_held (s : State) (v : Nat) (hs : Held qs s) : Held qs (State.ledgerControl s v) := by
  unfold State.ledgerControl
  repeat' (first | intro _ | with_reducible first | assumption | apply State.fput_held | apply State.writeWord_held | apply State.setArc_held | apply State.ledgerEnable_held | apply State.putArcState_held | apply held_ite | (fail_if_no_progress (with_reducible apply held_mk; with_reducible apply held_fold)) | split | extract_lets | dsimp only | dsimp +zetaDelta only)

theorem execLedgerEnable_held (w : Wr) (s : State) (hs : Held qs s) : ∃ out, execLedgerEnable w s = .next out ∧ Held qs out := by
  refine ⟨_, rfl, ?_⟩
  repeat' (first | intro _ | with_reducible first | assumption | apply done_held | apply guarded_held | apply State.ledgerControl_held | dsimp only)

theorem State.arcBlank_held (s : State) (addr : Nat) (n : Nat) (hs : Held qs s) : Held qs (State.arcBlank s addr n) := by
  unfold State.arcBlank
  repeat' (first | intro _ | with_reducible first | assumption | apply held_mk | apply held_regs | apply held_latched | apply held_mem | apply held_drop | apply held_dropmem | dsimp only)

theorem State.writeHeader_held (s : State) (hs : Held qs s) : Held qs (State.writeHeader s) := by
  unfold State.writeHeader
  repeat' (first | intro _ | with_reducible first | assumption | apply State.fput_held | apply State.store_held | apply State.setArc_held | apply State.arcBlank_held | (fail_if_no_progress (with_reducible apply held_mk; with_reducible apply held_fold)) | extract_lets | dsimp only | dsimp +zetaDelta only)

theorem State.putArcCfg_held (s : State) (hs : Held qs s) : Held qs (State.putArcCfg s) := by
  unfold State.putArcCfg
  repeat' (first | intro _ | with_reducible first | assumption | apply State.fputs_held | extract_lets | dsimp only | dsimp +zetaDelta only)

theorem State.putFill_held (s : State) (hs : Held qs s) : Held qs (State.putFill s) := by
  unfold State.putFill
  repeat' (first | intro _ | with_reducible first | assumption | apply State.fputs_held | apply State.raise_held | apply held_ite | split | extract_lets | dsimp only | dsimp +zetaDelta only)

theorem State.formatArchive_held (s : State) (mib : Nat) (ulog : Nat) (sh : Nat × Nat × Nat) (hs : Held qs s) : Held qs (State.formatArchive s mib ulog sh) := by
  unfold State.formatArchive
  repeat' (first | intro _ | with_reducible first | assumption | apply State.setArc_held | apply State.arcBlank_held | apply State.writeHeader_held | apply State.putArcCfg_held | apply State.putFill_held | (fail_if_no_progress (with_reducible apply held_mk; with_reducible apply held_fold)) | extract_lets | dsimp only | dsimp +zetaDelta only)

theorem State.arcWrite_held (s : State) (it : ArcItem) (rest : List ArcItem) (hs : Held qs s) : Held qs (State.arcWrite s it rest) := by
  unfold State.arcWrite
  repeat' (first | intro _ | with_reducible first | assumption | apply State.bumpBy_held | apply State.raise_held | apply State.store_held | apply State.putHoldq_held | apply State.setArc_held | apply State.arcBlank_held | apply State.putFill_held | apply held_ite | apply held_foldl | (fail_if_no_progress (with_reducible apply held_mk; with_reducible apply held_fold)) | split | extract_lets | dsimp only | dsimp +zetaDelta only)

theorem State.arcFail_held (s : State) (it : ArcItem) (hs : Held qs s) : Held qs (State.arcFail s it) := by
  unfold State.arcFail
  repeat' (first | intro _ | with_reducible first | assumption | apply State.setArc_held | apply State.putArcState_held | apply State.writeHeader_held | apply held_ite | (fail_if_no_progress (with_reducible apply held_mk; with_reducible apply held_fold)) | split | extract_lets | dsimp only | dsimp +zetaDelta only)

theorem execArchiveEntryWrite_held (at_ : Nat) (ok : Bool) (s : State) (hs : Held qs s) : ∃ out, execArchiveEntryWrite at_ ok s = .next out ∧ Held qs out := by
  refine ⟨_, rfl, ?_⟩
  repeat' (first | intro _ | with_reducible first | assumption | apply State.at_held | apply done_held | apply State.arcWrite_held | apply State.arcFail_held | apply held_ite | (fail_if_no_progress (with_reducible apply held_mk; with_reducible apply held_fold)) | split | extract_lets | dsimp only | dsimp +zetaDelta only)

theorem execArchiveFault_held (at_ : Nat) (s : State) (hs : Held qs s) : ∃ out, execArchiveFault at_ s = .next out ∧ Held qs out := by
  refine ⟨_, rfl, ?_⟩
  repeat' (first | intro _ | with_reducible first | assumption | apply State.at_held | apply done_held | apply State.putArcState_held | apply held_ite | apply held_foldl | (with_reducible apply held_pair (by with_reducible assumption)) | (with_reducible apply held_pair2 (by with_reducible assumption)) | (fail_if_no_progress (with_reducible apply held_mk; with_reducible apply held_fold)) | split | extract_lets | dsimp only | dsimp +zetaDelta only)

theorem State.adoptArchive_held (s : State) (b : List Byte) (same : Bool) (hs : Held qs s) : Held qs (State.adoptArchive s b same) := by
  unfold State.adoptArchive
  repeat' (first | intro _ | with_reducible first | assumption | apply State.fput_held | apply State.setArc_held | apply State.putArcCfg_held | apply State.putFill_held | apply held_ite | (fail_if_no_progress (with_reducible apply held_mk; with_reducible apply held_fold)) | split | extract_lets | dsimp only | dsimp +zetaDelta only)

theorem State.arcRetry_held (s : State) (mib : Nat) (unit64 : Bool) (same : Bool) (hs : Held qs s) : Held qs (State.arcRetry s mib unit64 same) := by
  unfold State.arcRetry
  repeat' (first | intro _ | with_reducible first | assumption | apply State.setArc_held | apply State.putArcState_held | apply State.formatArchive_held | apply State.adoptArchive_held | apply held_ite | (fail_if_no_progress (with_reducible apply held_mk; with_reducible apply held_fold)) | split | extract_lets | dsimp only | dsimp +zetaDelta only)

theorem State.fitDevice_held (s : State) (pieces : Pieces) (hs : Held qs s) : Held qs (State.fitDevice s pieces) := by
  unfold State.fitDevice
  repeat' (first | intro _ | with_reducible first | assumption | apply State.store_held | apply State.arcBlank_held | apply held_ite | apply held_foldl | split | dsimp only)

theorem execLedgerSealNow_held (r : Req) (s : State) (hs : Held qs s) : ∃ out, execLedgerSealNow r s = .next out ∧ Held qs out := by
  refine ⟨_, rfl, ?_⟩
  repeat' (first | intro _ | with_reducible first | assumption | apply runCmd_held | apply done_held | apply State.askSeal_held | dsimp only)

theorem execLedgerReadHead_held (r : Req) (s : State) (hs : Held qs s) : ∃ out, execLedgerReadHead r s = .next out ∧ Held qs out := by
  refine ⟨_, rfl, ?_⟩
  repeat' (first | intro _ | with_reducible first | assumption | apply runCmd_held | apply readEff_held | apply done_held | (fail_if_no_progress (with_reducible apply held_mk; with_reducible apply held_fold)) | split | dsimp only)

theorem execLedgerReadSeals_held (r : Req) (first : Nat) (last : Nat) (s : State) (hs : Held qs s) : ∃ out, execLedgerReadSeals r first last s = .next out ∧ Held qs out := by
  refine ⟨_, rfl, ?_⟩
  repeat' (first | intro _ | with_reducible first | assumption | apply State.checkRead_held | apply runCmd_held | apply done_held | apply held_foldl | extract_lets | dsimp only | dsimp +zetaDelta only)

theorem execLedgerReadArchive_held (r : Req) (log : Nat) (first : Nat) (size : Nat) (s : State) (hs : Held qs s) : ∃ out, execLedgerReadArchive r log first size s = .next out ∧ Held qs out := by
  refine ⟨_, rfl, ?_⟩
  repeat' (first | intro _ | with_reducible first | assumption | apply runCmd_held | apply readEff_held | apply done_held | (fail_if_no_progress (with_reducible apply held_mk; with_reducible apply held_fold)) | split | dsimp only)

theorem execLedgerAckOffload_held (r : Req) (log : Nat) (lseq : Nat) (s : State) (hs : Held qs s) : ∃ out, execLedgerAckOffload r log lseq s = .next out ∧ Held qs out := by
  refine ⟨_, rfl, ?_⟩
  repeat' (first | intro _ | with_reducible first | assumption | apply runCmd_held | apply okEff_held | apply done_held | apply State.setArc_held | apply State.putFill_held | (fail_if_no_progress (with_reducible apply held_mk; with_reducible apply held_fold)) | extract_lets | dsimp only | dsimp +zetaDelta only)

theorem execLedgerSetArchive_held (r : Req) (blocks : Nat) (events : Nat) (seals : Nat) (s : State) (hs : Held qs s) : ∃ out, execLedgerSetArchive r blocks events seals s = .next out ∧ Held qs out := by
  refine ⟨_, rfl, ?_⟩
  repeat' (first | intro _ | with_reducible first | assumption | apply runCmd_held | apply okEff_held | apply done_held | apply State.setArc_held | apply State.formatArchive_held | apply held_ite | (fail_if_no_progress (with_reducible apply held_mk; with_reducible apply held_fold)) | split | dsimp only)

theorem execLeaseReadTallies_held (r : Req) (s : State) (hs : Held qs s) : ∃ out, execLeaseReadTallies r s = .next out ∧ Held qs out := by
  refine ⟨_, rfl, ?_⟩
  repeat' (first | intro _ | with_reducible first | assumption | apply runCmd_held | apply readEff_held | apply done_held | dsimp only)

theorem execLedgerHandoverPrepare_held (r : Req) (newRoot : Nat) (s : State) (hs : Held qs s) : ∃ out, execLedgerHandoverPrepare r newRoot s = .next out ∧ Held qs out := by
  refine ⟨_, rfl, ?_⟩
  repeat' (first | intro _ | with_reducible first | assumption | apply State.fput_held | apply State.drawn_held | apply runCmd_held | apply done_held | (with_reducible apply held_pair (by with_reducible assumption)) | (with_reducible apply held_pair2 (by with_reducible assumption)) | (fail_if_no_progress (with_reducible apply held_mk; with_reducible apply held_fold)) | split | extract_lets | dsimp only | dsimp +zetaDelta only)

/-! ### Lanes -/

theorem State.putLane_held (s : State) (e : Nat) (l : LaneState) (hs : Held qs s) : Held qs (State.putLane s e l) := by
  unfold State.putLane
  repeat' (first | intro _ | with_reducible first | assumption | (fail_if_no_progress (with_reducible apply held_mk; with_reducible apply held_fold)) | dsimp only)

theorem State.putVat_held (s : State) (v : Nat) (x : VatState) (hs : Held qs s) : Held qs (State.putVat s v x) := by
  unfold State.putVat
  repeat' (first | intro _ | with_reducible first | assumption | (fail_if_no_progress (with_reducible apply held_mk; with_reducible apply held_fold)) | dsimp only)

theorem State.putThread_held (s : State) (w : Nat) (x : Thread) (hs : Held qs s) : Held qs (State.putThread s w x) := by
  unfold State.putThread
  repeat' (first | intro _ | with_reducible first | assumption | (fail_if_no_progress (with_reducible apply held_mk; with_reducible apply held_fold)))

theorem State.putUnits_held (s : State) (g : Eng) (u : Units) (hs : Held qs s) : Held qs (State.putUnits s g u) := by
  unfold State.putUnits
  repeat' (first | intro _ | with_reducible first | assumption | apply State.putLane_held | apply State.putVat_held | apply State.putThread_held | (fail_if_no_progress (with_reducible apply held_mk; with_reducible apply held_fold)) | split)

theorem State.stopPair_held (s : State) (cause : Word) (ret : Nat) (hs : Held qs s) : Held qs (State.stopPair s cause ret) := by
  unfold State.stopPair
  repeat' (first | intro _ | with_reducible first | assumption | apply State.raise_held | apply State.hold_held | apply State.celWrite_held | apply State.putThread_held | (fail_if_no_progress (with_reducible apply held_mk; with_reducible apply held_fold)) | extract_lets | dsimp only | dsimp +zetaDelta only)

theorem State.romMismatch_held (s : State) (hs : Held qs s) : Held qs (State.romMismatch s) := by
  unfold State.romMismatch
  repeat' (first | intro _ | with_reducible first | assumption | apply State.drawn_held | apply State.stopPair_held | split)

theorem State.lsuNotice_held (s : State) (g : Eng) (void : Bool) (a : Nat) (store : Bool) (hs : Held qs s) : Held qs (State.lsuNotice s g void a store) := by
  unfold State.lsuNotice
  repeat' (first | intro _ | with_reducible first | assumption | apply State.store_held | apply State.notice_held | apply State.busFault_held | apply held_ite | (fail_if_no_progress (with_reducible apply held_mk; with_reducible apply held_fold)) | split)

theorem State.laneStore_held (s : State) (e : Nat) (a : Nat) (v : Word) (hs : Held qs s) : Held qs (State.laneStore s e a v) := by
  unfold State.laneStore
  repeat' (first | intro _ | with_reducible first | assumption | apply State.putBit_held | apply State.storeN_held | apply State.putLane_held | apply held_ite | (fail_if_no_progress (with_reducible apply held_mk; with_reducible apply held_fold)) | split | extract_lets | dsimp only | dsimp +zetaDelta only)

theorem State.streamRead_held (s : State) (e : Nat) (hs : Held qs s) : Held qs (State.streamRead s e) := by
  unfold State.streamRead
  repeat' (first | intro _ | with_reducible first | assumption | apply State.readSlot_held | apply State.readPack_held | apply held_ite | apply held_foldl | (with_reducible apply held_pair (by with_reducible assumption)) | (with_reducible apply held_pair2 (by with_reducible assumption)) | split | extract_lets | dsimp only | dsimp +zetaDelta only)

theorem State.streamGet_held (s0 : State) (e : Nat) (v : Word) (hs0 : Held qs s0) : Held qs (State.streamGet s0 e v) := by
  unfold State.streamGet
  repeat' (first | intro _ | with_reducible first | assumption | apply State.send_held | apply State.putLane_held | apply State.streamRead_held | apply held_ite | (fail_if_no_progress (with_reducible apply held_mk; with_reducible apply held_fold)) | split | extract_lets | dsimp only | dsimp +zetaDelta only)

theorem State.putJobFlag_held (s : State) (v : Nat) (j : Nat) (b : Nat) (x : Bool) (hs : Held qs s) : Held qs (State.putJobFlag s v j b x) := by
  unfold State.putJobFlag
  repeat' (first | intro _ | with_reducible first | assumption | apply State.setByte_held)

theorem State.putJobClass_held (s : State) (v : Nat) (j : Nat) (c : Nat) (hs : Held qs s) : Held qs (State.putJobClass s v j c) := by
  unfold State.putJobClass
  repeat' (first | intro _ | with_reducible first | assumption | apply State.setByte_held)

theorem State.putJobRelease_held (s : State) (v : Nat) (j : Nat) (t : Nat) (hs : Held qs s) : Held qs (State.putJobRelease s v j t) := by
  unfold State.putJobRelease
  repeat' (first | intro _ | with_reducible first | assumption | apply State.storeN_held)

theorem State.saveJob_held (s : State) (v : Nat) (j : Nat) (l : LaneState) (hs : Held qs s) : Held qs (State.saveJob s v j l) := by
  unfold State.saveJob
  repeat' (first | intro _ | with_reducible first | assumption | apply State.write_held | apply State.putVat_held | apply held_ite | (fail_if_no_progress (with_reducible apply held_mk; with_reducible apply held_fold)) | split | extract_lets | dsimp only | dsimp +zetaDelta only)

theorem State.dispatch_held (s : State) (v : Nat) (l : Nat) (j : Option Nat) (hs : Held qs s) : Held qs (State.dispatch s v l j) := by
  unfold State.dispatch
  repeat' (first | intro _ | with_reducible first | assumption | apply State.putBit_held | apply State.storeN_held | apply State.putLane_held | apply State.putVat_held | apply State.putJobFlag_held | (fail_if_no_progress (with_reducible apply held_mk; with_reducible apply held_fold)) | split | extract_lets | dsimp only | dsimp +zetaDelta only)

theorem State.fillLane_held (s : State) (v : Nat) (l : Nat) (hs : Held qs s) : Held qs (State.fillLane s v l) := by
  unfold State.fillLane
  repeat' (first | intro _ | with_reducible first | assumption | apply State.dispatch_held | apply held_ite | (fail_if_no_progress (with_reducible apply held_mk; with_reducible apply held_fold)) | split | extract_lets | dsimp only | dsimp +zetaDelta only)

theorem State.fillLanes_held (s : State) (v : Nat) (hs : Held qs s) : Held qs (State.fillLanes s v) := by
  unfold State.fillLanes
  repeat' (first | intro _ | with_reducible first | assumption | apply State.fillLane_held | apply held_foldl | dsimp only)

theorem State.endQuantum_held (s : State) (v : Nat) (j : Nat) (hs : Held qs s) : Held qs (State.endQuantum s v j) := by
  unfold State.endQuantum
  repeat' (first | intro _ | with_reducible first | assumption | apply State.putJobClass_held | apply held_ite | split)

theorem State.moveJob_held (s : State) (v : Nat) (o : Nat) (l : Nat) (j : Nat) (i : Nat) (hs : Held qs s) : Held qs (State.moveJob s v o l j i) := by
  unfold State.moveJob
  repeat' (first | intro _ | with_reducible first | assumption | apply State.write_held | apply State.putVat_held | apply State.putJobFlag_held | apply State.fillLane_held | apply held_ite | apply held_foldl | (with_reducible apply held_pair (by with_reducible assumption)) | (with_reducible apply held_pair2 (by with_reducible assumption)) | (fail_if_no_progress (with_reducible apply held_mk; with_reducible apply held_fold)) | split | extract_lets | dsimp only | dsimp +zetaDelta only)

theorem State.moveJobs_held (s : State) (v : Nat) (l : Nat) (hs : Held qs s) : Held qs (State.moveJobs s v l) := by
  unfold State.moveJobs
  repeat' (first | intro _ | with_reducible first | assumption | apply State.moveJob_held | apply held_ite | apply held_foldl | (fail_if_no_progress (with_reducible apply held_mk; with_reducible apply held_fold)) | split | extract_lets | dsimp only | dsimp +zetaDelta only)

theorem State.capture'_held (s : State) (e : Nat) (hs : Held qs s) : Held qs (State.capture' s e) := by
  unfold State.capture'
  repeat' (first | intro _ | with_reducible first | assumption | apply State.putBit_held | apply State.putLane_held | (fail_if_no_progress (with_reducible apply held_mk; with_reducible apply held_fold)) | extract_lets | dsimp only | dsimp +zetaDelta only)

theorem State.changeJob_held (s : State) (e : Nat) (next : Option Nat) (hs : Held qs s) : Held qs (State.changeJob s e next) := by
  unfold State.changeJob
  repeat' (first | intro _ | with_reducible first | assumption | apply State.putJobFlag_held | apply State.saveJob_held | apply State.dispatch_held | apply State.endQuantum_held | apply held_ite | apply held_foldl | (with_reducible apply held_pair (by with_reducible assumption)) | (with_reducible apply held_pair2 (by with_reducible assumption)) | (fail_if_no_progress (with_reducible apply held_mk; with_reducible apply held_fold)) | split | extract_lets | dsimp only | dsimp +zetaDelta only)

theorem State.retireLane_held (s : State) (e : Nat) (hs : Held qs s) : Held qs (State.retireLane s e) := by
  unfold State.retireLane
  repeat' (first | intro _ | with_reducible first | assumption | apply State.putLane_held | apply State.putJobFlag_held | apply State.saveJob_held | apply State.moveJobs_held | (fail_if_no_progress (with_reducible apply held_mk; with_reducible apply held_fold)) | split | extract_lets | dsimp only | dsimp +zetaDelta only)

theorem State.markLane_held (s : State) (e : Nat) (hs : Held qs s) : Held qs (State.markLane s e) := by
  unfold State.markLane
  repeat' (first | intro _ | with_reducible first | assumption | apply State.bump_held | apply State.endQuantum_held | apply State.capture'_held | apply State.changeJob_held | apply State.retireLane_held | apply held_ite | apply held_foldl | (with_reducible apply held_pair (by with_reducible assumption)) | (with_reducible apply held_pair2 (by with_reducible assumption)) | (fail_if_no_progress (with_reducible apply held_mk; with_reducible apply held_fold)) | split | extract_lets | dsimp only | dsimp +zetaDelta only)

theorem State.yieldLane_held (s : State) (e : Nat) (hs : Held qs s) : Held qs (State.yieldLane s e) := by
  unfold State.yieldLane
  repeat' (first | intro _ | with_reducible first | assumption | apply State.bump_held | apply State.putLane_held | apply State.endQuantum_held | apply State.capture'_held | apply State.changeJob_held | apply held_ite | apply held_foldl | (with_reducible apply held_pair (by with_reducible assumption)) | (with_reducible apply held_pair2 (by with_reducible assumption)) | (fail_if_no_progress (with_reducible apply held_mk; with_reducible apply held_fold)) | split | extract_lets | dsimp only | dsimp +zetaDelta only)

theorem State.scrubDone_held (s : State) (v : Nat) (j : Nat) (hs : Held qs s) : Held qs (State.scrubDone s v j) := by
  unfold State.scrubDone
  repeat' (first | intro _ | with_reducible first | assumption | apply State.raise_held | apply State.put64_held | apply held_ite | split)

theorem State.haltLane_held (s : State) (e : Nat) (hs : Held qs s) : Held qs (State.haltLane s e) := by
  unfold State.haltLane
  repeat' (first | intro _ | with_reducible first | assumption | apply State.putLane_held | apply State.putJobFlag_held | apply State.putJobClass_held | apply State.putJobRelease_held | apply State.dispatch_held | apply State.moveJobs_held | apply State.scrubDone_held | apply held_ite | (fail_if_no_progress (with_reducible apply held_mk; with_reducible apply held_fold)) | split | extract_lets | dsimp only | dsimp +zetaDelta only)

theorem State.presentTrap_held (s : State) (v : Nat) (hs : Held qs s) : Held qs (State.presentTrap s v) := by
  unfold State.presentTrap
  repeat' (first | intro _ | with_reducible first | assumption | apply State.fput_held | apply State.fputs_held | apply State.raise_held | apply held_ite | (fail_if_no_progress (with_reducible apply held_mk; with_reducible apply held_fold)) | split | extract_lets | dsimp only | dsimp +zetaDelta only)

theorem State.trapSearch_held (s : State) (e : Nat) (hs : Held qs s) : Held qs (State.trapSearch s e) := by
  unfold State.trapSearch
  repeat' (first | intro _ | with_reducible first | assumption | apply State.bump_held | apply State.putLane_held | apply State.presentTrap_held | apply held_ite | apply held_foldl | (with_reducible apply held_pair (by with_reducible assumption)) | (with_reducible apply held_pair2 (by with_reducible assumption)) | (fail_if_no_progress (with_reducible apply held_mk; with_reducible apply held_fold)) | split | extract_lets | dsimp only | dsimp +zetaDelta only)

theorem State.laneTrap_held (s : State) (e : Nat) (pc : Nat) (word : Nat) (t : Trap) (hs : Held qs s) : Held qs (State.laneTrap s e pc word t) := by
  unfold State.laneTrap
  repeat' (first | intro _ | with_reducible first | assumption | apply State.fputs_held | apply State.putLane_held | apply State.trapSearch_held | (fail_if_no_progress (with_reducible apply held_mk; with_reducible apply held_fold)) | extract_lets | dsimp only | dsimp +zetaDelta only)

theorem State.loadWord_held (s : State) (g : Eng) (a : Nat) (hs : Held qs s) : Held qs (State.loadWord s g a) := by
  unfold State.loadWord
  repeat' (first | intro _ | with_reducible first | assumption | apply State.checkRead_held | apply State.send_held | apply State.putUnits_held | apply State.romMismatch_held | apply held_ite | (with_reducible apply held_pair (by with_reducible assumption)) | (with_reducible apply held_pair2 (by with_reducible assumption)) | split | extract_lets | dsimp only | dsimp +zetaDelta only)

theorem State.lsu_held (s : State) (g : Eng) (u1 : Units) (m : Move) (hs : Held qs s) : Held qs (State.lsu s g u1 m) := by
  unfold State.lsu
  repeat' (first | intro _ | with_reducible first | assumption | apply State.storeN_held | apply State.send_held | apply State.putUnits_held | apply State.laneStore_held | apply State.loadWord_held | (fail_if_no_progress (with_reducible apply held_mk; with_reducible apply held_fold)) | split | extract_lets | dsimp only | dsimp +zetaDelta only)

theorem State.fire_held (s : State) (g : Eng) (u1 : Units) (m : Move) (hs : Held qs s) : Held qs (State.fire s g u1 m) := by
  unfold State.fire
  repeat' (first | intro _ | with_reducible first | assumption | apply State.putUnits_held | apply State.streamGet_held | apply State.lsu_held | apply held_ite | (fail_if_no_progress (with_reducible apply held_mk; with_reducible apply held_fold)) | split)

theorem State.complete_held (s : State) (g : Eng) (u1 : Units) (p : Parsed) (ms : List Move) (hs : Held qs s) : Held qs (State.complete s g u1 p ms) := by
  unfold State.complete
  repeat' (first | intro _ | with_reducible first | assumption | apply State.putUnits_held | apply State.fire_held | apply held_foldl | (fail_if_no_progress (with_reducible apply held_mk; with_reducible apply held_fold)) | extract_lets | dsimp only | dsimp +zetaDelta only)

theorem issueWord_held (s : State) (g : Eng) (word : Nat) (ext : Nat → Option Word) (micro : Bool) (priv : Bool) (void : Bool) (hs : Held qs s) : Held qs (issueWord s g word ext micro priv void).s := by
  unfold issueWord
  repeat' (first | intro _ | with_reducible first | assumption | apply State.lsuNotice_held | apply State.complete_held | apply held_ite | apply held_foldl | (fail_if_no_progress (with_reducible apply held_mk; with_reducible apply held_fold)) | split | extract_lets | dsimp only | dsimp +zetaDelta only)

theorem State.restoreWord_held (s : State) (e : Nat) (a : Nat) (hs : Held qs s) : Held qs (State.restoreWord s e a).1 := by
  unfold State.restoreWord
  repeat' (first | intro _ | with_reducible first | assumption | apply State.storeN_held | apply State.drawn_held | apply held_ite | split | extract_lets | dsimp only | dsimp +zetaDelta only)

theorem State.restoreMemory_held (s : State) (e a : Nat) (hs : Held qs s) : Held qs (State.restoreMemory s e a).1 := by
  unfold State.restoreMemory
  extract_lets base hit words
  clear_value base hit words
  apply held_foldl_pair
  · exact held_foldl _ _ hs fun t ht x => State.checkUnit_held t x ht
  · intro p hp w
    have h := State.restoreWord_held p.1 e w hp
    dsimp only
    generalize p.1.restoreWord e w = q at h ⊢
    exact h

theorem State.resumeLane_held (s : State) (e : Nat) (lost : Bool) (hs : Held qs s) : Held qs (State.resumeLane s e lost).1 := by
  unfold State.resumeLane
  repeat' (first | intro _ | with_reducible first | assumption | apply State.putBit_held | apply State.storeN_held | apply State.putLane_held | apply held_ite | apply held_foldl | (fail_if_no_progress (with_reducible apply held_mk; with_reducible apply held_fold)) | split | extract_lets | dsimp only | dsimp +zetaDelta only)

theorem State.memUe_held (s : State) (e : Nat) (hs : Held qs s) : Held qs (State.memUe s e) := by
  unfold State.memUe
  repeat' (first | intro _ | with_reducible first | assumption | apply State.fputs_held | apply State.bump_held | apply State.putLane_held | (fail_if_no_progress (with_reducible apply held_mk; with_reducible apply held_fold)))

theorem State.swapTrap_held (s : State) (e : Nat) (x : Nat) (hs : Held qs s) : Held qs (State.swapTrap s e x) := by
  unfold State.swapTrap
  repeat' (first | intro _ | with_reducible first | assumption | apply State.setReg_held)

theorem State.serveFault_held (s : State) (e : Nat) (detail : Nat) (bad : Option Nat) (hs : Held qs s) : Held qs (State.serveFault s e detail bad) := by
  unfold State.serveFault
  repeat' (first | intro _ | with_reducible first | assumption | apply State.fputs_held | apply State.raise_held | apply State.recoverWithin_held | apply State.doubleFault_held | apply State.elementFault_held | apply State.putLane_held | apply State.presentTrap_held | apply State.restoreMemory_held | apply State.resumeLane_held | apply State.swapTrap_held | apply held_ite | apply held_foldl | (with_reducible apply held_pair (by with_reducible assumption)) | (with_reducible apply held_pair2 (by with_reducible assumption)) | (fail_if_no_progress (with_reducible apply held_mk; with_reducible apply held_fold)) | split | extract_lets | dsimp only | dsimp +zetaDelta only)

theorem State.laneFault_held (s : State) (e : Nat) (cause : Nat) (bad : Option Nat) (hs : Held qs s) : Held qs (State.laneFault s e cause bad) := by
  unfold State.laneFault
  repeat' (first | intro _ | with_reducible first | assumption | apply State.memUe_held | apply State.serveFault_held | apply held_ite | split | extract_lets | dsimp only | dsimp +zetaDelta only)

theorem State.laneSys_held (s : State) (e : Nat) (v : Nat) (hs : Held qs s) : Held qs (State.laneSys s e v) := by
  unfold State.laneSys
  repeat' (first | intro _ | with_reducible first | assumption | apply State.markLane_held | apply State.yieldLane_held | apply State.haltLane_held | apply held_ite | split)

theorem State.voidStream_held (s : State) (e : Nat) (noise : Nat) (hs : Held qs s) : Held qs (State.voidStream s e noise) := by
  unfold State.voidStream
  repeat' (first | intro _ | with_reducible first | assumption | apply State.busFault_held | apply State.putLane_held | apply held_ite | (fail_if_no_progress (with_reducible apply held_mk; with_reducible apply held_fold)) | split | extract_lets | dsimp only | dsimp +zetaDelta only)

theorem State.laneIssue_held (s : State) (e : Nat) (word : Nat) (noise : Nat) (hs : Held qs s) : Held qs (State.laneIssue s e word noise) := by
  unfold State.laneIssue
  repeat' (first | intro _ | with_reducible first | assumption | apply State.checkRead_held | apply State.putLane_held | apply State.laneTrap_held | apply issueWord_held | apply State.laneFault_held | apply State.laneSys_held | apply State.voidStream_held | apply held_ite | apply held_foldl | (fail_if_no_progress (with_reducible apply held_mk; with_reducible apply held_fold)) | split | extract_lets | dsimp only | dsimp +zetaDelta only)

theorem onLane_held (s : State) (m : Mv) (word : Nat) (hs : Held qs s) : Held qs (onLane s m word) := by
  unfold onLane
  repeat' (first | intro _ | with_reducible first | assumption | apply State.at_held | apply State.laneIssue_held | apply held_ite | (fail_if_no_progress (with_reducible apply held_mk; with_reducible apply held_fold)) | split | extract_lets | dsimp only | dsimp +zetaDelta only)

theorem State.laneControl_held (s : State) (e : Nat) (v : Nat) (hs : Held qs s) : Held qs (State.laneControl s e v) := by
  unfold State.laneControl
  repeat' (first | intro _ | with_reducible first | assumption | apply State.fput_held | apply State.putBit_held | apply State.putLane_held | apply State.presentTrap_held | apply State.laneIssue_held | apply held_ite | (fail_if_no_progress (with_reducible apply held_mk; with_reducible apply held_fold)) | split | extract_lets | dsimp only | dsimp +zetaDelta only)

theorem State.emuControl_held (s : State) (e : Nat) (v : Nat) (hs : Held qs s) : Held qs (State.emuControl s e v) := by
  unfold State.emuControl
  repeat' (first | intro _ | with_reducible first | assumption | apply State.fputs_held | apply State.putLane_held | apply held_ite | (fail_if_no_progress (with_reducible apply held_mk; with_reducible apply held_fold)) | split | extract_lets | dsimp only | dsimp +zetaDelta only)

theorem State.replay_held (s : State) (e : Nat) (v : Nat) (hs : Held qs s) : Held qs (State.replay s e v) := by
  unfold State.replay
  repeat' (first | intro _ | with_reducible first | assumption | apply State.putLane_held | apply held_ite | (fail_if_no_progress (with_reducible apply held_mk; with_reducible apply held_fold)) | split | extract_lets | dsimp only | dsimp +zetaDelta only)

theorem State.streamConfig_held (s : State) (e : Nat) (v : Nat) (hs : Held qs s) : Held qs (State.streamConfig s e v) := by
  unfold State.streamConfig
  repeat' (first | intro _ | with_reducible first | assumption | apply State.fputs_held | apply State.putLane_held | apply held_ite | split)

theorem State.setLanePc_held (s : State) (e : Nat) (v : Nat) (hs : Held qs s) : Held qs (State.setLanePc s e v) := by
  unfold State.setLanePc
  repeat' (first | intro _ | with_reducible first | assumption | apply State.putLane_held | apply held_ite | (fail_if_no_progress (with_reducible apply held_mk; with_reducible apply held_fold)) | split | extract_lets | dsimp only | dsimp +zetaDelta only)

theorem onLaneReg_held (s : State) (w : Wr) (e : Nat) (reg : Nat) (f : State → State) (hs : Held qs s) (hf : ∀ t, Held qs t → Held qs (f t)) : Held qs (onLaneReg s w e reg f) := by
  unfold onLaneReg
  repeat' (first | intro _ | with_reducible first | assumption | apply hf | apply State.at_held | apply guarded_held | apply held_ite | split)

theorem execLeRun_held (w : Wr) (e : Nat) (s : State) (hs : Held qs s) : ∃ out, execLeRun w e s = .next out ∧ Held qs out := by
  refine ⟨_, rfl, ?_⟩
  repeat' (first | intro _ | with_reducible first | assumption | apply done_held | apply State.laneControl_held | apply onLaneReg_held | dsimp only)

theorem execLeStep_held (w : Wr) (e : Nat) (s : State) (hs : Held qs s) : ∃ out, execLeStep w e s = .next out ∧ Held qs out := by
  refine ⟨_, rfl, ?_⟩
  repeat' (first | intro _ | with_reducible first | assumption | apply done_held | apply State.laneControl_held | apply onLaneReg_held | dsimp only)

theorem execLeSuspend_held (w : Wr) (e : Nat) (s : State) (hs : Held qs s) : ∃ out, execLeSuspend w e s = .next out ∧ Held qs out := by
  refine ⟨_, rfl, ?_⟩
  repeat' (first | intro _ | with_reducible first | assumption | apply done_held | apply State.laneControl_held | apply onLaneReg_held | dsimp only)

theorem execLeSkip_held (w : Wr) (e : Nat) (s : State) (hs : Held qs s) : ∃ out, execLeSkip w e s = .next out ∧ Held qs out := by
  refine ⟨_, rfl, ?_⟩
  repeat' (first | intro _ | with_reducible first | assumption | apply done_held | apply State.laneControl_held | apply onLaneReg_held | dsimp only)

theorem execLeReset_held (w : Wr) (e : Nat) (s : State) (hs : Held qs s) : ∃ out, execLeReset w e s = .next out ∧ Held qs out := by
  refine ⟨_, rfl, ?_⟩
  repeat' (first | intro _ | with_reducible first | assumption | apply done_held | apply State.laneControl_held | apply onLaneReg_held | dsimp only)

theorem execStreamReplay_held (w : Wr) (e : Nat) (s : State) (hs : Held qs s) : ∃ out, execStreamReplay w e s = .next out ∧ Held qs out := by
  refine ⟨_, rfl, ?_⟩
  repeat' (first | intro _ | with_reducible first | assumption | apply done_held | apply State.replay_held | apply onLaneReg_held | dsimp only)

theorem execEmuDepositArm_held (w : Wr) (e : Nat) (s : State) (hs : Held qs s) : ∃ out, execEmuDepositArm w e s = .next out ∧ Held qs out := by
  refine ⟨_, rfl, ?_⟩
  repeat' (first | intro _ | with_reducible first | assumption | apply done_held | apply State.emuControl_held | apply onLaneReg_held | dsimp only)

theorem State.restartCursors_held (s : State) (k : Nat) (hs : Held qs s) : Held qs (State.restartCursors s k) := by
  unfold State.restartCursors
  repeat' (first | intro _ | with_reducible first | assumption | apply State.putLane_held | apply held_foldl | (fail_if_no_progress (with_reducible apply held_mk; with_reducible apply held_fold)) | dsimp only)

/-! ### Service -/

theorem State.setSvc_held (s : State) (x : SvcState) (hs : Held qs s) : Held qs (State.setSvc s x) := by
  unfold State.setSvc
  repeat' (first | intro _ | with_reducible first | assumption | (fail_if_no_progress (with_reducible apply held_mk; with_reducible apply held_fold)))

theorem State.putArea_held (s : State) (i : Nat) (x : Bool × List Byte) (hs : Held qs s) : Held qs (State.putArea s i x) := by
  unfold State.putArea
  repeat' (first | intro _ | with_reducible first | assumption | (fail_if_no_progress (with_reducible apply held_mk; with_reducible apply held_fold)) | dsimp only)

theorem State.svcCopy_held (s : State) (hs : Held qs s) : Held qs (State.svcCopy s) := by
  unfold State.svcCopy
  repeat' (first | intro _ | with_reducible first | assumption | apply State.fputs_held)

theorem State.lastWrite_held (s : State) (kind : Nat) (block : Nat) (status : Nat) (hs : Held qs s) : Held qs (State.lastWrite s kind block status) := by
  unfold State.lastWrite
  repeat' (first | intro _ | with_reducible first | assumption | apply State.fputs_held)

theorem State.writeArea_held (s : State) (i : Nat) (data : List Byte) (hs : Held qs s) : Held qs (State.writeArea s i data) := by
  unfold State.writeArea
  repeat' (first | intro _ | with_reducible first | assumption | apply State.putArea_held)

theorem State.writeAreas_held (s : State) (first : Nat) (zz : List (List Byte)) (hs : Held qs s) : Held qs (State.writeAreas s first zz) := by
  induction zz generalizing s first with
  | nil =>
    unfold State.writeAreas
    repeat' (first | intro _ | with_reducible first | assumption | apply State.writeArea_held)
  | cons zx zt ih =>
    unfold State.writeAreas
    repeat' (first | intro _ | with_reducible first | assumption | apply ih | apply State.writeArea_held)

theorem State.eraseEnd_held (s : State) (hs : Held qs s) : Held qs (State.eraseEnd s) := by
  unfold State.eraseEnd
  repeat' (first | intro _ | with_reducible first | assumption | apply State.orReg_held | apply State.setSvc_held | (fail_if_no_progress (with_reducible apply held_mk; with_reducible apply held_fold)))

theorem State.finishWrite_held (s : State) (w : SvcWrite) (hs : Held qs s) : Held qs (State.finishWrite s w) := by
  unfold State.finishWrite
  repeat' (first | intro _ | with_reducible first | assumption | apply State.setSvc_held | apply State.svcCopy_held | apply State.lastWrite_held | apply State.writeAreas_held | apply State.eraseEnd_held | apply held_ite | apply held_foldl | (with_reducible apply held_pair (by with_reducible assumption)) | (with_reducible apply held_pair2 (by with_reducible assumption)) | (fail_if_no_progress (with_reducible apply held_mk; with_reducible apply held_fold)) | split | extract_lets | dsimp only | dsimp +zetaDelta only)

theorem State.svcSettle_held (s : State) (hs : Held qs s) : Held qs (State.svcSettle s) := by
  unfold State.svcSettle
  repeat' (first | intro _ | with_reducible first | assumption | apply State.finishWrite_held | (fail_if_no_progress (with_reducible apply held_mk; with_reducible apply held_fold)) | split)

theorem State.startWrite_held (s : State) (w : SvcWrite) (hs : Held qs s) : Held qs (State.startWrite s w) := by
  unfold State.startWrite
  repeat' (first | intro _ | with_reducible first | assumption | apply State.setSvc_held | apply State.lastWrite_held | apply State.finishWrite_held | apply held_ite | (fail_if_no_progress (with_reducible apply held_mk; with_reducible apply held_fold)) | split)

theorem State.svcAt_held (s : State) (t : Nat) (hs : Held qs s) : Held qs (State.svcAt s t) := by
  unfold State.svcAt
  repeat' (first | intro _ | with_reducible first | assumption | apply State.at_held | apply State.svcSettle_held)

theorem State.svcSend_held (s : State) (bytes : List Byte) (hs : Held qs s) : Held qs (State.svcSend s bytes) := by
  unfold State.svcSend
  repeat' (first | intro _ | with_reducible first | assumption | apply State.setSvc_held | (fail_if_no_progress (with_reducible apply held_mk; with_reducible apply held_fold)))

theorem State.svcAnswer_held (s : State) (f : Nat) (inf : List Byte) (hs : Held qs s) : Held qs (State.svcAnswer s f inf) := by
  unfold State.svcAnswer
  repeat' (first | intro _ | with_reducible first | assumption | apply State.svcSend_held)

theorem State.svcR_held (s : State) (ee : Nat) (hs : Held qs s) : Held qs (State.svcR s ee) := by
  unfold State.svcR
  repeat' (first | intro _ | with_reducible first | assumption | apply State.svcSend_held)

theorem State.svcBad_held (s : State) (ee : Nat) (hs : Held qs s) : Held qs (State.svcBad s ee) := by
  unfold State.svcBad
  repeat' (first | intro _ | with_reducible first | assumption | apply State.bump_held | apply State.setSvc_held | apply State.svcR_held | (fail_if_no_progress (with_reducible apply held_mk; with_reducible apply held_fold)))

theorem execServiceActivation_held (at_ : Nat) (mv : Nat) (s : State) (hs : Held qs s) : ∃ out, execServiceActivation at_ mv s = .next out ∧ Held qs out := by
  refine ⟨_, rfl, ?_⟩
  repeat' (first | intro _ | with_reducible first | assumption | apply State.fputs_held | apply State.orReg_held | apply done_held | apply State.setSvc_held | apply State.svcCopy_held | apply State.svcAt_held | apply held_ite | apply held_foldl | (with_reducible apply held_pair (by with_reducible assumption)) | (with_reducible apply held_pair2 (by with_reducible assumption)) | (fail_if_no_progress (with_reducible apply held_mk; with_reducible apply held_fold)) | split | extract_lets | dsimp only | dsimp +zetaDelta only)

theorem execPps_held (at_ : Nat) (t : Nat) (pps1 : Option Nat) (s : State) (hs : Held qs s) : ∃ out, execPps at_ t pps1 s = .next out ∧ Held qs out := by
  refine ⟨_, rfl, ?_⟩
  repeat' (first | intro _ | with_reducible first | assumption | apply State.fput_held | apply done_held | apply State.svcAt_held | apply State.svcSend_held | apply held_ite | (fail_if_no_progress (with_reducible apply held_mk; with_reducible apply held_fold)) | split | extract_lets | dsimp only | dsimp +zetaDelta only)

theorem State.svcFunction_held (s : State) (at_ : Nat) (f : Nat) (inf : List Byte) (run : State → State) (hs : Held qs s) (hrun : ∀ t, Held qs t → Held qs (run t)) : Held qs (State.svcFunction s at_ f inf run) := by
  unfold State.svcFunction
  repeat' (first | intro _ | with_reducible first | assumption | apply hrun | apply State.svcAt_held | apply State.svcAnswer_held | apply held_ite | (fail_if_no_progress (with_reducible apply held_mk; with_reducible apply held_fold)) | split | extract_lets | dsimp only | dsimp +zetaDelta only)

theorem svcResynch_held (s : State) (hs : Held qs s) : Held qs (svcResynch s) := by
  unfold svcResynch
  repeat' (first | intro _ | with_reducible first | assumption | apply State.setSvc_held | apply State.svcAnswer_held | (fail_if_no_progress (with_reducible apply held_mk; with_reducible apply held_fold)))

theorem svcPoll_held (s : State) (hs : Held qs s) : Held qs (svcPoll s) := by
  unfold svcPoll
  repeat' (first | intro _ | with_reducible first | assumption | apply State.svcLoad_held | apply State.setSvc_held | apply State.svcAnswer_held | apply held_ite | (fail_if_no_progress (with_reducible apply held_mk; with_reducible apply held_fold)) | split | dsimp only)

theorem svcStatus_held (s : State) (hs : Held qs s) : Held qs (svcStatus s) := by
  unfold svcStatus
  repeat' (first | intro _ | with_reducible first | assumption | apply State.svcAnswer_held)

theorem svcUnlock_held (inf : List Byte) (s : State) (hs : Held qs s) : Held qs (svcUnlock inf s) := by
  unfold svcUnlock
  repeat' (first | intro _ | with_reducible first | assumption | apply State.bump_held | apply State.orReg_held | apply State.setSvc_held | apply State.svcCopy_held | apply State.lastWrite_held | apply State.svcAnswer_held | apply held_ite | (fail_if_no_progress (with_reducible apply held_mk; with_reducible apply held_fold)) | split | extract_lets | dsimp only | dsimp +zetaDelta only)

theorem svcErase_held (inf : List Byte) (s : State) (hs : Held qs s) : Held qs (svcErase inf s) := by
  unfold svcErase
  repeat' (first | intro _ | with_reducible first | assumption | apply State.setSvc_held | apply State.svcCopy_held | apply State.startWrite_held | apply State.svcAnswer_held | apply held_ite | (fail_if_no_progress (with_reducible apply held_mk; with_reducible apply held_fold)) | split | extract_lets | dsimp only | dsimp +zetaDelta only)

theorem svcAreaRead_held (inf : List Byte) (s : State) (hs : Held qs s) : Held qs (svcAreaRead inf s) := by
  unfold svcAreaRead
  repeat' (first | intro _ | with_reducible first | assumption | apply State.svcAnswer_held | apply held_ite | (with_reducible apply held_pair (by with_reducible assumption)) | (with_reducible apply held_pair2 (by with_reducible assumption)) | split | extract_lets | dsimp only | dsimp +zetaDelta only)

theorem svcAreaWrite_held (inf : List Byte) (s : State) (hs : Held qs s) : Held qs (svcAreaWrite inf s) := by
  unfold svcAreaWrite
  repeat' (first | intro _ | with_reducible first | assumption | apply State.startWrite_held | apply State.svcAnswer_held | apply held_ite | split)

theorem execResynch_held (at_ : Nat) (inf : List Byte) (s : State) (hs : Held qs s) : ∃ out, execResynch at_ inf s = .next out ∧ Held qs out := by
  refine ⟨_, rfl, ?_⟩
  repeat' (first | intro _ | with_reducible first | assumption | apply done_held | apply State.svcFunction_held | apply svcResynch_held)

theorem execPoll_held (at_ : Nat) (inf : List Byte) (s : State) (hs : Held qs s) : ∃ out, execPoll at_ inf s = .next out ∧ Held qs out := by
  refine ⟨_, rfl, ?_⟩
  repeat' (first | intro _ | with_reducible first | assumption | apply done_held | apply State.svcFunction_held | apply svcPoll_held)

theorem execStatus_held (at_ : Nat) (inf : List Byte) (s : State) (hs : Held qs s) : ∃ out, execStatus at_ inf s = .next out ∧ Held qs out := by
  refine ⟨_, rfl, ?_⟩
  repeat' (first | intro _ | with_reducible first | assumption | apply done_held | apply State.svcFunction_held | apply svcStatus_held)

theorem execUnlock_held (at_ : Nat) (inf : List Byte) (s : State) (hs : Held qs s) : ∃ out, execUnlock at_ inf s = .next out ∧ Held qs out := by
  refine ⟨_, rfl, ?_⟩
  repeat' (first | intro _ | with_reducible first | assumption | apply done_held | apply State.svcFunction_held | apply svcUnlock_held)

theorem execForcedErase_held (at_ : Nat) (inf : List Byte) (s : State) (hs : Held qs s) : ∃ out, execForcedErase at_ inf s = .next out ∧ Held qs out := by
  refine ⟨_, rfl, ?_⟩
  repeat' (first | intro _ | with_reducible first | assumption | apply done_held | apply State.svcFunction_held | apply svcErase_held)

theorem execAreaRead_held (at_ : Nat) (inf : List Byte) (s : State) (hs : Held qs s) : ∃ out, execAreaRead at_ inf s = .next out ∧ Held qs out := by
  refine ⟨_, rfl, ?_⟩
  repeat' (first | intro _ | with_reducible first | assumption | apply done_held | apply State.svcFunction_held | apply svcAreaRead_held)

theorem execAreaWrite_held (at_ : Nat) (inf : List Byte) (s : State) (hs : Held qs s) : ∃ out, execAreaWrite at_ inf s = .next out ∧ Held qs out := by
  refine ⟨_, rfl, ?_⟩
  repeat' (first | intro _ | with_reducible first | assumption | apply done_held | apply State.svcFunction_held | apply svcAreaWrite_held)

theorem State.svcDispatch_held (s : State) (at_ : Nat) (f : Nat) (inf : List Byte) (hs : Held qs s) : Held qs (State.svcDispatch s at_ f inf) := by
  unfold State.svcDispatch
  repeat' (first | intro _ | with_reducible first | assumption | apply State.svcBad_held | apply State.svcFunction_held | apply svcResynch_held | apply svcPoll_held | apply svcStatus_held | apply svcUnlock_held | apply svcErase_held | apply svcAreaRead_held | apply svcAreaWrite_held | (fail_if_no_progress (with_reducible apply held_mk; with_reducible apply held_fold)) | split)

theorem State.svcOwn_held (s : State) (p : Reply) (hs : Held qs s) : Held qs (State.svcOwn s p) := by
  unfold State.svcOwn
  repeat' (first | intro _ | with_reducible first | assumption | apply State.svcFirst_held | apply State.setSvc_held | (fail_if_no_progress (with_reducible apply held_mk; with_reducible apply held_fold)))

theorem State.svcDormantPacket_held (s : State) (bs : List Byte) (hs : Held qs s) : Held qs (State.svcDormantPacket s bs) := by
  unfold State.svcDormantPacket
  repeat' (first | intro _ | with_reducible first | assumption | apply State.svcBad_held | apply State.svcOwn_held | apply held_ite | (with_reducible apply held_pair (by with_reducible assumption)) | (with_reducible apply held_pair2 (by with_reducible assumption)) | (fail_if_no_progress (with_reducible apply held_mk; with_reducible apply held_fold)) | split | extract_lets | dsimp only | dsimp +zetaDelta only)

theorem State.svcPacket_held (s : State) (bs : List Byte) (hs : Held qs s) : Held qs (State.svcPacket s bs) := by
  unfold State.svcPacket
  repeat' (first | intro _ | with_reducible first | assumption | apply State.bump_held | apply State.hold_held | apply State.addRx_held | apply State.setSvc_held | apply State.svcOwn_held | apply State.svcDormantPacket_held | apply held_ite | (fail_if_no_progress (with_reducible apply held_mk; with_reducible apply held_fold)) | split | extract_lets | dsimp only | dsimp +zetaDelta only)

theorem State.svcI_held (s : State) (more : Bool) (inf : List Byte) (hs : Held qs s) : Held qs (State.svcI s more inf) := by
  unfold State.svcI
  repeat' (first | intro _ | with_reducible first | assumption | apply State.setSvc_held | apply State.svcR_held | apply State.svcPacket_held | apply held_ite | (fail_if_no_progress (with_reducible apply held_mk; with_reducible apply held_fold)) | split | extract_lets | dsimp only | dsimp +zetaDelta only)

theorem State.svcAck_held (s : State) (n : Nat) (ee : Nat) (hs : Held qs s) : Held qs (State.svcAck s n ee) := by
  unfold State.svcAck
  repeat' (first | intro _ | with_reducible first | assumption | apply State.svcFirst_held | apply State.setSvc_held | apply held_ite | (fail_if_no_progress (with_reducible apply held_mk; with_reducible apply held_fold)) | split)

theorem execServiceBlockReceived_held (at_ : Nat) (pcb : Nat) (len : Nat) (inf : List Byte) (edc : Bool) (parity : Bool) (s : State) (hs : Held qs s) : ∃ out, execServiceBlockReceived at_ pcb len inf edc parity s = .next out ∧ Held qs out := by
  refine ⟨_, rfl, ?_⟩
  repeat' (first | intro _ | with_reducible first | assumption | apply done_held | apply State.svcAt_held | apply State.svcBad_held | apply State.svcDispatch_held | apply State.svcI_held | apply State.svcAck_held | apply held_ite | split | extract_lets | dsimp only | dsimp +zetaDelta only)

theorem execServiceCwtTimeout_held (at_ : Nat) (s : State) (hs : Held qs s) : ∃ out, execServiceCwtTimeout at_ s = .next out ∧ Held qs out := by
  refine ⟨_, rfl, ?_⟩
  repeat' (first | intro _ | with_reducible first | assumption | apply done_held | apply State.svcAt_held | apply State.svcBad_held | apply held_ite | apply held_foldl | (with_reducible apply held_pair (by with_reducible assumption)) | (with_reducible apply held_pair2 (by with_reducible assumption)) | (fail_if_no_progress (with_reducible apply held_mk; with_reducible apply held_fold)) | split | extract_lets | dsimp only | dsimp +zetaDelta only)

theorem execServiceBusy_held (at_ : Nat) (s : State) (hs : Held qs s) : ∃ out, execServiceBusy at_ s = .next out ∧ Held qs out := by
  refine ⟨_, rfl, ?_⟩
  repeat' (first | intro _ | with_reducible first | assumption | apply State.fput_held | apply State.at_held | apply done_held | apply held_ite | apply held_foldl | (with_reducible apply held_pair (by with_reducible assumption)) | (with_reducible apply held_pair2 (by with_reducible assumption)) | (fail_if_no_progress (with_reducible apply held_mk; with_reducible apply held_fold)) | split | extract_lets | dsimp only | dsimp +zetaDelta only)

theorem execClockStop_held (at_ : Nat) (restart : Bool) (inside : Bool) (s : State) (hs : Held qs s) : ∃ out, execClockStop at_ restart inside s = .next out ∧ Held qs out := by
  refine ⟨_, rfl, ?_⟩
  repeat' (first | intro _ | with_reducible first | assumption | apply State.fput_held | apply State.svcPump_held | apply done_held | apply State.svcAt_held | apply State.svcBad_held | apply held_ite | split | extract_lets | dsimp only | dsimp +zetaDelta only)

theorem State.svcOff_held (s : State) (hs : Held qs s) : Held qs (State.svcOff s) := by
  unfold State.svcOff
  repeat' (first | intro _ | with_reducible first | assumption | apply State.fputs_held | apply State.setSvc_held | apply State.svcCopy_held | (fail_if_no_progress (with_reducible apply held_mk; with_reducible apply held_fold)))

theorem execDeactivation_held (at_ : Nat) (s : State) (hs : Held qs s) : ∃ out, execDeactivation at_ s = .next out ∧ Held qs out := by
  refine ⟨_, rfl, ?_⟩
  repeat' (first | intro _ | with_reducible first | assumption | apply done_held | apply State.svcAt_held | apply State.svcOff_held)

theorem State.tearWrite_held (s : State) (w : SvcWrite) (whole : Nat) (torn : Bool) (hs : Held qs s) : Held qs (State.tearWrite s w whole torn) := by
  unfold State.tearWrite
  repeat' (first | intro _ | with_reducible first | assumption | apply State.orReg_held | apply State.setSvc_held | apply State.putArea_held | apply State.writeAreas_held | apply held_ite | (fail_if_no_progress (with_reducible apply held_mk; with_reducible apply held_fold)) | split | extract_lets | dsimp only | dsimp +zetaDelta only)

theorem execServiceProbeRemoval_held (at_ : Nat) (whole : Nat) (torn : Bool) (s : State) (hs : Held qs s) : ∃ out, execServiceProbeRemoval at_ whole torn s = .next out ∧ Held qs out := by
  refine ⟨_, rfl, ?_⟩
  repeat' (first | intro _ | with_reducible first | assumption | apply State.at_held | apply done_held | apply State.finishWrite_held | apply State.svcOff_held | apply State.tearWrite_held | apply held_ite | (fail_if_no_progress (with_reducible apply held_mk; with_reducible apply held_fold)) | split | extract_lets | dsimp only | dsimp +zetaDelta only)

theorem State.svcPowerLost_held (s : State) (hs : Held qs s) : Held qs (State.svcPowerLost s) := by
  unfold State.svcPowerLost
  repeat' (first | intro _ | with_reducible first | assumption | apply State.fput_held | apply State.setSvc_held | apply State.svcSend_held | apply held_ite | (fail_if_no_progress (with_reducible apply held_mk; with_reducible apply held_fold)) | split | extract_lets | dsimp only | dsimp +zetaDelta only)

theorem execServiceReadConfig_held (r : Req) (s : State) (hs : Held qs s) : ∃ out, execServiceReadConfig r s = .next out ∧ Held qs out := by
  refine ⟨_, rfl, ?_⟩
  repeat' (first | intro _ | with_reducible first | assumption | apply runCmd_held | apply readEff_held | apply done_held | dsimp only)

theorem execServiceSetPassword_held (r : Req) (password : Option Nat) (s : State) (hs : Held qs s) : ∃ out, execServiceSetPassword r password s = .next out ∧ Held qs out := by
  refine ⟨_, rfl, ?_⟩
  repeat' (first | intro _ | with_reducible first | assumption | apply runCmd_held | apply okEff_held | apply done_held | apply State.setSvc_held | apply State.svcCopy_held | (fail_if_no_progress (with_reducible apply held_mk; with_reducible apply held_fold)) | split | dsimp only)

theorem execServiceReadArea_held (r : Req) (first : Nat) (count : Nat) (s : State) (hs : Held qs s) : ∃ out, execServiceReadArea r first count s = .next out ∧ Held qs out := by
  refine ⟨_, rfl, ?_⟩
  repeat' (first | intro _ | with_reducible first | assumption | apply runCmd_held | apply done_held | extract_lets | dsimp only | dsimp +zetaDelta only)

theorem execServiceWriteArea_held (r : Req) (first : Nat) (data : List Byte) (s : State) (hs : Held qs s) : ∃ out, execServiceWriteArea r first data s = .next out ∧ Held qs out := by
  refine ⟨_, rfl, ?_⟩
  repeat' (first | intro _ | with_reducible first | assumption | apply runCmd_held | apply okEff_held | apply done_held | apply State.svcCopy_held | apply State.writeAreas_held | dsimp only)

/-! ### Tag -/

theorem State.setTag_held (s : State) (x : TagState) (hs : Held qs s) : Held qs (State.setTag s x) := by
  unfold State.setTag
  repeat' (first | intro _ | with_reducible first | assumption | (fail_if_no_progress (with_reducible apply held_mk; with_reducible apply held_fold)))

theorem State.putTagBlock_held (s : State) (i : Nat) (b : TagBlock) (hs : Held qs s) : Held qs (State.putTagBlock s i b) := by
  unfold State.putTagBlock
  repeat' (first | intro _ | with_reducible first | assumption | apply State.setTag_held | (fail_if_no_progress (with_reducible apply held_mk; with_reducible apply held_fold)))

theorem State.tagCopies_held (s : State) (hs : Held qs s) : Held qs (State.tagCopies s) := by
  unfold State.tagCopies
  repeat' (first | intro _ | with_reducible first | assumption | apply State.fputs_held)

theorem wiredResult_held (s : State) (op : Nat) (st : Nat) (hs : Held qs s) : Held qs (wiredResult s op st) := by
  unfold wiredResult
  repeat' (first | intro _ | with_reducible first | assumption | apply State.fputs_held)

theorem State.tagItem_held (s : State) (zz : TagItem) (hs : Held qs s) : Held qs (State.tagItem s zz) := by
  unfold State.tagItem
  repeat' (first | intro _ | with_reducible first | assumption | apply State.reply_held | apply State.setTag_held | apply wiredResult_held | apply held_ite | (fail_if_no_progress (with_reducible apply held_mk; with_reducible apply held_fold)) | split | extract_lets | dsimp only | dsimp +zetaDelta only)

theorem State.tagOne_held (s : State) (hs : Held qs s) : Held qs (State.tagOne s) := by
  unfold State.tagOne
  repeat' (first | intro _ | with_reducible first | assumption | apply State.setTag_held | apply State.tagItem_held | (with_reducible apply held_pair (by with_reducible assumption)) | (with_reducible apply held_pair2 (by with_reducible assumption)) | (fail_if_no_progress (with_reducible apply held_mk; with_reducible apply held_fold)) | split)

theorem State.tagDrain_held (s : State) (zz : Nat) (hs : Held qs s) : Held qs (State.tagDrain s zz) := by
  induction zz generalizing s with
  | zero =>
    unfold State.tagDrain
    repeat' (first | intro _ | with_reducible first | assumption | apply State.tagOne_held | apply held_ite | split)
  | succ zn ih =>
    unfold State.tagDrain
    repeat' (first | intro _ | with_reducible first | assumption | apply ih | apply State.tagOne_held | apply held_ite | split)

theorem State.tagRunItems_held (s : State) (hs : Held qs s) : Held qs (State.tagRunItems s) := by
  unfold State.tagRunItems
  repeat' (first | intro _ | with_reducible first | assumption | apply State.tagCopies_held | apply State.tagDrain_held)

theorem State.tagQueue_held (s : State) (xs : List TagItem) (hs : Held qs s) : Held qs (State.tagQueue s xs) := by
  unfold State.tagQueue
  repeat' (first | intro _ | with_reducible first | assumption | apply State.setTag_held | apply State.tagRunItems_held | (fail_if_no_progress (with_reducible apply held_mk; with_reducible apply held_fold)) | dsimp only)

theorem State.rollOne_held (s : State) (hs : Held qs s) : Held qs (State.rollOne s) := by
  unfold State.rollOne
  repeat' (first | intro _ | with_reducible first | assumption | apply State.setTag_held | apply State.putTagBlock_held | (fail_if_no_progress (with_reducible apply held_mk; with_reducible apply held_fold)) | split)

theorem State.rollEnd_held (s : State) (hs : Held qs s) : Held qs (State.rollEnd s) := by
  unfold State.rollEnd
  repeat' (first | intro _ | with_reducible first | assumption | apply State.orReg_held | apply State.setTag_held | apply held_ite | (fail_if_no_progress (with_reducible apply held_mk; with_reducible apply held_fold)) | split)

theorem State.rollMany_held (s : State) (zz : Nat) (hs : Held qs s) : Held qs (State.rollMany s zz) := by
  induction zz generalizing s with
  | zero =>
    unfold State.rollMany
    repeat' (first | intro _ | with_reducible first | assumption | apply State.rollOne_held | apply State.rollEnd_held | apply held_ite | split)
  | succ zn ih =>
    unfold State.rollMany
    repeat' (first | intro _ | with_reducible first | assumption | apply ih | apply State.rollOne_held | apply State.rollEnd_held | apply held_ite | split)

theorem execRollForward_held (at_ : Nat) (n : Nat) (store : Nat) (s : State) (hs : Held qs s) : ∃ out, execRollForward at_ n store s = .next out ∧ Held qs out := by
  refine ⟨_, rfl, ?_⟩
  repeat' (first | intro _ | with_reducible first | assumption | apply State.store_held | apply State.at_held | apply done_held | apply State.setTag_held | apply State.tagCopies_held | apply State.rollMany_held | (fail_if_no_progress (with_reducible apply held_mk; with_reducible apply held_fold)) | extract_lets | dsimp only | dsimp +zetaDelta only)

theorem execWiredItemWait_held (at_ : Nat) (s : State) (hs : Held qs s) : ∃ out, execWiredItemWait at_ s = .next out ∧ Held qs out := by
  refine ⟨_, rfl, ?_⟩
  repeat' (first | intro _ | with_reducible first | assumption | apply State.at_held | apply done_held | apply State.setTag_held | (with_reducible apply held_pair (by with_reducible assumption)) | (with_reducible apply held_pair2 (by with_reducible assumption)) | (fail_if_no_progress (with_reducible apply held_mk; with_reducible apply held_fold)) | split | extract_lets | dsimp only | dsimp +zetaDelta only)

theorem State.tagGo_held (s : State) (hs : Held qs s) : Held qs (State.tagGo s) := by
  unfold State.tagGo
  repeat' (first | intro _ | with_reducible first | assumption | apply State.tagQueue_held | (fail_if_no_progress (with_reducible apply held_mk; with_reducible apply held_fold)) | split | dsimp only)

theorem State.tagWcmd_held (s : State) (v : Nat) (hs : Held qs s) : Held qs (State.tagWcmd s v) := by
  unfold State.tagWcmd
  repeat' (first | intro _ | with_reducible first | assumption | apply State.fput_held | apply State.raise_held | apply State.tagGo_held | apply held_ite | split | extract_lets | dsimp only | dsimp +zetaDelta only)

theorem execTagStage_held (w : Wr) (s : State) (hs : Held qs s) : ∃ out, execTagStage w s = .next out ∧ Held qs out := by
  refine ⟨_, rfl, ?_⟩
  repeat' (first | intro _ | with_reducible first | assumption | apply done_held | apply guarded_held | apply State.tagWcmd_held | dsimp only)

theorem execTagCommit_held (w : Wr) (s : State) (hs : Held qs s) : ∃ out, execTagCommit w s = .next out ∧ Held qs out := by
  refine ⟨_, rfl, ?_⟩
  repeat' (first | intro _ | with_reducible first | assumption | apply done_held | apply guarded_held | apply State.tagWcmd_held | dsimp only)

theorem execTagDiscard_held (w : Wr) (s : State) (hs : Held qs s) : ∃ out, execTagDiscard w s = .next out ∧ Held qs out := by
  refine ⟨_, rfl, ?_⟩
  repeat' (first | intro _ | with_reducible first | assumption | apply done_held | apply guarded_held | apply State.tagWcmd_held | dsimp only)

theorem State.tagOut_held (s : State) (bs : List Byte) (hs : Held qs s) : Held qs (State.tagOut s bs) := by
  unfold State.tagOut
  repeat' (first | intro _ | with_reducible first | assumption | apply State.setTag_held | (fail_if_no_progress (with_reducible apply held_mk; with_reducible apply held_fold)))

theorem State.tagTo_held (s : State) (rf : Nat) (hs : Held qs s) : Held qs (State.tagTo s rf) := by
  unfold State.tagTo
  repeat' (first | intro _ | with_reducible first | assumption | apply State.setTag_held | (fail_if_no_progress (with_reducible apply held_mk; with_reducible apply held_fold)))

theorem execFieldOn_held (at_ : Nat) (strength : Nat) (store : Nat) (s : State) (hs : Held qs s) : ∃ out, execFieldOn at_ strength store s = .next out ∧ Held qs out := by
  refine ⟨_, rfl, ?_⟩
  repeat' (first | intro _ | with_reducible first | assumption | apply State.orReg_held | apply State.store_held | apply State.at_held | apply done_held | apply State.setTag_held | apply State.tagCopies_held | apply State.tagTo_held | (fail_if_no_progress (with_reducible apply held_mk; with_reducible apply held_fold)) | extract_lets | dsimp only | dsimp +zetaDelta only)

theorem execFieldLoss_held (at_ : Nat) (s : State) (hs : Held qs s) : ∃ out, execFieldLoss at_ s = .next out ∧ Held qs out := by
  refine ⟨_, rfl, ?_⟩
  repeat' (first | intro _ | with_reducible first | assumption | apply State.orReg_held | apply State.store_held | apply State.at_held | apply done_held | apply State.setTag_held | apply State.tagRunItems_held | apply State.tagTo_held | (fail_if_no_progress (with_reducible apply held_mk; with_reducible apply held_fold)) | extract_lets | dsimp only | dsimp +zetaDelta only)

theorem execReqa_held (at_ : Nat) (wupa : Bool) (s : State) (hs : Held qs s) : ∃ out, execReqa at_ wupa s = .next out ∧ Held qs out := by
  refine ⟨_, rfl, ?_⟩
  repeat' (first | intro _ | with_reducible first | assumption | apply State.at_held | apply done_held | apply State.tagCopies_held | apply State.tagOut_held | apply State.tagTo_held | apply held_ite | apply held_foldl | (with_reducible apply held_pair (by with_reducible assumption)) | (with_reducible apply held_pair2 (by with_reducible assumption)) | (fail_if_no_progress (with_reducible apply held_mk; with_reducible apply held_fold)) | split | extract_lets | dsimp only | dsimp +zetaDelta only)

theorem execAnticollision_held (at_ : Nat) (level : Nat) (bits : List Bool) (s : State) (hs : Held qs s) : ∃ out, execAnticollision at_ level bits s = .next out ∧ Held qs out := by
  refine ⟨_, rfl, ?_⟩
  repeat' (first | intro _ | with_reducible first | assumption | apply State.at_held | apply done_held | apply State.setTag_held | apply State.tagCopies_held | apply State.tagOut_held | apply held_ite | (fail_if_no_progress (with_reducible apply held_mk; with_reducible apply held_fold)) | split | extract_lets | dsimp only | dsimp +zetaDelta only)

theorem execHlta_held (at_ : Nat) (s : State) (hs : Held qs s) : ∃ out, execHlta at_ s = .next out ∧ Held qs out := by
  refine ⟨_, rfl, ?_⟩
  repeat' (first | intro _ | with_reducible first | assumption | apply State.at_held | apply done_held | apply State.tagCopies_held | apply State.tagTo_held | apply held_ite | apply held_foldl | (with_reducible apply held_pair (by with_reducible assumption)) | (with_reducible apply held_pair2 (by with_reducible assumption)) | (fail_if_no_progress (with_reducible apply held_mk; with_reducible apply held_fold)) | split | extract_lets | dsimp only | dsimp +zetaDelta only)

theorem execRats_held (at_ : Nat) (param : Nat) (s : State) (hs : Held qs s) : ∃ out, execRats at_ param s = .next out ∧ Held qs out := by
  refine ⟨_, rfl, ?_⟩
  repeat' (first | intro _ | with_reducible first | assumption | apply State.at_held | apply done_held | apply State.setTag_held | apply State.tagCopies_held | apply State.tagOut_held | apply held_ite | apply held_foldl | (with_reducible apply held_pair (by with_reducible assumption)) | (with_reducible apply held_pair2 (by with_reducible assumption)) | (fail_if_no_progress (with_reducible apply held_mk; with_reducible apply held_fold)) | split | extract_lets | dsimp only | dsimp +zetaDelta only)

theorem execRfPps_held (at_ : Nat) (dr : Nat) (ds : Nat) (s : State) (hs : Held qs s) : ∃ out, execRfPps at_ dr ds s = .next out ∧ Held qs out := by
  refine ⟨_, rfl, ?_⟩
  repeat' (first | intro _ | with_reducible first | assumption | apply State.at_held | apply done_held | apply State.setTag_held | apply State.tagCopies_held | apply State.tagOut_held | apply held_ite | (fail_if_no_progress (with_reducible apply held_mk; with_reducible apply held_fold)) | split | extract_lets | dsimp only | dsimp +zetaDelta only)

theorem State.tagDeselect_held (s : State) (hs : Held qs s) : Held qs (State.tagDeselect s) := by
  unfold State.tagDeselect
  repeat' (first | intro _ | with_reducible first | assumption | apply State.tagRunItems_held | apply State.tagOut_held | apply State.tagTo_held | apply held_ite | split)

theorem execDeselect_held (at_ : Nat) (s : State) (hs : Held qs s) : ∃ out, execDeselect at_ s = .next out ∧ Held qs out := by
  refine ⟨_, rfl, ?_⟩
  repeat' (first | intro _ | with_reducible first | assumption | apply State.at_held | apply done_held | apply State.tagDeselect_held)

theorem tagNo_held (s : State) (e : Nat) (hs : Held qs s) : Held qs (tagNo s e).1 := by
  unfold tagNo
  repeat' (first | intro _ | with_reducible first | assumption)

theorem tagInfo_held (s : State) (hs : Held qs s) : Held qs (tagInfo s).1 := by
  unfold tagInfo
  repeat' (first | intro _ | with_reducible first | assumption | apply State.tagCopies_held)

theorem tagRead_held (first : Nat) (count : Nat) (s : State) (hs : Held qs s) : Held qs (tagRead first count s).1 := by
  unfold tagRead
  repeat' (first | intro _ | with_reducible first | assumption | apply tagNo_held | apply held_ite | split)

theorem tagPassword_held (pw : Nat) (s : State) (hs : Held qs s) : Held qs (tagPassword pw s).1 := by
  unfold tagPassword
  repeat' (first | intro _ | with_reducible first | assumption | apply State.bump_held | apply State.orReg_held | apply State.setTag_held | apply State.tagCopies_held | apply tagNo_held | apply held_ite | (fail_if_no_progress (with_reducible apply held_mk; with_reducible apply held_fold)) | split | extract_lets | dsimp only | dsimp +zetaDelta only)

theorem tagWrite_held (block : Nat) (data : List Byte) (cut : Option Bool) (s : State) (hs : Held qs s) : Held qs (tagWrite block data cut s).1 := by
  unfold tagWrite
  repeat' (first | intro _ | with_reducible first | assumption | apply State.bump_held | apply State.orReg_held | apply State.putTagBlock_held | apply tagNo_held | apply held_ite | split | extract_lets | dsimp only | dsimp +zetaDelta only)

theorem tagSeal_held (q : Nat) (s : State) (hs : Held qs s) : Held qs (tagSeal q s).1 := by
  unfold tagSeal
  repeat' (first | intro _ | with_reducible first | assumption | apply tagNo_held | (with_reducible apply held_pair (by with_reducible assumption)) | (with_reducible apply held_pair2 (by with_reducible assumption)) | (fail_if_no_progress (with_reducible apply held_mk; with_reducible apply held_fold)) | split)

theorem tagEntries_held (first : Nat) (count : Nat) (s : State) (hs : Held qs s) : Held qs (tagEntries first count s).1 := by
  unfold tagEntries
  repeat' (first | intro _ | with_reducible first | assumption | apply tagNo_held | apply held_ite | (fail_if_no_progress (with_reducible apply held_mk; with_reducible apply held_fold)) | split | dsimp only)

theorem State.tagNext_held (s : State) (hs : Held qs s) : Held qs (State.tagNext s) := by
  unfold State.tagNext
  repeat' (first | intro _ | with_reducible first | assumption | apply State.tagOut_held | (fail_if_no_progress (with_reducible apply held_mk; with_reducible apply held_fold)) | split)

theorem State.tagAnswer_held (a : TagAnswer)  (ha : Held qs a.1) : Held qs (State.tagAnswer a) := by
  unfold State.tagAnswer
  repeat' (first | intro _ | with_reducible first | assumption | apply State.setTag_held | apply State.tagRunItems_held | apply State.tagNext_held | (with_reducible apply held_pair (by with_reducible assumption)) | (with_reducible apply held_pair2 (by with_reducible assumption)) | (fail_if_no_progress (with_reducible apply held_mk; with_reducible apply held_fold)) | split | extract_lets | dsimp only | dsimp +zetaDelta only)

theorem State.tagRun_held (s : State) (at_ : Nat) (f : State → TagAnswer) (hs : Held qs s) (hf : ∀ t, Held qs t → Held qs (f t).1) : Held qs (State.tagRun s at_ f) := by
  unfold State.tagRun
  repeat' (first | intro _ | with_reducible first | assumption | apply hf | apply State.at_held | apply State.setTag_held | apply State.tagAnswer_held | apply held_ite | (fail_if_no_progress (with_reducible apply held_mk; with_reducible apply held_fold)) | split | extract_lets | dsimp only | dsimp +zetaDelta only)

theorem execTagInfo_held (at_ : Nat) (s : State) (hs : Held qs s) : ∃ out, execTagInfo at_ s = .next out ∧ Held qs out := by
  refine ⟨_, rfl, ?_⟩
  repeat' (first | intro _ | with_reducible first | assumption | apply done_held | apply tagInfo_held | apply State.tagRun_held)

theorem execTagRead_held (at_ : Nat) (first : Nat) (count : Nat) (s : State) (hs : Held qs s) : ∃ out, execTagRead at_ first count s = .next out ∧ Held qs out := by
  refine ⟨_, rfl, ?_⟩
  repeat' (first | intro _ | with_reducible first | assumption | apply done_held | apply tagRead_held | apply State.tagRun_held)

theorem execPwCheck_held (at_ : Nat) (password : Nat) (s : State) (hs : Held qs s) : ∃ out, execPwCheck at_ password s = .next out ∧ Held qs out := by
  refine ⟨_, rfl, ?_⟩
  repeat' (first | intro _ | with_reducible first | assumption | apply done_held | apply tagPassword_held | apply State.tagRun_held)

theorem execTagSummary_held (at_ : Nat) (s : State) (hs : Held qs s) : ∃ out, execTagSummary at_ s = .next out ∧ Held qs out := by
  refine ⟨_, rfl, ?_⟩
  repeat' (first | intro _ | with_reducible first | assumption | apply done_held | apply State.tagRun_held | dsimp only)

theorem execTagSeal_held (at_ : Nat) (sealSeq : Nat) (s : State) (hs : Held qs s) : ∃ out, execTagSeal at_ sealSeq s = .next out ∧ Held qs out := by
  refine ⟨_, rfl, ?_⟩
  repeat' (first | intro _ | with_reducible first | assumption | apply done_held | apply tagSeal_held | apply State.tagRun_held)

theorem execTagEntries_held (at_ : Nat) (first : Nat) (count : Nat) (s : State) (hs : Held qs s) : ∃ out, execTagEntries at_ first count s = .next out ∧ Held qs out := by
  refine ⟨_, rfl, ?_⟩
  repeat' (first | intro _ | with_reducible first | assumption | apply done_held | apply tagEntries_held | apply State.tagRun_held)

theorem execTagWrite_held (at_ : Nat) (block : Nat) (data : List Byte) (store : Nat) (cut : Option Bool) (s : State) (hs : Held qs s) : ∃ out, execTagWrite at_ block data store cut s = .next out ∧ Held qs out := by
  refine ⟨_, rfl, ?_⟩
  repeat' (first | intro _ | with_reducible first | assumption | apply State.store_held | apply done_held | apply State.setTag_held | apply State.tagRunItems_held | apply tagNo_held | apply tagWrite_held | apply State.tagRun_held | apply held_ite | (fail_if_no_progress (with_reducible apply held_mk; with_reducible apply held_fold)) | split | extract_lets | dsimp only | dsimp +zetaDelta only)

theorem tagCommand_held (inf : List Byte) (s : State) (hs : Held qs s) : Held qs (tagCommand inf s).1 := by
  unfold tagCommand
  repeat' (first | intro _ | with_reducible first | assumption | apply tagNo_held | apply tagInfo_held | apply tagRead_held | apply tagPassword_held | apply tagWrite_held | apply tagSeal_held | apply tagEntries_held | apply held_ite | (fail_if_no_progress (with_reducible apply held_mk; with_reducible apply held_fold)) | split | extract_lets | dsimp only | dsimp +zetaDelta only)

theorem State.tagBlockIn_held (s : State) (pcb : Nat) (inf : List Byte) (hs : Held qs s) : Held qs (State.tagBlockIn s pcb inf) := by
  unfold State.tagBlockIn
  repeat' (first | intro _ | with_reducible first | assumption | apply State.setTag_held | apply State.tagRunItems_held | apply State.tagOut_held | apply State.tagDeselect_held | apply State.tagNext_held | apply State.tagRun_held | apply tagCommand_held | apply held_ite | (fail_if_no_progress (with_reducible apply held_mk; with_reducible apply held_fold)) | split | extract_lets | dsimp only | dsimp +zetaDelta only)

theorem execRfBlockReceived_held (at_ : Nat) (pcb : Nat) (inf : List Byte) (good : Bool) (s : State) (hs : Held qs s) : ∃ out, execRfBlockReceived at_ pcb inf good s = .next out ∧ Held qs out := by
  refine ⟨_, rfl, ?_⟩
  repeat' (first | intro _ | with_reducible first | assumption | apply State.bump_held | apply State.orReg_held | apply State.at_held | apply done_held | apply State.setTag_held | apply State.tagCopies_held | apply State.tagOne_held | apply State.rollOne_held | apply State.rollEnd_held | apply State.tagOut_held | apply State.tagBlockIn_held | apply held_ite | (fail_if_no_progress (with_reducible apply held_mk; with_reducible apply held_fold)) | split | extract_lets | dsimp only | dsimp +zetaDelta only)

theorem execTagReadConfig_held (r : Req) (s : State) (hs : Held qs s) : ∃ out, execTagReadConfig r s = .next out ∧ Held qs out := by
  refine ⟨_, rfl, ?_⟩
  repeat' (first | intro _ | with_reducible first | assumption | apply runCmd_held | apply readEff_held | apply done_held | apply State.tagCopies_held | dsimp only)

theorem execTagSetConfig_held (r : Req) (en : Bool) (record : Bool) (vharv : Bool) (rate : Nat) (password : Option (Nat × Nat)) (s : State) (hs : Held qs s) : ∃ out, execTagSetConfig r en record vharv rate password s = .next out ∧ Held qs out := by
  refine ⟨_, rfl, ?_⟩
  repeat' (first | intro _ | with_reducible first | assumption | apply State.fputs_held | apply runCmd_held | apply okEff_held | apply done_held | apply State.setTag_held | apply State.tagCopies_held | apply held_ite | (fail_if_no_progress (with_reducible apply held_mk; with_reducible apply held_fold)) | split | extract_lets | dsimp only | dsimp +zetaDelta only)

theorem execPassportRead_held (r : Req) (first : Nat) (count : Nat) (s : State) (hs : Held qs s) : ∃ out, execPassportRead r first count s = .next out ∧ Held qs out := by
  refine ⟨_, rfl, ?_⟩
  repeat' (first | intro _ | with_reducible first | assumption | apply runCmd_held | apply readEff_held | apply done_held | dsimp only)

theorem State.writeGroup_held (s : State) (r : Req) (op : Nat) (first : Nat) (blocks : List (List Byte)) (hs : Held qs s) : Held qs (State.writeGroup s r op first blocks) := by
  unfold State.writeGroup
  repeat' (first | intro _ | with_reducible first | assumption | apply State.setTag_held | apply State.tagQueue_held | (fail_if_no_progress (with_reducible apply held_mk; with_reducible apply held_fold)) | extract_lets | dsimp only | dsimp +zetaDelta only)

theorem execPassportWrite_held (r : Req) (first : Nat) (data : List Byte) (s : State) (hs : Held qs s) : ∃ out, execPassportWrite r first data s = .next out ∧ Held qs out := by
  refine ⟨_, rfl, ?_⟩
  repeat' (first | intro _ | with_reducible first | assumption | apply runCmd_held | apply done_held | apply State.writeGroup_held | dsimp only)

theorem execPassportSign_held (r : Req) (identity : Option (List Byte)) (chemistry : Option (List Byte)) (s : State) (hs : Held qs s) : ∃ out, execPassportSign r identity chemistry s = .next out ∧ Held qs out := by
  refine ⟨_, rfl, ?_⟩
  repeat' (first | intro _ | with_reducible first | assumption | apply State.drawn_held | apply runCmd_held | apply done_held | apply State.writeGroup_held | apply held_ite | (fail_if_no_progress (with_reducible apply held_mk; with_reducible apply held_fold)) | split | extract_lets | dsimp only | dsimp +zetaDelta only)

/-! ### Custody -/

theorem State.restartTime_held (s : State) (count : Nat) (hs : Held qs s) : Held qs (State.restartTime s count) := by
  unfold State.restartTime
  repeat' (first | intro _ | with_reducible first | assumption | apply State.fputs_held | apply State.drawn_held | apply State.loadStamp_held | apply State.clearStore_held | apply State.discardSegments_held | apply State.restartCursors_held | apply held_ite | (fail_if_no_progress (with_reducible apply held_mk; with_reducible apply held_fold)) | split | extract_lets | dsimp only | dsimp +zetaDelta only)

theorem execModeSet_held (r : Req) (target : Nat) (s : State) (hs : Held qs s) : ∃ out, execModeSet r target s = .next out ∧ Held qs out := by
  refine ⟨_, rfl, ?_⟩
  repeat' (first | intro _ | with_reducible first | assumption | apply State.fput_held | apply State.raise_held | apply State.at_held | apply State.refuse_held | apply runCmd_held | apply done_held | apply held_ite | (fail_if_no_progress (with_reducible apply held_mk; with_reducible apply held_fold)) | split | extract_lets | dsimp only | dsimp +zetaDelta only)

theorem State.beginRelease_held (t : State) (r : Req) (kind : Nat) (ht : Held qs t) : Held qs (State.beginRelease t r kind) := by
  unfold State.beginRelease
  repeat' (first | intro _ | with_reducible first | assumption | apply State.fputs_held | apply State.celWrite_held | apply State.setLatch_held | (fail_if_no_progress (with_reducible apply held_mk; with_reducible apply held_fold)) | extract_lets | dsimp only | dsimp +zetaDelta only)

theorem execModeReleaseQuarantine_held (r : Req) (tok : Token) (keys : PubKeys) (s : State) (hs : Held qs s) : ∃ out, execModeReleaseQuarantine r tok keys s = .next out ∧ Held qs out := by
  refine ⟨_, rfl, ?_⟩
  repeat' (first | intro _ | with_reducible first | assumption | apply runCmd_held | apply State.checkToken_held | apply State.checkOwnerToken_held | apply done_held | apply State.beginRelease_held | apply held_ite | (with_reducible apply held_pair (by with_reducible assumption)) | (with_reducible apply held_pair2 (by with_reducible assumption)) | split | extract_lets | dsimp only | dsimp +zetaDelta only)

theorem execModeRead_held (r : Req) (s : State) (hs : Held qs s) : ∃ out, execModeRead r s = .next out ∧ Held qs out := by
  refine ⟨_, rfl, ?_⟩
  repeat' (first | intro _ | with_reducible first | assumption | apply runCmd_held | apply readEff_held | apply done_held | dsimp only)

theorem State.modeBoundary_held (s : State) (hs : Held qs s) : Held qs (State.modeBoundary s) := by
  unfold State.modeBoundary
  repeat' (first | intro _ | with_reducible first | assumption | apply State.fput_held | apply State.reply_held | apply State.setMode_held | apply held_ite | (fail_if_no_progress (with_reducible apply held_mk; with_reducible apply held_fold)) | split | extract_lets | dsimp only | dsimp +zetaDelta only)

theorem State.putLc_held (s : State) (st : Nat) (hs : Held qs s) : Held qs (State.putLc s st) := by
  unfold State.putLc
  repeat' (first | intro _ | with_reducible first | assumption | apply State.fput_held | (fail_if_no_progress (with_reducible apply held_mk; with_reducible apply held_fold)))

theorem State.blowPair_held (s : State) (st : Nat) (hs : Held qs s) : Held qs (State.blowPair s st) := by
  unfold State.blowPair
  repeat' (first | intro _ | with_reducible first | assumption | apply held_ite | apply held_mk | apply held_fuses | apply held_frPair | apply held_disable | apply held_repair | apply held_fold | (fail_if_no_progress (with_reducible apply held_mk; with_reducible apply held_fold)) | split | extract_lets | dsimp only | dsimp +zetaDelta only)

theorem State.commitRoot_held (s : State) (hs : Held qs s) : Held qs (State.commitRoot s) := by
  unfold State.commitRoot
  repeat' (first | intro _ | with_reducible first | assumption | (fail_if_no_progress (with_reducible apply held_mk; with_reducible apply held_fold)) | split | dsimp only)

theorem State.writeRoot_held (s : State) (i : Nat) (root : BitVec 384) (hs : Held qs s) : Held qs (State.writeRoot s i root) := by
  unfold State.writeRoot
  repeat' (first | intro _ | with_reducible first | assumption | (fail_if_no_progress (with_reducible apply held_mk; with_reducible apply held_fold)))

theorem State.drawChain_held (s : State) (hs : Held qs s) : Held qs (State.drawChain s).2 := by
  unfold State.drawChain
  repeat' (first | intro _ | with_reducible first | assumption | apply State.asked_held | apply held_ite | (fail_if_no_progress (with_reducible apply held_mk; with_reducible apply held_fold)) | split | extract_lets | dsimp only | dsimp +zetaDelta only)

theorem State.setActive_held (s : State) (level : Nat) (hs : Held qs s) : Held qs (State.setActive s level) := by
  unfold State.setActive
  repeat' (first | intro _ | with_reducible first | assumption | apply State.fput_held | (fail_if_no_progress (with_reducible apply held_mk; with_reducible apply held_fold)))

theorem State.adoptChain_held (s : State) (c : SuccCert) (block : List Byte) (hs : Held qs s) : Held qs (State.adoptChain s c block) := by
  unfold State.adoptChain
  repeat' (first | intro _ | with_reducible first | assumption | apply State.fput_held | apply State.setRegN_held | apply State.put64_held | apply State.loadStamp_held | apply State.hold_held | apply State.celWrite_held | apply State.writeTally_held | apply State.continueFrom_held | apply State.writeHeader_held | apply State.setActive_held | apply held_ite | apply held_foldl | (fail_if_no_progress (with_reducible apply held_mk; with_reducible apply held_fold)) | split | extract_lets | dsimp only | dsimp +zetaDelta only)

theorem State.leaseChain_held (s : State) (hs : Held qs s) : Held qs (State.leaseChain s) := by
  unfold State.leaseChain
  repeat' (first | intro _ | with_reducible first | assumption | apply State.setRegN_held | apply State.hold_held | apply State.drawChain_held | apply State.setActive_held | (with_reducible apply held_pair (by with_reducible assumption)) | (with_reducible apply held_pair2 (by with_reducible assumption)) | (fail_if_no_progress (with_reducible apply held_mk; with_reducible apply held_fold)) | split | extract_lets | dsimp only | dsimp +zetaDelta only)

theorem State.testChain_held (s : State) (hs : Held qs s) : Held qs (State.testChain s) := by
  unfold State.testChain
  repeat' (first | intro _ | with_reducible first | assumption | apply State.setRegN_held | apply State.hold_held | apply State.drawChain_held | (with_reducible apply held_pair (by with_reducible assumption)) | (with_reducible apply held_pair2 (by with_reducible assumption)) | (fail_if_no_progress (with_reducible apply held_mk; with_reducible apply held_fold)) | split | extract_lets | dsimp only | dsimp +zetaDelta only)

theorem State.startLease_held (s : State) (hs : Held qs s) : Held qs (State.startLease s) := by
  unfold State.startLease
  repeat' (first | intro _ | with_reducible first | assumption | apply State.adoptChain_held | apply State.leaseChain_held | (fail_if_no_progress (with_reducible apply held_mk; with_reducible apply held_fold)) | split | extract_lets | dsimp only | dsimp +zetaDelta only)

theorem State.enterLc_held (s : State) (x : Transition) (hs : Held qs s) : Held qs (State.enterLc s x) := by
  unfold State.enterLc
  repeat' (first | intro _ | with_reducible first | assumption | apply State.clearBre_held | apply State.settleKeys_held | apply State.raiseEpoch_held | apply State.putLc_held | apply State.testChain_held | apply State.startLease_held | apply held_foldl | (fail_if_no_progress (with_reducible apply held_mk; with_reducible apply held_fold)) | split | extract_lets | dsimp only | dsimp +zetaDelta only)

theorem State.blowState_held (s : State) (x : Transition) (hs : Held qs s) : Held qs (State.blowState s x) := by
  unfold State.blowState
  repeat' (first | intro _ | with_reducible first | assumption | apply State.blowPair_held | apply State.commitRoot_held | apply State.enterLc_held | apply held_ite | apply held_foldl | (with_reducible apply held_pair (by with_reducible assumption)) | (with_reducible apply held_pair2 (by with_reducible assumption)) | (fail_if_no_progress (with_reducible apply held_mk; with_reducible apply held_fold)) | split | extract_lets | dsimp only | dsimp +zetaDelta only)

theorem State.stepEntry_held (s : State) (type : Nat) (x : Transition) (hs : Held qs s) : Held qs (State.stepEntry s type x).1 := by
  unfold State.stepEntry
  repeat' (first | intro _ | with_reducible first | assumption | apply State.celOffer_held | apply held_ite | (with_reducible apply held_pair (by with_reducible assumption)) | (with_reducible apply held_pair2 (by with_reducible assumption)) | split | extract_lets | dsimp only | dsimp +zetaDelta only)

theorem State.stepIntent_held (s : State) (x : Transition) (hs : Held qs s) : Held qs (State.stepIntent s x) := by
  unfold State.stepIntent
  repeat' (first | intro _ | with_reducible first | assumption | apply State.blowState_held | apply State.stepEntry_held | (with_reducible apply held_pair (by with_reducible assumption)) | (with_reducible apply held_pair2 (by with_reducible assumption)) | (fail_if_no_progress (with_reducible apply held_mk; with_reducible apply held_fold)) | split | extract_lets | dsimp only | dsimp +zetaDelta only)

theorem State.stepDone_held (s : State) (x : Transition) (hs : Held qs s) : Held qs (State.stepDone s x) := by
  unfold State.stepDone
  repeat' (first | intro _ | with_reducible first | assumption | apply State.reply_held | apply State.stepEntry_held | (with_reducible apply held_pair (by with_reducible assumption)) | (with_reducible apply held_pair2 (by with_reducible assumption)) | (fail_if_no_progress (with_reducible apply held_mk; with_reducible apply held_fold)) | split | extract_lets | dsimp only | dsimp +zetaDelta only)

theorem State.finishTransition_held (s : State) (hs : Held qs s) : Held qs (State.finishTransition s) := by
  unfold State.finishTransition
  repeat' (first | intro _ | with_reducible first | assumption | apply State.stepIntent_held | apply State.stepDone_held | apply held_ite | (fail_if_no_progress (with_reducible apply held_mk; with_reducible apply held_fold)) | split | extract_lets | dsimp only | dsimp +zetaDelta only)

theorem State.continueTransition_held (s : State) (hs : Held qs s) : Held qs (State.continueTransition s) := by
  unfold State.continueTransition
  repeat' (first | intro _ | with_reducible first | assumption | apply State.finishTransition_held | apply held_ite | (fail_if_no_progress (with_reducible apply held_mk; with_reducible apply held_fold)) | split)

theorem State.beginTransition_held (s : State) (r : Req) (op : Nat) (dst : Nat) (special : Nat) (hs : Held qs s) : Held qs (State.beginTransition s r op dst special) := by
  unfold State.beginTransition
  repeat' (first | intro _ | with_reducible first | assumption | apply State.resumeLedger_held | apply State.continueTransition_held | apply held_ite | (fail_if_no_progress (with_reducible apply held_mk; with_reducible apply held_fold)) | split | extract_lets | dsimp only | dsimp +zetaDelta only)

theorem State.storeBlob_held (s : State) (n : Nat) (hs : Held qs s) : Held qs (State.storeBlob s n) := by
  unfold State.storeBlob
  repeat' (first | intro _ | with_reducible first | assumption | apply State.ledgerWrite_held)

theorem State.provision_held (t : State) (r : Req) (root : Nat) (assembly : Nat) (utc : Nat) (ht : Held qs t) : Held qs (State.provision t r root assembly utc) := by
  unfold State.provision
  repeat' (first | intro _ | with_reducible first | assumption | apply State.fput_held | apply State.put64_held | apply State.setCount_held | apply State.settleKeys_held | apply State.newBre_held | apply State.genRoot_held | apply State.restartTime_held | apply State.commitRoot_held | apply State.writeRoot_held | apply State.finishTransition_held | apply State.storeBlob_held | apply held_ite | apply held_foldl | (with_reducible apply held_pair (by with_reducible assumption)) | (with_reducible apply held_pair2 (by with_reducible assumption)) | (fail_if_no_progress (with_reducible apply held_mk; with_reducible apply held_fold)) | split | extract_lets | dsimp only | dsimp +zetaDelta only)

theorem execLifecycleProvision_held (r : Req) (root : Nat) (assembly : Nat) (utc : Nat) (s : State) (hs : Held qs s) : ∃ out, execLifecycleProvision r root assembly utc s = .next out ∧ Held qs out := by
  refine ⟨_, rfl, ?_⟩
  repeat' (first | intro _ | with_reducible first | assumption | apply runCmd_held | apply done_held | apply State.provision_held | dsimp only)

theorem State.sealTestHead_held (s : State) (hs : Held qs s) : Held qs (State.sealTestHead s) := by
  unfold State.sealTestHead
  repeat' (first | intro _ | with_reducible first | assumption | apply State.hold_held | apply State.askSeal_held | apply State.resumeLedger_held | apply held_ite | (fail_if_no_progress (with_reducible apply held_mk; with_reducible apply held_fold)) | split | extract_lets | dsimp only | dsimp +zetaDelta only)

theorem execLifecycleCommission_held (r : Req) (token : Token) (keys : PubKeys) (s : State) (hs : Held qs s) : ∃ out, execLifecycleCommission r token keys s = .next out ∧ Held qs out := by
  refine ⟨_, rfl, ?_⟩
  repeat' (first | intro _ | with_reducible first | assumption | apply runCmd_held | apply State.checkOwnerToken_held | apply done_held | apply State.beginTransition_held | apply State.sealTestHead_held | apply held_ite | (with_reducible apply held_pair (by with_reducible assumption)) | (with_reducible apply held_pair2 (by with_reducible assumption)) | split | extract_lets | dsimp only | dsimp +zetaDelta only)

theorem State.beginHandover_held (t : State) (h : Handover) (i : Nat) (sig : Sig) (ht : Held qs t) : Held qs (State.beginHandover t h i sig) := by
  unfold State.beginHandover
  repeat' (first | intro _ | with_reducible first | assumption | apply State.fput_held | apply State.writeRoot_held | (fail_if_no_progress (with_reducible apply held_mk; with_reducible apply held_fold)) | extract_lets | dsimp only | dsimp +zetaDelta only)

theorem execLifecycleSecondLife_held (r : Req) (nonce : Nat) (keys : PubKeys) (sig : Sig) (s : State) (hs : Held qs s) : ∃ out, execLifecycleSecondLife r nonce keys sig s = .next out ∧ Held qs out := by
  refine ⟨_, rfl, ?_⟩
  repeat' (first | intro _ | with_reducible first | assumption | apply runCmd_held | apply done_held | apply State.beginTransition_held | apply State.beginHandover_held | (fail_if_no_progress (with_reducible apply held_mk; with_reducible apply held_fold)) | split | dsimp only)

theorem execLifecycleRetire_held (r : Req) (token : Token) (keys : PubKeys) (s : State) (hs : Held qs s) : ∃ out, execLifecycleRetire r token keys s = .next out ∧ Held qs out := by
  refine ⟨_, rfl, ?_⟩
  repeat' (first | intro _ | with_reducible first | assumption | apply runCmd_held | apply State.checkOwnerToken_held | apply done_held | apply State.beginTransition_held | apply held_ite | (with_reducible apply held_pair (by with_reducible assumption)) | (with_reducible apply held_pair2 (by with_reducible assumption)) | split | extract_lets | dsimp only | dsimp +zetaDelta only)

theorem execLifecycleFieldReturn_held (r : Req) (vendor : Token) (owner : Token) (keys : PubKeys) (s : State) (hs : Held qs s) : ∃ out, execLifecycleFieldReturn r vendor owner keys s = .next out ∧ Held qs out := by
  refine ⟨_, rfl, ?_⟩
  repeat' (first | intro _ | with_reducible first | assumption | apply runCmd_held | apply State.checkOwnerToken_held | apply done_held | apply State.beginTransition_held | apply held_ite | (with_reducible apply held_pair (by with_reducible assumption)) | (with_reducible apply held_pair2 (by with_reducible assumption)) | split | extract_lets | dsimp only | dsimp +zetaDelta only)

theorem State.continueCeding_held (s : State) (hs : Held qs s) : Held qs (State.continueCeding s) := by
  unfold State.continueCeding
  repeat' (first | intro _ | with_reducible first | assumption | apply State.fput_held | apply State.celWrite_held | apply State.reply_held | apply State.settleKeys_held | apply State.raiseEpoch_held | apply held_ite | apply held_foldl | (with_reducible apply held_pair (by with_reducible assumption)) | (with_reducible apply held_pair2 (by with_reducible assumption)) | (fail_if_no_progress (with_reducible apply held_mk; with_reducible apply held_fold)) | split | extract_lets | dsimp only | dsimp +zetaDelta only)

theorem State.ledgerNext_held (s : State) (hs : Held qs s) : Held qs (State.ledgerNext s) := by
  unfold State.ledgerNext
  repeat' (first | intro _ | with_reducible first | assumption | apply State.continueTransition_held | apply State.continueCeding_held)

theorem State.beginCeding_held (t : State) (r : Req) (newSerial : Nat) (ht : Held qs t) : Held qs (State.beginCeding t r newSerial) := by
  unfold State.beginCeding
  repeat' (first | intro _ | with_reducible first | assumption | apply State.hold_held | apply State.askSeal_held | apply held_ite | (fail_if_no_progress (with_reducible apply held_mk; with_reducible apply held_fold)) | split | extract_lets | dsimp only | dsimp +zetaDelta only)

theorem execAssemblySuccessionSeal_held (r : Req) (newSerial : Nat) (token : Token) (keys : PubKeys) (s : State) (hs : Held qs s) : ∃ out, execAssemblySuccessionSeal r newSerial token keys s = .next out ∧ Held qs out := by
  refine ⟨_, rfl, ?_⟩
  repeat' (first | intro _ | with_reducible first | assumption | apply runCmd_held | apply State.checkOwnerToken_held | apply done_held | apply State.beginCeding_held | apply held_ite | (with_reducible apply held_pair (by with_reducible assumption)) | (with_reducible apply held_pair2 (by with_reducible assumption)) | split | extract_lets | dsimp only | dsimp +zetaDelta only)

theorem State.beginAdoption_held (t : State) (cert : SuccCert) (block : List Byte) (ht : Held qs t) : Held qs (State.beginAdoption t cert block) := by
  unfold State.beginAdoption
  repeat' (first | intro _ | with_reducible first | assumption | apply State.fput_held | apply State.celWrite_held | (fail_if_no_progress (with_reducible apply held_mk; with_reducible apply held_fold)) | extract_lets | dsimp only | dsimp +zetaDelta only)

theorem execAssemblySucceed_held (r : Req) (cert : SuccCert) (block : List Byte) (sealed : List Byte) (keyCert : Option Cert) (s : State) (hs : Held qs s) : ∃ out, execAssemblySucceed r cert block sealed keyCert s = .next out ∧ Held qs out := by
  refine ⟨_, rfl, ?_⟩
  repeat' (first | intro _ | with_reducible first | assumption | apply runCmd_held | apply okEff_held | apply done_held | apply State.beginAdoption_held | dsimp only)

theorem State.succConflict_held (s : State) (cause : Nat) (other : Nat) (hs : Held qs s) : Held qs (State.succConflict s cause other) := by
  unfold State.succConflict
  repeat' (first | intro _ | with_reducible first | assumption | apply State.celWrite_held | apply State.enterQuarantine_held | apply held_ite | (with_reducible apply held_pair (by with_reducible assumption)) | (with_reducible apply held_pair2 (by with_reducible assumption)) | (fail_if_no_progress (with_reducible apply held_mk; with_reducible apply held_fold)) | split | extract_lets | dsimp only | dsimp +zetaDelta only)

theorem State.discoverArchive_held (s : State) (mib : Nat) (unit64 : Bool) (device : Option Pieces) (hs : Held qs s) : Held qs (State.discoverArchive s mib unit64 device) := by
  unfold State.discoverArchive
  repeat' (first | intro _ | with_reducible first | assumption | apply State.arcRetry_held | apply State.fitDevice_held | apply State.succConflict_held | apply held_ite | (fail_if_no_progress (with_reducible apply held_mk; with_reducible apply held_fold)) | split | extract_lets | dsimp only | dsimp +zetaDelta only)

theorem execArchiveRetry_held (at_ : Nat) (mib : Nat) (unit64 : Bool) (device : Option Pieces) (s : State) (hs : Held qs s) : ∃ out, execArchiveRetry at_ mib unit64 device s = .next out ∧ Held qs out := by
  refine ⟨_, rfl, ?_⟩
  repeat' (first | intro _ | with_reducible first | assumption | apply State.at_held | apply done_held | apply State.discoverArchive_held | apply held_ite | apply held_foldl | (with_reducible apply held_pair (by with_reducible assumption)) | (with_reducible apply held_pair2 (by with_reducible assumption)) | (fail_if_no_progress (with_reducible apply held_mk; with_reducible apply held_fold)) | split | extract_lets | dsimp only | dsimp +zetaDelta only)

theorem execCellarEntryCommit_held (at_ : Nat) (s : State) (hs : Held qs s) : ∃ out, execCellarEntryCommit at_ s = .next out ∧ Held qs out := by
  refine ⟨_, rfl, ?_⟩
  repeat' (first | intro _ | with_reducible first | assumption | apply State.at_held | apply done_held | apply State.celCommit_held | apply State.continueTransition_held)

theorem execSealComplete_held (at_ : Nat) (s : State) (hs : Held qs s) : ∃ out, execSealComplete at_ s = .next out ∧ Held qs out := by
  refine ⟨_, rfl, ?_⟩
  repeat' (first | intro _ | with_reducible first | assumption | apply State.at_held | apply done_held | apply State.sealComplete_held | apply State.ledgerNext_held)

theorem execBlockAssembly_held (at_ : Nat) (s : State) (hs : Held qs s) : ∃ out, execBlockAssembly at_ s = .next out ∧ Held qs out := by
  refine ⟨_, rfl, ?_⟩
  repeat' (first | intro _ | with_reducible first | assumption | apply State.at_held | apply done_held | apply State.assembleDue_held | apply State.ledgerNext_held)

/-! ### Assembly -/

theorem State.setAsm_held (s : State) (a : AsmState) (hs : Held qs s) : Held qs (State.setAsm s a) := by
  unfold State.setAsm
  repeat' (first | intro _ | with_reducible first | assumption | (fail_if_no_progress (with_reducible apply held_mk; with_reducible apply held_fold)))

theorem State.seeTerm_held (s : State) (term : Nat) (hs : Held qs s) : Held qs (State.seeTerm s term) := by
  unfold State.seeTerm
  repeat' (first | intro _ | with_reducible first | assumption | apply State.setAsm_held | (fail_if_no_progress (with_reducible apply held_mk; with_reducible apply held_fold)))

theorem execUplinkSync_held (at_ : Nat) (endB : Bool) (seen : TrainSeen) (err : Int) (s : State) (hs : Held qs s) : ∃ out, execUplinkSync at_ endB seen err s = .next out ∧ Held qs out := by
  refine ⟨_, rfl, ?_⟩
  repeat' (first | intro _ | with_reducible first | assumption | apply State.at_held | apply done_held | apply State.insertFrames_held | apply State.syncMissed_held | apply State.uplinkSync_held | apply State.setAsm_held | apply held_ite | (fail_if_no_progress (with_reducible apply held_mk; with_reducible apply held_fold)) | split | extract_lets | dsimp only | dsimp +zetaDelta only)

theorem State.demote_held (s : State) (r : Nat) (hs : Held qs s) : Held qs (State.demote s r) := by
  unfold State.demote
  repeat' (first | intro _ | with_reducible first | assumption | apply State.fput_held | apply State.raise_held | apply State.setAsm_held | (fail_if_no_progress (with_reducible apply held_mk; with_reducible apply held_fold)))

theorem State.yieldActing_held (s : State) (hs : Held qs s) : Held qs (State.yieldActing s) := by
  unfold State.yieldActing
  repeat' (first | intro _ | with_reducible first | assumption | apply State.fput_held | apply State.putRingState_held)

theorem State.takeAnnounce_held (s : State) (term : Nat) (deputy : Nat) (flags : Nat) (hs : Held qs s) : Held qs (State.takeAnnounce s term deputy flags) := by
  unfold State.takeAnnounce
  repeat' (first | intro _ | with_reducible first | assumption | apply State.fput_held | apply State.emit_held | apply State.setAsm_held | apply held_ite | (fail_if_no_progress (with_reducible apply held_mk; with_reducible apply held_fold)) | split | extract_lets | dsimp only | dsimp +zetaDelta only)

theorem State.asmAnnounce_held (s : State) (ring : Nat) (term : Nat) (assembly : Nat) (deputy : Nat) (flags : Nat) (hs : Held qs s) : Held qs (State.asmAnnounce s ring term assembly deputy flags) := by
  unfold State.asmAnnounce
  repeat' (first | intro _ | with_reducible first | assumption | apply State.fput_held | apply State.bump_held | apply State.seeTerm_held | apply State.demote_held | apply State.yieldActing_held | apply State.takeAnnounce_held | apply held_ite | split | extract_lets | dsimp only | dsimp +zetaDelta only)

theorem execAsmAnnounce_held (at_ : Nat) (ring : Nat) (term : Nat) (assembly : Nat) (deputy : Nat) (flags : Nat) (serial : Nat) (s : State) (hs : Held qs s) : ∃ out, execAsmAnnounce at_ ring term assembly deputy flags serial s = .next out ∧ Held qs out := by
  refine ⟨_, rfl, ?_⟩
  repeat' (first | intro _ | with_reducible first | assumption | apply State.at_held | apply done_held | apply onRing_held | apply State.asmAnnounce_held | extract_lets | dsimp only | dsimp +zetaDelta only)

theorem State.sealReq_held (s : State) (q : Nat) (hs : Held qs s) : Held qs (State.sealReq s q) := by
  unfold State.sealReq
  repeat' (first | intro _ | with_reducible first | assumption | apply State.answer_held | apply State.setUp_held | apply State.setAsm_held | apply held_ite | (fail_if_no_progress (with_reducible apply held_mk; with_reducible apply held_fold)) | split | extract_lets | dsimp only | dsimp +zetaDelta only)

theorem execSealReq_held (at_ : Nat) (sealSeq : Nat) (s : State) (hs : Held qs s) : ∃ out, execSealReq at_ sealSeq s = .next out ∧ Held qs out := by
  refine ⟨_, rfl, ?_⟩
  repeat' (first | intro _ | with_reducible first | assumption | apply State.at_held | apply done_held | apply State.sealReq_held | apply held_ite | apply held_foldl | (with_reducible apply held_pair (by with_reducible assumption)) | (with_reducible apply held_pair2 (by with_reducible assumption)) | (fail_if_no_progress (with_reducible apply held_mk; with_reducible apply held_fold)) | split | extract_lets | dsimp only | dsimp +zetaDelta only)

theorem State.uplinkCommand_held (s : State) (addr : Nat) (opc : Nat) (payload : List Byte) (hs : Held qs s) : Held qs (State.uplinkCommand s addr opc payload) := by
  unfold State.uplinkCommand
  repeat' (first | intro _ | with_reducible first | assumption | apply State.setUp_held | apply State.commandFrame_held | apply State.timeHi_held | apply State.asmAnnounce_held | apply State.sealReq_held | apply held_ite | (fail_if_no_progress (with_reducible apply held_mk; with_reducible apply held_fold)) | split | extract_lets | dsimp only | dsimp +zetaDelta only)

theorem execCommandFrame_held (at_ : Nat) (rd : Bool) (hdr : List Nat) (data : List Nat) (crc : List Nat) (s : State) (hs : Held qs s) : ∃ out, execCommandFrame at_ rd hdr data crc s = .next out ∧ Held qs out := by
  refine ⟨_, rfl, ?_⟩
  repeat' (first | intro _ | with_reducible first | assumption | apply State.at_held | apply done_held | apply State.uplinkCommand_held | apply held_ite | apply held_foldl | (with_reducible apply held_pair (by with_reducible assumption)) | (with_reducible apply held_pair2 (by with_reducible assumption)) | (fail_if_no_progress (with_reducible apply held_mk; with_reducible apply held_fold)) | split | extract_lets | dsimp only | dsimp +zetaDelta only)

theorem State.setWorker_held (s : State) (d : Nat) (w : Worker) (hs : Held qs s) : Held qs (State.setWorker s d w) := by
  unfold State.setWorker
  repeat' (first | intro _ | with_reducible first | assumption | apply State.setAsm_held | (fail_if_no_progress (with_reducible apply held_mk; with_reducible apply held_fold)))

theorem State.putPresent_held (s : State) (d : Nat) (b : Bool) (hs : Held qs s) : Held qs (State.putPresent s d b) := by
  unfold State.putPresent
  repeat' (first | intro _ | with_reducible first | assumption | apply State.raise_held | apply State.putBit_held | apply held_ite | split)

theorem State.presenceCheck_held (s : State) (hs : Held qs s) : Held qs (State.presenceCheck s) := by
  unfold State.presenceCheck
  repeat' (first | intro _ | with_reducible first | assumption | apply State.putPresent_held | apply held_ite | apply held_foldl | split | dsimp only)

theorem State.wantSeals_held (s : State) (d : Nat) (first : Nat) (last : Nat) (hs : Held qs s) : Held qs (State.wantSeals s d first last) := by
  unfold State.wantSeals
  repeat' (first | intro _ | with_reducible first | assumption | apply State.setAsm_held | (fail_if_no_progress (with_reducible apply held_mk; with_reducible apply held_fold)) | extract_lets | dsimp only | dsimp +zetaDelta only)

theorem State.chainCheck_held (s : State) (d : Nat) (chain : Nat) (serial : Nat) (hs : Held qs s) : Held qs (State.chainCheck s d chain serial) := by
  unfold State.chainCheck
  repeat' (first | intro _ | with_reducible first | assumption | apply State.fput_held | apply State.raise_held | apply State.emit_held | apply State.setAsm_held | apply held_ite | (fail_if_no_progress (with_reducible apply held_mk; with_reducible apply held_fold)) | split | extract_lets | dsimp only | dsimp +zetaDelta only)

theorem State.workerStatus_held (s : State) (ring : Nat) (d : Nat) (p : List Byte) (hs : Held qs s) : Held qs (State.workerStatus s ring d p) := by
  unfold State.workerStatus
  repeat' (first | intro _ | with_reducible first | assumption | apply State.succConflict_held | apply State.seeTerm_held | apply State.demote_held | apply State.setWorker_held | apply State.putPresent_held | apply State.wantSeals_held | apply State.chainCheck_held | apply held_ite | (fail_if_no_progress (with_reducible apply held_mk; with_reducible apply held_fold)) | split | extract_lets | dsimp only | dsimp +zetaDelta only)

theorem State.merge_held (s : State) (d : Nat) (q : Nat) (h : List Byte) (hs : Held qs s) : Held qs (State.merge s d q h) := by
  unfold State.merge
  repeat' (first | intro _ | with_reducible first | assumption | apply State.bump_held | apply State.asked_held | apply State.setAsm_held | apply State.setWorker_held | apply State.wantSeals_held | apply held_ite | (fail_if_no_progress (with_reducible apply held_mk; with_reducible apply held_fold)) | split | extract_lets | dsimp only | dsimp +zetaDelta only)

theorem State.digestHalf_held (s : State) (d : Nat) (type : Nat) (p : List Byte) (hs : Held qs s) : Held qs (State.digestHalf s d type p) := by
  unfold State.digestHalf
  repeat' (first | intro _ | with_reducible first | assumption | apply State.setWorker_held | apply State.merge_held | apply held_ite | (fail_if_no_progress (with_reducible apply held_mk; with_reducible apply held_fold)) | split | extract_lets | dsimp only | dsimp +zetaDelta only)

theorem State.asmPayload_held (s : State) (ring : Nat) (node : Nat) (p : List Byte) (hs : Held qs s) : Held qs (State.asmPayload s ring node p) := by
  unfold State.asmPayload
  repeat' (first | intro _ | with_reducible first | assumption | apply State.workerStatus_held | apply State.digestHalf_held | apply held_ite | (fail_if_no_progress (with_reducible apply held_mk; with_reducible apply held_fold)) | split | extract_lets | dsimp only | dsimp +zetaDelta only)

theorem execAssemblyFrameReceived_held (at_ : Nat) (ring : Nat) (rd : Bool) (hdr : List Nat) (data : List Nat) (s : State) (hs : Held qs s) : ∃ out, execAssemblyFrameReceived at_ ring rd hdr data s = .next out ∧ Held qs out := by
  refine ⟨_, rfl, ?_⟩
  repeat' (first | intro _ | with_reducible first | assumption | apply State.bump_held | apply State.at_held | apply done_held | apply onRing_held | apply State.asmPayload_held | apply held_ite | (fail_if_no_progress (with_reducible apply held_mk; with_reducible apply held_fold)) | split | dsimp only)

theorem State.managerLoss_held (s : State) (hs : Held qs s) : Held qs (State.managerLoss s) := by
  unfold State.managerLoss
  repeat' (first | intro _ | with_reducible first | assumption | apply State.fputs_held | apply State.raise_held | apply State.put64_held | apply State.emit_held | apply State.celWrite_held | apply State.setRing_held | apply State.putRingState_held | apply State.askSeal_held | apply State.setAsm_held | apply State.seeTerm_held | apply held_ite | (fail_if_no_progress (with_reducible apply held_mk; with_reducible apply held_fold)) | split | extract_lets | dsimp only | dsimp +zetaDelta only)

theorem execManagerLoss_held (at_ : Nat) (s : State) (hs : Held qs s) : ∃ out, execManagerLoss at_ s = .next out ∧ Held qs out := by
  refine ⟨_, rfl, ?_⟩
  repeat' (first | intro _ | with_reducible first | assumption | apply State.at_held | apply done_held | apply State.managerLoss_held)

theorem execAssemblyRead_held (r : Req) (s : State) (hs : Held qs s) : ∃ out, execAssemblyRead r s = .next out ∧ Held qs out := by
  refine ⟨_, rfl, ?_⟩
  repeat' (first | intro _ | with_reducible first | assumption | apply runCmd_held | apply readEff_held | apply done_held | dsimp only)

theorem execAssemblySetRole_held (r : Req) (role : Nat) (mask : Nat) (s : State) (hs : Held qs s) : ∃ out, execAssemblySetRole r role mask s = .next out ∧ Held qs out := by
  refine ⟨_, rfl, ?_⟩
  repeat' (first | intro _ | with_reducible first | assumption | apply State.fput_held | apply State.fputs_held | apply runCmd_held | apply okEff_held | apply done_held | apply State.setAsm_held | apply State.seeTerm_held | apply held_ite | (fail_if_no_progress (with_reducible apply held_mk; with_reducible apply held_fold)) | split | extract_lets | dsimp only | dsimp +zetaDelta only)

theorem execAssemblySetDeputy_held (r : Req) (device : Nat) (s : State) (hs : Held qs s) : ∃ out, execAssemblySetDeputy r device s = .next out ∧ Held qs out := by
  refine ⟨_, rfl, ?_⟩
  repeat' (first | intro _ | with_reducible first | assumption | apply State.fput_held | apply runCmd_held | apply okEff_held | apply done_held | dsimp only)

theorem execAssemblyReadWorker_held (r : Req) (device : Nat) (s : State) (hs : Held qs s) : ∃ out, execAssemblyReadWorker r device s = .next out ∧ Held qs out := by
  refine ⟨_, rfl, ?_⟩
  repeat' (first | intro _ | with_reducible first | assumption | apply runCmd_held | apply readEff_held | apply done_held | extract_lets | dsimp only | dsimp +zetaDelta only)

/-! ### Vat -/

theorem State.putDtValid_held (s : State) (v : Nat) (i : Nat) (b : Bool) (hs : Held qs s) : Held qs (State.putDtValid s v i b) := by
  unfold State.putDtValid
  repeat' (first | intro _ | with_reducible first | assumption | apply State.putBit_held | apply held_ite | split)

theorem State.dtCommand_held (s : State) (v : Nat) (value : Nat) (hs : Held qs s) : Held qs (State.dtCommand s v value) := by
  unfold State.dtCommand
  repeat' (first | intro _ | with_reducible first | assumption | apply State.fput_held | apply State.fputs_held | apply State.putDtValid_held | apply held_ite | split | extract_lets | dsimp only | dsimp +zetaDelta only)

theorem State.dtWrite_held (s : State) (a : Nat) (value : Nat) (hs : Held qs s) : Held qs (State.dtWrite s a value) := by
  unfold State.dtWrite
  repeat' (first | intro _ | with_reducible first | assumption | apply State.raise_held | apply State.storeN_held | apply held_ite | split | extract_lets | dsimp only | dsimp +zetaDelta only)

theorem execDtCommit_held (w : Wr) (v : Nat) (s : State) (hs : Held qs s) : ∃ out, execDtCommit w v s = .next out ∧ Held qs out := by
  refine ⟨_, rfl, ?_⟩
  repeat' (first | intro _ | with_reducible first | assumption | apply done_held | apply guarded_held | apply State.dtCommand_held | dsimp only)

theorem execDtRetire_held (w : Wr) (v : Nat) (s : State) (hs : Held qs s) : ∃ out, execDtRetire w v s = .next out ∧ Held qs out := by
  refine ⟨_, rfl, ?_⟩
  repeat' (first | intro _ | with_reducible first | assumption | apply done_held | apply guarded_held | apply State.dtCommand_held | dsimp only)

theorem State.vceTrap_held (s : State) (v : Nat) (pc : Nat) (micro : Nat) (t : Trap) (hs : Held qs s) : Held qs (State.vceTrap s v pc micro t) := by
  unfold State.vceTrap
  repeat' (first | intro _ | with_reducible first | assumption | apply State.fputs_held | apply State.raise_held)

theorem State.resetVce_held (s : State) (v : Nat) (hs : Held qs s) : Held qs (State.resetVce s v) := by
  unfold State.resetVce
  repeat' (first | intro _ | with_reducible first | assumption | apply State.fput_held | apply State.putVat_held | (fail_if_no_progress (with_reducible apply held_mk; with_reducible apply held_fold)))

theorem State.clearVat_held (s : State) (v : Nat) (hs : Held qs s) : Held qs (State.clearVat s v) := by
  unfold State.clearVat
  repeat' (first | intro _ | with_reducible first | assumption | apply State.fputs_held)

theorem State.vatControl_held (s : State) (v : Nat) (value : Nat) (hs : Held qs s) : Held qs (State.vatControl s v value) := by
  unfold State.vatControl
  repeat' (first | intro _ | with_reducible first | assumption | apply State.fput_held | apply State.fputs_held | apply State.raise_held | apply State.fillLanes_held | apply State.resetVce_held | apply State.clearVat_held | apply held_ite | (fail_if_no_progress (with_reducible apply held_mk; with_reducible apply held_fold)) | split | extract_lets | dsimp only | dsimp +zetaDelta only)

theorem State.setVatPc_held (s : State) (v : Nat) (value : Nat) (hs : Held qs s) : Held qs (State.setVatPc s v value) := by
  unfold State.setVatPc
  repeat' (first | intro _ | with_reducible first | assumption | apply State.putVat_held | apply held_ite | (fail_if_no_progress (with_reducible apply held_mk; with_reducible apply held_fold)) | split)

theorem State.ackTrap_held (s : State) (v : Nat) (value : Nat) (hs : Held qs s) : Held qs (State.ackTrap s v value) := by
  unfold State.ackTrap
  repeat' (first | intro _ | with_reducible first | assumption | apply State.putLane_held | apply State.presentTrap_held | apply held_ite | (fail_if_no_progress (with_reducible apply held_mk; with_reducible apply held_fold)) | split | extract_lets | dsimp only | dsimp +zetaDelta only)

theorem State.takeLtrap_held (s : State) (v : Nat) (hs : Held qs s) : Held qs (State.takeLtrap s v) := by
  unfold State.takeLtrap
  repeat' (first | intro _ | with_reducible first | assumption | apply State.fput_held | apply State.putVat_held | apply held_ite | (fail_if_no_progress (with_reducible apply held_mk; with_reducible apply held_fold)) | split | extract_lets | dsimp only | dsimp +zetaDelta only)

theorem State.vatReturn_held (s : State) (v : Nat) (hs : Held qs s) : Held qs (State.vatReturn s v) := by
  unfold State.vatReturn
  repeat' (first | intro _ | with_reducible first | assumption | apply State.putVat_held | (fail_if_no_progress (with_reducible apply held_mk; with_reducible apply held_fold)))

theorem execLtrapTaken_held (at_ : Nat) (v : Nat) (s : State) (hs : Held qs s) : ∃ out, execLtrapTaken at_ v s = .next out ∧ Held qs out := by
  refine ⟨_, rfl, ?_⟩
  repeat' (first | intro _ | with_reducible first | assumption | apply State.at_held | apply done_held | apply State.takeLtrap_held)

theorem execLtrapAck_held (w : Wr) (v : Nat) (s : State) (hs : Held qs s) : ∃ out, execLtrapAck w v s = .next out ∧ Held qs out := by
  refine ⟨_, rfl, ?_⟩
  repeat' (first | intro _ | with_reducible first | assumption | apply done_held | apply guarded_held | apply State.ackTrap_held | dsimp only)

theorem execVceReset_held (w : Wr) (v : Nat) (s : State) (hs : Held qs s) : ∃ out, execVceReset w v s = .next out ∧ Held qs out := by
  refine ⟨_, rfl, ?_⟩
  repeat' (first | intro _ | with_reducible first | assumption | apply done_held | apply guarded_held | apply State.vatControl_held | dsimp only)

theorem State.releaseJob_held (s : State) (v : Nat) (j : Nat) (hs : Held qs s) : Held qs (State.releaseJob s v j) := by
  unfold State.releaseJob
  repeat' (first | intro _ | with_reducible first | assumption | apply State.putJobFlag_held | apply State.fillLanes_held | apply held_ite | split)

theorem State.promoteJob_held (s : State) (v : Nat) (j : Nat) (hs : Held qs s) : Held qs (State.promoteJob s v j) := by
  unfold State.promoteJob
  repeat' (first | intro _ | with_reducible first | assumption | apply State.bump_held | apply State.putJobFlag_held | apply State.putJobClass_held | apply held_ite | split)

theorem State.missJob_held (s : State) (v : Nat) (j : Nat) (hs : Held qs s) : Held qs (State.missJob s v j) := by
  unfold State.missJob
  repeat' (first | intro _ | with_reducible first | assumption | apply State.bump_held | apply State.raise_held | apply State.putLane_held | apply State.putJobFlag_held | apply State.putJobClass_held | apply State.putJobRelease_held | apply held_ite | (fail_if_no_progress (with_reducible apply held_mk; with_reducible apply held_fold)) | split | extract_lets | dsimp only | dsimp +zetaDelta only)

theorem execJobRelease_held (at_ : Nat) (v : Nat) (job : Nat) (s : State) (hs : Held qs s) : ∃ out, execJobRelease at_ v job s = .next out ∧ Held qs out := by
  refine ⟨_, rfl, ?_⟩
  repeat' (first | intro _ | with_reducible first | assumption | apply State.at_held | apply done_held | apply State.releaseJob_held)

theorem execJobPromote_held (at_ : Nat) (v : Nat) (job : Nat) (s : State) (hs : Held qs s) : ∃ out, execJobPromote at_ v job s = .next out ∧ Held qs out := by
  refine ⟨_, rfl, ?_⟩
  repeat' (first | intro _ | with_reducible first | assumption | apply State.at_held | apply done_held | apply State.promoteJob_held)

theorem execJobDeadlineMiss_held (at_ : Nat) (v : Nat) (job : Nat) (s : State) (hs : Held qs s) : ∃ out, execJobDeadlineMiss at_ v job s = .next out ∧ Held qs out := by
  refine ⟨_, rfl, ?_⟩
  repeat' (first | intro _ | with_reducible first | assumption | apply State.at_held | apply done_held | apply State.missJob_held)

theorem State.missCheckpoint_held (s : State) (e : Nat) (hs : Held qs s) : Held qs (State.missCheckpoint s e) := by
  unfold State.missCheckpoint
  repeat' (first | intro _ | with_reducible first | assumption | apply State.bump_held | apply State.raise_held | apply State.putBit_held | apply State.putLane_held | apply held_ite | (fail_if_no_progress (with_reducible apply held_mk; with_reducible apply held_fold)) | split | extract_lets | dsimp only | dsimp +zetaDelta only)

theorem execCheckpointMiss_held (at_ : Nat) (e : Nat) (s : State) (hs : Held qs s) : ∃ out, execCheckpointMiss at_ e s = .next out ∧ Held qs out := by
  refine ⟨_, rfl, ?_⟩
  repeat' (first | intro _ | with_reducible first | assumption | apply State.at_held | apply done_held | apply State.missCheckpoint_held)

theorem execLaneFault_held (at_ : Nat) (e : Nat) (cause : Nat) (bad : Option Nat) (s : State) (hs : Held qs s) : ∃ out, execLaneFault at_ e cause bad s = .next out ∧ Held qs out := by
  refine ⟨_, rfl, ?_⟩
  repeat' (first | intro _ | with_reducible first | assumption | apply State.at_held | apply done_held | apply State.laneFault_held)

theorem State.vceFault_held (s : State) (v : Nat) (hs : Held qs s) : Held qs (State.vceFault s v) := by
  unfold State.vceFault
  repeat' (first | intro _ | with_reducible first | assumption | apply State.fput_held | apply State.recoverWithin_held | apply State.elementFault_held | apply State.putVat_held | apply State.moveJobs_held | apply State.resetVce_held | apply held_ite | apply held_foldl | (fail_if_no_progress (with_reducible apply held_mk; with_reducible apply held_fold)) | split | extract_lets | dsimp only | dsimp +zetaDelta only)

theorem execVceFault_held (at_ : Nat) (v : Nat) (s : State) (hs : Held qs s) : ∃ out, execVceFault at_ v s = .next out ∧ Held qs out := by
  refine ⟨_, rfl, ?_⟩
  repeat' (first | intro _ | with_reducible first | assumption | apply State.at_held | apply done_held | apply State.vceFault_held)

/-! ### Worlds -/

theorem State.setCtx_held (s : State) (p : Nat) (c : Nat) (hs : Held qs s) : Held qs (State.setCtx s p c) := by
  unfold State.setCtx
  repeat' (first | intro _ | with_reducible first | assumption | apply State.fput_held | apply State.putThread_held | (fail_if_no_progress (with_reducible apply held_mk; with_reducible apply held_fold)) | extract_lets | dsimp only | dsimp +zetaDelta only)

theorem State.putIe_held (s : State) (c : Nat) (b : Bool) (hs : Held qs s) : Held qs (State.putIe s c b) := by
  unfold State.putIe
  repeat' (first | intro _ | with_reducible first | assumption | (fail_if_no_progress (with_reducible apply held_mk; with_reducible apply held_fold)))

theorem State.gateBusy_held (s : State) (g : Nat) (b : Bool) (hs : Held qs s) : Held qs (State.gateBusy s g b) := by
  unfold State.gateBusy
  repeat' (first | intro _ | with_reducible first | assumption | apply State.setRegN_held)

theorem State.dropFrames_held (s : State) (w : Nat) (hs : Held qs s) : Held qs (State.dropFrames s w) := by
  unfold State.dropFrames
  repeat' (first | intro _ | with_reducible first | assumption | apply State.putThread_held | apply State.gateBusy_held | apply held_ite | apply held_foldl | (fail_if_no_progress (with_reducible apply held_mk; with_reducible apply held_fold)) | split | extract_lets | dsimp only | dsimp +zetaDelta only)

theorem State.drainThread_held (s : State) (w : Nat) (hs : Held qs s) : Held qs (State.drainThread s w) := by
  unfold State.drainThread
  repeat' (first | intro _ | with_reducible first | assumption | apply State.putThread_held | (fail_if_no_progress (with_reducible apply held_mk; with_reducible apply held_fold)))

theorem State.startThread_held (s : State) (w : Nat) (cause : Nat) (detail : Nat) (hs : Held qs s) : Held qs (State.startThread s w cause detail) := by
  unfold State.startThread
  repeat' (first | intro _ | with_reducible first | assumption | apply State.putThread_held | apply State.putIe_held | apply held_ite | (fail_if_no_progress (with_reducible apply held_mk; with_reducible apply held_fold)) | split | extract_lets | dsimp only | dsimp +zetaDelta only)

theorem State.openSlice_held (s : State) (w : Nat) (p : Nat) (ends : Nat) (hs : Held qs s) : Held qs (State.openSlice s w p ends) := by
  unfold State.openSlice
  repeat' (first | intro _ | with_reducible first | assumption | apply State.fput_held | apply State.setCtx_held | (fail_if_no_progress (with_reducible apply held_mk; with_reducible apply held_fold)) | extract_lets | dsimp only | dsimp +zetaDelta only)

theorem State.represent_held (s : State) (w : Nat) (hs : Held qs s) : Held qs (State.represent s w) := by
  unfold State.represent
  repeat' (first | intro _ | with_reducible first | assumption | apply State.raise_held | apply State.setByte_held | apply held_ite | apply held_foldl | split | extract_lets | dsimp only | dsimp +zetaDelta only)

theorem State.losePair_held (s : State) (p : Nat) (addr : Nat) (hs : Held qs s) : Held qs (State.losePair s p addr) := by
  unfold State.losePair
  repeat' (first | intro _ | with_reducible first | assumption | apply State.raise_held | apply State.recoverWithin_held | apply State.doubleFault_held | apply State.elementFault_held | apply State.putThread_held | apply State.dropFrames_held | apply State.drainThread_held | apply State.startThread_held | apply State.openSlice_held | apply State.represent_held | apply held_ite | (fail_if_no_progress (with_reducible apply held_mk; with_reducible apply held_fold)) | split | extract_lets | dsimp only | dsimp +zetaDelta only)

theorem execPairMismatch_held (at_ : Nat) (pair : Nat) (addr : Nat) (s : State) (hs : Held qs s) : ∃ out, execPairMismatch at_ pair addr s = .next out ∧ Held qs out := by
  refine ⟨_, rfl, ?_⟩
  repeat' (first | intro _ | with_reducible first | assumption | apply State.at_held | apply done_held | apply State.losePair_held | split | extract_lets | dsimp only | dsimp +zetaDelta only)

theorem State.enterExc_held (s : State) (p : Nat) (handler : Nat) (ret : Nat) (t : Trap) (pri : Option Nat) (hs : Held qs s) : Held qs (State.enterExc s p handler ret t pri) := by
  unfold State.enterExc
  repeat' (first | intro _ | with_reducible first | assumption | apply State.setReg_held | apply State.hold_held | apply State.putThread_held | apply State.setCtx_held | apply State.drainThread_held | apply State.losePair_held | apply held_ite | (fail_if_no_progress (with_reducible apply held_mk; with_reducible apply held_fold)) | split | extract_lets | dsimp only | dsimp +zetaDelta only)

theorem State.coreTrap_held (s : State) (p : Nat) (ret : Nat) (t : Trap) (hs : Held qs s) : Held qs (State.coreTrap s p ret t) := by
  unfold State.coreTrap
  repeat' (first | intro _ | with_reducible first | assumption | apply State.stopPair_held | apply State.enterExc_held | apply held_ite | split | extract_lets | dsimp only | dsimp +zetaDelta only)

theorem State.excReturn_held (s : State) (p : Nat) (hs : Held qs s) : Held qs (State.excReturn s p) := by
  unfold State.excReturn
  repeat' (first | intro _ | with_reducible first | assumption | apply State.setReg_held | apply State.hold_held | apply State.putThread_held | apply State.setCtx_held | apply State.drainThread_held | (fail_if_no_progress (with_reducible apply held_mk; with_reducible apply held_fold)) | split | extract_lets | dsimp only | dsimp +zetaDelta only)

theorem State.setTop_held (s : State) (p : Nat) (g : Frame → Frame) (hs : Held qs s) : Held qs (State.setTop s p g) := by
  unfold State.setTop
  repeat' (first | intro _ | with_reducible first | assumption | apply State.putThread_held | (fail_if_no_progress (with_reducible apply held_mk; with_reducible apply held_fold)) | split | extract_lets | dsimp only | dsimp +zetaDelta only)

theorem State.takeInterrupt_held (s : State) (p : Nat) (hs : Held qs s) : Held qs (State.takeInterrupt s p) := by
  unfold State.takeInterrupt
  repeat' (first | intro _ | with_reducible first | assumption | apply State.enterExc_held | apply held_ite | (fail_if_no_progress (with_reducible apply held_mk; with_reducible apply held_fold)) | split | extract_lets | dsimp only | dsimp +zetaDelta only)

theorem execInterruptTaken_held (at_ : Nat) (pair : Nat) (s : State) (hs : Held qs s) : ∃ out, execInterruptTaken at_ pair s = .next out ∧ Held qs out := by
  refine ⟨_, rfl, ?_⟩
  repeat' (first | intro _ | with_reducible first | assumption | apply State.at_held | apply done_held | apply State.takeInterrupt_held)

theorem State.coreRefuse_held (s : State) (hs : Held qs s) : Held qs (State.coreRefuse s) := by
  unfold State.coreRefuse
  repeat' (first | intro _ | with_reducible first | assumption | apply State.bump_held | apply State.raise_held)

theorem State.commitRegion_held (s : State) (w : Wr) (c : Nat) (i : Nat) (hs : Held qs s) : Held qs (State.commitRegion s w c i) := by
  unfold State.commitRegion
  repeat' (first | intro _ | with_reducible first | assumption | apply State.setReg_held | apply State.fput_held | apply State.coreRefuse_held | apply held_ite | split | extract_lets | dsimp only | dsimp +zetaDelta only)

theorem execRegionCommit_held (w : Wr) (ctx : Nat) (i : Nat) (s : State) (hs : Held qs s) : ∃ out, execRegionCommit w ctx i s = .next out ∧ Held qs out := by
  refine ⟨_, rfl, ?_⟩
  repeat' (first | intro _ | with_reducible first | assumption | apply State.at_held | apply done_held | apply guarded_held | apply State.commitRegion_held | apply held_ite | apply held_foldl | (with_reducible apply held_pair (by with_reducible assumption)) | (with_reducible apply held_pair2 (by with_reducible assumption)) | (fail_if_no_progress (with_reducible apply held_mk; with_reducible apply held_fold)) | split | extract_lets | dsimp only | dsimp +zetaDelta only)

theorem State.writeGate_held (s : State) (w : Wr) (g : Nat) (i : Nat) (hs : Held qs s) : Held qs (State.writeGate s w g i) := by
  unfold State.writeGate
  repeat' (first | intro _ | with_reducible first | assumption | apply State.setRegN_held | apply State.coreRefuse_held | apply held_ite | split | extract_lets | dsimp only | dsimp +zetaDelta only)

theorem execGateEntryCommit_held (w : Wr) (g : Nat) (s : State) (hs : Held qs s) : ∃ out, execGateEntryCommit w g s = .next out ∧ Held qs out := by
  refine ⟨_, rfl, ?_⟩
  repeat' (first | intro _ | with_reducible first | assumption | apply State.at_held | apply done_held | apply guarded_held | apply State.writeGate_held | apply held_ite | apply held_foldl | (with_reducible apply held_pair (by with_reducible assumption)) | (with_reducible apply held_pair2 (by with_reducible assumption)) | (fail_if_no_progress (with_reducible apply held_mk; with_reducible apply held_fold)) | split | extract_lets | dsimp only | dsimp +zetaDelta only)

theorem State.launch_held (s : State) (hs : Held qs s) : Held qs (State.launch s) := by
  unfold State.launch
  repeat' (first | intro _ | with_reducible first | assumption | apply State.fput_held | apply State.fputs_held | apply State.raise_held | apply State.startThread_held | apply State.openSlice_held | apply held_ite | (fail_if_no_progress (with_reducible apply held_mk; with_reducible apply held_fold)) | split | extract_lets | dsimp only | dsimp +zetaDelta only)

theorem State.gateEnter_held (s : State) (p : Nat) (g : Nat) (hs : Held qs s) : Held qs (State.gateEnter s p g) := by
  unfold State.gateEnter
  repeat' (first | intro _ | with_reducible first | assumption | apply State.setReg_held | apply State.hold_held | apply State.putThread_held | apply State.setCtx_held | apply State.gateBusy_held | apply State.dropFrames_held | apply State.drainThread_held | apply State.launch_held | apply held_ite | (fail_if_no_progress (with_reducible apply held_mk; with_reducible apply held_fold)) | split | extract_lets | dsimp only | dsimp +zetaDelta only)

theorem State.gateCall_held (s : State) (p : Nat) (v : Nat) (hs : Held qs s) : Held qs (State.gateCall s p v) := by
  unfold State.gateCall
  repeat' (first | intro _ | with_reducible first | assumption | apply State.bump_held | apply State.raise_held | apply State.putThread_held | apply State.gateEnter_held | (fail_if_no_progress (with_reducible apply held_mk; with_reducible apply held_fold)) | split | extract_lets | dsimp only | dsimp +zetaDelta only)

theorem State.gateReturn_held (s : State) (p : Nat) (hs : Held qs s) : Held qs (State.gateReturn s p) := by
  unfold State.gateReturn
  repeat' (first | intro _ | with_reducible first | assumption | apply State.setReg_held | apply State.hold_held | apply State.putThread_held | apply State.setCtx_held | apply State.gateBusy_held | apply State.drainThread_held | apply held_ite | (fail_if_no_progress (with_reducible apply held_mk; with_reducible apply held_fold)) | split | extract_lets | dsimp only | dsimp +zetaDelta only)

theorem State.openHold_held (s : State) (p : Nat) (v : Nat) (hs : Held qs s) : Held qs (State.openHold s p v) := by
  unfold State.openHold
  repeat' (first | intro _ | with_reducible first | assumption | apply State.hold_held | apply State.putThread_held | apply held_ite | (fail_if_no_progress (with_reducible apply held_mk; with_reducible apply held_fold)) | split | extract_lets | dsimp only | dsimp +zetaDelta only)

theorem State.closeHold_held (s : State) (p : Nat) (hs : Held qs s) : Held qs (State.closeHold s p) := by
  unfold State.closeHold
  repeat' (first | intro _ | with_reducible first | assumption | apply State.hold_held | apply State.putThread_held | (fail_if_no_progress (with_reducible apply held_mk; with_reducible apply held_fold)))

theorem State.overrunHold_held (s : State) (p : Nat) (hs : Held qs s) : Held qs (State.overrunHold s p) := by
  unfold State.overrunHold
  repeat' (first | intro _ | with_reducible first | assumption | apply State.fputs_held | apply State.bump_held | apply State.raise_held | apply State.hold_held | apply State.closeHold_held | apply held_ite | (fail_if_no_progress (with_reducible apply held_mk; with_reducible apply held_fold)) | split | extract_lets | dsimp only | dsimp +zetaDelta only)

theorem execHoldOverrun_held (at_ : Nat) (pair : Nat) (s : State) (hs : Held qs s) : ∃ out, execHoldOverrun at_ pair s = .next out ∧ Held qs out := by
  refine ⟨_, rfl, ?_⟩
  repeat' (first | intro _ | with_reducible first | assumption | apply State.at_held | apply done_held | apply State.overrunHold_held)

theorem State.switchSlice_held (s : State) (hs : Held qs s) : Held qs (State.switchSlice s) := by
  unfold State.switchSlice
  repeat' (first | intro _ | with_reducible first | assumption | apply State.fput_held | apply State.drainThread_held | apply State.openSlice_held | apply held_ite | split | extract_lets | dsimp only | dsimp +zetaDelta only)

theorem execSliceSwitch_held (at_ : Nat) (s : State) (hs : Held qs s) : ∃ out, execSliceSwitch at_ s = .next out ∧ Held qs out := by
  refine ⟨_, rfl, ?_⟩
  repeat' (first | intro _ | with_reducible first | assumption | apply State.at_held | apply done_held | apply State.switchSlice_held)

/-! ### Link -/

theorem State.controllerFault_held (s : State) (b : Nat) (residue0 : Bool) (residue1 : Bool) (hs : Held qs s) : Held qs (State.controllerFault s b residue0 residue1) := by
  unfold State.controllerFault
  repeat' (first | intro _ | with_reducible first | assumption | apply State.drawn_held | apply State.takeFault_held | apply State.recoverWithin_held | apply State.doubleFault_held | apply held_ite | (fail_if_no_progress (with_reducible apply held_mk; with_reducible apply held_fold)) | split | extract_lets | dsimp only | dsimp +zetaDelta only)

theorem execSramControllerFault_held (at_ : Nat) (bank : Nat) (residue0 : Bool) (residue1 : Bool) (s : State) (hs : Held qs s) : ∃ out, execSramControllerFault at_ bank residue0 residue1 s = .next out ∧ Held qs out := by
  refine ⟨_, rfl, ?_⟩
  repeat' (first | intro _ | with_reducible first | assumption | apply State.at_held | apply done_held | apply State.controllerFault_held)

theorem State.restrict_held (s : State) (kind : Nat) (index : Nat) (hs : Held qs s) : Held qs (State.restrict s kind index) := by
  unfold State.restrict
  repeat' (first | intro _ | with_reducible first | assumption | apply State.fput_held | apply State.raise_held | apply State.setRegN_held | apply State.orReg_held | apply State.drawn_held | apply held_ite | (fail_if_no_progress (with_reducible apply held_mk; with_reducible apply held_fold)) | split | extract_lets | dsimp only | dsimp +zetaDelta only)

theorem State.pairFault_held (s : State) (kind : Nat) (index : Nat) (hs : Held qs s) : Held qs (State.pairFault s kind index) := by
  unfold State.pairFault
  repeat' (first | intro _ | with_reducible first | assumption | apply State.raise_held | apply State.tripPulse_held | apply State.restrict_held | apply held_ite | (fail_if_no_progress (with_reducible apply held_mk; with_reducible apply held_fold)) | split | extract_lets | dsimp only | dsimp +zetaDelta only)

theorem execComplementaryPairFault_held (at_ : Nat) (kind : Nat) (index : Nat) (s : State) (hs : Held qs s) : ∃ out, execComplementaryPairFault at_ kind index s = .next out ∧ Held qs out := by
  refine ⟨_, rfl, ?_⟩
  repeat' (first | intro _ | with_reducible first | assumption | apply State.at_held | apply done_held | apply State.pairFault_held)

theorem State.sendHeld_held (s : State) (x : LinkItem) (hs : Held qs s) : Held qs (State.sendHeld s x) := by
  unfold State.sendHeld
  repeat' (first | intro _ | with_reducible first | assumption | apply State.celGroup_held | apply State.svcSendReply_held | apply State.reply_held | apply State.mirrorSeal_held | apply State.addRx_held | (fail_if_no_progress (with_reducible apply held_mk; with_reducible apply held_fold)) | split)

theorem State.sessionUp_held (s : State) (nonceC : Nat) (hs : Held qs s) : Held qs (State.sessionUp s nonceC) := by
  unfold State.sessionUp
  repeat' (first | intro _ | with_reducible first | assumption | apply State.fput_held | apply State.svcPump_held | apply State.setStarter_held | apply State.svcCopy_held | apply State.tagCopies_held | apply State.tagGo_held | apply State.sendHeld_held | apply held_ite | apply held_foldl | (with_reducible apply held_pair (by with_reducible assumption)) | (with_reducible apply held_pair2 (by with_reducible assumption)) | (fail_if_no_progress (with_reducible apply held_mk; with_reducible apply held_fold)) | split | extract_lets | dsimp only | dsimp +zetaDelta only)

theorem State.hello_held (s : State) (hs : Held qs s) : Held qs (State.hello s) := by
  unfold State.hello
  repeat' (first | intro _ | with_reducible first | assumption | apply State.drawn_held | apply State.serve_held | apply held_ite | (with_reducible apply held_pair (by with_reducible assumption)) | (with_reducible apply held_pair2 (by with_reducible assumption)) | (fail_if_no_progress (with_reducible apply held_mk; with_reducible apply held_fold)) | split)

theorem State.attemptFailed_held (s : State) (hs : Held qs s) : Held qs (State.attemptFailed s) := by
  unfold State.attemptFailed
  repeat' (first | intro _ | with_reducible first | assumption | apply State.bump_held | apply State.raise_held | apply State.linkLost_held | apply State.takeFault_held | apply State.tripCondition_held | apply State.hello_held | apply held_ite | (fail_if_no_progress (with_reducible apply held_mk; with_reducible apply held_fold)) | split | extract_lets | dsimp only | dsimp +zetaDelta only)

theorem State.helloReply_held (s : State) (nonceC : Nat) (mac : Nat) (hs : Held qs s) : Held qs (State.helloReply s nonceC mac) := by
  unfold State.helloReply
  repeat' (first | intro _ | with_reducible first | assumption | apply State.sessionUp_held | apply State.attemptFailed_held | apply held_ite | split)

theorem State.transfer_held (s : State) (counter : Nat) (mac : Nat) (toCellar : Bool) (payload : List Nat) (hs : Held qs s) : Held qs (State.transfer s counter mac toCellar payload) := by
  unfold State.transfer
  repeat' (first | intro _ | with_reducible first | assumption | apply State.bump_held | apply State.linkLost_held | apply State.tripPulse_held | apply State.hello_held | apply held_ite | (fail_if_no_progress (with_reducible apply held_mk; with_reducible apply held_fold)) | split | extract_lets | dsimp only | dsimp +zetaDelta only)

theorem execD2dSessionStart_held (at_ : Nat) (s : State) (hs : Held qs s) : ∃ out, execD2dSessionStart at_ s = .next out ∧ Held qs out := by
  refine ⟨_, rfl, ?_⟩
  repeat' (first | intro _ | with_reducible first | assumption | apply State.at_held | apply done_held | apply State.hello_held)

theorem execD2dHelloReply_held (at_ : Nat) (nonceC : Nat) (mac : Nat) (s : State) (hs : Held qs s) : ∃ out, execD2dHelloReply at_ nonceC mac s = .next out ∧ Held qs out := by
  refine ⟨_, rfl, ?_⟩
  repeat' (first | intro _ | with_reducible first | assumption | apply State.at_held | apply done_held | apply State.helloReply_held)

theorem execD2dTransfer_held (at_ : Nat) (counter : Nat) (mac : Nat) (toCellar : Bool) (payload : List Nat) (s : State) (hs : Held qs s) : ∃ out, execD2dTransfer at_ counter mac toCellar payload s = .next out ∧ Held qs out := by
  refine ⟨_, rfl, ?_⟩
  repeat' (first | intro _ | with_reducible first | assumption | apply State.at_held | apply done_held | apply State.transfer_held)

theorem execD2dLinkDrop_held (at_ : Nat) (s : State) (hs : Held qs s) : ∃ out, execD2dLinkDrop at_ s = .next out ∧ Held qs out := by
  refine ⟨_, rfl, ?_⟩
  repeat' (first | intro _ | with_reducible first | assumption | apply State.at_held | apply State.linkLost_held | apply done_held)

theorem execFaultDeclare_held (w : Wr) (s : State) (hs : Held qs s) : ∃ out, execFaultDeclare w s = .next out ∧ Held qs out := by
  refine ⟨_, rfl, ?_⟩
  repeat' (first | intro _ | with_reducible first | assumption | apply done_held | apply guarded_held | apply State.laneFault_held | apply State.vceFault_held | (fail_if_no_progress (with_reducible apply held_mk; with_reducible apply held_fold)) | split | dsimp only)

/-! ### Power -/

theorem State.resetSlots_held (s : State) (slots : List Nat) (hs : Held qs s) : Held qs (State.resetSlots s slots) := by
  unfold State.resetSlots
  repeat' (first | intro _ | with_reducible first | assumption | apply State.fput_held | apply State.resetRegs_held | apply held_ite | split | extract_lets | dsimp only | dsimp +zetaDelta only)

theorem State.resetMem_held (s : State) (lo hi : Nat) (hs : Held qs s) : Held qs (State.resetMem s lo hi) :=
  held_dropmem (State.heal_held s lo (hi - lo) hs) _

theorem State.resetTransit_held (s : State) (hs : Held qs s) : Held qs (State.resetTransit s) := by
  unfold State.resetTransit
  repeat' (first | intro _ | with_reducible first | assumption | (fail_if_no_progress (with_reducible apply held_mk; with_reducible apply held_fold)) | dsimp only)

theorem State.resetSources_held (s : State) (hs : Held qs s) : Held qs (State.resetSources s) := by
  unfold State.resetSources
  repeat' (first | intro _ | with_reducible first | assumption | apply State.fput_held | apply State.fputs_held | (fail_if_no_progress (with_reducible apply held_mk; with_reducible apply held_fold)) | dsimp only)

theorem State.resetSpectro_held (s : State) (hs : Held qs s) : Held qs (State.resetSpectro s) := by
  unfold State.resetSpectro
  repeat' (first | intro _ | with_reducible first | assumption | (fail_if_no_progress (with_reducible apply held_mk; with_reducible apply held_fold)))

theorem State.resetLedger_held (s : State) (hs : Held qs s) : Held qs (State.resetLedger s) := by
  unfold State.resetLedger
  repeat' (first | intro _ | with_reducible first | assumption | (fail_if_no_progress (with_reducible apply held_mk; with_reducible apply held_fold)) | extract_lets | dsimp only | dsimp +zetaDelta only)

theorem State.resetAssembly_held (s : State) (hs : Held qs s) : Held qs (State.resetAssembly s) := by
  unfold State.resetAssembly
  repeat' (first | intro _ | with_reducible first | assumption | (fail_if_no_progress (with_reducible apply held_mk; with_reducible apply held_fold)))

theorem State.dropCeding_held (s : State) (hs : Held qs s) : Held qs (State.dropCeding s) := by
  unfold State.dropCeding
  repeat' (first | intro _ | with_reducible first | assumption | apply held_ite | (fail_if_no_progress (with_reducible apply held_mk; with_reducible apply held_fold)) | split)

theorem State.resetKeys_held (s : State) (hs : Held qs s) : Held qs (State.resetKeys s) := by
  unfold State.resetKeys
  repeat' (first | intro _ | with_reducible first | assumption | apply State.fputs_held | (fail_if_no_progress (with_reducible apply held_mk; with_reducible apply held_fold)) | extract_lets | dsimp only | dsimp +zetaDelta only)

theorem State.resetTamper_held (s : State) (hs : Held qs s) : Held qs (State.resetTamper s) := by
  unfold State.resetTamper
  repeat' (first | intro _ | with_reducible first | assumption | apply State.setReg_held | apply State.fput_held | apply held_ite | apply held_foldl | (fail_if_no_progress (with_reducible apply held_mk; with_reducible apply held_fold)) | split | extract_lets | dsimp only | dsimp +zetaDelta only)

theorem State.resetTests_held (s : State) (hs : Held qs s) : Held qs (State.resetTests s) := by
  unfold State.resetTests
  repeat' (first | intro _ | with_reducible first | assumption | apply State.fput_held | (fail_if_no_progress (with_reducible apply held_mk; with_reducible apply held_fold)))

theorem State.dropRepairs_held (s : State) (test : Nat) (unit : Nat) (hs : Held qs s) : Held qs (State.dropRepairs s test unit) := by
  unfold State.dropRepairs
  repeat' (first | intro _ | with_reducible first | assumption | apply State.fput_held | (fail_if_no_progress (with_reducible apply held_mk; with_reducible apply held_fold)) | extract_lets | dsimp only | dsimp +zetaDelta only)

theorem State.resetCommand_held (s : State) (hs : Held qs s) : Held qs (State.resetCommand s) := by
  unfold State.resetCommand
  repeat' (first | intro _ | with_reducible first | assumption | apply State.fput_held | apply State.svcCopy_held | apply State.tagCopies_held | (fail_if_no_progress (with_reducible apply held_mk; with_reducible apply held_fold)) | extract_lets | dsimp only | dsimp +zetaDelta only)

theorem State.resetFlash_held (s : State) (hs : Held qs s) : Held qs (State.resetFlash s) := by
  unfold State.resetFlash
  repeat' (first | intro _ | with_reducible first | assumption | apply State.setRegN_held | apply State.putJournal_held | apply held_foldl | extract_lets | dsimp only | dsimp +zetaDelta only)

theorem State.resetBank_held (s : State) (b : Nat) (hs : Held qs s) : Held qs (State.resetBank s b) := by
  unfold State.resetBank
  repeat' (first | intro _ | with_reducible first | assumption | apply State.putBit_held | apply State.asked_held | apply State.resetMem_held | (fail_if_no_progress (with_reducible apply held_mk; with_reducible apply held_fold)) | split | extract_lets | dsimp only | dsimp +zetaDelta only)

theorem State.drawBankKeys_held (s : State) (hs : Held qs s) : Held qs (State.drawBankKeys s) := by
  unfold State.drawBankKeys
  repeat' (first | intro _ | with_reducible first | assumption | apply State.asked_held | apply held_foldl | (fail_if_no_progress (with_reducible apply held_mk; with_reducible apply held_fold)) | dsimp only)

theorem State.resetRest_held (s : State) (hs : Held qs s) : Held qs (State.resetRest s) := by
  unfold State.resetRest
  repeat' (first | intro _ | with_reducible first | assumption | apply State.fput_held | apply State.flashCut_held | apply State.resetSlots_held | apply State.resetMem_held | apply State.resetTransit_held | apply State.resetSources_held | apply State.resetSpectro_held | apply State.resetLedger_held | apply State.resetAssembly_held | apply State.dropCeding_held | apply State.resetKeys_held | apply State.resetTamper_held | apply State.resetTests_held | apply State.resetCommand_held | apply State.resetFlash_held | apply State.drawBankKeys_held | (fail_if_no_progress (with_reducible apply held_mk; with_reducible apply held_fold)) | extract_lets | dsimp only | dsimp +zetaDelta only)

theorem State.resetGroupZero_held (s : State) (hs : Held qs s) : Held qs (State.resetGroupZero s) := by
  unfold State.resetGroupZero
  repeat' (first | intro _ | with_reducible first | assumption | apply State.put64_held | apply State.resetSlots_held | (fail_if_no_progress (with_reducible apply held_mk; with_reducible apply held_fold)) | extract_lets | dsimp only | dsimp +zetaDelta only)

theorem State.powerDown_held (s : State) (rails : Option Nat) (hs : Held qs s) : Held qs (State.powerDown s rails) := by
  unfold State.powerDown
  repeat' (first | intro _ | with_reducible first | assumption | apply State.seedNets_held | apply State.svcPowerLost_held | apply State.resetRest_held | apply State.resetGroupZero_held | apply held_ite | (fail_if_no_progress (with_reducible apply held_mk; with_reducible apply held_fold)) | split | extract_lets | dsimp only | dsimp +zetaDelta only)

theorem execMainSupplyLoss_held (at_ : Nat) (s : State) (hs : Held qs s) : ∃ out, execMainSupplyLoss at_ s = .next out ∧ Held qs out := by
  refine ⟨_, rfl, ?_⟩
  repeat' (first | intro _ | with_reducible first | assumption | apply State.at_held | apply done_held | apply State.powerDown_held)

theorem execBackupPowerLoss_held (at_ : Nat) (s : State) (hs : Held qs s) : ∃ out, execBackupPowerLoss at_ s = .next out ∧ Held qs out := by
  refine ⟨_, rfl, ?_⟩
  repeat' (first | intro _ | with_reducible first | assumption | apply State.at_held | apply done_held | apply State.loseBackup_held | apply State.powerDown_held)

theorem execBrownOut_held (at_ : Nat) (rails : Nat) (us : Nat) (s : State) (hs : Held qs s) : ∃ out, execBrownOut at_ rails us s = .next out ∧ Held qs out := by
  refine ⟨_, rfl, ?_⟩
  repeat' (first | intro _ | with_reducible first | assumption | apply State.at_held | apply done_held | apply State.powerDown_held | apply held_ite | apply held_foldl | (with_reducible apply held_pair (by with_reducible assumption)) | (with_reducible apply held_pair2 (by with_reducible assumption)) | (fail_if_no_progress (with_reducible apply held_mk; with_reducible apply held_fold)) | split | extract_lets | dsimp only | dsimp +zetaDelta only)

theorem State.loadFuses_held (s : State) (hs : Held qs s) : Held qs (State.loadFuses s) := by
  unfold State.loadFuses
  repeat' (first | intro _ | with_reducible first | assumption | apply State.fputs_held)

theorem State.rebuildHuk_held (s : State) (good : Bool) (hs : Held qs s) : Held qs (State.rebuildHuk s good) := by
  unfold State.rebuildHuk
  repeat' (first | intro _ | with_reducible first | assumption | apply State.fput_held | apply State.tamperEntry_held | apply held_ite | split)

theorem State.newSession_held (s : State) (hs : Held qs s) : Held qs (State.newSession s) := by
  unfold State.newSession
  repeat' (first | intro _ | with_reducible first | assumption | apply State.drawn_held | apply State.asked_held | apply State.sessionUp_held | apply held_ite | (fail_if_no_progress (with_reducible apply held_mk; with_reducible apply held_fold)) | split | extract_lets | dsimp only | dsimp +zetaDelta only)

theorem State.loadTime_held (s : State) (hs : Held qs s) : Held qs (State.loadTime s) := by
  unfold State.loadTime
  repeat' (first | intro _ | with_reducible first | assumption | apply State.fput_held | apply State.raise_held | apply State.emit_held | apply State.restartTime_held | apply held_ite | (fail_if_no_progress (with_reducible apply held_mk; with_reducible apply held_fold)) | split | extract_lets | dsimp only | dsimp +zetaDelta only)

theorem State.resolveFuses_held (s : State) (hs : Held qs s) : Held qs (State.resolveFuses s).1 := by
  unfold State.resolveFuses
  repeat' (first | intro _ | with_reducible first | assumption | apply State.fput_held | apply State.celWrite_held | apply State.putLc_held | apply State.blowPair_held | apply State.blowState_held | apply held_ite | (fail_if_no_progress (with_reducible apply held_mk; with_reducible apply held_fold)) | split | extract_lets | dsimp only | dsimp +zetaDelta only)

theorem State.showBackup_held (s : State) (stamp : Nat) (p : List Byte) (hs : Held qs s) : Held qs (State.showBackup s stamp p) := by
  unfold State.showBackup
  repeat' (first | intro _ | with_reducible first | assumption | apply State.fputs_held | apply State.raise_held | apply State.put64_held | apply held_ite | split | extract_lets | dsimp only | dsimp +zetaDelta only)

theorem State.startMode_held (s : State) (torn : Bool) (huk : Bool) (hs : Held qs s) : Held qs (State.startMode s torn huk) := by
  unfold State.startMode
  repeat' (first | intro _ | with_reducible first | assumption | apply State.fputs_held | apply State.setMode_held | apply State.enterQuarantine_held | apply State.setLatch_held | apply State.showBackup_held | apply held_ite | (with_reducible apply held_pair (by with_reducible assumption)) | (with_reducible apply held_pair2 (by with_reducible assumption)) | (fail_if_no_progress (with_reducible apply held_mk; with_reducible apply held_fold)) | split | extract_lets | dsimp only | dsimp +zetaDelta only)

theorem State.settleBankZero_held (s : State) (hs : Held qs s) : Held qs (State.settleBankZero s) := by
  unfold State.settleBankZero
  repeat' (first | intro _ | with_reducible first | assumption | apply State.eraseSector_held | apply State.releaseBanks_held | apply held_foldl | dsimp only)

theorem State.fallbackEntry_held (s : State) (twin : Nat) (hs : Held qs s) : Held qs (State.fallbackEntry s twin) := by
  unfold State.fallbackEntry
  repeat' (first | intro _ | with_reducible first | assumption | apply State.celWrite_held)

theorem State.enterLoader_held (s : State) (twin : Nat) (hs : Held qs s) : Held qs (State.enterLoader s twin) := by
  unfold State.enterLoader
  repeat' (first | intro _ | with_reducible first | assumption | apply State.fputs_held | apply State.putThread_held | apply State.setCtx_held | (fail_if_no_progress (with_reducible apply held_mk; with_reducible apply held_fold)) | extract_lets | dsimp only | dsimp +zetaDelta only)

theorem State.enterRecovery_held (s : State) (hs : Held qs s) : Held qs (State.enterRecovery s) := by
  unfold State.enterRecovery
  repeat' (first | intro _ | with_reducible first | assumption | apply State.fputs_held | apply State.fallbackEntry_held)

theorem State.chooseTwin_held (s : State) (hs : Held qs s) : Held qs (State.chooseTwin s) := by
  unfold State.chooseTwin
  repeat' (first | intro _ | with_reducible first | assumption | apply State.fput_held | apply State.fallbackEntry_held | apply State.enterLoader_held | apply State.enterRecovery_held | apply held_ite | (fail_if_no_progress (with_reducible apply held_mk; with_reducible apply held_fold)) | split | extract_lets | dsimp only | dsimp +zetaDelta only)

theorem State.sampleStraps_held (s : State) (strap : Nat) (hs : Held qs s) : Held qs (State.sampleStraps s strap) := by
  unfold State.sampleStraps
  repeat' (first | intro _ | with_reducible first | assumption | (fail_if_no_progress (with_reducible apply held_mk; with_reducible apply held_fold)) | split)

theorem State.bootAssembly_held (s : State) (hs : Held qs s) : Held qs (State.bootAssembly s) := by
  unfold State.bootAssembly
  repeat' (first | intro _ | with_reducible first | assumption | apply State.fputs_held | apply held_ite | split | extract_lets | dsimp only | dsimp +zetaDelta only)

theorem State.boot_held (s : State) (warm : Bool) (b : Boot) (hs : Held qs s) : Held qs (State.boot s warm b) := by
  unfold State.boot
  repeat' (first | intro _ | with_reducible first | assumption | apply State.setRegN_held | apply State.celWrite_held | apply State.reestablish_held | apply State.romMismatch_held | apply State.discoverArchive_held | apply State.loadFuses_held | apply State.rebuildHuk_held | apply State.newSession_held | apply State.loadTime_held | apply State.resolveFuses_held | apply State.startMode_held | apply State.settleBankZero_held | apply State.chooseTwin_held | apply State.bootAssembly_held | apply held_ite | (with_reducible apply held_pair (by with_reducible assumption)) | (with_reducible apply held_pair2 (by with_reducible assumption)) | (fail_if_no_progress (with_reducible apply held_mk; with_reducible apply held_fold)) | split | extract_lets | dsimp only | dsimp +zetaDelta only)

theorem State.seededNets_held (s : State) (hs : Held qs s) : Held qs (State.seededNets s) := by
  unfold State.seededNets
  repeat' (first | intro _ | with_reducible first | assumption | apply State.seedNets_held)

theorem State.porRelease_held (s : State) (count : Nat) (b : Boot) (hs : Held qs s) : Held qs (State.porRelease s count b) := by
  unfold State.porRelease
  repeat' (first | intro _ | with_reducible first | assumption | apply State.fput_held | apply State.fputs_held | apply State.cellarStart_held | apply State.outRecord_held | apply State.resetRest_held | apply State.resetGroupZero_held | apply State.sampleStraps_held | apply State.boot_held | apply State.seededNets_held | apply held_ite | (fail_if_no_progress (with_reducible apply held_mk; with_reducible apply held_fold)) | split | extract_lets | dsimp only | dsimp +zetaDelta only)

theorem execPorRelease_held (count : Nat) (boot : Boot) (s : State) (hs : Held qs s) : ∃ out, execPorRelease count boot s = .next out ∧ Held qs out := by
  refine ⟨_, rfl, ?_⟩
  repeat' (first | intro _ | with_reducible first | assumption | apply done_held | apply State.boot_held | apply State.porRelease_held)

theorem State.warmReset_held (s : State) (cause : Nat) (b : Boot) (hs : Held qs s) : Held qs (State.warmReset s cause b) := by
  unfold State.warmReset
  repeat' (first | intro _ | with_reducible first | assumption | apply State.fputs_held | apply State.bump_held | apply State.resetRest_held | apply State.boot_held | (fail_if_no_progress (with_reducible apply held_mk; with_reducible apply held_fold)) | extract_lets | dsimp only | dsimp +zetaDelta only)

theorem execWarmReset_held (at_ : Nat) (cause : Nat) (boot : Boot) (s : State) (hs : Held qs s) : ∃ out, execWarmReset at_ cause boot s = .next out ∧ Held qs out := by
  refine ⟨_, rfl, ?_⟩
  repeat' (first | intro _ | with_reducible first | assumption | apply State.at_held | apply done_held | apply State.boot_held | apply State.warmReset_held | apply held_ite | apply held_foldl | (with_reducible apply held_pair (by with_reducible assumption)) | (with_reducible apply held_pair2 (by with_reducible assumption)) | (fail_if_no_progress (with_reducible apply held_mk; with_reducible apply held_fold)) | split | extract_lets | dsimp only | dsimp +zetaDelta only)

theorem execRstNLow_held (at_ : Nat) (ns : Nat) (boot : Boot) (s : State) (hs : Held qs s) : ∃ out, execRstNLow at_ ns boot s = .next out ∧ Held qs out := by
  refine ⟨_, rfl, ?_⟩
  repeat' (first | intro _ | with_reducible first | assumption | apply State.at_held | apply done_held | apply State.boot_held | apply State.warmReset_held | apply held_ite | apply held_foldl | (with_reducible apply held_pair (by with_reducible assumption)) | (with_reducible apply held_pair2 (by with_reducible assumption)) | (fail_if_no_progress (with_reducible apply held_mk; with_reducible apply held_fold)) | split | extract_lets | dsimp only | dsimp +zetaDelta only)

theorem State.pllHeld_held (t : State) (line : Bool) (ht : Held qs t) : Held qs (State.pllHeld t line) := by
  unfold State.pllHeld
  repeat' (first | intro _ | with_reducible first | assumption | apply State.fputs_held | apply State.bump_held | apply State.resetRest_held | apply State.bootAssembly_held | apply held_ite | apply held_foldl | (with_reducible apply held_pair (by with_reducible assumption)) | (with_reducible apply held_pair2 (by with_reducible assumption)) | (fail_if_no_progress (with_reducible apply held_mk; with_reducible apply held_fold)) | split | extract_lets | dsimp only | dsimp +zetaDelta only)

theorem execPllLockLoss_held (at_ : Nat) (line : Bool) (relocked : Bool) (boot : Boot) (s : State) (hs : Held qs s) : ∃ out, execPllLockLoss at_ line relocked boot s = .next out ∧ Held qs out := by
  refine ⟨_, rfl, ?_⟩
  repeat' (first | intro _ | with_reducible first | assumption | apply State.at_held | apply done_held | apply State.boot_held | apply State.warmReset_held | apply State.pllHeld_held | apply held_ite | split | extract_lets | dsimp only | dsimp +zetaDelta only)

theorem execStartWatchdogExpiry_held (at_ : Nat) (boot : Boot) (s : State) (hs : Held qs s) : ∃ out, execStartWatchdogExpiry at_ boot s = .next out ∧ Held qs out := by
  refine ⟨_, rfl, ?_⟩
  repeat' (first | intro _ | with_reducible first | assumption | apply State.bump_held | apply State.at_held | apply done_held | apply State.boot_held | apply State.warmReset_held | apply held_ite | (fail_if_no_progress (with_reducible apply held_mk; with_reducible apply held_fold)) | split | extract_lets | dsimp only | dsimp +zetaDelta only)

theorem execWakeNFall_held (at_ : Nat) (us : Nat) (boot : Boot) (s : State) (hs : Held qs s) : ∃ out, execWakeNFall at_ us boot s = .next out ∧ Held qs out := by
  refine ⟨_, rfl, ?_⟩
  repeat' (first | intro _ | with_reducible first | assumption | apply State.fput_held | apply State.raise_held | apply State.at_held | apply done_held | apply State.boot_held | apply State.warmReset_held | apply held_ite | (fail_if_no_progress (with_reducible apply held_mk; with_reducible apply held_fold)) | split | extract_lets | dsimp only | dsimp +zetaDelta only)

theorem State.resetDomain_held (s : State) (d : Nat) (hs : Held qs s) : Held qs (State.resetDomain s d) := by
  unfold State.resetDomain
  repeat' (first | intro _ | with_reducible first | assumption | apply State.fput_held | apply State.fputs_held | apply State.putBit_held | apply State.resetRegs_held | apply State.flashCut_held | apply State.putLane_held | apply State.putVat_held | apply State.resetSlots_held | apply State.resetMem_held | apply State.resetTransit_held | apply State.resetSources_held | apply State.resetSpectro_held | apply State.resetLedger_held | apply State.resetAssembly_held | apply State.resetKeys_held | apply State.dropRepairs_held | apply State.resetCommand_held | apply State.resetFlash_held | apply State.resetBank_held | apply State.bootAssembly_held | apply held_ite | apply held_foldl | (fail_if_no_progress (with_reducible apply held_mk; with_reducible apply held_fold)) | split | extract_lets | dsimp only | dsimp +zetaDelta only)

theorem State.domainRefusal_held (s : State) (hs : Held qs s) : Held qs (State.domainRefusal s) := by
  unfold State.domainRefusal
  repeat' (first | intro _ | with_reducible first | assumption | apply State.bump_held | apply State.raise_held)

theorem State.domainControl_held (s : State) (d : Nat) (v : Nat) (hs : Held qs s) : Held qs (State.domainControl s d v) := by
  unfold State.domainControl
  repeat' (first | intro _ | with_reducible first | assumption | apply State.fputs_held | apply State.resetDomain_held | apply State.domainRefusal_held | apply held_ite | split | extract_lets | dsimp only | dsimp +zetaDelta only)

theorem execDomainControlWrite_held (w : Wr) (d : Nat) (s : State) (hs : Held qs s) : ∃ out, execDomainControlWrite w d s = .next out ∧ Held qs out := by
  refine ⟨_, rfl, ?_⟩
  repeat' (first | intro _ | with_reducible first | assumption | apply State.at_held | apply done_held | apply guarded_held | apply State.domainControl_held | apply held_ite | apply held_foldl | (with_reducible apply held_pair (by with_reducible assumption)) | (with_reducible apply held_pair2 (by with_reducible assumption)) | (fail_if_no_progress (with_reducible apply held_mk; with_reducible apply held_fold)) | split | extract_lets | dsimp only | dsimp +zetaDelta only)

theorem execCprResetWrite_held (w : Wr) (boot : Boot) (s : State) (hs : Held qs s) : ∃ out, execCprResetWrite w boot s = .next out ∧ Held qs out := by
  refine ⟨_, rfl, ?_⟩
  repeat' (first | intro _ | with_reducible first | assumption | apply done_held | apply guarded_held | apply State.boot_held | apply State.warmReset_held | apply State.resetDomain_held | apply State.domainRefusal_held | apply held_ite | (fail_if_no_progress (with_reducible apply held_mk; with_reducible apply held_fold)) | split | extract_lets | dsimp only | dsimp +zetaDelta only)

theorem execDeviceReset_held (r : Req) (kind : Nat) (domain : Option Nat) (s : State) (hs : Held qs s) : ∃ out, execDeviceReset r kind domain s = .next out ∧ Held qs out := by
  refine ⟨_, rfl, ?_⟩
  repeat' (first | intro _ | with_reducible first | assumption | apply runCmd_held | apply okEff_held | apply done_held | (fail_if_no_progress (with_reducible apply held_mk; with_reducible apply held_fold)) | extract_lets | dsimp only | dsimp +zetaDelta only)

theorem State.dueResets_held (s : State) (p : Nat) (hs : Held qs s) : Held qs (State.dueResets s p) := by
  unfold State.dueResets
  repeat' (first | intro _ | with_reducible first | assumption | apply State.resetDomain_held | apply State.domainRefusal_held | apply held_ite | apply held_foldl | (fail_if_no_progress (with_reducible apply held_mk; with_reducible apply held_fold)) | split | extract_lets | dsimp only | dsimp +zetaDelta only)

theorem State.dormantEntries_held (s : State) (hs : Held qs s) : Held qs (State.dormantEntries s) := by
  unfold State.dormantEntries
  repeat' (first | intro _ | with_reducible first | assumption | apply State.celWrite_held | apply State.tallyBackup_held | (fail_if_no_progress (with_reducible apply held_mk; with_reducible apply held_fold)) | extract_lets | dsimp only | dsimp +zetaDelta only)

theorem State.lowerOutput_held (s : State) (o : Nat) (hs : Held qs s) : Held qs (State.lowerOutput s o) := by
  unfold State.lowerOutput
  repeat' (first | intro _ | with_reducible first | assumption | apply State.setOut_held | apply held_ite | split)

theorem State.dormantReady_held (s : State) (hs : Held qs s) : Held qs (State.dormantReady s) := by
  unfold State.dormantReady
  repeat' (first | intro _ | with_reducible first | assumption | apply State.fputs_held | apply State.closeAll_held | apply State.derateRecord_held | apply State.lowerOutput_held | apply held_foldl | (fail_if_no_progress (with_reducible apply held_mk; with_reducible apply held_fold)) | extract_lets | dsimp only | dsimp +zetaDelta only)

theorem State.dormantStep_held (s : State) (hs : Held qs s) : Held qs (State.dormantStep s) := by
  unfold State.dormantStep
  repeat' (first | intro _ | with_reducible first | assumption | apply State.fput_held | apply State.dormantEntries_held | apply State.dormantReady_held | apply held_ite | split | extract_lets | dsimp only | dsimp +zetaDelta only)

theorem execDormantPowerOff_held (at_ : Nat) (s : State) (hs : Held qs s) : ∃ out, execDormantPowerOff at_ s = .next out ∧ Held qs out := by
  refine ⟨_, rfl, ?_⟩
  repeat' (first | intro _ | with_reducible first | assumption | apply State.at_held | apply done_held | apply State.dormantStep_held | apply held_ite | apply held_foldl | (with_reducible apply held_pair (by with_reducible assumption)) | (with_reducible apply held_pair2 (by with_reducible assumption)) | (fail_if_no_progress (with_reducible apply held_mk; with_reducible apply held_fold)) | split | extract_lets | dsimp only | dsimp +zetaDelta only)

/-! ### SelfTest -/

theorem State.beginTest_held (s : State) (hs : Held qs s) : Held qs (State.beginTest s) := by
  unfold State.beginTest
  repeat' (first | intro _ | with_reducible first | assumption | apply State.fputs_held | apply State.drawn_held | apply held_ite | (fail_if_no_progress (with_reducible apply held_mk; with_reducible apply held_fold)) | split | extract_lets | dsimp only | dsimp +zetaDelta only)

theorem State.startRun_held (t : State) (ts : List Nat) (fuse : Bool) (ht : Held qs t) : Held qs (State.startRun t ts fuse) := by
  unfold State.startRun
  repeat' (first | intro _ | with_reducible first | assumption | apply State.fput_held | apply State.beginTest_held | (fail_if_no_progress (with_reducible apply held_mk; with_reducible apply held_fold)) | extract_lets | dsimp only | dsimp +zetaDelta only)

theorem execSelftestRun_held (r : Req) (mask : Nat) (fuse : Bool) (token : Option Token) (_keys : PubKeys) (s : State) (hs : Held qs s) : ∃ out, execSelftestRun r mask fuse token _keys s = .next out ∧ Held qs out := by
  refine ⟨_, rfl, ?_⟩
  repeat' (first | intro _ | with_reducible first | assumption | apply runCmd_held | apply State.checkToken_held | apply done_held | apply State.startRun_held | apply held_ite | (with_reducible apply held_pair (by with_reducible assumption)) | (with_reducible apply held_pair2 (by with_reducible assumption)) | (fail_if_no_progress (with_reducible apply held_mk; with_reducible apply held_fold)) | split | extract_lets | dsimp only | dsimp +zetaDelta only)

theorem State.repair_held (s : State) (test : Nat) (f : TestFail) (hs : Held qs s) : Held qs (State.repair s test f).1 := by
  have h : ∀ l, Held qs { s with bist := { s.bist with soft := l, fuses := if s.bist.fuse then s.bist.fuses ++ [(test, f.unit, f.group)] else s.bist.fuses } } := by
    intro l
    apply held_mk
    by_cases hf : s.bist.fuse = true
    · simp only [hf, if_true]; exact held_repair hs _
    · simp only [hf, if_false]; exact hs
  unfold State.repair
  split
  · exact h _
  · exact hs

theorem State.repairAll_held (s : State) (test : Nat) (zz : List TestFail) (hs : Held qs s) : Held qs (State.repairAll s test zz).1 := by
  induction zz generalizing s test with
  | nil =>
    unfold State.repairAll
    repeat' (first | intro _ | with_reducible first | assumption | apply State.repair_held | (with_reducible apply held_pair (by with_reducible assumption)) | (with_reducible apply held_pair2 (by with_reducible assumption)) | split | extract_lets | dsimp only | dsimp +zetaDelta only)
  | cons zx zt ih =>
    unfold State.repairAll
    repeat' (first | intro _ | with_reducible first | assumption | apply ih | apply State.repair_held | (with_reducible apply held_pair (by with_reducible assumption)) | (with_reducible apply held_pair2 (by with_reducible assumption)) | split | extract_lets | dsimp only | dsimp +zetaDelta only)

theorem State.holdRecord_held (s : State) (bs : List Byte) (hs : Held qs s) : Held qs (State.holdRecord s bs) := by
  unfold State.holdRecord
  repeat' (first | intro _ | with_reducible first | assumption | apply State.putWords_held | (fail_if_no_progress (with_reducible apply held_mk; with_reducible apply held_fold)))

theorem State.endIsolation_held (s : State) (t : Nat) (hs : Held qs s) : Held qs (State.endIsolation s t) := by
  unfold State.endIsolation
  repeat' (first | intro _ | with_reducible first | assumption | apply State.eraseSector_held | apply State.resetSlots_held | apply State.resetSpectro_held | apply State.resetBank_held | apply State.resetDomain_held | apply held_foldl | (fail_if_no_progress (with_reducible apply held_mk; with_reducible apply held_fold)) | split | dsimp only)

theorem State.scrubSram_held (s : State) (hs : Held qs s) : Held qs (State.scrubSram s) := by
  unfold State.scrubSram
  repeat' (first | intro _ | with_reducible first | assumption | apply State.checkUnit_held | apply held_foldl | dsimp only)

theorem State.endPlain_held (s : State) (t : Nat) (fails : List TestFail) (hs : Held qs s) : Held qs (State.endPlain s t fails) := by
  unfold State.endPlain
  repeat' (first | intro _ | with_reducible first | assumption | apply State.raise_held | apply State.putBit_held | apply State.write_held | apply State.trip_held | apply State.scrubSram_held | apply held_ite | apply held_foldl | (fail_if_no_progress (with_reducible apply held_mk; with_reducible apply held_fold)) | split | dsimp only)

theorem State.skipTests_held (s : State) (zz : List Nat) (hs : Held qs s) : Held qs (State.skipTests s zz) := by
  induction zz generalizing s with
  | nil =>
    unfold State.skipTests
    repeat' (first | intro _ | with_reducible first | assumption | apply State.holdRecord_held)
  | cons zx zt ih =>
    unfold State.skipTests
    repeat' (first | intro _ | with_reducible first | assumption | apply ih | apply State.holdRecord_held)

theorem State.nextTest_held (s : State) (rest : List Nat) (hs : Held qs s) : Held qs (State.nextTest s rest) := by
  unfold State.nextTest
  repeat' (first | intro _ | with_reducible first | assumption | apply State.raise_held | apply State.beginTest_held | apply held_ite | (fail_if_no_progress (with_reducible apply held_mk; with_reducible apply held_fold)) | split | extract_lets | dsimp only | dsimp +zetaDelta only)

theorem State.testComplete_held (s : State) (fails : List TestFail) (hs : Held qs s) : Held qs (State.testComplete s fails) := by
  unfold State.testComplete
  repeat' (first | intro _ | with_reducible first | assumption | apply State.fputs_held | apply State.raise_held | apply State.drawn_held | apply State.repairAll_held | apply State.holdRecord_held | apply State.endIsolation_held | apply State.endPlain_held | apply State.skipTests_held | apply State.nextTest_held | apply held_ite | (with_reducible apply held_pair (by with_reducible assumption)) | (with_reducible apply held_pair2 (by with_reducible assumption)) | (fail_if_no_progress (with_reducible apply held_mk; with_reducible apply held_fold)) | split | extract_lets | dsimp only | dsimp +zetaDelta only)

theorem execSelftestTestComplete_held (at_ : Nat) (fails : List TestFail) (s : State) (hs : Held qs s) : ∃ out, execSelftestTestComplete at_ fails s = .next out ∧ Held qs out := by
  refine ⟨_, rfl, ?_⟩
  repeat' (first | intro _ | with_reducible first | assumption | apply State.at_held | apply done_held | apply State.testComplete_held)

theorem execSelftestReadResult_held (r : Req) (run : Nat) (s : State) (hs : Held qs s) : ∃ out, execSelftestReadResult r run s = .next out ∧ Held qs out := by
  refine ⟨_, rfl, ?_⟩
  repeat' (first | intro _ | with_reducible first | assumption | apply runCmd_held | apply readEff_held | apply done_held | dsimp only)

theorem execSelftestAbort_held (r : Req) (s : State) (hs : Held qs s) : ∃ out, execSelftestAbort r s = .next out ∧ Held qs out := by
  refine ⟨_, rfl, ?_⟩
  repeat' (first | intro _ | with_reducible first | assumption | apply runCmd_held | apply okEff_held | apply done_held | apply State.stopTests_held | dsimp only)

/-! ### Period -/

theorem State.instantBegins_held (s : State) (k : Nat) (hs : Held qs s) : Held qs (State.instantBegins s k) := by
  unfold State.instantBegins
  repeat' (first | intro _ | with_reducible first | assumption | apply State.setRing_held | apply State.clearRow_held | apply State.loseLate_held | apply held_ite | apply held_foldl | (fail_if_no_progress (with_reducible apply held_mk; with_reducible apply held_fold)) | split | extract_lets | dsimp only | dsimp +zetaDelta only)

theorem execSampleInstant_held (at_ : Nat) (s : State) (hs : Held qs s) : ∃ out, execSampleInstant at_ s = .next out ∧ Held qs out := by
  refine ⟨_, rfl, ?_⟩
  repeat' (first | intro _ | with_reducible first | assumption | apply State.at_held | apply done_held | apply State.stepForward_held | apply State.dueChannel_held | apply State.instantBegins_held | apply held_ite | apply held_foldl | (with_reducible apply held_pair (by with_reducible assumption)) | (with_reducible apply held_pair2 (by with_reducible assumption)) | (fail_if_no_progress (with_reducible apply held_mk; with_reducible apply held_fold)) | split | extract_lets | dsimp only | dsimp +zetaDelta only)

theorem execRateChangeEffect_held (at_ : Nat) (s : State) (hs : Held qs s) : ∃ out, execRateChangeEffect at_ s = .next out ∧ Held qs out := by
  refine ⟨_, rfl, ?_⟩
  repeat' (first | intro _ | with_reducible first | assumption | apply State.at_held | apply done_held | apply State.ringRateEffect_held | apply State.spgRateEffect_held | apply held_ite | (fail_if_no_progress (with_reducible apply held_mk; with_reducible apply held_fold)) | split | extract_lets | dsimp only | dsimp +zetaDelta only)

theorem State.clearExpired_held (s : State) (hs : Held qs s) : Held qs (State.clearExpired s) := by
  unfold State.clearExpired
  repeat' (first | intro _ | with_reducible first | assumption | apply State.putBit_held | apply held_ite | apply held_foldl | split | dsimp only)

theorem State.expiryAdvance_held (s : State) (c : Nat) (hs : Held qs s) : Held qs (State.expiryAdvance s c) := by
  unfold State.expiryAdvance
  repeat' (first | intro _ | with_reducible first | assumption | apply State.bump_held | apply State.raise_held | apply State.putBit_held | apply held_ite | apply held_foldl | split | extract_lets | dsimp only | dsimp +zetaDelta only)

theorem State.passInstant_held (s : State) (k : Nat) (hs : Held qs s) : Held qs (State.passInstant s k) := by
  unfold State.passInstant
  repeat' (first | intro _ | with_reducible first | assumption | apply State.readRow_held | apply State.spgPass_held | apply State.wweSample_held | apply State.estInstant_held)

theorem State.passAndClose_held (s : State) (k : Nat) (hs : Held qs s) : Held qs (State.passAndClose s k) := by
  unfold State.passAndClose
  repeat' (first | intro _ | with_reducible first | assumption | apply State.closeBlocks_held | apply State.passInstant_held | (fail_if_no_progress (with_reducible apply held_mk; with_reducible apply held_fold)) | extract_lets | dsimp only | dsimp +zetaDelta only)

theorem State.advance_held (s : State) (c : Nat) (hs : Held qs s) : Held qs (State.advance s c) := by
  unfold State.advance
  repeat' (first | intro _ | with_reducible first | assumption | apply State.expiryAdvance_held | apply State.passAndClose_held | apply held_foldl | (fail_if_no_progress (with_reducible apply held_mk; with_reducible apply held_fold)) | extract_lets | dsimp only | dsimp +zetaDelta only)

theorem State.watermark_held (s : State) (hs : Held qs s) : Held qs (State.watermark s) := by
  unfold State.watermark
  repeat' (first | intro _ | with_reducible first | assumption | apply State.foldQueue_held | apply State.raisePilot_held | apply State.closeBlocks_held | apply State.ledgerNext_held | apply State.clearExpired_held | apply State.advance_held | apply held_ite | split | extract_lets | dsimp only | dsimp +zetaDelta only)

theorem execWatermarkEval_held (at_ : Nat) (s : State) (hs : Held qs s) : ∃ out, execWatermarkEval at_ s = .next out ∧ Held qs out := by
  refine ⟨_, rfl, ?_⟩
  repeat' (first | intro _ | with_reducible first | assumption | apply State.at_held | apply done_held | apply State.watermark_held | apply held_ite | apply held_foldl | (with_reducible apply held_pair (by with_reducible assumption)) | (with_reducible apply held_pair2 (by with_reducible assumption)) | (fail_if_no_progress (with_reducible apply held_mk; with_reducible apply held_fold)) | split | extract_lets | dsimp only | dsimp +zetaDelta only)

theorem State.sendDecision_held (s : State) (hs : Held qs s) : Held qs (State.sendDecision s) := by
  unfold State.sendDecision
  repeat' (first | intro _ | with_reducible first | assumption | apply State.setBleed_held | apply held_ite | apply held_foldl | (with_reducible apply held_pair (by with_reducible assumption)) | (with_reducible apply held_pair2 (by with_reducible assumption)) | split | extract_lets | dsimp only | dsimp +zetaDelta only)

theorem State.boundary_held (s : State) (p : Nat) (hs : Held qs s) : Held qs (State.boundary s p) := by
  unfold State.boundary
  repeat' (first | intro _ | with_reducible first | assumption | apply State.pushSnap_held | apply State.presences_held | apply State.meridianPeriod_held | apply State.estPeriod_held | apply State.arbitrate_held | apply State.modeBoundary_held | apply State.presenceCheck_held | apply State.dueResets_held | apply State.sendDecision_held | apply held_ite | (fail_if_no_progress (with_reducible apply held_mk; with_reducible apply held_fold)) | split | extract_lets | dsimp only | dsimp +zetaDelta only)

theorem execLimitPeriodBoundary_held (at_ : Nat) (s : State) (hs : Held qs s) : ∃ out, execLimitPeriodBoundary at_ s = .next out ∧ Held qs out := by
  refine ⟨_, rfl, ?_⟩
  repeat' (first | intro _ | with_reducible first | assumption | apply State.at_held | apply done_held | apply State.arbitrate_held | apply State.boundary_held | apply held_ite | apply held_foldl | (with_reducible apply held_pair (by with_reducible assumption)) | (with_reducible apply held_pair2 (by with_reducible assumption)) | (fail_if_no_progress (with_reducible apply held_mk; with_reducible apply held_fold)) | split | extract_lets | dsimp only | dsimp +zetaDelta only)

/-! ### Views -/

theorem State.readMemory_held (s : State) (a : Nat) (hs : Held qs s) : Held qs (State.readMemory s a).1 := by
  unfold State.readMemory
  repeat' (first | intro _ | with_reducible first | assumption | apply State.checkRead_held | apply State.dropSlot_held | apply State.dropPack_held | apply State.romMismatch_held | apply held_ite | (with_reducible apply held_pair (by with_reducible assumption)) | (with_reducible apply held_pair2 (by with_reducible assumption)) | split | extract_lets | dsimp only | dsimp +zetaDelta only)

theorem State.readWord_held (s : State) (a : Nat) (hs : Held qs s) : Held qs (State.readWord s a).1 := by
  unfold State.readWord
  repeat' (first | intro _ | with_reducible first | assumption | apply State.serve_held | apply State.flashTouched_held | apply State.readMemory_held | apply held_ite | (with_reducible apply held_pair (by with_reducible assumption)) | (with_reducible apply held_pair2 (by with_reducible assumption)) | (with_reducible apply held_mk; with_reducible apply held_latched) | (fail_if_no_progress (with_reducible apply held_mk; with_reducible apply held_fold)) | split | extract_lets | dsimp only | dsimp +zetaDelta only)

theorem State.spineRead_held (s : State) (acc : Acc) (noise : Nat) (hs : Held qs s) : Held qs (State.spineRead s acc noise).1 := by
  unfold State.spineRead
  repeat' (first | intro _ | with_reducible first | assumption | apply State.notice_held | apply State.busFault_held | apply State.readWord_held | apply held_ite | (with_reducible apply held_pair (by with_reducible assumption)) | (with_reducible apply held_pair2 (by with_reducible assumption)) | (fail_if_no_progress (with_reducible apply held_mk; with_reducible apply held_fold)) | split | extract_lets | dsimp only | dsimp +zetaDelta only)

/-! ### RegWrite -/

theorem after_held (o : Out) (s : State) (hs : Held qs s) (ho : ∃ out, o = .next out ∧ Held qs out) : Held qs (after o s) := by
  obtain ⟨t, rfl, h⟩ := ho; exact h

theorem ranged_held (ok : Nat → Bool) (a : Nat) (v : Nat) (t : State) (ht : Held qs t) : Held qs (ranged ok a v t) := by
  unfold ranged
  repeat' (first | intro _ | with_reducible first | assumption | apply State.writeWord_held | apply held_ite | split)

theorem cprWrite_held (s : State) (w : Wr) (off : Nat) (hs : Held qs s) : Held qs (cprWrite s w off) := by
  unfold cprWrite
  repeat' (first | intro _ | with_reducible first | assumption | apply State.writeWord_held | apply State.drawn_held | apply guarded_held | apply execDomainControlWrite_held | apply execCprResetWrite_held | apply after_held | apply ranged_held | apply held_ite | split | extract_lets | dsimp only | dsimp +zetaDelta only)

theorem fltWrite_held (s : State) (w : Wr) (off : Nat) (hs : Held qs s) : Held qs (fltWrite s w off) := by
  unfold fltWrite
  repeat' (first | intro _ | with_reducible first | assumption | apply State.fput_held | apply State.writeWord_held | apply guarded_held | apply execFaultAck_held | apply execFaultDeclare_held | apply after_held | apply held_ite | split | extract_lets | dsimp only | dsimp +zetaDelta only)

theorem tgRefuse_held (t : State) (ht : Held qs t) : Held qs (tgRefuse t) := by
  unfold tgRefuse
  repeat' (first | intro _ | with_reducible first | assumption | apply State.bump_held)

theorem tgControl_held (t : State) (w : Wr) (ht : Held qs t) : Held qs (tgControl t w) := by
  unfold tgControl
  repeat' (first | intro _ | with_reducible first | assumption | apply State.raise_held | apply State.setRegN_held | apply tgRefuse_held | apply held_ite | apply held_foldl | split | extract_lets | dsimp only | dsimp +zetaDelta only)

theorem tgIrqEn_held (t : State) (w : Wr) (ht : Held qs t) : Held qs (tgIrqEn t w) := by
  unfold tgIrqEn
  repeat' (first | intro _ | with_reducible first | assumption | apply State.putBit_held | apply tgRefuse_held | apply held_ite | split | extract_lets | dsimp only | dsimp +zetaDelta only)

theorem tgWrite_held (s : State) (w : Wr) (off : Nat) (hs : Held qs s) : Held qs (tgWrite s w off) := by
  unfold tgWrite
  repeat' (first | intro _ | with_reducible first | assumption | apply State.setRegN_held | apply guarded_held | apply execViolationPop_held | apply execWindowCommit_held | apply after_held | apply tgRefuse_held | apply tgControl_held | apply tgIrqEn_held | apply held_ite | (fail_if_no_progress (with_reducible apply held_mk; with_reducible apply held_fold)) | split | extract_lets | dsimp only | dsimp +zetaDelta only)

theorem almWrite_held (s : State) (w : Wr) (off : Nat) (hs : Held qs s) : Held qs (almWrite s w off) := by
  unfold almWrite
  repeat' (first | intro _ | with_reducible first | assumption | apply State.writeWord_held | apply guarded_held | apply execLqAck_held | apply after_held | apply ranged_held | apply held_ite | (fail_if_no_progress (with_reducible apply held_mk; with_reducible apply held_fold)) | split | extract_lets | dsimp only | dsimp +zetaDelta only)

theorem limWrite_held (s : State) (w : Wr) (off : Nat) (hs : Held qs s) : Held qs (limWrite s w off) := by
  unfold limWrite
  repeat' (first | intro _ | with_reducible first | assumption | apply State.writeWord_held | apply guarded_held | apply execLimitBaseWrite_held | apply execLimitCapWrite_held | apply after_held | apply held_ite | split | extract_lets | dsimp only | dsimp +zetaDelta only)

theorem shtWrite_held (s : State) (w : Wr) (off : Nat) (hs : Held qs s) : Held qs (shtWrite s w off) := by
  unfold shtWrite
  repeat' (first | intro _ | with_reducible first | assumption | apply State.writeWord_held | apply guarded_held | apply State.shtRefused_held | apply execContactorRegisterRequest_held | apply execDerateBitWrite_held | apply execLimpRegisterWrite_held | apply State.setHazard_held | apply execBleedRegisterWrite_held | apply after_held | apply ranged_held | apply held_ite | split | extract_lets | dsimp only | dsimp +zetaDelta only)

theorem transitWrite_held (s : State) (w : Wr) (off : Nat) (hs : Held qs s) : Held qs (transitWrite s w off) := by
  unfold transitWrite
  repeat' (first | intro _ | with_reducible first | assumption | apply State.writeWord_held | apply guarded_held | apply execRingEnableWrite_held | apply execMailboxGo_held | apply execRateRegisterWrite_held | apply after_held | apply held_ite | split | extract_lets | dsimp only | dsimp +zetaDelta only)

theorem spgWrite_held (s : State) (w : Wr) (off : Nat) (hs : Held qs s) : Held qs (spgWrite s w off) := by
  unfold spgWrite
  repeat' (first | intro _ | with_reducible first | assumption | apply guarded_held | apply execSpgEnableWrite_held | apply after_held | apply ranged_held | apply held_ite | split | extract_lets | dsimp only | dsimp +zetaDelta only)

theorem wweWindow_held (t : State) (i : Nat) (v : Nat) (ht : Held qs t) : Held qs (wweWindow t i v) := by
  unfold wweWindow
  repeat' (first | intro _ | with_reducible first | assumption | apply State.bumpBy_held | apply held_ite | apply held_foldl | (with_reducible apply held_pair (by with_reducible assumption)) | (with_reducible apply held_pair2 (by with_reducible assumption)) | (fail_if_no_progress (with_reducible apply held_mk; with_reducible apply held_fold)) | split | extract_lets | dsimp only | dsimp +zetaDelta only)

theorem meterWrite_held (s : State) (w : Wr) (off : Nat) (hs : Held qs s) : Held qs (meterWrite s w off) := by
  unfold meterWrite
  repeat' (first | intro _ | with_reducible first | assumption | apply State.writeWord_held | apply guarded_held | apply execMeterEnable_held | apply execCalibrationWrite_held | apply after_held | apply ranged_held | apply wweWindow_held | apply held_ite | (fail_if_no_progress (with_reducible apply held_mk; with_reducible apply held_fold)) | split | extract_lets | dsimp only | dsimp +zetaDelta only)

theorem ledgerWrite'_held (s : State) (w : Wr) (off : Nat) (hs : Held qs s) : Held qs (ledgerWrite' s w off) := by
  unfold ledgerWrite'
  repeat' (first | intro _ | with_reducible first | assumption | apply State.writeWord_held | apply guarded_held | apply execLedgerEnable_held | apply after_held | apply held_ite | split | dsimp only)

theorem vatWrite_held (s : State) (w : Wr) (off : Nat) (hs : Held qs s) : Held qs (vatWrite s w off) := by
  unfold vatWrite
  repeat' (first | intro _ | with_reducible first | assumption | apply State.writeWord_held | apply guarded_held | apply State.dtCommand_held | apply State.vatControl_held | apply State.setVatPc_held | apply State.ackTrap_held | apply ranged_held | apply held_ite | (fail_if_no_progress (with_reducible apply held_mk; with_reducible apply held_fold)) | split | extract_lets | dsimp only | dsimp +zetaDelta only)

theorem laneWrite_held (s : State) (w : Wr) (off : Nat) (hs : Held qs s) : Held qs (laneWrite s w off) := by
  unfold laneWrite
  repeat' (first | intro _ | with_reducible first | assumption | apply State.writeWord_held | apply guarded_held | apply State.laneControl_held | apply State.emuControl_held | apply State.replay_held | apply State.streamConfig_held | apply State.setLanePc_held | apply ranged_held | apply held_ite | (fail_if_no_progress (with_reducible apply held_mk; with_reducible apply held_fold)) | split | extract_lets | dsimp only | dsimp +zetaDelta only)

theorem coreWrite_held (s : State) (w : Wr) (off : Nat) (hs : Held qs s) : Held qs (coreWrite s w off) := by
  unfold coreWrite
  repeat' (first | intro _ | with_reducible first | assumption | apply State.setRegN_held | apply State.writeWord_held | apply guarded_held | apply State.coreRefuse_held | apply State.commitRegion_held | apply State.writeGate_held | apply ranged_held | apply held_ite | (fail_if_no_progress (with_reducible apply held_mk; with_reducible apply held_fold)) | split | extract_lets | dsimp only | dsimp +zetaDelta only)

theorem flashWrite_held (s : State) (w : Wr) (off : Nat) (hs : Held qs s) : Held qs (flashWrite s w off) := by
  unfold flashWrite
  repeat' (first | intro _ | with_reducible first | assumption | apply State.writeWord_held | apply guarded_held | apply State.flashGo_held | apply execBankRelease_held | apply after_held | apply held_ite | split | extract_lets | dsimp only | dsimp +zetaDelta only)

theorem keyWrite_held (s : State) (w : Wr) (off : Nat) (hs : Held qs s) : Held qs (keyWrite s w off) := by
  unfold keyWrite
  repeat' (first | intro _ | with_reducible first | assumption | apply State.fput_held | apply State.writeWord_held | apply guarded_held | apply ksStart_held | apply execKsWrite_held | apply execKsLoad_held | apply execKsImport_held | apply execKsEpoch_held | apply execKsClear_held | apply execKsGen_held | apply execKsExport_held | apply after_held | apply held_ite | (fail_if_no_progress (with_reducible apply held_mk; with_reducible apply held_fold)) | split | extract_lets | dsimp only | dsimp +zetaDelta only)

theorem cipherWrite_held (s : State) (w : Wr) (b : Nat) (off : Nat) (hs : Held qs s) : Held qs (cipherWrite s w b off) := by
  unfold cipherWrite
  repeat' (first | intro _ | with_reducible first | assumption | apply State.writeWord_held | apply guarded_held | apply execCipherClaim_held | apply execCipherOperation_held | apply after_held | apply held_ite | split | extract_lets | dsimp only | dsimp +zetaDelta only)

theorem tamperWrite_held (s : State) (w : Wr) (off : Nat) (hs : Held qs s) : Held qs (tamperWrite s w off) := by
  unfold tamperWrite
  repeat' (first | intro _ | with_reducible first | assumption | apply State.writeWord_held | apply guarded_held | apply execGradeWrite_held | apply after_held | apply ranged_held | apply held_ite | (fail_if_no_progress (with_reducible apply held_mk; with_reducible apply held_fold)) | split | extract_lets | dsimp only | dsimp +zetaDelta only)

theorem bistWrite_held (s : State) (w : Wr) (off : Nat) (hs : Held qs s) : Held qs (bistWrite s w off) := by
  unfold bistWrite
  repeat' (first | intro _ | with_reducible first | assumption | apply State.writeWord_held | apply guarded_held | apply held_ite | (fail_if_no_progress (with_reducible apply held_mk; with_reducible apply held_fold)) | split | extract_lets | dsimp only | dsimp +zetaDelta only)

theorem cmdWrite_held (s : State) (w : Wr) (off : Nat) (hs : Held qs s) : Held qs (cmdWrite s w off) := by
  unfold cmdWrite
  repeat' (first | intro _ | with_reducible first | assumption | apply State.writeWord_held | apply State.closeWorld_held | apply guarded_held | apply execReplyIssue_held | apply after_held | apply ranged_held | apply held_ite | split | extract_lets | dsimp only | dsimp +zetaDelta only)

theorem xpWrite_held (s : State) (w : Wr) (p : Nat) (off : Nat) (hs : Held qs s) : Held qs (xpWrite s w p off) := by
  unfold xpWrite
  repeat' (first | intro _ | with_reducible first | assumption | apply State.setReg_held | apply State.writeWord_held | apply State.flushTx_held | apply guarded_held | apply State.xpError_held | apply held_ite | split | extract_lets | dsimp only | dsimp +zetaDelta only)

theorem tagRegWrite_held (s : State) (w : Wr) (off : Nat) (hs : Held qs s) : Held qs (tagRegWrite s w off) := by
  unfold tagRegWrite
  repeat' (first | intro _ | with_reducible first | assumption | apply State.writeWord_held | apply guarded_held | apply State.tagWcmd_held | apply ranged_held | apply held_ite | split | extract_lets | dsimp only | dsimp +zetaDelta only)

theorem cellarWrite_held (s : State) (w : Wr) (off : Nat) (hs : Held qs s) : Held qs (cellarWrite s w off) := by
  unfold cellarWrite
  repeat' (first | intro _ | with_reducible first | assumption | apply State.writeWord_held | apply guarded_held | apply execCellarEntryQueue_held | apply execIncClose_held | apply after_held | apply held_ite | (fail_if_no_progress (with_reducible apply held_mk; with_reducible apply held_fold)) | split | extract_lets | dsimp only | dsimp +zetaDelta only)

theorem State.jobsWritten_held (s : State) (v : Nat) (hs : Held qs s) : Held qs (State.jobsWritten s v) := by
  unfold State.jobsWritten
  repeat' (first | intro _ | with_reducible first | assumption | apply State.putVat_held | apply State.fillLanes_held | (fail_if_no_progress (with_reducible apply held_mk; with_reducible apply held_fold)) | dsimp only)

theorem State.memoryStore_held (s : State) (a : Nat) (v : Nat) (hs : Held qs s) : Held qs (State.memoryStore s a v) := by
  unfold State.memoryStore
  repeat' (first | intro _ | with_reducible first | assumption | apply State.storeN_held | apply State.jobsWritten_held | apply held_ite | split)

theorem memoryWrite_held (s : State) (w : Wr) (a : Nat) (hs : Held qs s) : Held qs (memoryWrite s w a) := by
  unfold memoryWrite
  repeat' (first | intro _ | with_reducible first | assumption | apply guarded_held | apply State.memoryStore_held | apply held_ite | (fail_if_no_progress (with_reducible apply held_mk; with_reducible apply held_fold)) | split | dsimp only)

theorem regWrite_held (s : State) (w : Wr) (a : Nat) (hs : Held qs s) : Held qs (regWrite s w a) := by
  unfold regWrite
  repeat' (first | intro _ | with_reducible first | assumption | apply State.writeWord_held | apply State.at_held | apply guarded_held | apply execKeyPortWrite_held | apply State.dtWrite_held | apply after_held | apply cprWrite_held | apply fltWrite_held | apply tgWrite_held | apply almWrite_held | apply limWrite_held | apply shtWrite_held | apply transitWrite_held | apply spgWrite_held | apply meterWrite_held | apply ledgerWrite'_held | apply vatWrite_held | apply laneWrite_held | apply coreWrite_held | apply flashWrite_held | apply keyWrite_held | apply cipherWrite_held | apply tamperWrite_held | apply bistWrite_held | apply cmdWrite_held | apply xpWrite_held | apply tagRegWrite_held | apply cellarWrite_held | apply memoryWrite_held | apply held_ite | (fail_if_no_progress (with_reducible apply held_mk; with_reducible apply held_fold)) | split | extract_lets | dsimp only | dsimp +zetaDelta only)

theorem State.bankReady_held (s : State) (b : Nat) (hs : Held qs s) : Held qs (State.bankReady s b) := by
  unfold State.bankReady
  repeat' (first | intro _ | with_reducible first | assumption | apply State.putBit_held | apply State.memoryStore_held | apply held_ite | apply held_foldl | (fail_if_no_progress (with_reducible apply held_mk; with_reducible apply held_fold)) | split | extract_lets | dsimp only | dsimp +zetaDelta only)

theorem execSramBankInitialised_held (at_ : Nat) (bank : Nat) (s : State) (hs : Held qs s) : ∃ out, execSramBankInitialised at_ bank s = .next out ∧ Held qs out := by
  refine ⟨_, rfl, ?_⟩
  repeat' (first | intro _ | with_reducible first | assumption | apply State.at_held | apply done_held | apply State.bankReady_held)

theorem execRegisterWrite_held (w : Wr) (addr : Nat) (s : State) (hs : Held qs s) : ∃ out, execRegisterWrite w addr s = .next out ∧ Held qs out := by
  refine ⟨_, rfl, ?_⟩
  repeat' (first | intro _ | with_reducible first | assumption | apply done_held | apply regWrite_held)

theorem execLockSet_held (w : Wr) (addr : Nat) (s : State) (hs : Held qs s) : ∃ out, execLockSet w addr s = .next out ∧ Held qs out := by
  refine ⟨_, rfl, ?_⟩
  repeat' (first | intro _ | with_reducible first | assumption | apply State.at_held | apply done_held | apply regWrite_held | apply held_ite | apply held_foldl | (with_reducible apply held_pair (by with_reducible assumption)) | (with_reducible apply held_pair2 (by with_reducible assumption)) | (fail_if_no_progress (with_reducible apply held_mk; with_reducible apply held_fold)) | split | extract_lets | dsimp only | dsimp +zetaDelta only)

theorem execCounterClear_held (w : Wr) (addr : Nat) (s : State) (hs : Held qs s) : ∃ out, execCounterClear w addr s = .next out ∧ Held qs out := by
  refine ⟨_, rfl, ?_⟩
  repeat' (first | intro _ | with_reducible first | assumption | apply State.at_held | apply done_held | apply regWrite_held | (fail_if_no_progress (with_reducible apply held_mk; with_reducible apply held_fold)) | split)

/-! ### Wide -/

theorem State.fetch_held (s : State) (g : Eng) (pc : Nat) (noise : Nat) (hs : Held qs s) : Held qs (State.fetch s g pc noise).1 := by
  have hc := State.checkRead_held (s.flashTouched pc) pc 8 (State.flashTouched_held s pc hs)
  unfold State.fetch
  dsimp only
  generalize (s.flashTouched pc).checkRead pc 8 = p at hc
  obtain ⟨t, bad⟩ := p
  cases g with
  | lane _ => exact hs
  | vce _ =>
    dsimp only
    repeat' split
    all_goals first | exact hs | exact State.busFault_held _ _ hs | exact State.checkRead_held _ _ _ hs
  | core _ =>
    dsimp only at hc ⊢
    repeat' split
    all_goals first | exact hs | exact State.busFault_held _ _ hs | exact State.notice_held _ _ _ hs | exact State.romMismatch_held _ hc | exact hc

theorem State.busLoad_held (s : State) (g : Eng) (v : Word) (hs : Held qs s) : Held qs (State.busLoad s g v) := by
  unfold State.busLoad
  repeat' (first | intro _ | with_reducible first | assumption | apply State.putUnits_held | (fail_if_no_progress (with_reducible apply held_mk; with_reducible apply held_fold)) | extract_lets | dsimp only | dsimp +zetaDelta only)

theorem State.busStore_held (s : State) (g : Eng) (v : Word) (noise : Nat) (hs : Held qs s) : Held qs (State.busStore s g v noise) := by
  unfold State.busStore
  repeat' (first | intro _ | with_reducible first | assumption | apply State.putUnits_held | apply regWrite_held | apply held_ite | (fail_if_no_progress (with_reducible apply held_mk; with_reducible apply held_fold)) | split | extract_lets | dsimp only | dsimp +zetaDelta only)

theorem State.busComplete_held (s : State) (g : Eng) (noise : Nat) (hs : Held qs s) : Held qs (State.busComplete s g noise) := by
  unfold State.busComplete
  repeat' (first | intro _ | with_reducible first | assumption | apply State.putUnits_held | apply State.spineRead_held | apply held_ite | (with_reducible apply held_pair (by with_reducible assumption)) | (with_reducible apply held_pair2 (by with_reducible assumption)) | (fail_if_no_progress (with_reducible apply held_mk; with_reducible apply held_fold)) | split | extract_lets | dsimp only | dsimp +zetaDelta only)

theorem execBusLoadComplete_held (at_ : Nat) (load : LoadAnswer) (s : State) (hs : Held qs s) : ∃ out, execBusLoadComplete at_ load s = .next out ∧ Held qs out := by
  refine ⟨_, rfl, ?_⟩
  repeat' (first | intro _ | with_reducible first | assumption | apply State.at_held | apply done_held | apply State.busComplete_held | (fail_if_no_progress (with_reducible apply held_mk; with_reducible apply held_fold)) | split)

theorem State.lswRead_held (s : State) (v : Nat) (x : Nat) (hs : Held qs s) : Held qs (State.lswRead s v x) := by
  unfold State.lswRead
  repeat' (first | intro _ | with_reducible first | assumption | apply State.send_held | apply State.putUnits_held | (fail_if_no_progress (with_reducible apply held_mk; with_reducible apply held_fold)) | split | extract_lets | dsimp only | dsimp +zetaDelta only)

theorem State.lswWrite_held (s : State) (v : Nat) (x : Nat) (hs : Held qs s) : Held qs (State.lswWrite s v x) := by
  unfold State.lswWrite
  repeat' (first | intro _ | with_reducible first | assumption | apply State.setReg_held | apply State.send_held | apply State.putLane_held | apply State.putUnits_held | apply State.laneControl_held | apply State.emuControl_held | apply held_ite | (with_reducible apply held_pair (by with_reducible assumption)) | (with_reducible apply held_pair2 (by with_reducible assumption)) | (fail_if_no_progress (with_reducible apply held_mk; with_reducible apply held_fold)) | split | extract_lets | dsimp only | dsimp +zetaDelta only)

theorem State.vcePost_held (s : State) (v : Nat) (noise : Nat) (m : Move) (hs : Held qs s) : Held qs (State.vcePost s v noise m) := by
  unfold State.vcePost
  repeat' (first | intro _ | with_reducible first | assumption | apply State.fput_held | apply State.vatReturn_held | apply State.busLoad_held | apply State.busStore_held | apply State.lswRead_held | apply State.lswWrite_held | apply held_ite | (fail_if_no_progress (with_reducible apply held_mk; with_reducible apply held_fold)) | split)

theorem State.coreWait_held (s : State) (p : Nat) (hs : Held qs s) : Held qs (State.coreWait s p) := by
  unfold State.coreWait
  repeat' (first | intro _ | with_reducible first | assumption | apply State.putThread_held | (fail_if_no_progress (with_reducible apply held_mk; with_reducible apply held_fold)) | extract_lets | dsimp only | dsimp +zetaDelta only)

theorem State.corePost_held (s : State) (p : Nat) (noise : Nat) (m : Move) (hs : Held qs s) : Held qs (State.corePost s p noise m) := by
  unfold State.corePost
  repeat' (first | intro _ | with_reducible first | assumption | apply State.putIe_held | apply State.excReturn_held | apply State.setTop_held | apply State.gateCall_held | apply State.gateReturn_held | apply State.openHold_held | apply State.closeHold_held | apply State.busLoad_held | apply State.busStore_held | apply State.coreWait_held | apply held_ite | (fail_if_no_progress (with_reducible apply held_mk; with_reducible apply held_fold)) | split | dsimp only)

theorem issueMicro_held (s : State) (v : Nat) (word : Nat) (noise : Nat) (hs : Held qs s) : Held qs (issueMicro s v word noise).s := by
  unfold issueMicro
  repeat' (first | intro _ | with_reducible first | assumption | apply State.putUnits_held | apply issueWord_held | apply State.vcePost_held | apply held_ite | apply held_foldl | (fail_if_no_progress (with_reducible apply held_mk; with_reducible apply held_fold)) | split | extract_lets | dsimp only | dsimp +zetaDelta only)

theorem State.expand_held (s : State) (v pc noise : Nat) (ws : List Nat) (j : Nat) (hs : Held qs s) : Held qs (State.expand s v pc noise ws j) := by
  induction ws generalizing s j with
  | nil => exact hs
  | cons w t ih =>
    unfold State.expand
    have hi := issueMicro_held s v w noise hs
    dsimp only
    split
    · exact State.vceTrap_held _ _ _ _ _ hi
    · exact ih _ _ hi

theorem State.vceIssue_held (s : State) (v : Nat) (word : Nat) (noise : Nat) (hs : Held qs s) : Held qs (State.vceIssue s v word noise) := by
  unfold State.vceIssue
  repeat' (first | intro _ | with_reducible first | assumption | apply State.putVat_held | apply issueWord_held | apply State.vceTrap_held | apply State.vcePost_held | apply State.expand_held | apply held_ite | apply held_foldl | (with_reducible apply held_pair (by with_reducible assumption)) | (with_reducible apply held_pair2 (by with_reducible assumption)) | (fail_if_no_progress (with_reducible apply held_mk; with_reducible apply held_fold)) | split | extract_lets | dsimp only | dsimp +zetaDelta only)

theorem State.coreIssue_held (s : State) (p : Nat) (word : Nat) (noise : Nat) (hs : Held qs s) : Held qs (State.coreIssue s p word noise) := by
  unfold State.coreIssue
  repeat' (first | intro _ | with_reducible first | assumption | apply issueWord_held | apply State.coreTrap_held | apply State.corePost_held | apply held_foldl | (fail_if_no_progress (with_reducible apply held_mk; with_reducible apply held_fold)) | split | extract_lets | dsimp only | dsimp +zetaDelta only)

theorem State.wideIssue_held (s : State) (g : Eng) (word : Nat) (noise : Nat) (hs : Held qs s) : Held qs (State.wideIssue s g word noise) := by
  unfold State.wideIssue
  repeat' (first | intro _ | with_reducible first | assumption | apply State.vceTrap_held | apply State.coreTrap_held | apply State.fetch_held | apply State.vceIssue_held | apply State.coreIssue_held | apply held_ite | (with_reducible apply held_pair (by with_reducible assumption)) | (with_reducible apply held_pair2 (by with_reducible assumption)) | (fail_if_no_progress (with_reducible apply held_mk; with_reducible apply held_fold)) | split | extract_lets | dsimp only | dsimp +zetaDelta only)

theorem State.issue_held (s : State) (m : Mv) (word : Nat) (hs : Held qs s) : Held qs (State.issue s m word) := by
  unfold State.issue
  repeat' (first | intro _ | with_reducible first | assumption | apply State.at_held | apply onLane_held | apply State.wideIssue_held | apply held_ite | (fail_if_no_progress (with_reducible apply held_mk; with_reducible apply held_fold)) | split | extract_lets | dsimp only | dsimp +zetaDelta only)

theorem issueTo_held (s : State) (m : Mv) (dst : Nat) (hs : Held qs s) : Held qs (issueTo s m dst) := by
  unfold issueTo
  repeat' (first | intro _ | with_reducible first | assumption | apply State.at_held | apply State.issue_held | apply held_ite | split)

theorem issueKind_held (s : State) (m : Mv) (kind : Eng → Bool) (dst : Nat) (hs : Held qs s) : Held qs (issueKind s m kind dst) := by
  unfold issueKind
  repeat' (first | intro _ | with_reducible first | assumption | apply State.at_held | apply issueTo_held | apply held_ite | split)

theorem issueSys_held (s : State) (m : Mv) (v : Nat) (hs : Held qs s) : Held qs (issueSys s m v) := by
  unfold issueSys
  repeat' (first | intro _ | with_reducible first | assumption | apply State.issue_held)

theorem execAluAdd_held (m : Mv) (s : State) (hs : Held qs s) : ∃ out, execAluAdd m s = .next out ∧ Held qs out := by
  refine ⟨_, rfl, ?_⟩
  repeat' (first | intro _ | with_reducible first | assumption | apply done_held | apply issueTo_held)

theorem execAluSub_held (m : Mv) (s : State) (hs : Held qs s) : ∃ out, execAluSub m s = .next out ∧ Held qs out := by
  refine ⟨_, rfl, ?_⟩
  repeat' (first | intro _ | with_reducible first | assumption | apply done_held | apply issueTo_held)

theorem execAluAnd_held (m : Mv) (s : State) (hs : Held qs s) : ∃ out, execAluAnd m s = .next out ∧ Held qs out := by
  refine ⟨_, rfl, ?_⟩
  repeat' (first | intro _ | with_reducible first | assumption | apply done_held | apply issueTo_held)

theorem execAluOr_held (m : Mv) (s : State) (hs : Held qs s) : ∃ out, execAluOr m s = .next out ∧ Held qs out := by
  refine ⟨_, rfl, ?_⟩
  repeat' (first | intro _ | with_reducible first | assumption | apply done_held | apply issueTo_held)

theorem execAluXor_held (m : Mv) (s : State) (hs : Held qs s) : ∃ out, execAluXor m s = .next out ∧ Held qs out := by
  refine ⟨_, rfl, ?_⟩
  repeat' (first | intro _ | with_reducible first | assumption | apply done_held | apply issueTo_held)

theorem execShfSll_held (m : Mv) (s : State) (hs : Held qs s) : ∃ out, execShfSll m s = .next out ∧ Held qs out := by
  refine ⟨_, rfl, ?_⟩
  repeat' (first | intro _ | with_reducible first | assumption | apply done_held | apply issueTo_held)

theorem execShfSrl_held (m : Mv) (s : State) (hs : Held qs s) : ∃ out, execShfSrl m s = .next out ∧ Held qs out := by
  refine ⟨_, rfl, ?_⟩
  repeat' (first | intro _ | with_reducible first | assumption | apply done_held | apply issueTo_held)

theorem execShfSra_held (m : Mv) (s : State) (hs : Held qs s) : ∃ out, execShfSra m s = .next out ∧ Held qs out := by
  refine ⟨_, rfl, ?_⟩
  repeat' (first | intro _ | with_reducible first | assumption | apply done_held | apply issueTo_held)

theorem execMacMul_held (m : Mv) (s : State) (hs : Held qs s) : ∃ out, execMacMul m s = .next out ∧ Held qs out := by
  refine ⟨_, rfl, ?_⟩
  repeat' (first | intro _ | with_reducible first | assumption | apply done_held | apply issueTo_held)

theorem execMacAcc_held (m : Mv) (s : State) (hs : Held qs s) : ∃ out, execMacAcc m s = .next out ∧ Held qs out := by
  refine ⟨_, rfl, ?_⟩
  repeat' (first | intro _ | with_reducible first | assumption | apply done_held | apply issueTo_held)

theorem execMacCmul_held (m : Mv) (s : State) (hs : Held qs s) : ∃ out, execMacCmul m s = .next out ∧ Held qs out := by
  refine ⟨_, rfl, ?_⟩
  repeat' (first | intro _ | with_reducible first | assumption | apply done_held | apply issueTo_held)

theorem execMacCacc_held (m : Mv) (s : State) (hs : Held qs s) : ∃ out, execMacCacc m s = .next out ∧ Held qs out := by
  refine ⟨_, rfl, ?_⟩
  repeat' (first | intro _ | with_reducible first | assumption | apply done_held | apply issueTo_held)

theorem execLsuLdw_held (m : Mv) (s : State) (hs : Held qs s) : ∃ out, execLsuLdw m s = .next out ∧ Held qs out := by
  refine ⟨_, rfl, ?_⟩
  repeat' (first | intro _ | with_reducible first | assumption | apply done_held | apply issueTo_held)

theorem execLsuLdp_held (m : Mv) (s : State) (hs : Held qs s) : ∃ out, execLsuLdp m s = .next out ∧ Held qs out := by
  refine ⟨_, rfl, ?_⟩
  repeat' (first | intro _ | with_reducible first | assumption | apply done_held | apply issueTo_held)

theorem execLsuStw_held (m : Mv) (s : State) (hs : Held qs s) : ∃ out, execLsuStw m s = .next out ∧ Held qs out := by
  refine ⟨_, rfl, ?_⟩
  repeat' (first | intro _ | with_reducible first | assumption | apply done_held | apply issueTo_held)

theorem execCmpEq_held (m : Mv) (s : State) (hs : Held qs s) : ∃ out, execCmpEq m s = .next out ∧ Held qs out := by
  refine ⟨_, rfl, ?_⟩
  repeat' (first | intro _ | with_reducible first | assumption | apply done_held | apply issueTo_held)

theorem execCmpNe_held (m : Mv) (s : State) (hs : Held qs s) : ∃ out, execCmpNe m s = .next out ∧ Held qs out := by
  refine ⟨_, rfl, ?_⟩
  repeat' (first | intro _ | with_reducible first | assumption | apply done_held | apply issueTo_held)

theorem execCmpLt_held (m : Mv) (s : State) (hs : Held qs s) : ∃ out, execCmpLt m s = .next out ∧ Held qs out := by
  refine ⟨_, rfl, ?_⟩
  repeat' (first | intro _ | with_reducible first | assumption | apply done_held | apply issueTo_held)

theorem execCmpGe_held (m : Mv) (s : State) (hs : Held qs s) : ∃ out, execCmpGe m s = .next out ∧ Held qs out := by
  refine ⟨_, rfl, ?_⟩
  repeat' (first | intro _ | with_reducible first | assumption | apply done_held | apply issueTo_held)

theorem execCmpLtu_held (m : Mv) (s : State) (hs : Held qs s) : ∃ out, execCmpLtu m s = .next out ∧ Held qs out := by
  refine ⟨_, rfl, ?_⟩
  repeat' (first | intro _ | with_reducible first | assumption | apply done_held | apply issueTo_held)

theorem execStrGet_held (m : Mv) (s : State) (hs : Held qs s) : ∃ out, execStrGet m s = .next out ∧ Held qs out := by
  refine ⟨_, rfl, ?_⟩
  repeat' (first | intro _ | with_reducible first | assumption | apply done_held | apply issueTo_held)

theorem execBr_held (m : Mv) (s : State) (hs : Held qs s) : ∃ out, execBr m s = .next out ∧ Held qs out := by
  refine ⟨_, rfl, ?_⟩
  repeat' (first | intro _ | with_reducible first | assumption | apply done_held | apply issueTo_held)

theorem execLimm_held (m : Mv) (s : State) (hs : Held qs s) : ∃ out, execLimm m s = .next out ∧ Held qs out := by
  refine ⟨_, rfl, ?_⟩
  repeat' (first | intro _ | with_reducible first | assumption | apply done_held | apply issueTo_held)

theorem execSysHalt_held (m : Mv) (s : State) (hs : Held qs s) : ∃ out, execSysHalt m s = .next out ∧ Held qs out := by
  refine ⟨_, rfl, ?_⟩
  repeat' (first | intro _ | with_reducible first | assumption | apply done_held | apply issueSys_held)

theorem execSysYield_held (m : Mv) (s : State) (hs : Held qs s) : ∃ out, execSysYield m s = .next out ∧ Held qs out := by
  refine ⟨_, rfl, ?_⟩
  repeat' (first | intro _ | with_reducible first | assumption | apply done_held | apply issueSys_held)

theorem execSysMark_held (m : Mv) (s : State) (hs : Held qs s) : ∃ out, execSysMark m s = .next out ∧ Held qs out := by
  refine ⟨_, rfl, ?_⟩
  repeat' (first | intro _ | with_reducible first | assumption | apply done_held | apply issueSys_held)

theorem execSwtrap_held (m : Mv) (code : Nat) (s : State) (hs : Held qs s) : ∃ out, execSwtrap m code s = .next out ∧ Held qs out := by
  refine ⟨_, rfl, ?_⟩
  repeat' (first | intro _ | with_reducible first | assumption | apply done_held | apply issueSys_held)

theorem execSysReturn_held (m : Mv) (s : State) (hs : Held qs s) : ∃ out, execSysReturn m s = .next out ∧ Held qs out := by
  refine ⟨_, rfl, ?_⟩
  repeat' (first | intro _ | with_reducible first | assumption | apply done_held | apply issueSys_held)

theorem execCompositeMove_held (m : Mv) (entry : Nat) (s : State) (hs : Held qs s) : ∃ out, execCompositeMove m entry s = .next out ∧ Held qs out := by
  refine ⟨_, rfl, ?_⟩
  repeat' (first | intro _ | with_reducible first | assumption | apply done_held | apply issueKind_held)

theorem execLswRd_held (m : Mv) (s : State) (hs : Held qs s) : ∃ out, execLswRd m s = .next out ∧ Held qs out := by
  refine ⟨_, rfl, ?_⟩
  repeat' (first | intro _ | with_reducible first | assumption | apply done_held | apply issueKind_held)

theorem execLswWr_held (m : Mv) (s : State) (hs : Held qs s) : ∃ out, execLswWr m s = .next out ∧ Held qs out := by
  refine ⟨_, rfl, ?_⟩
  repeat' (first | intro _ | with_reducible first | assumption | apply done_held | apply issueKind_held)

theorem execBusLd_held (m : Mv) (s : State) (hs : Held qs s) : ∃ out, execBusLd m s = .next out ∧ Held qs out := by
  refine ⟨_, rfl, ?_⟩
  repeat' (first | intro _ | with_reducible first | assumption | apply done_held | apply issueTo_held)

theorem execBusSt_held (m : Mv) (s : State) (hs : Held qs s) : ∃ out, execBusSt m s = .next out ∧ Held qs out := by
  refine ⟨_, rfl, ?_⟩
  repeat' (first | intro _ | with_reducible first | assumption | apply done_held | apply issueTo_held)

theorem execGateCall_held (m : Mv) (s : State) (hs : Held qs s) : ∃ out, execGateCall m s = .next out ∧ Held qs out := by
  refine ⟨_, rfl, ?_⟩
  repeat' (first | intro _ | with_reducible first | assumption | apply done_held | apply issueKind_held)

theorem execGateRet_held (m : Mv) (s : State) (hs : Held qs s) : ∃ out, execGateRet m s = .next out ∧ Held qs out := by
  refine ⟨_, rfl, ?_⟩
  repeat' (first | intro _ | with_reducible first | assumption | apply done_held | apply issueKind_held)

theorem execExcRet_held (m : Mv) (s : State) (hs : Held qs s) : ∃ out, execExcRet m s = .next out ∧ Held qs out := by
  refine ⟨_, rfl, ?_⟩
  repeat' (first | intro _ | with_reducible first | assumption | apply done_held | apply issueKind_held)

theorem execExcSetpc_held (m : Mv) (s : State) (hs : Held qs s) : ∃ out, execExcSetpc m s = .next out ∧ Held qs out := by
  refine ⟨_, rfl, ?_⟩
  repeat' (first | intro _ | with_reducible first | assumption | apply done_held | apply issueKind_held)

theorem execExcSetsp_held (m : Mv) (s : State) (hs : Held qs s) : ∃ out, execExcSetsp m s = .next out ∧ Held qs out := by
  refine ⟨_, rfl, ?_⟩
  repeat' (first | intro _ | with_reducible first | assumption | apply done_held | apply issueKind_held)

theorem execHold_held (m : Mv) (s : State) (hs : Held qs s) : ∃ out, execHold m s = .next out ∧ Held qs out := by
  refine ⟨_, rfl, ?_⟩
  repeat' (first | intro _ | with_reducible first | assumption | apply done_held | apply issueKind_held)

theorem execHoldEnd_held (m : Mv) (s : State) (hs : Held qs s) : ∃ out, execHoldEnd m s = .next out ∧ Held qs out := by
  refine ⟨_, rfl, ?_⟩
  repeat' (first | intro _ | with_reducible first | assumption | apply done_held | apply issueKind_held)

theorem execOperandMove_held (m : Mv) (dst : Nat) (s : State) (hs : Held qs s) : ∃ out, execOperandMove m dst s = .next out ∧ Held qs out := by
  refine ⟨_, rfl, ?_⟩
  repeat' (first | intro _ | with_reducible first | assumption | apply done_held | apply issueTo_held)

/-! ### Device -/

theorem execDeviceIdentify_held (r : Req) (s : State) (hs : Held qs s) : ∃ out, execDeviceIdentify r s = .next out ∧ Held qs out := by
  refine ⟨_, rfl, ?_⟩
  repeat' (first | intro _ | with_reducible first | assumption | apply runCmd_held | apply readEff_held | apply done_held | dsimp only)

theorem execDeviceReadStatus_held (r : Req) (s : State) (hs : Held qs s) : ∃ out, execDeviceReadStatus r s = .next out ∧ Held qs out := by
  refine ⟨_, rfl, ?_⟩
  repeat' (first | intro _ | with_reducible first | assumption | apply runCmd_held | apply readEff_held | apply done_held | dsimp only)

theorem State.readWords_held (s : State) (world : Nat) (a : Nat) (zz : Nat) (hs : Held qs s) : Held qs (State.readWords s world a zz).1 := by
  induction zz generalizing s world a with
  | zero =>
    unfold State.readWords
    repeat' (first | intro _ | with_reducible first | assumption | apply State.spineRead_held | (with_reducible apply held_pair (by with_reducible assumption)) | (with_reducible apply held_pair2 (by with_reducible assumption)) | split | extract_lets | dsimp only | dsimp +zetaDelta only)
  | succ zn ih =>
    unfold State.readWords
    repeat' (first | intro _ | with_reducible first | assumption | apply ih | apply State.spineRead_held | (with_reducible apply held_pair (by with_reducible assumption)) | (with_reducible apply held_pair2 (by with_reducible assumption)) | split | extract_lets | dsimp only | dsimp +zetaDelta only)

theorem execDeviceReadReg_held (r : Req) (addr : Nat) (count : Nat) (s : State) (hs : Held qs s) : ∃ out, execDeviceReadReg r addr count s = .next out ∧ Held qs out := by
  refine ⟨_, rfl, ?_⟩
  repeat' (first | intro _ | with_reducible first | assumption | apply runCmd_held | apply done_held | apply State.readWords_held | (with_reducible apply held_pair (by with_reducible assumption)) | (with_reducible apply held_pair2 (by with_reducible assumption)) | split | extract_lets | dsimp only | dsimp +zetaDelta only)

end Sys2Proof.Machine
end

