-- ==== Sys2Proof/Laws/PerInstr.lean ====
section
/-!
SUPPORT. Laws/PerInstr.lean: one lemma per command. Family Stamped: the stamp of a well-formed command fits the 64 bits of R92.
-/
namespace Sys2Proof

theorem Req.wf_stamp (r : Req) (h : r.wf = true) : r.at_ < 2 ^ 64 := by
  simp only [Req.wf, Bool.and_eq_true, fits, decide_eq_true_eq] at h; exact h.1.1.1.1
theorem Wr.wf_stamp (w : Wr) (h : w.wf = true) : w.at_ < 2 ^ 64 := by
  simp only [Wr.wf, Bool.and_eq_true, fits, decide_eq_true_eq] at h; exact h.1.1.1.1.1
theorem Mv.wf_stamp (m : Mv) (h : m.wf = true) : m.at_ < 2 ^ 64 := by
  simp only [Mv.wf, Bool.and_eq_true, fits, decide_eq_true_eq] at h; exact h.1.1.1
theorem fits_stamp (n : Nat) (h : fits 64 n = true) : n < 2 ^ 64 := of_decide_eq_true h
theorem and_left_true (a b : Bool) (h : (a && b) = true) : a = true := by
  simp only [Bool.and_eq_true] at h; exact h.1

end Sys2Proof

namespace Sys2Proof.Laws.Stamped

/-- A well-formed command's stamp fits 64 bits. -/
def Statement (c : Instr) : Prop := c.wf = true → c.stamp < 2 ^ 64

theorem porRelease (count : Nat) (boot : Boot) : Statement (.porRelease count boot) := fun _ => by show (0 : Nat) < 2 ^ 64; decide
theorem brownOut (at_ : Nat) (rails : Nat) (us : Nat) : Statement (.brownOut at_ rails us) := fun h => fits_stamp _ (and_left_true _ _ (and_left_true _ _ h))
theorem mainSupplyLoss (at_ : Nat) : Statement (.mainSupplyLoss at_) := fun h => fits_stamp _ h
theorem warmReset (at_ : Nat) (cause : Nat) (boot : Boot) : Statement (.warmReset at_ cause boot) := fun h => fits_stamp _ (and_left_true _ _ (and_left_true _ _ h))
theorem rstNLow (at_ : Nat) (ns : Nat) (boot : Boot) : Statement (.rstNLow at_ ns boot) := fun h => fits_stamp _ (and_left_true _ _ (and_left_true _ _ h))
theorem pllLockLoss (at_ : Nat) (line : Bool) (relocked : Bool) (boot : Boot) : Statement (.pllLockLoss at_ line relocked boot) := fun h => fits_stamp _ (and_left_true _ _ h)
theorem startWatchdogExpiry (at_ : Nat) (boot : Boot) : Statement (.startWatchdogExpiry at_ boot) := fun h => fits_stamp _ (and_left_true _ _ h)
theorem wakeNFall (at_ : Nat) (us : Nat) (boot : Boot) : Statement (.wakeNFall at_ us boot) := fun h => fits_stamp _ (and_left_true _ _ (and_left_true _ _ h))
theorem cprResetWrite (w : Wr) (boot : Boot) : Statement (.cprResetWrite w boot) := fun h => Wr.wf_stamp _ (and_left_true _ _ h)
theorem domainControlWrite (w : Wr) (d : Nat) : Statement (.domainControlWrite w d) := fun h => Wr.wf_stamp _ (and_left_true _ _ h)
theorem deviceIdentify (r : Req) : Statement (.deviceIdentify r) := fun h => Req.wf_stamp _ h
theorem deviceReadStatus (r : Req) : Statement (.deviceReadStatus r) := fun h => Req.wf_stamp _ h
theorem deviceReadFaults (r : Req) (first : Nat) (count : Nat) : Statement (.deviceReadFaults r first count) := fun h => Req.wf_stamp _ (and_left_true _ _ (and_left_true _ _ h))
theorem deviceTrace (r : Req) (enable : Bool) (mask : Nat) : Statement (.deviceTrace r enable mask) := fun h => Req.wf_stamp _ (and_left_true _ _ h)
theorem deviceReadReg (r : Req) (addr : Nat) (count : Nat) : Statement (.deviceReadReg r addr count) := fun h => Req.wf_stamp _ (and_left_true _ _ (and_left_true _ _ h))
theorem deviceReset (r : Req) (kind : Nat) (domain : Option Nat) : Statement (.deviceReset r kind domain) := fun h => Req.wf_stamp _ (and_left_true _ _ (and_left_true _ _ h))
theorem deviceTamperRead (r : Req) : Statement (.deviceTamperRead r) := fun h => Req.wf_stamp _ h
theorem deviceTamperSetGrade (r : Req) (src : Nat) (grade : Nat) : Statement (.deviceTamperSetGrade r src grade) := fun h => Req.wf_stamp _ (and_left_true _ _ (and_left_true _ _ h))
theorem deviceTamperDisable (r : Req) (src : Nat) (tok : Option Token) (keys : PubKeys) : Statement (.deviceTamperDisable r src tok keys) := fun h => Req.wf_stamp _ (and_left_true _ _ (and_left_true _ _ (and_left_true _ _ h)))
theorem sessionOpen (r : Req) (peer : Nat) (qh : Nat) (kemEk : Nat) (nonce : Nat) : Statement (.sessionOpen r peer qh kemEk nonce) := fun h => Req.wf_stamp _ (and_left_true _ _ (and_left_true _ _ (and_left_true _ _ (and_left_true _ _ h))))
theorem sessionFinish (r : Req) (cert : Cert) (sig : Sig) : Statement (.sessionFinish r cert sig) := fun h => Req.wf_stamp _ (and_left_true _ _ (and_left_true _ _ h))
theorem sessionClose (r : Req) : Statement (.sessionClose r) := fun h => Req.wf_stamp _ h
theorem sessionRead (r : Req) : Statement (.sessionRead r) := fun h => Req.wf_stamp _ h
theorem sessionFinishTimeout (at_ : Nat) (slot : Nat) : Statement (.sessionFinishTimeout at_ slot) := fun h => fits_stamp _ (and_left_true _ _ h)
theorem sessionIdleTimeout (at_ : Nat) (slot : Nat) : Statement (.sessionIdleTimeout at_ slot) := fun h => fits_stamp _ (and_left_true _ _ h)
theorem modeSet (r : Req) (target : Nat) : Statement (.modeSet r target) := fun h => Req.wf_stamp _ (and_left_true _ _ h)
theorem modeReleaseQuarantine (r : Req) (tok : Token) (keys : PubKeys) : Statement (.modeReleaseQuarantine r tok keys) := fun h => Req.wf_stamp _ (and_left_true _ _ (and_left_true _ _ h))
theorem modeRead (r : Req) : Statement (.modeRead r) := fun h => Req.wf_stamp _ h
theorem lifecycleProvision (r : Req) (root : Nat) (assembly : Nat) (utc : Nat) : Statement (.lifecycleProvision r root assembly utc) := fun h => Req.wf_stamp _ (and_left_true _ _ (and_left_true _ _ (and_left_true _ _ h)))
theorem lifecycleCommission (r : Req) (token : Token) (keys : PubKeys) : Statement (.lifecycleCommission r token keys) := fun h => Req.wf_stamp _ (and_left_true _ _ (and_left_true _ _ h))
theorem lifecycleSecondLife (r : Req) (nonce : Nat) (keys : PubKeys) (sig : Sig) : Statement (.lifecycleSecondLife r nonce keys sig) := fun h => Req.wf_stamp _ (and_left_true _ _ (and_left_true _ _ (and_left_true _ _ h)))
theorem lifecycleRetire (r : Req) (token : Token) (keys : PubKeys) : Statement (.lifecycleRetire r token keys) := fun h => Req.wf_stamp _ (and_left_true _ _ (and_left_true _ _ h))
theorem lifecycleFieldReturn (r : Req) (vendor : Token) (owner : Token) (keys : PubKeys) : Statement (.lifecycleFieldReturn r vendor owner keys) := fun h => Req.wf_stamp _ (and_left_true _ _ (and_left_true _ _ (and_left_true _ _ h)))
theorem transitSetRate (r : Req) (rate : Nat) : Statement (.transitSetRate r rate) := fun h => Req.wf_stamp _ (and_left_true _ _ h)
theorem rateChangeEffect (at_ : Nat) : Statement (.rateChangeEffect at_) := fun h => fits_stamp _ h
theorem twiddleTableBuilt (at_ : Nat) : Statement (.twiddleTableBuilt at_) := fun h => fits_stamp _ h
theorem transitEnumerate (r : Req) (ring : Nat) : Statement (.transitEnumerate r ring) := fun h => Req.wf_stamp _ (and_left_true _ _ h)
theorem ringEnableWrite (w : Wr) (ring : Nat) : Statement (.ringEnableWrite w ring) := fun h => Wr.wf_stamp _ (and_left_true _ _ h)
theorem ringRetry (at_ : Nat) (ring : Nat) : Statement (.ringRetry at_ ring) := fun h => fits_stamp _ (and_left_true _ _ h)
theorem transitRejoin (r : Req) (ring : Nat) : Statement (.transitRejoin r ring) := fun h => Req.wf_stamp _ (and_left_true _ _ h)
theorem autoRejoin (at_ : Nat) (ring : Nat) : Statement (.autoRejoin at_ ring) := fun h => fits_stamp _ (and_left_true _ _ h)
theorem transitSetAssembly (r : Req) (rings : Nat) : Statement (.transitSetAssembly r rings) := fun h => Req.wf_stamp _ (and_left_true _ _ h)
theorem transitAcceptRoster (r : Req) (ring : Nat) : Statement (.transitAcceptRoster r ring) := fun h => Req.wf_stamp _ (and_left_true _ _ h)
theorem transitRead (r : Req) (ring : Nat) : Statement (.transitRead r ring) := fun h => Req.wf_stamp _ (and_left_true _ _ h)
theorem transitNodeRequest (r : Req) (ring : Nat) (end_ : Nat) (node : Nat) (opc : Nat) (payload : List Byte) : Statement (.transitNodeRequest r ring end_ node opc payload) := fun h => Req.wf_stamp _ (and_left_true _ _ (and_left_true _ _ (and_left_true _ _ (and_left_true _ _ (and_left_true _ _ h)))))
theorem trainDeparture (at_ : Nat) (ring : Nat) : Statement (.trainDeparture at_ ring) := fun h => fits_stamp _ (and_left_true _ _ h)
theorem sampleInstant (at_ : Nat) : Statement (.sampleInstant at_) := fun h => fits_stamp _ h
theorem trainReceived (at_ : Nat) (ring : Nat) (tail : TrainTail) (intact : Bool) : Statement (.trainReceived at_ ring tail intact) := fun h => fits_stamp _ (and_left_true _ _ (and_left_true _ _ h))
theorem frameReceived (at_ : Nat) (ring : Nat) (tstamp : Nat) (line : Line) : Statement (.frameReceived at_ ring tstamp line) := fun h => fits_stamp _ (and_left_true _ _ (and_left_true _ _ (and_left_true _ _ h)))
theorem responseFrameReceived (at_ : Nat) (ring : Nat) (rd : Bool) (rsp : List Nat) (hdr : List Nat) (data : List Nat) (crc : List Nat) : Statement (.responseFrameReceived at_ ring rd rsp hdr data crc) := fun h => fits_stamp _ (and_left_true _ _ (and_left_true _ _ (and_left_true _ _ (and_left_true _ _ (and_left_true _ _ h)))))
theorem echoReply (at_ : Nat) (ring : Nat) (endB : Bool) (line : Line) (rt : Nat) : Statement (.echoReply at_ ring endB line rt) := fun h => fits_stamp _ (and_left_true _ _ (and_left_true _ _ (and_left_true _ _ h)))
theorem echoSchedule (at_ : Nat) (ring : Nat) : Statement (.echoSchedule at_ ring) := fun h => fits_stamp _ (and_left_true _ _ h)
theorem losDeclare (at_ : Nat) (ring : Nat) (endB : Bool) : Statement (.losDeclare at_ ring endB) := fun h => fits_stamp _ (and_left_true _ _ h)
theorem losClear (at_ : Nat) (ring : Nat) (endB : Bool) : Statement (.losClear at_ ring endB) := fun h => fits_stamp _ (and_left_true _ _ h)
theorem breakSetReceived (at_ : Nat) (ring : Nat) (endB : Bool) (rd : Bool) (groups : List Nat) : Statement (.breakSetReceived at_ ring endB rd groups) := fun h => fits_stamp _ (and_left_true _ _ (and_left_true _ _ h))
theorem trainEndBTimeout (at_ : Nat) (ring : Nat) : Statement (.trainEndBTimeout at_ ring) := fun h => fits_stamp _ (and_left_true _ _ h)
theorem frameMissing (at_ : Nat) (ring : Nat) (node : Nat) (k : Nat) : Statement (.frameMissing at_ ring node k) := fun h => fits_stamp _ (and_left_true _ _ (and_left_true _ _ (and_left_true _ _ h)))
theorem mailboxGo (w : Wr) (ring : Nat) : Statement (.mailboxGo w ring) := fun h => Wr.wf_stamp _ (and_left_true _ _ h)
theorem mailboxTimeout (at_ : Nat) (ring : Nat) : Statement (.mailboxTimeout at_ ring) := fun h => fits_stamp _ (and_left_true _ _ h)
theorem rateRegisterWrite (w : Wr) : Statement (.rateRegisterWrite w) := fun h => Wr.wf_stamp _ h
theorem watermarkEval (at_ : Nat) : Statement (.watermarkEval at_) := fun h => fits_stamp _ h
theorem almanacChannelFault (at_ : Nat) (chan : Nat) : Statement (.almanacChannelFault at_ chan) := fun h => fits_stamp _ (and_left_true _ _ h)
theorem lqAck (w : Wr) : Statement (.lqAck w) := fun h => Wr.wf_stamp _ h
theorem captureSetLateness (r : Req) (ring : Nat) (bound : Nat) : Statement (.captureSetLateness r ring bound) := fun h => Req.wf_stamp _ (and_left_true _ _ (and_left_true _ _ h))
theorem captureReadEntries (r : Req) (ring : Nat) (mask : Nat) (first : Nat) (last : Nat) : Statement (.captureReadEntries r ring mask first last) := fun h => Req.wf_stamp _ (and_left_true _ _ (and_left_true _ _ (and_left_true _ _ (and_left_true _ _ h))))
theorem captureTimeMark (r : Req) (secs : Nat) (nanos : Nat) : Statement (.captureTimeMark r secs nanos) := fun h => Req.wf_stamp _ (and_left_true _ _ (and_left_true _ _ h))
theorem timeHi (at_ : Nat) (stamp : Nat) : Statement (.timeHi at_ stamp) := fun h => fits_stamp _ (and_left_true _ _ h)
theorem uplinkSync (at_ : Nat) (endB : Bool) (seen : TrainSeen) (err : Int) : Statement (.uplinkSync at_ endB seen err) := fun h => fits_stamp _ (and_left_true _ _ (and_left_true _ _ h))
theorem discHoldover (at_ : Nat) : Statement (.discHoldover at_) := fun h => fits_stamp _ h
theorem fitCycle (at_ : Nat) (unpublished : List Nat) : Statement (.fitCycle at_ unpublished) := fun h => fits_stamp _ (and_left_true _ _ h)
theorem fitOverrun (at_ : Nat) (cell : Nat) : Statement (.fitOverrun at_ cell) := fun h => fits_stamp _ (and_left_true _ _ h)
theorem pilotTimeout (at_ : Nat) : Statement (.pilotTimeout at_) := fun h => fits_stamp _ h
theorem spgEnableWrite (w : Wr) : Statement (.spgEnableWrite w) := fun h => Wr.wf_stamp _ h
theorem spectroSetBin (r : Req) (first : Nat) (last : Nat) (gate : Nat) (avgsh : Nat) (avgshPilot : Nat) (ifloor : Nat) (agemax : Nat) : Statement (.spectroSetBin r first last gate avgsh avgshPilot ifloor agemax) := fun h => Req.wf_stamp _ (and_left_true _ _ (and_left_true _ _ (and_left_true _ _ (and_left_true _ _ (and_left_true _ _ (and_left_true _ _ (and_left_true _ _ h)))))))
theorem spectroReadBinState (r : Req) (first : Nat) (last : Nat) : Statement (.spectroReadBinState r first last) := fun h => Req.wf_stamp _ (and_left_true _ _ (and_left_true _ _ h))
theorem spectroReadImpedance (r : Req) (locus : Nat) (first : Nat) (last : Nat) : Statement (.spectroReadImpedance r locus first last) := fun h => Req.wf_stamp _ (and_left_true _ _ (and_left_true _ _ (and_left_true _ _ h)))
theorem spectroReadFit (r : Req) (locus : Nat) : Statement (.spectroReadFit r locus) := fun h => Req.wf_stamp _ (and_left_true _ _ h)
theorem spectroReadTemperature (r : Req) (locus : Nat) : Statement (.spectroReadTemperature r locus) := fun h => Req.wf_stamp _ (and_left_true _ _ h)
theorem spectroReadPilot (r : Req) : Statement (.spectroReadPilot r) := fun h => Req.wf_stamp _ h
theorem spectroPilotState (r : Req) (report : Nat) : Statement (.spectroPilotState r report) := fun h => Req.wf_stamp _ (and_left_true _ _ h)
theorem spectroLoadChemistry (r : Req) (t : Nat) (table : List Byte) : Statement (.spectroLoadChemistry r t table) := fun h => Req.wf_stamp _ (and_left_true _ _ (and_left_true _ _ h))
theorem spectroSetNodeChemistry (r : Req) (locus : Nat) (t : Nat) : Statement (.spectroSetNodeChemistry r locus t) := fun h => Req.wf_stamp _ (and_left_true _ _ (and_left_true _ _ h))
theorem spectroResetAverages (r : Req) (locus : Option Nat) (first : Nat) (last : Nat) : Statement (.spectroResetAverages r locus first last) := fun h => Req.wf_stamp _ (and_left_true _ _ (and_left_true _ _ (and_left_true _ _ h)))
theorem restCorrection (at_ : Nat) (cell : Nat) : Statement (.restCorrection at_ cell) := fun h => fits_stamp _ (and_left_true _ _ h)
theorem cellWatchEntry (at_ : Nat) (cell : Nat) (check : Nat) : Statement (.cellWatchEntry at_ cell check) := fun h => fits_stamp _ (and_left_true _ _ (and_left_true _ _ h))
theorem cellWatchExit (at_ : Nat) (cell : Nat) : Statement (.cellWatchExit at_ cell) := fun h => fits_stamp _ (and_left_true _ _ h)
theorem cellQuarantinePromotion (at_ : Nat) (cell : Nat) : Statement (.cellQuarantinePromotion at_ cell) := fun h => fits_stamp _ (and_left_true _ _ h)
theorem limitPeriodBoundary (at_ : Nat) : Statement (.limitPeriodBoundary at_) := fun h => fits_stamp _ h
theorem limitBaseWrite (w : Wr) (discharge : Bool) : Statement (.limitBaseWrite w discharge) := fun h => Wr.wf_stamp _ h
theorem limitCapWrite (w : Wr) (operator : Bool) (discharge : Bool) : Statement (.limitCapWrite w operator discharge) := fun h => Wr.wf_stamp _ h
theorem limitTighten (r : Req) (discharge : Bool) (value : Nat) (life : Nat) : Statement (.limitTighten r discharge value life) := fun h => Req.wf_stamp _ (and_left_true _ _ (and_left_true _ _ h))
theorem limitRelax (r : Req) (discharge : Bool) (value : Option Nat) : Statement (.limitRelax r discharge value) := fun h => Req.wf_stamp _ (and_left_true _ _ h)
theorem limitRead (r : Req) : Statement (.limitRead r) := fun h => Req.wf_stamp _ h
theorem limitSetPublication (r : Req) (chan : Nat) (ident : Nat) (ide : Bool) : Statement (.limitSetPublication r chan ident ide) := fun h => Req.wf_stamp _ (and_left_true _ _ (and_left_true _ _ h))
theorem estimLoadProfile (r : Req) (t : Nat) (profile : List Byte) : Statement (.estimLoadProfile r t profile) := fun h => Req.wf_stamp _ (and_left_true _ _ (and_left_true _ _ h))
theorem estimRead (r : Req) (locus : Nat) (first : Nat) (last : Nat) : Statement (.estimRead r locus first last) := fun h => Req.wf_stamp _ (and_left_true _ _ (and_left_true _ _ (and_left_true _ _ h)))
theorem cellReadState (r : Req) (locus : Option Nat) : Statement (.cellReadState r locus) := fun h => Req.wf_stamp _ (and_left_true _ _ h)
theorem cellSetState (r : Req) (locus : Nat) (target : Nat) : Statement (.cellSetState r locus target) := fun h => Req.wf_stamp _ (and_left_true _ _ (and_left_true _ _ h))
theorem balanceSetPolicy (r : Req) (start : Nat) (stop : Nat) (tMax : Nat) : Statement (.balanceSetPolicy r start stop tMax) := fun h => Req.wf_stamp _ (and_left_true _ _ (and_left_true _ _ (and_left_true _ _ h)))
theorem balanceRead (r : Req) : Statement (.balanceRead r) := fun h => Req.wf_stamp _ h
theorem estimSetAdapt (r : Req) (enable : Bool) (gateMin : Nat) : Statement (.estimSetAdapt r enable gateMin) := fun h => Req.wf_stamp _ (and_left_true _ _ h)
theorem estimSetWatch (r : Req) (qfactor : Nat) (watchExit : Nat) : Statement (.estimSetWatch r qfactor watchExit) := fun h => Req.wf_stamp _ (and_left_true _ _ (and_left_true _ _ h))
theorem packSampleWrite (at_ : Nat) (k : Nat) : Statement (.packSampleWrite at_ k) := fun h => fits_stamp _ (and_left_true _ _ h)
theorem intermediateSample (at_ : Nat) (bits : List Nat) : Statement (.intermediateSample at_ bits) := fun h => fits_stamp _ (and_left_true _ _ h)
theorem stuckDetect (at_ : Nat) (input : Nat) : Statement (.stuckDetect at_ input) := fun h => fits_stamp _ (and_left_true _ _ h)
theorem modfltSet (at_ : Nat) (input : Nat) : Statement (.modfltSet at_ input) := fun h => fits_stamp _ (and_left_true _ _ h)
theorem modfltClear (at_ : Nat) (input : Nat) : Statement (.modfltClear at_ input) := fun h => fits_stamp _ (and_left_true _ _ h)
theorem calibrationWrite (w : Wr) (offset : Nat) : Statement (.calibrationWrite w offset) := fun h => Wr.wf_stamp _ (and_left_true _ _ h)
theorem meterEnable (w : Wr) : Statement (.meterEnable w) := fun h => Wr.wf_stamp _ h
theorem pulseOutput (at_ : Nat) : Statement (.pulseOutput at_) := fun h => fits_stamp _ h
theorem meterRead (r : Req) : Statement (.meterRead r) := fun h => Req.wf_stamp _ h
theorem meterCalibrate (r : Req) (form : Nat) (input : Nat) (ref : Nat) (gain : Nat) (ofs : Nat) (dly : Nat) : Statement (.meterCalibrate r form input ref gain ofs dly) := fun h => Req.wf_stamp _ (and_left_true _ _ (and_left_true _ _ (and_left_true _ _ (and_left_true _ _ (and_left_true _ _ (and_left_true _ _ h))))))
theorem calibrateAverageDone (at_ : Nat) : Statement (.calibrateAverageDone at_) := fun h => fits_stamp _ h
theorem meterSelectChannel (r : Req) (channel : Nat) : Statement (.meterSelectChannel r channel) := fun h => Req.wf_stamp _ (and_left_true _ _ h)
theorem meterSetCrosscheck (r : Req) (enable : Bool) (rel : Nat) (abs : Nat) (noload : Nat) : Statement (.meterSetCrosscheck r enable rel abs noload) := fun h => Req.wf_stamp _ (and_left_true _ _ (and_left_true _ _ (and_left_true _ _ h)))
theorem meterLoadWweTable (r : Req) (table : List Byte) : Statement (.meterLoadWweTable r table) := fun h => Req.wf_stamp _ (and_left_true _ _ h)
theorem meterActivateWweTable (r : Req) (digest : List Byte) : Statement (.meterActivateWweTable r digest) := fun h => Req.wf_stamp _ (and_left_true _ _ h)
theorem meterReadWweTable (r : Req) (bank : Nat) : Statement (.meterReadWweTable r bank) := fun h => Req.wf_stamp _ (and_left_true _ _ h)
theorem meterSetRating (r : Req) (iRated : Nat) (cap : Nat) : Statement (.meterSetRating r iRated cap) := fun h => Req.wf_stamp _ (and_left_true _ _ (and_left_true _ _ h))
theorem meterSetPulse (r : Req) (enable : Bool) (sel : Nat) (imp : Nat) : Statement (.meterSetPulse r enable sel imp) := fun h => Req.wf_stamp _ (and_left_true _ _ (and_left_true _ _ h))
theorem shutterSetContactor (r : Req) (output : Nat) (close : Bool) : Statement (.shutterSetContactor r output close) := fun h => Req.wf_stamp _ (and_left_true _ _ h)
theorem contactorRegisterRequest (w : Wr) : Statement (.contactorRegisterRequest w) := fun h => Wr.wf_stamp _ h
theorem shutterDerate (r : Req) (assert : Bool) : Statement (.shutterDerate r assert) := fun h => Req.wf_stamp _ h
theorem derateBitWrite (w : Wr) (operator : Bool) : Statement (.derateBitWrite w operator) := fun h => Wr.wf_stamp _ h
theorem shutterSetLimpFloor (r : Req) (pct : Nat) : Statement (.shutterSetLimpFloor r pct) := fun h => Req.wf_stamp _ (and_left_true _ _ h)
theorem limpRegisterWrite (w : Wr) : Statement (.limpRegisterWrite w) := fun h => Wr.wf_stamp _ h
theorem shutterSetPrecharge (r : Req) (preMin : Nat) (preMax : Nat) : Statement (.shutterSetPrecharge r preMin preMax) := fun h => Req.wf_stamp _ (and_left_true _ _ (and_left_true _ _ h))
theorem shutterSetHazard (r : Req) (h : Nat) (action : Nat) (openDly : Nat) (filt : Nat) (plaus : Nat) : Statement (.shutterSetHazard r h action openDly filt plaus) := fun h => Req.wf_stamp _ (and_left_true _ _ (and_left_true _ _ (and_left_true _ _ (and_left_true _ _ (and_left_true _ _ h)))))
theorem shutterSetBleed (r : Req) (locus : Nat) (mask : Nat) (duty : Nat) : Statement (.shutterSetBleed r locus mask duty) := fun h => Req.wf_stamp _ (and_left_true _ _ (and_left_true _ _ (and_left_true _ _ h)))
theorem shutterRead (r : Req) : Statement (.shutterRead r) := fun h => Req.wf_stamp _ h
theorem bleedRegisterWrite (w : Wr) (ring : Nat) (node : Nat) : Statement (.bleedRegisterWrite w ring node) := fun h => Wr.wf_stamp _ (and_left_true _ _ (and_left_true _ _ h))
theorem prechargeAutoOpen (at_ : Nat) : Statement (.prechargeAutoOpen at_) := fun h => fits_stamp _ h
theorem prechargeTimeout (at_ : Nat) : Statement (.prechargeTimeout at_) := fun h => fits_stamp _ h
theorem hazardAssert (at_ : Nat) (h : Nat) : Statement (.hazardAssert at_ h) := fun h => fits_stamp _ (and_left_true _ _ h)
theorem hazardClear (at_ : Nat) (pin : HighPin) : Statement (.hazardClear at_ pin) := fun h => fits_stamp _ (and_left_true _ _ h)
theorem hazardOpen (at_ : Nat) (h : Nat) : Statement (.hazardOpen at_ h) := fun h => fits_stamp _ (and_left_true _ _ h)
theorem hazardStuck (at_ : Nat) (h : Nat) : Statement (.hazardStuck at_ h) := fun h => fits_stamp _ (and_left_true _ _ h)
theorem cfaultSet (at_ : Nat) (output : Nat) : Statement (.cfaultSet at_ output) := fun h => fits_stamp _ (and_left_true _ _ h)
theorem cfaultClear (at_ : Nat) (output : Nat) : Statement (.cfaultClear at_ output) := fun h => fits_stamp _ (and_left_true _ _ h)
theorem chatterDeclare (at_ : Nat) (output : Nat) : Statement (.chatterDeclare at_ output) := fun h => fits_stamp _ (and_left_true _ _ h)
theorem chatterEnd (at_ : Nat) (output : Nat) (edges : Nat) (closed : Bool) : Statement (.chatterEnd at_ output edges closed) := fun h => fits_stamp _ (and_left_true _ _ (and_left_true _ _ h))
theorem blockAssembly (at_ : Nat) : Statement (.blockAssembly at_) := fun h => fits_stamp _ h
theorem sealComplete (at_ : Nat) : Statement (.sealComplete at_) := fun h => fits_stamp _ h
theorem archiveEntryWrite (at_ : Nat) (ok : Bool) : Statement (.archiveEntryWrite at_ ok) := fun h => fits_stamp _ h
theorem archiveFault (at_ : Nat) : Statement (.archiveFault at_) := fun h => fits_stamp _ h
theorem archiveRetry (at_ : Nat) (mib : Nat) (unit64 : Bool) (device : Option Pieces) : Statement (.archiveRetry at_ mib unit64 device) := fun h => fits_stamp _ (and_left_true _ _ (and_left_true _ _ h))
theorem ledgerEnable (w : Wr) : Statement (.ledgerEnable w) := fun h => Wr.wf_stamp _ h
theorem ledgerSealNow (r : Req) : Statement (.ledgerSealNow r) := fun h => Req.wf_stamp _ h
theorem ledgerReadHead (r : Req) : Statement (.ledgerReadHead r) := fun h => Req.wf_stamp _ h
theorem ledgerReadSeals (r : Req) (first : Nat) (last : Nat) : Statement (.ledgerReadSeals r first last) := fun h => Req.wf_stamp _ (and_left_true _ _ (and_left_true _ _ h))
theorem ledgerReadArchive (r : Req) (log : Nat) (first : Nat) (size : Nat) : Statement (.ledgerReadArchive r log first size) := fun h => Req.wf_stamp _ (and_left_true _ _ (and_left_true _ _ (and_left_true _ _ h)))
theorem ledgerAckOffload (r : Req) (log : Nat) (lseq : Nat) : Statement (.ledgerAckOffload r log lseq) := fun h => Req.wf_stamp _ (and_left_true _ _ (and_left_true _ _ h))
theorem ledgerSetArchive (r : Req) (blocks : Nat) (events : Nat) (seals : Nat) : Statement (.ledgerSetArchive r blocks events seals) := fun h => Req.wf_stamp _ (and_left_true _ _ (and_left_true _ _ (and_left_true _ _ h)))
theorem leaseReadTallies (r : Req) : Statement (.leaseReadTallies r) := fun h => Req.wf_stamp _ h
theorem ledgerHandoverPrepare (r : Req) (newRoot : Nat) : Statement (.ledgerHandoverPrepare r newRoot) := fun h => Req.wf_stamp _ (and_left_true _ _ h)
theorem aluAdd (m : Mv) : Statement (.aluAdd m) := fun h => Mv.wf_stamp _ h
theorem aluSub (m : Mv) : Statement (.aluSub m) := fun h => Mv.wf_stamp _ h
theorem aluAnd (m : Mv) : Statement (.aluAnd m) := fun h => Mv.wf_stamp _ h
theorem aluOr (m : Mv) : Statement (.aluOr m) := fun h => Mv.wf_stamp _ h
theorem aluXor (m : Mv) : Statement (.aluXor m) := fun h => Mv.wf_stamp _ h
theorem shfSll (m : Mv) : Statement (.shfSll m) := fun h => Mv.wf_stamp _ h
theorem shfSrl (m : Mv) : Statement (.shfSrl m) := fun h => Mv.wf_stamp _ h
theorem shfSra (m : Mv) : Statement (.shfSra m) := fun h => Mv.wf_stamp _ h
theorem macMul (m : Mv) : Statement (.macMul m) := fun h => Mv.wf_stamp _ h
theorem macAcc (m : Mv) : Statement (.macAcc m) := fun h => Mv.wf_stamp _ h
theorem macCmul (m : Mv) : Statement (.macCmul m) := fun h => Mv.wf_stamp _ h
theorem macCacc (m : Mv) : Statement (.macCacc m) := fun h => Mv.wf_stamp _ h
theorem lsuLdw (m : Mv) : Statement (.lsuLdw m) := fun h => Mv.wf_stamp _ h
theorem lsuLdp (m : Mv) : Statement (.lsuLdp m) := fun h => Mv.wf_stamp _ h
theorem lsuStw (m : Mv) : Statement (.lsuStw m) := fun h => Mv.wf_stamp _ h
theorem cmpEq (m : Mv) : Statement (.cmpEq m) := fun h => Mv.wf_stamp _ h
theorem cmpNe (m : Mv) : Statement (.cmpNe m) := fun h => Mv.wf_stamp _ h
theorem cmpLt (m : Mv) : Statement (.cmpLt m) := fun h => Mv.wf_stamp _ h
theorem cmpGe (m : Mv) : Statement (.cmpGe m) := fun h => Mv.wf_stamp _ h
theorem cmpLtu (m : Mv) : Statement (.cmpLtu m) := fun h => Mv.wf_stamp _ h
theorem strGet (m : Mv) : Statement (.strGet m) := fun h => Mv.wf_stamp _ h
theorem br (m : Mv) : Statement (.br m) := fun h => Mv.wf_stamp _ h
theorem limm (m : Mv) : Statement (.limm m) := fun h => Mv.wf_stamp _ h
theorem sysHalt (m : Mv) : Statement (.sysHalt m) := fun h => Mv.wf_stamp _ h
theorem sysYield (m : Mv) : Statement (.sysYield m) := fun h => Mv.wf_stamp _ h
theorem sysMark (m : Mv) : Statement (.sysMark m) := fun h => Mv.wf_stamp _ h
theorem swtrap (m : Mv) (code : Nat) : Statement (.swtrap m code) := fun h => Mv.wf_stamp _ (and_left_true _ _ h)
theorem leRun (w : Wr) (e : Nat) : Statement (.leRun w e) := fun h => Wr.wf_stamp _ (and_left_true _ _ h)
theorem leStep (w : Wr) (e : Nat) : Statement (.leStep w e) := fun h => Wr.wf_stamp _ (and_left_true _ _ h)
theorem leSuspend (w : Wr) (e : Nat) : Statement (.leSuspend w e) := fun h => Wr.wf_stamp _ (and_left_true _ _ h)
theorem leSkip (w : Wr) (e : Nat) : Statement (.leSkip w e) := fun h => Wr.wf_stamp _ (and_left_true _ _ h)
theorem leReset (w : Wr) (e : Nat) : Statement (.leReset w e) := fun h => Wr.wf_stamp _ (and_left_true _ _ h)
theorem streamReplay (w : Wr) (e : Nat) : Statement (.streamReplay w e) := fun h => Wr.wf_stamp _ (and_left_true _ _ h)
theorem emuDepositArm (w : Wr) (e : Nat) : Statement (.emuDepositArm w e) := fun h => Wr.wf_stamp _ (and_left_true _ _ h)
theorem compositeMove (m : Mv) (entry : Nat) : Statement (.compositeMove m entry) := fun h => Mv.wf_stamp _ (and_left_true _ _ h)
theorem lswRd (m : Mv) : Statement (.lswRd m) := fun h => Mv.wf_stamp _ h
theorem lswWr (m : Mv) : Statement (.lswWr m) := fun h => Mv.wf_stamp _ h
theorem busLd (m : Mv) : Statement (.busLd m) := fun h => Mv.wf_stamp _ h
theorem busSt (m : Mv) : Statement (.busSt m) := fun h => Mv.wf_stamp _ h
theorem busLoadComplete (at_ : Nat) (load : LoadAnswer) : Statement (.busLoadComplete at_ load) := fun h => fits_stamp _ (and_left_true _ _ h)
theorem sysReturn (m : Mv) : Statement (.sysReturn m) := fun h => Mv.wf_stamp _ h
theorem ltrapTaken (at_ : Nat) (v : Nat) : Statement (.ltrapTaken at_ v) := fun h => fits_stamp _ (and_left_true _ _ h)
theorem ltrapAck (w : Wr) (v : Nat) : Statement (.ltrapAck w v) := fun h => Wr.wf_stamp _ (and_left_true _ _ h)
theorem dtCommit (w : Wr) (v : Nat) : Statement (.dtCommit w v) := fun h => Wr.wf_stamp _ (and_left_true _ _ h)
theorem dtRetire (w : Wr) (v : Nat) : Statement (.dtRetire w v) := fun h => Wr.wf_stamp _ (and_left_true _ _ h)
theorem vceReset (w : Wr) (v : Nat) : Statement (.vceReset w v) := fun h => Wr.wf_stamp _ (and_left_true _ _ h)
theorem jobPromote (at_ : Nat) (v : Nat) (job : Nat) : Statement (.jobPromote at_ v job) := fun h => fits_stamp _ (and_left_true _ _ (and_left_true _ _ h))
theorem jobDeadlineMiss (at_ : Nat) (v : Nat) (job : Nat) : Statement (.jobDeadlineMiss at_ v job) := fun h => fits_stamp _ (and_left_true _ _ (and_left_true _ _ h))
theorem checkpointMiss (at_ : Nat) (e : Nat) : Statement (.checkpointMiss at_ e) := fun h => fits_stamp _ (and_left_true _ _ h)
theorem laneFault (at_ : Nat) (e : Nat) (cause : Nat) (bad : Option Nat) : Statement (.laneFault at_ e cause bad) := fun h => fits_stamp _ (and_left_true _ _ (and_left_true _ _ (and_left_true _ _ h)))
theorem vceFault (at_ : Nat) (v : Nat) : Statement (.vceFault at_ v) := fun h => fits_stamp _ (and_left_true _ _ h)
theorem pairMismatch (at_ : Nat) (pair : Nat) (addr : Nat) : Statement (.pairMismatch at_ pair addr) := fun h => fits_stamp _ (and_left_true _ _ (and_left_true _ _ h))
theorem gateCall (m : Mv) : Statement (.gateCall m) := fun h => Mv.wf_stamp _ h
theorem gateRet (m : Mv) : Statement (.gateRet m) := fun h => Mv.wf_stamp _ h
theorem excRet (m : Mv) : Statement (.excRet m) := fun h => Mv.wf_stamp _ h
theorem excSetpc (m : Mv) : Statement (.excSetpc m) := fun h => Mv.wf_stamp _ h
theorem excSetsp (m : Mv) : Statement (.excSetsp m) := fun h => Mv.wf_stamp _ h
theorem hold (m : Mv) : Statement (.hold m) := fun h => Mv.wf_stamp _ h
theorem holdEnd (m : Mv) : Statement (.holdEnd m) := fun h => Mv.wf_stamp _ h
theorem holdOverrun (at_ : Nat) (pair : Nat) : Statement (.holdOverrun at_ pair) := fun h => fits_stamp _ (and_left_true _ _ h)
theorem interruptTaken (at_ : Nat) (pair : Nat) : Statement (.interruptTaken at_ pair) := fun h => fits_stamp _ (and_left_true _ _ h)
theorem sliceSwitch (at_ : Nat) : Statement (.sliceSwitch at_) := fun h => fits_stamp _ h
theorem regionCommit (w : Wr) (ctx : Nat) (i : Nat) : Statement (.regionCommit w ctx i) := fun h => Wr.wf_stamp _ (and_left_true _ _ (and_left_true _ _ h))
theorem gateEntryCommit (w : Wr) (g : Nat) : Statement (.gateEntryCommit w g) := fun h => Wr.wf_stamp _ (and_left_true _ _ h)
theorem violationPop (w : Wr) (world : Nat) : Statement (.violationPop w world) := fun h => Wr.wf_stamp _ (and_left_true _ _ h)
theorem windowCommit (w : Wr) (i : Nat) : Statement (.windowCommit w i) := fun h => Wr.wf_stamp _ (and_left_true _ _ h)
theorem complementaryPairFault (at_ : Nat) (kind : Nat) (index : Nat) : Statement (.complementaryPairFault at_ kind index) := fun h => fits_stamp _ (and_left_true _ _ (and_left_true _ _ h))
theorem sramControllerFault (at_ : Nat) (bank : Nat) (residue0 : Bool) (residue1 : Bool) : Statement (.sramControllerFault at_ bank residue0 residue1) := fun h => fits_stamp _ (and_left_true _ _ h)
theorem d2dSessionStart (at_ : Nat) : Statement (.d2dSessionStart at_) := fun h => fits_stamp _ h
theorem d2dHelloReply (at_ : Nat) (nonceC : Nat) (mac : Nat) : Statement (.d2dHelloReply at_ nonceC mac) := fun h => fits_stamp _ (and_left_true _ _ (and_left_true _ _ h))
theorem d2dTransfer (at_ : Nat) (counter : Nat) (mac : Nat) (toCellar : Bool) (payload : List Nat) : Statement (.d2dTransfer at_ counter mac toCellar payload) := fun h => fits_stamp _ (and_left_true _ _ (and_left_true _ _ (and_left_true _ _ h)))
theorem flashOpProgram (w : Wr) (bank : Option Nat) : Statement (.flashOpProgram w bank) := fun h => Wr.wf_stamp _ (and_left_true _ _ h)
theorem flashOpErase (w : Wr) (bank : Option Nat) : Statement (.flashOpErase w bank) := fun h => Wr.wf_stamp _ (and_left_true _ _ h)
theorem flashOpVerify (w : Wr) (bank : Option Nat) : Statement (.flashOpVerify w bank) := fun h => Wr.wf_stamp _ (and_left_true _ _ h)
theorem flashOpSelect (w : Wr) (bank : Option Nat) : Statement (.flashOpSelect w bank) := fun h => Wr.wf_stamp _ (and_left_true _ _ h)
theorem flashOpComplete (at_ : Nat) (result : FlashEnd) : Statement (.flashOpComplete at_ result) := fun h => fits_stamp _ (and_left_true _ _ h)
theorem flashResume (at_ : Nat) (bank : Nat) : Statement (.flashResume at_ bank) := fun h => fits_stamp _ (and_left_true _ _ h)
theorem bankRelease (w : Wr) : Statement (.bankRelease w) := fun h => Wr.wf_stamp _ h
theorem flashRead (r : Req) (addr : Nat) (len : Nat) : Statement (.flashRead r addr len) := fun h => Req.wf_stamp _ (and_left_true _ _ (and_left_true _ _ h))
theorem flashProgram (r : Req) (bank : Option Nat) (addr : Nat) (data : List Byte) : Statement (.flashProgram r bank addr data) := fun h => Req.wf_stamp _ (and_left_true _ _ (and_left_true _ _ (and_left_true _ _ h)))
theorem flashErase (r : Req) (bank : Option Nat) (addr : Nat) (sectors : Nat) : Statement (.flashErase r bank addr sectors) := fun h => Req.wf_stamp _ (and_left_true _ _ (and_left_true _ _ (and_left_true _ _ h)))
theorem flashVerify (r : Req) (addr : Nat) (len : Nat) (margin : Nat) (expected : List Byte) : Statement (.flashVerify r addr len margin expected) := fun h => Req.wf_stamp _ (and_left_true _ _ (and_left_true _ _ (and_left_true _ _ (and_left_true _ _ h))))
theorem flashActivateTwin (r : Req) (bank : Option Nat) (twinB : Bool) (imgver : Nat) : Statement (.flashActivateTwin r bank twinB imgver) := fun h => Req.wf_stamp _ (and_left_true _ _ (and_left_true _ _ h))
theorem flashReadStatus (r : Req) : Statement (.flashReadStatus r) := fun h => Req.wf_stamp _ h
theorem cellarEntryQueue (w : Wr) : Statement (.cellarEntryQueue w) := fun h => Wr.wf_stamp _ h
theorem cellarEntryCommit (at_ : Nat) : Statement (.cellarEntryCommit at_) := fun h => fits_stamp _ h
theorem cellarDieReset (at_ : Nat) : Statement (.cellarDieReset at_) := fun h => fits_stamp _ h
theorem incidentTimeout (at_ : Nat) : Statement (.incidentTimeout at_) := fun h => fits_stamp _ h
theorem incClose (w : Wr) : Statement (.incClose w) := fun h => Wr.wf_stamp _ h
theorem vresThreshold (at_ : Nat) (mv : Nat) : Statement (.vresThreshold at_ mv) := fun h => fits_stamp _ (and_left_true _ _ h)
theorem backupPowerLoss (at_ : Nat) : Statement (.backupPowerLoss at_) := fun h => fits_stamp _ h
theorem cellarReadSummary (r : Req) : Statement (.cellarReadSummary r) := fun h => Req.wf_stamp _ h
theorem cellarReadEntries (r : Req) (first : Nat) (count : Nat) : Statement (.cellarReadEntries r first count) := fun h => Req.wf_stamp _ (and_left_true _ _ (and_left_true _ _ h))
theorem cellarReadSeals (r : Req) (first : Nat) (last : Nat) : Statement (.cellarReadSeals r first last) := fun h => Req.wf_stamp _ (and_left_true _ _ (and_left_true _ _ h))
theorem cellarCloseIncident (r : Req) : Statement (.cellarCloseIncident r) := fun h => Req.wf_stamp _ h
theorem keyPortWrite (w : Wr) (offset : Nat) : Statement (.keyPortWrite w offset) := fun h => Wr.wf_stamp _ (and_left_true _ _ h)
theorem stagingTimeout (at_ : Nat) (world : Nat) : Statement (.stagingTimeout at_ world) := fun h => fits_stamp _ (and_left_true _ _ h)
theorem ksWrite (w : Wr) : Statement (.ksWrite w) := fun h => Wr.wf_stamp _ h
theorem ksLoad (w : Wr) : Statement (.ksLoad w) := fun h => Wr.wf_stamp _ h
theorem ksImport (w : Wr) : Statement (.ksImport w) := fun h => Wr.wf_stamp _ h
theorem ksEpoch (w : Wr) : Statement (.ksEpoch w) := fun h => Wr.wf_stamp _ h
theorem ksClear (w : Wr) : Statement (.ksClear w) := fun h => Wr.wf_stamp _ h
theorem ksGen (w : Wr) : Statement (.ksGen w) := fun h => Wr.wf_stamp _ h
theorem ksExport (w : Wr) : Statement (.ksExport w) := fun h => Wr.wf_stamp _ h
theorem cipherClaim (w : Wr) (blk : Nat) : Statement (.cipherClaim w blk) := fun h => Wr.wf_stamp _ (and_left_true _ _ h)
theorem cipherClaimLapse (at_ : Nat) (blk : Nat) : Statement (.cipherClaimLapse at_ blk) := fun h => fits_stamp _ (and_left_true _ _ h)
theorem cipherOperation (w : Wr) (blk : Nat) : Statement (.cipherOperation w blk) := fun h => Wr.wf_stamp _ (and_left_true _ _ h)
theorem cipherOperationDone (at_ : Nat) (blk : Nat) : Statement (.cipherOperationDone at_ blk) := fun h => fits_stamp _ (and_left_true _ _ h)
theorem entropySourceFail (at_ : Nat) (src : Nat) (apt : Bool) : Statement (.entropySourceFail at_ src apt) := fun h => fits_stamp _ (and_left_true _ _ h)
theorem starterReseed (at_ : Nat) (n : Nat) : Statement (.starterReseed at_ n) := fun h => fits_stamp _ (and_left_true _ _ h)
theorem rngRead (at_ : Nat) (cls : Nat) (eng : Nat) (reg : RngReg) (noise : Nat) : Statement (.rngRead at_ cls eng reg noise) := fun h => fits_stamp _ (and_left_true _ _ (and_left_true _ _ (and_left_true _ _ (and_left_true _ _ h))))
theorem keysChallenge (r : Req) : Statement (.keysChallenge r) := fun h => Req.wf_stamp _ h
theorem keysGenerate (r : Req) (slot : Nat) : Statement (.keysGenerate r slot) := fun h => Req.wf_stamp _ (and_left_true _ _ h)
theorem keysReadPublic (r : Req) (slot : Nat) : Statement (.keysReadPublic r slot) := fun h => Req.wf_stamp _ (and_left_true _ _ h)
theorem keysInstallCert (r : Req) (cert : Cert) : Statement (.keysInstallCert r cert) := fun h => Req.wf_stamp _ (and_left_true _ _ h)
theorem keysReestablish (r : Req) (tok : Token) (keys : PubKeys) : Statement (.keysReestablish r tok keys) := fun h => Req.wf_stamp _ (and_left_true _ _ (and_left_true _ _ h))
theorem keysRaiseEpoch (r : Req) (slot : Nat) : Statement (.keysRaiseEpoch r slot) := fun h => Req.wf_stamp _ (and_left_true _ _ h)
theorem keysReadState (r : Req) : Statement (.keysReadState r) := fun h => Req.wf_stamp _ h
theorem tamperTrip (at_ : Nat) (index : Nat) (measure : Nat) : Statement (.tamperTrip at_ index measure) := fun h => fits_stamp _ (and_left_true _ _ (and_left_true _ _ h))
theorem tamperClear (at_ : Nat) (index : Nat) (measure : Nat) : Statement (.tamperClear at_ index measure) := fun h => fits_stamp _ (and_left_true _ _ (and_left_true _ _ h))
theorem tamperSelfTest (at_ : Nat) (tripped : Bool) : Statement (.tamperSelfTest at_ tripped) := fun h => fits_stamp _ h
theorem tamperTestTimeout (at_ : Nat) : Statement (.tamperTestTimeout at_) := fun h => fits_stamp _ h
theorem gradeWrite (w : Wr) : Statement (.gradeWrite w) := fun h => Wr.wf_stamp _ h
theorem backupTamperResponse (at_ : Nat) (index : Nat) (measure : Nat) : Statement (.backupTamperResponse at_ index measure) := fun h => fits_stamp _ (and_left_true _ _ (and_left_true _ _ h))
theorem backupTamperTest (at_ : Nat) (tripped : Bool) : Statement (.backupTamperTest at_ tripped) := fun h => fits_stamp _ h
theorem packetReceived (at_ : Nat) (path : Nat) : Statement (.packetReceived at_ path) := fun h => fits_stamp _ (and_left_true _ _ h)
theorem replyIssue (w : Wr) (world : Nat) : Statement (.replyIssue w world) := fun h => Wr.wf_stamp _ (and_left_true _ _ h)
theorem spiWrite (at_ : Nat) (len : Nat) (bytes : List Byte) : Statement (.spiWrite at_ len bytes) := fun h => fits_stamp _ (and_left_true _ _ (and_left_true _ _ h))
theorem spiRead (at_ : Nat) (whole : Bool) : Statement (.spiRead at_ whole) := fun h => fits_stamp _ h
theorem spiStatus (at_ : Nat) : Statement (.spiStatus at_) := fun h => fits_stamp _ h
theorem canFrameReceived (at_ : Nat) (chan : Nat) (ident : Nat) (ide : Bool) (fd : Bool) (bytes : List Byte) : Statement (.canFrameReceived at_ chan ident ide fd bytes) := fun h => fits_stamp _ (and_left_true _ _ (and_left_true _ _ (and_left_true _ _ h)))
theorem canReassemblyTimeout (at_ : Nat) (chan : Nat) : Statement (.canReassemblyTimeout at_ chan) := fun h => fits_stamp _ (and_left_true _ _ h)
theorem ethernetDatagramReceived (at_ : Nat) (src : Nat) (good : Bool) (bytes : List Byte) : Statement (.ethernetDatagramReceived at_ src good bytes) := fun h => fits_stamp _ (and_left_true _ _ (and_left_true _ _ h))
theorem ethernetReassemblyTimeout (at_ : Nat) (src : Nat) : Statement (.ethernetReassemblyTimeout at_ src) := fun h => fits_stamp _ (and_left_true _ _ h)
theorem arpRequest (at_ : Nat) (target : Nat) (sender : Nat) : Statement (.arpRequest at_ target sender) := fun h => fits_stamp _ (and_left_true _ _ (and_left_true _ _ h))
theorem tracePacket (at_ : Nat) : Statement (.tracePacket at_) := fun h => fits_stamp _ h
theorem serviceActivation (at_ : Nat) (mv : Nat) : Statement (.serviceActivation at_ mv) := fun h => fits_stamp _ (and_left_true _ _ h)
theorem pps (at_ : Nat) (t : Nat) (pps1 : Option Nat) : Statement (.pps at_ t pps1) := fun h => fits_stamp _ (and_left_true _ _ (and_left_true _ _ h))
theorem serviceBlockReceived (at_ : Nat) (pcb : Nat) (len : Nat) (inf : List Byte) (edc : Bool) (parity : Bool) : Statement (.serviceBlockReceived at_ pcb len inf edc parity) := fun h => fits_stamp _ (and_left_true _ _ (and_left_true _ _ (and_left_true _ _ h)))
theorem serviceCwtTimeout (at_ : Nat) : Statement (.serviceCwtTimeout at_) := fun h => fits_stamp _ h
theorem serviceBusy (at_ : Nat) : Statement (.serviceBusy at_) := fun h => fits_stamp _ h
theorem resynch (at_ : Nat) (inf : List Byte) : Statement (.resynch at_ inf) := fun h => fits_stamp _ (and_left_true _ _ h)
theorem poll (at_ : Nat) (inf : List Byte) : Statement (.poll at_ inf) := fun h => fits_stamp _ (and_left_true _ _ h)
theorem status (at_ : Nat) (inf : List Byte) : Statement (.status at_ inf) := fun h => fits_stamp _ (and_left_true _ _ h)
theorem unlock (at_ : Nat) (inf : List Byte) : Statement (.unlock at_ inf) := fun h => fits_stamp _ (and_left_true _ _ h)
theorem forcedErase (at_ : Nat) (inf : List Byte) : Statement (.forcedErase at_ inf) := fun h => fits_stamp _ (and_left_true _ _ h)
theorem areaRead (at_ : Nat) (inf : List Byte) : Statement (.areaRead at_ inf) := fun h => fits_stamp _ (and_left_true _ _ h)
theorem areaWrite (at_ : Nat) (inf : List Byte) : Statement (.areaWrite at_ inf) := fun h => fits_stamp _ (and_left_true _ _ h)
theorem serviceProbeRemoval (at_ : Nat) (whole : Nat) (torn : Bool) : Statement (.serviceProbeRemoval at_ whole torn) := fun h => fits_stamp _ (and_left_true _ _ h)
theorem serviceReadConfig (r : Req) : Statement (.serviceReadConfig r) := fun h => Req.wf_stamp _ h
theorem serviceSetPassword (r : Req) (password : Option Nat) : Statement (.serviceSetPassword r password) := fun h => Req.wf_stamp _ (and_left_true _ _ h)
theorem serviceReadArea (r : Req) (first : Nat) (count : Nat) : Statement (.serviceReadArea r first count) := fun h => Req.wf_stamp _ (and_left_true _ _ (and_left_true _ _ h))
theorem serviceWriteArea (r : Req) (first : Nat) (data : List Byte) : Statement (.serviceWriteArea r first data) := fun h => Req.wf_stamp _ (and_left_true _ _ (and_left_true _ _ h))
theorem fieldOn (at_ : Nat) (strength : Nat) (store : Nat) : Statement (.fieldOn at_ strength store) := fun h => fits_stamp _ (and_left_true _ _ (and_left_true _ _ h))
theorem fieldLoss (at_ : Nat) : Statement (.fieldLoss at_) := fun h => fits_stamp _ h
theorem reqa (at_ : Nat) (wupa : Bool) : Statement (.reqa at_ wupa) := fun h => fits_stamp _ h
theorem anticollision (at_ : Nat) (level : Nat) (bits : List Bool) : Statement (.anticollision at_ level bits) := fun h => fits_stamp _ (and_left_true _ _ h)
theorem hlta (at_ : Nat) : Statement (.hlta at_) := fun h => fits_stamp _ h
theorem rats (at_ : Nat) (param : Nat) : Statement (.rats at_ param) := fun h => fits_stamp _ (and_left_true _ _ h)
theorem deselect (at_ : Nat) : Statement (.deselect at_) := fun h => fits_stamp _ h
theorem tagInfo (at_ : Nat) : Statement (.tagInfo at_) := fun h => fits_stamp _ h
theorem tagRead (at_ : Nat) (first : Nat) (count : Nat) : Statement (.tagRead at_ first count) := fun h => fits_stamp _ (and_left_true _ _ (and_left_true _ _ h))
theorem tagWrite (at_ : Nat) (block : Nat) (data : List Byte) (store : Nat) (cut : Option Bool) : Statement (.tagWrite at_ block data store cut) := fun h => fits_stamp _ (and_left_true _ _ (and_left_true _ _ (and_left_true _ _ h)))
theorem pwCheck (at_ : Nat) (password : Nat) : Statement (.pwCheck at_ password) := fun h => fits_stamp _ (and_left_true _ _ h)
theorem tagSummary (at_ : Nat) : Statement (.tagSummary at_) := fun h => fits_stamp _ h
theorem tagSeal (at_ : Nat) (sealSeq : Nat) : Statement (.tagSeal at_ sealSeq) := fun h => fits_stamp _ (and_left_true _ _ h)
theorem tagEntries (at_ : Nat) (first : Nat) (count : Nat) : Statement (.tagEntries at_ first count) := fun h => fits_stamp _ (and_left_true _ _ (and_left_true _ _ h))
theorem wiredItemWait (at_ : Nat) : Statement (.wiredItemWait at_) := fun h => fits_stamp _ h
theorem tagStage (w : Wr) : Statement (.tagStage w) := fun h => Wr.wf_stamp _ h
theorem tagCommit (w : Wr) : Statement (.tagCommit w) := fun h => Wr.wf_stamp _ h
theorem tagDiscard (w : Wr) : Statement (.tagDiscard w) := fun h => Wr.wf_stamp _ h
theorem rollForward (at_ : Nat) (n : Nat) (store : Nat) : Statement (.rollForward at_ n store) := fun h => fits_stamp _ (and_left_true _ _ (and_left_true _ _ h))
theorem tagReadConfig (r : Req) : Statement (.tagReadConfig r) := fun h => Req.wf_stamp _ h
theorem tagSetConfig (r : Req) (en : Bool) (record : Bool) (vharv : Bool) (rate : Nat) (password : Option (Nat × Nat)) : Statement (.tagSetConfig r en record vharv rate password) := fun h => Req.wf_stamp _ (and_left_true _ _ (and_left_true _ _ h))
theorem passportRead (r : Req) (first : Nat) (count : Nat) : Statement (.passportRead r first count) := fun h => Req.wf_stamp _ (and_left_true _ _ (and_left_true _ _ h))
theorem passportWrite (r : Req) (first : Nat) (data : List Byte) : Statement (.passportWrite r first data) := fun h => Req.wf_stamp _ (and_left_true _ _ (and_left_true _ _ h))
theorem passportSign (r : Req) (identity : Option (List Byte)) (chemistry : Option (List Byte)) : Statement (.passportSign r identity chemistry) := fun h => Req.wf_stamp _ (and_left_true _ _ (and_left_true _ _ h))
theorem asmAnnounce (at_ : Nat) (ring : Nat) (term : Nat) (assembly : Nat) (deputy : Nat) (flags : Nat) (serial : Nat) : Statement (.asmAnnounce at_ ring term assembly deputy flags serial) := fun h => fits_stamp _ (and_left_true _ _ (and_left_true _ _ (and_left_true _ _ (and_left_true _ _ (and_left_true _ _ (and_left_true _ _ h))))))
theorem sealReq (at_ : Nat) (sealSeq : Nat) : Statement (.sealReq at_ sealSeq) := fun h => fits_stamp _ (and_left_true _ _ h)
theorem assemblyFrameReceived (at_ : Nat) (ring : Nat) (rd : Bool) (hdr : List Nat) (data : List Nat) : Statement (.assemblyFrameReceived at_ ring rd hdr data) := fun h => fits_stamp _ (and_left_true _ _ (and_left_true _ _ (and_left_true _ _ h)))
theorem managerLoss (at_ : Nat) : Statement (.managerLoss at_) := fun h => fits_stamp _ h
theorem assemblyRead (r : Req) : Statement (.assemblyRead r) := fun h => Req.wf_stamp _ h
theorem assemblySetRole (r : Req) (role : Nat) (mask : Nat) : Statement (.assemblySetRole r role mask) := fun h => Req.wf_stamp _ (and_left_true _ _ (and_left_true _ _ h))
theorem assemblySetDeputy (r : Req) (device : Nat) : Statement (.assemblySetDeputy r device) := fun h => Req.wf_stamp _ (and_left_true _ _ h)
theorem assemblySuccessionSeal (r : Req) (newSerial : Nat) (token : Token) (keys : PubKeys) : Statement (.assemblySuccessionSeal r newSerial token keys) := fun h => Req.wf_stamp _ (and_left_true _ _ (and_left_true _ _ (and_left_true _ _ h)))
theorem assemblySucceed (r : Req) (cert : SuccCert) (block : List Byte) (sealed : List Byte) (keyCert : Option Cert) : Statement (.assemblySucceed r cert block sealed keyCert) := fun h => Req.wf_stamp _ (and_left_true _ _ (and_left_true _ _ (and_left_true _ _ (and_left_true _ _ h))))
theorem assemblyReadWorker (r : Req) (device : Nat) : Statement (.assemblyReadWorker r device) := fun h => Req.wf_stamp _ (and_left_true _ _ h)
theorem faultAck (w : Wr) : Statement (.faultAck w) := fun h => Wr.wf_stamp _ h
theorem faultDeclare (w : Wr) : Statement (.faultDeclare w) := fun h => Wr.wf_stamp _ h
theorem dormantPowerOff (at_ : Nat) : Statement (.dormantPowerOff at_) := fun h => fits_stamp _ h
theorem selftestRun (r : Req) (mask : Nat) (fuse : Bool) (token : Option Token) (keys : PubKeys) : Statement (.selftestRun r mask fuse token keys) := fun h => Req.wf_stamp _ (and_left_true _ _ (and_left_true _ _ (and_left_true _ _ h)))
theorem selftestReadResult (r : Req) (run : Nat) : Statement (.selftestReadResult r run) := fun h => Req.wf_stamp _ (and_left_true _ _ h)
theorem selftestAbort (r : Req) : Statement (.selftestAbort r) := fun h => Req.wf_stamp _ h
theorem selftestTestComplete (at_ : Nat) (fails : List TestFail) : Statement (.selftestTestComplete at_ fails) := fun h => fits_stamp _ (and_left_true _ _ h)
theorem lockSet (w : Wr) (addr : Nat) : Statement (.lockSet w addr) := fun h => Wr.wf_stamp _ (and_left_true _ _ h)
theorem counterClear (w : Wr) (addr : Nat) : Statement (.counterClear w addr) := fun h => Wr.wf_stamp _ (and_left_true _ _ h)
theorem registerWrite (w : Wr) (addr : Nat) : Statement (.registerWrite w addr) := fun h => Wr.wf_stamp _ (and_left_true _ _ h)
theorem operandMove (m : Mv) (dst : Nat) : Statement (.operandMove m dst) := fun h => Mv.wf_stamp _ (and_left_true _ _ h)
theorem jobRelease (at_ : Nat) (v : Nat) (job : Nat) : Statement (.jobRelease at_ v job) := fun h => fits_stamp _ (and_left_true _ _ (and_left_true _ _ h))
theorem ksOperationDone (at_ : Nat) : Statement (.ksOperationDone at_) := fun h => fits_stamp _ h
theorem sramBankInitialised (at_ : Nat) (bank : Nat) : Statement (.sramBankInitialised at_ bank) := fun h => fits_stamp _ (and_left_true _ _ h)
theorem linkChanged (at_ : Nat) (slot : Nat) (up : Bool) (g1000 : Bool) : Statement (.linkChanged at_ slot up g1000) := fun h => fits_stamp _ (and_left_true _ _ h)
theorem deactivation (at_ : Nat) : Statement (.deactivation at_) := fun h => fits_stamp _ h
theorem clockStop (at_ : Nat) (restart : Bool) (inside : Bool) : Statement (.clockStop at_ restart inside) := fun h => fits_stamp _ h
theorem rfBlockReceived (at_ : Nat) (pcb : Nat) (inf : List Byte) (good : Bool) : Statement (.rfBlockReceived at_ pcb inf good) := fun h => fits_stamp _ (and_left_true _ _ (and_left_true _ _ h))
theorem rfPps (at_ : Nat) (dr : Nat) (ds : Nat) : Statement (.rfPps at_ dr ds) := fun h => fits_stamp _ (and_left_true _ _ (and_left_true _ _ h))
theorem d2dLinkDrop (at_ : Nat) : Statement (.d2dLinkDrop at_) := fun h => fits_stamp _ h
theorem commandFrame (at_ : Nat) (rd : Bool) (hdr : List Nat) (data : List Nat) (crc : List Nat) : Statement (.commandFrame at_ rd hdr data crc) := fun h => fits_stamp _ (and_left_true _ _ (and_left_true _ _ (and_left_true _ _ h)))

end Sys2Proof.Laws.Stamped
end

