-- ==== Sys2Proof/Tests/Slice0.lean ====
section
/-!
SUPPORT. Tests/Slice0.lean: the tests. Ill-formed commands that WellFormed refuses; results that the spec gives as numbers; and, for each statement with
hypotheses, a state and operands that meet them, clause by clause. In the statements `t` is the state at the command's stamp: the states here stand at
stamp 0, so that a command at stamp 0 finds them as they are.
-/
namespace Sys2Proof.Tests
open Sys2Proof Sys2Proof.Machine
set_option Elab.async false

/-! ### States -/

def sessions : List Session :=
  [{ freeSession with phase := 2, world := 1 }, { freeSession with phase := 2, world := 2 }, { freeSession with phase := 1, world := 1 }] ++
  List.replicate 5 freeSession
/-- Mode `m`, life-cycle state `l`; session 0 custody and session 1 operator, both on SPI; session 2 awaits its FINISH; the
memories are up and the link has its session. -/
def part (m l : Nat) : State :=
  ({ State.reset with cmd := { State.reset.cmd with sessions := sessions } }).fputs [(f_MODE_STATUS_MODE, m), (f_LC_STATE_STATE, l), (f_TG_STATUS_READY, 0xFF),
    (f_TG_STATUS_D2D_UP, 1)]
/-- Requesters: custody, operator, the pending session, the provisioning path. -/
def cu : Req := ⟨0, 0, 0, 1, 1⟩
def op : Req := ⟨0, 0, 1, 2, 1⟩
def fin : Req := ⟨0, 0, 2, 1, 1⟩
def prov : Req := ⟨0, 0, 8, 3, 1⟩
/-- Writers: the custody supervisor in context 0, the operator supervisor. -/
def sup (v : Nat) : Wr := ⟨0, 1, 0, 0, v, 0⟩
def opSup (v : Nat) : Wr := ⟨0, 3, 1, 7, v, 0⟩
/-- Lane 3, and the engine of vat 1, run. -/
def laneOn : State :=
  (State.reset.putLane 3 { State.reset.lane 3 with stat := 1, u := { Units.reset with pc := 0x40, g := true, t := [(1, 0x2000#32)] } }).fputs
    [(f_TG_STATUS_READY, 0xFF), (f_CPR_DOM_CLKEN 3, 1), (f_LE_CODE_LIM_LIM 3, 0x1000), (f_CPR_DOM_CLKEN 257, 1), (f_VAT_STATUS_VSTATE 1, 1)]
def running : State := laneOn.putVat 1 { laneOn.vat 1 with u := { Units.reset with pc := 0x40 } }
/-- A move of lane 3, one of the engine of vat 1 and one of custody pair 0, with an immediate. -/
def laneMv (ge : Bool) (imm : Nat) : Mv := ⟨0, .lane 3, 1, ge, true, imm, 0, 0⟩
def vceMv (imm : Nat) : Mv := ⟨0, .vce 1, 0, false, true, imm, 0, 0⟩
def coreMv (imm : Nat) : Mv := ⟨0, .core 0, 0, false, true, imm, 0, 0⟩
/-- The engine of vat 1 with a one-move entry 0 in its decode table. -/
def composite : State := (running.storeN (dtAddr 1 0) 4 0x00000001).putBit (f_VAT_DT_VALID_LO_VALUE 1) 0 true
/-- A line that carries these characters. -/
def line (cs : List LineChar) : Line := ⟨false, encodeGroups cs false⟩
/-- The locus of a cell of this part, and of node 2 of ring 1. -/
def cellLocus : Nat := 2 ^ 38 + 2 * 2 ^ 33 + 3 * 2 ^ 28
def nodeLocus : Nat := 2 ^ 38 + 2 * 2 ^ 33
/-- The part in Depot mode, Provisioned, with register fields set. -/
def dep (l : List (Fld × Nat)) : State := (part 2 1).fputs l
/-- The AES block, KEK and identity slots loaded under a chain of current epochs. -/
def loadedSlots : State := ({ dep [(f_KS_STATUS_READY, 1)] with keys := { KeyState.reset with slots := (List.range 64).map (fun n => ⟨decide (4 ≤ n ∧ n ≤ 20), 1, 2, 1, if n < 12 then 1 else 4, 32, 0, 0, 0⟩) } })
def keyed12 : State := { loadedSlots with cel := { loadedSlots.cel with bre := 1, anchored := List.replicate 8 0 }, keys := { loadedSlots.keys with slots := loadedSlots.keys.slots.map (fun k => if k.parent = 1 then { k with pepoch := 1 } else k) } }
/-- The requester's ring 1 in a state, with a field of TR_STATUS.STATE. -/
def ring1 (state : Nat) (l : List (Fld × Nat)) : State := dep ((f_TR_STATUS_STATE 1, state) :: l)
def aCell : EstCell := ⟨1/2, 1, [], 0, 0, 0, [], 0, 0, 1, none, none, false, [], [60, 60, 60, 60, 60, 60, 60, 60, 60, 60], 0, 0, (0, 0), true, 0, 0, 0, [], 0, 0, 0, []⟩
def cellAt (i state : Nat) : State := { part 2 1 with est := { EstState.reset with cells := [(i, { aCell with state := state })] }, now := 2 ^ 45 }
def withSvc (x : SvcState) : State := { part 2 1 with svc := x }
def atrOn : SvcState := { SvcState.reset with atr := true }
def withTag (x : TagState) : State := { dep [(f_TAG_CTRL_EN, 1)] with tag := x }
def later (n : Nat) (s : State) : State := { s with now := n }

theorem test_states_stand_at_stamp_zero : (part 2 1).at 0 = part 2 1 ∧ running.at 0 = running := ⟨rfl, rfl⟩

/-! ### Ill-formed commands -/

def sig0 : Sig := ⟨0, 0⟩
def token0 : Token := ⟨0, 0, 0, 0, 0, 0, 0, sig0⟩
def cert0 : Cert := ⟨0, 0, 0, 0, 0, 0, 0, 0, sig0⟩
def succ0 : SuccCert := ⟨0, 0, 0, 0, 0, 0, 0, 0, 0, 0, 0, 0, 0, 0, sig0⟩
def boot0 : Boot := ⟨true, 0, false, none, 0⟩
def line0 : Line := ⟨false, []⟩

theorem smoke_requester : ([⟨2 ^ 64, 0, 0, 1, 1⟩, ⟨0, 5, 0, 1, 1⟩, ⟨0, 0, 9, 1, 1⟩, ⟨0, 0, 0, 5, 1⟩, ⟨0, 0, 0, 1, 2 ^ 32⟩] : List Req).all (fun r => !r.wf) = true ∧
    cu.wf = true := by decide +kernel
theorem smoke_writer : ([⟨2 ^ 64, 1, 0, 0, 0, 0⟩, ⟨0, 8, 0, 0, 0, 0⟩, ⟨0, 1, 256, 0, 0, 0⟩, ⟨0, 1, 0, 8, 0, 0⟩, ⟨0, 1, 0, 0, 2 ^ 32, 0⟩, ⟨0, 1, 0, 0, 0, 2 ^ 12⟩] : List Wr).all (fun w => !w.wf) = true ∧
    (sup 0).wf = true := by decide +kernel
theorem smoke_engine : ([.lane 256, .vce 16, .core 2] : List Eng).all (fun g => !g.wf) = true := by decide +kernel
theorem smoke_move : ([⟨2 ^ 64, .lane 0, 0, false, true, 0, 0, 0⟩, ⟨0, .lane 256, 0, false, true, 0, 0, 0⟩, ⟨0, .lane 0, 2, false, true, 0, 0, 0⟩, ⟨0, .lane 0, 0, false, true, 256, 0, 0⟩,
    ⟨0, .lane 0, 0, false, true, 0, 2 ^ 32, 0⟩, ⟨0, .vce 0, 3, false, true, 0, 0, 0⟩, ⟨0, .core 0, 0, false, true, 1024, 0, 0⟩, ⟨0, .vce 0, 0, false, true, 0, 2 ^ 64, 0⟩,
    ⟨0, .lane 0, 0, false, true, 0, 0, 2 ^ 36⟩] :
    List Mv).all (fun m => !m.wf) = true ∧ (laneMv false 0).wf = true := by decide +kernel
set_option exponentiation.threshold 30000 in
theorem smoke_signatures : (⟨2 ^ 768, 0⟩ : Sig).wf = false ∧ (⟨0, 2 ^ 26472⟩ : Sig).wf = false ∧ (⟨2 ^ 776, 0⟩ : PubKeys).wf = false ∧
    (⟨0, 2 ^ 15616⟩ : PubKeys).wf = false := by simp [Sig.wf, PubKeys.wf, fits]
theorem smoke_token : ([⟨2 ^ 40, 0, 0, 0, 0, 0, 0, sig0⟩, ⟨0, 256, 0, 0, 0, 0, 0, sig0⟩, ⟨0, 0, 65536, 0, 0, 0, 0, sig0⟩, ⟨0, 0, 0, 2 ^ 64, 0, 0, 0, sig0⟩,
    ⟨0, 0, 0, 0, 2 ^ 128, 0, 0, sig0⟩, ⟨0, 0, 0, 0, 0, 2 ^ 64, 0, sig0⟩, ⟨0, 0, 0, 0, 0, 0, 2 ^ 384, sig0⟩] : List Token).all (fun k => !k.wf) = true := by decide +kernel
theorem smoke_certificate : ([⟨2 ^ 40, 0, 0, 0, 0, 0, 0, 0, sig0⟩, ⟨0, 256, 0, 0, 0, 0, 0, 0, sig0⟩, ⟨0, 0, 2 ^ 64, 0, 0, 0, 0, 0, sig0⟩, ⟨0, 0, 0, 2 ^ 32, 0, 0, 0, 0, sig0⟩,
    ⟨0, 0, 0, 0, 2 ^ 64, 0, 0, 0, sig0⟩, ⟨0, 0, 0, 0, 0, 2 ^ 384, 0, 0, sig0⟩, ⟨0, 0, 0, 0, 0, 0, 2 ^ 384, 0, sig0⟩, ⟨0, 0, 0, 0, 0, 0, 0, 2 ^ 384, sig0⟩] :
    List Cert).all (fun k => !k.wf) = true := by decide +kernel
theorem smoke_succession : ([⟨2 ^ 64, 0, 0, 0, 0, 0, 0, 0, 0, 0, 0, 0, 0, 0, sig0⟩, ⟨0, 2 ^ 32, 0, 0, 0, 0, 0, 0, 0, 0, 0, 0, 0, 0, sig0⟩, ⟨0, 0, 2 ^ 32, 0, 0, 0, 0, 0, 0, 0, 0, 0, 0, 0, sig0⟩, ⟨0, 0, 0, 2 ^ 64, 0, 0, 0, 0, 0, 0, 0, 0, 0, 0, sig0⟩, ⟨0, 0, 0, 0, 2 ^ 64, 0, 0, 0, 0, 0, 0, 0, 0, 0, sig0⟩, ⟨0, 0, 0, 0, 0, 2 ^ 64, 0, 0, 0, 0, 0, 0, 0, 0, sig0⟩, ⟨0, 0, 0, 0, 0, 0, 2 ^ 64, 0, 0, 0, 0, 0, 0, 0, sig0⟩, ⟨0, 0, 0, 0, 0, 0, 0, 2 ^ 384, 0, 0, 0, 0, 0, 0, sig0⟩, ⟨0, 0, 0, 0, 0, 0, 0, 0, 2 ^ 64, 0, 0, 0, 0, 0, sig0⟩, ⟨0, 0, 0, 0, 0, 0, 0, 0, 0, 2 ^ 384, 0, 0, 0, 0, sig0⟩, ⟨0, 0, 0, 0, 0, 0, 0, 0, 0, 0, 2 ^ 256, 0, 0, 0, sig0⟩, ⟨0, 0, 0, 0, 0, 0, 0, 0, 0, 0, 0, 2 ^ 64, 0, 0, sig0⟩, ⟨0, 0, 0, 0, 0, 0, 0, 0, 0, 0, 0, 0, 2 ^ 384, 0, sig0⟩, ⟨0, 0, 0, 0, 0, 0, 0, 0, 0, 0, 0, 0, 0, 2 ^ 8, sig0⟩] : List SuccCert).all (fun k => !k.wf) = true := by decide +kernel
theorem smoke_line : ([⟨false, List.replicate 4096 0⟩, ⟨false, [1024]⟩] : List Line).all (fun l => !l.wf) = true := by decide +kernel
theorem smoke_start_and_test : ([⟨true, 2 ^ 32, false, none, 0⟩, ⟨true, 0, false, some [(2 ^ 28, [])], 0⟩, ⟨true, 0, false, none, 4⟩] : List Boot).all (fun b => !b.wf) = true ∧
    ([⟨2 ^ 16, 0, 0⟩, ⟨0, 2 ^ 32, 0⟩, ⟨0, 0, 2 ^ 16⟩] : List TestFail).all (fun x => !x.wf) = true := by decide +kernel
theorem smoke_nested : ([.deviceTamperDisable cu 0 (some { token0 with kind := 256 }) ⟨0, 0⟩, .archiveRetry 0 0 false (some [(2 ^ 28, [])]),
    .tagSetConfig cu true true true 0 (some (2 ^ 128, 0)), .tagSetConfig cu true true true 0 (some (0, 2 ^ 32)), .selftestRun cu 0 true (some { token0 with kind := 256 }) ⟨0, 0⟩,
    .selftestTestComplete 0 [⟨2 ^ 16, 0, 0⟩]] : List Instr).all (fun c => !c.wf) = true := by decide +kernel
theorem smoke_operands_1 : ([
    .porRelease (2 ^ 48) boot0, .brownOut (2 ^ 64) 0 0, .brownOut 0 (2 ^ 8) 0, .brownOut 0 0 (2 ^ 64), .mainSupplyLoss (2 ^ 64), 
     .warmReset (2 ^ 64) 0 boot0, .warmReset 0 (2 ^ 8) boot0, .rstNLow (2 ^ 64) 0 boot0, .rstNLow 0 (2 ^ 64) boot0, 
     .pllLockLoss (2 ^ 64) true true boot0, .startWatchdogExpiry (2 ^ 64) boot0, .wakeNFall (2 ^ 64) 0 boot0, .wakeNFall 0 (2 ^ 64) boot0, 
     .domainControlWrite (sup 0) 320, .deviceReadFaults cu (2 ^ 32) 0, .deviceReadFaults cu 0 (2 ^ 32), .deviceTrace cu true (2 ^ 32), 
     .deviceReadReg cu (2 ^ 32) 0, .deviceReadReg cu 0 (2 ^ 32), .deviceReset cu (2 ^ 32) none, .deviceReset cu 0 (some (2 ^ 32)), 
     .deviceTamperSetGrade cu (2 ^ 32) 0, .deviceTamperSetGrade cu 0 (2 ^ 32), .deviceTamperDisable cu (2 ^ 32) none ⟨0, 0⟩, 
     .sessionOpen cu (2 ^ 48) 0 0 0, .sessionOpen cu 0 (2 ^ 776) 0 0, .sessionOpen cu 0 0 (2 ^ 9472) 0, .sessionOpen cu 0 0 0 (2 ^ 256), 
     .sessionFinishTimeout (2 ^ 64) 0, .sessionFinishTimeout 0 8, .sessionIdleTimeout (2 ^ 64) 0, .sessionIdleTimeout 0 8, .modeSet cu (2 ^ 32), 
     .lifecycleProvision cu (2 ^ 384) 0 0, .lifecycleProvision cu 0 (2 ^ 32) 0, .lifecycleProvision cu 0 0 (2 ^ 64), 
     .lifecycleSecondLife cu (2 ^ 128) ⟨0, 0⟩ ⟨0, 0⟩, .transitSetRate cu (2 ^ 32), .rateChangeEffect (2 ^ 64), .twiddleTableBuilt (2 ^ 64), 
     .transitEnumerate cu (2 ^ 32), .ringEnableWrite (sup 0) 8, .ringRetry (2 ^ 64) 0, .ringRetry 0 8, .transitRejoin cu (2 ^ 32), 
     .autoRejoin (2 ^ 64) 0, .autoRejoin 0 8, .transitSetAssembly cu (2 ^ 32)] : List Instr).all (fun c => !c.wf) = true := by decide +kernel
theorem smoke_operands_2 : ([
    .transitAcceptRoster cu (2 ^ 32), .transitRead cu (2 ^ 32), .transitNodeRequest cu (2 ^ 32) 0 0 0 [], .transitNodeRequest cu 0 (2 ^ 32) 0 0 [], 
     .transitNodeRequest cu 0 0 (2 ^ 32) 0 [], .transitNodeRequest cu 0 0 0 (2 ^ 32) [], .trainDeparture (2 ^ 64) 0, .trainDeparture 0 8, 
     .sampleInstant (2 ^ 64), .trainReceived (2 ^ 64) 0 ⟨true, none, 0⟩ true, .trainReceived 0 8 ⟨true, none, 0⟩ true, 
     .trainReceived 0 0 ⟨true, some (2 ^ 64), 0⟩ true, .trainReceived 0 0 ⟨true, none, 2 ^ 32⟩ true, .frameReceived (2 ^ 64) 0 0 line0, 
     .frameReceived 0 8 0 line0, .frameReceived 0 0 (2 ^ 64) line0, .responseFrameReceived (2 ^ 64) 0 true [] [] [] [], 
     .responseFrameReceived 0 8 true [] [] [] [], .responseFrameReceived 0 0 true [2 ^ 32] [] [] [], .responseFrameReceived 0 0 true [] [1024] [] [], 
     .responseFrameReceived 0 0 true [] [] [1024] [], .responseFrameReceived 0 0 true [] [] [] [1024], .echoReply (2 ^ 64) 0 true line0 0, 
     .echoReply 0 8 true line0 0, .echoReply 0 0 true line0 (2 ^ 32), .echoSchedule (2 ^ 64) 0, .echoSchedule 0 8, .losDeclare (2 ^ 64) 0 true, 
     .losDeclare 0 8 true, .losClear (2 ^ 64) 0 true, .losClear 0 8 true, .breakSetReceived (2 ^ 64) 0 true true [], 
     .breakSetReceived 0 8 true true [], .breakSetReceived 0 0 true true [1024], .trainEndBTimeout (2 ^ 64) 0, .trainEndBTimeout 0 8, 
     .frameMissing (2 ^ 64) 0 0 0, .frameMissing 0 8 0 0, .frameMissing 0 0 32 0, .frameMissing 0 0 0 (2 ^ 64), .mailboxGo (sup 0) 8, 
     .mailboxTimeout (2 ^ 64) 0, .mailboxTimeout 0 8, .watermarkEval (2 ^ 64), .almanacChannelFault (2 ^ 64) 0, .almanacChannelFault 0 2, 
     .captureSetLateness cu (2 ^ 32) 0, .captureSetLateness cu 0 (2 ^ 32)] : List Instr).all (fun c => !c.wf) = true := by decide +kernel
theorem smoke_operands_3 : ([
    .captureReadEntries cu (2 ^ 32) 0 0 0, .captureReadEntries cu 0 (2 ^ 32) 0 0, .captureReadEntries cu 0 0 (2 ^ 64) 0, 
     .captureReadEntries cu 0 0 0 (2 ^ 64), .captureTimeMark cu (2 ^ 64) 0, .captureTimeMark cu 0 (2 ^ 32), .timeHi (2 ^ 64) 0, .timeHi 0 (2 ^ 64), 
     .uplinkSync (2 ^ 64) true ⟨line0, 0⟩ 0, .uplinkSync 0 true ⟨⟨false, [1024]⟩, 0⟩ 0, .uplinkSync 0 true ⟨line0, 18⟩ 0, 
     .uplinkSync 0 true ⟨line0, 0⟩ (2 ^ 63), .discHoldover (2 ^ 64), .fitCycle (2 ^ 64) [], .fitCycle 0 [2 ^ 32], .fitOverrun (2 ^ 64) 0, 
     .fitOverrun 0 (2 ^ 16), .pilotTimeout (2 ^ 64), .spectroSetBin cu (2 ^ 32) 0 0 0 0 0 0, .spectroSetBin cu 0 (2 ^ 32) 0 0 0 0 0, 
     .spectroSetBin cu 0 0 (2 ^ 32) 0 0 0 0, .spectroSetBin cu 0 0 0 (2 ^ 32) 0 0 0, .spectroSetBin cu 0 0 0 0 (2 ^ 32) 0 0, 
     .spectroSetBin cu 0 0 0 0 0 (2 ^ 32) 0, .spectroSetBin cu 0 0 0 0 0 0 (2 ^ 32), .spectroReadBinState cu (2 ^ 32) 0, 
     .spectroReadBinState cu 0 (2 ^ 32), .spectroReadImpedance cu (2 ^ 64) 0 0, .spectroReadImpedance cu 0 (2 ^ 32) 0, 
     .spectroReadImpedance cu 0 0 (2 ^ 32), .spectroReadFit cu (2 ^ 64), .spectroReadTemperature cu (2 ^ 64), .spectroPilotState cu (2 ^ 32), 
     .spectroLoadChemistry cu (2 ^ 32) [], .spectroSetNodeChemistry cu (2 ^ 64) 0, .spectroSetNodeChemistry cu 0 (2 ^ 32), 
     .spectroResetAverages cu (some (2 ^ 64)) 0 0, .spectroResetAverages cu none (2 ^ 32) 0, .spectroResetAverages cu none 0 (2 ^ 32), 
     .restCorrection (2 ^ 64) 0, .restCorrection 0 (2 ^ 16), .cellWatchEntry (2 ^ 64) 0 0, .cellWatchEntry 0 (2 ^ 16) 0, .cellWatchEntry 0 0 10, 
     .cellWatchExit (2 ^ 64) 0, .cellWatchExit 0 (2 ^ 16), .cellQuarantinePromotion (2 ^ 64) 0, .cellQuarantinePromotion 0 (2 ^ 16)] : List Instr).all (fun c => !c.wf) = true := by decide +kernel
theorem smoke_operands_4 : ([
    .limitPeriodBoundary (2 ^ 64), .limitTighten cu true (2 ^ 32) 0, .limitTighten cu true 0 (2 ^ 32), .limitRelax cu true (some (2 ^ 32)), 
     .limitSetPublication cu (2 ^ 32) 0 true, .limitSetPublication cu 0 (2 ^ 32) true, .estimLoadProfile cu (2 ^ 32) [], .estimRead cu (2 ^ 64) 0 0, 
     .estimRead cu 0 (2 ^ 32) 0, .estimRead cu 0 0 (2 ^ 32), .cellReadState cu (some (2 ^ 64)), .cellSetState cu (2 ^ 64) 0, 
     .cellSetState cu 0 (2 ^ 32), .balanceSetPolicy cu (2 ^ 32) 0 0, .balanceSetPolicy cu 0 (2 ^ 32) 0, .balanceSetPolicy cu 0 0 (2 ^ 32), 
     .estimSetAdapt cu true (2 ^ 32), .estimSetWatch cu (2 ^ 32) 0, .estimSetWatch cu 0 (2 ^ 32), .packSampleWrite (2 ^ 64) 0, 
     .packSampleWrite 0 (2 ^ 64), .intermediateSample (2 ^ 64) [], .intermediateSample 0 [2 ^ 125], .stuckDetect (2 ^ 64) 0, .stuckDetect 0 4, 
     .modfltSet (2 ^ 64) 0, .modfltSet 0 4, .modfltClear (2 ^ 64) 0, .modfltClear 0 4, .calibrationWrite (sup 0) (2 ^ 16), .pulseOutput (2 ^ 64), 
     .meterCalibrate cu (2 ^ 32) 0 0 0 0 0, .meterCalibrate cu 0 (2 ^ 32) 0 0 0 0, .meterCalibrate cu 0 0 (2 ^ 32) 0 0 0, 
     .meterCalibrate cu 0 0 0 (2 ^ 32) 0 0, .meterCalibrate cu 0 0 0 0 (2 ^ 32) 0, .meterCalibrate cu 0 0 0 0 0 (2 ^ 32), 
     .calibrateAverageDone (2 ^ 64), .meterSelectChannel cu (2 ^ 32), .meterSetCrosscheck cu true (2 ^ 32) 0 0, 
     .meterSetCrosscheck cu true 0 (2 ^ 32) 0, .meterSetCrosscheck cu true 0 0 (2 ^ 32), .meterReadWweTable cu (2 ^ 32), .meterSetRating cu (2 ^ 32) 0, 
     .meterSetRating cu 0 (2 ^ 32), .meterSetPulse cu true (2 ^ 32) 0, .meterSetPulse cu true 0 (2 ^ 32), .shutterSetContactor cu (2 ^ 32) true] : List Instr).all (fun c => !c.wf) = true := by decide +kernel
theorem smoke_operands_5 : ([
    .shutterSetLimpFloor cu (2 ^ 32), .shutterSetPrecharge cu (2 ^ 32) 0, .shutterSetPrecharge cu 0 (2 ^ 32), .shutterSetHazard cu (2 ^ 32) 0 0 0 0, 
     .shutterSetHazard cu 0 (2 ^ 32) 0 0 0, .shutterSetHazard cu 0 0 (2 ^ 32) 0 0, .shutterSetHazard cu 0 0 0 (2 ^ 32) 0, 
     .shutterSetHazard cu 0 0 0 0 (2 ^ 32), .shutterSetBleed cu (2 ^ 64) 0 0, .shutterSetBleed cu 0 (2 ^ 32) 0, .shutterSetBleed cu 0 0 (2 ^ 32), 
     .bleedRegisterWrite (sup 0) 8 0, .bleedRegisterWrite (sup 0) 0 32, .prechargeAutoOpen (2 ^ 64), .prechargeTimeout (2 ^ 64), 
     .hazardAssert (2 ^ 64) 0, .hazardAssert 0 4, .hazardClear (2 ^ 64) ⟨0, 0⟩, .hazardClear 0 ⟨4, 0⟩, .hazardClear 0 ⟨0, 2 ^ 64⟩, 
     .hazardOpen (2 ^ 64) 0, .hazardOpen 0 4, .hazardStuck (2 ^ 64) 0, .hazardStuck 0 4, .cfaultSet (2 ^ 64) 0, .cfaultSet 0 3, 
     .cfaultClear (2 ^ 64) 0, .cfaultClear 0 3, .chatterDeclare (2 ^ 64) 0, .chatterDeclare 0 3, .chatterEnd (2 ^ 64) 0 0 true, .chatterEnd 0 3 0 true, 
     .chatterEnd 0 0 (2 ^ 32) true, .blockAssembly (2 ^ 64), .sealComplete (2 ^ 64), .archiveEntryWrite (2 ^ 64) true, .archiveFault (2 ^ 64), 
     .archiveRetry (2 ^ 64) 0 true none, .archiveRetry 0 (2 ^ 32) true none, .ledgerReadSeals cu (2 ^ 64) 0, .ledgerReadSeals cu 0 (2 ^ 64), 
     .ledgerReadArchive cu (2 ^ 32) 0 0, .ledgerReadArchive cu 0 (2 ^ 64) 0, .ledgerReadArchive cu 0 0 (2 ^ 32), .ledgerAckOffload cu (2 ^ 32) 0, 
     .ledgerAckOffload cu 0 (2 ^ 64), .ledgerSetArchive cu (2 ^ 32) 0 0, .ledgerSetArchive cu 0 (2 ^ 32) 0] : List Instr).all (fun c => !c.wf) = true := by decide +kernel
theorem smoke_operands_6 : ([
    .ledgerSetArchive cu 0 0 (2 ^ 32), .ledgerHandoverPrepare cu (2 ^ 384), .swtrap (laneMv false 0) 16, .leRun (sup 0) 256, .leStep (sup 0) 256, 
     .leSuspend (sup 0) 256, .leSkip (sup 0) 256, .leReset (sup 0) 256, .streamReplay (sup 0) 256, .emuDepositArm (sup 0) 256, 
     .compositeMove (laneMv false 0) 64, .busLoadComplete (2 ^ 64) ⟨.lane 0, 0⟩, .busLoadComplete 0 ⟨.lane 256, 0⟩, 
     .busLoadComplete 0 ⟨.lane 0, 2 ^ 12⟩, .ltrapTaken (2 ^ 64) 0, .ltrapTaken 0 16, .ltrapAck (sup 0) 16, .dtCommit (sup 0) 16, .dtRetire (sup 0) 16, 
     .vceReset (sup 0) 16, .jobPromote (2 ^ 64) 0 0, .jobPromote 0 16 0, .jobPromote 0 0 32, .jobDeadlineMiss (2 ^ 64) 0 0, .jobDeadlineMiss 0 16 0, 
     .jobDeadlineMiss 0 0 32, .checkpointMiss (2 ^ 64) 0, .checkpointMiss 0 256, .laneFault (2 ^ 64) 0 0 none, .laneFault 0 256 0 none, 
     .laneFault 0 0 (2 ^ 8) none, .laneFault 0 0 0 (some (2 ^ 32)), .vceFault (2 ^ 64) 0, .vceFault 0 16, .pairMismatch (2 ^ 64) 0 0, 
     .pairMismatch 0 2 0, .pairMismatch 0 0 (2 ^ 32), .holdOverrun (2 ^ 64) 0, .holdOverrun 0 2, .interruptTaken (2 ^ 64) 0, .interruptTaken 0 2, 
     .sliceSwitch (2 ^ 64), .regionCommit (sup 0) 8 0, .regionCommit (sup 0) 0 8, .gateEntryCommit (sup 0) 16, .violationPop (sup 0) 2, 
     .windowCommit (sup 0) 16, .complementaryPairFault (2 ^ 64) 0 0] : List Instr).all (fun c => !c.wf) = true := by decide +kernel
theorem smoke_operands_7 : ([
    .complementaryPairFault 0 7 0, .complementaryPairFault 0 0 (2 ^ 16), .sramControllerFault (2 ^ 64) 0 true true, .sramControllerFault 0 8 true true, 
     .d2dSessionStart (2 ^ 64), .d2dHelloReply (2 ^ 64) 0 0, .d2dHelloReply 0 (2 ^ 128) 0, .d2dHelloReply 0 0 (2 ^ 64), 
     .d2dTransfer (2 ^ 64) 0 0 true [], .d2dTransfer 0 (2 ^ 64) 0 true [], .d2dTransfer 0 0 (2 ^ 64) true [], .d2dTransfer 0 0 0 true [2 ^ 32], 
     .flashOpProgram (sup 0) (some (8)), .flashOpErase (sup 0) (some (8)), .flashOpVerify (sup 0) (some (8)), .flashOpSelect (sup 0) (some (8)), 
     .flashOpComplete (2 ^ 64) ⟨none, false⟩, .flashOpComplete 0 ⟨some (2 ^ 32), false⟩, .flashResume (2 ^ 64) 0, .flashResume 0 8, 
     .flashRead cu (2 ^ 32) 0, .flashRead cu 0 (2 ^ 32), .flashProgram cu (some (2 ^ 32)) 0 [], .flashProgram cu none (2 ^ 32) [], 
     .flashErase cu (some (2 ^ 32)) 0 0, .flashErase cu none (2 ^ 32) 0, .flashErase cu none 0 (2 ^ 32), .flashVerify cu (2 ^ 32) 0 0 [], 
     .flashVerify cu 0 (2 ^ 32) 0 [], .flashVerify cu 0 0 (2 ^ 32) [], .flashActivateTwin cu (some (2 ^ 32)) true 0, 
     .flashActivateTwin cu none true (2 ^ 32), .cellarEntryCommit (2 ^ 64), .cellarDieReset (2 ^ 64), .incidentTimeout (2 ^ 64), 
     .vresThreshold (2 ^ 64) 0, .vresThreshold 0 (2 ^ 16), .backupPowerLoss (2 ^ 64), .cellarReadEntries cu (2 ^ 32) 0, 
     .cellarReadEntries cu 0 (2 ^ 32), .cellarReadSeals cu (2 ^ 64) 0, .cellarReadSeals cu 0 (2 ^ 64), .keyPortWrite (sup 0) (2 ^ 16), 
     .stagingTimeout (2 ^ 64) 0, .stagingTimeout 0 3, .cipherClaim (sup 0) 5, .cipherClaimLapse (2 ^ 64) 0, .cipherClaimLapse 0 5] : List Instr).all (fun c => !c.wf) = true := by decide +kernel
theorem smoke_operands_8 : ([
    .cipherOperation (sup 0) 5, .cipherOperationDone (2 ^ 64) 0, .cipherOperationDone 0 5, .entropySourceFail (2 ^ 64) 0 true, 
     .entropySourceFail 0 3 true, .starterReseed (2 ^ 64) 0, .starterReseed 0 24, .rngRead (2 ^ 64) 0 0 ⟨true, 0⟩ 0, .rngRead 0 8 0 ⟨true, 0⟩ 0, 
     .rngRead 0 0 256 ⟨true, 0⟩ 0, .rngRead 0 0 0 ⟨true, 24⟩ 0, .rngRead 0 0 0 ⟨true, 0⟩ (2 ^ 12), .keysGenerate cu (2 ^ 32), 
     .keysReadPublic cu (2 ^ 32), .keysRaiseEpoch cu (2 ^ 32), .tamperTrip (2 ^ 64) 0 0, .tamperTrip 0 (2 ^ 16) 0, .tamperTrip 0 0 (2 ^ 16), 
     .tamperClear (2 ^ 64) 0 0, .tamperClear 0 (2 ^ 16) 0, .tamperClear 0 0 (2 ^ 16), .tamperSelfTest (2 ^ 64) true, .tamperTestTimeout (2 ^ 64), 
     .backupTamperResponse (2 ^ 64) 0 0, .backupTamperResponse 0 (2 ^ 16) 0, .backupTamperResponse 0 0 (2 ^ 16), .backupTamperTest (2 ^ 64) true, 
     .packetReceived (2 ^ 64) 0, .packetReceived 0 5, .replyIssue (sup 0) 2, .spiWrite (2 ^ 64) 0 [], .spiWrite 0 (2 ^ 16) [], .spiRead (2 ^ 64) true, 
     .spiStatus (2 ^ 64), .canFrameReceived (2 ^ 64) 0 0 true true [], .canFrameReceived 0 2 0 true true [], 
     .canFrameReceived 0 0 (2 ^ 29) true true [], .canReassemblyTimeout (2 ^ 64) 0, .canReassemblyTimeout 0 2, 
     .ethernetDatagramReceived (2 ^ 64) 0 true [], .ethernetDatagramReceived 0 (2 ^ 64) true [], .ethernetReassemblyTimeout (2 ^ 64) 0, 
     .ethernetReassemblyTimeout 0 (2 ^ 64), .arpRequest (2 ^ 64) 0 0, .arpRequest 0 (2 ^ 32) 0, .arpRequest 0 0 (2 ^ 48), .tracePacket (2 ^ 64), 
     .serviceActivation (2 ^ 64) 0] : List Instr).all (fun c => !c.wf) = true := by decide +kernel
theorem smoke_operands_9 : ([
    .serviceActivation 0 (2 ^ 16), .pps (2 ^ 64) 0 none, .pps 0 256 none, .pps 0 0 (some (256)), .serviceBlockReceived (2 ^ 64) 0 0 [] true true, 
     .serviceBlockReceived 0 256 0 [] true true, .serviceBlockReceived 0 0 (2 ^ 16) [] true true, .serviceCwtTimeout (2 ^ 64), .serviceBusy (2 ^ 64), 
     .resynch (2 ^ 64) [], .poll (2 ^ 64) [], .status (2 ^ 64) [], .unlock (2 ^ 64) [], .forcedErase (2 ^ 64) [], .areaRead (2 ^ 64) [], 
     .areaWrite (2 ^ 64) [], .serviceProbeRemoval (2 ^ 64) 0 true, .serviceProbeRemoval 0 (2 ^ 32) true, .serviceSetPassword cu (some (2 ^ 128)), 
     .serviceReadArea cu (2 ^ 32) 0, .serviceReadArea cu 0 (2 ^ 32), .serviceWriteArea cu (2 ^ 32) [], .fieldOn (2 ^ 64) 0 0, .fieldOn 0 (2 ^ 32) 0, 
     .fieldOn 0 0 (2 ^ 32), .fieldLoss (2 ^ 64), .reqa (2 ^ 64) true, .anticollision (2 ^ 64) 0 [], .anticollision 0 4 [], .hlta (2 ^ 64), 
     .rats (2 ^ 64) 0, .rats 0 256, .deselect (2 ^ 64), .tagInfo (2 ^ 64), .tagRead (2 ^ 64) 0 0, .tagRead 0 (2 ^ 16) 0, .tagRead 0 0 (2 ^ 16), 
     .tagWrite (2 ^ 64) 0 [] 0 none, .tagWrite 0 256 [] 0 none, .tagWrite 0 0 [] (2 ^ 32) none, .pwCheck (2 ^ 64) 0, .pwCheck 0 (2 ^ 128), 
     .tagSummary (2 ^ 64), .tagSeal (2 ^ 64) 0, .tagSeal 0 (2 ^ 64), .tagEntries (2 ^ 64) 0 0, .tagEntries 0 (2 ^ 32) 0, .tagEntries 0 0 (2 ^ 16)] : List Instr).all (fun c => !c.wf) = true := by decide +kernel
theorem smoke_operands_10 : ([
    .wiredItemWait (2 ^ 64), .rollForward (2 ^ 64) 0 0, .rollForward 0 (2 ^ 16) 0, .rollForward 0 0 (2 ^ 32), 
     .tagSetConfig cu true true true (2 ^ 32) none, .passportRead cu (2 ^ 32) 0, .passportRead cu 0 (2 ^ 32), .passportWrite cu (2 ^ 32) [], 
     .asmAnnounce (2 ^ 64) 0 0 0 0 0 0, .asmAnnounce 0 8 0 0 0 0 0, .asmAnnounce 0 0 (2 ^ 32) 0 0 0 0, .asmAnnounce 0 0 0 (2 ^ 16) 0 0 0, 
     .asmAnnounce 0 0 0 0 (2 ^ 8) 0 0, .asmAnnounce 0 0 0 0 0 (2 ^ 8) 0, .asmAnnounce 0 0 0 0 0 0 (2 ^ 64), .sealReq (2 ^ 64) 0, .sealReq 0 (2 ^ 64), 
     .assemblyFrameReceived (2 ^ 64) 0 true [] [], .assemblyFrameReceived 0 8 true [] [], .assemblyFrameReceived 0 0 true [1024] [], 
     .assemblyFrameReceived 0 0 true [] [1024], .managerLoss (2 ^ 64), .assemblySetRole cu (2 ^ 32) 0, .assemblySetRole cu 0 (2 ^ 32), 
     .assemblySetDeputy cu (2 ^ 32), .assemblySuccessionSeal cu (2 ^ 64) token0 ⟨0, 0⟩, .assemblyReadWorker cu (2 ^ 32), .dormantPowerOff (2 ^ 64), 
     .selftestRun cu (2 ^ 32) true none ⟨0, 0⟩, .selftestReadResult cu (2 ^ 32), .selftestTestComplete (2 ^ 64) [], .lockSet (sup 0) (2 ^ 32), 
     .counterClear (sup 0) (2 ^ 32), .registerWrite (sup 0) (2 ^ 32), .operandMove (laneMv false 0) 256, .jobRelease (2 ^ 64) 0 0, .jobRelease 0 16 0, 
     .jobRelease 0 0 32, .ksOperationDone (2 ^ 64), .sramBankInitialised (2 ^ 64) 0, .sramBankInitialised 0 8, .linkChanged (2 ^ 64) 0 true true, 
     .linkChanged 0 30 true true, .deactivation (2 ^ 64), .clockStop (2 ^ 64) true true, .rfBlockReceived (2 ^ 64) 0 [] true, 
     .rfBlockReceived 0 256 [] true, .rfPps (2 ^ 64) 0 0] : List Instr).all (fun c => !c.wf) = true := by decide +kernel
theorem smoke_operands_11 : ([
    .rfPps 0 4 0, .rfPps 0 0 4, .d2dLinkDrop (2 ^ 64), .commandFrame (2 ^ 64) true [] [] [], .commandFrame 0 true [1024] [] [], 
     .commandFrame 0 true [] [1024] [], .commandFrame 0 true [] [] [1024]] : List Instr).all (fun c => !c.wf) = true := by decide +kernel
set_option exponentiation.threshold 30000 in
/-- Byte strings too long for their length fields. -/
theorem smoke_lengths (n : Nat) (h : 2 ^ 16 ≤ n) : ([
    .transitNodeRequest cu 0 0 0 0 (List.replicate n 0), .spectroLoadChemistry cu 0 (List.replicate n 0), .estimLoadProfile cu 0 (List.replicate n 0), 
     .meterLoadWweTable cu (List.replicate n 0), .meterActivateWweTable cu (List.replicate n 0), .flashProgram cu none 0 (List.replicate n 0), 
     .flashVerify cu 0 0 0 (List.replicate n 0), .spiWrite 0 0 (List.replicate n 0), .canFrameReceived 0 0 0 true true (List.replicate n 0), 
     .ethernetDatagramReceived 0 0 true (List.replicate n 0), .serviceBlockReceived 0 0 0 (List.replicate n 0) true true, 
     .resynch 0 (List.replicate n 0), .poll 0 (List.replicate n 0), .status 0 (List.replicate n 0), .unlock 0 (List.replicate n 0), 
     .forcedErase 0 (List.replicate n 0), .areaRead 0 (List.replicate n 0), .areaWrite 0 (List.replicate n 0), 
     .serviceWriteArea cu 0 (List.replicate n 0), .tagWrite 0 0 (List.replicate n 0) 0 none, .passportWrite cu 0 (List.replicate n 0), 
     .assemblySucceed cu succ0 (List.replicate n 0) [] none, .assemblySucceed cu succ0 [] (List.replicate n 0) none, 
     .rfBlockReceived 0 0 (List.replicate n 0) true] : List Instr).all (fun c => !c.wf) = true := by
  have h2 : ¬ n < 2 ^ 16 := Nat.not_lt.mpr h
  simp [Instr.wf, fits, List.all_cons] at *
  omega

/-! ### Results that the spec gives as numbers -/

/-- The packets' statuses after a command. -/
def statuses (o : Out) : List Nat := match o with | .next u => u.cmd.tx.map (·.status) | _ => []
def after_ (o : Out) (f : State → Nat) : Nat := match o with | .next u => f u | _ => 0

/-- R29, its worked case. -/
theorem test_R29_locus : ({ State.reset with life := { LifeState.reset with assembly := 258 } } : State).locus 6 12 4 0xA5 = 0x010201984A500000 := by decide +kernel
/-- R59. -/
theorem test_R59_stamp : stampOf 3 = 146484 ∧ instantAt 146484 = 3 ∧ instantAt 146483 = 2 := by decide +kernel
/-- R96, its worked case. -/
theorem test_R96_expanded : stampOf 175921 = 0x1FFFF5BE2 ∧ expand 0x200010000 0xFFFF5BE2 = some 0x1FFFF5BE2 := by decide +kernel
/-- R241 and R255: "#4 → LSU.LDP ; LSU.R → MAC.MUL" and "#0x10 → LIMM ; #0x00 → LSU.P", built from one slot over the other slot's bits. -/
theorem test_R241_word : Mv.wordTo ⟨0, .lane 0, 0, false, true, 4, 0x5828, 0⟩ 0x53 = 0x67045828 ∧ Mv.wordTo ⟨0, .lane 0, 1, false, false, 0x28, 0x67040000, 0⟩ 0x4C = 0x67045828 ∧
    Mv.wordTo ⟨0, .lane 0, 0, false, true, 0x10, 0x6300, 0⟩ 0x5D = 0x7B106300 := by decide +kernel
/-- R36: a contactor close requested in Provisioning mode on a Provisioned part is a mode refusal. -/
theorem test_R36_mode_refusal : statuses (exec (.shutterSetContactor cu 0 true) (part 0 1)) = [0x0204] := by decide +kernel
/-- R331, its worked case: context 1 commits window 2 over flash as execute-only, of the operator. -/
def staged2 : State := { part 2 1 with gates := { GateState.reset with staged := setAt (List.replicate 16 0) 2 0x0408000C#32 } }
theorem test_R331_window : after_ (exec (.windowCommit ⟨0, 1, 0, 1, 0x040BF001, 0⟩ 2) staged2) (fun u => u.regN (r_TG_WIN_LO 2)) = 0x0408000C ∧
    after_ (exec (.windowCommit ⟨0, 1, 0, 1, 0x040BF001, 0⟩ 2) staged2) (fun u => u.regN (r_TG_WIN_HI 2)) = 0x040BF001 ∧
    after_ (exec (.windowCommit ⟨0, 1, 0, 2, 0x040BF001, 0⟩ 2) staged2) (fun u => u.fget (f_TG_WIN_HI_EN 2)) = 0 := by decide +kernel
/-- R326, R329: a data read of that window is denied with reason 3 to the operator's log, a fetch by its supervisor admitted once TG_PERM grants X. -/
def window2 : State := (part 2 1).fputs [(f_TG_WIN_LO_BASE 2, 0x04080), (f_TG_WIN_LO_XO 2, 1), (f_TG_WIN_LO_OWNER 2, 1), (f_TG_WIN_HI_LAST 2, 0x040BF), (f_TG_WIN_HI_EN 2, 1)]
theorem test_R326_read : gateCheck window2 ⟨0, 3, 2, 7, 0x04080000⟩ = some 3 ∧ (window2.spineRead ⟨0, 3, 2, 7, 0x04080000⟩ 0).1.fget (f_TG_VSTAT_DEPTH 1) = 1 ∧
    gateCheck (window2.setRegN (r_TG_PERM 82) 0x4000) ⟨2, 3, 2, 7, 0x04080000⟩ = none := by decide +kernel
/-- R244: −1 × 2 is −2 in 72 bits, and OV stays clear; the greatest sum leaves s72. -/
theorem test_R244_mac : (macReal (0, false) false 0xFFFFFFFF#32 2#32) = (2 ^ 72 - 2, false) ∧ macReal (2 ^ 71 - 1, false) true 1#32 1#32 = (2 ^ 71, true) := by decide +kernel
/-- R512: a second fault of a class in service is queued one severity higher, ESCALATED. -/
def inService : State := { part 2 1 with flt := { FaultState.reset with queue := [⟨0, 1, 1, 0x20, 37, 0xFFFF, 0, 0⟩] } }
theorem test_R512_escalated : (inService.takeFault 1 1 53 0 0).flt.queue.map (fun x => (x.sev, x.rflags, x.unit)) = [(1, 0x20, 37), (2, 1, 53)] := by decide +kernel
/-- R460: the eighth wrong password locks the port out. -/
theorem test_R460_lockout : (match exec (.unlock 0 (zeros 8)) (withSvc { atrOn with password := some 1, attempts := 7 }) with
    | .next u => u.svc.lockout && u.svc.attempts == 8 | _ => false) = true := by decide +kernel
/-- The queue: the front command runs and leaves it. -/
theorem test_step_takes_front : (match step { part 2 1 with pending := [.limitRead cu, .modeRead cu] } with | .next u => u.pending.length + 10 * u.cmd.tx.length | _ => 0) = 11 := by
  decide +kernel
theorem witness_StepKeepsCanonical : State.reset.Canonical := ⟨rfl, rfl, rfl⟩

/-! ### States and operands that meet the statements' hypotheses -/

theorem witness_CellarRecordCompletes :
    admitted (part 2 1) (sup 1) r_CEL_CTRL = true ∧
    admitted (part 2 1) (sup (2 ^ 31)) r_CEL_WCMD = true ∧
    bit (sup (2 ^ 31)).value 31 = true ∧
    bit (sup 0).value 31 = false ∧
    admitted (part 2 1) (sup 0) r_CEL_WCMD = true ∧
    (State.reset).cel.incident = none ∧
    [0x0C01, 0x0C02, 0x0C03, 0x0C04].all (passes (part 2 1) cu) = true ∧
    newestEntry { CellarState.reset with record := [(256, ⟨⟨0, 7, 1, 0, 0, []⟩, true, true, true⟩)] } = some ⟨0, 7, 1, 0, 0, []⟩ ∧
    (mirrorSeals { CellarState.reset with mirror := [(5, 5, [])] } 5 5).length = 5 + 1 - 5 := by decide +kernel

theorem witness_KeyStoreOperationsComplete :
    admitted State.reset (sup 0) r_KS_CMD = true ∧
    State.reset.isSet f_KS_CMD_GO = false ∧
    State.reset.keys.op = none ∧
    clsWorld (sup 0).cls = 1 ∧
    slotRefusal State.reset 1 8 ≠ OK ∧
    slotRefusal keyed12 1 12 = OK ∧
    slotStatus keyed12 12 = OK ∧
    slotStatus keyed12 13 = OK ∧
    keyed12.slotEpoch 12 ≠ 0xFFFFFFFF ∧
    (admitted State.reset (opSup 0) (0x70000000 + 60) = true ∨ clsWorld (opSup 0).cls = 2) ∧
    admitted State.reset (sup 0) 0x70000000 = true ∧
    loadRefusal keyed12 false 1 12 4 3 32 = OK ∧
    loadRefusal keyed12 false 1 12 4 2 32 ≠ OK ∧
    loadKeyRefusal (keyed12.fput (f_CB_CLAIM_WORLD 0) 1) false 1 0 8 ≠ OK ∧
    loadKeyRefusal (keyed12.fput (f_CB_CLAIM_WORLD 0) 1) false 1 0 20 = OK ∧
    (at! State.reset.keys.staging 0 (zeros 64, 0)).2 + ticksPerMs ≤ 2 ^ 65 := by decide +kernel

theorem witness_KeyStoreOperationsComplete_2 :
    keyed12.isSet f_CUL_STATUS_NOSEED = false ∧
    ({ State.reset with keys := { KeyState.reset with op := some (4, 5, 0) } } : State).keys.op = some (4, 5, 0) ∧
    State.reset.keys.raising = [] ∧
    ({ KeyState.reset with raising := [(5, cu)] } : KeyState).raising = (5, cu) :: [] ∧
    3 ≤ (slotRefusal State.reset 1 8) := by decide +kernel

theorem witness_CipherAndCultureComplete :
    [0, 2, 3].all (fun b => admitted (dep [(f_CB_CLAIM_WORLD 2, 1), (f_CB_CLAIM_WORLD 3, 1)]) (sup 0) (r_CB_CMD b)) = true ∧
    admitted State.reset (sup 1) (r_CB_CLAIM 2) = true ∧
    State.reset.claim 2 = 0 ∧
    clsWorld (sup 1).cls = (sup 1).value % 4 ∧
    admitted (dep [(f_CB_CLAIM_WORLD 3, 1)]) (sup 0) (r_CB_CLAIM 3) = true ∧
    (dep [(f_CB_CLAIM_WORLD 3, 1)]).claim 3 = clsWorld (sup 0).cls ∧
    State.reset.isSet (f_CB_CMD_BUSY 2) = false ∧
    cipherStatus State.reset 2 0 ≠ OK ∧
    cipherStatus State.reset 2 1 = OK ∧
    (State.reset.cipher 2).busy = none ∧
    (State.reset.cipher 2).lastEnd + 10 * ticksPerMs ≤ (later 3906250 State.reset).now ∧
    (State.reset.source 2).excluded = false ∧
    State.reset.isSet f_CUL_STATUS_NOSEED = false ∧
    gateCheck State.reset ⟨0, 1, 0, 0, r_CUL_RNG 0⟩ = none ∧
    gateCheck State.reset ⟨0, 5, 15, 0, r_CUL_VRNG 15⟩ = none ∧
    (State.reset.starter 23).requests < 2 ^ 20 := by decide +kernel

theorem witness_CipherAndCultureComplete_2 :
    damaged State.reset ⟨0, 1, 0, 0, r_CUL_RNG 0⟩ 0 0 = false ∧
    damaged State.reset ⟨0, 1, 0, 0, r_CUL_RNG 0⟩ 0 1 = true ∧
    gateCheck State.reset ⟨0, 3, 0, 7, r_CUL_RNG 0⟩ ≠ none ∧
    bit (sup 0).value 31 = false ∧
    bit (sup (2 ^ 31)).value 31 = true ∧
    admitted (dep [(f_CB_CLAIM_WORLD 2, 1)]) (sup (2 ^ 31)) (r_CB_CMD 2) = true ∧
    (dep [(f_CB_CMD_BUSY 2, 1)]).isSet (f_CB_CMD_BUSY 2) = true ∧
    admitted (dep [(f_CB_CMD_BUSY 2, 1), (f_CB_CLAIM_WORLD 2, 1)]) (sup 0) (r_CB_CMD 2) = true := by decide +kernel

theorem witness_KeyCommandsComplete :
    [0x0801, 0x0802, 0x0803, 0x0804, 0x0805, 0x0806, 0x0807].all (passes (part 2 1) cu) = true ∧
    (part 2 1).lc = 1 ∧
    fixedUse 12 = some (4, 3, 1, 1) ∧
    fixedUse 19 = some (8, 5, 2, 4) ∧
    (part 2 1).slotWorld 12 = worldOf cu ∧
    (part 2 1).slotWorld 19 = worldOf op ∧
    roleSlots 2 = some (15, some 16) ∧
    (part 2 1).slotWorld 15 = worldOf cu ∧
    (part 2 1).cel.reest = false ∧
    slotStatus keyed12 13 = OK ∧
    keyed12.slotWorld 4 = worldOf cu ∧
    keyed12.slotEpoch 4 ≠ 0xFFFFFFFF ∧
    loadRefusal keyed12 false 1 12 4 3 (algLen 1) = OK := by decide +kernel

theorem witness_TamperCompletes :
    State.reset.isSet f_TMP_CTRL_LOCK = false ∧
    admitted State.reset (sup 0) r_TMP_GRADE = true ∧
    lowers State.reset 0 = true ∧
    lowers State.reset 0xFFFFFFF = false ∧
    (dep [(f_TMP_CTRL_LOCK, 1)]).isSet f_TMP_CTRL_LOCK = true ∧
    admitted (dep [(f_TMP_CTRL_LOCK, 1)]) (sup 0) r_TMP_GRADE = true ∧
    [0x0120, 0x0121, 0x0122].all (passes (part 2 1) cu) = true ∧
    (part 2 1).srcDisabled 13 = false ∧
    passes (part 0 0) prov 0x0122 = true ∧
    (part 0 0).lc = 0 ∧
    worldOf cu = 1 ∧
    ({ State.reset with pwr := { State.reset.pwr with up := false } } : State).alive = false := by decide +kernel

theorem witness_TransportsComplete :
    (dep [(f_CMD_CTRL_EN, 1)]).isSet f_CMD_CTRL_EN = true ∧
    (dep [(f_XP_CTRL_EN 0, 1)]).isSet (f_XP_CTRL_EN 0) = true ∧
    rxReady (part 2 1) = true ∧
    rxReady { part 2 1 with cmd := { CmdState.reset with rx := [⟨0, 0, []⟩] } } = false ∧
    (zeros 32).length = 32 ∧
    ([⟨0, 0, 0x0101, 1, 1, 0, false, false, 0, [], []⟩] : List Reply).find? (fun x => x.path == 0) = some ⟨0, 0, 0x0101, 1, 1, 0, false, false, 0, [], []⟩ ∧
    (part 2 1).cmd.tx.find? (fun x => x.path == 0) = none ∧
    (dep [(f_XP_CTRL_EN 2, 1)]).isSet (f_XP_CTRL_EN (1 + 1)) = true ∧
    at! ([none, some ⟨0, 0, [], 0⟩] : List (Option Reassembly)) 1 none = some ⟨0, 0, [], 0⟩ ∧
    0 + 50 * ticksPerMs < (later (2 ^ 30) (part 2 1)).now ∧
    (dep [(f_XP_CTRL_EN 3, 1)]).isSet (f_XP_CTRL_EN 3) = true ∧
    bit ((dep []).regN (r_XP_CFG3 3)) 8 = true ∧
    admitted State.reset (sup (2 ^ 31 + 4)) (r_CMD_RPLY_CTL 0) = true ∧
    admitted State.reset (opSup (2 ^ 31 + 4)) (r_CMD_RPLY_CTL 1) = true ∧
    (2 ^ 31 + 65535) % 2 ^ 17 = 65535 ∧
    (dep []).isSet (f_XP_CTRL_EN 0) = false := by decide +kernel

theorem witness_TransportsComplete_2 :
    ({ CmdState.reset with rx := [⟨2, 0, []⟩] } : CmdState).rx.find? (fun x => x.path == 2) = some ⟨2, 0, []⟩ ∧
    (part 2 1).cmd.rx.find? (fun x => x.path == 2) = none ∧
    (part 2 1).cmd.trace = none := by decide +kernel

theorem witness_SessionsAndDeviceComplete :
    [0x0101, 0x0102, 0x0103, 0x0104, 0x0105, 0x0112, 0x0113].all (passes (part 2 1) cu) = true ∧
    (part 2 1).cmd.trace = none ∧
    passes (part 2 1) fin 0x0111 = true ∧
    freeSlot (part 2 1) 1 = some 4 ∧
    freeSlot (part 2 1) 2 = some 3 ∧
    passes (dep [(f_XP_CTRL_WORLDS 0, 3)]) ⟨0, 0, 8, 1, 0⟩ 0x0110 = true ∧
    ((part 2 1).session 2).phase = 1 ∧
    ((part 2 1).session 2).last + 10 * ticksPerS ≤ 10 * ticksPerS ∧
    ((part 2 1).session 1).phase = 2 ∧
    admitted State.reset (sup 1) r_FLT_ACK = true ∧
    presented [⟨0, 1, 1, 0, 0, 0, 0, 0⟩] = some ⟨0, 1, 1, 0, 0, 0, 0, 0⟩ ∧
    ({ CmdState.reset with sessions := List.replicate 8 { freeSession with phase := 2, world := 1 } } : CmdState).sessions.length = 8 ∧
    freeSlot ({ part 2 1 with cmd := { CmdState.reset with sessions := List.replicate 8 { freeSession with phase := 2, world := 1 } } }) 1 = none ∧
    bit (sup 0).value 0 = false ∧
    presented [] = none ∧
    cu.slot < (part 2 1).cmd.sessions.length := by decide +kernel

theorem witness_SessionsAndDeviceComplete_2 :
    (0x40010000 % 4) = 0 := by decide +kernel

theorem witness_RingCommandsComplete :
    [0x0301, 0x0302, 0x0303, 0x0304, 0x0305, 0x0306, 0x0307, 0x0310, 0x0311, 0x0312].all (passes (part 2 1) cu) = true ∧
    (part 2 1).tr.pending = none ∧
    (part 2 1).locked r_TRG_CTRL = false ∧
    (ring1 4 []).ringState 1 = 4 ∧
    mailboxBusy (part 2 1) 7 = false ∧
    (part 2 1).locked (r_ALM_SRC_CFG 7) = false ∧
    stampOf ((part 2 1).alm.inst - 1023) ≤ 0 ∧
    admitted State.reset (sup 1) (r_TR_CTRL 7) = true ∧
    State.reset.isSet (f_TR_CTRL_EN 7) = false ∧
    (State.reset.writeWord (r_TR_CTRL 7) 1).isSet (f_TR_CTRL_EN 7) = true ∧
    admitted State.reset (sup (2 ^ 31)) (r_TR_CMD_HDR 7) = true ∧
    admitted State.reset (sup 3) r_TRG_CTRL = true ∧
    bit 3 8 = false ∧
    admitted State.reset (sup 2047) r_ALM_LQ_ACK = true ∧
    (part 2 1).isSet f_TRG_CTRL_UPLINK = false ∧
    bit 0x110 8 = true := by decide +kernel

theorem witness_RingCommandsComplete_2 :
    0x110 / 16 % 16 ≠ 0 ∧
    (sup 0).value / 16 % 16 = 0 := by decide +kernel

theorem witness_RingEventsComplete :
    (ring1 5 []).ringState 1 = 5 ∧
    ((ring1 5 []).ring 1).started + 100 * ticksPerMs ≤ (later (2 ^ 40) (ring1 5 [])).now ∧
    (ring1 3 [(f_TR_CMD_HDR_BUSY 1, 1), (f_TR_CMD_HDR_OPC 1, 9), (f_TR_CMD_HDR_ADDR 1, 15)]).isSet (f_TR_CMD_HDR_BUSY 1) = true ∧
    (ring1 3 [(f_TR_CMD_HDR_OPC 1, 9)]).fget (f_TR_CMD_HDR_OPC 1) = 9 ∧
    (ring1 3 []).isSet (f_TR_CMD_HDR_BUSY 1) = false ∧
    (ring1 3 []).isSet (f_TR_BREAK_ACTIVE 1) = false ∧
    (ring1 3 []).running 1 = true ∧
    (ring1 4 [(f_TR_CTRL_AUTOREJOIN 1, 1)]).isSet (f_TR_CTRL_AUTOREJOIN 1) = true ∧
    ((ring1 4 []).ring 1).rejoin = none ∧
    ((ring1 4 []).ring 1).nodeReq = none ∧
    (dep [(f_TRG_CTRL_UPLINK, 1)]).isSet f_TRG_CTRL_UPLINK = true ∧
    responseOf (lineChars (line (responseChars 15 1 0 (zeros 16)))) = some (15, 1, 0, zeros 16) ∧
    responseOf (lineChars (line [])) = none ∧
    echoOf (lineChars (line (echoSet 15))) = some 15 ∧
    echoOf (lineChars (line (echoSet 16))) = some 16 ∧
    echoOf (lineChars (line [])) = none := by decide +kernel

theorem witness_RingEventsComplete_2 :
    breakOf (lineChars (line (breakSet 0 true))) = some (0, true) ∧
    breakOf (lineChars (line (breakSet 15 false))) = some (15, false) ∧
    breakOf (lineChars (line (breakSet 31 false))) = some (31, false) ∧
    breakOf (lineChars (line [])) = none ∧
    cellFrameOf (lineChars (line (frameChars kSOF (withCrc (padTo 62 [0x10#8]))))) = some (withCrc (padTo 62 [0x10#8])) ∧
    asmFrameOf (lineChars (line (frameChars kSOF (assemblyBytes 3 (zeros 56))))) = some (3, zeros 56, assemblyBytes 3 (zeros 56)) ∧
    cellFrameOf (lineChars (line (frameChars kSOF (assemblyBytes 3 (zeros 56))))) = none ∧
    cellFrameOf (lineChars (line [])) = none ∧
    asmFrameOf (lineChars (line [])) = none ∧
    (dep [(f_TR_CMD_HDR_BUSY 1, 1)]).isSet (f_TR_CMD_HDR_BUSY 1) = true ∧
    (dep []).isSet (f_TR_CMD_HDR_BUSY 1) = false ∧
    4 ≤ ({ (part 2 1).ring 1 with mbTrains := 4 }).mbTrains ∧
    (ring1 3 [(f_TR_BREAK_ACTIVE 1, 1)]).isSet (f_TR_BREAK_ACTIVE 1) = true ∧
    (ring1 2 []).running 1 = false := by decide +kernel

theorem witness_SpectrographCompletes :
    [0x0401, 0x0402, 0x0403, 0x0404, 0x0405, 0x0406, 0x0407, 0x0408, 0x0409, 0x040A].all (passes (part 2 1) cu) = true ∧
    (dep [(f_SPG_STATUS_PSTATE, 3)]).fget f_SPG_STATUS_PSTATE = 3 ∧
    admitted State.reset (sup 1) r_SPG_CTRL = true ∧
    State.reset.isSet f_SPG_CTRL_EN = false ∧
    (State.reset.writeWord r_SPG_CTRL 1).isSet f_SPG_CTRL_EN = true ∧
    ((dep [(f_SPG_CTRL_EN, 1)]).writeWord r_SPG_CTRL 0).isSet f_SPG_CTRL_EN = false ∧
    binRangeOk 127 127 = true ∧
    cellLocusOk cellLocus = true ∧
    (part 2 1).ownCell cellLocus = some 291 ∧
    cellLocusOk nodeLocus = true ∧
    locusCell nodeLocus = 0 ∧
    (part 2 1).ownCell nodeLocus = some 288 ∧
    chemOk ([0#8, 0#8, 0#8, 0#8] ++ (List.range 32).flatMap (fun i => leBytes 2 (i % 16)) ++ leBytes 4 10000 ++ leBytes 4 1000 ++ leBytes 4 1000 ++ leBytes 4 1000 ++ leBytes 4 100 ++ leBytes 4 10000) = true ∧
    (dep [(f_SPG_CTRL_EN, 1)]).isSet f_SPG_CTRL_EN = ((dep [(f_SPG_CTRL_EN, 1)]).writeWord r_SPG_CTRL 1).isSet f_SPG_CTRL_EN := by decide +kernel

theorem witness_MeterCompletes :
    [0x0501, 0x0502, 0x0503, 0x0504, 0x0505, 0x0506, 0x0507, 0x0508, 0x0509].all (passes (part 2 1) cu) = true ∧
    State.reset.isSet (f_MER_CH_STAT_STUCK 3) = false ∧
    (dep [(f_MER_CH_STAT_MODFLT 3, 1)]).isSet (f_MER_CH_STAT_MODFLT 3) = true ∧
    nextPackInstant (part 2 1) = some 0 ∧
    (dep [(f_MER_CTRL_PULSE_EN, 1)]).isSet f_MER_CTRL_PULSE_EN = true ∧
    admitted State.reset (sup 1) r_MER_CTRL = true ∧
    (State.reset.writeWord r_MER_CTRL 1).isSet f_MER_CTRL_EN = true ∧
    calOffset 0x78 = true ∧
    admitted State.reset (sup 0) (0x40090000 + 0x78) = true ∧
    calOffset 0xC = true ∧
    xcOk (100 * 65536 + 256 + 2) = true ∧
    admitted (part 1 2) (sup 0) (0x40090000 + 8) = true ∧
    (part 1 2).mode = 1 ∧
    (part 2 1).mer.cal = none ∧
    (dep [(f_MER_CH_DLY_ENABLE 1, 1)]).inputFaulted 1 = false ∧
    (part 2 1).isSet f_MER_STATUS_TPEND = false := by decide +kernel

theorem witness_MeterCompletes_2 :
    axesOk ((List.range 16).flatMap (fun i => leBytes 2 (i % 8))) = true ∧
    calOffset 0 = false ∧
    ({ MerState.reset with pulses := 1 } : MerState).pulses = 1 ∧
    ({ MerState.reset with pulseAt := some 5 } : MerState).pulseAt = some 5 ∧
    5 + 5 * ticksPerMs ≤ (later (2 ^ 30) (part 2 1)).now ∧
    (later 6 (part 2 1)).now < 5 + 5 * ticksPerMs ∧
    (dep []).isSet f_MER_CTRL_PULSE_EN = false := by decide +kernel

theorem witness_EstimatorsComplete :
    [0x0648, 0x0649, 0x064A, 0x064B, 0x064C, 0x064D, 0x064E, 0x064F].all (passes (part 2 1) cu) = true ∧
    keyed (cellAt 291 1).est.cells 291 = some { aCell with state := 1 } ∧
    passes (cellAt 291 2) cu 0x064B = true ∧
    at! persistence 9 1 ≤ at! aCell.fails 9 0 ∧
    keyed (part 2 1).est.cells 291 = none ∧
    cellLocusOk 1 = false ∧
    (part 2 1).ownCell cellLocus = some 291 ∧
    (cellAt 291 1).exitDue { aCell with state := 1 } = true ∧
    (cellAt 291 1).exitDue { aCell with state := 1, cleanFrom := 2 ^ 45 } = false ∧
    86400 ≤ (cellAt 291 1).watchTime { aCell with state := 1, cleanFrom := 2 ^ 45 } ∧
    (cellAt 291 1).ownCell cellLocus = some 291 ∧
    aCell.cleanFrom + 3600 * ticksPerS ≤ (cellAt 291 2).pnow ∧
    (part 2 1).ownCell (cellLocus + 2 ^ 48) = none ∧
    cellLocusOk (cellLocus + 2 ^ 48) = true := by decide +kernel

theorem witness_ShutterCommandsComplete :
    [0x0601, 0x0602, 0x0603, 0x0604, 0x0605, 0x0606, 0x0607].all (passes (part 2 1) cu) = true ∧
    limpOk 5 = true ∧
    limpOk 30 = true ∧
    preOk 20 10 = true ∧
    hazardOk 2 1000 100 255 = true ∧
    bleedOk 0xFF 0x80 = true ∧
    bleedOk 0x1FF 0x80 = false ∧
    (part 2 1).isSet f_SHT_CTRL_LOCK = false ∧
    [r_SHT_CTC_CMD, r_SHT_DERATE_CU, r_SHT_LIMP, r_SHT_BLEED 7 15].all (admitted (part 2 1) (sup 5)) = true ∧
    admitted (part 2 1) (opSup 1) r_SHT_DERATE_OP = true ∧
    0x102 % 4 = 2 ∧
    0x103 % 4 = 3 ∧
    admitted (part 2 1) (sup 0x103) r_SHT_CTC_CMD = true := by decide +kernel

theorem witness_ShutterEventsComplete :
    (dep [(f_SHT_STATUS_OUT, 4)]).outClosed 2 = true ∧
    (dep [(f_SHT_STATUS_OUT, 4)]).outClosed 0 = false ∧
    (part 2 1).sht.preAt ≤ (part 2 1).sht.mposAt ∧
    at! [0, never, never] 0 never ≠ never ∧
    (dep [(f_SHT_HZ_STAT_ASSERTED, 8)]).hazardOn 3 = true ∧
    (part 2 1).bitOf f_SHT_HZ_STAT_STUCK 3 = false ∧
    (dep [(f_SHT_CTRL_FBCHK, 1)]).isSet f_SHT_CTRL_FBCHK = true ∧
    (part 2 1).bitOf f_SHT_IN_STAT_CHATTER 2 = false ∧
    (dep [(f_SHT_STATUS_CFAULT, 4)]).bitOf f_SHT_STATUS_CFAULT 2 = true ∧
    (dep [(f_SHT_IN_STAT_CHATTER, 4)]).bitOf f_SHT_IN_STAT_CHATTER 2 = true ∧
    0 + (part 2 1).fget f_SHT_PRE_CFG_PRE_MAX * 10 * ticksPerMs ≤ 2 ^ 40 := by decide +kernel

theorem witness_LimitsComplete :
    [0x0640, 0x0641, 0x0642, 0x0643].all (passes (part 2 1) cu) = true ∧
    passes (part 2 1) op 0x0640 = true ∧
    [r_LIM_BASE_CHG, r_LIM_BASE_DIS, capReg (capIdx false true)].all (admitted (part 2 1) (sup 5)) = true ∧
    admitted (part 2 1) (opSup 5) (capReg (capIdx true false)) = true ∧
    lifeOk 1 = true ∧
    lifeOk 6000 = true ∧
    capRefused (part 2 1) true false 65535 = false ∧
    capRefused ((part 2 1).putCap (capIdx true false) (some (5, 9))) true false 6 = true ∧
    ((part 2 1).putCap (capIdx false false) (some (5, 9))).cap (capIdx false false) = some (5, 9) ∧
    (part 2 1).isSet f_LIM_CTRL_LOCK = false ∧
    [(0, 0x123, false), (1, 0x1FFFFFFF, true)].all (fun x => !namesChannelId (part 2 1) x.1 x.2.1 x.2.2) = true := by decide +kernel

theorem witness_FlashCompletes :
    [0x0A01, 0x0A02, 0x0A03, 0x0A04, 0x0A05, 0x0A06].all (passes (part 2 1) cu) = true ∧
    admitted (part 2 1) (sup (2 ^ 31 + 4)) r_FLC_CMD = true ∧
    (part 2 1).isSet f_FLC_CMD_BUSY = false ∧
    (dep [(f_FLC_CMD_BUSY, 1)]).isSet f_FLC_CMD_BUSY = true ∧
    [1, 2, 3, 4, 5].all (fun o => admitted (part 2 1) (sup (2 ^ 31 + o)) r_FLC_CMD && (2 ^ 31 + o) % 16 == o) = true ∧
    bit 4 31 = false ∧
    admitted (part 2 1) (sup 4) r_FLC_CMD = true ∧
    admitted (part 2 1) (sup 0xFF00) r_FLC_BANK = true ∧
    inFlash 0x04FFFFFF = true ∧
    (sectorsOf 0x04FFFFFF 1).all (fun a => (dep [(f_FLC_STATUS_RELEASED, 255)]).bitOf f_FLC_STATUS_RELEASED (bankOf a) && !((dep []).unsettledAt a)) = true ∧
    (part 2 1).fget f_CPR_STATUS_STAGE ≠ 3 := by decide +kernel

theorem witness_LedgerCompletes :
    [0x0701, 0x0702, 0x0703, 0x0704, 0x0705, 0x0706, 0x0707].all (passes (part 2 1) cu) = true ∧
    passes (part 2 2) cu 0x0708 = true ∧
    admitted (part 2 1) (sup 1) r_LDG_CTRL = true ∧
    arcRunning (dep [(f_LDG_STATUS_ARC_STATE, 1)]) = true ∧
    (dep [(f_LDG_STATUS_ARC_STATE, 2)]).fget f_LDG_STATUS_ARC_STATE = 2 ∧
    (part 2 1).ldg.jobs = [] ∧
    (part 2 1).ldg.sealAt = never ∧
    (part 2 1).ldg.head = none ∧
    at! (part 2 1).ldg.arc.logs 2 emptyLog = emptyLog ∧
    (part 2 1).ldg.arc.logs.all (fun l => l.entries.all (fun e => decide (e.lseq < l.ack))) = true ∧
    ({ part 2 2 with keys := keyed12.keys, cel := keyed12.cel } : State).lc = 2 ∧
    State.evidenceNow (keyed12.fputs [(f_LC_STATE_STATE, 2)]) = false ∧
    (arcRunning (part 2 1) = false ∨ (part 2 1).ldg.arc.queue = []) := by decide +kernel

theorem witness_EngineRegistersComplete :
    [r_LE_CTRL 255, r_LE_STR_POS 255, r_LE_EMU_CTL 255, r_VAT_DT_CMD 15, r_VAT_LTRAP 15, r_VAT_CTRL 15, r_CORE_RGN_HI 7 7, r_CORE_GATE 255 0, r_TG_VPOP 0, r_TG_VPOP 1, r_TG_WIN_HI 15, r_FLT_DECLARE].all (admitted (part 2 1) (sup 1)) = true ∧
    admitted (part 2 1) (opSup 1) (r_TG_VPOP 1) = true ∧
    ringCtx01 (wrAcc (sup 0) 0) = true ∧
    (part 2 1).isSet f_CORE_STATUS_WMODE = false ∧
    (part 2 1).isSet f_TG_CTRL_LOCK = false ∧
    generalArea 0x04000 = generalArea 0x04DBF ∧
    generalArea 0x04000 ≠ none ∧
    (2 ^ 31 + 15) / 2 ^ 30 % 4 = 2 ∧
    (2 ^ 30 + 255) / 2 ^ 30 % 4 = 1 := by decide +kernel

theorem witness_EngineEventsComplete :
    (part 2 1).pairLost 0 = false ∧
    (part 2 1).pairLost 1 = false := by decide +kernel

theorem witness_ServicePortCompletes :
    (withSvc atrOn).svcAt 0 = withSvc atrOn ∧
    svcRefusal (withSvc atrOn) 1 [] = none ∧
    svcRefusal (withSvc atrOn) 2 [] = none ∧
    svcRefusal (withSvc atrOn) 3 [] = none ∧
    svcRefusal (withSvc atrOn) 4 (zeros 8) = none ∧
    svcRefusal (withSvc atrOn) 5 (zeros 4) = none ∧
    svcRefusal (withSvc atrOn) 6 [63] = none ∧
    svcRefusal (withSvc atrOn) 7 (63 :: zeros 64) = none ∧
    atrOn.failures < 3 ∧
    atrOn.nsHost = 0 ∧
    atrOn.cmdOut = false ∧
    atrOn.writing = none ∧
    (withSvc atrOn).cel.main = true ∧
    [0x0D06, 0x0D07, 0x0D08, 0x0D09].all (passes (part 2 1) cu) = true ∧
    (withSvc SvcState.reset).svc.atr = false ∧
    3 ≤ ({ atrOn with failures := 3 }).failures := by decide +kernel

theorem witness_ServicePortCompletes_2 :
    ((255 : Nat) = 255 ∨ (zeros 3).length ≠ 255) ∧
    0x11 ≤ 0x13 ∧
    ¬ (15 = 14 ∧ 0x11 ≤ 0x11 ∧ 0x11 ≤ 0x13) ∧
    ({ atrOn with writing := some ⟨1, 0, [zeros 64]⟩ } : SvcState).writing = some ⟨1, 0, [zeros 64]⟩ := by decide +kernel

theorem witness_TagFieldCompletes :
    (withTag { TagState.reset with rf := 1 }).isSet f_TAG_CTRL_EN = true ∧
    ({ TagState.reset with rf := 2, level := 2 } : TagState).level = 2 ∧
    ({ TagState.reset with rf := 3, prot := true } : TagState).wtx = 0 ∧
    0 ≤ (withTag TagState.reset).fget f_TAG_CTRL_MAXRATE ∧
    rfFree (withTag { TagState.reset with cmd := [1] }) = false ∧
    (bitsLsb (cascade 1)).length = 40 ∧
    ((bitsLsb (cascade 2)).take 40).length = 40 ∧
    ({ TagState.reset with rf := 2, level := 1 } : TagState).level = 1 ∧
    ({ TagState.reset with rf := 3, wtx := 1 } : TagState).wtx = 1 ∧
    ({ TagState.reset with rf := 3, wtx := 2 } : TagState).wtx = 2 ∧
    ({ TagState.reset with rf := 3 } : TagState).prot = false ∧
    ([] : List Bool).length < 40 ∧
    (0x02 : Nat) ≠ 0xF2 ∧
    (withTag TagState.reset).tag.rf ≠ 3 := by decide +kernel

theorem witness_TagWiredCompletes :
    admitted (part 2 1) (sup 1) r_TAG_WCMD = true ∧
    [0x0D01, 0x0D02, 0x0D03, 0x0D04, 0x0D05].all (passes (part 2 1) cu) = true ∧
    (part 2 1).isSet f_TAG_CTRL_LOCK = false ∧
    (part 2 1).tag.lockout = false ∧
    groupBusy (part 2 1) = false ∧
    slotStatus keyed12 17 = OK ∧
    (zeros 128).length = 128 := by decide +kernel

theorem witness_ModesAndLifeCycleComplete :
    [0x0201, 0x0203, 0x0211, 0x0905].all (passes (part 2 1) cu) = true ∧
    [0x0212, 0x0213].all (passes (part 2 2) cu) = true ∧
    [0x0214, 0x0904].all (passes (part 2 1) cu) = true ∧
    passes (part 4 1) cu 0x0202 = true ∧
    passes (part 0 0) prov 0x0210 = true ∧
    modeSetRefusal (part 2 1) cu 0 = none ∧
    (part 2 2).lc = 2 ∧
    (part 2 2).mode = 2 ∧
    (part 2 2).life.transition = none ∧
    State.evidenceNow (keyed12.fputs [(f_LC_STATE_STATE, 2)]) = false ∧
    modeSetRefusal (part 2 1) cu 5 = none ∧
    (part 4 1).isSet f_MODE_STATUS_PVALID = false ∧
    (part 2 1).life.transition = none ∧
    (part 2 1).asm.ceded = 0 ∧
    freeEntry (part 2 2) = some 0 ∧
    (part 0 0).isSet f_CUL_STATUS_NOSEED = false := by decide +kernel

theorem witness_AssemblyCompletes :
    [0x0901, 0x0902, 0x0903, 0x0906].all (passes (part 2 1) cu) = true ∧
    (dep [(f_ASM_STATUS_ROLE, 2), (f_TRG_CTRL_UPLINK, 1)]).role = 2 ∧
    resuming (part 2 1) 1 = false ∧
    resuming (dep [(f_ASM_STATUS_ROLE, 1), (f_ASM_STATUS_DEMOTED, 1)]) 1 = true ∧
    (dep [(f_ASM_STATUS_ROLE, 3)]).role = 3 ∧
    (dep [(f_ASM_CTRL_PROMOTE_EN, 0)]).isSet f_ASM_CTRL_PROMOTE_EN = false ∧
    (dep [(f_TRG_CTRL_UPLINK, 1)]).isSet f_TRG_CTRL_UPLINK = true ∧
    (dep []).isSet f_TRG_CTRL_UPLINK = false ∧
    trainHead (lineChars (line (syncSet 0xFFFFFFFF 15 16))) = some ⟨false, 0xFFFFFFFF, 15, 16⟩ ∧
    trainHead (lineChars (line (collectSet 1 17))) = some ⟨true, 0, 1, 17⟩ ∧
    trainHead (lineChars (line [])) = none ∧
    commandOf (lineChars (line (commandChars 31 0x0F (zeros 16)))) = some (31, 0x0F, zeros 16) ∧
    syncsMissing (later 146485 (dep [(f_ASM_STATUS_ROLE, 2), (f_ASM_STATUS_DEPUTY, 1)])) = true ∧
    syncsMissing (part 2 1) = false ∧
    (dep [(f_ASM_STATUS_DEPUTY, 1)]).isSet f_ASM_STATUS_DEPUTY = true := by decide +kernel

theorem witness_PowerCompletes :
    (part 2 1).alive = true ∧
    (part 2 1).pwr.up = true ∧
    resetBoundary 0 ≤ ticksPerPeriod ∧
    (dep [(f_CPR_STATUS_STAGE, 1)]).fget f_CPR_STATUS_STAGE = 1 ∧
    0 + (part 2 1).fget f_CPR_START_TO_VALUE * ticksPerMs ≤ 2 ^ 40 ∧
    admitted (part 2 1) (sup 1) (r_CPR_DOM 319) = true ∧
    domainRefused (part 2 1) 0 = false ∧
    admitted (part 2 1) (sup 0x5A000000) r_CPR_RESET = true ∧
    0x5A010000 / 2 ^ 16 % 4 = 1 ∧
    passes (part 2 1) cu 0x0106 = true ∧
    ({ State.reset.pwr with armed := some 0 }).armed = some 0 ∧
    State.reset.pwr.armed = none ∧
    ([(0, 0, 5)] : List (Nat × Nat × Nat)).contains (0, 0, 5) = true ∧
    resetBoundary 5 ≤ (later (2 ^ 40) (part 2 1)).now ∧
    (part 2 1).now < resetBoundary 5 ∧
    admitted (part 2 1) (sup 0) r_CPR_RESET = true := by decide +kernel

theorem witness_SelfTestAndPeriodComplete :
    [0x0B01, 0x0B02, 0x0B03].all (passes (part 2 1) cu) = true ∧
    (part 2 1).lc = 1 ∧
    maskOk 2 = true ∧
    (OutBall.contactor 2).shutter = true ∧
    OutBall.derate.shutter = true ∧
    (part 2 1).tr.pending = none ∧
    ({ (part 2 1).tr with pending := some (2, 7) }).pending = some (2, 7) ∧
    (testsOf 2).any (isolationBusy (part 2 1)) = false ∧
    (part 2 1).bist.left = [] ∧
    passes (part 3 3) cu 0x0B01 = true ∧
    (testsOf 2).any isFull = false ∧
    recordsOf { part 2 1 with bist := { BistState.reset with records := [zeros 32] } } 0 ≠ [] ∧
    (part 2 1).lim.period < 3906250 / ticksPerPeriod := by decide +kernel

theorem witness_RegisterWritesComplete :
    admitted (part 2 1) (sup 0) 0x401F0004 = true ∧
    0x401F0004 / 0x10000 = 0x401F ∧
    plainMemory 0x10000000 = true ∧
    admitted (part 2 1) (sup 0) 0x100B7FFC = true ∧
    plainMemory 0x100B7FFC = true ∧
    lockReg 0x40070000 = some 0x40070000 ∧
    clrBit 0x40070000 ≠ none ∧
    0x401F0002 % 4 ≠ 0 ∧
    lockReg 0x40070004 ≠ some 0x40070004 ∧
    clrBit 0x40070004 = none ∧
    [0x40000000, 0x40160000, 0x40200000].all (admitted (part 2 1) (sup 0)) = true ∧
    (part 2 1).bankUp 0x100B7FFC = true ∧
    State.reset.bankUp 0x100B7FFC = false := by decide +kernel

theorem witness_MovesComplete :
    [0x41, 0x52, 0x54, 0x5C, 0x5D].all (fun d => moveIssues running (laneMv false 8) (Mv.wordTo (laneMv false 8) d)) = true ∧
    [0x41, 0x52, 0x61, 0x62, 0x71, 0x72].all (fun d => moveIssues running (vceMv 8) (Mv.wordTo (vceMv 8) d)) = true ∧
    [0x70, 0x73, 0x74, 0x76].all (fun d => moveIssues running (coreMv 8) (Mv.wordTo (coreMv 8) d)) = true ∧
    moveIssues running (vceMv 8) (Mv.wordSys (vceMv 8) 4) = true ∧
    (issueOn (atIssue running (laneMv false 8)) (laneMv false 8) (Mv.wordTo (laneMv false 8) 0x41)).trap.isNone = true ∧
    (issueOn (atIssue running (vceMv 8)) (vceMv 8) (Mv.wordTo (vceMv 8) 0x61)).trap.isNone = true ∧
    (issueOn (atIssue running (coreMv 8)) (coreMv 8) (Mv.wordTo (coreMv 8) 0x73)).trap.isNone = true ∧
    (expansion (atIssue running (vceMv 8)) 1 (issueOn (atIssue running (vceMv 8)) (vceMv 8) (Mv.wordTo (vceMv 8) 0x61)).posts).isNone = true ∧
    isVce (vceMv 8).eng = true ∧
    isCore (coreMv 8).eng = true ∧
    nameable (.lane 3) 0x61 = false ∧
    nameable (.lane 3) 0x1F = true := by decide +kernel

theorem witness_TrapsAndCompositesComplete :
    (moveWord (.swtrap (laneMv false 8) 15)).isSome = true ∧
    ((issueOn (atIssue running (laneMv false 8)) (laneMv false 8) (Mv.wordSys (laneMv false 8) 0x1F)).trap.map (·.cause)) = some 0x20 ∧
    ((issueOn (atIssue running (vceMv 8)) (vceMv 8) (Mv.wordSys (vceMv 8) 0x10)).trap.map (·.cause)) = some 0x20 ∧
    ((issueOn (atIssue running (coreMv 8)) (coreMv 8) (Mv.wordSys (coreMv 8) 0x10)).trap.map (·.cause)) = some 0x20 ∧
    ((issueOn (atIssue running (laneMv false 7)) (laneMv false 7) (Mv.wordTo (laneMv false 7) 0x52)).trap.map (·.cause)) = some 0x11 ∧
    moveIssues running (laneMv false 8) (Mv.wordSys (laneMv false 8) 0x1F) = true ∧
    moveIssues running (coreMv 8) (Mv.wordSys (coreMv 8) 0x10) = true ∧
    moveIssues running (laneMv false 7) (Mv.wordTo (laneMv false 7) 0x52) = true ∧
    (State.reset.lane 3).stat ≠ 1 ∧
    running.fget (f_LE_CODE_LIM_LIM 3) ≤ (laneOn.putLane 3 { laneOn.lane 3 with u := { Units.reset with pc := 0x1000 } } |>.lane 3).u.pc ∧
    (running.setUpset (physical (.lane 3) 0x40) 2).spoiled (physical (.lane 3) 0x40) = true ∧
    (expansion composite 1 (issueOn composite (vceMv 8) (Mv.wordTo (vceMv 8) 0xC0)).posts).isSome = true ∧
    moveIssues composite (vceMv 8) (Mv.wordTo (vceMv 8) (0xC0 + 0 % 64)) = true ∧
    (issueOn composite (vceMv 8) (Mv.wordTo (vceMv 8) 0xC0)).trap.isNone = true ∧
    ((running.putVat 1 { running.vat 1 with u := { Units.reset with busAddr := some (0x100B8000, 5, 0) } }).units (.vce 1)).busAddr = some (0x100B8000, 5, 0) ∧
    (running.units (.vce 1)).busAddr = none := by decide +kernel

theorem witness_TrapsAndCompositesComplete_2 :
    running.bankUp 0x100B8000 = true ∧
    State.reset.bankUp 0x100B8000 = false := by decide +kernel

theorem witness_SoleMoveResults :
    moveIssues running (laneMv true 8) (Mv.wordTo (laneMv true 8) 0x41) = true ∧
    (moveWord (.aluAdd (laneMv true 8))).isSome = true ∧
    soleValue (atIssue running (laneMv false 8)) (laneMv false 8) = some 8#32 ∧
    soleValue (atIssue running (vceMv 0x3F8)) (vceMv 0x3F8) = some 0xFFFFFFF8#32 ∧
    ((atIssue running (laneMv true 8)).units (.lane 3)).tick.preN = 0 ∧
    ((atIssue running (laneMv true 8)).units (.lane 3)).tick.g = true ∧
    ((atIssue running (laneMv true 8)).units (.lane 3)).tick.dslot = 0 ∧
    lsuCause running (.lane 3) false 8 false = none ∧
    soleValue (atIssue running ⟨0, .lane 3, 1, false, false, 1, 0, 0⟩) ⟨0, .lane 3, 1, false, false, 1, 0, 0⟩ = some 0x2000#32 ∧
    lsuCause running (.lane 3) false 0x2000 true = none ∧
    running.upsetsIn (physical (.lane 3) 8) 4 = [] ∧
    Units.reset.g = false ∧
    moveIssues running (laneMv false 8) (Mv.wordTo (laneMv false 8) 0x52) = true ∧
    moveIssues running (laneMv false 8) (Mv.wordTo (laneMv false 8) 0x54) = true := by decide +kernel

theorem witness_LaneBranches :
    moveIssues running (laneMv false 7) (Mv.wordTo (laneMv false 7) 0x5C) = true ∧
    soleValue (atIssue running (laneMv false 7)) (laneMv false 7) = some 7#32 ∧
    ((atIssue running (laneMv true 8)).lane 3).u.tick.pc + 16 < 2 ^ 32 ∧
    soleValue (atIssue running (laneMv false 0xFC)) (laneMv false 0xFC) = some 0xFFFFFFFC#32 := by decide +kernel

/-- StepTakesTheFront, EmptyQueueIdles, FinalLifeCycles; StepKeepsCanonical is met by the state after reset (`witness_StepKeepsCanonical`). -/
theorem witness_QueueStatements :
    ({ State.reset with pending := [.deviceIdentify cu] } : State).pending = .deviceIdentify cu :: [] ∧
    State.reset.pending = [] ∧
    fusedLc { LifeState.reset with frPair := (true, true) } = 5 ∧
    fusedLc { LifeState.reset with fuses := List.replicate 4 (true, true) } = 4 := by decide +kernel

theorem witness_RefusedCommandsReplyOnly :
    cmdOf (.limitRead cu) = some (cu, 0x0642) ∧
    pathCheck State.reset cu 0x0642 = some E_SESSION ∧
    (part 2 1).alive = true ∧
    worldCheck op 0x0641 = some E_WORLD ∧
    pathCheck (part 2 1) op 0x0641 = none ∧
    modeCheck (part 0 1) 0x0642 = some E_MODE ∧
    pathCheck (part 0 1) cu 0x0642 = none := by decide +kernel

theorem witness_DeniedWritesNotifyOnly :
    writeOf (.gradeWrite (opSup 0)) = some (opSup 0, r_TMP_GRADE) ∧
    gateCheck (part 2 1) (wrAcc (opSup 0) r_TMP_GRADE) = some 0 ∧
    gateCheck (dep [(f_CPR_DOM_RST 303, 1)]) (wrAcc (sup 0) r_SPG_CTRL) = none ∧
    outOfReach (dep [(f_CPR_DOM_RST 303, 1)]) r_SPG_CTRL = true ∧
    damaged (part 2 1) (wrAcc { sup 1 with noise := 1 } r_SPG_CTRL) 1 1 = true ∧
    damaged (part 2 1) (wrAcc (sup 1) r_SPG_CTRL) 1 0 = false ∧
    gateCheck (part 2 1) (wrAcc (opSup 0) (r_CORE_GATE 0 0)) = none ∧
    gateCheck (part 2 1) (wrAcc (opSup 0) (r_SHT_DERATE_CU)) = some 2 := by decide +kernel

theorem witness_DebugClassDenied :
    gateOf (part 2 1) 0 = some 64 ∧
    gateOf (part 1 2) 0x40040000 = some 4 ∧
    (part 1 2).lc = 2 ∧
    gateOf State.reset 0x70000FFC = some 76 := by decide +kernel

theorem witness_ExecuteOnlyWindows :
    windowOf (dep [(f_TG_WIN_LO_BASE 2, 0x04080), (f_TG_WIN_LO_XO 2, 1), (f_TG_WIN_HI_LAST 2, 0x040BF), (f_TG_WIN_HI_EN 2, 1)]) 0x040BFFFC = some 2 ∧
    gateOf (dep [(f_TG_WIN_LO_BASE 2, 0x04080), (f_TG_WIN_LO_XO 2, 1), (f_TG_WIN_HI_LAST 2, 0x040BF), (f_TG_WIN_HI_EN 2, 1)]) 0x04080000 = some 82 ∧
    isolated (part 2 1) 0x04080000 = false := by decide +kernel

theorem witness_PermissionWordDecides :
    gateOf (part 2 1) 0x40000000 = some 0 ∧
    gateOf (part 2 1) 0x04000000 = some 65 ∧
    gateOf (part 2 1) 0x100B7FFC = some 68 := by decide +kernel

theorem witness_NoticeLog :
    State.reset.fget (f_TG_VSTAT_DEPTH 1) = 0 ∧
    (dep [(f_TG_VSTAT_DEPTH 1, 8)]).fget (f_TG_VSTAT_DEPTH 1) = 8 ∧
    (noticeInfo 4 ⟨1, 3, 1, 7, 0⟩ 1 1 0) % 2 ^ 8 = 0 ∧
    (noticeInfo 255 ⟨1, 7, 255, 7, 0⟩ 3 1 3) < 2 ^ 32 := by decide +kernel

theorem witness_WritesFollowAccessCodes :
    (rowAt r_TG_CTRL).isSome = true ∧
    ((rowAt r_CORE_TSHARE).map (·.name)) = some "CORE_TSHARE" := by decide +kernel

theorem witness_UserAreaWindow :
    gateCheck (part 2 1) ⟨0, 1, 0, 0, 0x50142FFC⟩ = none ∧
    damaged (part 2 1) ⟨0, 1, 0, 0, 0x50142FFC⟩ 0 0 = false := by decide +kernel

theorem witness_SpareEnable :
    admitted (part 2 1) (sup 2) (r_VAT_CTRL 15) = true ∧
    (dep [(f_VAT_CTRL_EN 15, 1)]).fget (f_VAT_CTRL_EN 15) = 1 ∧
    (part 2 1).fget (f_VAT_CTRL_LOCK 0) = 0 ∧
    (part 2 1).fget (f_VAT_CTRL_SPARE_EN 0) = 1 := by decide +kernel

theorem witness_FaultQueue :
    (State.reset.flt.queue).length ≤ 32 ∧
    ([⟨0, 1, 1, 32, 37, 0, 0, 0⟩] : List FaultRec).find? (fun x => x.cls == 1 && bit x.rflags 5) = some ⟨0, 1, 1, 32, 37, 0, 0, 0⟩ ∧
    (⟨0, 1, 1, 32, 37, 0, 0, 0⟩ :: List.replicate 30 ⟨0, 2, 1, 0, 1, 0, 0, 0⟩ ++ [⟨0, 3, 2, 0, 1, 0, 0, 0⟩] : List FaultRec).length = 32 := by decide +kernel

theorem witness_LocusParameters :
    [0x0649, 0x064A, 0x064B, 0x0606, 0x0403, 0x0404, 0x0405, 0x0409, 0x040A].all (passes (part 2 1) cu) = true ∧
    locusOk (7 * 2 ^ 38 + 31 * 2 ^ 33 + 31 * 2 ^ 28) = true ∧
    locusOk (6 * 2 ^ 38 + 31 * 2 ^ 33 + 31 * 2 ^ 28) = false ∧
    locusOk (cellLocus + 1) = false ∧
    cellLocusOk (64 * 2 ^ 41) = true ∧
    cellLocusOk (65 * 2 ^ 41) = false := by decide +kernel

theorem witness_UnlockAttempts :
    svcLockedOut (withSvc atrOn) = false ∧
    svcLockedOut (withSvc { atrOn with lockout := true, attempts := 8 }) = true ∧
    ({ atrOn with password := some 0 } : SvcState).password = some (leNat (zeros 8)) := by decide +kernel


end Sys2Proof.Tests
end

/-!
PROOFS. Family 00_scope: what a well-formed locus parameter is (R10, R11), and the commands that check one before anything else of their chapter.
-/
namespace Sys2Proof.Machine

/-- A locus parameter as R11 and R27 refuse it, the channel codes of R27 apart. -/
def MalformedLocus (l : Nat) : Prop :=
  l % 2 ^ 20 ≠ 0 ∨ (16 ≤ locusNode l ∧ locusNode l ≤ 30) ∨ (16 ≤ locusCell l ∧ locusCell l ≤ 30) ∨
  (locusNode l = 31 ∧ locusCell l ≠ 31) ∨ (locusCell l = 31 ∧ locusNode l ≠ 31) ∨
  (locusNode l = 31 ∧ locusCell l = 31 ∧ locusRing l ≠ 7) ∨ l / 2 ^ 48 % 2 ^ 16 = 0xFFFF ∨ 65 ≤ l / 2 ^ 41 % 128

/-- A well-formed locus names the pack, or a node and a cell both below 16. -/
theorem locusOk_position {l : Nat} (h : locusOk l = true) :
    (locusRing l = 7 ∧ locusNode l = 31 ∧ locusCell l = 31) ∨ (locusNode l < 16 ∧ locusCell l < 16) := by
  simp only [locusOk, Bool.and_eq_true] at h
  obtain ⟨⟨-, hpos⟩, -⟩ := h
  split at hpos
  · left
    simp only [Bool.and_eq_true, beq_iff_eq] at hpos
    exact ⟨hpos.2, hpos.1⟩
  · right
    simpa [locusNode, locusCell] using hpos

/-- A well-formed locus has no reserved bit, and its assembly and device exist. -/
theorem locusOk_part {l : Nat} (h : locusOk l = true) :
    l % 2 ^ 20 = 0 ∧ l / 2 ^ 48 % 2 ^ 16 ≠ 0xFFFF ∧ l / 2 ^ 41 % 128 ≤ 64 := by
  simp only [locusOk, Bool.and_eq_true, decide_eq_true_eq, bne_iff_ne] at h
  obtain ⟨⟨⟨⟨⟨-, hres⟩, hasm⟩, hdev⟩, -⟩, -⟩ := h
  exact ⟨hres, hasm, hdev⟩

theorem locusOk_of_malformed {l : Nat} (h : MalformedLocus l) : locusOk l = false := by
  rw [Bool.eq_false_iff]
  intro hok
  have hpos := locusOk_position hok
  have hpart := locusOk_part hok
  unfold MalformedLocus at h
  omega

theorem cellLocusOk_of_malformed {l : Nat} (h : MalformedLocus l) : cellLocusOk l = false := by
  simp [cellLocusOk, locusOk_of_malformed h]

/-- R10: the locus words of the part are multiples of 2^20. -/
theorem State.locus_reserved (s : State) (ring node cell chan : Nat) : s.locus ring node cell chan % 2 ^ 20 = 0 := by
  unfold State.locus
  omega

/-- A command whose own first check fails is refused with that check's status. -/
theorem runCmd_first_refused (s : State) (r : Req) (op : Nat) (lc : Nat → Bool) (chk : State → List (Option Nat)) (eff : Effect) {e : Nat}
    {rest : List (Option Nat)} (hp : passes (s.at r.at_) r op = true) (hl : lc (s.at r.at_).lc = true)
    (hc : chk (s.at r.at_) = need false e :: rest) : runCmd s r op lc chk eff = (s.at r.at_).refuse r op e := by
  rw [runCmd_checks _ _ _ _ _ _ hp hl, hc]
  rfl

/-- A row that every life-cycle state permits, whose chapter's first check is of its locus parameter `l`, its first parameter: the check refuses a locus
that names no cell, and perhaps more. -/
def ChecksLocusFirst (c : Instr) (r : Req) (op l : Nat) : Prop :=
  ∀ s : State, ∃ chk eff, exec c s = .next (runCmd s r op anyLc chk eff) ∧
    ∀ t, ∃ ok rest, chk t = need ok (blame E_PARAM_RANGE 1) :: rest ∧ (cellLocusOk l = false → ok = false)

/-- Such a row refuses a locus that names no cell. -/
theorem ChecksLocusFirst.refuses {c : Instr} {r : Req} {op l : Nat} (hc : ChecksLocusFirst c r op l) (s : State)
    (hp : passes (s.at r.at_) r op = true) (hl : cellLocusOk l = false) :
    exec c s = .next ((s.at r.at_).refuse r op (blame E_PARAM_RANGE 1)) := by
  obtain ⟨chk, eff, hexec, hchk⟩ := hc s
  obtain ⟨ok, rest, hfirst, hok⟩ := hchk (s.at r.at_)
  rw [hok hl] at hfirst
  rw [hexec, runCmd_first_refused s r op anyLc chk eff hp rfl hfirst]

/-- The rows with a locus parameter (R141, R161, R204). -/
theorem checksLocusFirst_of_mem {c : Instr} {r : Req} {op l a b : Nat}
    (h : (c, op) ∈ [(Instr.estimRead r l a b, 0x0649), (.cellReadState r (some l), 0x064A), (.cellSetState r l a, 0x064B), (.shutterSetBleed r l a b, 0x0606),
      (.spectroReadImpedance r l a b, 0x0403), (.spectroReadFit r l, 0x0404), (.spectroReadTemperature r l, 0x0405), (.spectroSetNodeChemistry r l a, 0x0409),
      (.spectroResetAverages r (some l) a b, 0x040A)]) : ChecksLocusFirst c r op l := by
  simp only [List.mem_cons, Prod.mk.injEq, List.not_mem_nil, or_false] at h
  rcases h with ⟨rfl, rfl⟩ | ⟨rfl, rfl⟩ | ⟨rfl, rfl⟩ | ⟨rfl, rfl⟩ | ⟨rfl, rfl⟩ | ⟨rfl, rfl⟩ | ⟨rfl, rfl⟩ | ⟨rfl, rfl⟩ | ⟨rfl, rfl⟩
  case inr.inr.inr.inr.inr.inr.inr.inl =>
    -- SPECTRO.SET_NODE_CHEMISTRY names a node: its check also wants CELL 0
    exact fun s => ⟨_, _, rfl, fun t => ⟨_, _, rfl, fun hl => by rw [hl, Bool.false_and]⟩⟩
  all_goals exact fun s => ⟨_, _, rfl, fun t => ⟨cellLocusOk l, _, rfl, id⟩⟩

/-- Settles O29: a row's locus check comes first and refuses what R11 lists; a well-formed locus with 31 in NODE or CELL names the pack. -/
theorem locusParameters : Obligations.LocusParameters := by
  unfold Obligations.LocusParameters
  refine ⟨?refused, ?pack, State.locus_reserved⟩
  case refused =>
    rintro c r op l s t rfl hp ⟨a, b, hrow⟩ hbad
    exact (checksLocusFirst_of_mem hrow).refuses s hp (cellLocusOk_of_malformed hbad)
  case pack =>
    intro l hok h31
    have hpos := locusOk_position hok
    omega

end Sys2Proof.Machine

/-!
PROOFS. Family 04_almanac: the expansion of a frame's CSTAMP (R94), and the instant it gives a frame that is not in holdover (R95).
-/
namespace Sys2Proof.Machine

/-- R94: E is the stamp with the bits of CSTAMP among the 2^32 stamps that end at N. -/
theorem expand_eq_some_iff {n c e : Nat} (hc : c < 2 ^ 32) : expand n c = some e ↔ e ≤ n ∧ n < e + 2 ^ 32 ∧ e % 2 ^ 32 = c := by
  simp only [expand, Option.ite_none_right_eq_some, Option.some.injEq]
  constructor <;> omega

/-- A stamp not later than N with the bits of CSTAMP makes the expansion exist and is not later than it: E lies a multiple of 2^32 after it. -/
theorem exists_expand_ge {n c e' : Nat} (hc : c < 2 ^ 32) (hle : e' ≤ n) (hlow : e' % 2 ^ 32 = c) : ∃ e, expand n c = some e ∧ e' ≤ e := by
  have hmod : (n - e') % 2 ^ 32 ≤ n - e' := Nat.mod_le _ _
  refine ⟨n - (n - e') % 2 ^ 32, (expand_eq_some_iff hc).mpr ⟨Nat.sub_le _ _, ?near, ?low⟩, ?ge⟩
  case near => omega
  case low => omega
  case ge => omega

/-- R95: a frame with HOLDOVER 0 is captured only for a sampled instant whose stamp is its expanded stamp. -/
theorem frameInstant_eq_some_of_not_holdover {s : State} {r n status c seq k : Nat} {fixed : Bool} (hb : bit status 0 = false)
    (h : frameInstant s r n status c seq = some (k, fixed)) : expand s.now c = some (stampOf k) ∧ s.sampled k = true ∧ fixed = false := by
  unfold frameInstant at h
  rw [if_neg (by rw [hb]; exact Bool.false_ne_true)] at h
  split at h
  case h_1 => cases h
  case h_2 e he =>
    obtain ⟨⟨hstamp, hsampled⟩, hk⟩ := Option.ite_none_right_eq_some.mp h
    cases hk
    exact ⟨he.trans (congrArg some hstamp.symm), hsampled, rfl⟩

/-- Settles O25: the expanded stamp is E of R94, the latest with the bits of CSTAMP, and a frame that is not in holdover is captured at the instant of that stamp. -/
theorem expandedStamp : Obligations.ExpandedStamp := by
  unfold Obligations.ExpandedStamp
  refine ⟨fun n c hc => ⟨fun e he => ?latest, fun hnone e' hle hlow => ?absent⟩, fun s r n status c seq k hb h => ?captured⟩
  case latest =>
    obtain ⟨hle, hnear, hlow⟩ := (expand_eq_some_iff hc).mp he
    refine ⟨by omega, hle, hlow, fun e' hle' hlow' => ?_⟩
    obtain ⟨e₁, he₁, hge⟩ := exists_expand_ge hc hle' hlow'
    cases he.symm.trans he₁
    exact hge
  case absent =>
    obtain ⟨e, he, -⟩ := exists_expand_ge hc hle hlow
    simp [hnone] at he
  case captured =>
    obtain ⟨he, -, -⟩ := frameInstant_eq_some_of_not_holdover hb h
    exact ⟨_, he, rfl⟩

end Sys2Proof.Machine

/-!
PROOFS. Family 10_lane_engine_move_set, the MAC: the two's-complement readings of R5 as residues, and what R244 and R245 say of the accumulator.
-/
namespace Sys2Proof.Machine

/-! ### Two's complement (R5) -/

/-- The two's-complement value of the low bits is the balanced residue. -/
theorem signed_eq_bmod (w n : Nat) (hw : 0 < w) : signed w n = (n : Int).bmod (2 ^ w) := by
  obtain ⟨k, rfl⟩ : ∃ k, w = k + 1 := ⟨w - 1, by omega⟩
  have hhalf : ((2 ^ (k + 1) : Nat) + 1 : Int) / 2 = (2 ^ k : Nat) := by push_cast; omega
  simp only [signed, Int.bmod, hhalf, Nat.add_sub_cancel]
  norm_cast

theorem signed_emod (w n : Nat) (hw : 0 < w) : signed w n % 2 ^ w = (n : Int) % 2 ^ w := by
  rw [signed_eq_bmod w n hw]
  exact_mod_cast Int.bmod_emod (x := (n : Int)) (m := 2 ^ w)

theorem signed_add_emod (w n : Nat) (i : Int) (hw : 0 < w) : (signed w n + i) % 2 ^ w = (n + i) % 2 ^ w :=
  (Int.emod_add_cancel_right i).mpr (signed_emod w n hw)

theorem unsignedBits_cast (w : Nat) (i : Int) : (unsignedBits w i : Int) = i % 2 ^ w :=
  Int.toNat_of_nonneg (Int.emod_nonneg _ (by positivity))

theorem unsignedBits_lt (w : Nat) (i : Int) : unsignedBits w i < 2 ^ w := by
  zify
  rw [unsignedBits_cast]
  exact Int.emod_lt_of_pos _ (by positivity)

theorem satS_ne_iff (w : Nat) (i : Int) : satS w i ≠ i ↔ i < -2 ^ (w - 1) ∨ 2 ^ (w - 1) ≤ i := by
  simp only [satS]
  have : (0 : Int) < 2 ^ (w - 1) := by positivity
  split
  · omega
  · split <;> omega

/-- A number that the field holds is read back from its low bits. -/
theorem signed_of_emod {w n : Nat} {i : Int} (hw : 0 < w) (hn : (n : Int) % 2 ^ w = i % 2 ^ w) (hlo : -2 ^ (w - 1) ≤ i) (hhi : i < 2 ^ (w - 1)) :
    signed w n = i := by
  obtain ⟨k, rfl⟩ : ∃ k, w = k + 1 := ⟨w - 1, by omega⟩
  rw [signed_eq_bmod _ _ hw, ← Int.emod_bmod]
  push_cast
  rw [hn]
  rw [Nat.add_sub_cancel] at hlo hhi
  have := Int.emod_bmod (x := i) (n := 2 ^ (k + 1))
  push_cast at this
  rw [this]
  exact Int.bmod_eq_of_le (by push_cast; omega) (by push_cast; omega)

theorem re16_eq (v : Word) : re16 v = (v.setWidth 16).toInt := by
  rw [re16, signed_eq_bmod _ _ (by decide), BitVec.toInt_eq_toNat_bmod, BitVec.toNat_setWidth]
  exact_mod_cast (Int.emod_bmod (x := (v.toNat : Int)) (n := 2 ^ 16)).symm

theorem im16_eq (v : Word) : im16 v = (v.extractLsb' 16 16).toInt := by
  rw [im16, signed_eq_bmod _ _ (by decide), BitVec.toInt_eq_toNat_bmod, BitVec.extractLsb'_toNat, Nat.shiftRight_eq_div_pow]
  exact_mod_cast (Int.emod_bmod (x := ((v.toNat / 2 ^ 16 : Nat) : Int)) (n := 2 ^ 16)).symm

theorem abs_toInt_le {w : Nat} (x : BitVec w) : |x.toInt| ≤ 2 ^ (w - 1) :=
  abs_le.mpr ⟨BitVec.le_toInt x, BitVec.toInt_lt.le⟩

theorem abs_mul_toInt_le {w : Nat} (x y : BitVec w) : |x.toInt * y.toInt| ≤ 2 ^ (w - 1) * 2 ^ (w - 1) := by
  rw [abs_mul]
  exact mul_le_mul (abs_toInt_le x) (abs_toInt_le y) (abs_nonneg _) (by positivity)

/-! ### Real mode (R244) -/

/-- The sum that a real-mode trigger forms. -/
def realSum (base : Nat) (acc : Bool) (v b : Word) : Int := (if acc then signed 72 base else 0) + v.toInt * b.toInt

theorem macReal_acc (base : Nat × Bool) (acc : Bool) (v b : Word) : (macReal base acc v b).1 = unsignedBits 72 (realSum base.1 acc v b) := rfl

theorem macReal_ov (base : Nat × Bool) (acc : Bool) (v b : Word) :
    (macReal base acc v b).2 = true ↔ (acc = true ∧ base.2 = true) ∨ realSum base.1 acc v b < -2 ^ 71 ∨ 2 ^ 71 ≤ realSum base.1 acc v b := by
  change ((acc && base.2) || decide (satS 72 (realSum base.1 acc v b) ≠ realSum base.1 acc v b)) = true ↔ _
  rw [Bool.or_eq_true, Bool.and_eq_true, decide_eq_true_eq, satS_ne_iff]

/-- Settles O22: the product of two s32 lies within s72, and an addition is carried out on the residues modulo 2^72. -/
theorem realMacIsExact : Obligations.RealMacIsExact := by
  unfold Obligations.RealMacIsExact
  refine ⟨?mul, ?acc, fun a s => rfl⟩
  case mul =>
    rintro base v b r rfl
    have hsum : realSum base.1 false v b = v.toInt * b.toInt := by simp [realSum]
    obtain ⟨hlo, hhi⟩ := abs_le.mp (abs_mul_toInt_le v b)
    refine ⟨unsignedBits_lt _ _, ?exact, ?clear⟩
    case exact =>
      refine signed_of_emod (by decide) ?_ (by omega) (by omega)
      rw [macReal_acc, unsignedBits_cast, Int.emod_emod, hsum]
    case clear =>
      rw [Bool.eq_false_iff, Ne, macReal_ov, hsum]
      simp only [Bool.false_eq_true, false_and, false_or]
      omega
  case acc =>
    rintro base v b r rfl
    refine ⟨unsignedBits_lt _ _, ?_, (macReal_ov base true v b).trans (by simp [realSum])⟩
    rw [macReal_acc, unsignedBits_cast, realSum, if_pos rfl, signed_add_emod _ _ _ (by decide)]

/-! ### Complex mode (R245) -/

/-- The sums that a complex-mode trigger forms in the two halves. -/
def reSum (base : Nat) (acc : Bool) (v b : Word) : Int := (if acc then signed 36 base else 0) + (re16 v * re16 b - im16 v * im16 b)
def imSum (base : Nat) (acc : Bool) (v b : Word) : Int := (if acc then signed 36 (base / 2 ^ 36) else 0) + (re16 v * im16 b + im16 v * re16 b)

theorem macComplex_acc (base : Nat × Bool) (acc : Bool) (v b : Word) :
    (macComplex base acc v b).1 = unsignedBits 36 (reSum base.1 acc v b) + unsignedBits 36 (imSum base.1 acc v b) * 2 ^ 36 := rfl

theorem macComplex_lt (base : Nat × Bool) (acc : Bool) (v b : Word) : (macComplex base acc v b).1 < 2 ^ 72 := by
  have hre := unsignedBits_lt 36 (reSum base.1 acc v b)
  have him := unsignedBits_lt 36 (imSum base.1 acc v b)
  rw [macComplex_acc]
  omega

theorem macComplex_re (base : Nat × Bool) (acc : Bool) (v b : Word) :
    (((macComplex base acc v b).1 % 2 ^ 36 : Nat) : Int) = reSum base.1 acc v b % 2 ^ 36 := by
  rw [macComplex_acc, Nat.add_mul_mod_self_right, Nat.mod_eq_of_lt (unsignedBits_lt _ _), unsignedBits_cast]

theorem macComplex_im (base : Nat × Bool) (acc : Bool) (v b : Word) :
    (((macComplex base acc v b).1 / 2 ^ 36 : Nat) : Int) = imSum base.1 acc v b % 2 ^ 36 := by
  rw [macComplex_acc, Nat.add_mul_div_right _ _ (by decide), Nat.div_eq_of_lt (unsignedBits_lt _ _), Nat.zero_add, unsignedBits_cast]

theorem macComplex_ov (base : Nat × Bool) (acc : Bool) (v b : Word) : (macComplex base acc v b).2 = true ↔
    (acc = true ∧ base.2 = true) ∨ satS 36 (reSum base.1 acc v b) ≠ reSum base.1 acc v b ∨ satS 36 (imSum base.1 acc v b) ≠ imSum base.1 acc v b := by
  simp [macComplex, reSum, imSum, or_assoc]

/-- Settles O23: a sum of two products of s16 lies within s36, each half is carried out on its residues modulo 2^36, and the ports cut the accumulator. -/
theorem complexMacIsExact : Obligations.ComplexMacIsExact := by
  unfold Obligations.ComplexMacIsExact
  refine ⟨fun base v b r re im hre him => ⟨?mul, ?acc⟩, fun u id hacc => ⟨BitVec.toNat_ofNat _ _, BitVec.toNat_ofNat _ _, ?hi⟩⟩
  case mul =>
    rintro rfl
    have hreSum : reSum base.1 false v b = re := by simp [reSum, re16_eq, im16_eq, hre]
    have himSum : imSum base.1 false v b = im := by simp [imSum, re16_eq, im16_eq, him]
    obtain ⟨hrr, hrr'⟩ := abs_le.mp (abs_mul_toInt_le (v.setWidth 16) (b.setWidth 16))
    obtain ⟨hii, hii'⟩ := abs_le.mp (abs_mul_toInt_le (v.extractLsb' 16 16) (b.extractLsb' 16 16))
    obtain ⟨hri, hri'⟩ := abs_le.mp (abs_mul_toInt_le (v.setWidth 16) (b.extractLsb' 16 16))
    obtain ⟨hir, hir'⟩ := abs_le.mp (abs_mul_toInt_le (v.extractLsb' 16 16) (b.setWidth 16))
    refine ⟨?re, ?im, macComplex_lt _ _ _ _, ?clear⟩
    case re =>
      refine signed_of_emod (by decide) ?_ (by omega) (by omega)
      rw [← hreSum, ← macComplex_re]
      rfl
    case im =>
      refine signed_of_emod (by decide) ?_ (by omega) (by omega)
      rw [macComplex_im, Int.emod_emod, himSum]
    case clear =>
      rw [Bool.eq_false_iff, Ne, macComplex_ov, hreSum, himSum, satS_ne_iff, satS_ne_iff]
      simp only [Bool.false_eq_true, false_and, false_or]
      omega
  case acc =>
    rintro rfl
    have hreSum : reSum base.1 true v b = signed 36 base.1 + re := by simp [reSum, re16_eq, im16_eq, hre]
    have himSum : imSum base.1 true v b = signed 36 (base.1 / 2 ^ 36) + im := by simp [imSum, re16_eq, im16_eq, him]
    refine ⟨?re, macComplex_lt _ _ _ _, ?im, ?ov⟩
    case re =>
      rw [macComplex_re, hreSum, signed_add_emod _ _ _ (by decide), Int.natCast_mod]
      exact (Int.emod_add_emod _ _ _).symm
    case im =>
      rw [macComplex_im, himSum, signed_add_emod _ _ _ (by decide), Int.natCast_mod]
      exact (Int.emod_add_emod _ _ _).symm
    case ov =>
      rw [macComplex_ov, hreSum, himSum]
      simp
  case hi =>
    have hbyte : u.acc / 2 ^ 64 < 2 ^ 8 := by omega
    have hsrc : u.src id 0x44 = wordOf (signed 8 (u.acc / 2 ^ 64)) := rfl
    have hmod := signed_emod 8 (u.acc / 2 ^ 64) (by decide)
    rw [hsrc, wordOf, BitVec.toNat_ofInt]
    omega

end Sys2Proof.Machine

/-!
PROOFS. Family 10_lane_engine_move_set, branches: what a fault and a trap leave of the lanes and of their registers, how a lane issues an instruction whose other
slot is the no-operation of R239, and the branch of R260 with its two traps.
-/
namespace Sys2Proof.Machine

/-! ### Writes over writes -/

theorem Sparse.erase_of_absent {α : Type} (a : Nat) : ∀ {m : Sparse α}, Sparse.absent a m → Sparse.erase m a = m
  | [], _ => rfl
  | (k, v) :: t, ⟨hk, ht⟩ => by rw [Sparse.erase, if_neg hk, Sparse.erase_of_absent a ht]

theorem Sparse.erase_insert {α : Type} (a : Nat) (x : α) : ∀ {m : Sparse α}, Sparse.absent a m → Sparse.erase (Sparse.insert m a x) a = m
  | [], _ => by simp [Sparse.insert, Sparse.erase]
  | (k, v) :: t, h => by
    rw [Sparse.insert]
    split
    · rw [Sparse.erase, if_pos rfl, Sparse.erase_of_absent a h]
    · rw [Sparse.erase, if_neg h.1, Sparse.erase_insert a x h.2]

/-- The later of two writes of one key stands. -/
theorem Sparse.set_set {α : Type} [DecidableEq α] (d : Nat → α) (m : Sparse α) (a : Nat) (x y : α) : Sparse.set d (Sparse.set d m a x) a y = Sparse.set d m a y := by
  have herase : Sparse.erase (Sparse.set d m a x) a = Sparse.erase m a := by
    rw [Sparse.set]
    split
    · exact Sparse.erase_of_absent a (Sparse.absent_erase a m)
    · exact Sparse.erase_insert a x (Sparse.absent_erase a m)
  rw [Sparse.set, herase, Sparse.set]

/-! ### Lanes in the state -/

@[simp] theorem cursor_u (s : State) (e : Nat) (l : LaneState) : (cursor s e l).u = l.u := by unfold cursor; split <;> rfl
@[simp] theorem cursor_stat (s : State) (e : Nat) (l : LaneState) : (cursor s e l).stat = l.stat := by unfold cursor; split <;> rfl

theorem cursor_of_le {s : State} {e : Nat} {l : LaneState} (h : oldestInstant s ≤ l.k) : cursor s e l = l := if_neg (Nat.not_lt.mpr h)

theorem oldestInstant_le_cursor_k (s : State) (e : Nat) (l : LaneState) : oldestInstant s ≤ (cursor s e l).k := by
  unfold cursor
  split
  · exact le_rfl
  · next h => exact Nat.not_lt.mp h

theorem State.lane_putLane (s : State) (e : Nat) (l : LaneState) : (s.putLane e l).lane e = cursor s e l := by
  have hlanes : (s.putLane e l).eng.lanes = Sparse.set (fun _ => LaneState.reset) s.eng.lanes e l := rfl
  have hget : Sparse.get (fun _ => LaneState.reset) (s.putLane e l).eng.lanes e = l := by rw [hlanes, Sparse.get_set]; exact if_pos rfl
  rw [State.lane, hget]
  unfold cursor
  rfl

@[simp] theorem State.putLane_putLane (s : State) (e : Nat) (l l' : LaneState) : (s.putLane e l).putLane e l' = s.putLane e l' := by
  simp only [State.putLane, Sparse.set_set]

theorem State.lane_u (s : State) (e : Nat) : (s.lane e).u = (Sparse.get (fun _ => LaneState.reset) s.eng.lanes e).u := cursor_u _ _ _
theorem State.lane_stat (s : State) (e : Nat) : (s.lane e).stat = (Sparse.get (fun _ => LaneState.reset) s.eng.lanes e).stat := cursor_stat _ _ _

/-- A lane's cursor is in the store as read, and stays so while its position does. -/
theorem State.lane_putLane_of_k {s : State} {e : Nat} {l : LaneState} (h : l.k = (s.lane e).k) : (s.putLane e l).lane e = l := by
  have hle : oldestInstant s ≤ l.k := by rw [h]; exact oldestInstant_le_cursor_k _ _ _
  rw [State.lane_putLane, cursor_of_le hle]

theorem State.putUnits_lane (s : State) (e : Nat) (u : Units) : s.putUnits (.lane e) u = s.putLane e { s.lane e with u := u } := rfl

/-- What writing a lane's units leaves. -/
theorem State.lane_putUnits (s : State) (e : Nat) (u : Units) : (s.putUnits (.lane e) u).lane e = { s.lane e with u := u } := by
  rw [State.putUnits_lane]
  generalize hl : s.lane e = l
  exact State.lane_putLane_of_k (by rw [hl])

@[simp] theorem State.units_putUnits_lane (s : State) (e : Nat) (u : Units) : (s.putUnits (.lane e) u).units (.lane e) = u := by
  rw [State.units, State.lane_putUnits]

@[simp] theorem State.putUnits_putUnits_lane (s : State) (e : Nat) (u u' : Units) : (s.putUnits (.lane e) u).putUnits (.lane e) u' = s.putUnits (.lane e) u' := by
  rw [State.putUnits_lane (s.putUnits _ _), State.lane_putUnits, State.putUnits_lane, State.putLane_putLane, State.putUnits_lane]

/-! ### What a fault leaves of the engines -/

@[simp] theorem State.openIncident_eng (s : State) (stamp : Nat) : (s.openIncident stamp).1.eng = s.eng := by unfold State.openIncident; split <;> rfl

@[simp] theorem State.celAccept_eng (s : State) (e : CelQueued) : (s.celAccept e).1.eng = s.eng := by
  unfold State.celAccept
  dsimp only
  split_ifs <;> simp

@[simp] theorem State.celGroup_eng : ∀ (l : List CelQueued) (s : State), (s.celGroup l).eng = s.eng
  | [], _ => rfl
  | e :: l, s => by
    simp only [State.celGroup]
    split
    · rw [State.celGroup_eng l, State.celAccept_eng]
    · exact State.celAccept_eng s e

@[simp] theorem State.celWrite_eng (s : State) (type : Nat) (inc : Bool) (payload : List Byte) : (s.celWrite type inc payload).eng = s.eng := by
  unfold State.celWrite State.celSend
  split
  · exact State.celGroup_eng _ _
  · rfl

@[simp] theorem State.emit_eng (s : State) (locus block ecode : Nat) (detail : List Byte) : (s.emit locus block ecode detail).eng = s.eng := by
  unfold State.emit
  dsimp only
  split
  · rfl
  · split_ifs <;> rfl

@[simp] theorem State.faultEvent_eng (s : State) (r : FaultRec) : (s.faultEvent r).eng = s.eng := State.emit_eng _ _ _ _ _

@[simp] theorem State.noteUnended_eng (s : State) (r : FaultRec) : (s.noteUnended r).eng = s.eng := by unfold State.noteUnended; split <;> rfl

/-- A fault record changes no engine. -/
@[simp] theorem State.takeFault_eng (s : State) (cls sev unit detail rflags : Nat) : (s.takeFault cls sev unit detail rflags).eng = s.eng := by
  unfold State.takeFault
  dsimp only
  split_ifs <;> simp

@[simp] theorem State.busFault_eng (s : State) (a : Nat) : (s.busFault a).eng = s.eng := State.takeFault_eng _ _ _ _ _ _

/-- R336: a void stream read replaces results due at distance 4 and changes nothing else of the lane's units. -/
theorem State.voidStream_u (s : State) (e noise : Nat) : ∃ f : Flight → Flight, (∀ x, x.dist ≠ 4 → f x = x) ∧
    ((s.voidStream e noise).lane e).u = { (s.lane e).u with flight := (s.lane e).u.flight.map f } := by
  unfold State.voidStream
  extract_lets src a l read
  by_cases hvoid : (l.u.flight.any read && damaged s (accOf s (.lane e) 0 a) 0 noise) = true
  · rw [if_pos hvoid]
    refine ⟨fun x => if read x then ⟨4, .port 0x4B 0⟩ else x, fun x hx => if_neg (by simp [read, hx]), ?_⟩
    rw [State.lane_u, State.busFault_eng, ← State.lane_u, State.lane_putLane, cursor_u]
  · rw [if_neg hvoid]
    exact ⟨id, fun _ _ => rfl, by rw [List.map_id]⟩

/-! ### What a trap leaves of the registers (R265, R291) -/

@[simp] theorem State.reg_putLane (s : State) (e : Nat) (l : LaneState) (a : Nat) : (s.putLane e l).reg a = s.reg a := rfl
@[simp] theorem State.fget_putLane (s : State) (e : Nat) (l : LaneState) (f : Fld) : (s.putLane e l).fget f = s.fget f := rfl

theorem State.reg_fput_ne {s : State} {f : Fld} {v a : Nat} (h : a ≠ f.addr) : (s.fput f v).reg a = s.reg a := by
  rw [State.fput, State.reg_setReg, if_neg h]

theorem State.reg_fputs_ne {a : Nat} : ∀ {l : List (Fld × Nat)} {s : State}, (∀ p ∈ l, a ≠ p.1.addr) → (s.fputs l).reg a = s.reg a
  | [], _, _ => rfl
  | (f, v) :: l, s, h => by
    rw [State.fputs, State.reg_fputs_ne fun p hp => h p (List.mem_cons_of_mem _ hp), State.reg_fput_ne (h (f, v) List.mem_cons_self)]

@[simp] theorem State.presentTrap_eng (s : State) (v : Nat) : (s.presentTrap v).eng = s.eng := by
  unfold State.presentTrap
  dsimp only
  split
  · exact State.fput_eng _ _ _
  · split_ifs
    · exact State.fputs_eng _ _
    · rw [State.raise_eng, State.fputs_eng]

theorem State.reg_presentTrap_ne {s : State} {v a : Nat} (htrap : a ≠ 0x400B0020 + 256 * v) (hirq : a ≠ 0x400B0058 + 256 * v) : (s.presentTrap v).reg a = s.reg a := by
  unfold State.presentTrap
  dsimp only
  split
  · exact State.reg_fput_ne htrap
  · split_ifs
    · exact State.reg_fputs_ne (by simpa using htrap)
    · rw [State.raise, State.reg_fput_ne hirq]
      exact State.reg_fputs_ne (by simpa using htrap)

/-- The search for a lane's trap changes registers of its vat alone. -/
theorem State.reg_trapSearch_ne {s : State} {e a : Nat} (h : ∀ off < 256, a ≠ 0x400B0000 + 256 * (e / 16) + off) : (s.trapSearch e).reg a = s.reg a := by
  have hhit : a ≠ 0x400B0044 + 256 * (e / 16) := by have := h 0x44; omega
  have hmiss : a ≠ 0x400B0048 + 256 * (e / 16) := by have := h 0x48; omega
  have htrap : a ≠ 0x400B0020 + 256 * (e / 16) := by have := h 0x20; omega
  have hirq : a ≠ 0x400B0058 + 256 * (e / 16) := by have := h 0x58; omega
  unfold State.trapSearch
  dsimp only
  split
  · rfl
  · rw [State.reg_presentTrap_ne htrap hirq, State.bump, State.reg_fput_ne (by split_ifs; exacts [hhit, hmiss]), State.reg_putLane]

theorem State.fget_trapSearch_ne {s : State} {e : Nat} {f : Fld} (h : ∀ off < 256, f.addr ≠ 0x400B0000 + 256 * (e / 16) + off) :
    (s.trapSearch e).fget f = s.fget f := by rw [State.fget, State.fget, State.reg_trapSearch_ne h]

theorem State.trapSearch_stat (s : State) (e : Nat) : ((s.trapSearch e).lane e).stat = (s.lane e).stat := by
  unfold State.trapSearch
  dsimp only
  split
  · rfl
  · rw [State.lane_stat, State.presentTrap_eng, State.bump_eng, ← State.lane_stat, State.lane_putLane, cursor_stat]

theorem State.laneTrap_stat (s : State) (e pc word : Nat) (t : Trap) : ((s.laneTrap e pc word t).lane e).stat = 4 := by
  rw [State.laneTrap, State.trapSearch_stat, State.lane_putLane, cursor_stat]

theorem State.laneTrap_cause {s : State} {e pc word : Nat} {t : Trap} (he : e < 256) :
    (s.laneTrap e pc word t).fget (f_LE_TRAP_CAUSE_CAUSE e) = t.cause % 2 ^ 8 := by
  have haddr : ∀ off < 256, 0x400C0010 + 64 * e ≠ 0x400B0000 + 256 * (e / 16) + off := by omega
  rw [State.laneTrap, State.fget_trapSearch_ne haddr, State.fget_putLane]
  simp only [State.fputs]
  rw [State.fget_fput_ne, State.fget_fput_ne, State.fget_fput_ne, State.fget_fput_ne, State.fget_fput]
  all_goals simp

/-! ### A lane's instruction with one move (R239, R254) -/

/-- The slot that holds nothing: T0 to T0. -/
def idleSlot : Slot := ⟨false, 0, false, 0, true⟩

/-- The slot of a command's move to wide port `dst` on a lane. -/
def soleSlot (m : Mv) (dst : Nat) : Slot := ⟨m.ge, dst, m.imm, if m.imm then m.src else toWide m.src, false⟩

/-- A lane's two slots with one of them idle. -/
def slotAlone (i : Nat) (x : Slot) : List Slot := if i = 0 then [x, idleSlot] else [idleSlot, x]

/-- The move of that slot, with value `v` and guard `g`. -/
def soleMove (m : Mv) (dst : Nat) (v : Word) (g : Bool) : Move := ⟨m.slot, dst, v, !m.ge || g⟩

/-- A move's source exists on lane `e`, and `v` is its value where the ports hold `val` (R243). -/
def SoleSource (e : Nat) (val : Nat → Word) (m : Mv) (v : Word) : Prop :=
  (m.imm = true ∧ m.src < 256 ∧ v = wordOf (signed 8 m.src)) ∨
  (m.imm = false ∧ m.src < 0x30 ∧ srcOk (.lane e) false (toWide m.src) = true ∧ v = val (toWide m.src))

theorem soleSource_of_soleValue {t : State} {m : Mv} {e : Nat} {v : Word} (he : m.eng = .lane e) (h : soleValue t m = some v) :
    SoleSource e ((t.units (.lane e)).tick.src (idWord (.lane e))) m v := by
  unfold soleValue at h
  rw [he] at h
  cases himm : m.imm
  case true =>
    simp only [himm, if_true, Option.ite_none_right_eq_some, Option.some.injEq] at h
    obtain ⟨hbyte, hv⟩ := h
    exact .inl ⟨himm, hbyte, hv.symm⟩
  case false =>
    simp only [himm, Bool.false_eq_true, if_false, Option.ite_none_right_eq_some, Option.some.injEq] at h
    obtain ⟨⟨hport, hok⟩, hv⟩ := h
    exact .inr ⟨himm, hport, hok, hv.symm⟩

theorem dstConflict_slotAlone (i : Nat) (x : Slot) : dstConflict (slotAlone i x) = none := by
  unfold slotAlone
  split <;> simp [dstConflict, idleSlot]

theorem unitConflict_slotAlone (g : Eng) (i : Nat) (x : Slot) : unitConflict g (slotAlone i x) = none := by
  unfold slotAlone
  split <;> simp [unitConflict, idleSlot]

section
variable {e d : Nat} {val : Nat → Word} {m : Mv} {v : Word}

/-- A lane's slot is decoded as it was encoded. -/
theorem laneSlot_slotBits (hsrc : SoleSource e val m v) (hlo : 0x40 ≤ d) (hhi : d < 0x5F) :
    slotBits (.lane e) m.ge m.imm d m.src < 2 ^ 16 ∧ laneSlot (slotBits (.lane e) m.ge m.imm d m.src) = soleSlot m d := by
  obtain ⟨hbyte, hport⟩ : m.src < 256 ∧ (m.imm = false → m.src < 0x30) := by
    rcases hsrc with ⟨himm, hlt, -⟩ | ⟨himm, hlt, -⟩
    · exact ⟨hlt, by simp [himm]⟩
    · exact ⟨by omega, fun _ => hlt⟩
  have hge : flag m.ge < 2 ∧ (flag m.ge % 2 = 1 ↔ m.ge = true) := by cases m.ge <;> decide
  have himm : flag m.imm < 2 ∧ (flag m.imm % 2 = 1 ↔ m.imm = true) := by cases m.imm <;> decide
  have hdst : toLane d = d - 0x20 := if_neg (by omega)
  simp only [slotBits, hdst]
  generalize flag m.ge = a at hge
  generalize flag m.imm = b at himm
  refine ⟨by omega, ?_⟩
  generalize hw : a * 2 ^ 15 + (d - 0x20) % 64 * 2 ^ 9 + b * 2 ^ 8 + m.src % 256 = w
  have hbitge : bit w 15 = m.ge := by rw [bit, Bool.eq_iff_iff, decide_eq_true_eq, ← hge.2]; omega
  have hbitimm : bit w 8 = m.imm := by rw [bit, Bool.eq_iff_iff, decide_eq_true_eq, ← himm.2]; omega
  have hport' : toWide (w / 2 ^ 9 % 64) = d := by rw [toWide]; split <;> omega
  have hsrc' : w % 256 = m.src := by omega
  have hnop : (w == 0) = false := by rw [beq_eq_false_iff_ne]; omega
  simp only [laneSlot, soleSlot, hbitge, hbitimm, hport', hsrc', hnop]
  cases hi : m.imm
  · simp [hport hi]
  · simp

/-- An instruction whose other slot is idle. -/
theorem slotsOf_sole (he : m.eng = .lane e) (hw : m.word = 0) (hslot : m.slot < 2) (hsrc : SoleSource e val m v) (hlo : 0x40 ≤ d) (hhi : d < 0x5F) :
    slotsOf (.lane e) (Mv.wordTo m d) = slotAlone m.slot (soleSlot m d) := by
  obtain ⟨hlt, hdec⟩ := laneSlot_slotBits hsrc hlo hhi
  have hidle : laneSlot 0 = idleSlot := rfl
  simp only [Mv.wordTo, he, hw, putSlotBits, slotCount, slotsOf, slotAlone]
  generalize slotBits (.lane e) m.ge m.imm d m.src = b at hdec hlt
  obtain h0 | h1 : m.slot = 0 ∨ m.slot = 1 := by omega
  · rw [h0, if_pos rfl, ← hdec, ← hidle]
    congr 3 <;> omega
  · rw [h1, if_neg (by decide), ← hdec, ← hidle]
    congr 3 <;> omega

/-- Such an instruction makes its one move and leaves the LIMM chain as it is. -/
theorem parse_sole {u : Units} (hslot : m.slot < 2) (hsrc : SoleSource e val m v) (hlimm : d ≠ 0x5D) (hpre : u.preN = 0) :
    parse (.lane e) u val (slotAlone m.slot (soleSlot m d)) = ⟨[soleMove m d v u.g], u.pre, 0, false, none⟩ := by
  have hidle : ∀ p i, parseSlot (.lane e) val u.g p i idleSlot = p := fun p i => rfl
  have hsole : parseSlot (.lane e) val u.g ⟨[], u.pre, 0, false, none⟩ m.slot (soleSlot m d) = ⟨[soleMove m d v u.g], u.pre, 0, false, none⟩ := by
    rcases hsrc with ⟨himm, -, hv⟩ | ⟨himm, -, -, hv⟩ <;> simp [parseSlot, soleSlot, soleMove, himm, hlimm, hv, limmBits]
  rw [parse, hpre]
  obtain h0 | h1 : m.slot = 0 ∨ m.slot = 1 := by omega
  · rw [h0] at hsole ⊢
    simp only [slotAlone, if_true, parseFrom, hidle, hsole]
  · rw [h1] at hsole ⊢
    simp only [slotAlone, one_ne_zero, if_false, parseFrom, hidle, zero_add, hsole]

/-- It has no decode-class cause (R263). -/
theorem decodeCause_sole (u : Units) (ms : List Move) (pre : Word) (hsrc : SoleSource e val m v) (hlo : 0x40 ≤ d) (hhi : d < 0x5F) :
    decodeCause (.lane e) u false false true (slotAlone m.slot (soleSlot m d)) ⟨ms, pre, 0, false, none⟩ = none := by
  have hidle : ∀ gs i, slotCause (.lane e) u false false gs ⟨ms, pre, 0, false, none⟩ i idleSlot = none := by
    intro gs i
    simp [slotCause, idleSlot, dstOk, srcOk, crossing]
  have hsole : ∀ gs i, slotCause (.lane e) u false false gs ⟨ms, pre, 0, false, none⟩ i (soleSlot m d) = none := by
    intro gs i
    have hdst : dstOk (.lane e) d = true := by simp [dstOk]; omega
    have hport : (!m.imm && !srcOk (.lane e) false (soleSlot m d).src) = false := by
      rcases hsrc with ⟨himm, -⟩ | ⟨himm, -, hok, -⟩
      · simp [himm]
      · simp [himm, soleSlot, hok]
    have hlow : ¬ 0xC0 ≤ d := by omega
    have hd : (soleSlot m d).dst = d := rfl
    have hi : (soleSlot m d).imm = m.imm := rfl
    simp [slotCause, hd, hi, hdst, hport, hlow, crossing]
  have hcauses : ∀ gs, slotCauses (.lane e) u false false gs ⟨ms, pre, 0, false, none⟩ (slotAlone m.slot (soleSlot m d)) 0 = none := by
    intro gs
    unfold slotAlone
    split <;> simp only [slotCauses, hidle, hsole]
  simp [decodeCause, dstConflict_slotAlone, unitConflict_slotAlone, hcauses]

end

/-! ### A branch issues (R240, R260) -/

/-- A lane's units after a branch to `v` has fired: BR.LINK on its way, and the target pending. -/
def Units.branched (u : Units) (v : Word) : Units :=
  { u.send 1 (.port 0x4D (BitVec.ofNat 32 (u.pc + 12))) with target := v.toNat, dslot := 3 }

/-- A move to BR on a lane: its causes, in the order of log entry 39. -/
theorem moveCause_branch (t : State) (e : Nat) (void : Bool) (u : Units) (i : Nat) (v : Word) (act : Bool) :
    moveCause t (.lane e) void u ⟨i, 0x5C, v, act⟩ =
      if act = false then none
      else if v.toNat % 4 ≠ 0 ∨ 0x4000 ≤ v.toNat then some ⟨0x0A, i, 0x3C⟩
      else if 0 < u.dslot then some ⟨0x0B, i, 0x3C⟩ else none := by
  cases act
  · rfl
  · simp only [moveCause, decide_eq_true_eq]
    rfl

/-- The instruction takes effect: the branch fires if its guard lets it, and the program counter moves on. -/
theorem complete_branch (t : State) (e : Nat) (u : Units) (p : Parsed) (i : Nat) (v : Word) (act : Bool) (hpre : p.pre = u.pre) (hpreN : p.preN = u.preN) :
    t.complete (.lane e) u p [⟨i, 0x5C, v, act⟩] = t.putUnits (.lane e) ((if act then u.branched v else u).advance (.lane e)) := by
  have hlast : storesLast [⟨i, 0x5C, v, act⟩] = [⟨i, 0x5C, v, act⟩] := rfl
  simp only [State.complete, hpre, hpreN, hlast, List.foldl_cons, List.foldl_nil]
  cases act
  · simp [State.fire]
  · simp [State.fire, Units.trigger, Units.branched, instrBytes]

theorem cause_lt_of_moveCause_branch {t : State} {e : Nat} {void : Bool} {u : Units} {i : Nat} {v : Word} {act : Bool} {c : Trap}
    (h : moveCause t (.lane e) void u ⟨i, 0x5C, v, act⟩ = some c) : c.cause < 0x20 := by
  rw [moveCause_branch] at h
  split_ifs at h <;> cases h <;> simp

theorem operand_branch (e : Nat) (u : Units) (i : Nat) (v : Word) (act : Bool) : u.operand (.lane e) ⟨i, 0x5C, v, act⟩ = u := by cases act <;> rfl

/-- An instruction with a branch alone ends in the branch's trap with nothing done, or takes effect and leaves no trigger over. -/
theorem issueWord_branch {t : State} {m : Mv} {e : Nat} {u : Units} {v : Word} (he : m.eng = .lane e) (hw : m.word = 0) (hslot : m.slot < 2)
    (hu : u = (t.units (.lane e)).tick) (hpre : u.preN = 0) (hv : soleValue t m = some v) :
    issueWord t (.lane e) (Mv.wordTo m 0x5C) (fun _ => none) false false false =
      (moveCause t (.lane e) false u (soleMove m 0x5C v u.g)).elim
        ⟨t.putUnits (.lane e) ((if !m.ge || u.g then u.branched v else u).advance (.lane e)), none, []⟩ (fun c => ⟨t, some c, []⟩) := by
  have hsrc := soleSource_of_soleValue he hv
  rw [← hu] at hsrc
  have hown : [soleMove m 0x5C v u.g].filter ownTrigger = [] := by simp [ownTrigger, soleMove]
  have hlsu : ∀ i, [soleMove m 0x5C v u.g].find? (fun x => x.slot == i && decide (0x52 ≤ x.dst ∧ x.dst ≤ 0x54)) = none := by simp [soleMove]
  simp only [issueWord, ← hu, slotsOf_sole he hw hslot hsrc (show 0x40 ≤ 0x5C by decide) (by decide), Option.getD_none,
    parse_sole hslot hsrc (show 0x5C ≠ 0x5D by decide) hpre, decodeCause_sole u _ _ hsrc (show 0x40 ≤ 0x5C by decide) (by decide),
    List.foldl_cons, List.foldl_nil, moveCauses, List.findSome?_cons, List.findSome?_nil, hown, hlsu]
  simp only [soleMove, operand_branch]
  cases hcause : moveCause t (.lane e) false u ⟨m.slot, 0x5C, v, !m.ge || u.g⟩ with
  | none => simp only [Option.elim_none, complete_branch _ _ u ⟨_, u.pre, 0, false, none⟩ _ _ _ rfl hpre.symm]
  | some c =>
    have hsw : c.cause ≠ 0x20 := (cause_lt_of_moveCause_branch hcause).ne
    simp only [if_neg hsw, Option.elim_some]

/-! ### A lane issues (R237, R264, R265) -/

theorem moveIssues_lane {s : State} {m : Mv} {e word : Nat} (he : m.eng = .lane e) : moveIssues s m word = true ↔
    (e < 256 ∧ m.slot < 2 ∧ ((s.at m.at_).lane e).stat = 1 ∧ (s.at m.at_).clocked e = true ∧ (s.at m.at_).bankUp (physical (.lane e) 0) = true) ∧
    ((s.at m.at_).lane e).u.pc < (s.at m.at_).fget (f_LE_CODE_LIM_LIM e) ∧
    (s.at m.at_).spoiled (physical (.lane e) ((s.at m.at_).lane e).u.pc) = false := by
  simp only [moveIssues, he, Bool.and_eq_true, decide_eq_true_eq, beq_iff_eq, Bool.not_eq_true', and_assoc]

theorem exec_br_of_moveIssues {s : State} {m : Mv} {e : Nat} (he : m.eng = .lane e) (h : moveIssues s m (Mv.wordTo m 0x5C) = true) :
    exec (.br m) s = .next ((s.at m.at_).laneIssue e (Mv.wordTo m 0x5C) (m.noise % 4096)) := by
  obtain ⟨hready, -, -⟩ := (moveIssues_lane he).mp h
  have hname : nameable (.lane e) 0x5C = true := rfl
  change Host.Outcome.next (issueTo s m 0x5C) = _
  simp only [issueTo, State.issue, onLane, he, if_pos hname, if_pos hready]

/-- An instruction that issues, takes effect and leaves no trigger over. -/
theorem laneIssue_of_effect {s t : State} {m : Mv} {e word : Nat} {u : Units} (he : m.eng = .lane e) (h : moveIssues s m word = true) (ht : t = atIssue s m)
    (hi : issueWord t (.lane e) word (fun _ => none) false false false = ⟨t.putUnits (.lane e) (u.advance (.lane e)), none, []⟩) :
    (s.at m.at_).laneIssue e word (m.noise % 4096) = passed t m u := by
  obtain ⟨-, hlim, hgood⟩ := (moveIssues_lane he).mp h
  simp only [atIssue, he] at ht
  simp only [State.laneIssue, if_neg (Nat.not_le.mpr hlim), hgood, Bool.false_eq_true, if_false, ← ht, hi, List.foldl_nil, State.lane_putUnits]
  simp only [State.putUnits_lane, State.putLane_putLane, passed, he]

/-- An instruction that issues and ends in a trap with nothing done. -/
theorem laneIssue_of_trap {s t : State} {m : Mv} {e word : Nat} {c : Trap} (he : m.eng = .lane e) (h : moveIssues s m word = true) (ht : t = atIssue s m)
    (hi : issueWord t (.lane e) word (fun _ => none) false false false = ⟨t, some c, []⟩) (hsw : c.cause ≠ 0x20) (hue : c.cause ≠ 0x30) :
    (s.at m.at_).laneIssue e word (m.noise % 4096) = t.laneTrap e ((s.at m.at_).lane e).u.pc word c := by
  obtain ⟨-, hlim, hgood⟩ := (moveIssues_lane he).mp h
  simp only [atIssue, he] at ht
  simp only [State.laneIssue, if_neg (Nat.not_le.mpr hlim), hgood, Bool.false_eq_true, if_false, ← ht, hi, if_neg hsw, if_neg hue]

/-! ### What a branch leads to (R247, R260) -/

theorem foldl_land_append_link (l : List Landing) (u : Units) (w : Word) : ((l ++ [Landing.port 0x4D w]).foldl Units.land u).link = w := by
  rw [List.foldl_append]
  rfl

/-- BR.LINK shows the return address of the branch that was the last to send one, from the next instruction on. -/
theorem tick_link {u : Units} {l : List Flight} {w : Word} (h : u.flight = l ++ [⟨1, .port 0x4D w⟩]) : u.tick.link = w := by
  simp only [Units.tick, h, List.filter_append, List.map_append]
  exact foldl_land_append_link _ _ w

theorem advance_of_dslot_ne_one {u : Units} (g : Eng) (h : u.dslot ≠ 1) :
    u.advance g = { u with icount := (u.icount + 1) % 2 ^ 32, pc := (u.pc + instrBytes g) % 2 ^ 32, dslot := u.dslot - 1 } := if_neg h

theorem advance_of_dslot_eq_one {u : Units} (g : Eng) (h : u.dslot = 1) :
    u.advance g = { u with icount := (u.icount + 1) % 2 ^ 32, pc := u.target, dslot := 0, target := 0 } := if_pos h

theorem passed_lane_u {t : State} {m : Mv} {e : Nat} (he : m.eng = .lane e) (u : Units) : ∃ f : Flight → Flight, (∀ x, x.dist ≠ 4 → f x = x) ∧
    ((passed t m u).lane e).u = { u.advance (.lane e) with flight := (u.advance (.lane e)).flight.map f } := by
  obtain ⟨f, hf, hu⟩ := State.voidStream_u
    (t.putLane e { t.lane e with u := u.advance (.lane e), since := (t.lane e).since + 1, disp := (t.lane e).disp + 1 }) e (m.noise % 4096)
  refine ⟨f, hf, ?_⟩
  simp only [State.lane_putLane, cursor_u] at hu
  simpa only [passed, he] using hu

/-- R260: after a branch at b the lane is at b + 4, then at b + 8, then at the target, whatever becomes of other results in flight. -/
theorem branched_runs {u x : Units} {f : Flight → Flight} (e : Nat) (v : Word) (hpc : u.pc + 16 < 2 ^ 32) (hf : ∀ y, y.dist ≠ 4 → f y = y)
    (hx : x = { (u.branched v).advance (.lane e) with flight := ((u.branched v).advance (.lane e)).flight.map f }) :
    x.pc = u.pc + 4 ∧ x.dslot = 2 ∧ (x.advance (.lane e)).pc = u.pc + 8 ∧ ((x.advance (.lane e)).advance (.lane e)).pc = v.toNat ∧
    ((x.advance (.lane e)).advance (.lane e)).dslot = 0 ∧ x.tick.link = BitVec.ofNat 32 (u.pc + 12) := by
  have hfirst : x.pc = (u.pc + 4) % 2 ^ 32 ∧ x.dslot = 2 ∧ x.target = v.toNat := by rw [hx]; exact ⟨rfl, rfl, rfl⟩
  have hflight : x.flight = u.flight.map f ++ [⟨1, .port 0x4D (BitVec.ofNat 32 (u.pc + 12))⟩] := by
    rw [hx]
    change (u.flight ++ [_]).map f = _
    rw [List.map_append, List.map_singleton, hf _ (by simp)]
  obtain ⟨hpc1, hdslot, htarget⟩ := hfirst
  have hsecond := advance_of_dslot_ne_one (u := x) (.lane e) (by omega)
  have hlast : (x.advance (.lane e)).dslot = 1 := by rw [hsecond]; change x.dslot - 1 = 1; omega
  have hthird := advance_of_dslot_eq_one (.lane e) hlast
  refine ⟨by omega, hdslot, ?_, ?_, ?_, tick_link hflight⟩
  · rw [hsecond]
    change (x.pc + 4) % 2 ^ 32 = _
    omega
  · rw [hthird, hsecond]
    exact htarget
  · rw [hthird]

/-- A branch alone in an instruction that issues on a lane either traps or passes, as its cause says. -/
theorem exec_br_lane {s t : State} {m : Mv} {e : Nat} {u : Units} {v : Word} (he : m.eng = .lane e) (hw : m.word = 0)
    (hissue : moveIssues s m (Mv.wordTo m 0x5C) = true) (ht : t = atIssue s m) (hu : u = (t.units (.lane e)).tick) (hpre : u.preN = 0) (hv : soleValue t m = some v) :
    exec (.br m) s = .next ((moveCause t (.lane e) false u ⟨m.slot, 0x5C, v, !m.ge || u.g⟩).elim (passed t m (if !m.ge || u.g then u.branched v else u))
      (t.laneTrap e ((s.at m.at_).lane e).u.pc (Mv.wordTo m 0x5C))) := by
  obtain ⟨⟨-, hslot, -⟩, -⟩ := (moveIssues_lane he).mp hissue
  have hword := issueWord_branch he hw hslot hu hpre hv
  rw [exec_br_of_moveIssues he hissue]
  simp only [soleMove] at hword
  cases hcause : moveCause t (.lane e) false u ⟨m.slot, 0x5C, v, !m.ge || u.g⟩ with
  | none =>
    rw [hcause, Option.elim_none] at hword
    rw [laneIssue_of_effect he hissue ht hword, Option.elim_none]
  | some c =>
    have hlt := cause_lt_of_moveCause_branch hcause
    rw [hcause, Option.elim_some] at hword
    rw [laneIssue_of_trap he hissue ht hword (by omega) (by omega), Option.elim_some]

/-- Settles O24: a branch that stands alone has the one cause that `moveCause_branch` gives it, or none; then it is pending over two more instructions. -/
theorem laneBranches : Obligations.LaneBranches := by
  unfold Obligations.LaneBranches
  intro m s t u v e hissue hw he ht hu hpre hpc hv
  obtain ⟨⟨he256, -⟩, -⟩ := (moveIssues_lane he).mp hissue
  have hexec := exec_br_lane he hw hissue ht hu hpre hv
  have hacts : m.ge = false ∨ u.g = true → (!m.ge || u.g) = true := by simp
  have htrap : ∀ pc word c, c.cause < 2 ^ 8 →
      ((t.laneTrap e pc word c).lane e).stat = 4 ∧ (t.laneTrap e pc word c).fget (f_LE_TRAP_CAUSE_CAUSE e) = c.cause := fun pc word c hc =>
    ⟨State.laneTrap_stat _ _ _ _ _, (State.laneTrap_cause he256).trans (Nat.mod_eq_of_lt hc)⟩
  rw [moveCause_branch] at hexec
  refine ⟨fun hg halign hrange hdslot => ?taken, fun hg hbad => ?target, fun hg halign hrange hdslot => ?delay, fun hge hg => ?passes⟩
  case taken =>
    rw [hacts hg, if_neg (by decide), if_neg (by omega), if_neg (by omega), Option.elim_none, if_pos rfl] at hexec
    obtain ⟨f, hf, hx⟩ := passed_lane_u (t := t) he (u.branched v)
    exact ⟨_, _, hexec, rfl, branched_runs e v hpc hf hx⟩
  case target =>
    rw [hacts hg, if_neg (by decide), if_pos hbad, Option.elim_some] at hexec
    exact ⟨_, hexec, htrap _ _ _ (by simp)⟩
  case delay =>
    rw [hacts hg, if_neg (by decide), if_neg (by omega), if_pos hdslot, Option.elim_some] at hexec
    exact ⟨_, hexec, htrap _ _ _ (by simp)⟩
  case passes =>
    have hact : (!m.ge || u.g) = false := by simp [hge, hg]
    rw [hact, if_pos rfl, Option.elim_none, if_neg (by decide)] at hexec
    exact hexec

end Sys2Proof.Machine

/-!
PROOFS. Family 13_memory_map_and_target_gates: what a gate decides, check by check (R327), the debug class (R323), and the execute-only windows (R326).
-/
namespace Sys2Proof.Machine

/-! ### The checks of a gate (R327) -/

/-- R326, check 3: an execute-only window denies every data read, before any permission is looked at. -/
theorem gateCheck_executeOnly {s : State} {a : Acc} {g : Nat} (hgate : gateOf s a.addr = some g) (hwin : 80 ≤ g) (hread : a.kind = 0)
    (hxo : s.isSet (f_TG_WIN_LO_XO (g - 80)) = true) : gateCheck s a = some 3 := by
  simp [gateCheck, hgate, hwin, hread, hxo]

/-- Check 4: at any access but a data read of an execute-only window, a class that is not permitted is denied for its permission. -/
theorem gateCheck_forbidden {s : State} {a : Acc} {g : Nat} (hgate : gateOf s a.addr = some g)
    (hxo : ¬ (80 ≤ g ∧ a.kind = 0 ∧ s.isSet (f_TG_WIN_LO_XO (g - 80)) = true)) (hperm : (debugDenied s g a.cls || !permBit s g a.cls a.kind) = true) :
    gateCheck s a = some 0 := by
  simp only [gateCheck, hgate, if_neg hxo, if_pos hperm]

/-- The programmable gates are none of those with a rule of their own (R320, R324). -/
theorem ne_fixed_of_programmable {g : Nat} (hg : programmable g = true) : g ≠ 72 ∧ g ≠ 73 ∧ g ≠ 74 := by
  refine ⟨?_, ?_, ?_⟩ <;> (rintro rfl; exact absurd hg (by decide))

/-- At a programmable gate outside a self-test's isolation, permission alone decides any access but a data read of an execute-only window. -/
theorem gateCheck_eq_none_iff_of_programmable {s : State} {a : Acc} {g : Nat} (hgate : gateOf s a.addr = some g) (hg : programmable g = true)
    (hxo : ¬ (80 ≤ g ∧ a.kind = 0 ∧ s.isSet (f_TG_WIN_LO_XO (g - 80)) = true)) (hiso : isolated s a.addr = false) :
    gateCheck s a = none ↔ debugDenied s g a.cls = false ∧ permBit s g a.cls a.kind = true := by
  by_cases hperm : (debugDenied s g a.cls || !permBit s g a.cls a.kind) = true
  case pos =>
    rw [gateCheck_forbidden hgate hxo hperm]
    simp only [reduceCtorEq, false_iff]
    rintro ⟨hdebug, hbit⟩
    simp [hdebug, hbit] at hperm
  case neg =>
    obtain ⟨h72, h73, h74⟩ := ne_fixed_of_programmable hg
    have hengine : engineRule g a = true := by simp [engineRule, h72, h73]
    have hadmitted : gateCheck s a = none := by simp [gateCheck, hgate, hxo, hperm, hengine, h73, h74, hg, hiso]
    simpa [hadmitted] using hperm

/-- R327: a read that its gate denies gives zero with an error response and leaves its notice, unless check 2 finds it void first (R336). -/
theorem State.spineRead_denied {s : State} {a : Acc} {reason : Nat} (hdenied : gateCheck s a = some reason) (noise : Nat) :
    s.spineRead a noise = (if a.addr % 4 ≠ 0 then (s, 0, true) else if damaged s a 0 (noise % 256) = true then (s.busFault a.addr, 0, true)
      else (s.notice a reason, 0, true)) := by
  simp only [State.spineRead, hdenied]

/-! ### The debug class (R323) -/

theorem debugDenied_debug_iff (s : State) (g : Nat) : debugDenied s g 7 = true ↔ s.lc ∉ [0, 1, 5] ∨ (64 ≤ g ∧ g ≤ 79) := by
  simp only [debugDenied, decide_eq_true_eq, true_and, List.mem_cons, List.not_mem_nil, or_false]
  omega

/-- R323 speaks of no class but debug. -/
theorem debugDenied_eq_false_of_ne {s : State} {g cls : Nat} (hcls : cls ≠ 7) : debugDenied s g cls = false := by
  simp [debugDenied, hcls]

/-- What R323 denies, the gate denies: as a read of an execute-only window, or for its permission whatever TG_PERM holds. -/
theorem exists_gateCheck_of_debugDenied {s : State} {a : Acc} {g : Nat} (hgate : gateOf s a.addr = some g) (hdebug : debugDenied s g a.cls = true) :
    ∃ reason, gateCheck s a = some reason := by
  by_cases hxo : 80 ≤ g ∧ a.kind = 0 ∧ s.isSet (f_TG_WIN_LO_XO (g - 80)) = true
  case pos =>
    obtain ⟨hwin, hread, hset⟩ := hxo
    exact ⟨3, gateCheck_executeOnly hgate hwin hread hset⟩
  case neg => exact ⟨0, gateCheck_forbidden hgate hxo (by rw [hdebug, Bool.true_or])⟩

/-- Settles O14: the class check denies the debug class before the permission word is consulted, and a denied read answers zero with an error. -/
theorem debugClassDenied : Obligations.DebugClassDenied := by
  unfold Obligations.DebugClassDenied
  intro s a g hgate hcls hstate
  have hdebug : debugDenied s g a.cls = true := by rw [hcls]; exact (debugDenied_debug_iff s g).mpr hstate
  obtain ⟨reason, hdenied⟩ := exists_gateCheck_of_debugDenied hgate hdebug
  exact ⟨by simp [hdenied], fun _ noise => ⟨reason, hdenied, State.spineRead_denied hdenied noise⟩⟩

/-! ### Execute-only windows (R326) -/

theorem programmable_window (i : Nat) : programmable (80 + i) = true := by
  simp [programmable]

/-- Settles O15: a data read meets the execute-only check before any permission; a fetch passes it, and then only its X bit is left to decide. -/
theorem executeOnlyWindows : Obligations.ExecuteOnlyWindows := by
  unfold Obligations.ExecuteOnlyWindows
  intro s a i _ hgate hxo halign
  refine ⟨fun hread noise => ?read, fun hfetch hcls hiso => ?fetch⟩
  case read =>
    have hdenied : gateCheck s a = some 3 := gateCheck_executeOnly hgate (by omega) hread (by rwa [Nat.add_sub_cancel_left])
    rw [State.spineRead_denied hdenied, if_neg (not_not_intro halign)]
  case fetch =>
    have hdebug : debugDenied s (80 + i) a.cls = false := debugDenied_eq_false_of_ne (by omega)
    rw [gateCheck_eq_none_iff_of_programmable hgate (programmable_window i) (by omega) hiso, hfetch]
    exact and_iff_right hdebug

end Sys2Proof.Machine

/-!
PROOFS. Family 22_faults_and_incidents: what a new fault does to the fault queue (R512, R513), and that none of its reports touches the queue again.
-/
namespace Sys2Proof.Machine

/-! ### What leaves the fault queue alone -/

/-- `t` has the fault queue and the count of lost records of `s`. -/
def SameFaultQueue (s t : State) : Prop := t.flt.queue = s.flt.queue ∧ t.reg r_FLT_LOST = s.reg r_FLT_LOST

theorem SameFaultQueue.queue {s t : State} (h : SameFaultQueue s t) : t.flt.queue = s.flt.queue := h.1
theorem SameFaultQueue.lostReg {s t : State} (h : SameFaultQueue s t) : t.reg r_FLT_LOST = s.reg r_FLT_LOST := h.2

theorem SameFaultQueue.refl (s : State) : SameFaultQueue s s := ⟨rfl, rfl⟩

theorem SameFaultQueue.trans {s t u : State} (h : SameFaultQueue s t) (h' : SameFaultQueue t u) : SameFaultQueue s u :=
  ⟨h'.queue.trans h.queue, h'.lostReg.trans h.lostReg⟩

theorem SameFaultQueue.lost_eq {s t : State} (h : SameFaultQueue s t) : t.fget f_FLT_LOST_COUNT = s.fget f_FLT_LOST_COUNT := by
  rw [State.fget, State.fget, h.lostReg]

/-- The count of another register leaves the queue as it was. -/
theorem SameFaultQueue.bump {s t : State} {f : Fld} (h : SameFaultQueue s t) (hf : r_FLT_LOST ≠ f.addr) : SameFaultQueue s (t.bump f) :=
  h.trans ⟨by rw [State.bump_flt], State.reg_fput_ne hf⟩

theorem State.openIncident_sameFaultQueue (s : State) (stamp : Nat) : SameFaultQueue s (s.openIncident stamp).1 := by
  unfold State.openIncident
  split <;> exact .refl s

/-- Offering a Cellar entry changes the Cellar die, and of the registers at most its count of dropped entries. -/
theorem State.celAccept_sameFaultQueue (s : State) (e : CelQueued) : SameFaultQueue s (s.celAccept e).1 := by
  have hopen := s.openIncident_sameFaultQueue e.stamp
  unfold State.celAccept
  dsimp only
  split_ifs
  · exact .refl s
  · exact .refl s
  · exact hopen.bump (f := f_CEL_DROPPED_VALUE) (by decide)
  · exact hopen
  · exact .refl s
  · exact .refl s

theorem State.celGroup_sameFaultQueue (l : List CelQueued) (s : State) : SameFaultQueue s (s.celGroup l) := by
  induction l generalizing s with
  | nil => exact .refl s
  | cons e l ih =>
    have haccept := s.celAccept_sameFaultQueue e
    simp only [State.celGroup]
    split
    · exact haccept.trans (ih _)
    · exact haccept

theorem State.celWrite_sameFaultQueue (s : State) (type : Nat) (inc : Bool) (payload : List Byte) : SameFaultQueue s (s.celWrite type inc payload) := by
  unfold State.celWrite State.celSend
  split
  · exact State.celGroup_sameFaultQueue _ s
  · exact .refl s

/-- A record emitted changes the ledger's waiting records and the trace, and of the registers at most the count of dropped trace items. -/
theorem State.emit_sameFaultQueue (s : State) (locus block ecode : Nat) (detail : List Byte) : SameFaultQueue s (s.emit locus block ecode detail) := by
  unfold State.emit
  dsimp only
  split
  · exact .refl s
  · split_ifs
    · exact .refl s
    · exact (SameFaultQueue.refl s).bump (f := f_FLT_TRACE_DROP_COUNT) (by decide)
    · exact .refl s

theorem State.noteUnended_sameFaultQueue (s : State) (r : FaultRec) : SameFaultQueue s (s.noteUnended r) := by
  unfold State.noteUnended
  split <;> exact .refl s

/-! ### A new fault, case by case (R512) -/

/-- What a fault leaves besides its record: the fault kept until its recovery ends, the Cellar entry of severity 2 or 3, and the event. -/
def State.reportFault (s : State) (r : FaultRec) : State :=
  let kept := s.noteUnended r
  let entered := if r.sev ≥ 2 then
      kept.celWrite 0x03 true (leBytes 8 (s.packLocus 0) ++ ((⟨s.now, s.packLocus 0, 2, 1, r.bytes.drop 8⟩ : EventRec).bytes).take 36)
    else kept
  if recoverable r.cls then entered else entered.faultEvent r

theorem State.reportFault_sameFaultQueue (s : State) (r : FaultRec) : SameFaultQueue s (s.reportFault r) := by
  have hkept := s.noteUnended_sameFaultQueue r
  have hentered := fun payload => hkept.trans ((s.noteUnended r).celWrite_sameFaultQueue 0x03 true payload)
  unfold State.reportFault
  dsimp only
  split_ifs
  · exact hentered _
  · exact hkept
  · exact (hentered _).trans (State.emit_sameFaultQueue _ _ _ _ _)
  · exact hkept.trans (State.emit_sameFaultQueue _ _ _ _ _)

/-- R513: a new record joins the queue; one that finds it full replaces the newest or is not stored, and FLT_LOST counts one. -/
def State.queueRecord (s : State) (r : FaultRec) : State :=
  if s.flt.queue.length < 32 then { s with flt := { s.flt with queue := s.flt.queue ++ [r] } }
  else State.bump { s with flt := { s.flt with queue := replaceNewest s.flt.queue r } } f_FLT_LOST_COUNT

/-- The record of a new fault, its recovery not ended (R509). -/
def State.newRecord (s : State) (cls sev unit detail rflags : Nat) : FaultRec := ⟨s.now, cls, sev, rflags, unit, 0xFFFF, detail, 0⟩

/-- The record in service of a class, which escalates a new fault of that class. -/
def State.inService (s : State) (cls : Nat) : Option FaultRec := s.flt.queue.find? (fun x => x.cls == cls && bit x.rflags 5)

/-- R512: a record that is not in service and matches a fault in class, UNIT and severity. -/
def FaultRec.coalesces (cls unit sev : Nat) (x : FaultRec) : Bool := x.cls == cls && x.unit == unit && x.sev == sev && !bit x.rflags 5

/-- R512: each record that matches a fault counts it. -/
def State.countFault (s : State) (cls unit sev : Nat) : State :=
  let counted := s.flt.queue.map (fun x => if x.coalesces cls unit sev then { x with count := satU 16 (x.count + 1) } else x)
  { s with flt := { s.flt with queue := counted } }

theorem State.inService_eq_none_iff {s : State} {cls : Nat} : s.inService cls = none ↔ ∀ x ∈ s.flt.queue, x.cls = cls → bit x.rflags 5 = false := by
  simp [State.inService]

/-- Where no record of the class is in service, a record matches by class, UNIT and severity alone. -/
theorem coalesces_iff_of_inService_eq_none {s : State} {cls unit sev : Nat} {x : FaultRec} (h : s.inService cls = none) (hx : x ∈ s.flt.queue) :
    x.coalesces cls unit sev = true ↔ x.cls = cls ∧ x.unit = unit ∧ x.sev = sev := by
  have hout := State.inService_eq_none_iff.mp h x hx
  simp only [FaultRec.coalesces, Bool.and_eq_true, beq_iff_eq, Bool.not_eq_true', and_assoc]
  exact ⟨fun ⟨hc, hu, hs, _⟩ => ⟨hc, hu, hs⟩, fun ⟨hc, hu, hs⟩ => ⟨hc, hu, hs, hout hc⟩⟩

theorem any_coalesces_iff_of_inService_eq_none {s : State} {cls unit sev : Nat} (h : s.inService cls = none) :
    s.flt.queue.any (FaultRec.coalesces cls unit sev) = true ↔ ∃ x ∈ s.flt.queue, x.cls = cls ∧ x.unit = unit ∧ x.sev = sev := by
  rw [List.any_eq_true]
  exact exists_congr fun x => and_congr_right fun hx => coalesces_iff_of_inService_eq_none h hx

theorem State.countFault_queue_of_inService_eq_none {s : State} {cls unit sev : Nat} (h : s.inService cls = none) :
    (s.countFault cls unit sev).flt.queue =
      s.flt.queue.map (fun x => if x.cls = cls ∧ x.unit = unit ∧ x.sev = sev then { x with count := satU 16 (x.count + 1) } else x) := by
  unfold State.countFault
  exact List.map_congr_left fun x hx => if_congr (coalesces_iff_of_inService_eq_none h hx) rfl rfl

section
variable {s : State} {cls sev unit detail rflags : Nat}

theorem State.takeFault_of_inService {x : FaultRec} (h : s.inService cls = some x) :
    s.takeFault cls sev unit detail rflags =
      ((s.bump (f_FLT_COUNT_COUNT cls)).queueRecord (s.newRecord cls (min 3 (x.sev + 1)) unit detail (setBitIn rflags 0 true))).reportFault
        (s.newRecord cls (min 3 (x.sev + 1)) unit detail (setBitIn rflags 0 true)) := by
  unfold State.inService at h
  simp only [State.takeFault, State.bump_flt, h]
  rfl

theorem State.takeFault_of_coalesces (h : s.inService cls = none) (hany : s.flt.queue.any (FaultRec.coalesces cls unit sev) = true) :
    s.takeFault cls sev unit detail rflags =
      ((s.bump (f_FLT_COUNT_COUNT cls)).countFault cls unit sev).reportFault (s.newRecord cls sev unit detail rflags) := by
  unfold State.inService at h
  unfold FaultRec.coalesces at hany
  simp only [State.takeFault, State.bump_flt, h, hany, Option.isNone_none, Bool.and_true, if_true]
  rfl

theorem State.takeFault_of_new (h : s.inService cls = none) (hany : s.flt.queue.any (FaultRec.coalesces cls unit sev) = false) :
    s.takeFault cls sev unit detail rflags =
      ((s.bump (f_FLT_COUNT_COUNT cls)).queueRecord (s.newRecord cls sev unit detail rflags)).reportFault (s.newRecord cls sev unit detail rflags) := by
  unfold State.inService at h
  unfold FaultRec.coalesces at hany
  simp only [State.takeFault, State.bump_flt, h, hany, Bool.and_false, Bool.false_eq_true, if_false]
  rfl

end

/-! ### A record that is queued (R513) -/

theorem satU_lt (w n : Nat) : satU w n < 2 ^ w := by
  have hpos := Nat.two_pow_pos w
  unfold satU
  split <;> omega

theorem replaceNewest_concat (q : List FaultRec) (l r : FaultRec) :
    replaceNewest (q ++ [l]) r = if bit l.rflags 5 = true ∨ r.sev < l.sev then q ++ [l] else q ++ [r] := by
  simp [replaceNewest]

theorem State.queueRecord_of_room {s : State} {r : FaultRec} (h : s.flt.queue.length < 32) : (s.queueRecord r).flt.queue = s.flt.queue ++ [r] := by
  rw [State.queueRecord, if_pos h]

theorem State.queueRecord_of_full {s : State} {r l : FaultRec} {q : List FaultRec} (hq : s.flt.queue = q ++ [l]) (h : s.flt.queue.length = 32) :
    (s.queueRecord r).flt.queue = (if bit l.rflags 5 = true ∨ r.sev < l.sev then q ++ [l] else q ++ [r]) ∧
    (s.queueRecord r).fget f_FLT_LOST_COUNT = satU f_FLT_LOST_COUNT.width (s.fget f_FLT_LOST_COUNT + 1) := by
  rw [State.queueRecord, if_neg (by omega)]
  refine ⟨?_, ?_⟩
  · rw [State.bump_flt, hq, replaceNewest_concat]
  · rw [State.bump, State.fget_fput _ _ _ (by decide)]
    exact Nat.mod_eq_of_lt (satU_lt _ _)

section
variable {s t : State} {cls : Nat} {r : FaultRec} (ht : t = ((s.bump (f_FLT_COUNT_COUNT cls)).queueRecord r).reportFault r)
include ht

/-- Once counted for its class, a record that is queued and reported is the newest of a queue with room. -/
theorem queuedRecord_of_room (h : s.flt.queue.length < 32) : t.flt.queue = s.flt.queue ++ [r] := by
  rw [ht, (State.reportFault_sameFaultQueue _ r).queue, State.queueRecord_of_room (by rwa [State.bump_flt]), State.bump_flt]

/-- R513: a record that finds the queue full replaces the newest or is not stored, and one more is lost either way. -/
theorem queuedRecord_of_full {l : FaultRec} {q : List FaultRec} (hq : s.flt.queue = q ++ [l]) (h : s.flt.queue.length = 32) :
    t.flt.queue = (if bit l.rflags 5 = true ∨ r.sev < l.sev then q ++ [l] else q ++ [r]) ∧
    t.fget f_FLT_LOST_COUNT = satU f_FLT_LOST_COUNT.width (s.fget f_FLT_LOST_COUNT + 1) := by
  have hcounted : SameFaultQueue s (s.bump (f_FLT_COUNT_COUNT cls)) := (SameFaultQueue.refl s).bump (show 0x40020028 ≠ 0x40020040 + 4 * cls by omega)
  have hreport := State.reportFault_sameFaultQueue ((s.bump (f_FLT_COUNT_COUNT cls)).queueRecord r) r
  rw [ht, hreport.queue, hreport.lost_eq, ← hcounted.lost_eq]
  exact State.queueRecord_of_full hq h

end

/-- ESCALATED is bit 0 of a record's flags. -/
theorem setBitIn_zero_of_even {n : Nat} (h : n % 2 = 0) : setBitIn n 0 true = n + 1 := by
  simp [setBitIn, bit, h]

/-- Settles O27: a fault whose class is in service, one that matches a record, and a new one, each as `takeFault` meets it; a record is queued alike in all. -/
theorem faultQueue : Obligations.FaultQueue := by
  unfold Obligations.FaultQueue
  intro s t cls sev unit detail rflags ht _ heven _
  refine ⟨fun x hx hroom => ?escalated, fun x hx q l hq hfull => ?escalatedFull, fun hout => ⟨fun hmatch => ?counted, fun hnew => ?new⟩⟩
  case escalated =>
    rw [State.takeFault_of_inService hx, setBitIn_zero_of_even heven] at ht
    exact queuedRecord_of_room ht hroom
  case escalatedFull =>
    rw [State.takeFault_of_inService hx, setBitIn_zero_of_even heven] at ht
    exact queuedRecord_of_full ht hq hfull
  case counted =>
    have hnone := State.inService_eq_none_iff.mpr hout
    rw [State.takeFault_of_coalesces hnone ((any_coalesces_iff_of_inService_eq_none hnone).mpr hmatch)] at ht
    rw [ht, (State.reportFault_sameFaultQueue _ _).queue]
    exact State.countFault_queue_of_inService_eq_none (s := s.bump (f_FLT_COUNT_COUNT cls)) hnone
  case new =>
    have hnone := State.inService_eq_none_iff.mpr hout
    have hunmatched : s.flt.queue.any (FaultRec.coalesces cls unit sev) = false := by
      rw [Bool.eq_false_iff, Ne, any_coalesces_iff_of_inService_eq_none hnone]
      exact fun ⟨x, hx, hsame⟩ => hnew x hx hsame
    rw [State.takeFault_of_new hnone hunmatched] at ht
    exact ⟨queuedRecord_of_room ht, fun q l => queuedRecord_of_full ht⟩

end Sys2Proof.Machine

/-!
What every step keeps: the queue behind the command, the canonical form of the three stores and the fuses that are blown.
-/
namespace Sys2Proof.Machine

/-- Every command answers a next state, and against any state `qs` holds what `Held` says. -/
theorem exec_held {qs : State} (c : Instr) (s : State) (hs : Held qs s) : ∃ t, exec c s = .next t ∧ Held qs t := by
  cases c with
  | porRelease count boot => exact execPorRelease_held count boot s hs
  | brownOut at_ rails us => exact execBrownOut_held at_ rails us s hs
  | mainSupplyLoss at_ => exact execMainSupplyLoss_held at_ s hs
  | warmReset at_ cause boot => exact execWarmReset_held at_ cause boot s hs
  | rstNLow at_ ns boot => exact execRstNLow_held at_ ns boot s hs
  | pllLockLoss at_ line relocked boot => exact execPllLockLoss_held at_ line relocked boot s hs
  | startWatchdogExpiry at_ boot => exact execStartWatchdogExpiry_held at_ boot s hs
  | wakeNFall at_ us boot => exact execWakeNFall_held at_ us boot s hs
  | cprResetWrite w boot => exact execCprResetWrite_held w boot s hs
  | domainControlWrite w d => exact execDomainControlWrite_held w d s hs
  | deviceIdentify r => exact execDeviceIdentify_held r s hs
  | deviceReadStatus r => exact execDeviceReadStatus_held r s hs
  | deviceReadFaults r first count => exact execDeviceReadFaults_held r first count s hs
  | deviceTrace r enable mask => exact execDeviceTrace_held r enable mask s hs
  | deviceReadReg r addr count => exact execDeviceReadReg_held r addr count s hs
  | deviceReset r kind domain => exact execDeviceReset_held r kind domain s hs
  | deviceTamperRead r => exact execDeviceTamperRead_held r s hs
  | deviceTamperSetGrade r src grade => exact execDeviceTamperSetGrade_held r src grade s hs
  | deviceTamperDisable r src tok keys => exact execDeviceTamperDisable_held r src tok keys s hs
  | sessionOpen r peer qh kemEk nonce => exact execSessionOpen_held r peer qh kemEk nonce s hs
  | sessionFinish r cert sig => exact execSessionFinish_held r cert sig s hs
  | sessionClose r => exact execSessionClose_held r s hs
  | sessionRead r => exact execSessionRead_held r s hs
  | sessionFinishTimeout at_ slot => exact execSessionFinishTimeout_held at_ slot s hs
  | sessionIdleTimeout at_ slot => exact execSessionIdleTimeout_held at_ slot s hs
  | modeSet r target => exact execModeSet_held r target s hs
  | modeReleaseQuarantine r tok keys => exact execModeReleaseQuarantine_held r tok keys s hs
  | modeRead r => exact execModeRead_held r s hs
  | lifecycleProvision r root assembly utc => exact execLifecycleProvision_held r root assembly utc s hs
  | lifecycleCommission r token keys => exact execLifecycleCommission_held r token keys s hs
  | lifecycleSecondLife r nonce keys sig => exact execLifecycleSecondLife_held r nonce keys sig s hs
  | lifecycleRetire r token keys => exact execLifecycleRetire_held r token keys s hs
  | lifecycleFieldReturn r vendor owner keys => exact execLifecycleFieldReturn_held r vendor owner keys s hs
  | transitSetRate r rate => exact execTransitSetRate_held r rate s hs
  | rateChangeEffect at_ => exact execRateChangeEffect_held at_ s hs
  | twiddleTableBuilt at_ => exact execTwiddleTableBuilt_held at_ s hs
  | transitEnumerate r ring => exact execTransitEnumerate_held r ring s hs
  | ringEnableWrite w ring => exact execRingEnableWrite_held w ring s hs
  | ringRetry at_ ring => exact execRingRetry_held at_ ring s hs
  | transitRejoin r ring => exact execTransitRejoin_held r ring s hs
  | autoRejoin at_ ring => exact execAutoRejoin_held at_ ring s hs
  | transitSetAssembly r rings => exact execTransitSetAssembly_held r rings s hs
  | transitAcceptRoster r ring => exact execTransitAcceptRoster_held r ring s hs
  | transitRead r ring => exact execTransitRead_held r ring s hs
  | transitNodeRequest r ring end_ node opc payload => exact execTransitNodeRequest_held r ring end_ node opc payload s hs
  | trainDeparture at_ ring => exact execTrainDeparture_held at_ ring s hs
  | sampleInstant at_ => exact execSampleInstant_held at_ s hs
  | trainReceived at_ ring tail intact => exact execTrainReceived_held at_ ring tail intact s hs
  | frameReceived at_ ring tstamp line => exact execFrameReceived_held at_ ring tstamp line s hs
  | responseFrameReceived at_ ring rd rsp hdr data crc => exact execResponseFrameReceived_held at_ ring rd rsp hdr data crc s hs
  | echoReply at_ ring endB line rt => exact execEchoReply_held at_ ring endB line rt s hs
  | echoSchedule at_ ring => exact execEchoSchedule_held at_ ring s hs
  | losDeclare at_ ring endB => exact execLosDeclare_held at_ ring endB s hs
  | losClear at_ ring endB => exact execLosClear_held at_ ring endB s hs
  | breakSetReceived at_ ring endB rd groups => exact execBreakSetReceived_held at_ ring endB rd groups s hs
  | trainEndBTimeout at_ ring => exact execTrainEndBTimeout_held at_ ring s hs
  | frameMissing at_ ring node k => exact execFrameMissing_held at_ ring node k s hs
  | mailboxGo w ring => exact execMailboxGo_held w ring s hs
  | mailboxTimeout at_ ring => exact execMailboxTimeout_held at_ ring s hs
  | rateRegisterWrite w => exact execRateRegisterWrite_held w s hs
  | watermarkEval at_ => exact execWatermarkEval_held at_ s hs
  | almanacChannelFault at_ chan => exact execAlmanacChannelFault_held at_ chan s hs
  | lqAck w => exact execLqAck_held w s hs
  | captureSetLateness r ring bound => exact execCaptureSetLateness_held r ring bound s hs
  | captureReadEntries r ring mask first last => exact execCaptureReadEntries_held r ring mask first last s hs
  | captureTimeMark r secs nanos => exact execCaptureTimeMark_held r secs nanos s hs
  | timeHi at_ stamp => exact execTimeHi_held at_ stamp s hs
  | uplinkSync at_ endB seen err => exact execUplinkSync_held at_ endB seen err s hs
  | discHoldover at_ => exact execDiscHoldover_held at_ s hs
  | fitCycle at_ unpublished => exact execFitCycle_held at_ unpublished s hs
  | fitOverrun at_ cell => exact execFitOverrun_held at_ cell s hs
  | pilotTimeout at_ => exact execPilotTimeout_held at_ s hs
  | spgEnableWrite w => exact execSpgEnableWrite_held w s hs
  | spectroSetBin r first last gate avgsh avgshPilot ifloor agemax => exact execSpectroSetBin_held r first last gate avgsh avgshPilot ifloor agemax s hs
  | spectroReadBinState r first last => exact execSpectroReadBinState_held r first last s hs
  | spectroReadImpedance r locus first last => exact execSpectroReadImpedance_held r locus first last s hs
  | spectroReadFit r locus => exact execSpectroReadFit_held r locus s hs
  | spectroReadTemperature r locus => exact execSpectroReadTemperature_held r locus s hs
  | spectroReadPilot r => exact execSpectroReadPilot_held r s hs
  | spectroPilotState r report => exact execSpectroPilotState_held r report s hs
  | spectroLoadChemistry r t table => exact execSpectroLoadChemistry_held r t table s hs
  | spectroSetNodeChemistry r locus t => exact execSpectroSetNodeChemistry_held r locus t s hs
  | spectroResetAverages r locus first last => exact execSpectroResetAverages_held r locus first last s hs
  | restCorrection at_ cell => exact execRestCorrection_held at_ cell s hs
  | cellWatchEntry at_ cell check => exact execCellWatchEntry_held at_ cell check s hs
  | cellWatchExit at_ cell => exact execCellWatchExit_held at_ cell s hs
  | cellQuarantinePromotion at_ cell => exact execCellQuarantinePromotion_held at_ cell s hs
  | limitPeriodBoundary at_ => exact execLimitPeriodBoundary_held at_ s hs
  | limitBaseWrite w discharge => exact execLimitBaseWrite_held w discharge s hs
  | limitCapWrite w operator discharge => exact execLimitCapWrite_held w operator discharge s hs
  | limitTighten r discharge value life => exact execLimitTighten_held r discharge value life s hs
  | limitRelax r discharge value => exact execLimitRelax_held r discharge value s hs
  | limitRead r => exact execLimitRead_held r s hs
  | limitSetPublication r chan ident ide => exact execLimitSetPublication_held r chan ident ide s hs
  | estimLoadProfile r t profile => exact execEstimLoadProfile_held r t profile s hs
  | estimRead r locus first last => exact execEstimRead_held r locus first last s hs
  | cellReadState r locus => exact execCellReadState_held r locus s hs
  | cellSetState r locus target => exact execCellSetState_held r locus target s hs
  | balanceSetPolicy r start stop tMax => exact execBalanceSetPolicy_held r start stop tMax s hs
  | balanceRead r => exact execBalanceRead_held r s hs
  | estimSetAdapt r enable gateMin => exact execEstimSetAdapt_held r enable gateMin s hs
  | estimSetWatch r qfactor watchExit => exact execEstimSetWatch_held r qfactor watchExit s hs
  | packSampleWrite at_ k => exact execPackSampleWrite_held at_ k s hs
  | intermediateSample at_ bits => exact execIntermediateSample_held at_ bits s hs
  | stuckDetect at_ input => exact execStuckDetect_held at_ input s hs
  | modfltSet at_ input => exact execModfltSet_held at_ input s hs
  | modfltClear at_ input => exact execModfltClear_held at_ input s hs
  | calibrationWrite w offset => exact execCalibrationWrite_held w offset s hs
  | meterEnable w => exact execMeterEnable_held w s hs
  | pulseOutput at_ => exact execPulseOutput_held at_ s hs
  | meterRead r => exact execMeterRead_held r s hs
  | meterCalibrate r form input ref gain ofs dly => exact execMeterCalibrate_held r form input ref gain ofs dly s hs
  | calibrateAverageDone at_ => exact execCalibrateAverageDone_held at_ s hs
  | meterSelectChannel r channel => exact execMeterSelectChannel_held r channel s hs
  | meterSetCrosscheck r enable rel abs noload => exact execMeterSetCrosscheck_held r enable rel abs noload s hs
  | meterLoadWweTable r table => exact execMeterLoadWweTable_held r table s hs
  | meterActivateWweTable r digest => exact execMeterActivateWweTable_held r digest s hs
  | meterReadWweTable r bank => exact execMeterReadWweTable_held r bank s hs
  | meterSetRating r iRated cap => exact execMeterSetRating_held r iRated cap s hs
  | meterSetPulse r enable sel imp => exact execMeterSetPulse_held r enable sel imp s hs
  | shutterSetContactor r output close => exact execShutterSetContactor_held r output close s hs
  | contactorRegisterRequest w => exact execContactorRegisterRequest_held w s hs
  | shutterDerate r assert => exact execShutterDerate_held r assert s hs
  | derateBitWrite w operator => exact execDerateBitWrite_held w operator s hs
  | shutterSetLimpFloor r pct => exact execShutterSetLimpFloor_held r pct s hs
  | limpRegisterWrite w => exact execLimpRegisterWrite_held w s hs
  | shutterSetPrecharge r preMin preMax => exact execShutterSetPrecharge_held r preMin preMax s hs
  | shutterSetHazard r h action openDly filt plaus => exact execShutterSetHazard_held r h action openDly filt plaus s hs
  | shutterSetBleed r locus mask duty => exact execShutterSetBleed_held r locus mask duty s hs
  | shutterRead r => exact execShutterRead_held r s hs
  | bleedRegisterWrite w ring node => exact execBleedRegisterWrite_held w ring node s hs
  | prechargeAutoOpen at_ => exact execPrechargeAutoOpen_held at_ s hs
  | prechargeTimeout at_ => exact execPrechargeTimeout_held at_ s hs
  | hazardAssert at_ h => exact execHazardAssert_held at_ h s hs
  | hazardClear at_ pin => exact execHazardClear_held at_ pin s hs
  | hazardOpen at_ h => exact execHazardOpen_held at_ h s hs
  | hazardStuck at_ h => exact execHazardStuck_held at_ h s hs
  | cfaultSet at_ output => exact execCfaultSet_held at_ output s hs
  | cfaultClear at_ output => exact execCfaultClear_held at_ output s hs
  | chatterDeclare at_ output => exact execChatterDeclare_held at_ output s hs
  | chatterEnd at_ output edges closed => exact execChatterEnd_held at_ output edges closed s hs
  | blockAssembly at_ => exact execBlockAssembly_held at_ s hs
  | sealComplete at_ => exact execSealComplete_held at_ s hs
  | archiveEntryWrite at_ ok => exact execArchiveEntryWrite_held at_ ok s hs
  | archiveFault at_ => exact execArchiveFault_held at_ s hs
  | archiveRetry at_ mib unit64 device => exact execArchiveRetry_held at_ mib unit64 device s hs
  | ledgerEnable w => exact execLedgerEnable_held w s hs
  | ledgerSealNow r => exact execLedgerSealNow_held r s hs
  | ledgerReadHead r => exact execLedgerReadHead_held r s hs
  | ledgerReadSeals r first last => exact execLedgerReadSeals_held r first last s hs
  | ledgerReadArchive r log first size => exact execLedgerReadArchive_held r log first size s hs
  | ledgerAckOffload r log lseq => exact execLedgerAckOffload_held r log lseq s hs
  | ledgerSetArchive r blocks events seals => exact execLedgerSetArchive_held r blocks events seals s hs
  | leaseReadTallies r => exact execLeaseReadTallies_held r s hs
  | ledgerHandoverPrepare r newRoot => exact execLedgerHandoverPrepare_held r newRoot s hs
  | aluAdd m => exact execAluAdd_held m s hs
  | aluSub m => exact execAluSub_held m s hs
  | aluAnd m => exact execAluAnd_held m s hs
  | aluOr m => exact execAluOr_held m s hs
  | aluXor m => exact execAluXor_held m s hs
  | shfSll m => exact execShfSll_held m s hs
  | shfSrl m => exact execShfSrl_held m s hs
  | shfSra m => exact execShfSra_held m s hs
  | macMul m => exact execMacMul_held m s hs
  | macAcc m => exact execMacAcc_held m s hs
  | macCmul m => exact execMacCmul_held m s hs
  | macCacc m => exact execMacCacc_held m s hs
  | lsuLdw m => exact execLsuLdw_held m s hs
  | lsuLdp m => exact execLsuLdp_held m s hs
  | lsuStw m => exact execLsuStw_held m s hs
  | cmpEq m => exact execCmpEq_held m s hs
  | cmpNe m => exact execCmpNe_held m s hs
  | cmpLt m => exact execCmpLt_held m s hs
  | cmpGe m => exact execCmpGe_held m s hs
  | cmpLtu m => exact execCmpLtu_held m s hs
  | strGet m => exact execStrGet_held m s hs
  | br m => exact execBr_held m s hs
  | limm m => exact execLimm_held m s hs
  | sysHalt m => exact execSysHalt_held m s hs
  | sysYield m => exact execSysYield_held m s hs
  | sysMark m => exact execSysMark_held m s hs
  | swtrap m code => exact execSwtrap_held m code s hs
  | leRun w e => exact execLeRun_held w e s hs
  | leStep w e => exact execLeStep_held w e s hs
  | leSuspend w e => exact execLeSuspend_held w e s hs
  | leSkip w e => exact execLeSkip_held w e s hs
  | leReset w e => exact execLeReset_held w e s hs
  | streamReplay w e => exact execStreamReplay_held w e s hs
  | emuDepositArm w e => exact execEmuDepositArm_held w e s hs
  | compositeMove m entry => exact execCompositeMove_held m entry s hs
  | lswRd m => exact execLswRd_held m s hs
  | lswWr m => exact execLswWr_held m s hs
  | busLd m => exact execBusLd_held m s hs
  | busSt m => exact execBusSt_held m s hs
  | busLoadComplete at_ load => exact execBusLoadComplete_held at_ load s hs
  | sysReturn m => exact execSysReturn_held m s hs
  | ltrapTaken at_ v => exact execLtrapTaken_held at_ v s hs
  | ltrapAck w v => exact execLtrapAck_held w v s hs
  | dtCommit w v => exact execDtCommit_held w v s hs
  | dtRetire w v => exact execDtRetire_held w v s hs
  | vceReset w v => exact execVceReset_held w v s hs
  | jobPromote at_ v job => exact execJobPromote_held at_ v job s hs
  | jobDeadlineMiss at_ v job => exact execJobDeadlineMiss_held at_ v job s hs
  | checkpointMiss at_ e => exact execCheckpointMiss_held at_ e s hs
  | laneFault at_ e cause bad => exact execLaneFault_held at_ e cause bad s hs
  | vceFault at_ v => exact execVceFault_held at_ v s hs
  | pairMismatch at_ pair addr => exact execPairMismatch_held at_ pair addr s hs
  | gateCall m => exact execGateCall_held m s hs
  | gateRet m => exact execGateRet_held m s hs
  | excRet m => exact execExcRet_held m s hs
  | excSetpc m => exact execExcSetpc_held m s hs
  | excSetsp m => exact execExcSetsp_held m s hs
  | hold m => exact execHold_held m s hs
  | holdEnd m => exact execHoldEnd_held m s hs
  | holdOverrun at_ pair => exact execHoldOverrun_held at_ pair s hs
  | interruptTaken at_ pair => exact execInterruptTaken_held at_ pair s hs
  | sliceSwitch at_ => exact execSliceSwitch_held at_ s hs
  | regionCommit w ctx n => exact execRegionCommit_held w ctx n s hs
  | gateEntryCommit w g => exact execGateEntryCommit_held w g s hs
  | violationPop w world => exact execViolationPop_held w world s hs
  | windowCommit w n => exact execWindowCommit_held w n s hs
  | complementaryPairFault at_ kind index => exact execComplementaryPairFault_held at_ kind index s hs
  | sramControllerFault at_ bank residue0 residue1 => exact execSramControllerFault_held at_ bank residue0 residue1 s hs
  | d2dSessionStart at_ => exact execD2dSessionStart_held at_ s hs
  | d2dHelloReply at_ nonceC mac => exact execD2dHelloReply_held at_ nonceC mac s hs
  | d2dTransfer at_ counter mac toCellar payload => exact execD2dTransfer_held at_ counter mac toCellar payload s hs
  | flashOpProgram w bank => exact execFlashOpProgram_held w bank s hs
  | flashOpErase w bank => exact execFlashOpErase_held w bank s hs
  | flashOpVerify w bank => exact execFlashOpVerify_held w bank s hs
  | flashOpSelect w bank => exact execFlashOpSelect_held w bank s hs
  | flashOpComplete at_ result => exact execFlashOpComplete_held at_ result s hs
  | flashResume at_ bank => exact execFlashResume_held at_ bank s hs
  | bankRelease w => exact execBankRelease_held w s hs
  | flashRead r addr len => exact execFlashRead_held r addr len s hs
  | flashProgram r bank addr data => exact execFlashProgram_held r bank addr data s hs
  | flashErase r bank addr sectors => exact execFlashErase_held r bank addr sectors s hs
  | flashVerify r addr len margin expected => exact execFlashVerify_held r addr len margin expected s hs
  | flashActivateTwin r bank twinB imgver => exact execFlashActivateTwin_held r bank twinB imgver s hs
  | flashReadStatus r => exact execFlashReadStatus_held r s hs
  | cellarEntryQueue w => exact execCellarEntryQueue_held w s hs
  | cellarEntryCommit at_ => exact execCellarEntryCommit_held at_ s hs
  | cellarDieReset at_ => exact execCellarDieReset_held at_ s hs
  | incidentTimeout at_ => exact execIncidentTimeout_held at_ s hs
  | incClose w => exact execIncClose_held w s hs
  | vresThreshold at_ mv => exact execVresThreshold_held at_ mv s hs
  | backupPowerLoss at_ => exact execBackupPowerLoss_held at_ s hs
  | cellarReadSummary r => exact execCellarReadSummary_held r s hs
  | cellarReadEntries r first count => exact execCellarReadEntries_held r first count s hs
  | cellarReadSeals r first last => exact execCellarReadSeals_held r first last s hs
  | cellarCloseIncident r => exact execCellarCloseIncident_held r s hs
  | keyPortWrite w offset => exact execKeyPortWrite_held w offset s hs
  | stagingTimeout at_ world => exact execStagingTimeout_held at_ world s hs
  | ksWrite w => exact execKsWrite_held w s hs
  | ksLoad w => exact execKsLoad_held w s hs
  | ksImport w => exact execKsImport_held w s hs
  | ksEpoch w => exact execKsEpoch_held w s hs
  | ksClear w => exact execKsClear_held w s hs
  | ksGen w => exact execKsGen_held w s hs
  | ksExport w => exact execKsExport_held w s hs
  | cipherClaim w blk => exact execCipherClaim_held w blk s hs
  | cipherClaimLapse at_ blk => exact execCipherClaimLapse_held at_ blk s hs
  | cipherOperation w blk => exact execCipherOperation_held w blk s hs
  | cipherOperationDone at_ blk => exact execCipherOperationDone_held at_ blk s hs
  | entropySourceFail at_ src apt => exact execEntropySourceFail_held at_ src apt s hs
  | starterReseed at_ n => exact execStarterReseed_held at_ n s hs
  | rngRead at_ cls eng reg noise => exact execRngRead_held at_ cls eng reg noise s hs
  | keysChallenge r => exact execKeysChallenge_held r s hs
  | keysGenerate r slot => exact execKeysGenerate_held r slot s hs
  | keysReadPublic r slot => exact execKeysReadPublic_held r slot s hs
  | keysInstallCert r cert => exact execKeysInstallCert_held r cert s hs
  | keysReestablish r tok keys => exact execKeysReestablish_held r tok keys s hs
  | keysRaiseEpoch r slot => exact execKeysRaiseEpoch_held r slot s hs
  | keysReadState r => exact execKeysReadState_held r s hs
  | tamperTrip at_ index measure => exact execTamperTrip_held at_ index measure s hs
  | tamperClear at_ index measure => exact execTamperClear_held at_ index measure s hs
  | tamperSelfTest at_ tripped => exact execTamperSelfTest_held at_ tripped s hs
  | tamperTestTimeout at_ => exact execTamperTestTimeout_held at_ s hs
  | gradeWrite w => exact execGradeWrite_held w s hs
  | backupTamperResponse at_ index measure => exact execBackupTamperResponse_held at_ index measure s hs
  | backupTamperTest at_ tripped => exact execBackupTamperTest_held at_ tripped s hs
  | packetReceived at_ path => exact execPacketReceived_held at_ path s hs
  | replyIssue w world => exact execReplyIssue_held w world s hs
  | spiWrite at_ len bytes => exact execSpiWrite_held at_ len bytes s hs
  | spiRead at_ whole => exact execSpiRead_held at_ whole s hs
  | spiStatus at_ => exact execSpiStatus_held at_ s hs
  | canFrameReceived at_ chan ident ide fd bytes => exact execCanFrameReceived_held at_ chan ident ide fd bytes s hs
  | canReassemblyTimeout at_ chan => exact execCanReassemblyTimeout_held at_ chan s hs
  | ethernetDatagramReceived at_ src good bytes => exact execEthernetDatagramReceived_held at_ src good bytes s hs
  | ethernetReassemblyTimeout at_ src => exact execEthernetReassemblyTimeout_held at_ src s hs
  | arpRequest at_ target sender => exact execArpRequest_held at_ target sender s hs
  | tracePacket at_ => exact execTracePacket_held at_ s hs
  | serviceActivation at_ mv => exact execServiceActivation_held at_ mv s hs
  | pps at_ t pps1 => exact execPps_held at_ t pps1 s hs
  | serviceBlockReceived at_ pcb len inf edc parity => exact execServiceBlockReceived_held at_ pcb len inf edc parity s hs
  | serviceCwtTimeout at_ => exact execServiceCwtTimeout_held at_ s hs
  | serviceBusy at_ => exact execServiceBusy_held at_ s hs
  | resynch at_ inf => exact execResynch_held at_ inf s hs
  | poll at_ inf => exact execPoll_held at_ inf s hs
  | status at_ inf => exact execStatus_held at_ inf s hs
  | unlock at_ inf => exact execUnlock_held at_ inf s hs
  | forcedErase at_ inf => exact execForcedErase_held at_ inf s hs
  | areaRead at_ inf => exact execAreaRead_held at_ inf s hs
  | areaWrite at_ inf => exact execAreaWrite_held at_ inf s hs
  | serviceProbeRemoval at_ whole torn => exact execServiceProbeRemoval_held at_ whole torn s hs
  | serviceReadConfig r => exact execServiceReadConfig_held r s hs
  | serviceSetPassword r password => exact execServiceSetPassword_held r password s hs
  | serviceReadArea r first count => exact execServiceReadArea_held r first count s hs
  | serviceWriteArea r first data => exact execServiceWriteArea_held r first data s hs
  | fieldOn at_ strength store => exact execFieldOn_held at_ strength store s hs
  | fieldLoss at_ => exact execFieldLoss_held at_ s hs
  | reqa at_ wupa => exact execReqa_held at_ wupa s hs
  | anticollision at_ level bits => exact execAnticollision_held at_ level bits s hs
  | hlta at_ => exact execHlta_held at_ s hs
  | rats at_ param => exact execRats_held at_ param s hs
  | deselect at_ => exact execDeselect_held at_ s hs
  | tagInfo at_ => exact execTagInfo_held at_ s hs
  | tagRead at_ first count => exact execTagRead_held at_ first count s hs
  | tagWrite at_ block data store cut => exact execTagWrite_held at_ block data store cut s hs
  | pwCheck at_ password => exact execPwCheck_held at_ password s hs
  | tagSummary at_ => exact execTagSummary_held at_ s hs
  | tagSeal at_ sealSeq => exact execTagSeal_held at_ sealSeq s hs
  | tagEntries at_ first count => exact execTagEntries_held at_ first count s hs
  | wiredItemWait at_ => exact execWiredItemWait_held at_ s hs
  | tagStage w => exact execTagStage_held w s hs
  | tagCommit w => exact execTagCommit_held w s hs
  | tagDiscard w => exact execTagDiscard_held w s hs
  | rollForward at_ n store => exact execRollForward_held at_ n store s hs
  | tagReadConfig r => exact execTagReadConfig_held r s hs
  | tagSetConfig r en record vharv rate password => exact execTagSetConfig_held r en record vharv rate password s hs
  | passportRead r first count => exact execPassportRead_held r first count s hs
  | passportWrite r first data => exact execPassportWrite_held r first data s hs
  | passportSign r identity chemistry => exact execPassportSign_held r identity chemistry s hs
  | asmAnnounce at_ ring term assembly deputy flags serial => exact execAsmAnnounce_held at_ ring term assembly deputy flags serial s hs
  | sealReq at_ sealSeq => exact execSealReq_held at_ sealSeq s hs
  | assemblyFrameReceived at_ ring rd hdr data => exact execAssemblyFrameReceived_held at_ ring rd hdr data s hs
  | managerLoss at_ => exact execManagerLoss_held at_ s hs
  | assemblyRead r => exact execAssemblyRead_held r s hs
  | assemblySetRole r role mask => exact execAssemblySetRole_held r role mask s hs
  | assemblySetDeputy r device => exact execAssemblySetDeputy_held r device s hs
  | assemblySuccessionSeal r newSerial token keys => exact execAssemblySuccessionSeal_held r newSerial token keys s hs
  | assemblySucceed r cert block sealed keyCert => exact execAssemblySucceed_held r cert block sealed keyCert s hs
  | assemblyReadWorker r device => exact execAssemblyReadWorker_held r device s hs
  | faultAck w => exact execFaultAck_held w s hs
  | faultDeclare w => exact execFaultDeclare_held w s hs
  | dormantPowerOff at_ => exact execDormantPowerOff_held at_ s hs
  | selftestRun r mask fuse token keys => exact execSelftestRun_held r mask fuse token keys s hs
  | selftestReadResult r run => exact execSelftestReadResult_held r run s hs
  | selftestAbort r => exact execSelftestAbort_held r s hs
  | selftestTestComplete at_ fails => exact execSelftestTestComplete_held at_ fails s hs
  | lockSet w addr => exact execLockSet_held w addr s hs
  | counterClear w addr => exact execCounterClear_held w addr s hs
  | registerWrite w addr => exact execRegisterWrite_held w addr s hs
  | operandMove m dst => exact execOperandMove_held m dst s hs
  | jobRelease at_ v job => exact execJobRelease_held at_ v job s hs
  | ksOperationDone at_ => exact execKsOperationDone_held at_ s hs
  | sramBankInitialised at_ bank => exact execSramBankInitialised_held at_ bank s hs
  | linkChanged at_ slot up g1000 => exact execLinkChanged_held at_ slot up g1000 s hs
  | deactivation at_ => exact execDeactivation_held at_ s hs
  | clockStop at_ restart inside => exact execClockStop_held at_ restart inside s hs
  | rfBlockReceived at_ pcb inf good => exact execRfBlockReceived_held at_ pcb inf good s hs
  | rfPps at_ dr ds => exact execRfPps_held at_ dr ds s hs
  | d2dLinkDrop at_ => exact execD2dLinkDrop_held at_ s hs
  | commandFrame at_ rd hdr data crc => exact execCommandFrame_held at_ rd hdr data crc s hs

/-- What a command that answers `t` leaves. -/
theorem held_of_exec {c : Instr} {s t : State} (h : exec c s = .next t) : Held s t := by
  obtain ⟨u, hu, hheld⟩ := exec_held c s (held_self s)
  rw [h] at hu
  injection hu with htu
  exact htu ▸ hheld

theorem step_of_pending_eq_nil {s : State} (h : s.pending = []) : step s = .next s := by rw [step, h]

theorem step_of_pending_eq_cons {c : Instr} {rest : List Instr} {s : State} (h : s.pending = c :: rest) : step s = exec c { s with pending := rest } := by
  rw [step, h]

/-- A step leaves what its command leaves of the state with the queue's rest, or everything. -/
theorem step_keeps {s t : State} (h : step s = .next t) : (s.Canonical → t.Canonical) ∧ s.FusesKept t := by
  cases hq : s.pending with
  | nil =>
    rw [step_of_pending_eq_nil hq] at h
    cases h
    exact ⟨id, (held_self s).fusesKept⟩
  | cons c rest =>
    rw [step_of_pending_eq_cons hq] at h
    have hheld := held_of_exec h
    exact ⟨fun hcanonical => hheld.canonical hcanonical, hheld.fusesKept⟩

/-- Settles O1: it is what `step` says of a queue that is not empty. -/
theorem stepTakesTheFront : Obligations.StepTakesTheFront := by
  unfold Obligations.StepTakesTheFront
  exact fun _ _ _ => step_of_pending_eq_cons

/-- Settles O2: it is what `step` says of an empty queue. -/
theorem emptyQueueIdles : Obligations.EmptyQueueIdles := by
  unfold Obligations.EmptyQueueIdles
  exact fun _ => step_of_pending_eq_nil

/-- Settles O3: each row answers a next state, so a step does, on an empty queue the state itself. -/
theorem nothingStops : Obligations.NothingStops := by
  unfold Obligations.NothingStops
  have hexec (c : Instr) (s : State) : ∃ t, exec c s = .next t := by
    obtain ⟨t, ht, _⟩ := exec_held c s (held_self s)
    exact ⟨t, ht⟩
  refine ⟨hexec, fun s => ?_⟩
  cases hq : s.pending with
  | nil => exact ⟨s, step_of_pending_eq_nil hq⟩
  | cons c rest => exact (hexec c { s with pending := rest }).imp fun t ht => (step_of_pending_eq_cons hq).trans ht

/-- Settles O4: of the queue, a command holds what waits behind it. -/
theorem commandsLeaveTheQueue : Obligations.CommandsLeaveTheQueue := by
  unfold Obligations.CommandsLeaveTheQueue
  exact fun _ _ _ h => (held_of_exec h).queue

/-- Settles O5: after reset the three stores list nothing. -/
theorem resetIsCanonical : Obligations.ResetIsCanonical := by
  unfold Obligations.ResetIsCanonical
  exact ⟨⟨rfl, rfl, rfl⟩, rfl⟩

/-- Settles O6: every operation of the machine keeps the canonical form, so every command and every step does. -/
theorem stepKeepsCanonical : Obligations.StepKeepsCanonical := by
  unfold Obligations.StepKeepsCanonical
  exact fun _ _ hs h => (step_keeps h).1 hs

/-- Settles O7: every operation of the machine that touches a fuse blows it. -/
theorem fusesAreOneWay : Obligations.FusesAreOneWay := by
  unfold Obligations.FusesAreOneWay
  exact fun _ _ h => (step_keeps h).2

/-- The field-return pair decides the life cycle before any other fuse (R35). -/
theorem fusedLc_of_frPair {l : LifeState} (h : l.frPair = (true, true)) : fusedLc l = 5 := by
  simp [fusedLc, h]

/-- Without that pair the last blown position of the counter decides, and the fourth is Retired (R32). -/
theorem fusedLc_of_fourth {l : LifeState} (h : at! l.fuses 3 (false, false) = (true, true)) : fusedLc l = 4 ∨ fusedLc l = 5 := by
  by_cases hfr : l.frPair = (true, true)
  · exact .inr (fusedLc_of_frPair hfr)
  · have hrange : (List.range 4).reverse = [3, 2, 1, 0] := rfl
    exact .inl (by simp [fusedLc, hfr, hrange, h])

/-- Settles O8: the fuses that spell Retired and Field-return are among those that no step unblows. -/
theorem finalLifeCycles : Obligations.FinalLifeCycles := by
  unfold Obligations.FinalLifeCycles
  intro s t h
  obtain ⟨hcounter, hpair, hpair', _⟩ := (step_keeps h).2
  refine ⟨fun hfr => fusedLc_of_frPair (Prod.ext (hpair (by rw [hfr])) (hpair' (by rw [hfr]))), fun hfourth => fusedLc_of_fourth ?_⟩
  have hthird := hcounter 3
  exact Prod.ext (hthird.1 (by rw [hfourth])) (hthird.2 (by rw [hfourth]))

end Sys2Proof.Machine

/-!
Writes and reads of registers, of their fields and of memory (R3, R4, R6, R7, R9).
-/
namespace Sys2Proof.Machine

/-! ### A register written field by field -/

/-- Bit `i` is one of a field's. -/
abbrev FieldRow.holds (f : FieldRow) (i : Nat) : Prop := f.lsb ≤ i ∧ i < f.lsb + f.width

/-- Two fields of one register have no bit in common. -/
abbrev FieldRow.apart (f g : FieldRow) : Prop := f.lsb + f.width ≤ g.lsb ∨ g.lsb + g.width ≤ f.lsb

theorem FieldRow.apart.not_holds {f g : FieldRow} {i : Nat} (h : f.apart g) (hg : g.holds i) : ¬ f.holds i := by
  rintro ⟨_, _⟩
  rcases h with h | h <;> omega

/-- The fields of a register lie within its word, each apart from the others. -/
abbrev RegRow.sound (r : RegRow) : Prop := (∀ f ∈ r.fields, f.lsb + f.width ≤ 32) ∧ r.fields.Pairwise FieldRow.apart

/-- Every register of the map is so. -/
theorem sound_of_mem_blockRows (a : Nat) : ∀ r ∈ blockRows a, r.sound := by
  unfold blockRows
  split
  all_goals decide +kernel

theorem sound_of_rowAt {a : Nat} {r : RegRow} (h : rowAt a = some r) : r.sound :=
  sound_of_mem_blockRows a r (List.mem_of_find?_eq_some h)

/-- A bit of a field after a write, by the field's access code (R6) and the lock (R7). -/
def Access.written (acc : Access) (locked old new : Bool) : Bool :=
  match acc with
  | .ro | .wo => old
  | .rw => new
  | .rwl => if locked then old else new
  | .w1c => old && !new
  | .w1s => old || new

theorem getLsbD_bitsOf_ofNat {w : Word} {lsb width j : Nat} (hj : j < width) (hw : width ≤ 32) :
    (BitVec.ofNat 32 (bitsOf w lsb width)).getLsbD j = w.getLsbD (lsb + j) := by
  rw [BitVec.getLsbD_ofNat, testBit_bitsOf]
  simp [hj, Nat.lt_of_lt_of_le hj hw]

theorem getLsbD_writeField_of_holds {f : FieldRow} {i : Nat} (hf : f.lsb + f.width ≤ 32) (hi : f.holds i) (locked : Bool) (v w : Word) :
    (writeField locked v w f).getLsbD i = f.acc.written locked (w.getLsbD i) (v.getLsbD i) := by
  obtain ⟨hlo, hhi⟩ := hi
  have hbit (x : Word) : (BitVec.ofNat 32 (bitsOf x f.lsb f.width)).getLsbD (i - f.lsb) = x.getLsbD i := by
    rw [getLsbD_bitsOf_ofNat (by omega) (by omega)]
    congr 1
    omega
  have hnew : (bitsOf v f.lsb f.width).testBit (i - f.lsb) = v.getLsbD i := by
    rw [← hbit v, BitVec.getLsbD_ofNat]
    simp [show i - f.lsb < 32 by omega]
  have hj : i - f.lsb < 32 := by omega
  cases hacc : f.acc with
  | ro | wo => simp [writeField, hacc, Access.written]
  | rw => simp [writeField, hacc, Access.written, getLsbD_withBits _ _ _ _ _ hf, hlo, hhi, hnew]
  | rwl => cases locked <;> simp [writeField, hacc, Access.written, getLsbD_withBits _ _ _ _ _ hf, hlo, hhi, hnew]
  | w1c | w1s =>
    simp only [writeField, hacc, Access.written, getLsbD_withBits _ _ _ _ _ hf, hlo, hhi, and_self, if_true, BitVec.testBit_toNat, BitVec.getLsbD_and,
      BitVec.getLsbD_or, BitVec.getLsbD_not, hbit, hj, decide_true, Bool.true_and]

theorem getLsbD_writeField_of_not_holds {f : FieldRow} {i : Nat} (hf : f.lsb + f.width ≤ 32) (hi : ¬ f.holds i) (locked : Bool) (v w : Word) :
    (writeField locked v w f).getLsbD i = w.getLsbD i := by
  have hkeep (n : Nat) : (withBits w f.lsb f.width n).getLsbD i = w.getLsbD i := by rw [getLsbD_withBits _ _ _ _ _ hf, if_neg hi]
  cases hacc : f.acc with
  | ro | wo => simp [writeField, hacc]
  | rw | w1c | w1s => simp only [writeField, hacc, hkeep]
  | rwl => cases locked <;> simp [writeField, hacc, hkeep]

/-- A bit of no field is left by every field's write. -/
theorem getLsbD_foldl_writeField_of_not_holds {fs : List FieldRow} {i : Nat} (hfs : ∀ f ∈ fs, f.lsb + f.width ≤ 32) (hi : ∀ f ∈ fs, ¬ f.holds i)
    (locked : Bool) (v w : Word) : (fs.foldl (writeField locked v) w).getLsbD i = w.getLsbD i := by
  induction fs generalizing w with
  | nil => rfl
  | cons f fs ih =>
    rw [List.forall_mem_cons] at hfs hi
    rw [List.foldl_cons, ih hfs.2 hi.2, getLsbD_writeField_of_not_holds hfs.1 hi.1]

/-- A field's bit is written by its own field's write, the others being apart from it. -/
theorem getLsbD_foldl_writeField_of_holds {fs : List FieldRow} {f : FieldRow} {i : Nat} (hfs : ∀ f ∈ fs, f.lsb + f.width ≤ 32) (hapart : fs.Pairwise FieldRow.apart)
    (hf : f ∈ fs) (hi : f.holds i) (locked : Bool) (v w : Word) :
    (fs.foldl (writeField locked v) w).getLsbD i = f.acc.written locked (w.getLsbD i) (v.getLsbD i) := by
  induction fs generalizing w with
  | nil => cases hf
  | cons g fs ih =>
    rw [List.forall_mem_cons] at hfs
    rw [List.pairwise_cons] at hapart
    rw [List.foldl_cons]
    cases hf with
    | head =>
      rw [getLsbD_foldl_writeField_of_not_holds hfs.2 fun x hx => FieldRow.apart.not_holds (hapart.1 x hx).symm hi, getLsbD_writeField_of_holds hfs.1 hi]
    | tail _ hf => rw [ih hfs.2 hapart.2 hf, getLsbD_writeField_of_not_holds hfs.1 (FieldRow.apart.not_holds (hapart.1 f hf) hi)]

/-- Settles O9: the fields of a row are apart, so each bit is written by the field that holds it, or by none. -/
theorem writesFollowAccessCodes : Obligations.WritesFollowAccessCodes := by
  unfold Obligations.WritesFollowAccessCodes
  rintro a r locked old v t hrow rfl
  obtain ⟨hwide, hapart⟩ := sound_of_rowAt hrow
  refine ⟨fun f hf i hlo hhi => ?_, fun i hi => getLsbD_foldl_writeField_of_not_holds hwide hi locked v old⟩
  refine (getLsbD_foldl_writeField_of_holds hwide hapart hf ⟨hlo, hhi⟩ locked v old).trans ?_
  cases f.acc <;> rfl

/-! ### Numbers in memory (R4) -/

theorem length_leBytes (n v : Nat) : (leBytes n v).length = n := by
  induction n generalizing v with
  | zero => rfl
  | succ n ih => simp [leBytes, ih]

theorem leNat_leBytes (n v : Nat) : leNat (leBytes n v) = v % 256 ^ n := by
  induction n generalizing v with
  | zero => simp [leBytes, leNat, Nat.mod_one]
  | succ n ih => rw [leBytes, leNat, ih, BitVec.toNat_ofNat, Nat.pow_succ' (n := n), Nat.mod_mul (a := 256) (b := 256 ^ n)]

/-- Bytes stored are bytes loaded. -/
theorem State.load_store (l : List Byte) (a : Nat) (s : State) : (s.store a l).load a l.length = l := by
  induction l generalizing a s with
  | nil => rfl
  | cons b l ih =>
    have hfirst : ((s.setByte a b).store (a + 1) l).byte a = b := by
      rw [State.byte_store_outside a l (a + 1) _ (.inl (Nat.lt_succ_self a)), State.byte_setByte, if_pos rfl]
    rw [State.store, List.length_cons, State.load, ih, hfirst]

theorem State.loadN_storeN (s : State) (a n v : Nat) : (s.storeN a n v).loadN a n = v % 256 ^ n := by
  have h := State.load_store (leBytes n v) a (s.heal a (leBytes n v).length)
  rw [length_leBytes] at h
  rw [State.loadN, State.storeN, State.write, length_leBytes, h, leNat_leBytes]

theorem State.byte_storeN_outside {s : State} {a n v b : Nat} (h : b < a ∨ a + n ≤ b) : (s.storeN a n v).byte b = s.byte b :=
  State.byte_store_outside b _ _ _ (by rwa [length_leBytes])

/-- Settles O10, from the laws of the sparse stores, of fields and of little-endian numbers. -/
theorem readAfterWrite : Obligations.ReadAfterWrite := by
  unfold Obligations.ReadAfterWrite
  exact ⟨State.reg_setReg, fun s f v hf => ⟨State.fget_fput s f v hf, fun g hg => State.fget_fput_ne s f g v hf hg⟩,
    fun s a n v => ⟨State.loadN_storeN s a n v, fun b hb => State.byte_storeN_outside hb⟩⟩

end Sys2Proof.Machine

/-!
What the registers read after reset, the check values of the CRCs, and the presented fault record.
-/
namespace Sys2Proof.Machine

/-- Settles O11: the registers of reset are the map's reset values. -/
theorem resetRegisters : Obligations.ResetRegisters := by
  unfold Obligations.ResetRegisters
  have hmemory : ∀ x ∈ [(64, 0x50), (65, 0x50), (66, 0x01000010), (67, 0x10), (68, 0x70), (69, 0x10), (70, 0x11011)],
      State.reset.regN (r_TG_PERM x.1) = x.2 := by decide +kernel
  refine ⟨rfl, ?mode, ?lifeCycle, ?share, ?slots, fun g p hmem => hmemory (g, p) hmem, ?windows, ?logs⟩
  all_goals decide +kernel

/-- Settles O26, byte by byte. -/
theorem crcCheckValues : Obligations.CrcCheckValues := by
  unfold Obligations.CrcCheckValues
  decide +kernel

/-- `r` leads a queue: no record is more severe, and none before it is as severe. -/
def Leads (q : List FaultRec) (r : FaultRec) : Prop := ∃ l m, q = l ++ r :: m ∧ (∀ x ∈ l, x.sev < r.sev) ∧ ∀ x ∈ m, x.sev ≤ r.sev

theorem Leads.sev_le {q : List FaultRec} {r x : FaultRec} (h : Leads q r) (hx : x ∈ q) : x.sev ≤ r.sev := by
  obtain ⟨l, m, rfl, hbefore, hbehind⟩ := h
  simp only [List.mem_append, List.mem_cons] at hx
  rcases hx with hx | rfl | hx
  · exact (hbefore x hx).le
  · exact le_rfl
  · exact hbehind x hx

theorem leads_cons_iff {q : List FaultRec} {x r : FaultRec} : Leads (x :: q) r ↔ (r = x ∧ ∀ y ∈ q, y.sev ≤ x.sev) ∨ (x.sev < r.sev ∧ Leads q r) := by
  constructor
  · rintro ⟨l, m, hq, hbefore, hbehind⟩
    cases l with
    | nil =>
      obtain ⟨rfl, rfl⟩ := List.cons.inj hq
      exact .inl ⟨rfl, hbehind⟩
    | cons y l =>
      obtain ⟨rfl, rfl⟩ := List.cons.inj hq
      exact .inr ⟨hbefore x List.mem_cons_self, l, m, rfl, fun z hz => hbefore z (List.mem_cons_of_mem x hz), hbehind⟩
  · rintro (⟨rfl, hbehind⟩ | ⟨hless, l, m, rfl, hbefore, hbehind⟩)
    · exact ⟨[], q, rfl, by simp, hbehind⟩
    · exact ⟨x :: l, m, rfl, List.forall_mem_cons.mpr ⟨hless, hbefore⟩, hbehind⟩

theorem presented_cons (x : FaultRec) (q : List FaultRec) :
    presented (x :: q) = some (match presented q with | none => x | some y => if x.sev < y.sev then y else x) := by
  rw [presented]
  cases presented q with
  | none => rfl
  | some y => exact (apply_ite some _ _ _).symm

theorem presented_eq_some_iff {q : List FaultRec} {r : FaultRec} : presented q = some r ↔ Leads q r := by
  induction q generalizing r with
  | nil => simp [presented, Leads]
  | cons x q ih =>
    rw [leads_cons_iff, presented_cons, Option.some_inj, ← ih]
    cases hq : presented q with
    | none =>
      have hempty : q = [] := by
        cases q with
        | nil => rfl
        | cons y q => cases (presented_cons y q).symm.trans hq
      simp [hempty, eq_comm]
    | some y =>
      have hy : Leads q y := ih.mp hq
      have hmem : y ∈ q := by obtain ⟨l, m, rfl, _⟩ := hy; simp
      have hall : (∀ z ∈ q, z.sev ≤ x.sev) ↔ y.sev ≤ x.sev := ⟨fun h => h y hmem, fun h z hz => (hy.sev_le hz).trans h⟩
      by_cases hless : x.sev < y.sev
      · simp only [hless, if_true, hall, Nat.not_le.mpr hless, and_false, false_or, Option.some_inj]
        exact ⟨fun h => ⟨h ▸ hless, h⟩, And.right⟩
      · simp only [hless, if_false, hall, Nat.not_lt.mp hless, and_true, Option.some_inj, eq_comm]
        exact ⟨.inl, Or.rec id fun h => absurd (h.2 ▸ h.1) hless⟩

/-- Settles O28: the head is presented when nothing behind it is more severe, and otherwise what the rest presents is more severe than the head. -/
theorem presentedRecord : Obligations.PresentedRecord := by
  unfold Obligations.PresentedRecord
  exact fun _ _ => presented_eq_some_iff

end Sys2Proof.Machine

/-!
PROOFS. Family 13_memory_map_and_target_gates: the permission word of a gate, the violation log that a denied access leaves, what a posted write that is
not admitted leaves, and the window of the service user area.
-/
namespace Sys2Proof.Machine

/-! ### The permission word (R322) -/

theorem bit_eq_testBit (n i : Nat) : bit n i = n.testBit i := by
  simp [bit, Nat.testBit_eq_decide_div_mod_eq]

/-- Settles O16: a class other than debug passes the class check, so at a programmable gate its own bit decides. -/
theorem permissionWordDecides : Obligations.PermissionWordDecides := by
  unfold Obligations.PermissionWordDecides
  intro s a g hgate hg hcls _ hiso
  have hprog : programmable g = true ∧ ¬ 80 ≤ g := by fin_cases hg <;> decide
  rw [gateCheck_eq_none_iff_of_programmable hgate hprog.1 (fun h => hprog.2 h.1) hiso, permBit, State.regN, bit_eq_testBit, BitVec.testBit_toNat]
  exact and_iff_right (debugDenied_eq_false_of_ne (by omega))

/-! ### Registers written -/

theorem State.fget_congr {s t : State} {f : Fld} (h : t.reg f.addr = s.reg f.addr) : t.fget f = s.fget f := by
  rw [State.fget, State.fget, h]

theorem State.fget_lt (s : State) (f : Fld) : s.fget f < 2 ^ f.width := Nat.mod_lt _ (Nat.two_pow_pos _)

theorem State.reg_setReg_ne {s : State} {a b : Nat} {w : Word} (h : b ≠ a) : (s.setReg a w).reg b = s.reg b := by
  rw [State.reg_setReg, if_neg h]

theorem State.reg_setRegN_ne {s : State} {a b v : Nat} (h : b ≠ a) : (s.setRegN a v).reg b = s.reg b := State.reg_setReg_ne h

theorem State.regN_setRegN_ne {s : State} {a b v : Nat} (h : b ≠ a) : (s.setRegN a v).regN b = s.regN b := by
  rw [State.regN, State.reg_setRegN_ne h, State.regN]

theorem State.regN_setRegN_self (s : State) (a v : Nat) : (s.setRegN a v).regN a = v % 2 ^ 32 := by
  rw [State.regN, State.setRegN, State.reg_setReg, if_pos rfl, BitVec.toNat_ofNat]

theorem satU_eq_min (w n : Nat) : satU w n = min (2 ^ w - 1) n := by
  unfold satU
  split <;> omega

/-! ### An entry of the violation log (R329, R330) -/

/-- Entry `j` of world `w`'s log is written. -/
def State.logEntry (s : State) (w j info addr : Nat) : State :=
  ((s.setRegN (r_TG_VLOG_ADDR w j) addr).setRegN (r_TG_VLOG_INFO w j) info).put64 (r_TG_VLOG_STAMP_LO w j) (r_TG_VLOG_STAMP_HI w j) s.now

theorem State.reg_logEntry_ne {s : State} {w j info addr a : Nat} (h : ∀ i < 4, a ≠ 0x40030400 + 128 * w + 16 * j + 4 * i) :
    (s.logEntry w j info addr).reg a = s.reg a := by
  have h0 := h 0 (by decide)
  have h1 := h 1 (by decide)
  have h2 := h 2 (by decide)
  have h3 := h 3 (by decide)
  simp only [State.logEntry, State.put64, r_TG_VLOG_ADDR, r_TG_VLOG_INFO, r_TG_VLOG_STAMP_LO, r_TG_VLOG_STAMP_HI]
  rw [State.reg_setRegN_ne (by omega), State.reg_setRegN_ne (by omega), State.reg_setRegN_ne (by omega), State.reg_setRegN_ne (by omega)]

theorem State.logEntry_addr {s : State} {w j info addr : Nat} (h : addr < 2 ^ 32) : (s.logEntry w j info addr).regN (r_TG_VLOG_ADDR w j) = addr := by
  simp only [State.logEntry, State.put64, r_TG_VLOG_ADDR, r_TG_VLOG_INFO, r_TG_VLOG_STAMP_LO, r_TG_VLOG_STAMP_HI]
  rw [State.regN_setRegN_ne (by omega), State.regN_setRegN_ne (by omega), State.regN_setRegN_ne (by omega), State.regN_setRegN_self, Nat.mod_eq_of_lt h]

theorem State.logEntry_info {s : State} {w j info addr : Nat} (h : info < 2 ^ 32) : (s.logEntry w j info addr).regN (r_TG_VLOG_INFO w j) = info := by
  simp only [State.logEntry, State.put64, r_TG_VLOG_ADDR, r_TG_VLOG_INFO, r_TG_VLOG_STAMP_LO, r_TG_VLOG_STAMP_HI]
  rw [State.regN_setRegN_ne (by omega), State.regN_setRegN_ne (by omega), State.regN_setRegN_self, Nat.mod_eq_of_lt h]

theorem State.get64_put64 {s : State} {lo hi v : Nat} (hne : lo ≠ hi) (h : v < 2 ^ 64) : (s.put64 lo hi v).get64 lo hi = v := by
  rw [State.get64, State.put64, State.regN_setRegN_ne hne, State.regN_setRegN_self, State.regN_setRegN_self]
  omega

theorem State.logEntry_stamp {s : State} {w j info addr : Nat} (h : s.now < 2 ^ 64) :
    (s.logEntry w j info addr).get64 (r_TG_VLOG_STAMP_LO w j) (r_TG_VLOG_STAMP_HI w j) = s.now :=
  State.get64_put64 (by simp only [r_TG_VLOG_STAMP_LO, r_TG_VLOG_STAMP_HI]; omega) h

/-- The newest entry of world `w`'s log is of the same denied access. -/
def State.newestIs (s : State) (w info addr : Nat) : Prop :=
  0 < s.fget (f_TG_VSTAT_DEPTH w) ∧ s.regN (r_TG_VLOG_ADDR w (s.fget (f_TG_VSTAT_DEPTH w) - 1)) = addr ∧
    s.regN (r_TG_VLOG_INFO w (s.fget (f_TG_VSTAT_DEPTH w) - 1)) / 2 ^ 11 = info / 2 ^ 11

/-- A notice is counted by the newest entry, takes the next entry, or overwrites entry 7 of a full log. -/
theorem State.noticeIn_cases (s : State) (w info addr : Nat) :
    (s.newestIs w info addr ∧ s.noticeIn w info addr = s.bump (f_TG_VLOG_INFO_REPEAT w (s.fget (f_TG_VSTAT_DEPTH w) - 1))) ∨
    (¬ s.newestIs w info addr ∧ s.fget (f_TG_VSTAT_DEPTH w) < 8 ∧
      s.noticeIn w info addr = (s.logEntry w (s.fget (f_TG_VSTAT_DEPTH w)) info addr).fput (f_TG_VSTAT_DEPTH w) (s.fget (f_TG_VSTAT_DEPTH w) + 1)) ∨
    (¬ s.newestIs w info addr ∧ 8 ≤ s.fget (f_TG_VSTAT_DEPTH w) ∧ s.noticeIn w info addr = (s.logEntry w 7 info addr).bump (f_TG_VSTAT_LOST w)) := by
  unfold State.noticeIn
  by_cases hsame : s.newestIs w info addr
  · exact .inl ⟨hsame, if_pos hsame⟩
  · rcases Nat.lt_or_ge (s.fget (f_TG_VSTAT_DEPTH w)) 8 with hroom | hfull
    · exact .inr (.inl ⟨hsame, hroom, (if_neg hsame).trans (if_pos hroom)⟩)
    · exact .inr (.inr ⟨hsame, hfull, (if_neg hsame).trans (if_neg (Nat.not_lt.mpr hfull))⟩)

/-- What both ways of taking an entry leave: the entry as written, the other entries as they were. -/
theorem logEntry_taken {s t : State} {w j info addr : Nat} (hw : w < 2) (hj : j < 8) (hinfo : info < 2 ^ 32) (haddr : addr < 2 ^ 32) (hnow : s.now < 2 ^ 64)
    (ht : ∀ a, a ≠ r_TG_VSTAT w → t.reg a = (s.logEntry w j info addr).reg a) :
    t.regN (r_TG_VLOG_ADDR w j) = addr ∧ t.regN (r_TG_VLOG_INFO w j) = info ∧ t.get64 (r_TG_VLOG_STAMP_LO w j) (r_TG_VLOG_STAMP_HI w j) = s.now ∧
    ∀ i < 8, i ≠ j → t.reg (r_TG_VLOG_ADDR w i) = s.reg (r_TG_VLOG_ADDR w i) ∧ t.reg (r_TG_VLOG_INFO w i) = s.reg (r_TG_VLOG_INFO w i) ∧
      t.reg (r_TG_VLOG_STAMP_LO w i) = s.reg (r_TG_VLOG_STAMP_LO w i) ∧ t.reg (r_TG_VLOG_STAMP_HI w i) = s.reg (r_TG_VLOG_STAMP_HI w i) := by
  have hlog (a : Nat) (h : 0x40030400 ≤ a) : t.reg a = (s.logEntry w j info addr).reg a := ht a (by simp only [r_TG_VSTAT]; omega)
  have hN (a : Nat) (h : 0x40030400 ≤ a) : t.regN a = (s.logEntry w j info addr).regN a := congrArg BitVec.toNat (hlog a h)
  have hother (i k : Nat) (hi : i < 8) (hij : i ≠ j) (hk : k < 4) :
      t.reg (0x40030400 + 128 * w + 16 * i + 4 * k) = s.reg (0x40030400 + 128 * w + 16 * i + 4 * k) := by
    rw [hlog _ (by omega), State.reg_logEntry_ne (by omega)]
  refine ⟨?_, ?_, ?_, fun i hi hij => ?_⟩
  · rw [hN _ (by simp only [r_TG_VLOG_ADDR]; omega), State.logEntry_addr haddr]
  · rw [hN _ (by simp only [r_TG_VLOG_INFO]; omega), State.logEntry_info hinfo]
  · rw [State.get64, hN _ (by simp only [r_TG_VLOG_STAMP_LO]; omega), hN _ (by simp only [r_TG_VLOG_STAMP_HI]; omega)]
    exact State.logEntry_stamp hnow
  · have h0 := hother i 0 hi hij (by decide)
    have h1 := hother i 1 hi hij (by decide)
    have h2 := hother i 2 hi hij (by decide)
    have h3 := hother i 3 hi hij (by decide)
    rw [Nat.add_right_comm _ (16 * i), Nat.add_right_comm _ (128 * w)] at h0 h1 h2 h3
    exact ⟨h0, h1, h2, h3⟩

theorem State.reg_logEntry_stat {s : State} {w j info addr : Nat} (hw : w < 2) : (s.logEntry w j info addr).reg (r_TG_VSTAT w) = s.reg (r_TG_VSTAT w) :=
  State.reg_logEntry_ne (by simp only [r_TG_VSTAT]; omega)

/-- Settles O17: the three cases of `State.noticeIn_cases`, the first excluded by the second clause's premise. -/
theorem noticeLog : Obligations.NoticeLog := by
  unfold Obligations.NoticeLog
  rintro s t w info addr d hw hinfo haddr hnow _ rfl hdepth rfl
  rcases s.noticeIn_cases w info addr with ⟨hsame, ht⟩ | ⟨hnew, hroom, ht⟩ | ⟨hnew, hfull, ht⟩
  · obtain ⟨hpos, hsameAddr, hsameInfo⟩ := hsame
    refine ⟨fun _ _ _ => ?_, fun hne => ?_⟩
    · rw [ht, State.bump, satU_eq_min]
      rfl
    · rcases hne with h | h | h
      · omega
      · exact absurd hsameAddr h
      · exact absurd hsameInfo h
  · refine ⟨fun hpos haddr hinfo => absurd ⟨hpos, haddr, hinfo⟩ hnew, fun _ => ?_⟩
    have hj : min (s.fget (f_TG_VSTAT_DEPTH w)) 7 = s.fget (f_TG_VSTAT_DEPTH w) := by omega
    have hstat : (s.logEntry w (s.fget (f_TG_VSTAT_DEPTH w)) info addr).reg (r_TG_VSTAT w) = s.reg (r_TG_VSTAT w) := State.reg_logEntry_stat hw
    rw [hj, ht]
    obtain ⟨h1, h2, h3, hothers⟩ := logEntry_taken hw hroom hinfo haddr hnow (t := (s.logEntry w _ info addr).fput (f_TG_VSTAT_DEPTH w) (s.fget (f_TG_VSTAT_DEPTH w) + 1))
      fun a ha => State.reg_fput_ne ha
    refine ⟨h1, h2, h3, ?_, ?_, hothers⟩
    · rw [State.fget_fput _ _ _ (by decide : 0 + 4 ≤ 32)]
      show (s.fget (f_TG_VSTAT_DEPTH w) + 1) % 2 ^ 4 = _
      omega
    · rw [if_neg (by omega), State.fget_fput_ne _ _ _ _ (by decide : 0 + 4 ≤ 32) (.inr (.inr (by decide : 0 + 4 ≤ 16))), State.fget_congr hstat]
  · refine ⟨fun hpos haddr hinfo => absurd ⟨hpos, haddr, hinfo⟩ hnew, fun _ => ?_⟩
    have hj : min (s.fget (f_TG_VSTAT_DEPTH w)) 7 = 7 := by omega
    have hstat : (s.logEntry w 7 info addr).reg (r_TG_VSTAT w) = s.reg (r_TG_VSTAT w) := State.reg_logEntry_stat hw
    rw [hj, ht]
    obtain ⟨h1, h2, h3, hothers⟩ := logEntry_taken hw (by decide : 7 < 8) hinfo haddr hnow (t := (s.logEntry w 7 info addr).bump (f_TG_VSTAT_LOST w))
      fun a ha => State.reg_fput_ne ha
    refine ⟨h1, h2, h3, ?_, ?_, hothers⟩
    · rw [State.bump, State.fget_fput_ne _ _ _ _ (by decide : 16 + 16 ≤ 32) (.inr (.inl (by decide : 0 + 4 ≤ 16))), State.fget_congr hstat]
      omega
    · rw [if_pos (by omega), State.bump, State.fget_fput _ _ _ (by decide : 16 + 16 ≤ 32), State.fget_congr hstat, satU_eq_min]
      show min (2 ^ 16 - 1) _ % 2 ^ 16 = _
      omega

/-! ### What writes registers alone -/

/-- From `s` to `t` nothing but registers in `p` has changed. -/
def OnlyRegs (p : Nat → Prop) (s t : State) : Prop := { t with regs := s.regs } = s ∧ ∀ a, ¬ p a → t.reg a = s.reg a

theorem OnlyRegs.refl (p : Nat → Prop) (s : State) : OnlyRegs p s s := ⟨rfl, fun _ _ => rfl⟩

theorem OnlyRegs.trans {p : Nat → Prop} {s t u : State} (h : OnlyRegs p s t) (h' : OnlyRegs p t u) : OnlyRegs p s u := by
  obtain ⟨hrest, hregs⟩ := h
  obtain ⟨hrest', hregs'⟩ := h'
  refine ⟨?_, fun a ha => (hregs' a ha).trans (hregs a ha)⟩
  calc { u with regs := s.regs } = { ({ u with regs := t.regs } : State) with regs := s.regs } := rfl
    _ = { t with regs := s.regs } := by rw [hrest']
    _ = s := hrest

theorem onlyRegs_setRegN {p : Nat → Prop} (s : State) {a : Nat} (ha : p a) (v : Nat) : OnlyRegs p s (s.setRegN a v) :=
  ⟨rfl, fun _ hb => State.reg_setRegN_ne fun h => hb (h ▸ ha)⟩

theorem onlyRegs_fput {p : Nat → Prop} (s : State) {f : Fld} (hf : p f.addr) (v : Nat) : OnlyRegs p s (s.fput f v) :=
  ⟨rfl, fun _ hb => State.reg_fput_ne fun h => hb (h ▸ hf)⟩

/-- The registers of the gate block (R320, slot 3). -/
def InGateBlock (r : Nat) : Prop := 0x40030000 ≤ r ∧ r < 0x40040000

theorem State.logEntry_onlyRegs (s : State) {w j : Nat} (info addr : Nat) (hw : w < 2) (hj : j < 16) : OnlyRegs InGateBlock s (s.logEntry w j info addr) := by
  have hlog (k : Nat) (hk : k < 16) : InGateBlock (0x40030400 + k + 128 * w + 16 * j) := by unfold InGateBlock; omega
  exact ((onlyRegs_setRegN s (hlog 0 (by decide)) _).trans (onlyRegs_setRegN _ (hlog 4 (by decide)) _)).trans
    ((onlyRegs_setRegN _ (hlog 8 (by decide)) _).trans (onlyRegs_setRegN _ (hlog 12 (by decide)) _))

theorem State.noticeIn_onlyRegs (s : State) {w : Nat} (info addr : Nat) (hw : w < 2) : OnlyRegs InGateBlock s (s.noticeIn w info addr) := by
  have hdepth : s.fget (f_TG_VSTAT_DEPTH w) < 16 := State.fget_lt s _
  rcases s.noticeIn_cases w info addr with ⟨_, ht⟩ | ⟨_, hroom, ht⟩ | ⟨_, _, ht⟩ <;> rw [ht]
  · exact onlyRegs_fput s (show InGateBlock (0x40030404 + 128 * w + 16 * _) by unfold InGateBlock; omega) _
  · exact (s.logEntry_onlyRegs info addr hw (by omega)).trans (onlyRegs_fput _ (show InGateBlock (0x40030020 + 4 * w) by unfold InGateBlock; omega) _)
  · exact (s.logEntry_onlyRegs info addr hw (by decide)).trans (onlyRegs_fput _ (show InGateBlock (0x40030020 + 4 * w) by unfold InGateBlock; omega) _)

theorem State.notice_onlyRegs (s : State) (a : Acc) (reason : Nat) : OnlyRegs InGateBlock s (s.notice a reason) := by
  unfold State.notice
  dsimp only
  split
  · exact s.noticeIn_onlyRegs _ _ (by decide)
  · exact s.noticeIn_onlyRegs _ _ (by decide)
  · exact (s.noticeIn_onlyRegs _ _ (by decide)).trans (State.noticeIn_onlyRegs _ _ _ (by decide))

/-- Settles O18: a notice goes to one world's log or to both, and a log lies in the gate block. -/
theorem noticeFrame : Obligations.NoticeFrame := by
  unfold Obligations.NoticeFrame
  rintro s t a reason rfl
  exact s.notice_onlyRegs a reason

end Sys2Proof.Machine

/-!
PROOFS. Family 13_memory_map_and_target_gates and 18_command_interface: what a posted write leaves that is not admitted, the window of the service user
area, and what a command leaves that a check refuses.
-/
namespace Sys2Proof.Machine

/-! ### What a report reaches (R336, R509–R516) -/

/-- `t` with what a fault's record, its event and its Cellar entry write taken from `s`. -/
def State.unreport (s t : State) : State :=
  { t with regs := s.regs, cmd := s.cmd, flt := s.flt, events := s.events, cel := s.cel, tmp := s.tmp, gates := s.gates }

/-- From `s` to `t` nothing else has changed. -/
def Reported (s t : State) : Prop := s.unreport t = s

theorem Reported.refl (s : State) : Reported s s := rfl

theorem Reported.trans {s t u : State} (h : Reported s t) (h' : Reported t u) : Reported s u := by
  have hsame : s.unreport u = s.unreport (t.unreport u) := rfl
  exact hsame.trans ((congrArg s.unreport h').trans h)

theorem Reported.keys {s t : State} (h : Reported s t) : t.keys = s.keys := by
  have hsame : (s.unreport t).keys = t.keys := rfl
  exact hsame.symm.trans (congrArg State.keys h)

theorem State.openIncident_reported (s : State) (stamp : Nat) : Reported s (s.openIncident stamp).1 := by
  unfold State.openIncident
  split <;> rfl

theorem State.celAccept_reported (s : State) (e : CelQueued) : Reported s (s.celAccept e).1 := by
  have h := s.openIncident_reported e.stamp
  unfold State.celAccept
  dsimp only
  split_ifs
  · rfl
  · rfl
  · exact h.trans rfl
  · exact h.trans rfl
  · rfl
  · rfl

theorem State.celGroup_reported (l : List CelQueued) (s : State) : Reported s (s.celGroup l) := by
  induction l generalizing s with
  | nil => rfl
  | cons e l ih =>
    have h := s.celAccept_reported e
    rw [State.celGroup]
    dsimp only
    split
    · exact h.trans (ih _)
    · exact h

theorem State.celWrite_reported (s : State) (type : Nat) (inc : Bool) (payload : List Byte) : Reported s (s.celWrite type inc payload) := by
  unfold State.celWrite State.celSend
  split
  · exact State.celGroup_reported _ s
  · rfl

theorem State.emit_reported (s : State) (locus block ecode : Nat) (detail : List Byte) : Reported s (s.emit locus block ecode detail) := by
  unfold State.emit
  dsimp only
  split
  · rfl
  · split_ifs <;> rfl

theorem State.noteUnended_reported (s : State) (r : FaultRec) : Reported s (s.noteUnended r) := by
  unfold State.noteUnended
  split <;> rfl

theorem State.reportFault_reported (s : State) (r : FaultRec) : Reported s (s.reportFault r) := by
  have h := s.noteUnended_reported r
  unfold State.reportFault
  dsimp only
  split_ifs
  · exact h.trans (State.celWrite_reported _ _ _ _)
  · exact h
  · exact (h.trans (State.celWrite_reported _ _ _ _)).trans (State.emit_reported _ _ _ _ _)
  · exact h.trans (State.emit_reported _ _ _ _ _)

theorem State.queueRecord_reported (s : State) (r : FaultRec) : Reported s (s.queueRecord r) := by
  unfold State.queueRecord
  split <;> rfl

theorem State.takeFault_reported (s : State) (cls sev unit detail rflags : Nat) : Reported s (s.takeFault cls sev unit detail rflags) := by
  have hcounted : Reported s (s.bump (f_FLT_COUNT_COUNT cls)) := rfl
  cases hin : s.inService cls with
  | some x =>
    rw [State.takeFault_of_inService hin]
    exact (hcounted.trans (State.queueRecord_reported _ _)).trans (State.reportFault_reported _ _)
  | none =>
    cases hany : s.flt.queue.any (FaultRec.coalesces cls unit sev) with
    | true =>
      rw [State.takeFault_of_coalesces hin hany]
      exact Reported.trans (t := (s.bump (f_FLT_COUNT_COUNT cls)).countFault cls unit sev) rfl (State.reportFault_reported _ _)
    | false =>
      rw [State.takeFault_of_new hin hany]
      exact (hcounted.trans (State.queueRecord_reported _ _)).trans (State.reportFault_reported _ _)

theorem State.busFault_reported (s : State) (a : Nat) : Reported s (s.busFault a) :=
  Reported.trans (t := s.bump f_TG_BUS_ERR_COUNT) rfl (State.takeFault_reported _ _ _ _ _ _)

theorem State.notice_keys (s : State) (a : Acc) (reason : Nat) : (s.notice a reason).keys = s.keys := by
  have hsame : ({ s.notice a reason with regs := s.regs } : State).keys = (s.notice a reason).keys := rfl
  exact hsame.symm.trans (congrArg State.keys (s.notice_onlyRegs a reason).1)

@[simp] theorem State.at_keys (s : State) (n : Nat) : (s.at n).keys = s.keys := by
  unfold State.at State.lcReread
  split
  · split <;> rfl
  · rfl

/-! ### Posted writes as guarded effects -/

/-- What a posted write leaves that is not admitted; only an admitted one has its effect. -/
theorem guarded_cases (s : State) (w : Wr) (a : Nat) (eff : State → State) (t : State) (ht : t = s.at w.at_) :
    ((t.alive = false ∨ t.alive = true ∧ damaged t (wrAcc w a) w.value w.noise = false ∧ gateCheck t (wrAcc w a) = none ∧ outOfReach t a = true) ∧
      guarded s w a eff = t) ∨
    (t.alive = true ∧ damaged t (wrAcc w a) w.value w.noise = true ∧ guarded s w a eff = t.busFault a) ∨
    (t.alive = true ∧ damaged t (wrAcc w a) w.value w.noise = false ∧
      ∃ reason, gateCheck t (wrAcc w a) = some reason ∧ guarded s w a eff = t.notice (wrAcc w a) reason) ∨
    (admitted t w a = true ∧ guarded s w a eff = eff t) := by
  subst ht
  cases halive : (s.at w.at_).alive with
  | false => exact .inl ⟨.inl rfl, by simp [guarded, halive]⟩
  | true =>
    cases hdamaged : damaged (s.at w.at_) (wrAcc w a) w.value w.noise with
    | true => exact .inr (.inl ⟨rfl, rfl, guarded_damaged s w a eff halive hdamaged⟩)
    | false =>
      cases hgate : gateCheck (s.at w.at_) (wrAcc w a) with
      | some reason => exact .inr (.inr (.inl ⟨rfl, rfl, reason, rfl, guarded_denied s w a eff reason halive hdamaged hgate⟩))
      | none =>
        cases hreach : outOfReach (s.at w.at_) a with
        | true => exact .inl ⟨.inr ⟨rfl, rfl, rfl, rfl⟩, by simp [guarded, halive, hdamaged, hgate, hreach]⟩
        | false =>
          have hadmitted : admitted (s.at w.at_) w a = true := by simp [admitted, halive, hdamaged, hgate, hreach]
          exact .inr (.inr (.inr ⟨hadmitted, guarded_admitted s w a eff hadmitted⟩))

theorem guarded_keys_of_not_admitted {s : State} {w : Wr} {a : Nat} (eff : State → State) (h : admitted (s.at w.at_) w a = false) :
    (guarded s w a eff).keys = s.keys := by
  rcases guarded_cases s w a eff _ rfl with ⟨_, hg⟩ | ⟨_, _, hg⟩ | ⟨_, _, reason, _, hg⟩ | ⟨hadmitted, _⟩
  · rw [hg, State.at_keys]
  · rw [hg, (State.busFault_reported _ a).keys, State.at_keys]
  · rw [hg, State.notice_keys, State.at_keys]
  · rw [h] at hadmitted
    cases hadmitted

/-- The slots of 0x4000_0000 whose registers no rule but R6's governs. -/
theorem regWrite_plain {w : Wr} {a : Nat} (s : State) (halign : a % 4 = 0) (hblock : a / 0x10000 ∈ [0x4000, 0x4016, 0x401F, 0x4020]) :
    regWrite s w a = guarded s w a fun t => t.writeWord a w.value := by
  have hrange : 0x40000000 ≤ a ∧ a < 0x40230000 := by
    simp only [List.mem_cons, List.not_mem_nil, or_false] at hblock
    omega
  simp only [List.mem_cons, List.not_mem_nil, or_false] at hblock
  rcases hblock with h | h | h | h <;> simp [regWrite, halign, h, hrange]

theorem regWrite_memory {w : Wr} {a : Nat} (s : State) (halign : a % 4 = 0)
    (hrange : a < 0x40000000 ∨ (0x41000000 ≤ a ∧ a < 0x50180000)) : regWrite s w a = memoryWrite s w a := by
  have hslots : ¬ (0x40000000 ≤ a ∧ a < 0x40230000) := by omega
  rw [regWrite, if_neg (not_not_intro halign)]
  split
  case h_32 => exact if_neg hslots
  all_goals omega

theorem lt_of_plainMemory {a : Nat} (h : plainMemory a = true) : a < 0x40000000 := by
  simp only [plainMemory, mappedIn, Bool.or_eq_true, Bool.and_eq_true, decide_eq_true_eq] at h
  omega

/-- What KS_WRITE leaves of a staging buffer: an operation that it has started takes the buffer's content. -/
def State.stagingTaken (before : Option (Nat × Nat × Nat)) (world : Nat) (s : State) : State :=
  match s.keys.op, before with
  | some (1, _, _), none => s.wipeStaging world
  | _, _ => s

theorem State.stagingTaken_of_same (world : Nat) (s : State) : s.stagingTaken s.keys.op world = s := by
  unfold State.stagingTaken
  split
  · next h h' => cases h.symm.trans h'
  · rfl

/-- KS_WRITE takes the buffer within its write's effect: a write that is not admitted starts nothing. -/
theorem stagingTaken_guarded (s : State) (w : Wr) (a world : Nat) (eff : State → State) :
    (guarded s w a eff).stagingTaken s.keys.op world = guarded s w a fun t => (eff t).stagingTaken s.keys.op world := by
  cases hadmitted : admitted (s.at w.at_) w a with
  | true => rw [guarded_admitted s w a eff hadmitted, guarded_admitted s w a _ hadmitted]
  | false =>
    rw [← guarded_keys_of_not_admitted eff hadmitted, State.stagingTaken_of_same]
    rcases guarded_cases s w a eff _ rfl with ⟨hout, hg⟩ | ⟨halive, hdamaged, hg⟩ | ⟨halive, hdamaged, reason, hdenied, hg⟩ | ⟨h, _⟩
    · rcases hout with halive | ⟨halive, hdamaged, hgate, hreach⟩
      · simp [guarded, halive]
      · simp [guarded, halive, hdamaged, hgate, hreach]
    · rw [hg, guarded_damaged s w a _ halive hdamaged]
    · rw [hg, guarded_denied s w a _ reason halive hdamaged hdenied]
    · rw [hadmitted] at h
      cases h

/-- A row that is one posted write to a register of its own is guarded by its address. -/
theorem exec_eq_guarded {c : Instr} {w : Wr} {a : Nat} (h : writeOf c = some (w, a)) (s : State) :
    ∃ eff, exec c s = .next (guarded s w a eff) := by
  cases c with
  | cprResetWrite | ringEnableWrite | mailboxGo | rateRegisterWrite | lqAck | spgEnableWrite | limitBaseWrite | limitCapWrite | meterEnable
    | contactorRegisterRequest | derateBitWrite | limpRegisterWrite | bleedRegisterWrite | ledgerEnable | ltrapAck | dtCommit | dtRetire | vceReset
    | violationPop | windowCommit | flashOpProgram | flashOpErase | flashOpVerify | flashOpSelect | bankRelease | cellarEntryQueue | incClose
    | keyPortWrite | ksLoad | ksImport | ksEpoch | ksClear | ksGen | ksExport | cipherClaim | cipherOperation | gradeWrite | replyIssue
    | tagStage | tagCommit | tagDiscard | faultAck | faultDeclare =>
    cases h
    exact ⟨_, rfl⟩
  | ksWrite w =>
    cases h
    exact ⟨_, congrArg Host.Outcome.next (stagingTaken_guarded s w r_KS_CMD (clsWorld w.cls) _)⟩
  | domainControlWrite | leRun | leStep | leSuspend | leSkip | leReset | streamReplay | emuDepositArm | regionCommit | gateEntryCommit =>
    obtain ⟨hlt, hw⟩ := Option.ite_none_right_eq_some.mp h
    cases hw
    exact ⟨_, congrArg Host.Outcome.next (if_pos hlt)⟩
  | calibrationWrite w offset =>
    obtain ⟨hoffset, hw⟩ := Option.ite_none_right_eq_some.mp h
    cases hw
    exact ⟨_, congrArg Host.Outcome.next (if_neg (by simp [hoffset]))⟩
  | registerWrite w a =>
    obtain ⟨⟨halign, htarget⟩, hw⟩ := Option.ite_none_right_eq_some.mp h
    cases hw
    rcases htarget with hblock | hmemory
    · exact ⟨_, congrArg Host.Outcome.next (regWrite_plain s halign hblock)⟩
    · exact ⟨_, congrArg Host.Outcome.next (regWrite_memory s halign (.inl (lt_of_plainMemory hmemory)))⟩
  | _ => cases h

/-- Settles O21: every such row is guarded by its address, and `guarded_cases` says what is left of a write that is not admitted. -/
theorem deniedWritesNotifyOnly : Obligations.DeniedWritesNotifyOnly := by
  unfold Obligations.DeniedWritesNotifyOnly
  rintro c w a s t hc rfl
  obtain ⟨eff, hexec⟩ := exec_eq_guarded hc s
  rw [hexec]
  refine ⟨fun halive => ?_, fun halive hdamaged => ?_, fun halive hdamaged reason hdenied => ?_, fun halive hdamaged hgate hreach => ?_⟩
  · simp [guarded, halive]
  · rw [guarded_damaged s w a eff halive hdamaged]
  · rw [guarded_denied s w a eff reason halive hdamaged hdenied]
  · simp [guarded, halive, hdamaged, hgate, hreach]

/-! ### The window of the service user area (R457) -/

/-- Refutes O12: after reset the die-to-die link has no session (TG_STATUS.D2D_UP is 0), so the custody supervisor's read of the window's first word, which
its gate admits, has an error response (R18), where the statement has none. -/
theorem not_userAreaWindow : ¬ Obligations.UserAreaWindow := by
  unfold Obligations.UserAreaWindow
  rintro ⟨hread, _⟩
  have hadmitted : gateCheck State.reset ⟨0, 1, 0, 0, 0x50142000⟩ = none := by decide +kernel
  have hwhole : ¬ (damaged State.reset ⟨0, 1, 0, 0, 0x50142000⟩ 0 (0 % 256) = true ∨ damaged State.reset ⟨0, 1, 0, 0, 0x50142000⟩ 0 0 = true) := by decide +kernel
  have herror : (State.reset.spineRead ⟨0, 1, 0, 0, 0x50142000⟩ 0).2.2 = true := by decide +kernel
  have hclaim := hread State.reset ⟨0, 1, 0, 0, 0x50142000⟩ (by decide) (by decide) (by decide) hadmitted 0
  rw [if_neg hwhole] at hclaim
  rw [hclaim] at herror
  cases herror

/-! ### Commands that a check refuses (R437, R438) -/

/-- A row that is a command of the tables runs in the frame of its checks. -/
theorem exec_eq_runCmd {c : Instr} {r : Req} {op : Nat} (h : cmdOf c = some (r, op)) (s : State) :
    ∃ lc chk eff, exec c s = .next (runCmd s r op lc chk eff) := by
  cases c with
  | deviceIdentify | deviceReadStatus | deviceReadFaults | deviceTrace | deviceReadReg | deviceReset | deviceTamperRead | deviceTamperSetGrade
    | deviceTamperDisable | sessionOpen | sessionFinish | sessionClose | sessionRead | modeReleaseQuarantine | modeRead | lifecycleProvision
    | lifecycleCommission | lifecycleSecondLife | lifecycleRetire | lifecycleFieldReturn | transitSetRate | transitEnumerate | transitRejoin
    | transitSetAssembly | transitAcceptRoster | transitRead | transitNodeRequest | captureSetLateness | captureReadEntries | captureTimeMark
    | spectroSetBin | spectroReadBinState | spectroReadImpedance | spectroReadFit | spectroReadTemperature | spectroReadPilot | spectroPilotState
    | spectroLoadChemistry | spectroSetNodeChemistry | spectroResetAverages | limitTighten | limitRelax | limitRead | limitSetPublication
    | estimLoadProfile | estimRead | cellReadState | cellSetState | balanceSetPolicy | balanceRead | estimSetAdapt | estimSetWatch | meterRead
    | meterCalibrate | meterSelectChannel | meterSetCrosscheck | meterLoadWweTable | meterActivateWweTable | meterReadWweTable | meterSetRating
    | meterSetPulse | shutterSetContactor | shutterDerate | shutterSetLimpFloor | shutterSetPrecharge | shutterSetHazard | shutterSetBleed
    | shutterRead | ledgerSealNow | ledgerReadHead | ledgerReadSeals | ledgerReadArchive | ledgerAckOffload | ledgerSetArchive | leaseReadTallies
    | ledgerHandoverPrepare | flashRead | flashProgram | flashErase | flashVerify | flashActivateTwin | flashReadStatus | cellarReadSummary
    | cellarReadEntries | cellarReadSeals | cellarCloseIncident | keysChallenge | keysGenerate | keysReadPublic | keysInstallCert | keysReestablish
    | keysRaiseEpoch | keysReadState | serviceReadConfig | serviceSetPassword | serviceReadArea | serviceWriteArea | tagReadConfig | tagSetConfig
    | passportRead | passportWrite | passportSign | assemblyRead | assemblySetRole | assemblySetDeputy | assemblySuccessionSeal | assemblySucceed
    | assemblyReadWorker | selftestRun | selftestReadResult | selftestAbort =>
    cases h
    exact ⟨_, _, _, rfl⟩
  | _ => cases h


theorem firstOf_append (l m : List (Option Nat)) : firstOf (l ++ m) = (firstOf l).or (firstOf m) := by
  induction l with
  | nil => rfl
  | cons x l ih =>
    cases x with
    | none => exact ih
    | some e => rfl

theorem runCmd_dead {s : State} {r : Req} (op : Nat) (lc : Nat → Bool) (chk : State → List (Option Nat)) (eff : Effect)
    (halive : (s.at r.at_).alive = false) (hpath : r.path ≠ 4) : runCmd s r op lc chk eff = s.at r.at_ := by
  simp [runCmd, halive, hpath]

/-- Settles O19: the first failing check of the frame answers, and a command whose mode alone fails has met the life-cycle check or the mode check. -/
theorem refusedCommandsReplyOnly : Obligations.RefusedCommandsReplyOnly := by
  unfold Obligations.RefusedCommandsReplyOnly
  rintro c r op s t hc rfl
  obtain ⟨lc, chk, eff, hexec⟩ := exec_eq_runCmd hc s
  rw [hexec]
  have hrefusal : refusal (s.at r.at_) r op lc chk =
      (firstOf [pathCheck (s.at r.at_) r op, svcCheck (s.at r.at_) r op, recoveryCheck (s.at r.at_) op, lockCheck (s.at r.at_) r, worldCheck r op]).or
        (firstOf ([lcCheck (s.at r.at_) lc, modeCheck (s.at r.at_) op, phaseCheck (s.at r.at_) op, linkCheck (s.at r.at_) op] ++ chk (s.at r.at_))) :=
    firstOf_append [_, _, _, _, _] _
  refine ⟨fun halive hpath => congrArg Host.Outcome.next (runCmd_dead op lc chk eff halive hpath), fun hanswered => ⟨fun e he => ?refused, fun hpass hmode => ?mode⟩⟩
  case refused => rw [runCmd_refused s r op lc chk eff e hanswered (by rw [hrefusal, he]; rfl)]
  case mode =>
    rw [hpass] at hrefusal
    cases hlc : lc (s.at r.at_).lc with
    | false =>
      left
      rw [runCmd_refused s r op lc chk eff E_LIFECYCLE hanswered (by simp [hrefusal, lcCheck, hlc, firstOf]), refuse_status _ _ _ _ (by decide)]
    | true =>
      right
      rw [runCmd_refused s r op lc chk eff E_MODE hanswered (by simp [hrefusal, lcCheck, hlc, hmode, firstOf]), refuse_status _ _ _ _ (by decide)]

end Sys2Proof.Machine

/-!
PROOFS. Family 11_vat_control_and_custody_cores: a write of VAT_CTRL (R290, R292).
-/
namespace Sys2Proof.Machine

theorem State.reg_congr {s t : State} (h : t.regs = s.regs) (a : Nat) : t.reg a = s.reg a := by
  rw [State.reg, State.reg, h]

/-- A job put on a lane changes no register but VAT_STATUS. -/
theorem State.reg_dispatch_ne {s : State} {v l a : Nat} {j : Option Nat} (h : a ≠ (f_VAT_STATUS_CKPT_VALID v).addr) : (s.dispatch v l j).reg a = s.reg a := by
  cases j with
  | none => exact State.reg_congr (by simp [State.dispatch]) a
  | some j =>
    unfold State.dispatch
    dsimp only
    rw [State.reg_congr (State.putVat_regs _ _ _), State.reg_congr (State.storeN_regs _ _ _ _), State.putJobFlag, State.reg_congr (State.setByte_regs _ _ _), State.putBit,
      State.reg_fput_ne h, State.reg_congr (State.putLane_regs _ _ _)]

theorem State.reg_fillLanes_ne {s : State} {v a : Nat} (h : a ≠ (f_VAT_STATUS_CKPT_VALID v).addr) : (s.fillLanes v).reg a = s.reg a := by
  have hlane (t : State) (l : Nat) : (t.fillLane v l).reg a = t.reg a := by
    unfold State.fillLane
    dsimp only
    split
    · split
      · exact State.reg_dispatch_ne h
      · rfl
    · rfl
  exact List.foldlRecOn (motive := fun t => t.reg a = s.reg a) _ _ rfl fun t ht l _ => (hlane t l).trans ht

/-- The registers of vat `v` beside VAT_CTRL. -/
def BesideCtrl (v r : Nat) : Prop := 0x400B0000 + 256 * v < r

theorem State.reg_fillLanes_ctrl (s : State) (v : Nat) : (s.fillLanes v).reg (r_VAT_CTRL v) = s.reg (r_VAT_CTRL v) :=
  State.reg_fillLanes_ne (by simp only [r_VAT_CTRL]; omega)

theorem State.reg_fput_beside {s : State} {v val : Nat} {f : Fld} (h : BesideCtrl v f.addr) : (s.fput f val).reg (r_VAT_CTRL v) = s.reg (r_VAT_CTRL v) :=
  State.reg_fput_ne (Nat.ne_of_lt h)

theorem State.reg_resetVce_ctrl (s : State) (v : Nat) : (s.resetVce v).reg (r_VAT_CTRL v) = s.reg (r_VAT_CTRL v) := by
  rw [State.resetVce, State.reg_fput_beside (by unfold BesideCtrl; dsimp only; omega), State.reg_congr (State.putVat_regs _ _ _)]

theorem State.reg_clearVat_ctrl (s : State) (v : Nat) : (s.clearVat v).reg (r_VAT_CTRL v) = s.reg (r_VAT_CTRL v) :=
  State.reg_fputs_ne (by simp only [List.forall_mem_cons, List.not_mem_nil, r_VAT_CTRL]; refine ⟨?_, ?_, ?_, ?_, ?_, ?_, ?_, ?_, nofun⟩ <;> omega)

/-- The enables of VAT_CTRL and its lock as a write leaves them: SPARE_EN changes only while EN is 0 and the block is not locked. -/
def State.ctrlWritten (s : State) (v value : Nat) : State :=
  let spare := if s.isSet (f_VAT_CTRL_EN v) ∨ s.isSet (f_VAT_CTRL_LOCK v) then s.fget (f_VAT_CTRL_SPARE_EN v) else value / 2 % 2
  let enabled := s.fputs [(f_VAT_CTRL_SPARE_EN v, spare), (f_VAT_CTRL_EN v, value % 2)]
  if bit value 31 then enabled.raise (f_VAT_CTRL_LOCK v) else enabled

/-- What a write of VAT_CTRL then does to the vat's engine. -/
def State.vceStarted (s : State) (v value : Nat) : State :=
  if bit value 2 then (s.resetVce v).fillLanes v
  else match s.fget (f_VAT_STATUS_VSTATE v), value % 2 with
    | 0, 1 => (s.fput (f_VAT_STATUS_VSTATE v) 1).fillLanes v
    | 1, 0 => s.fput (f_VAT_STATUS_VSTATE v) 0
    | _, _ => s

theorem State.vatControl_eq (s : State) (v value : Nat) :
    s.vatControl v value = (if bit value 3 then (s.ctrlWritten v value).clearVat v else s.ctrlWritten v value).vceStarted v value := rfl

theorem State.reg_vceStarted_ctrl (s : State) (v value : Nat) : (s.vceStarted v value).reg (r_VAT_CTRL v) = s.reg (r_VAT_CTRL v) := by
  have hstate (n : Nat) : (s.fput (f_VAT_STATUS_VSTATE v) n).reg (r_VAT_CTRL v) = s.reg (r_VAT_CTRL v) :=
    State.reg_fput_beside (by unfold BesideCtrl; dsimp only; omega)
  unfold State.vceStarted
  split
  · rw [State.reg_fillLanes_ctrl, State.reg_resetVce_ctrl]
  · split
    · rw [State.reg_fillLanes_ctrl, hstate]
    · rw [hstate]
    · rfl

theorem State.reg_vatControl (s : State) (v value : Nat) : (s.vatControl v value).reg (r_VAT_CTRL v) = (s.ctrlWritten v value).reg (r_VAT_CTRL v) := by
  rw [State.vatControl_eq, State.reg_vceStarted_ctrl]
  split
  · exact State.reg_clearVat_ctrl _ v
  · rfl

theorem State.fget_ctrlWritten_of_ne_lock (s : State) (v value : Nat) {f : Fld} (hf : f.lsb + f.width ≤ 31) :
    (s.ctrlWritten v value).fget f = (s.fputs [(f_VAT_CTRL_SPARE_EN v,
      if s.isSet (f_VAT_CTRL_EN v) ∨ s.isSet (f_VAT_CTRL_LOCK v) then s.fget (f_VAT_CTRL_SPARE_EN v) else value / 2 % 2), (f_VAT_CTRL_EN v, value % 2)]).fget f := by
  unfold State.ctrlWritten
  dsimp only
  split
  · exact State.fget_fput_ne _ _ _ _ (by decide : 31 + 1 ≤ 32) (.inr (.inl hf))
  · rfl

theorem regWrite_vatCtrl {w : Wr} {v : Nat} (s : State) (hv : v < 16) :
    regWrite s w (r_VAT_CTRL v) = guarded s w (r_VAT_CTRL v) fun t => t.vatControl v w.value := by
  have halign : r_VAT_CTRL v % 4 = 0 := by simp only [r_VAT_CTRL]; omega
  have hblock : r_VAT_CTRL v / 0x10000 = 0x400B := by simp only [r_VAT_CTRL]; omega
  have hoff : r_VAT_CTRL v % 0x10000 = 256 * v := by simp only [r_VAT_CTRL]; omega
  have hvat : 256 * v / 256 = v := by omega
  have hreg : 256 * v % 256 = 0 := by omega
  rw [regWrite, if_neg (not_not_intro halign), hblock, hoff]
  show vatWrite s w (256 * v) = _
  simp only [vatWrite, hvat, hreg, if_neg (Nat.not_le.mpr hv)]

/-- Settles O13: VAT_CTRL is left as `State.ctrlWritten` writes it. -/
theorem spareEnable : Obligations.SpareEnable := by
  unfold Obligations.SpareEnable
  rintro w v s t u hv rfl hadmitted hexec
  have hu : u = (s.at w.at_).vatControl v w.value := by
    have h : exec (.registerWrite w (r_VAT_CTRL v)) s = .next ((s.at w.at_).vatControl v w.value) := by
      rw [show exec (.registerWrite w (r_VAT_CTRL v)) s = .next (regWrite s w (r_VAT_CTRL v)) from rfl, regWrite_vatCtrl s hv, guarded_admitted _ _ _ _ hadmitted]
    rw [h] at hexec
    cases hexec
    rfl
  have hspare : u.fget (f_VAT_CTRL_SPARE_EN v) = (if (s.at w.at_).isSet (f_VAT_CTRL_EN v) ∨ (s.at w.at_).isSet (f_VAT_CTRL_LOCK v)
      then (s.at w.at_).fget (f_VAT_CTRL_SPARE_EN v) else w.value / 2 % 2) % 2 ^ 1 := by
    rw [hu, State.fget_congr (State.reg_vatControl _ v _), State.fget_ctrlWritten_of_ne_lock _ _ _ (by decide : 1 + 1 ≤ 31), State.fputs, State.fputs, State.fputs,
      State.fget_fput_ne _ _ _ _ (by decide : 0 + 1 ≤ 32) (.inr (.inr (by decide : 0 + 1 ≤ 1))), State.fget_fput _ _ _ (by decide : 1 + 1 ≤ 32)]
  refine ⟨fun hen => ?_, fun hen hlock => ?_, ?_⟩
  · rw [hspare, if_pos (.inl (by simp [State.isSet, hen])), Nat.mod_eq_of_lt (State.fget_lt _ _)]
  · rw [hspare, if_neg (by simp [State.isSet, hen, hlock])]
    exact Nat.mod_mod _ _
  · rw [hu, State.fget_congr (State.reg_vatControl _ v _), State.fget_ctrlWritten_of_ne_lock _ _ _ (by decide : 0 + 1 ≤ 31), State.fputs, State.fputs, State.fputs,
      State.fget_fput _ _ _ (by decide : 0 + 1 ≤ 32)]
    exact Nat.mod_mod _ _

end Sys2Proof.Machine

/-!
PROOFS. The rows: what a command and a posted write answer, in the form that the statements of completion take.
-/
namespace Sys2Proof.Machine

/-- How a command ends once its effect is done: with its reply, or without one as yet. -/
def conclude (r : Req) (op : Nat) : State × Option (Nat × List Byte) → State
  | (u, some (st, body)) => u.reply r op st body
  | (u, none) => u

@[simp] theorem conclude_some (r : Req) (op : Nat) (u : State) (st : Nat) (body : List Byte) : conclude r op (u, some (st, body)) = u.reply r op st body := rfl
@[simp] theorem conclude_none (r : Req) (op : Nat) (u : State) : conclude r op (u, none) = u := rfl
theorem conclude_ite (r : Req) (op : Nat) (c : Prop) [Decidable c] (x y : State × Option (Nat × List Byte)) :
    conclude r op (if c then x else y) = if c then conclude r op x else conclude r op y := apply_ite _ _ _ _

/-- A command that passes is answered as its own checks and its effect say, where every life-cycle state permits it. -/
theorem next_runCmd {s : State} {r : Req} {op : Nat} {chk : State → List (Option Nat)} {eff : Effect} (hp : passes (s.at r.at_) r op = true) :
    (.next (runCmd s r op anyLc chk eff) : Out) = .next (match firstOf (chk (s.at r.at_)) with
      | some e => (s.at r.at_).refuse r op e
      | none => conclude r op (eff (s.at r.at_))) :=
  congrArg Host.Outcome.next (runCmd_checks s r op anyLc chk eff hp rfl)

/-- A command that passes is answered as its life-cycle states, its own checks and its effect say. -/
theorem next_runCmd_lc {s : State} {r : Req} {op : Nat} {lc : Nat → Bool} {chk : State → List (Option Nat)} {eff : Effect}
    (hp : passes (s.at r.at_) r op = true) :
    (.next (runCmd s r op lc chk eff) : Out) = .next (match firstOf (need (lc (s.at r.at_).lc) E_LIFECYCLE :: chk (s.at r.at_)) with
      | some e => (s.at r.at_).refuse r op e
      | none => conclude r op (eff (s.at r.at_))) :=
  congrArg Host.Outcome.next (runCmd_stateChecks s r op lc chk eff hp)

/-- A command whose life-cycle states and own checks admit it. -/
theorem next_runCmd_done {s : State} {r : Req} {op : Nat} {lc : Nat → Bool} {chk : State → List (Option Nat)} {eff : Effect}
    (hp : passes (s.at r.at_) r op = true) (hl : lc (s.at r.at_).lc = true) (hc : firstOf (chk (s.at r.at_)) = none) :
    (.next (runCmd s r op lc chk eff) : Out) = .next (conclude r op (eff (s.at r.at_))) :=
  congrArg Host.Outcome.next (runCmd_passes s r op lc chk eff hp hl hc)

/-- A posted write that is admitted has its effect. -/
theorem next_guarded {s : State} {w : Wr} {a : Nat} {eff : State → State} (h : admitted (s.at w.at_) w a = true) :
    (.next (guarded s w a eff) : Out) = .next (eff (s.at w.at_)) :=
  congrArg Host.Outcome.next (guarded_admitted s w a eff h)

end Sys2Proof.Machine

/-!
PROOFS. Family 06: the limit arbiter.
-/
namespace Sys2Proof.Machine

/-- Settles O45: an admitted write and a passing command of the arbiter run the row's own effect; the relaxation's two guards read alike in both. -/
theorem limitsComplete : Obligations.LimitsComplete := by
  unfold Obligations.LimitsComplete
  refine ⟨?writes, ?commands⟩
  case writes =>
    rintro w s t discharge rfl
    refine ⟨?_, ?_⟩
    · rintro a u rfl h rfl
      exact next_guarded h
    · rintro op v l h rfl rfl
      exact (next_guarded h).trans (by simp only [Bool.not_eq_true'])
  case commands =>
    rintro r s t discharge rfl
    refine ⟨?_, ?_, ?_, ?_⟩
    · intro value life hp
      exact (next_runCmd hp).trans (by simp only [conclude_ite]; rfl)
    · intro value hp
      exact next_runCmd hp
    · intro hp
      exact next_runCmd hp
    · intro chan ident ide hp
      exact next_runCmd hp

end Sys2Proof.Machine

/-!
PROOFS. Family 05: the Spectrograph.
-/
namespace Sys2Proof.Machine

/-- Settles O40: each row is its own effect once it passes; SPECTRO_ENABLE by what the write does to EN. -/
theorem spectrographCompletes : Obligations.SpectrographCompletes := by
  unfold Obligations.SpectrographCompletes
  refine ⟨?events, ?enable, ?commands⟩
  case events =>
    rintro at_ s t rfl
    refine ⟨?twiddleTableBuilt, ?pilotTimeout, fun cell => ?fitOverrun⟩
    case twiddleTableBuilt => rfl
    case pilotTimeout => rfl
    case fitOverrun => rfl
  case enable =>
    rintro w s t u v rfl h rfl rfl
    refine ⟨fun hsame => ?same, fun hoff hon => ?on, fun hon hoff => ?off⟩
    case same => exact (next_guarded h).trans (by simp only [hsame, beq_self_eq_true, if_true])
    case on => exact (next_guarded h).trans (by simp only [hoff, hon, beq_iff_eq, reduceCtorEq, if_true, if_false])
    case off => exact (next_guarded h).trans (by simp only [hoff, hon, beq_iff_eq, Bool.false_eq_true, if_false])
  case commands =>
    rintro r s t rfl
    refine ⟨?spectroPilotState, ?spectroReadPilot, ?spectroSetBin, ?spectroReadBinState, ?spectroReadImpedance, ?spectroReadFit, ?spectroReadTemperature,
      ?spectroLoadChemistry, ?spectroSetNodeChemistry, ?spectroResetAverages⟩
    case spectroPilotState => exact fun report hp => next_runCmd hp
    case spectroReadPilot => exact fun b hp hb => hb ▸ next_runCmd hp
    case spectroSetBin => exact fun _ _ _ _ _ _ _ hp => next_runCmd hp
    case spectroReadBinState => exact fun _ _ hp => next_runCmd hp
    case spectroReadImpedance => exact fun _ _ _ hp => next_runCmd hp
    case spectroReadFit => exact fun _ hp => next_runCmd hp
    case spectroReadTemperature => exact fun _ hp => next_runCmd hp
    case spectroLoadChemistry => exact fun _ _ hp => next_runCmd hp
    case spectroSetNodeChemistry => exact fun _ _ hp => next_runCmd hp
    case spectroResetAverages => rintro l first last u hp rfl; exact next_runCmd hp

end Sys2Proof.Machine

/-!
PROOFS. Family 07: the energy meter.
-/
namespace Sys2Proof.Machine

/-- Settles O41: each row is its own effect once it passes; the pulse output and the calibration by what they find due. -/
theorem meterCompletes : Obligations.MeterCompletes := by
  unfold Obligations.MeterCompletes
  refine ⟨?events, ?writes, ?commands⟩
  case events =>
    rintro at_ s t rfl
    refine ⟨?stuckDetect, ?modfltSet, ?modfltClear, ?intermediateSample, ?packSampleWrite, ?pulseOff, ?pulseSoon, ?pulseDue, ?calNone, ?calDone⟩
    case stuckDetect => exact fun _ => rfl
    case modfltSet => rintro i u rfl; rfl
    case modfltClear => rintro i u rfl; rfl
    case intermediateSample => rintro bits p rfl; rfl
    case packSampleWrite => exact fun _ => rfl
    case pulseOff =>
      intro hoff
      refine congrArg Host.Outcome.next (if_neg ?_)
      rcases hoff with h | h <;> simp [h]
    case pulseSoon =>
      intro p hp hsoon
      exact congrArg Host.Outcome.next (if_neg (by simp only [hp, Bool.and_eq_true, decide_eq_true_eq]; omega))
    case pulseDue =>
      intro hen hpos hdue
      refine congrArg Host.Outcome.next (if_pos ?_)
      cases hp : (s.at at_).mer.pulseAt with
      | none => simp [hen, hpos]
      | some p => simp only [hen, hpos, hdue p hp, decide_true, Bool.and_self]
    case calNone => exact fun hc => by simp only [exec, execCalibrateAverageDone, done, hc]
    case calDone => exact fun c hc => by simp only [exec, execCalibrateAverageDone, done, hc]
  case writes =>
    rintro w s t rfl
    refine ⟨?meterEnable, ?notCal, ?cal⟩
    case meterEnable => rintro u h rfl; exact (next_guarded h).trans (by simp only [Bool.and_eq_true, Bool.not_eq_true'])
    case notCal => exact fun offset hoff => by simp only [exec, execCalibrationWrite, done, hoff, Bool.not_false, if_true]
    case cal =>
      intro offset hoff h
      simp only [exec, execCalibrationWrite, done, hoff, Bool.not_true, Bool.false_eq_true, if_false, guarded_admitted _ _ _ _ h, Bool.not_eq_true']
  case commands =>
    rintro r s t rfl
    refine ⟨?meterRead, ?meterCalibrate, ?meterSelectChannel, ?meterSetCrosscheck, ?meterSetRating, ?meterSetPulse, ?meterLoadWweTable, ?meterActivateWweTable, ?meterReadWweTable⟩
    case meterRead => exact fun hp => next_runCmd hp
    case meterCalibrate => exact fun _ _ _ _ _ _ hp => (next_runCmd hp).trans (by simp only [conclude_ite]; rfl)
    case meterSelectChannel => exact fun _ hp => next_runCmd hp
    case meterSetCrosscheck => exact fun _ _ _ _ hp => next_runCmd hp
    case meterSetRating => exact fun _ _ hp => next_runCmd hp
    case meterSetPulse => exact fun _ _ _ hp => next_runCmd hp
    case meterLoadWweTable =>
      rintro table ws n u hp hw rfl
      obtain rfl : _ = ws := congrArg Prod.fst hw
      obtain rfl : _ = n := congrArg Prod.snd hw
      exact next_runCmd hp
    case meterActivateWweTable => exact fun _ hp => next_runCmd hp
    case meterReadWweTable => exact fun _ _ hp hb => hb ▸ next_runCmd hp

end Sys2Proof.Machine

/-!
PROOFS. Family 19: the service port's functions behind their common checks, and UNLOCK.
-/
namespace Sys2Proof.Machine

@[simp] theorem State.setSvc_svc (s : State) (x : SvcState) : (s.setSvc x).svc = x := rfl
@[simp] theorem State.lastWrite_svc (s : State) (k b st : Nat) : (s.lastWrite k b st).svc = s.svc := by simp [State.lastWrite]
@[simp] theorem State.svcCopy_svc (s : State) : s.svcCopy.svc = s.svc := by simp [State.svcCopy]
@[simp] theorem State.orReg_svc (s : State) (a v : Nat) : (s.orReg a v).svc = s.svc := by simp [State.orReg]
@[simp] theorem State.svcAnswer_svc (s : State) (f : Nat) (inf : List Byte) :
    (s.svcAnswer f inf).svc = { s.svc with last := svcBlock (224 + f) inf, owed := false } := rfl

section
variable {s : State} {at_ f : Nat} {inf : List Byte} {run : State → State} (hatr : (s.svcAt at_).svc.atr = true)
  (hopen : (s.svcAt at_).svc.failures < 3 ∨ f = 1)
include hatr hopen

/-- A function of an active port that has not failed three times runs, or is answered with the status that refuses it and zeros. -/
theorem svcFunction_open : s.svcFunction at_ f inf run = match svcRefusal (s.svcAt at_) f inf with
    | some e => (s.svcAt at_).svcAnswer f (statusInf e (svcPad f))
    | none => run (s.svcAt at_) :=
  if_neg (by simp [hatr]; omega)

theorem svcFunction_run (h : svcRefusal (s.svcAt at_) f inf = none) : s.svcFunction at_ f inf run = run (s.svcAt at_) := by
  rw [svcFunction_open hatr hopen, h]

theorem svcFunction_refused {e : Nat} (h : svcRefusal (s.svcAt at_) f inf = some e) :
    s.svcFunction at_ f inf run = (s.svcAt at_).svcAnswer f (statusInf e (svcPad f)) := by
  rw [svcFunction_open hatr hopen, h]

end

/-- Settles O30: the length of INF and the lockout decide whether UNLOCK runs; when it does, the password decides. -/
theorem unlockAttempts : Obligations.UnlockAttempts := by
  unfold Obligations.UnlockAttempts
  rintro at_ inf s t rfl hatr hfail hlen
  have hrun (hopen : svcLockedOut (s.svcAt at_) = false) : exec (.unlock at_ inf) s = .next (svcUnlock inf (s.svcAt at_)) :=
    congrArg Host.Outcome.next (svcFunction_run hatr (.inl hfail) (by simp [svcRefusal, hlen, hopen]))
  refine ⟨?right, ?wrong, ?lockedOut⟩
  case right =>
    intro hopen hpw
    refine ⟨_, hrun hopen, ?_⟩
    simp [svcUnlock, hpw]
  case wrong =>
    intro hopen hpw hcount
    refine ⟨_, hrun hopen, ?_⟩
    have hmin : min 8 ((s.svcAt at_).svc.attempts + 1) = (s.svcAt at_).svc.attempts + 1 := by omega
    have hleft : 8 - ((s.svcAt at_).svc.attempts + 1) = 7 - (s.svcAt at_).svc.attempts := by omega
    simp only [svcUnlock, if_neg hpw, hmin, hleft, State.svcAnswer_svc, State.svcCopy_svc, State.lastWrite_svc, State.orReg_svc, State.bump_svc,
      State.setSvc_svc, decide_eq_true_eq, true_and, and_true]
    omega
  case lockedOut =>
    intro hlocked
    refine ⟨?_, fun i hi => ?_, ?_⟩
    · exact congrArg Host.Outcome.next (svcFunction_refused hatr (.inl hfail) (by simp [svcRefusal, hlen, hlocked]))
    · exact congrArg Host.Outcome.next (svcFunction_refused hatr (.inl hfail) (by simp [svcRefusal, hlocked, leNat, hi]))
    · exact congrArg Host.Outcome.next (svcFunction_refused hatr (.inl hfail) (by simp [svcRefusal, hlocked]))

end Sys2Proof.Machine

/-!
PROOFS. Family 15: the Cellar record.
-/
namespace Sys2Proof.Machine

/-- After the link is lost, it is not up. -/
theorem fget_linkLost (s : State) : s.linkLost.fget f_TG_STATUS_D2D_UP = 0 := by
  unfold State.linkLost
  split
  next => exact State.fget_fput _ _ _ (by decide)
  next h =>
    have hne : s.fget f_TG_STATUS_D2D_UP ≠ 1 := fun h1 => h (by simp [State.linkUp, State.isSet, h1])
    have hlt : s.fget f_TG_STATUS_D2D_UP < 2 := State.fget_lt s f_TG_STATUS_D2D_UP
    omega

theorem linkLost_others (s : State) : s.linkLost.cel = s.cel ∧ s.linkLost.mem = s.mem ∧ s.linkLost.svc = s.svc := by
  unfold State.linkLost; split <;> exact ⟨rfl, rfl, rfl⟩

@[simp] theorem State.cellarStart_mem (s : State) : s.cellarStart.mem = s.mem := by simp [State.cellarStart]
@[simp] theorem State.cellarStart_svc (s : State) : s.cellarStart.svc = s.svc := by simp [State.cellarStart]

/-- Settles O31: the events by what the record's operations change, the rows by their own effect once they pass. -/
theorem cellarRecordCompletes : Obligations.CellarRecordCompletes := by
  unfold Obligations.CellarRecordCompletes
  refine ⟨?events, ?writes, ?commands⟩
  case events =>
    rintro at_ s t rfl
    refine ⟨rfl, ?incidentTimeout, fun _ => rfl, ?backupPowerLoss, ?cellarDieReset⟩
    case incidentTimeout =>
      intro i hi
      refine congrArg Host.Outcome.next ?_
      simp only [State.incidentTimeout, hi, ← not_lt, ite_not]
    case backupPowerLoss => exact ⟨_, _, rfl, rfl, rfl, rfl, rfl, rfl, rfl, rfl, rfl, rfl, rfl, rfl⟩
    case cellarDieReset =>
      obtain ⟨hcel, hmem, hsvc⟩ := linkLost_others _
      refine ⟨_, rfl, hcel, hmem.trans ?_, fget_linkLost _, hsvc.trans ?_⟩
      · exact State.cellarStart_mem _
      · exact State.cellarStart_svc _
  case writes =>
    rintro w s t rfl
    refine ⟨?incClose, ?go, ?stage⟩
    case incClose => exact fun h t1 h1 => h1 ▸ next_guarded h
    case go =>
      rintro h hgo t1 buf t2 st rfl rfl hoffer
      refine (next_guarded h).trans ?_
      simp only [hgo, Bool.not_true, Bool.false_eq_true, if_false, hoffer]
    case stage =>
      intro h hgo
      refine (next_guarded h).trans ?_
      simp only [hgo, Bool.not_false, if_true]
  case commands =>
    rintro r s t rfl
    refine ⟨?close, ?summary, ?entries, ?seals⟩
    case close => exact fun hp => next_runCmd hp
    case summary => exact fun hp => next_runCmd hp
    case entries =>
      intro first count e hp h1 h960 hnew hfirst
      exact next_runCmd_done hp rfl (by simp [firstOf, need, h1, h960, hnew, hfirst])
    case seals =>
      intro first last hp hle hlt hheld
      exact next_runCmd_done hp rfl (by simp [firstOf, need, sealsHeld, hle, hlt, hheld])

end Sys2Proof.Machine

/-!
PROOFS. Family 16: the key store's own operations.
-/
namespace Sys2Proof.Machine

/-- An operation of the key store that a write of KS_CMD starts: its check's status is held, and with OK its effect stands at once. -/
theorem next_ksStart {s : State} {w : Wr} {op st : Nat} {status : State → Nat} {eff : State → State} {u : State}
    (h : admitted (s.at w.at_) w r_KS_CMD = true) (hgo : (s.at w.at_).isSet f_KS_CMD_GO = false)
    (hst : st = status (s.at w.at_)) (hu : u = ksStarted (s.at w.at_) op st) :
    (.next (ksStart w op s status eff) : Out) = .next (if st = OK then (eff u).settleKeys u else u) := by
  subst hst hu
  refine (next_guarded h).trans ?_
  simp only [hgo, Bool.false_eq_true, if_false]

/-- A busy store takes no other operation. -/
theorem next_ksStart_busy {s : State} {w : Wr} {op : Nat} {status : State → Nat} {eff : State → State}
    (h : admitted (s.at w.at_) w r_KS_CMD = true) (hgo : (s.at w.at_).isSet f_KS_CMD_GO = true) :
    (.next (ksStart w op s status eff) : Out) = .next (s.at w.at_) := by
  refine (next_guarded h).trans ?_
  simp only [hgo, if_true]

@[simp] theorem putWords_keys (s : State) (a n : Nat) (bs : List Byte) : (s.putWords a n bs).keys = s.keys := by
  unfold State.putWords
  induction List.range n generalizing s with
  | nil => rfl
  | cons i l ih => rw [List.foldl_cons, ih]; rfl

/-- A key that a block loses changes nothing of the operation in progress. -/
theorem dropKey_op (s : State) (b : Nat) : (s.dropKey b).keys.op = s.keys.op := by
  unfold State.dropKey
  split
  next => rfl
  next => split <;> rfl

theorem settleKeys_op (s old : State) : (s.settleKeys old).keys.op = s.keys.op := by
  have hfold (l : List Nat) : ∀ t : State, (l.foldl State.dropKey t).keys.op = t.keys.op := by
    induction l with
    | nil => exact fun _ => rfl
    | cons b l ih => exact fun t => (ih _).trans (dropKey_op t b)
  have hnoted : ((List.range 5).foldl State.dropKey s).noteEvidence.keys.op = s.keys.op := hfold _ s
  simp only [State.settleKeys, apply_ite State.keys, State.raise_keys, ite_self, hnoted]

/-- A write of a key that is under way takes its staging buffer. -/
theorem stagingTaken_started {s : State} {arg st : Nat} (world : Nat) (h : s.keys.op = some (1, arg, st)) :
    s.stagingTaken none world = s.wipeStaging world := by
  simp only [State.stagingTaken, h]

/-- Settles O32: what the checks and effects are is the rows' own; KS_WRITE takes its buffer because the operation it started is still the one held. -/
theorem keyStoreOperationsComplete : Obligations.KeyStoreOperationsComplete := by
  unfold Obligations.KeyStoreOperationsComplete
  refine ⟨?started, ?busy, ?portWrite, ?timeout, ?done⟩
  case started =>
    rintro w s t st rfl h hgo
    refine ⟨?clear, ?load, ?exportBlob, ?epoch, ?gen, ?write, ?importBlob⟩
    case clear => exact fun hst u hu => next_ksStart h hgo hst hu
    case load => exact fun hst u hu => next_ksStart h hgo hst hu
    case exportBlob => exact fun hst u hu => next_ksStart h hgo (hst.trans (ite_not _ _ _).symm) hu
    case epoch => exact fun hst u hu => next_ksStart h hgo (hst.trans (by simp only [and_comm])) hu
    case gen => rintro hst u len usage alg hu rfl rfl rfl; exact next_ksStart h hgo hst hu
    case write =>
      rintro hst hfree u len usage key hu rfl rfl rfl
      have hrun : exec (.ksWrite w) s = .next ((ksStart w 1 s _ _).stagingTaken s.keys.op (clsWorld w.cls)) := rfl
      rw [hrun, hfree, Host.Outcome.next.inj (next_ksStart h hgo hst hu)]
      subst hu
      refine congrArg Host.Outcome.next (stagingTaken_started (arg := (s.at w.at_).regN r_KS_ARG) (st := st) _ ?_)
      split
      next => rw [settleKeys_op]; rfl
      next => rfl
    case importBlob => exact fun hst u hu => next_ksStart h hgo hst hu
  case busy =>
    rintro w s t rfl h hgo hop c hc
    have hwrite : exec (.ksWrite w) s = .next (s.at w.at_) := by
      have hrun : exec (.ksWrite w) s = .next ((ksStart w 1 s _ _).stagingTaken s.keys.op (clsWorld w.cls)) := rfl
      rw [hrun, Host.Outcome.next.inj (next_ksStart_busy h hgo), ← State.at_keys s w.at_, State.stagingTaken_of_same]
    simp only [List.mem_cons, List.not_mem_nil, or_false] at hc
    rcases hc with rfl | rfl | rfl | rfl | rfl | rfl | rfl
    case inr.inr.inr.inr.inr.inl => exact hwrite
    all_goals exact next_ksStart_busy h hgo
  case portWrite =>
    rintro w s t offset world bs rfl h hoff rfl hworld rfl
    exact (next_guarded h).trans (congrArg _ (if_pos ⟨hoff, hworld⟩))
  case timeout => exact fun at_ world s t ht => ht ▸ rfl
  case done =>
    rintro at_ s t rfl
    refine ⟨?ended, ?raised, ?root⟩
    case ended =>
      rintro op arg st u hop rfl
      refine congrArg Host.Outcome.next ?_
      simp only [State.keyStep, hop]
      rfl
    case raised =>
      intro slot r rest hop hraising
      refine congrArg Host.Outcome.next ?_
      simp only [State.keyStep, hop, hraising]
    case root =>
      intro hop hraising
      refine congrArg Host.Outcome.next ?_
      simp only [State.keyStep, hop, hraising]

end Sys2Proof.Machine

/-!
PROOFS. Family 16: the cipher blocks and Culture.
-/
namespace Sys2Proof.Machine

/-- A read of a random register whose starter serves takes its next free value. -/
theorem serve_of_free {s : State} {i : Nat} (h : (s.starter i).requests < 2 ^ 20) :
    s.serve i = ((s.setStarter i { s.starter i with requests := (s.starter i).requests + 1 }).drawn, some (s.draw 32)) :=
  if_neg (by omega)

/-- What a function that asks for acceptance will report. -/
theorem verdict_eq (asks : Prop) [Decidable asks] (accepted : Bool) :
    (if asks then if accepted = true then OK else E_VERIFY else OK) = if asks ∧ accepted = false then E_VERIFY else OK := by
  by_cases h : asks <;> cases accepted <;> simp [h]

/-- Settles O33: an operation by whether the block is free, GO and its check's status; a random read by the gate and its starter. -/
theorem cipherAndCultureComplete : Obligations.CipherAndCultureComplete := by
  unfold Obligations.CipherAndCultureComplete
  refine ⟨?writes, ?events⟩
  case writes =>
    rintro w s t blk v rfl rfl
    refine ⟨?claim, ?busy, ?operation⟩
    case claim =>
      intro h
      refine (next_guarded h).trans ?_
      by_cases hblk : blk = 2 ∨ blk = 3
      · have hno : ¬ (blk ≠ 2 ∧ blk ≠ 3) := by omega
        simp only [if_neg hno, hblk, true_and]
      · have hno : blk ≠ 2 ∧ blk ≠ 3 := by omega
        simp only [if_pos hno, hblk, false_and, if_false]
    case busy =>
      intro h hblk hbusy
      exact (next_guarded h).trans (congrArg _ (if_pos (.inr hbusy)))
    case operation =>
      rintro h hblk hbusy t1 func st rfl rfl rfl
      have hfree : ¬ (4 < blk ∨ (s.at w.at_).isSet (f_CB_CMD_BUSY blk) = true) := by rw [hbusy]; simp; omega
      refine ⟨fun hgo => ?named, fun hgo hst => ?refused, ?runs⟩
      case named => exact (next_guarded h).trans (by simp only [gt_iff_lt, if_neg hfree, hgo, Bool.not_false, if_true])
      case refused =>
        exact (next_guarded h).trans (by simp only [gt_iff_lt, if_neg hfree, hgo, Bool.not_true, Bool.false_eq_true, if_false, hst, false_and, and_false])
      case runs =>
        rintro hgo hst t2 text aad input c iv verdict hread rfl rfl rfl rfl rfl
        refine (next_guarded h).trans ?_
        simp only [gt_iff_lt, if_neg hfree, hgo, Bool.not_true, Bool.false_eq_true, if_false, hst, if_true, true_and, and_true, hread, verdict_eq]
  case events =>
    rintro at_ s t rfl
    refine ⟨fun _ => rfl, ?noneBusy, ?ended, ?sourceFail, ?reseed, ?read⟩
    case noneBusy =>
      intro blk hbusy
      simp only [exec, execCipherOperationDone, done, hbusy]
    case ended =>
      rintro blk func st out t2 hbusy rfl
      simp only [exec, execCipherOperationDone, done, hbusy]
    case sourceFail => exact fun _ _ => rfl
    case reseed =>
      rintro n u rfl
      simp only [exec, execStarterReseed, done, Bool.not_eq_true']
    case read =>
      rintro cls eng reg noise a i rfl rfl
      refine ⟨fun hd => ?damaged, fun hd reason hg => ?denied, fun hd hg u hserve => ?none, fun hd hg hfree => ?served⟩
      case damaged => exact congrArg Host.Outcome.next (if_pos hd)
      case denied => simp only [exec, execRngRead, done, hd, hg, Bool.false_eq_true, if_false]
      case none => simp only [exec, execRngRead, done, hd, hg, hserve, Bool.false_eq_true, if_false]
      case served =>
        simp only [exec, execRngRead, done, hd, hg, serve_of_free hfree, Bool.false_eq_true, if_false]
        rfl

end Sys2Proof.Machine

/-!
PROOFS. Family 16: the commands of the key store.
-/
namespace Sys2Proof.Machine

@[simp] theorem need_true (e : Nat) : need true e = none := rfl
@[simp] theorem need_false (e : Nat) : need false e = some e := rfl
@[simp] theorem firstOf_nil : firstOf [] = none := rfl
@[simp] theorem firstOf_none (l : List (Option Nat)) : firstOf (none :: l) = firstOf l := rfl
@[simp] theorem need_eq_none {b : Bool} {e : Nat} : need b e = none ↔ b = true := by cases b <;> simp
@[simp] theorem firstOf_cons_eq_none {x : Option Nat} {l : List (Option Nat)} : firstOf (x :: l) = none ↔ x = none ∧ firstOf l = none := by
  cases x <;> simp [firstOf]
@[simp] theorem firstOf_some (e : Nat) (l : List (Option Nat)) : firstOf (some e :: l) = some e := rfl

/-- A starter that is exhausted refuses. -/
theorem serve_of_exhausted {s : State} {i : Nat} (h : 2 ^ 20 ≤ (s.starter i).requests) : s.serve i = (s.fput f_CUL_STATUS_STALL 1, none) := if_pos h

theorem slotWorldCheck_of_world {s : State} {r : Req} {slot : Nat} (h : s.slotWorld slot = 0 ∨ s.slotWorld slot = worldOf r) :
    slotWorldCheck s r slot = none := by
  have hworld : (s.slotWorld slot == 0 || s.slotWorld slot == worldOf r) = true := by simpa using h
  rw [slotWorldCheck, hworld, need_true]

/-- Settles O34: each command by its checks, a challenge by its starter, a certificate and an owner's token by what their verification answers. -/
theorem keyCommandsComplete : Obligations.KeyCommandsComplete := by
  unfold Obligations.KeyCommandsComplete
  rintro r s t rfl
  refine ⟨?challenge, ?exhausted, ?generate, ?readPublic, ?installCert, ?reestablish, ?raiseEpoch, ?readState⟩
  case challenge =>
    rintro hp hfree u rfl
    exact (next_runCmd hp).trans (by simp only [firstOf_nil, serve_of_free hfree]; rfl)
  case exhausted =>
    intro hp hfull
    exact (next_runCmd hp).trans (by simp only [firstOf_nil, serve_of_exhausted hfull]; rfl)
  case generate =>
    rintro slot parent usage world alg u hp h1 h3 h12 h19 hworld hseed huse hload rfl
    refine (next_runCmd_done hp (by simp [h1, h3]) ?_).trans ?_
    · simp [slotWorldCheck_of_world hworld, h12, h19, hseed, huse, hload]
    · simp only [huse]; rfl
  case readPublic =>
    intro slot hp h13 h19 hst
    exact next_runCmd_done hp rfl (by simp [h13, h19, hst])
  case installCert =>
    rintro cert e1 e2 ok hp hrole hworld rfl
    refine (next_runCmd hp).trans ?_
    simp only [hrole, hworld, Option.isSome_some, beq_self_eq_true, need_true, firstOf_none]
    cases certOk (s.at r.at_) cert <;> rfl
  case reestablish =>
    rintro tok keys u ok hp h1 h4 hmode hreest hseed htok
    refine (next_runCmd_done hp (by simp [h1, h4]) (by simp [hmode, hreest, hseed])).trans ?_
    cases ok <;> simp only [htok, if_true, if_false, Bool.false_eq_true] <;> rfl
  case raiseEpoch =>
    intro slot hp hmode h4 h64 hworld hst hepoch
    have hheld : ¬ (12 ≤ slot ∧ slotStatus (s.at r.at_) slot ≠ OK) := by
      rintro ⟨h12, hne⟩
      exact hst.elim (fun h => absurd h (by omega)) hne
    refine (next_runCmd_done hp rfl (by simp [slotWorldCheck_of_world hworld, hmode, or_assoc, h4, h64, if_neg hheld, hepoch])).trans ?_
    simp only [conclude_ite]
    rfl
  case readState => exact fun hp => next_runCmd hp

end Sys2Proof.Machine

/-!
PROOFS. Family 17: the tamper monitors.
-/
namespace Sys2Proof.Machine

/-- The parity of `f` over the positions below `n`. -/
def parityBelow (n : Nat) (f : Nat → Bool) : Bool := (List.range n).foldl (fun b i => xor b (f i)) false

theorem parityBelow_succ (n : Nat) (f : Nat → Bool) : parityBelow (n + 1) f = xor (parityBelow n f) (f n) := by
  simp [parityBelow, List.range_succ]

theorem parityBelow_xor (n : Nat) (f g : Nat → Bool) :
    parityBelow n (fun i => xor (f i) (g i)) = xor (parityBelow n f) (parityBelow n g) := by
  induction n with
  | zero => rfl
  | succ n ih =>
    simp only [parityBelow_succ, ih]
    cases parityBelow n f <;> cases parityBelow n g <;> simp

/-- The parity over a single position. -/
theorem parityBelow_single (n k : Nat) (f : Nat → Bool) : parityBelow n (fun i => decide (k = i) && f i) = (decide (k < n) && f k) := by
  induction n with
  | zero => rfl
  | succ n ih =>
    rw [parityBelow_succ, ih]
    rcases Nat.lt_trichotomy k n with h | h | h
    · simp [h, show k < n + 1 by omega, show k ≠ n by omega]
    · simp [h]
    · simp [show ¬ k < n by omega, show ¬ k < n + 1 by omega, show k ≠ n by omega]

theorem lfsrBit_eq_parity (seed k : Nat) : lfsrBit seed k = parityBelow 31 fun i => (powX 96 k).testBit i && seed.testBit i := rfl

/-- Below x^31 a power is its own remainder. -/
theorem powX_of_lt : ∀ k < 31, powX 96 k = 2 ^ k := by decide +kernel

/-- x^31 is x^28 + 1 (R412), at each of the first 64 steps. -/
theorem powX_add_31 : ∀ k < 64, powX 96 (k + 31) = powX 96 (k + 28) ^^^ powX 96 k := by decide +kernel

theorem lfsrBit_seeded (seed : Nat) {k : Nat} (hk : k < 31) : lfsrBit seed k = seed.testBit k := by
  simp only [lfsrBit_eq_parity, powX_of_lt k hk, Nat.testBit_two_pow, parityBelow_single, hk, decide_true, Bool.true_and]

theorem lfsrBit_recurrence (seed : Nat) {k : Nat} (hk : k < 64) : lfsrBit seed (k + 31) = xor (lfsrBit seed (k + 28)) (lfsrBit seed k) := by
  simp only [lfsrBit_eq_parity, powX_add_31 k hk, Nat.testBit_xor, Bool.and_xor_distrib_right, parityBelow_xor]

theorem length_flatMap_w4 (s : State) (l : List Nat) : (l.flatMap (w4 s)).length = 4 * l.length := by
  induction l with
  | nil => rfl
  | cons a l ih => simp only [List.flatMap_cons, List.length_append, ih, w4, length_leBytes, List.length_cons]; omega

/-- Settles O35: the sequence by the powers of x modulo R412's polynomial, of which a bit is a parity with the seed; the events and rows by their guards. -/
theorem tamperCompletes : Obligations.TamperCompletes := by
  unfold Obligations.TamperCompletes
  refine ⟨fun seed k _ => ⟨lfsrBit_seeded seed, lfsrBit_recurrence seed⟩, ?events, ?writes, ?commands⟩
  case events =>
    rintro at_ s t rfl
    refine ⟨?dead, ?trip, ?apart, ?nets, fun _ _ => rfl, fun _ => rfl, rfl, fun _ _ => rfl, ?backupTest⟩
    case dead => exact fun i m halive => congrArg Host.Outcome.next (if_pos (by simp [halive]))
    case trip =>
      rintro i m u halive rfl
      exact congrArg Host.Outcome.next (if_neg (by simp [halive]))
    case apart => exact fun i m hi => if_neg (by omega)
    case nets =>
      intro i m hi
      rw [detects, if_pos hi]
      cases (s.at at_).cel.main <;> simp
    case backupTest =>
      rintro b u rfl
      refine congrArg Host.Outcome.next ?_
      simp only [Bool.or_eq_true, Bool.not_eq_true']
  case writes =>
    rintro w s t rfl h
    refine ⟨fun hopen => ?written, fun hlock hlow => ?refused⟩
    case written => exact (next_guarded h).trans (congrArg _ (if_neg (by rcases hopen with hopen | hopen <;> simp [hopen])))
    case refused => exact (next_guarded h).trans (congrArg _ (if_pos (by simp [hlock, hlow])))
  case commands =>
    rintro r s t rfl
    refine ⟨?read, ?setGrade, ?disableBlank, ?disableOwned⟩
    case read =>
      intro hp
      refine ⟨_, next_runCmd hp, ?_⟩
      simp only [List.length_append, length_flatMap_w4, length_leBytes, List.length_cons, List.length_nil, List.length_map, List.length_range]
    case setGrade =>
      intro src grade hp
      refine (next_runCmd hp).trans ?_
      by_cases hsrc : 14 ≤ src
      · simp [hsrc, show ¬ src < 14 by omega]
      by_cases hgrade : 4 ≤ grade
      · simp [hsrc, hgrade, show src < 14 by omega, show ¬ grade < 4 by omega]
      have hranges : decide (src < 14) = true ∧ decide (grade < 4) = true := by simp; omega
      simp only [hsrc, hgrade, hranges, if_false, need_true, firstOf_none]
      cases hdis : (s.at r.at_).srcDisabled src
      case true => simp
      case false =>
        by_cases hlower : (s.at r.at_).isSet f_TMP_CTRL_LOCK = true ∧ grade < (s.at r.at_).gradeOf src
        · simp [hlower]
        · simp only [Bool.false_eq_true, if_false, if_neg hlower, Bool.not_false, need_true, firstOf_none]
          rw [show ((s.at r.at_).isSet f_TMP_CTRL_LOCK && decide (grade < (s.at r.at_).gradeOf src)) = false by simpa using hlower]
          rfl
    case disableBlank =>
      intro src tok keys hp hlc hmode hworld hsrc
      refine (next_runCmd_done hp (by simp [hlc]) (by simp [hlc, hmode, hworld, hsrc])).trans ?_
      simp only [hlc]
      rfl
    case disableOwned =>
      intro src k keys u ok hp hlc hmode hworld hsrc htok
      refine (next_runCmd_done hp (by simp [hlc]) (by simp [hlc, hmode, hworld, hsrc])).trans ?_
      simp only [hlc, htok]
      cases ok <;> rfl

end Sys2Proof.Machine

/-!
PROOFS. Family 18: the host transports.
-/
namespace Sys2Proof.Machine

/-- Settles O36: each event by what it finds (a packet, a port that is enabled, a message under way), and a reply by what the write names. -/
theorem transportsComplete : Obligations.TransportsComplete := by
  unfold Obligations.TransportsComplete
  refine ⟨?events, ?replyIssue⟩
  case events =>
    rintro at_ s t rfl
    refine ⟨?packet, ?noPacket, ?spiWrite, ?spiRead, ?spiReadNone, ?spiStatus, ?spiOff, ?canFrame, ?canTimeout, ?datagram, ?ethTimeout, ?arp, ?linkCan, ?linkEth,
      ?trace⟩
    case packet =>
      rintro path p u hfind rfl
      simp only [exec, execPacketReceived, done, hfind]
    case noPacket =>
      intro path hfind
      simp only [exec, execPacketReceived, done, hfind]
    case spiWrite =>
      intro len bytes hen
      simp only [exec, execSpiWrite, done, hen, Bool.not_true, Bool.false_eq_true, if_false]
    case spiRead =>
      rintro whole p b hen hfind rfl
      simp only [exec, execSpiRead, done, hen, hfind, Bool.not_true, Bool.false_eq_true, if_false]
    case spiReadNone =>
      intro whole hen hfind
      simp only [exec, execSpiRead, done, hen, hfind, Bool.not_true, Bool.false_eq_true, if_false]
    case spiStatus =>
      rintro len hen rfl
      exact congrArg Host.Outcome.next (if_neg (by simp only [hen, Bool.not_true, Bool.false_eq_true, not_false_eq_true]))
    case spiOff =>
      intro len bytes whole hoff
      have hclosed : (!(s.at at_).isSet (f_XP_CTRL_EN 0)) = true := by rw [hoff]; rfl
      exact ⟨congrArg _ (if_pos hclosed), congrArg _ (if_pos hclosed), congrArg _ (if_pos hclosed)⟩
    case canFrame =>
      rintro chan ident ide fd bytes cfg hchan rfl
      cases bytes <;> simp only [exec, execCanFrameReceived, done, show ¬ 2 ≤ chan by omega, false_or, Bool.not_eq_true']
    case canTimeout =>
      intro chan x hx
      simp only [exec, execCanReassemblyTimeout, done, hx]
    case datagram =>
      intro src good bytes
      simp only [exec, execEthernetDatagramReceived, done, Bool.or_eq_true, Bool.not_eq_true', decide_eq_true_eq, or_assoc]
    case ethTimeout =>
      intro src x hx
      simp only [exec, execEthernetReassemblyTimeout, done, hx]
    case arp => exact fun _ _ => rfl
    case linkCan =>
      intro x up g h1 h2
      simp only [exec, execLinkChanged, done, show ¬ (x + 26 < 27 ∨ 29 < x + 26) by omega, show ¬ x + 26 = 29 by omega, if_false, Nat.add_sub_cancel]
    case linkEth => exact fun _ _ => rfl
    case trace =>
      intro x n e rest htrace hitems
      simp only [exec, execTracePacket, done, htrace, hitems]
  case replyIssue =>
    rintro w s t world len rfl h rfl u rfl
    exact (next_guarded h).trans (by simp only [Bool.and_eq_true, decide_eq_true_eq])

end Sys2Proof.Machine

/-!
PROOFS. Family 18: sessions, the trace and the commands that identify the part.
-/
namespace Sys2Proof.Machine

theorem session_setSession_self {s : State} {i : Nat} (x : Session) (h : i < s.cmd.sessions.length) : (s.setSession i x).session i = x := by
  simp [State.session, State.setSession, setAt, List.getD_eq_getElem?_getD, h]

theorem session_setSession_ne (s : State) {i j : Nat} (x : Session) (h : j ≠ i) : (s.setSession i x).session j = s.session j := by
  simp [State.session, State.setSession, setAt, List.getD_eq_getElem?_getD, List.getElem?_set_ne h.symm]

@[simp] theorem notePeer_session (s : State) (path seq peer i : Nat) : (s.notePeer path seq peer).session i = s.session i := by
  unfold State.notePeer; split <;> rfl
@[simp] theorem notePeer_regs (s : State) (path seq peer : Nat) : (s.notePeer path seq peer).regs = s.regs := by
  unfold State.notePeer; split <;> rfl
@[simp] theorem notePeer_mem (s : State) (path seq peer : Nat) : (s.notePeer path seq peer).mem = s.mem := by
  unfold State.notePeer; split <;> rfl
@[simp] theorem asked_session (s : State) (n i : Nat) : (s.asked n).session i = s.session i := rfl
@[simp] theorem drawn_session (s : State) (i : Nat) : s.drawn.session i = s.session i := rfl

/-- A session that closes with no other command outstanding is answered and freed. -/
theorem endClose_setSession {u : State} {slot : Nat} {c : Req} (hslot : slot < 8) (hlen : slot < u.cmd.sessions.length) :
    (u.setSession slot { u.session slot with closing := some c }).endClose slot =
      (let v := u.setSession slot { u.session slot with closing := some c }
       if (u.session slot).outst ≤ 1 then (v.answer c 0x0112 OK []).closeSession slot false else v) := by
  simp only [State.endClose, session_setSession_self _ hlen, hslot, true_and]

/-- Settles O37: the commands by their checks; opening writes its own slot alone, closing ends when nothing else is outstanding. -/
theorem sessionsAndDeviceComplete : Obligations.SessionsAndDeviceComplete := by
  unfold Obligations.SessionsAndDeviceComplete
  refine ⟨?commands, fun at_ slot s t ht => ht ▸ ⟨rfl, rfl⟩, ?faultAck⟩
  case commands =>
    rintro r s t rfl
    refine ⟨?trace, ?openNone, ?openFree, ?finish, ?closeUnsecured, ?close, ?read, ?readFaults, ?identify, ?readStatus, ?readReg⟩
    case trace =>
      intro en mask hp
      refine ⟨fun hslot => ?_, fun x hslot htrace hother => ?_, fun hslot hown => ?_⟩
      · exact (next_runCmd hp).trans (by simp [show ¬ r.slot < 8 by omega]; rfl)
      · exact (next_runCmd hp).trans (by simp [hslot, htrace, beq_eq_false_iff_ne.mpr hother]; rfl)
      · refine next_runCmd_done hp rfl ?_
        cases htrace : (s.at r.at_).cmd.trace with
        | none => simp [hslot]
        | some x => simp [hslot, hown x htrace]
    case openNone =>
      intro peer qh ek nonce hp hfree
      exact (next_runCmd hp).trans (by simp [hfree]; rfl)
    case openFree =>
      intro peer qh ek nonce i hp hfree hi
      refine ⟨_, _, (next_runCmd_done hp rfl (by simp [hfree])).trans (by simp only [hfree]; rfl), ?_⟩
      simp only [notePeer_session, notePeer_regs, notePeer_mem, asked_session, drawn_session, session_setSession_self _ hi, true_and]
      exact ⟨rfl, rfl, fun j hj => session_setSession_ne _ _ hj⟩
    case finish =>
      rintro cert sig x hp rfl
      exact (next_runCmd hp).trans (by simp only [conclude_ite]; rfl)
    case closeUnsecured =>
      intro hp hslot
      exact (next_runCmd hp).trans (by simp [show ¬ r.slot < 8 by omega]; rfl)
    case close =>
      rintro u v hp hslot rfl hlen rfl
      exact (next_runCmd_done hp rfl (by simp [hslot])).trans (congrArg _ (endClose_setSession hslot hlen))
    case read => exact fun hp => next_runCmd hp
    case readFaults =>
      intro first count hp
      refine (next_runCmd hp).trans ?_
      by_cases hfirst : 31 < first
      · simp [hfirst, show ¬ first ≤ 31 by omega]
      by_cases hcount : count = 0 ∨ 32 < count
      · simp [hfirst, hcount, show first ≤ 31 by omega, show ¬ (1 ≤ count ∧ count ≤ 32) by omega]
      · simp [hfirst, hcount, show first ≤ 31 by omega, show 1 ≤ count ∧ count ≤ 32 by omega]; rfl
    case identify => exact fun hp => next_runCmd hp
    case readStatus => exact fun hp => next_runCmd hp
    case readReg =>
      intro addr count u bs denied hp h1 h256 hal hend hread
      refine (next_runCmd_done hp rfl (by simp [hal, h1, h256]; omega)).trans ?_
      simp only [hread]
      rfl
  case faultAck =>
    rintro w s t rfl h
    refine ⟨fun hnone => (next_guarded h).trans ?_, fun x hbit hx => (next_guarded h).trans ?_⟩
    · rcases hnone with hbit | hx
      · simp only [hbit, Bool.false_eq_true, if_false]
      · simp only [hx, ite_self]
    · simp only [hbit, hx, if_true]

end Sys2Proof.Machine

/-!
PROOFS. Family 03: the commands and registers of the Transit rings and of capture.
-/
namespace Sys2Proof.Machine

/-- Settles O38: the commands by their own checks and effects; the ring registers by what the write does to EN, GO, UPLINK and RATE. -/
theorem ringCommandsComplete : Obligations.RingCommandsComplete := by
  unfold Obligations.RingCommandsComplete
  refine ⟨?commands, ?writes⟩
  case commands =>
    rintro r s t rfl
    refine ⟨?setRate, ?enumerate, ?rejoin, ?setAssembly, ?acceptRoster, ?read, ?nodeRequest, ?setLateness, ?readEntries, ?timeMark⟩
    case setRate => exact fun rate hp => next_runCmd hp
    case enumerate => exact fun ring hp => next_runCmd hp
    case rejoin => exact fun ring hp => next_runCmd hp
    case setAssembly => exact fun rings hp => next_runCmd hp
    case acceptRoster => exact fun ring hp => next_runCmd hp
    case read => exact fun ring hp => next_runCmd hp
    case nodeRequest => exact fun ring end_ node opc payload u hp hu => hu ▸ next_runCmd hp
    case setLateness => exact fun ring bound hp => next_runCmd hp
    case readEntries => exact fun ring mask first last ks hp hks => hks ▸ next_runCmd hp
    case timeMark => exact fun secs nanos hp => next_runCmd hp
  case writes =>
    rintro w s t rfl
    refine ⟨?enable, ?mailbox, ?uplinkRefused, ?rate, fun h => next_guarded h⟩
    case enable =>
      rintro ring u h rfl
      refine (next_guarded h).trans ?_
      simp only [onRing, Bool.and_eq_true, Bool.not_eq_true']
    case mailbox =>
      intro ring h
      refine (next_guarded h).trans ?_
      cases hgo : bit w.value 31 <;> simp only [onRing, Bool.false_eq_true, Bool.true_eq_false, if_true, if_false]
    case uplinkRefused =>
      intro h hup hasm
      exact (next_guarded h).trans (congrArg _ (if_pos (by simp [hup, hasm])))
    case rate =>
      rintro u v h hopen rfl rfl
      refine (next_guarded h).trans ?_
      have hadmits : (bit w.value 8 && w.value / 16 % 16 != 0) = false := by rcases hopen with hopen | hopen <;> simp [hopen]
      simp only [hadmits, Bool.false_eq_true, if_false, Bool.and_eq_true, Bool.not_eq_true', bne_iff_ne]

end Sys2Proof.Machine

/-!
PROOFS. Family 03: what the Transit rings bring in and what their clocks do.
-/
namespace Sys2Proof.Machine

/-- An operation on one of the eight rings. -/
theorem next_onRing {s : State} {ring : Nat} {f : State → State} (h : ring < 8) : (.next (onRing s ring f) : Out) = .next (f s) :=
  congrArg Host.Outcome.next (if_pos h)

theorem inParts_four (rd : Bool) (a b c d : List Nat) : Line.inParts rd [a, b, c, d] = ⟨rd, a ++ b ++ c ++ d⟩ := by
  simp [Line.inParts]

section
variable {s : State} {ring node : Nat} {endB : Bool} (hnode : node < 16)
include hnode

/-- A break set of a ring that does not run opens an enumeration under way. -/
theorem breakSet_of_not_running {up : Bool} (hrun : s.running ring = false) :
    s.breakSet ring node up endB = if s.ringState ring = 2 then s.openEnum ring else s := by
  simp only [State.breakSet, if_neg (show ¬ 16 ≤ node by omega), hrun, Bool.false_eq_true, if_false]

/-- The break that a set sent upstream of its node places. -/
theorem breakSet_upstream (hrun : s.running ring = true) :
    s.breakSet ring node true endB =
      s.declareBreak ring
        (if s.isSet (f_TR_BREAK_ACTIVE ring) && s.fget (f_TR_BREAK_LAST_A ring) != 31 then s.fget (f_TR_BREAK_LAST_A ring) else if node = 0 then 31 else node - 1)
        (if s.isSet (f_TR_BREAK_ACTIVE ring) && s.fget (f_TR_BREAK_FIRST_B ring) != 31 && endB then max (s.fget (f_TR_BREAK_FIRST_B ring)) node else node) := by
  simp only [State.breakSet, if_neg (show ¬ 16 ≤ node by omega), hrun, if_true]

/-- The break that a set sent downstream of its node places. -/
theorem breakSet_downstream (hrun : s.running ring = true) :
    s.breakSet ring node false endB =
      s.declareBreak ring
        (if s.isSet (f_TR_BREAK_ACTIVE ring) && s.fget (f_TR_BREAK_LAST_A ring) != 31 then min (s.fget (f_TR_BREAK_LAST_A ring)) node else node)
        (if s.isSet (f_TR_BREAK_ACTIVE ring) && s.fget (f_TR_BREAK_FIRST_B ring) != 31 then s.fget (f_TR_BREAK_FIRST_B ring)
         else if node + 1 < s.fget (f_TR_NODES_COUNT ring) then node + 1 else 31) := by
  simp only [State.breakSet, if_neg (show ¬ 16 ≤ node by omega), hrun, if_true, Bool.false_eq_true, if_false]

end

/-- A break set of no node of the ring is none. -/
theorem breakSet_of_node_out {s : State} {ring node : Nat} {up endB : Bool} (h : 16 ≤ node) : s.breakSet ring node up endB = s := if_pos h

theorem exec_breakSetReceived {s : State} {at_ ring node : Nat} {up endB : Bool} {line : Line} (hring : ring < 8)
    (h : breakOf (lineChars line) = some (node, up)) :
    exec (.breakSetReceived at_ ring endB line.rd line.groups) s = .next ((s.at at_).breakSet ring node up endB) :=
  (next_onRing hring).trans (by simp only [h])

/-- Settles O39: an event of a ring is its operation on that ring, chosen by what its line decodes to. -/
theorem ringEventsComplete : Obligations.RingEventsComplete := by
  unfold Obligations.RingEventsComplete
  rintro at_ s t rfl
  refine ⟨fun ring hring => ?rings, fun _ => rfl, fun _ => rfl, rfl⟩
  refine ⟨next_onRing hring, ?noTimeout, ?timeout, ?response, ?noEcho, ?echo, ?nodeOut, next_onRing hring, ?noBreak, ?upstream, ?downstream, ?notRunning,
    next_onRing hring, ?autoRejoin, next_onRing hring, fun _ _ _ _ => next_onRing hring, fun _ _ => next_onRing hring, fun _ => next_onRing hring, ?losClear, ?cellFrame,
    ?asmFrame, ?badFrame⟩
  case noTimeout =>
    intro h
    refine (next_onRing hring).trans (congrArg _ (if_neg ?_))
    rintro ⟨hbusy, htrains⟩
    rcases h with h | h
    · rw [h] at hbusy; cases hbusy
    · omega
  case timeout =>
    rintro u hbusy htrains rfl
    exact (next_onRing hring).trans (congrArg _ (if_pos ⟨hbusy, htrains⟩))
  case response =>
    rintro rd rsp hdr data crc r rfl
    refine ⟨fun node opc nstat p h => ?_, fun h => ?_⟩
    all_goals
      refine (next_onRing hring).trans ?_
      simp only [inParts_four, h]
  case noEcho => exact fun endB line rt h => (next_onRing hring).trans (by simp only [h])
  case echo =>
    rintro endB line rt node u h hnode rfl
    exact (next_onRing hring).trans (by simp only [h, if_neg (show ¬ 16 ≤ node by omega)])
  case nodeOut =>
    refine fun endB line node _ hnode => ⟨fun h rt => ?_, fun ⟨up, h⟩ => ?_⟩
    · exact (next_onRing hring).trans (by simp only [h, hnode, if_true])
    · rw [exec_breakSetReceived hring h, breakSet_of_node_out hnode]
  case noBreak => exact fun endB line h => (next_onRing hring).trans (by simp only [h])
  case upstream =>
    rintro endB line node la fb h hnode hrun rfl rfl
    rw [exec_breakSetReceived hring h, breakSet_upstream hnode hrun]
    cases (s.at at_).isSet (f_TR_BREAK_ACTIVE ring) <;> simp
  case downstream =>
    rintro endB line node la fb next h hnode hrun rfl rfl rfl
    rw [exec_breakSetReceived hring h, breakSet_downstream hnode hrun]
    cases (s.at at_).isSet (f_TR_BREAK_ACTIVE ring) <;> simp
  case notRunning =>
    intro endB line node up h hnode hrun
    rw [exec_breakSetReceived hring h, breakSet_of_not_running hnode hrun]
  case autoRejoin => exact next_onRing hring
  case losClear => exact fun endB => (next_onRing hring).trans (by cases endB <;> rfl)
  case cellFrame => exact fun tstamp line bs h => (next_onRing hring).trans (by simp only [h])
  case asmFrame => exact fun tstamp line n p bs hcell h => (next_onRing hring).trans (by simp only [hcell, h])
  case badFrame => exact fun tstamp line hcell h => (next_onRing hring).trans (by simp only [hcell, h])

end Sys2Proof.Machine

/-!
PROOFS. Family 06: the estimators, the cell states and the balancing policy.
-/
namespace Sys2Proof.Machine

/-- A command that its own checks refuse. -/
theorem next_runCmd_refused {s : State} {r : Req} {op e : Nat} {chk : State → List (Option Nat)} {eff : Effect}
    (hp : passes (s.at r.at_) r op = true) (hc : firstOf (chk (s.at r.at_)) = some e) :
    (.next (runCmd s r op anyLc chk eff) : Out) = .next ((s.at r.at_).refuse r op e) :=
  (next_runCmd hp).trans (by rw [hc])

section
variable {s : State} {r : Req} {l i target : Nat} {x : EstCell} (hp : passes (s.at r.at_) r 0x064B = true) (hl : cellLocusOk l = true) (ht : target < 3)
  (hi : (s.at r.at_).ownCell l = some i) (hx : keyed (s.at r.at_).est.cells i = some x)
include hp hl hi hx

/-- The order out of quarantine into watch (R146): in Depot or Dormant, an hour after the last failed check. -/
theorem cellSetState_release (h : x.state = 2 ∧ target = 1) :
    exec (.cellSetState r l target) s = .next
      (if (s.at r.at_).mode ≠ 2 ∧ (s.at r.at_).mode ≠ 3 then (s.at r.at_).reply r 0x064B E_MODE []
       else if (s.at r.at_).pnow < x.cleanFrom + 3600 * ticksPerS then (s.at r.at_).reply r 0x064B E_PARAM_CONFLICT []
       else ((s.at r.at_).toWatch i x x.cause).reply r 0x064B OK []) := by
  by_cases hmode : (s.at r.at_).mode ≠ 2 ∧ (s.at r.at_).mode ≠ 3
  · rw [if_pos hmode]
    refine next_runCmd_refused (e := E_MODE) hp ?_
    have hm : ((s.at r.at_).mode == 2 || (s.at r.at_).mode == 3) = false := by simpa using hmode
    simp only [hi, Option.bind_some, hx, h, and_self, if_true, hl, hm, need_true, decide_true, List.cons_append, List.nil_append, firstOf_none, need_false,
      firstOf_some, show (1 : Nat) < 3 by omega]
  rw [if_neg hmode]
  have hm : ((s.at r.at_).mode == 2 || (s.at r.at_).mode == 3) = true := by
    simp only [Bool.or_eq_true, beq_iff_eq]; omega
  by_cases hclean : (s.at r.at_).pnow < x.cleanFrom + 3600 * ticksPerS
  · rw [if_pos hclean]
    refine next_runCmd_refused (e := E_PARAM_CONFLICT) hp ?_
    simp only [hi, Option.bind_some, hx, h, and_self, if_true, hl, hm, need_true, decide_true, List.cons_append, List.nil_append, firstOf_none, need_false,
      firstOf_some, show (1 : Nat) < 3 by omega, decide_eq_false (Nat.not_le.mpr hclean)]
  · rw [if_neg hclean]
    refine (next_runCmd_done hp rfl ?_).trans ?_
    · simp only [hi, Option.bind_some, hx, h, and_self, if_true, hl, hm, need_true, decide_true, List.cons_append, List.nil_append, firstOf_none,
        show (1 : Nat) < 3 by omega, decide_eq_true (Nat.not_lt.mp hclean), firstOf_nil]
    · simp only [okEff, hi, Option.bind_some, hx, h, if_true]; rfl

include ht in
/-- Every other order: healthy into watch and watch into quarantine; the rest are refused. -/
theorem cellSetState_other (h : ¬ (x.state = 2 ∧ target = 1)) :
    exec (.cellSetState r l target) s = .next
      (if x.state = 0 ∧ target = 1 then ((s.at r.at_).toWatch i x x.cause).reply r 0x064B OK []
       else if x.state = 1 ∧ target = 2 then ((s.at r.at_).setCellState i x 2 x.cause ((s.at r.at_).watchTime x)).reply r 0x064B OK []
       else (s.at r.at_).refuse r 0x064B (blame E_PARAM_CONFLICT 0x0100)) := by
  refine (next_runCmd hp).trans ?_
  simp only [okEff, hi, Option.bind_some, hx, if_neg h, hl, need_true, decide_eq_true ht, List.cons_append, List.nil_append, firstOf_none]
  by_cases h01 : x.state = 0 ∧ target = 1
  · simp [h01]
  by_cases h12 : x.state = 1 ∧ target = 2
  · simp [h12]
  · have hno : (x.state == 0 && target == 1 || x.state == 1 && target == 2) = false := by
      rw [Bool.eq_false_iff]
      simpa only [ne_eq, Bool.or_eq_true, Bool.and_eq_true, beq_iff_eq, not_or] using ⟨h01, h12⟩
    simp [h01, h12, hno]

end

/-- Settles O42: the order of a cell's state by the state it is in, the other rows by their own checks and effects. -/
theorem estimatorsComplete : Obligations.EstimatorsComplete := by
  unfold Obligations.EstimatorsComplete
  refine ⟨?events, ?commands⟩
  case events =>
    rintro at_ s t rfl
    refine ⟨fun _ => rfl, fun c check hc => ?absent, fun c x hc => ?present, fun _ => rfl⟩
    case absent => refine ⟨?_, ?_, ?_⟩ <;> simp only [exec, execCellWatchEntry, execCellWatchExit, execCellQuarantinePromotion, done, hc]
    case present => refine ⟨fun check => ?_, ?_, ?_⟩ <;> simp only [exec, execCellWatchEntry, execCellWatchExit, execCellQuarantinePromotion, done, hc]
  case commands =>
    rintro r s t rfl
    refine ⟨?setState, ?setStateAbsent, ?locusOut, ?targetOut, ?loadProfile, ?read, ?readState, ?setPolicy, ?balanceRead, ?setAdapt, ?setWatch⟩
    case setState =>
      intro l i x target hp hl ht hi hx
      by_cases h : x.state = 2 ∧ target = 1
      · rw [if_pos h, cellSetState_release hp hl hi hx h]
      · rw [if_neg h, cellSetState_other hp hl ht hi hx h]
    case setStateAbsent =>
      intro l target hp hl ht hi
      exact (next_runCmd_done hp rfl (by simp [hi, hl, ht])).trans (by simp only [okEff, hi]; rfl)
    case locusOut => exact fun l target hp hl => next_runCmd_refused hp (by simp [hl])
    case targetOut => exact fun l target hp hl ht => next_runCmd_refused hp (by simp [hl, show ¬ target < 3 by omega])
    case loadProfile => exact fun k profile hp => next_runCmd hp
    case read => exact fun locus first last hp => next_runCmd hp
    case readState => exact fun locus hp => next_runCmd hp
    case setPolicy => exact fun start stop tMax hp => next_runCmd hp
    case balanceRead => exact fun hp => next_runCmd hp
    case setAdapt => exact fun enable gateMin hp => next_runCmd hp
    case setWatch => exact fun qfactor watchExit hp => next_runCmd hp

end Sys2Proof.Machine

/-!
PROOFS. Family 08: the Shutter.
-/
namespace Sys2Proof.Machine

/-- Settles O43: the commands and registers by their own checks and effects; a contactor request by the outcome of its checks. -/
theorem shutterCommandsComplete : Obligations.ShutterCommandsComplete := by
  unfold Obligations.ShutterCommandsComplete
  refine ⟨?commands, ?writes⟩
  case commands =>
    rintro r s t rfl
    refine ⟨?setContactor, fun b hp => next_runCmd hp, fun pct hp => next_runCmd hp, fun preMin preMax hp => next_runCmd hp,
      fun h action openDly filt plaus hp => next_runCmd hp, ?setBleed, fun hp => next_runCmd hp⟩
    case setContactor =>
      intro output close u st hp hreq
      exact (next_runCmd hp).trans (by simp only [hreq]; rfl)
    case setBleed =>
      intro locus mask duty hp
      refine (next_runCmd hp).trans ?_
      simp only [Bool.not_eq_true']
      cases bleedOk mask duty <;> cases (s.at r.at_).ownCell locus <;> rfl
  case writes =>
    rintro w s t rfl
    refine ⟨fun h hout => ?noOutput, ?contactor, fun op h => next_guarded h, fun h => next_guarded h, fun ring node h => next_guarded h⟩
    case noOutput => exact (next_guarded h).trans (congrArg _ (if_pos hout))
    case contactor =>
      rintro o u st world h rfl ho rfl hreq
      exact (next_guarded h).trans (by simp only [if_neg (show ¬ w.value % 4 = 3 by omega), hreq])

/-- Settles O44: each event is its own guarded change. -/
theorem shutterEventsComplete : Obligations.ShutterEventsComplete := by
  unfold Obligations.ShutterEventsComplete
  rintro at_ s t rfl
  refine ⟨rfl, ?prechargeTimeout, fun _ => rfl, fun _ _ => rfl, fun _ => rfl, ?hazardStuck, ?cfaultSet, ?cfaultClear, fun _ => rfl, fun _ _ _ => rfl⟩
  case prechargeTimeout => simp only [exec, execPrechargeTimeout, done, Bool.and_eq_true, Bool.not_eq_true', decide_eq_true_eq, and_assoc]
  case hazardStuck =>
    intro h
    simp only [exec, execHazardStuck, done, Bool.not_eq_true']
  case cfaultSet =>
    intro o
    simp only [exec, execCfaultSet, done, Bool.not_eq_true']
  case cfaultClear =>
    intro o
    simp only [exec, execCfaultClear, done, Bool.not_eq_true']

end Sys2Proof.Machine

/-!
PROOFS. Family 14: the flash array.
-/
namespace Sys2Proof.Machine

section
variable {s : State} {w : Wr} {bank : Option Nat} {op : Nat}

theorem flashGo_busy (hgo : bit w.value 31 = true) (hop : w.value % 16 = op) (hbusy : s.isSet f_FLC_CMD_BUSY = true) :
    s.flashGo w bank op = (s.bump f_FLC_REFUSED_VALUE).raise f_FLC_IRQ_REFUSED := by
  simp only [State.flashGo, hgo, hop, and_self, hbusy, if_true]

theorem flashGo_free (hgo : bit w.value 31 = true) (hop : w.value % 16 = op) (hbusy : s.isSet f_FLC_CMD_BUSY = false) :
    s.flashGo w bank op =
      (let u := s.fputs [(f_FLC_CMD_MARGIN, w.value / 1024 % 4), (f_FLC_CMD_OP, op)]
       (u.flashStart bank ⟨op, u.regN r_FLC_ADDR, u.regN r_FLC_LEN, u.regN r_FLC_SRC, w.value / 1024 % 4, [], none⟩ false).1) := by
  simp only [State.flashGo, hgo, hop, and_self, hbusy, if_true, Bool.false_eq_true, if_false]

theorem flashGo_without_go (hgo : bit w.value 31 = false) : s.flashGo w bank op = s := by
  simp only [State.flashGo, hgo, Bool.false_eq_true, false_and, if_false]

end

/-- A flash command that passes: refused by its checks, or answered as the controller's start of its operation says (R348). -/
theorem next_flashCmd {s u : State} {r : Req} {code : Nat} {bank : Option Nat} {o : FlashOp} {extra : State → List (Option Nat)} {st : Option Nat}
    (hp : passes (s.at r.at_) r code = true) (hstart : (s.at r.at_).flashStart bank { o with req := some (r, code) } true = (u, st)) :
    (.next (flashCmd s r code bank o extra) : Out) = .next (match firstOf (need (!(s.at r.at_).isSet f_FLC_CMD_BUSY) E_BUSY :: extra (s.at r.at_)) with
      | some e => (s.at r.at_).refuse r code e
      | none => match (generalizing := false) st with
        | some x => u.reply r code x (if x = E_PARAM_RANGE then leBytes 2 (flashFault o.op o.addr o.margin) else [])
        | none => u) :=
  (next_runCmd hp).trans (by simp only [hstart]; cases st <;> rfl)

/-- Settles O46: an operation by GO, its code and BUSY; a command by its checks and by whether the controller starts it. -/
theorem flashCompletes : Obligations.FlashCompletes := by
  unfold Obligations.FlashCompletes
  refine ⟨?registers, fun w s t ht h => ht ▸ next_guarded (ht ▸ h), fun at_ s t ht => ht ▸ ⟨fun _ _ => rfl, fun _ => rfl⟩, ?commands⟩
  case registers =>
    rintro w s t bank rfl h
    refine ⟨fun hgo hbusy => ?busy, fun go hgo hfree hstarts => ?starts, fun hgo => ?none⟩
    case busy =>
      refine ⟨fun hop => ?_, fun hop => ?_, fun hop => ?_, fun hop => ?_⟩ <;>
        exact (next_guarded h).trans (congrArg _ (flashGo_busy hgo hop hbusy))
    case starts =>
      subst hstarts
      refine ⟨fun hop => ?_, fun hop => ?_, fun hop => ?_, fun hop => ?_⟩ <;>
        exact (next_guarded h).trans (congrArg _ (flashGo_free hgo hop hfree))
    case none =>
      refine ⟨?_, ?_, ?_, ?_⟩ <;> exact (next_guarded h).trans (congrArg _ (flashGo_without_go hgo))
  case commands =>
    rintro r s t rfl
    refine ⟨fun addr len settled hp hs => hs ▸ next_runCmd hp, fun bank addr data u st hp hstart => ?program, fun bank addr n u st hp hstart => ?erase,
      fun addr len margin data u st hp hstart => ?verify, fun bank twinB v u st hp hstart => ?activate, fun hp => next_runCmd hp⟩
    case program => exact next_flashCmd (extra := recoveryRange addr data.length) (o := ⟨1, addr, data.length, 0, 0, data, none⟩) hp hstart
    case erase => exact next_flashCmd (extra := recoveryRange (addr / 0x1000 * 0x1000) (n * 0x1000)) (o := ⟨2, addr, n * 0x1000, 0, 0, [], none⟩) hp hstart
    case verify => exact next_flashCmd (extra := fun _ => [need (margin != 1 || data.length == len) (blame E_PARAM_RANGE 0x0008)]) (o := ⟨3, addr, len, 0, margin, data, none⟩) hp hstart
    case activate =>
      exact next_flashCmd (extra := fun t => [need (imageSigned t (flag twinB) && digestOk t (flag twinB)) E_VERIFY])
        (o := ⟨4, twinBase (flag twinB), 0, v, 0, [], none⟩) hp hstart

end Sys2Proof.Machine

/-!
PROOFS. Family 09: the ledger, its seals and the archive.
-/
namespace Sys2Proof.Machine

/-- Settles O47: each row by its own checks and effect; the archive's entries by the device's answer, the handover by what it prepares. -/
theorem ledgerCompletes : Obligations.LedgerCompletes := by
  unfold Obligations.LedgerCompletes
  refine ⟨fun w s t ht h => ht ▸ next_guarded (ht ▸ h), ?events, ?commands⟩
  case events =>
    rintro at_ s t rfl
    refine ⟨rfl, rfl, ?noEntry, ?entry, ?fault, fun _ _ _ => rfl⟩
    case noEntry =>
      intro ok h
      rcases h with h | h
      · simp only [exec, execArchiveEntryWrite, done, h, Bool.false_eq_true, if_false]
      · simp only [exec, execArchiveEntryWrite, done, h, ite_self]
    case entry =>
      intro x rest hrun hq
      simp only [exec, execArchiveEntryWrite, done, hrun, hq, if_true, Bool.false_eq_true, if_false, and_self]
    case fault => simp only [exec, execArchiveFault, done, Bool.not_eq_true']
  case commands =>
    rintro r s t rfl
    refine ⟨fun hp => next_runCmd_lc hp, fun hp => next_runCmd hp, fun first last hp => next_runCmd hp, fun log first size hp => next_runCmd hp,
      ?ackOffload, fun blocks events seals hp => next_runCmd hp, fun hp => next_runCmd hp, ?handover⟩
    case ackOffload => rintro log lseq l hp rfl; exact next_runCmd hp
    case handover =>
      intro newRoot hp
      have hrun : exec (.ledgerHandoverPrepare r newRoot) s = .next _ := next_runCmd_lc hp
      split
      next e he => rw [hrun, he]
      next hnone =>
        rw [hrun, hnone]
        exact ⟨_, _, _, rfl, rfl, rfl, rfl, State.fget_fput _ _ _ (by decide), rfl⟩

end Sys2Proof.Machine

/-!
PROOFS. Families 10 to 13: writes of engine, vat, core and gate registers.
-/
namespace Sys2Proof.Machine

theorem next_onLaneReg {s : State} {w : Wr} {e a : Nat} {eff : State → State} (he : e < 256) (h : admitted (s.at w.at_) w a = true) :
    (.next (onLaneReg s w e a eff) : Out) = .next (eff (s.at w.at_)) :=
  (congrArg Host.Outcome.next (if_pos he)).trans (next_guarded h)

theorem xor_eq_left_iff (a b : Nat) : a ^^^ b = a ↔ b = 0 :=
  ⟨fun h => by simpa [← Nat.xor_assoc] using congrArg (a ^^^ ·) h, fun h => by simp [h]⟩

/-- The noise alone decides whether a transfer arrives whole (R336). -/
theorem transferOk_eq (a : Acc) (data noise : Nat) : transferOk a data noise = (noise % 256 == 0 && noise / 256 % 16 == 0) := by
  have hbeq (x n : Nat) : (x ^^^ n == x) = (n == 0) := by rw [Bool.eq_iff_iff, beq_iff_eq, beq_iff_eq, xor_eq_left_iff]
  rw [transferOk, hbeq, hbeq]

/-- So the value of a write has no part in its admission. -/
theorem admitted_value (s : State) (w : Wr) (a v : Nat) : admitted s { w with value := v } a = admitted s w a := by
  simp only [admitted, damaged, transferOk_eq, wrAcc]

/-- Settles O48: an admitted write of a register that exists has its row's effect; a window and a log refuse another than their writer. -/
theorem engineRegistersComplete : Obligations.EngineRegistersComplete := by
  unfold Obligations.EngineRegistersComplete
  rintro w s t rfl
  refine ⟨?lane, fun e he h => next_onLaneReg he h, fun e he h => next_onLaneReg he h, fun v h => ⟨next_guarded h, next_guarded h⟩, fun v h => next_guarded h,
    fun v h => next_guarded h, ?region, ?gateEntry, ?pop, ?window, ?declare⟩
  case lane =>
    exact fun e he h => ⟨next_onLaneReg he h, next_onLaneReg he h, next_onLaneReg he h, next_onLaneReg he h, next_onLaneReg he h⟩
  case region => exact fun ctx i hctx hi h => (congrArg Host.Outcome.next (if_pos ⟨hctx, hi⟩)).trans (next_guarded h)
  case gateEntry =>
    exact fun g hg h => (congrArg Host.Outcome.next (if_pos hg)).trans (next_guarded (w := { w with value := w.value % 2 ^ 31 + 2 ^ 31 })
      ((admitted_value _ w _ _).trans h))
  case pop =>
    intro world hworld h
    exact (next_guarded h).trans (by simp only [hworld, and_true])
  case window =>
    rintro i lo base last h rfl rfl rfl
    refine (next_guarded h).trans ?_
    simp only [Bool.and_eq_true, Bool.not_eq_true', decide_eq_true_eq, beq_iff_eq, and_assoc]
  case declare =>
    intro h
    refine (next_guarded h).trans ?_
    generalize w.value / 2 ^ 30 % 4 = kind
    match kind with
    | 0 => rfl
    | 1 => rfl
    | 2 => rfl
    | _ + 3 => rfl

end Sys2Proof.Machine

/-!
PROOFS. Family 19: the service port.
-/
namespace Sys2Proof.Machine

/-- A port that is not active takes no function, and neither does one that has failed three times, but for RESYNCH. -/
theorem svcFunction_closed {s : State} {at_ f : Nat} {inf : List Byte} {run : State → State}
    (h : (s.svcAt at_).svc.atr = false ∨ (3 ≤ (s.svcAt at_).svc.failures ∧ f ≠ 1)) : s.svcFunction at_ f inf run = s.svcAt at_ :=
  if_pos (by simpa using h)

section
variable {s : State} {at_ pcb len : Nat} {inf : List Byte} (hatr : (s.svcAt at_).svc.atr = true)
include hatr

/-- A block whose checks and length hold is taken by its PCB. -/
theorem exec_block_of_whole (hlen : len ≠ 255) (hinf : inf.length = len) :
    exec (.serviceBlockReceived at_ pcb len inf true true) s = .next
      (if pcb / 32 = 6 then (if 1 ≤ pcb % 32 ∧ pcb % 32 ≤ 7 then (s.svcAt at_).svcDispatch at_ (pcb % 32) inf else (s.svcAt at_).svcBad 2)
       else if 3 ≤ (s.svcAt at_).svc.failures then (s.svcAt at_).svcBad 2
       else if pcb &&& 0x9F = 0 then (if pcb / 64 = (s.svcAt at_).svc.nsHost then (s.svcAt at_).svcI (bit pcb 5) inf else (s.svcAt at_).svcBad 2)
       else if pcb &&& 0xEC = 0x80 ∧ pcb % 4 ≠ 3 then (s.svcAt at_).svcAck (pcb / 16 % 2) (pcb % 4)
       else if pcb / 32 = 7 then s.svcAt at_
       else (s.svcAt at_).svcBad 2) := by
  simp only [exec, execServiceBlockReceived, done, hatr, Bool.not_true, Bool.or_self, Bool.false_eq_true, if_false, hinf, hlen, ne_eq, not_true_eq_false,
    or_self]

variable (hfail : (s.svcAt at_).svc.failures < 3)
include hfail

/-- An information block is taken when its N(S) is the one expected (R454). -/
theorem exec_block_information (hlen : len ≠ 255) (hinf : inf.length = len) (hS : pcb / 32 ≠ 6) (hI : pcb &&& 0x9F = 0) :
    exec (.serviceBlockReceived at_ pcb len inf true true) s = .next
      (if (s.svcAt at_).svc.nsHost = pcb / 64 then (s.svcAt at_).svcI (bit pcb 5) inf else (s.svcAt at_).svcBad 2) := by
  rw [exec_block_of_whole hatr hlen hinf, if_neg hS, if_neg (by omega), if_pos hI]
  simp only [eq_comm]

/-- A receive-ready block names the block that it expects and why. -/
theorem exec_block_acknowledgement (hlen : len ≠ 255) (hinf : inf.length = len) (hS : pcb / 32 ≠ 6) (hI : pcb &&& 0x9F ≠ 0)
    (hR : pcb &&& 0xEC = 0x80 ∧ pcb % 4 ≠ 3) :
    exec (.serviceBlockReceived at_ pcb len inf true true) s = .next ((s.svcAt at_).svcAck (pcb / 16 % 2) (pcb % 4)) := by
  rw [exec_block_of_whole hatr hlen hinf, if_neg hS, if_neg (by omega), if_neg hI, if_pos hR]

end

/-- Settles O50: a function by the port's state and its refusal, a block by its checks and its PCB, a moment by what is under way. -/
theorem servicePortCompletes : Obligations.ServicePortCompletes := by
  unfold Obligations.ServicePortCompletes
  refine ⟨?port, ?moments, ?commands⟩
  case port =>
    rintro at_ s t rfl
    refine ⟨?activation, ?ppsGood, ?ppsOther, ?resynch, ?functions, ?functionsFailed, ?blocks, ?sBlock, ?badLength, ?badCheck, ?cwt, ?stop, ?restart, rfl, ?inactive⟩
    case activation =>
      rintro mv b c rfl rfl
      simp only [exec, execServiceActivation, done, Bool.and_eq_true, Bool.not_eq_true']
    case ppsGood =>
      intro v hatr h1 h3
      simp only [exec, execPps, done, hatr, h1, h3, and_self, if_true, Bool.not_true, Bool.false_eq_true, if_false]
    case ppsOther =>
      intro k p hatr hp
      cases p with
      | none => simp only [exec, execPps, done, hatr, Bool.not_true, Bool.false_eq_true, if_false]
      | some v => simp only [exec, execPps, done, hatr, if_neg (hp v rfl), Bool.not_true, Bool.false_eq_true, if_false]
    case resynch => exact fun inf hatr => congrArg Host.Outcome.next (svcFunction_open hatr (.inr rfl))
    case functions =>
      intro inf hatr hfail
      refine ⟨?_, ?_, ?_, ?_, ?_, ?_⟩ <;> exact congrArg Host.Outcome.next (svcFunction_open hatr (.inl hfail))
    case functionsFailed =>
      intro inf hatr hfail
      refine ⟨?_, ?_, ?_, ?_, ?_, ?_⟩ <;> exact congrArg Host.Outcome.next (svcFunction_closed (.inr ⟨hfail, by decide⟩))
    case blocks =>
      intro len inf hatr hfail hlen hinf
      refine ⟨?_, ?_, ?_, ?_, fun n e hn he => ?_, ?_⟩
      · exact exec_block_information hatr hfail hlen hinf (by decide) (by decide)
      · exact exec_block_information hatr hfail hlen hinf (by decide) (by decide)
      · exact exec_block_information hatr hfail hlen hinf (by decide) (by decide)
      · exact exec_block_information hatr hfail hlen hinf (by decide) (by decide)
      · interval_cases n <;> interval_cases e <;>
          exact exec_block_acknowledgement hatr hfail hlen hinf (by decide) (by decide) (by decide)
      · rw [exec_block_of_whole hatr hlen hinf, if_neg (by decide), if_neg (by omega), if_neg (by decide), if_neg (by decide), if_pos (by decide)]
    case sBlock =>
      intro len inf f hatr hlen hinf hf
      rw [exec_block_of_whole hatr hlen hinf, if_pos (by omega), show (0xC0 + f) % 32 = f by omega]
    case badLength =>
      intro pcb len inf hatr h
      simp only [exec, execServiceBlockReceived, done, hatr, Bool.not_true, Bool.or_self, Bool.false_eq_true, if_false, if_pos h]
    case badCheck =>
      intro pcb len inf edc parity hatr h
      have hbad : (!edc || !parity) = true := by simpa using h
      simp only [exec, execServiceBlockReceived, done, hatr, Bool.not_true, Bool.false_eq_true, if_false, hbad, if_true]
    case cwt => exact fun hatr => congrArg Host.Outcome.next (if_pos hatr)
    case stop =>
      rintro u inside hatr rfl
      simp only [exec, execClockStop, done, hatr, Bool.not_true, Bool.false_eq_true, if_false]
    case restart =>
      rintro u inside hatr rfl
      simp only [exec, execClockStop, done, hatr, Bool.not_true, Bool.false_eq_true, if_false, if_true, Bool.and_eq_true]
    case inactive =>
      intro k p inf pcb len edc parity restart inside hatr
      have hclosed : (!(s.svcAt at_).svc.atr) = true := by rw [hatr]; rfl
      refine ⟨congrArg _ (if_pos hclosed), ?_, ?_, ?_, ?_, ?_, ?_, ?_, congrArg _ (if_pos hclosed), ?cwtClosed, congrArg _ (if_pos hclosed)⟩
      case cwtClosed => exact congrArg Host.Outcome.next (if_neg (by rw [hatr]; decide))
      all_goals exact congrArg Host.Outcome.next (svcFunction_closed (.inl hatr))
  case moments =>
    rintro at_ s t rfl
    refine ⟨rfl, fun whole torn h => ?_, fun whole torn w h => ?_⟩
    · simp only [exec, execServiceProbeRemoval, done, h]
    · simp only [exec, execServiceProbeRemoval, done, h, Bool.not_eq_true']
  case commands =>
    rintro r s t rfl
    exact ⟨fun hp => next_runCmd hp, fun password hp => next_runCmd hp, fun first count rs hp hrs => hrs ▸ next_runCmd hp, fun first data hp => next_runCmd hp⟩

end Sys2Proof.Machine

/-!
PROOFS. Family 20: the passport tag, on the radio side and on the wired side.
-/
namespace Sys2Proof.Machine

/-- A layer 4 command of a tag that is in that protocol runs and is answered; any other tag ignores it. -/
theorem tagRun_active {s : State} {at_ : Nat} {f : State → TagAnswer} (hrf : (s.at at_).tag.rf = 3) (hprot : (s.at at_).tag.prot = true) :
    s.tagRun at_ f = State.tagAnswer (f ((s.at at_).setTag { (s.at at_).tag with bno := 1 - (s.at at_).tag.bno })) :=
  if_pos ⟨hrf, hprot⟩

theorem tagRun_inactive {s : State} {at_ : Nat} {f : State → TagAnswer} (h : (s.at at_).tag.rf ≠ 3 ∨ (s.at at_).tag.prot = false) :
    s.tagRun at_ f = s.at at_ := by
  refine if_neg ?_
  rintro ⟨hrf, hprot⟩
  rcases h with h | h
  · exact h hrf
  · exact absurd hprot (by rw [h]; decide)

/-- Settles O51: a frame by the state of activation it finds, a block by the protocol's and the wait's. -/
theorem tagFieldCompletes : Obligations.TagFieldCompletes := by
  unfold Obligations.TagFieldCompletes
  rintro at_ s t rfl
  refine ⟨fun _ _ => rfl, ?wiredWait, ?fieldOn, ?fieldLoss, ?reqa, ?anticollisionNone, ?anticollisionPart, ?cascade1, ?cascade2, ?hlta, ?rats, ?rfPps, rfl,
    ?commands, ?commandsNone, ?write, ?blockNone, ?block, ?blockWaits, ?blockHeld, ?blockReleased⟩
  case wiredWait =>
    intro due hdue
    have hrow : exec (.wiredItemWait at_) s = .next
        (if due && !rfFree (s.at at_) && (s.at at_).tag.wtx == 0 then (s.at at_).setTag { (s.at at_).tag with wtx := 1 } else s.at at_) := by
      rw [hdue]; rfl
    simp only [hrow, Bool.and_eq_true, Bool.not_eq_true', beq_iff_eq, and_assoc]
  case fieldOn => rintro h store u rfl; rfl
  case fieldLoss => rintro u rfl; rfl
  case reqa => exact fun _ => rfl
  case anticollisionNone =>
    rintro level bits mine rfl h
    exact congrArg Host.Outcome.next (if_pos h)
  case anticollisionPart =>
    rintro level bits mine hrf hlevel h1 h2 rfl hshort htake
    refine congrArg Host.Outcome.next ((if_neg ?_).trans (if_pos hshort))
    simp only [hrf, ← hlevel, htake, ne_eq, not_true_eq_false, false_or, or_false]
    omega
  case cascade1 =>
    intro bits hrf hlevel hfull htake
    refine congrArg Host.Outcome.next ((if_neg ?_).trans ((if_neg (Nat.not_lt.mpr hfull)).trans (if_pos rfl)))
    simp only [hrf, hlevel, htake, ne_eq, not_true_eq_false, false_or, or_false]
    omega
  case cascade2 =>
    intro bits hrf hlevel hfull htake
    refine congrArg Host.Outcome.next ((if_neg ?_).trans ((if_neg (Nat.not_lt.mpr hfull)).trans (if_neg (by decide))))
    simp only [hrf, hlevel, htake, ne_eq, not_true_eq_false, false_or, or_false]
    omega
  case hlta => simp only [exec, execHlta, done, Bool.not_eq_true']
  case rats =>
    intro p
    simp only [exec, execRats, done, Bool.not_eq_true']
  case rfPps =>
    intro dr ds
    simp only [exec, execRfPps, done, Bool.not_eq_true']
  case commands =>
    rintro u hrf hprot rfl
    refine ⟨?_, fun a n => ?_, fun p => ?_, ?_, fun q => ?_, fun a n => ?_⟩ <;> exact congrArg Host.Outcome.next (tagRun_active hrf hprot)
  case commandsNone =>
    intro h a n p q
    refine ⟨?_, ?_, ?_, ?_, ?_, ?_⟩ <;> exact congrArg Host.Outcome.next (tagRun_inactive h)
  case write =>
    rintro s1 v u block data store cut rfl rfl hrf hprot rfl
    simp only [exec, execTagWrite, done, tagRun_active hrf hprot]
  case blockNone =>
    intro pcb inf good h
    exact congrArg Host.Outcome.next (if_pos (by simpa using h))
  case block =>
    intro pcb inf hrf hprot h1 h2
    simp only [exec, execRfBlockReceived, done, hrf, hprot, h1, h2, ne_eq, not_true_eq_false, Bool.not_true, Bool.false_eq_true, or_self, if_false]
  case blockWaits =>
    intro pcb inf hrf hprot h1
    simp only [exec, execRfBlockReceived, done, hrf, hprot, h1, ne_eq, not_true_eq_false, Bool.not_true, Bool.false_eq_true, or_self, if_false, if_true]
  case blockHeld =>
    intro pcb inf hrf hprot h2 hpcb
    simp only [exec, execRfBlockReceived, done, hrf, hprot, h2, hpcb, ne_eq, not_true_eq_false, not_false_eq_true, Bool.not_true, Bool.false_eq_true, or_self,
      if_false, if_true, show ¬ (2 : Nat) = 1 by decide]
  case blockReleased =>
    rintro inf u v hrf hprot h2 rfl rfl
    cases hheld : (s.at at_).tag.held <;> simp only [exec, execRfBlockReceived, done, hheld, hrf, hprot, h2, ne_eq, not_true_eq_false, Bool.not_true, Bool.false_eq_true, or_self, if_false, if_true,
      show ¬ (2 : Nat) = 1 by decide]

/-- Settles O52: the three writes of TAG_WCMD are one operation, the passport's commands their own checks and groups. -/
theorem tagWiredCompletes : Obligations.TagWiredCompletes := by
  unfold Obligations.TagWiredCompletes
  refine ⟨fun w s t ht h => ht ▸ ⟨next_guarded (ht ▸ h), next_guarded (ht ▸ h), next_guarded (ht ▸ h)⟩, ?commands⟩
  rintro r s t rfl
  refine ⟨fun hp => next_runCmd hp, fun en record vharv rate password u hp hu => hu ▸ next_runCmd hp, fun first count hp => next_runCmd hp,
    fun first data hp => next_runCmd hp, ?sign⟩
  case sign => rintro identity chemistry cnt body hp rfl rfl; exact next_runCmd_lc hp

end Sys2Proof.Machine

/-!
PROOFS. Families 02 and 09: mode commands, life-cycle commands and succession.
-/
namespace Sys2Proof.Machine

/-- A mode change that passes is answered with its refusal, which MODE_IRQ shows, or stays pending (R44). -/
theorem exec_modeSet {s : State} {r : Req} {target : Nat} (hp : passes (s.at r.at_) r 0x0201 = true) :
    exec (.modeSet r target) s = .next (match modeSetRefusal (s.at r.at_) r target with
      | some e => ((s.at r.at_).raise f_MODE_IRQ_REFUSED).refuse r 0x0201 e
      | none => (State.fput { s.at r.at_ with life := { (s.at r.at_).life with modeReq := some r } } f_MODE_STATUS_PVALID 1).fput f_MODE_STATUS_PENDING target) := by
  have hanswered : ((s.at r.at_).alive || r.path == 4) = true := by simpa using passes_answered _ r _ hp
  have hrefusal : refusal (s.at r.at_) r 0x0201 anyLc (fun t => [modeSetRefusal t r target]) = modeSetRefusal (s.at r.at_) r target := by
    rw [refusal_passes _ _ _ _ _ hp rfl]
    cases modeSetRefusal (s.at r.at_) r target <;> rfl
  have hrun : exec (.modeSet r target) s = .next (match modeSetRefusal (s.at r.at_) r target with
      | some e => if (s.at r.at_).alive || r.path == 4 then ((s.at r.at_).raise f_MODE_IRQ_REFUSED).refuse r 0x0201 e else s.at r.at_
      | none => runCmd s r 0x0201 anyLc (fun t => [modeSetRefusal t r target]) fun t =>
          ((State.fput { t with life := { t.life with modeReq := some r } } f_MODE_STATUS_PVALID 1).fput f_MODE_STATUS_PENDING target, none)) := by
    rw [← hrefusal]; rfl
  rw [hrun]
  cases hmode : modeSetRefusal (s.at r.at_) r target with
  | some e => simp only [hanswered, if_true]
  | none => exact next_runCmd_done hp rfl (by simp [hmode])

/-- Settles O53: each command by its life-cycle states and checks, then by what the verification of its tokens answers. -/
theorem modesAndLifeCycleComplete : Obligations.ModesAndLifeCycleComplete := by
  unfold Obligations.ModesAndLifeCycleComplete
  rintro r s t rfl
  refine ⟨fun target hp => exec_modeSet hp, ?release, fun hp => next_runCmd hp, fun root assembly utc hp => next_runCmd_lc hp, ?commission, ?retire, ?fieldReturn,
    ?successionSeal, fun cert block sealed keyCert hp => next_runCmd_lc hp, ?secondLifeRefused, ?secondLife⟩
  case release =>
    intro tok keys u ok hp htok
    refine (next_runCmd hp).trans ?_
    simp only [← htok, conclude_ite, Bool.not_eq_true', conclude_some, conclude_none] <;> rfl
  case commission =>
    intro token keys u ok hp htok
    refine (next_runCmd_lc hp).trans ?_
    simp only [← htok, conclude_ite, conclude_some, conclude_none] <;> rfl
  case retire =>
    intro token keys u ok hp htok
    refine (next_runCmd_lc hp).trans ?_
    simp only [← htok, conclude_ite, conclude_some, conclude_none] <;> rfl
  case fieldReturn =>
    intro vendor owner keys u ok hp htok
    refine (next_runCmd_lc hp).trans ?_
    simp only [← htok, conclude_ite, conclude_some, conclude_none] <;> rfl
  case successionSeal =>
    intro newSerial token keys u ok hp htok
    refine (next_runCmd_lc hp).trans ?_
    simp only [← htok, conclude_ite, conclude_some, conclude_none] <;> rfl
  case secondLifeRefused =>
    intro nonce keys sig e hp he
    refine (next_runCmd_lc hp).trans ?_
    simp only [List.cons_append, List.nil_append] at he
    simp only [List.cons_append, List.nil_append, he]
  case secondLife =>
    rintro nonce keys sig h i ok hp hlc hmode hfree hevidence hprepared hnonce hexpiry hentry rfl
    have hrefusal : handoverRefusal (s.at r.at_) nonce keys sig =
        [none, need (Config.ownerKeyHash keys.ec keys.pq == h.newRoot && Config.sigValid h.newRoot handoverContext [leNat h.hs] sig.ec sig.pq) E_SESSION] := by
      simp only [handoverRefusal, hprepared, hnonce, hexpiry, beq_self_eq_true, decide_true, Bool.and_self, need_true]
    refine (next_runCmd_lc hp).trans ?_
    simp only [hrefusal, hlc, hmode, notBusy, hfree, hevidence, hprepared, hentry, Option.isNone_none, Option.isSome_some, Bool.not_false, beq_self_eq_true,
      need_true, List.cons_append, List.nil_append, firstOf_none]
    cases Config.ownerKeyHash keys.ec keys.pq == h.newRoot && Config.sigValid h.newRoot handoverContext [leNat h.hs] sig.ec sig.pq <;> rfl

end Sys2Proof.Machine

/-!
PROOFS. Family 21: the uplink, the Assembly rings and the manager's loss.
-/
namespace Sys2Proof.Machine

theorem inParts_two (rd : Bool) (a b : List Nat) : Line.inParts rd [a, b] = ⟨rd, a ++ b⟩ := by simp [Line.inParts]
theorem inParts_three (rd : Bool) (a b c : List Nat) : Line.inParts rd [a, b, c] = ⟨rd, a ++ b ++ c⟩ := by simp [Line.inParts]

/-- A train that passes a part under an uplink: a SYNC is its own moment, and a collecting one takes the part's frame (R487). -/
theorem exec_uplinkSync {s t1 t2 : State} {at_ held : Nat} {endB : Bool} {line : Line} {err : Int} (hup : (s.at at_).isSet f_TRG_CTRL_UPLINK = true)
    (h1 : t1 = { s.at at_ with alm := { (s.at at_).alm with syncAt := (s.at at_).now, missedSync := 0 } })
    (h2 : t2 = if disciplined t1 = true then t1.uplinkSync err else t1) :
    exec (.uplinkSync at_ endB ⟨line, held⟩ err) s = .next (match trainHead (lineChars line) with
      | none => (s.at at_).syncMissed
      | some h => if h.collect then (s.at at_).insertFrames h held 0 none
        else if bit h.flags 3 != endB then s.at at_
        else match t2.tr.up.addr with
          | none => t2.insertFrames h held 0 none
          | some p => if t2.role = 2 then
              State.insertFrames (t2.setAsm { t2.asm with digests := t2.asm.digests.drop 1 }) h held (stampOf (t2.instantNamed h.tstamp - 1))
                (some (assemblyBytes p (nextPayload t2)))
            else t2.insertFrames h held 0 none) := by
  subst h2 h1
  exact congrArg Host.Outcome.next (if_neg (by simp [hup]))

/-- Noting the loss of the manager leaves ASM_CTRL as it is. -/
theorem promoteEn_kept (s : State) :
    ((s.raise f_ASM_IRQ_LOSS).put64 r_ASM_LOSS_STAMP_LO r_ASM_LOSS_STAMP_HI (s.raise f_ASM_IRQ_LOSS).now).reg f_ASM_CTRL_PROMOTE_EN.addr =
      s.reg f_ASM_CTRL_PROMOTE_EN.addr := by
  rw [State.put64, State.reg_setRegN_ne (by decide), State.reg_setRegN_ne (by decide), State.raise, State.fput, State.reg_setReg_ne (by decide)]

/-- Settles O54: a line by what its characters spell and by the uplink, the manager's loss by the deputy's part, the commands by their checks. -/
theorem assemblyCompletes : Obligations.AssemblyCompletes := by
  unfold Obligations.AssemblyCompletes
  refine ⟨?events, ?commands⟩
  case events =>
    rintro at_ s t rfl
    refine ⟨?syncOff, ?sync, fun _ _ _ _ _ _ => rfl, ?sealReq, ?command, ?frame, rfl, ?noLoss, ?loss⟩
    case syncOff =>
      intro endB line held err hoff
      exact congrArg Host.Outcome.next (if_pos (by simp [hoff]))
    case sync =>
      intro endB line held err t1 t2 hup h1 h2
      rw [exec_uplinkSync hup h1 h2]
      cases trainHead (lineChars line) with
      | none => rfl
      | some h => cases t2.tr.up.addr <;> simp only [bne_iff_ne]
    case sealReq =>
      intro q
      simp only [exec, execSealReq, done, Bool.and_eq_true, beq_iff_eq]
    case command =>
      intro rd hdr data crc
      have hrow : exec (.commandFrame at_ rd hdr data crc) s = .next (match commandOf (lineChars (.inParts rd [hdr, data, crc])) with
        | some (addr, opc, payload) => if (s.at at_).isSet f_TRG_CTRL_UPLINK = true then (s.at at_).uplinkCommand addr opc payload else s.at at_
        | none => s.at at_) := rfl
      rw [hrow, inParts_three] <;> rfl
    case frame =>
      intro ring rd hdr data hring
      refine (next_onRing hring).trans ?_
      rw [inParts_two]
      cases asmFrameOf (lineChars ⟨rd, hdr ++ data⟩) <;> rfl
    case noLoss =>
      intro h
      exact if_pos (by simpa using h)
    case loss =>
      intro hrole hdep hmiss hen
      refine (if_neg (by simp [hrole, hdep, hmiss])).trans (if_pos ?_)
      rw [State.isSet, State.fget_congr (promoteEn_kept _), ← State.isSet, hen, Bool.not_false]
  case commands =>
    rintro r s t rfl
    refine ⟨?read, fun role mask term hp hterm => ?setRole, fun device hp => next_runCmd hp, fun device hp => next_runCmd hp⟩
    case read =>
      intro hp
      refine (next_runCmd hp).trans ?_
      simp only [readEff, List.flatMap_cons, List.flatMap_nil, List.append_nil, List.append_assoc, firstOf_nil]
      rfl
    case setRole => exact hterm ▸ next_runCmd hp

end Sys2Proof.Machine

/-!
PROOFS. Family 23: supplies, resets and clock domains.
-/
namespace Sys2Proof.Machine

/-- A DEVICE.RESET of the whole part is due at its boundary. -/
theorem resetDue_iff (s : State) : (s.pwr.requests.any fun (k, _, q) => k == 0 && decide (resetBoundary q ≤ s.now)) = true ↔
    ∃ d q, (0, d, q) ∈ s.pwr.requests ∧ resetBoundary q ≤ s.now := by
  rw [List.any_eq_true]
  constructor
  · rintro ⟨⟨k, d, q⟩, hmem, h⟩
    simp only [Bool.and_eq_true, beq_iff_eq, decide_eq_true_eq] at h
    obtain ⟨rfl, hq⟩ := h
    exact ⟨d, q, hmem, hq⟩
  · rintro ⟨d, q, hmem, hq⟩
    exact ⟨(0, d, q), hmem, by simpa using hq⟩

/-- Settles O55: each event by the supplies, the cause and the requests it finds; a write of CPR_DOM or CPR_RESET by what R527 refuses. -/
theorem powerCompletes : Obligations.PowerCompletes := by
  unfold Obligations.PowerCompletes
  refine ⟨?events, fun _ _ _ => rfl, ?writes, ?commands⟩
  case events =>
    rintro at_ s t rfl
    refine ⟨rfl, fun _ _ => rfl, ?caused, ?due, ?notDue, fun _ _ => rfl, ?pllLockLoss, ?watchdog, ?noWatchdog, ?wake, rfl⟩
    case caused =>
      intro cause boot hcause
      simp only [exec, execWarmReset, done, if_neg hcause, decide_eq_true_eq]
    case due =>
      intro boot halive hdue
      exact congrArg Host.Outcome.next (if_pos ⟨halive, (resetDue_iff _).mpr hdue⟩)
    case notDue =>
      intro boot h
      refine congrArg Host.Outcome.next (if_neg ?_)
      rintro ⟨halive, hdue⟩
      obtain ⟨d, q, hmem, hq⟩ := (resetDue_iff _).mp hdue
      rcases h with h | h
      · exact absurd halive (by rw [h]; decide)
      · exact absurd hq (Nat.not_le.mpr (h d q hmem))
    case pllLockLoss =>
      intro line relocked boot
      simp only [exec, execPllLockLoss, done, Bool.not_eq_true']
    case watchdog =>
      intro boot a ha
      simp only [exec, execStartWatchdogExpiry, done, ha]
    case noWatchdog =>
      intro boot ha
      simp only [exec, execStartWatchdogExpiry, done, ha]
    case wake =>
      rintro us boot u rfl
      simp only [exec, execWakeNFall, done, Bool.not_eq_true', Bool.or_eq_false_iff]
  case writes =>
    rintro w s t u v rfl rfl
    refine ⟨fun d hd h hv => ?domain, fun boot d h hd => ?reset⟩
    case domain =>
      subst hv
      refine (congrArg Host.Outcome.next (if_pos hd)).trans ((next_guarded h).trans ?_)
      simp only [State.domainControl, State.domainRefusal, Bool.and_eq_true, Bool.or_eq_true, Bool.not_eq_true', Bool.not_not]
    case reset =>
      subst hd
      refine (next_guarded h).trans (congrArg _ ?_)
      by_cases hkey : w.value / 2 ^ 24 % 256 ≠ 0x5A
      · rw [if_pos hkey, if_pos hkey]; rfl
      rw [if_neg hkey, if_neg hkey]
      generalize w.value / 2 ^ 16 % 4 = kind
      match kind with
      | 0 => rfl
      | 1 =>
        by_cases hd : 319 < w.value % 512
        · simp [hd, show ¬ w.value % 512 ≤ 319 by omega, State.domainRefusal]
        · cases domainRefused (s.at w.at_) (w.value % 512) <;> simp [hd, show w.value % 512 ≤ 319 by omega, State.domainRefusal]
      | _ + 2 => rfl
  case commands =>
    rintro r s t rfl kind domain d hp rfl
    exact next_runCmd hp

end Sys2Proof.Machine

/-!
PROOFS. Family 24: self-test, the periodic moments and the levels of the Shutter's balls.
-/
namespace Sys2Proof.Machine

/-- A Shutter ball keeps the level that the Shutter drives. -/
theorem ballLevel_of_shutter (s : State) {b : OutBall} (h : b.shutter = true) : s.ballLevel b = s.drivenLevel b :=
  if_neg (by simp [h])

/-- What the debug TAP holds drives no ball of its own accord. -/
theorem drivenLevel_tapSelect (s : State) (i : TapInstr) (b : OutBall) : (s.tapSelect i).drivenLevel b = s.drivenLevel b := by
  cases b <;> rfl

theorem drivenLevel_tapPreload (s : State) (high : List OutBall) (b : OutBall) : (s.tapPreload high).drivenLevel b = s.drivenLevel b := by
  unfold State.tapPreload
  split <;> cases b <;> rfl

/-- Settles O56: the moments by what is due, a run by its checks and its token; a Shutter ball by the driver it alone has. -/
theorem selfTestAndPeriodComplete : Obligations.SelfTestAndPeriodComplete := by
  unfold Obligations.SelfTestAndPeriodComplete
  refine ⟨?events, ?balls, ?commands⟩
  case events =>
    rintro at_ s t rfl
    refine ⟨fun _ => rfl, fun u hu => hu ▸ rfl, ?rateChange, ?noRateChange, rfl, fun p hp => hp ▸ rfl⟩
    case rateChange =>
      intro rate k hk
      simp only [exec, execRateChangeEffect, done, hk]
    case noRateChange =>
      intro hk
      simp only [exec, execRateChangeEffect, done, hk]
  case balls =>
    intro s b high i hb
    rw [ballLevel_of_shutter _ hb, ballLevel_of_shutter _ hb, drivenLevel_tapPreload, drivenLevel_tapSelect]
    exact ⟨rfl, rfl⟩
  case commands =>
    rintro r s t rfl
    refine ⟨?run, fun run hp => next_runCmd hp, fun hp => next_runCmd hp⟩
    case run =>
      intro mask fuse token keys u v ok good hp htoken hok
      refine (next_runCmd_lc hp).trans ?_
      cases token with
      | none =>
        obtain ⟨rfl, rfl⟩ := Prod.mk.inj htoken
        simp only [Bool.false_and] at hok
        simp only [← hok, conclude_ite, Bool.not_eq_true']
        cases ok <;> rfl
      | some k =>
        simp only [Option.isSome_some, Bool.true_and, ← Bool.and_assoc] at hok
        simp only [← htoken, ← hok, conclude_ite, Bool.not_eq_true']
        cases ok <;> rfl

end Sys2Proof.Machine

/-!
PROOFS. Family 00: register writes, lock sets and counter clears.
-/
namespace Sys2Proof.Machine

/-- An admitted store into plain memory: it waits while its bank is initialised, and into a vat's shared memory it may change the job table. -/
theorem memoryWrite_of_admitted {s : State} {w : Wr} {a : Nat} (hmem : plainMemory a = true) (h : admitted (s.at w.at_) w a = true) :
    memoryWrite s w a =
      if (s.at w.at_).bankUp a = false then { s.at w.at_ with gates := { (s.at w.at_).gates with writes := (s.at w.at_).gates.writes ++ [(w, a)] } }
      else if 0x30000000 ≤ a ∧ a < 0x31000000 then ((s.at w.at_).storeN a 4 w.value).jobsWritten ((a - 0x30000000) / 0x100000)
      else (s.at w.at_).storeN a 4 w.value := by
  rw [memoryWrite, guarded_admitted s w a _ h]
  cases (s.at w.at_).bankUp a <;> simp [hmem, State.memoryStore]

/-- Settles O57: the write by its address, a lock set and a counter clear as the register write that they are. -/
theorem registerWritesComplete : Obligations.RegisterWritesComplete := by
  unfold Obligations.RegisterWritesComplete
  rintro w a s t rfl
  refine ⟨rfl, ?misaligned, ?plain, ?memory, ?lock, ?noLock, ?clear, ?noClear⟩
  case misaligned => exact fun h => congrArg Host.Outcome.next (if_pos h)
  case plain => exact fun halign hblock h => (congrArg Host.Outcome.next (regWrite_plain s halign hblock)).trans (next_guarded h)
  case memory =>
    intro halign hmem h
    have hrow : exec (.registerWrite w a) s = .next (regWrite s w a) := rfl
    rw [hrow, regWrite_memory s halign (.inl (lt_of_plainMemory hmem)), memoryWrite_of_admitted hmem h]
  case lock => exact fun h => congrArg Host.Outcome.next (if_pos h)
  case noLock => exact fun h => congrArg Host.Outcome.next (if_neg h)
  case clear =>
    intro b hb
    simp only [exec, execCounterClear, execRegisterWrite, hb]
  case noClear =>
    intro hb
    simp only [exec, execCounterClear, done, hb]

end Sys2Proof.Machine

/-!
PROOFS. Family 10 and 11: the rows of the move set on an engine that issues them, their traps, composite moves and bus loads.
-/
namespace Sys2Proof.Machine

/-! ### A row issues the word it stands in -/

/-- A row whose engine has the destination issues its word. -/
theorem next_issueTo {m m' : Mv} {d w : Nat} {s : State} (h : (if nameable m'.eng d = true then some (m', Mv.wordTo m' d) else none) = some (m, w)) :
    done (issueTo s m' d) = .next (s.issue m w) := by
  obtain ⟨hname, hword⟩ := Option.ite_none_right_eq_some.mp h
  cases hword
  simp only [done, issueTo, if_pos hname]

theorem next_issueKind {kind : Eng → Bool} {m m' : Mv} {d w : Nat} {s : State}
    (h : (if kind m'.eng = true then (if nameable m'.eng d = true then some (m', Mv.wordTo m' d) else none) else none) = some (m, w)) :
    done (issueKind s m' kind d) = .next (s.issue m w) := by
  obtain ⟨hkind, hto⟩ := Option.ite_none_right_eq_some.mp h
  rw [issueKind, if_pos hkind, next_issueTo hto]

theorem next_issueSys {m m' : Mv} {v w : Nat} {s : State} (h : some (m', Mv.wordSys m' v) = some (m, w)) : done (issueSys s m' v) = .next (s.issue m w) := by
  cases h
  rfl

/-- Every row with an instruction word has its engine issue that word. -/
theorem exec_of_moveWord {c : Instr} {m : Mv} {w : Nat} (s : State) (h : moveWord c = some (m, w)) : exec c s = .next (s.issue m w) := by
  unfold moveWord at h
  dsimp only at h
  split at h
  case h_42 => cases h
  any_goals exact next_issueTo h
  any_goals exact next_issueKind h
  all_goals exact next_issueSys h

/-- The spine's destinations are the wide engines' (R275). -/
theorem nameable_of_wide {g : Eng} {d : Nat} (h : isVce g = true ∨ isCore g = true) (hd : d < 256) : nameable g d = true := by
  cases g with
  | lane e => simp [isVce, isCore] at h
  | vce v => simpa [nameable] using hd
  | core p => simpa [nameable] using hd

/-- The destinations that every engine has. -/
theorem nameable_of_common (g : Eng) {d : Nat} (hlo : 0x40 ≤ d) (hhi : d < 0x5F) : nameable g d = true := by
  cases g <;> simp [nameable] <;> omega

/-! ### What a read for errors leaves of the engines -/

theorem State.checkUnit_eng (s : State) (a : Nat) : (s.checkUnit a).eng = s.eng := by
  unfold State.checkUnit
  dsimp only
  split_ifs <;> simp [State.setUpset]

theorem State.foldl_checkUnit_eng : ∀ (l : List Nat) (s : State), (l.foldl State.checkUnit s).eng = s.eng
  | [], _ => rfl
  | a :: l, s => (State.foldl_checkUnit_eng l _).trans (State.checkUnit_eng s a)

theorem State.checkRead_eng (s : State) (a n : Nat) : (s.checkRead a n).1.eng = s.eng := State.foldl_checkUnit_eng _ _

/-- A lane's fetch leaves its units. -/
theorem atIssue_lane_u {s : State} {m : Mv} {e : Nat} (he : m.eng = .lane e) : ((atIssue s m).lane e).u = ((s.at m.at_).lane e).u := by
  simp only [atIssue, he, State.lane_u, State.checkRead_eng]

/-! ### An engine that issues -/

theorem issue_lane {s : State} {m : Mv} {e w : Nat} (he : m.eng = .lane e) (h : moveIssues s m w = true) :
    s.issue m w = (s.at m.at_).laneIssue e w (m.noise % 4096) := by
  obtain ⟨hready, -, -⟩ := (moveIssues_lane he).mp h
  simp only [State.issue, onLane, he, if_pos hready]

theorem issue_vce {s : State} {m : Mv} {v w : Nat} (he : m.eng = .vce v) (h : moveIssues s m w = true) : s.issue m w = (atIssue s m).vceIssue v w m.noise := by
  simp only [moveIssues, he, Bool.and_eq_true, decide_eq_true_eq, Bool.not_eq_true'] at h
  obtain ⟨⟨hslot, hready⟩, hgood⟩ := h
  have hgo : m.slot < slotCount (.vce v) ∧ wideReady (s.at m.at_) (.vce v) w = true := ⟨hslot, hready⟩
  simp only [State.issue, he, if_pos hgo, State.wideIssue, hgood, Bool.false_eq_true, if_false, atIssue]

theorem issue_core {s : State} {m : Mv} {p w : Nat} (he : m.eng = .core p) (h : moveIssues s m w = true) : s.issue m w = (atIssue s m).coreIssue p w m.noise := by
  simp only [moveIssues, he, Bool.and_eq_true, decide_eq_true_eq, Bool.not_eq_true'] at h
  obtain ⟨⟨⟨hslot, hready⟩, hgood⟩, hruns⟩ := h
  have hgo : m.slot < slotCount (.core p) ∧ wideReady (s.at m.at_) (.core p) w = true := ⟨hslot, hready⟩
  simp only [State.issue, he, if_pos hgo, State.wideIssue, hgood, Bool.false_eq_true, if_false, hruns, if_true, atIssue]

section
variable {s t : State} {m : Mv} {r : Issued} {w : Nat}

/-- An instruction without a trap takes effect on its engine. -/
theorem issue_settled (h : moveIssues s m w = true) (ht : t = atIssue s m) (hr : r = issueOn t m w) (htrap : r.trap = none)
    (hexp : ∀ v, m.eng = .vce v → expansion t v r.posts = none) : s.issue m w = settled m r := by
  cases he : m.eng with
  | lane e =>
    obtain ⟨-, hlim, hgood⟩ := (moveIssues_lane he).mp h
    simp only [issueOn, he] at hr
    simp only [atIssue, he] at ht
    simp only [issue_lane he h, State.laneIssue, if_neg (Nat.not_le.mpr hlim), hgood, Bool.false_eq_true, if_false, ← ht, ← hr, htrap, settled, he]
  | vce v =>
    simp only [issueOn, he] at hr
    simp only [issue_vce he h, ← ht, State.vceIssue, ← hr, htrap, hexp v he, settled, he]
  | core p =>
    simp only [issueOn, he] at hr
    simp only [issue_core he h, ← ht, State.coreIssue, ← hr, htrap, settled, he]

/-- A lane's instruction that traps stops it with the trap, or faults the lane where a word it reads is uncorrectable. -/
theorem issue_trap_lane {e : Nat} {u : State} {x : Trap} (he : m.eng = .lane e) (h : moveIssues s m w = true) (ht : t = atIssue s m) (hr : r = issueOn t m w)
    (htrap : r.trap = some x)
    (hu : u = if x.cause = 0x20 then r.s.putLane e { r.s.lane e with since := (r.s.lane e).since + 1, disp := (r.s.lane e).disp + 1 } else r.s) :
    s.issue m w = if x.cause = 0x30 then u.laneFault e 0x30 (some (ueWord t e w x.slot)) else u.laneTrap e (t.lane e).u.pc w x := by
  obtain ⟨-, hlim, hgood⟩ := (moveIssues_lane he).mp h
  have hpc : (t.lane e).u.pc = ((s.at m.at_).lane e).u.pc := by rw [ht, atIssue_lane_u he]
  simp only [issueOn, he] at hr
  simp only [atIssue, he] at ht
  simp only [issue_lane he h, State.laneIssue, if_neg (Nat.not_le.mpr hlim), hgood, Bool.false_eq_true, if_false, ← ht, ← hr, htrap, ← hu, hpc]

/-- The vat's core enters its handler. -/
theorem issue_trap_vce {v : Nat} {x : Trap} (he : m.eng = .vce v) (h : moveIssues s m w = true) (ht : t = atIssue s m) (hr : r = issueOn t m w)
    (htrap : r.trap = some x) : s.issue m w = (settled m r).vceTrap v (t.vat v).u.pc 0 x := by
  simp only [issueOn, he] at hr
  simp only [issue_vce he h, ← ht, State.vceIssue, ← hr, htrap, settled, he]

/-- A thread of a custody core enters its handler. -/
theorem issue_trap_core {p : Nat} {x : Trap} (he : m.eng = .core p) (h : moveIssues s m w = true) (ht : t = atIssue s m) (hr : r = issueOn t m w)
    (htrap : r.trap = some x) : s.issue m w =
      (settled m r).coreTrap p (if x.cause = 0x20 then ((settled m r).units (.core p)).pc else (t.units (.core p)).pc) x := by
  simp only [issueOn, he] at hr
  simp only [issue_core he h, ← ht, State.coreIssue, ← hr, htrap, settled, he]

/-- A composite move runs its entry's micro-instructions after the instruction's own triggers. -/
theorem issue_composite {v : Nat} {arg : Word} {ws : List Nat} (he : m.eng = .vce v) (h : moveIssues s m w = true) (ht : t = atIssue s m) (hr : r = issueOn t m w)
    (htrap : r.trap = none) (hexp : expansion t v r.posts = some (arg, ws)) :
    s.issue m w = ((settled m r).putVat v { (settled m r).vat v with arg := arg }).expand v (t.vat v).u.pc m.noise ws 1 := by
  simp only [issueOn, he] at hr
  simp only [issue_vce he h, ← ht, State.vceIssue, ← hr, htrap, hexp, settled, he]

end

/-! ### Every row completes -/

/-- Settles O58: each row issues its word, and an instruction without a trap or a composite move is settled. -/
theorem movesComplete : Obligations.MovesComplete := by
  unfold Obligations.MovesComplete
  refine ⟨?completes, ?absent⟩
  case completes =>
    intro m s t r w hissue ht hr htrap hexp
    have hrow : ∀ {c}, moveWord c = some (m, w) → exec c s = .next (settled m r) := fun hword => by
      rw [exec_of_moveWord s hword, issue_settled hissue ht hr htrap hexp]
    have hdest : ∀ {d}, nameable m.eng d = true → w = Mv.wordTo m d → (if nameable m.eng d = true then some (m, Mv.wordTo m d) else none) = some (m, w) :=
      fun hname hw => by rw [if_pos hname, hw]
    have hkind : ∀ {kind : Eng → Bool} {d}, kind m.eng = true → nameable m.eng d = true → w = Mv.wordTo m d →
        (if kind m.eng = true then (if nameable m.eng d = true then some (m, Mv.wordTo m d) else none) else none) = some (m, w) :=
      fun hk hname hw => by rw [if_pos hk, hdest hname hw]
    refine ⟨fun c dst hmem hw => ?common, fun dst hname hw => hrow (hdest hname hw), fun c dst hmem hwide hw => ?bus, fun c dst hmem hvce hw => ?window,
      fun c dst hmem hcore hw => ?crossing, fun c v hmem hw => ?sys⟩
    case common =>
      have hrange : 0x40 ≤ dst ∧ dst < 0x5F := by
        simp only [List.mem_cons, Prod.mk.injEq, List.not_mem_nil, or_false] at hmem
        omega
      have hto := hdest (nameable_of_common m.eng hrange.1 hrange.2) hw
      simp only [List.mem_cons, Prod.mk.injEq, List.not_mem_nil, or_false] at hmem
      rcases hmem with h | h | h | h | h | h | h | h | h | h | h | h | h | h | h | h | h | h | h | h | h | h | h <;> obtain ⟨rfl, rfl⟩ := h <;> exact hrow hto
    case bus =>
      simp only [List.mem_cons, Prod.mk.injEq, List.not_mem_nil, or_false] at hmem
      rcases hmem with ⟨rfl, rfl⟩ | ⟨rfl, rfl⟩ <;> exact hrow (hdest (nameable_of_wide hwide (by decide)) hw)
    case window =>
      simp only [List.mem_cons, Prod.mk.injEq, List.not_mem_nil, or_false] at hmem
      rcases hmem with ⟨rfl, rfl⟩ | ⟨rfl, rfl⟩ <;> exact hrow (hkind hvce (nameable_of_wide (.inl hvce) (by decide)) hw)
    case crossing =>
      simp only [List.mem_cons, Prod.mk.injEq, List.not_mem_nil, or_false] at hmem
      rcases hmem with h | h | h | h | h | h | h <;> obtain ⟨rfl, rfl⟩ := h <;> exact hrow (hkind hcore (nameable_of_wide (.inr hcore) (by decide)) hw)
    case sys =>
      simp only [List.mem_cons, Prod.mk.injEq, List.not_mem_nil, or_false] at hmem
      rcases hmem with ⟨rfl, rfl⟩ | ⟨rfl, rfl⟩ | ⟨rfl, rfl⟩ | ⟨rfl, rfl⟩ <;> exact hrow (by rw [hw]; rfl)
  case absent =>
    intro m s
    have hkind : ∀ {kind : Eng → Bool} {d}, kind m.eng = false → issueKind s m kind d = s.at m.at_ := fun hk => if_neg (by simp [hk])
    have hto : ∀ {d}, nameable m.eng d = false → issueTo s m d = s.at m.at_ := fun hn => if_neg (by simp [hn])
    refine ⟨fun dst hn => congrArg Host.Outcome.next (hto hn), fun hvce entry c hmem => ?window, fun hcore c hmem => ?crossing, fun hvce hcore c hmem => ?bus⟩
    case window =>
      simp only [List.mem_cons, List.not_mem_nil, or_false] at hmem
      rcases hmem with rfl | rfl | rfl <;> exact congrArg Host.Outcome.next (hkind hvce)
    case crossing =>
      simp only [List.mem_cons, List.not_mem_nil, or_false] at hmem
      rcases hmem with rfl | rfl | rfl | rfl | rfl | rfl | rfl <;> exact congrArg Host.Outcome.next (hkind hcore)
    case bus =>
      have hlane : nameable m.eng 0x61 = false ∧ nameable m.eng 0x62 = false := by
        cases he : m.eng <;> simp_all [isVce, isCore, nameable]
      simp only [List.mem_cons, List.not_mem_nil, or_false] at hmem
      rcases hmem with rfl | rfl
      · exact congrArg Host.Outcome.next (hto hlane.1)
      · exact congrArg Host.Outcome.next (hto hlane.2)

/-! ### Traps, fetches, composites and bus loads -/

/-- A lane that does not run, or is not clocked, issues nothing. -/
theorem issue_lane_idle {s : State} {m : Mv} {e w : Nat} (he : m.eng = .lane e) (h : ((s.at m.at_).lane e).stat ≠ 1 ∨ (s.at m.at_).clocked e = false) :
    s.issue m w = s.at m.at_ := by
  simp only [State.issue, onLane, he]
  exact if_neg fun ⟨_, _, hstat, hclk, _⟩ => h.elim (fun hs => hs hstat) (fun hc => by simp [hc] at hclk)

/-- The answer of a bus load lands in its unit once its bank answers (R275, R331). -/
theorem State.busComplete_of_outstanding {s : State} {g : Eng} {noise a cls ctx : Nat} (h : (s.units g).busAddr = some (a, cls, ctx)) :
    s.busComplete g noise = if s.bankUp a = true then
        (s.spineRead ⟨0, cls, (accOf s g 0 a).eng, ctx, a⟩ noise).1.putUnits g
          { (s.spineRead ⟨0, cls, (accOf s g 0 a).eng, ctx, a⟩ noise).1.units g with
            busR := (s.spineRead ⟨0, cls, (accOf s g 0 a).eng, ctx, a⟩ noise).2.1, busDone := true,
            busErr := (s.spineRead ⟨0, cls, (accOf s g 0 a).eng, ctx, a⟩ noise).2.2, busAddr := none }
      else s := by
  cases hup : s.bankUp a <;> simp [State.busComplete, h, hup]

/-- Only the wide engines have a BUS unit. -/
theorem exec_busLoadComplete (at_ : Nat) (g : Eng) (noise : Nat) (s : State) :
    exec (.busLoadComplete at_ ⟨g, noise⟩) s = .next (if isVce g = true ∨ isCore g = true then (s.at at_).busComplete g noise else s.at at_) := by
  cases g <;> rfl

/-- Settles O59: a trap by the engine that takes it, a lane's fetch by its two failures, a composite move by its entry and a bus load by its answer. -/
theorem trapsAndCompositesComplete : Obligations.TrapsAndCompositesComplete := by
  unfold Obligations.TrapsAndCompositesComplete
  refine ⟨?trap, ?fetch, ?composite, ?bus⟩
  case trap =>
    intro c m s t r w x hword hissue ht hr htrap
    rw [exec_of_moveWord s hword]
    exact ⟨fun e u he hu => congrArg Host.Outcome.next (issue_trap_lane he hissue ht hr htrap hu),
      fun v he => congrArg Host.Outcome.next (issue_trap_vce he hissue ht hr htrap),
      fun p he => congrArg Host.Outcome.next (issue_trap_core he hissue ht hr htrap)⟩
  case fetch =>
    rintro c m s t w e pc hword rfl he hpc
    rw [hpc]
    rw [exec_of_moveWord s hword]
    refine ⟨fun hidle => congrArg Host.Outcome.next (issue_lane_idle he hidle), fun he256 hslot hstat hclk hup => ?_⟩
    have hlane : s.issue m w = (s.at m.at_).laneIssue e w (m.noise % 4096) := by
      simp only [State.issue, onLane, he]
      exact if_pos ⟨he256, hslot, hstat, hclk, hup⟩
    rw [hlane, State.laneIssue]
    refine ⟨fun hlim => congrArg Host.Outcome.next (if_pos hlim), fun hlim hbad => congrArg Host.Outcome.next ?_⟩
    exact (if_neg (Nat.not_le.mpr hlim)).trans (if_pos hbad)
  case composite =>
    intro m s t r entry v w arg ws hw hissue ht he hr htrap hexp
    have hword : moveWord (.compositeMove m entry) = some (m, w) := by
      have hvce : isVce m.eng = true := by rw [he]; rfl
      have hname := nameable_of_wide (d := 0xC0 + entry % 64) (.inl hvce) (by omega)
      simp only [moveWord, hvce, hname, if_true, hw]
    rw [exec_of_moveWord s hword, issue_composite he hissue ht hr htrap hexp]
  case bus =>
    rintro at_ s t g noise rfl
    rw [exec_busLoadComplete]
    refine ⟨fun hnone => congrArg Host.Outcome.next ?none, fun a cls ctx hwide hout => ?load⟩
    case none =>
      rcases hnone with ⟨hvce, hcore⟩ | hidle
      · exact if_neg (by simp [hvce, hcore])
      · split
        · rw [State.busComplete, hidle]
        · rfl
    case load =>
      rw [if_pos hwide, State.busComplete_of_outstanding hout]
      refine ⟨fun hup => by rw [hup]; rfl, fun u v err hup hread => ?_⟩
      rw [if_pos hup, hread]

end Sys2Proof.Machine

/-!
PROOFS. Family 10 and 11: an instruction with one move, on every kind of engine.
-/
namespace Sys2Proof.Machine

/-! ### Units in the state -/

theorem setAt_setAt {α : Type} (l : List α) (i : Nat) (x y : α) : setAt (setAt l i x) i y = setAt l i y := List.set_set x

/-- The later of two writes of an engine's units stands. -/
theorem State.putUnits_putUnits (s : State) (g : Eng) (u u' : Units) : (s.putUnits g u).putUnits g u' = s.putUnits g u' := by
  cases g with
  | lane e => exact State.putUnits_putUnits_lane s e u u'
  | vce v =>
    simp only [State.putUnits, State.putVat, State.vat, Sparse.get_set, if_true, Sparse.set_set]
  | core p =>
    have hworld : (s.putUnits (.core p) u).worldOn p = s.worldOn p := rfl
    simp only [State.putUnits] at hworld ⊢
    by_cases hlt : s.worldOn p < s.eng.threads.length
    · have hthread : (s.putThread (s.worldOn p) { s.thread (s.worldOn p) with u := u }).thread (s.worldOn p) = { s.thread (s.worldOn p) with u := u } := by
        simp [State.thread, State.putThread, at!, setAt, List.getD, hlt]
      rw [hworld, hthread]
      simp only [State.putThread, setAt_setAt]
    · have hout : ∀ (a : State) x, a.eng.threads.length ≤ s.worldOn p → a.putThread (s.worldOn p) x = a := by
        intro a x hle
        simp only [State.putThread, setAt, List.set_eq_of_length_le hle]
      rw [hworld, hout s _ (by omega), hout s _ (by omega)]

/-- Units that are read back after a write and changed; where no thread runs both writes are lost. -/
theorem State.putUnits_units (s : State) (g : Eng) (u : Units) (f : Units → Units) :
    (s.putUnits g u).putUnits g (f ((s.putUnits g u).units g)) = s.putUnits g (f u) := by
  rw [State.putUnits_putUnits]
  cases g with
  | lane e => rw [State.units_putUnits_lane]
  | vce v => simp only [State.units, State.putUnits, State.putVat, State.vat, Sparse.get_set, if_true]
  | core p =>
    have hworld : (s.putUnits (.core p) u).worldOn p = s.worldOn p := rfl
    simp only [State.units, State.putUnits] at hworld ⊢
    rw [hworld]
    by_cases hlt : s.worldOn p < s.eng.threads.length
    · simp [State.thread, State.putThread, at!, setAt, List.getD, hlt]
    · have hout : ∀ x, s.putThread (s.worldOn p) x = s := by
        intro x
        simp only [State.putThread, setAt, List.set_eq_of_length_le (Nat.le_of_not_lt hlt)]
      rw [hout, hout]

/-! ### A wide instruction with one move (R269) -/

/-- The slot of a command's move to port `dst` on a wide engine. -/
def wideSole (m : Mv) (dst : Nat) : Slot := ⟨m.ge, dst, m.imm, m.src, false⟩

/-- Three slots with two of them idle. -/
def wideAlone (i : Nat) (x : Slot) : List Slot := if i = 0 then [x, idleSlot, idleSlot] else if i = 1 then [idleSlot, x, idleSlot] else [idleSlot, idleSlot, x]

/-- A move's source exists on a wide engine, and `v` is its value where the ports hold `val` (R273). -/
def WideSource (g : Eng) (val : Nat → Word) (m : Mv) (v : Word) : Prop :=
  (m.imm = true ∧ m.src < 1024 ∧ v = wordOf (signed 10 m.src)) ∨ (m.imm = false ∧ m.src < 1024 ∧ srcOk g false m.src = true ∧ v = val m.src)

/-- The source ports of the wide engines are numbered below 1024. -/
theorem lt_of_srcOk {g : Eng} {n : Nat} (hg : isVce g = true ∨ isCore g = true) (h : srcOk g false n = true) : n < 1024 := by
  cases g with
  | lane e => simp [isVce, isCore] at hg
  | vce v => simp only [srcOk, Bool.or_eq_true, decide_eq_true_eq, Bool.false_and, Bool.false_eq_true, or_false] at h; omega
  | core p => simp only [srcOk, Bool.or_eq_true, decide_eq_true_eq] at h; omega

theorem wideSource_of_soleValue {t : State} {m : Mv} {v : Word} (hg : isVce m.eng = true ∨ isCore m.eng = true) (h : soleValue t m = some v) :
    WideSource m.eng (fun n => (extSrc t m.eng n).getD ((t.units m.eng).tick.src (idWord m.eng) n)) m v := by
  have hbits : limmBits m.eng = 10 := by cases he : m.eng <;> simp_all [isVce, isCore, limmBits]
  unfold soleValue at h
  cases himm : m.imm
  case true =>
    simp only [himm, if_true, Option.ite_none_right_eq_some, Option.some.injEq, hbits] at h
    exact .inl ⟨himm, h.1, h.2.symm⟩
  case false =>
    have hport : srcOk m.eng false m.src = true ∧ (extSrc t m.eng m.src).getD ((t.units m.eng).tick.src (idWord m.eng) m.src) = v := by
      cases he : m.eng with
      | lane e => simp [he, isVce, isCore] at hg
      | vce e => simpa [himm, he, extSrc] using h
      | core e => simpa [himm, he, extSrc] using h
    exact .inr ⟨himm, lt_of_srcOk hg hport.1, hport.1, hport.2.symm⟩

section
variable {g : Eng} {d : Nat} {val : Nat → Word} {m : Mv} {v : Word}

theorem WideSource.src_lt (h : WideSource g val m v) : m.src < 1024 := h.elim (·.2.1) (·.2.1)

/-- A wide slot is decoded as it was encoded. -/
theorem wideSlot_slotBits (hg : isVce g = true ∨ isCore g = true) (hsrc : m.src < 1024) (hlo : 0 < d) (hhi : d < 256) :
    slotBits g m.ge m.imm d m.src < 2 ^ 20 ∧ wideSlot (slotBits g m.ge m.imm d m.src) = wideSole m d := by
  have hbits : slotBits g m.ge m.imm d m.src = flag m.ge * 2 ^ 19 + d % 256 * 2 ^ 11 + flag m.imm * 2 ^ 10 + m.src % 1024 := by
    cases g with
    | lane e => simp [isVce, isCore] at hg
    | vce e => rfl
    | core e => rfl
  have hge : flag m.ge < 2 ∧ (flag m.ge % 2 = 1 ↔ m.ge = true) := by cases m.ge <;> decide
  have himm : flag m.imm < 2 ∧ (flag m.imm % 2 = 1 ↔ m.imm = true) := by cases m.imm <;> decide
  rw [hbits]
  generalize flag m.ge = a at hge
  generalize flag m.imm = b at himm
  refine ⟨by omega, ?_⟩
  generalize hw : a * 2 ^ 19 + d % 256 * 2 ^ 11 + b * 2 ^ 10 + m.src % 1024 = w
  have hbitge : bit w 19 = m.ge := by rw [bit, Bool.eq_iff_iff, decide_eq_true_eq, ← hge.2]; omega
  have hbitimm : bit w 10 = m.imm := by rw [bit, Bool.eq_iff_iff, decide_eq_true_eq, ← himm.2]; omega
  have hport : w / 2 ^ 11 % 256 = d := by omega
  have hsrc' : w % 1024 = m.src := by omega
  have hnop : (w == 0) = false := by rw [beq_eq_false_iff_ne]; omega
  simp only [wideSlot, wideSole, hbitge, hbitimm, hport, hsrc', hnop]

/-- A wide instruction whose other slots are idle. -/
theorem slotsOf_wide (hg : isVce m.eng = true ∨ isCore m.eng = true) (hw : m.word = 0) (hslot : m.slot < 3) (hsrc : m.src < 1024) (hlo : 0 < d) (hhi : d < 256) :
    slotsOf m.eng (Mv.wordTo m d) = wideAlone m.slot (wideSole m d) ∧ Mv.wordTo m d / 2 ^ 60 = 0 := by
  obtain ⟨hlt, hdec⟩ := wideSlot_slotBits hg hsrc hlo hhi
  have hidle : wideSlot 0 = idleSlot := rfl
  have hslots : ∀ w, slotsOf m.eng w = [wideSlot (w / 2 ^ 40 % 2 ^ 20), wideSlot (w / 2 ^ 20 % 2 ^ 20), wideSlot (w % 2 ^ 20)] := by
    intro w
    cases he : m.eng with
    | lane e => simp [he, isVce, isCore] at hg
    | vce e => rfl
    | core e => rfl
  have hput : ∀ b, putSlotBits m.eng 0 m.slot b = b % 2 ^ 20 * 2 ^ (20 * (2 - m.slot)) := by
    intro b
    cases he : m.eng with
    | lane e => simp [he, isVce, isCore] at hg
    | vce e => simp [putSlotBits, slotCount]
    | core e => simp [putSlotBits, slotCount]
  rw [hslots, Mv.wordTo, hw, hput]
  generalize slotBits m.eng m.ge m.imm d m.src = b at hdec hlt
  rw [← hdec, wideAlone, ← hidle]
  obtain h | h | h : m.slot = 0 ∨ m.slot = 1 ∨ m.slot = 2 := by omega
  · rw [h, if_pos rfl]
    exact ⟨by congr 4 <;> omega, by omega⟩
  · rw [h, if_neg (by decide), if_pos rfl]
    exact ⟨by congr 4 <;> omega, by omega⟩
  · rw [h, if_neg (by decide), if_neg (by decide)]
    exact ⟨by congr 4 <;> omega, by omega⟩

/-- Such an instruction makes its one move and leaves the LIMM chain as it is. -/
theorem parse_wide {u : Units} (hg : isVce g = true ∨ isCore g = true) (hslot : m.slot < 3) (hsrc : WideSource g val m v) (hlimm : d ≠ 0x5D) (hpre : u.preN = 0) :
    parse g u val (wideAlone m.slot (wideSole m d)) = ⟨[soleMove m d v u.g], u.pre, 0, false, none⟩ := by
  have hbits : limmBits g = 10 := by cases g <;> simp_all [isVce, isCore, limmBits]
  have hidle : ∀ p i, parseSlot g val u.g p i idleSlot = p := fun p i => rfl
  have hsole : parseSlot g val u.g ⟨[], u.pre, 0, false, none⟩ m.slot (wideSole m d) = ⟨[soleMove m d v u.g], u.pre, 0, false, none⟩ := by
    rcases hsrc with ⟨himm, -, hv⟩ | ⟨himm, -, -, hv⟩ <;> simp [parseSlot, wideSole, soleMove, himm, hlimm, hv, hbits]
  rw [parse, hpre]
  obtain h | h | h : m.slot = 0 ∨ m.slot = 1 ∨ m.slot = 2 := by omega
  all_goals
    rw [h] at hsole ⊢
    simp [wideAlone, parseFrom, hidle, hsole]

/-- It has no decode-class cause: its port is there on every engine, neither privileged nor a crossing (R263). -/
theorem decodeCause_wide (u : Units) (ms : List Move) (pre : Word) (priv : Bool) (hg : isVce g = true ∨ isCore g = true) (hsrc : WideSource g val m v)
    (hlo : 0x40 ≤ d) (hhi : d < 0x5D) (hstr : d ≠ 0x5B) :
    decodeCause g u false priv true (wideAlone m.slot (wideSole m d)) ⟨ms, pre, 0, false, none⟩ = none := by
  have hd : (wideSole m d).dst = d := rfl
  have hnop : (wideSole m d).nop = false := rfl
  have hidle : ∀ gs i, slotCause g u false priv gs ⟨ms, pre, 0, false, none⟩ i idleSlot = none := by
    intro gs i
    cases g <;> simp [slotCause, idleSlot, dstOk, srcOk, crossing]
  have hsole : ∀ gs i, slotCause g u false priv gs ⟨ms, pre, 0, false, none⟩ i (wideSole m d) = none := by
    intro gs i
    have hdst : dstOk g d = true := by cases g <;> simp [dstOk] <;> omega
    have hport : (!m.imm && !srcOk g false m.src) = false := by
      rcases hsrc with ⟨himm, -⟩ | ⟨himm, -, hok, -⟩
      · simp [himm]
      · simp [himm, hok]
    have hcross : crossing g d = false := by cases g <;> simp [crossing]; omega
    have hpriv : ¬(0x72 ≤ d ∧ d ≤ 0x77) := by omega
    have hsys : (d == 0x5E) = false := by rw [beq_eq_false_iff_ne]; omega
    have hlow : ¬ 0xC0 ≤ d := by omega
    cases g <;> simp [slotCause, wideSole, hdst, hport, hcross, hpriv, hsys, hlow]
  have hconflict : dstConflict (wideAlone m.slot (wideSole m d)) = none := by
    unfold wideAlone
    split_ifs <;> simp [dstConflict, idleSlot]
  have hunit : unitConflict g (wideAlone m.slot (wideSole m d)) = none := by
    unfold wideAlone
    split_ifs <;> simp [unitConflict, idleSlot]
  have hcauses : ∀ gs, slotCauses g u false priv gs ⟨ms, pre, 0, false, none⟩ (wideAlone m.slot (wideSole m d)) 0 = none := by
    intro gs
    unfold wideAlone
    split_ifs <;> simp only [slotCauses, hidle, hsole]
  simp [decodeCause, hconflict, hunit, hcauses]

end

end Sys2Proof.Machine

/-!
PROOFS. Family 10 and 11: what a move that stands alone computes.
-/
namespace Sys2Proof.Machine

/-! ### Memory under the moves -/

theorem Reported.mem {s t : State} (h : Reported s t) : t.mem = s.mem := by
  have hsame : (s.unreport t).mem = t.mem := rfl
  exact hsame.symm.trans (congrArg State.mem h)

theorem State.busFault_mem (s : State) (a : Nat) : (s.busFault a).mem = s.mem := (State.busFault_reported s a).mem

theorem State.voidStream_mem (s : State) (e noise : Nat) : (s.voidStream e noise).mem = s.mem := by
  unfold State.voidStream
  extract_lets src a l read
  by_cases hvoid : (l.u.flight.any read && damaged s (accOf s (.lane e) 0 a) 0 noise) = true
  · rw [if_pos hvoid, State.busFault_mem, State.putLane_mem]
  · rw [if_neg hvoid]

/-- What a store writes depends on the memory alone. -/
theorem State.store_mem_congr : ∀ (bs : List Byte) (a : Nat) {s t : State}, s.mem = t.mem → (s.store a bs).mem = (t.store a bs).mem
  | [], _, _, _, h => h
  | _ :: bs, a, _, _, h => State.store_mem_congr bs (a + 1) (by simp only [State.setByte, h])

theorem State.storeN_mem_congr {s t : State} (a n v : Nat) (h : s.mem = t.mem) : (s.storeN a n v).mem = (t.storeN a n v).mem :=
  State.store_mem_congr _ _ h

theorem State.putUnits_mem (s : State) (g : Eng) (u : Units) : (s.putUnits g u).mem = s.mem := by cases g <;> rfl

/-- A lane's store writes its word, whatever becomes of the checkpoint. -/
theorem State.laneStore_mem (s : State) (e a : Nat) (v : Word) : (s.laneStore e a v).mem = (s.storeN (physical (.lane e) a) 4 v.toNat).mem := by
  unfold State.laneStore
  dsimp only
  split_ifs <;> rfl

theorem Sparse.get_of_forall_ne {α : Type} (d : Nat → α) (k : Nat) : ∀ {m : Sparse α}, (∀ p ∈ m, p.1 ≠ k) → Sparse.get d m k = d k
  | [], _ => rfl
  | (j, x) :: m, h => by
    rw [Sparse.get, if_neg (h (j, x) List.mem_cons_self), Sparse.get_of_forall_ne d k fun p hp => h p (List.mem_cons_of_mem _ hp)]

/-- The check unit of a byte of an aligned word lies in it or before it. -/
theorem upsetUnit_mono {a b : Nat} (ha : a % 4 = 0) (hab : a ≤ b) (hb : b < a + 4) : upsetUnit a ≤ upsetUnit b ∧ upsetUnit b < a + 4 := by
  unfold upsetUnit
  split_ifs <;> omega

theorem State.spoiled_of_upsetsIn_nil {s : State} {a b : Nat} (h : s.upsetsIn a 4 = []) (ha : a % 4 = 0) (hab : a ≤ b) (hb : b < a + 4) : s.spoiled b = false := by
  obtain ⟨hlo, hhi⟩ := upsetUnit_mono ha hab hb
  have hnone : s.upset b = 0 := by
    refine Sparse.get_of_forall_ne _ _ fun p hp heq => ?_
    rw [State.upsetsIn, List.map_eq_nil_iff, List.filter_eq_nil_iff] at h
    have := h p hp
    simp only [decide_eq_true_eq] at this
    omega
  rw [State.spoiled, hnone]
  split <;> rfl

theorem State.peek_eq_load {s : State} : ∀ {n a : Nat}, (∀ b, a ≤ b → b < a + n → s.spoiled b = false) → s.peek a n = s.load a n
  | 0, _, _ => rfl
  | n + 1, a, h => by
    have hbyte : s.peekByte a = s.byte a := by rw [State.peekByte, h a le_rfl (by omega)]; rfl
    rw [State.peek, State.load, hbyte, State.peek_eq_load fun b hab hb => h b (by omega) (by omega)]

/-- A word that holds no error reads as memory has it. -/
theorem State.peekN_of_upsetsIn_nil {s : State} {a : Nat} (h : s.upsetsIn a 4 = []) (ha : a % 4 = 0) : s.peekN a 4 = s.loadN a 4 := by
  rw [State.peekN, State.loadN, State.peek_eq_load fun b hab hb => State.spoiled_of_upsetsIn_nil h ha hab hb]

theorem State.checkRead_of_upsetsIn_nil {s : State} {a n : Nat} (h : s.upsetsIn a n = []) : s.checkRead a n = (s, false) := by
  simp [State.checkRead, h]

/-! ### An instruction with one move issues -/

/-- What an instruction with the one move `mv` parses to. -/
def soleParsed (u : Units) (mv : Move) : Parsed := ⟨[mv], u.pre, 0, false, none⟩

/-- The move of `m` stands alone in its instruction: `u` are its engine's units and `v` its value. -/
structure StandsAlone (t : State) (m : Mv) (u : Units) (v : Word) : Prop where
  word : m.word = 0
  units : u = (t.units m.eng).tick
  pre : u.preN = 0
  value : soleValue t m = some v

/-- An instruction with one move that has no cause takes effect. -/
theorem issueWord_of_sole {t : State} {g : Eng} {w : Nat} {ext : Nat → Option Word} {priv void : Bool} {u : Units} {mv : Move} {slots : List Slot}
    (hu : u = (t.units g).tick) (hslots : slotsOf g w = slots) (hfmt : w / 2 ^ 60 = 0)
    (hparse : parse g u (fun n => (ext n).getD (u.src (idWord g) n)) slots = soleParsed u mv) (hdec : decodeCause g u false priv true slots (soleParsed u mv) = none)
    (hop : u.operand g mv = u) (hcause : moveCause t g void u mv = none) (hown : ownTrigger mv = false) :
    issueWord t g w ext false priv void = ⟨t.complete g u (soleParsed u mv) [mv], none, []⟩ := by
  have hmoves : (soleParsed u mv).moves = [mv] := rfl
  have hfilter : [mv].filter ownTrigger = [] := by simp [hown]
  have hword : (w / 2 ^ 60 == 0) = true := by rw [hfmt]; rfl
  cases g <;>
    simp only [issueWord, ← hu, hslots, hparse, hword, hdec, hmoves, List.foldl_cons, List.foldl_nil, hop, moveCauses, List.findSome?_cons, List.findSome?_nil, hcause,
      hfilter]

/-- A lane's cause does not depend on its transfer on the spine: its memory is its own (R336). -/
theorem moveCause_lane_void (t : State) (e : Nat) (void void' : Bool) (u : Units) (mv : Move) :
    moveCause t (.lane e) void u mv = moveCause t (.lane e) void' u mv := rfl

/-- A lane's word has 32 bits. -/
theorem wordTo_lane_lt {m : Mv} {e : Nat} (d : Nat) (he : m.eng = .lane e) (hw : m.word = 0) (hslot : m.slot < 2) : Mv.wordTo m d / 2 ^ 60 = 0 := by
  simp only [Mv.wordTo, he, hw, putSlotBits, slotCount]
  generalize slotBits (.lane e) m.ge m.imm d m.src = b
  obtain h | h : m.slot = 0 ∨ m.slot = 1 := by omega
  all_goals
    rw [h]
    omega

section
variable {s t : State} {m : Mv} {u : Units} {v : Word} {d : Nat}

theorem ownTrigger_soleMove (m : Mv) (v : Word) (g : Bool) (hhi : d < 0x5D) : ownTrigger (soleMove m d v g) = false := by
  have hport : (d == 0x5E || d == 0x61 || d == 0x62 || decide (0x70 ≤ d)) = false := by simp; omega
  exact (congrArg (_ && ·) hport).trans (Bool.and_false _)

/-- On every engine an instruction with one move that has no cause takes effect, and leaves no trigger to the engine. -/
theorem issueOn_sole (h : StandsAlone t m u v) (hslot : m.slot < slotCount m.eng) (hlo : 0x40 ≤ d) (hhi : d < 0x5D) (hstr : d ≠ 0x5B)
    (hop : u.operand m.eng (soleMove m d v u.g) = u) (hcause : moveCause t m.eng (voided (m.noise / 4096)) u (soleMove m d v u.g) = none) :
    issueOn t m (Mv.wordTo m d) = ⟨t.complete m.eng u (soleParsed u (soleMove m d v u.g)) [soleMove m d v u.g], none, []⟩ := by
  obtain ⟨hword, hu, hpre, hv⟩ := h
  have hown := ownTrigger_soleMove m v u.g hhi
  have hwide : ∀ g, m.eng = g → isVce g = true ∨ isCore g = true → ∀ priv, issueWord t g (Mv.wordTo m d) (extSrc t g) false priv (voided (m.noise / 4096)) =
      ⟨t.complete g u (soleParsed u (soleMove m d v u.g)) [soleMove m d v u.g], none, []⟩ := by
    rintro g rfl hg priv
    have hsrc := wideSource_of_soleValue hg hv
    rw [← hu] at hsrc
    have hlt : m.slot < 3 := by cases he : m.eng <;> simp_all [isVce, isCore, slotCount]
    obtain ⟨hslots, hfmt⟩ := slotsOf_wide hg hword hlt hsrc.src_lt (show 0 < d by omega) (by omega)
    exact issueWord_of_sole hu hslots hfmt (parse_wide hg hlt hsrc (by omega) hpre) (decodeCause_wide u _ _ priv hg hsrc hlo hhi hstr) hop hcause hown
  cases he : m.eng with
  | lane e =>
    rw [he] at hu hop hcause
    have hsrc := soleSource_of_soleValue he hv
    rw [← hu] at hsrc
    have hlt : m.slot < 2 := by simpa [he, slotCount] using hslot
    simp only [issueOn, he]
    exact issueWord_of_sole hu (slotsOf_sole he hword hlt hsrc hlo (by omega)) (wordTo_lane_lt d he hword hlt) (parse_sole hlt hsrc (by omega) hpre)
      (decodeCause_sole u _ _ hsrc hlo (by omega)) hop ((moveCause_lane_void t e _ _ u _).trans hcause) hown
  | vce e =>
    have hone := hwide (.vce e) he (.inl rfl) false
    simp only [issueOn, he]
    exact hone
  | core p =>
    have hone := hwide (.core p) he (.inr rfl) (unprivileged (t.ctxOn p))
    simp only [issueOn, he]
    exact hone

/-! ### What the instruction leaves -/

/-- The units that an engine keeps as its program counter moves on. -/
theorem settled_putUnits (t : State) (m : Mv) (x : Units) : settled m ⟨t.putUnits m.eng (x.advance m.eng), none, []⟩ = passed t m x := by
  cases he : m.eng with
  | lane e =>
    simp only [settled, he, List.foldl_nil, State.lane_putUnits]
    simp only [State.putUnits_lane, State.putLane_putLane, passed, he]
  | vce e => simp only [settled, passed, he, List.foldl_nil]
  | core p =>
    have horder : coreOrder [] = [] := rfl
    simp only [settled, passed, he, horder, List.foldl_nil]

/-- A row whose one move has no cause is settled as its move fires. -/
theorem exec_sole {c : Instr} {w : Nat} (h : StandsAlone t m u v) (ht : t = atIssue s m) (hrow : moveWord c = some (m, w)) (hw : w = Mv.wordTo m d)
    (hissue : moveIssues s m w = true) (hlo : 0x40 ≤ d) (hhi : d < 0x5D) (hstr : d ≠ 0x5B) (hop : u.operand m.eng (soleMove m d v u.g) = u)
    (hcause : moveCause t m.eng (voided (m.noise / 4096)) u (soleMove m d v u.g) = none) :
    exec c s = .next (settled m ⟨t.complete m.eng u (soleParsed u (soleMove m d v u.g)) [soleMove m d v u.g], none, []⟩) := by
  have hslot : m.slot < slotCount m.eng := by
    cases he : m.eng <;> simp only [moveIssues, he, Bool.and_eq_true, decide_eq_true_eq] at hissue <;> simp only [slotCount] <;> omega
  have hword := issueOn_sole h hslot hlo hhi hstr hop hcause
  rw [← hw] at hword
  have hnocomp : ∀ x, expansion t x ([] : List Move) = none := fun x => rfl
  rw [exec_of_moveWord s hrow, issue_settled hissue ht hword.symm rfl fun x _ => hnocomp x]

/-- A move that its guard holds back has no cause and fires nothing. -/
theorem moveCause_of_held (t : State) (g : Eng) (void : Bool) (u : Units) {mv : Move} (h : mv.act = false) : moveCause t g void u mv = none := by
  simp [moveCause, h]

theorem operand_of_held (g : Eng) (u : Units) {mv : Move} (h : mv.act = false) : u.operand g mv = u := by simp [Units.operand, h]

theorem storesLast_singleton (mv : Move) : storesLast [mv] = [mv] := by
  cases h : (mv.dst == 0x54) <;> simp [storesLast, h, bne]

/-- What the instruction writes once its move has fired. -/
theorem complete_sole (t : State) (g : Eng) (mv : Move) (hpre : u.preN = 0) :
    t.complete g u (soleParsed u mv) [mv] =
      ((t.putUnits g u).fire g u mv).putUnits g ((((t.putUnits g u).fire g u mv).units g).advance g) := by
  have hsame : ({ u with pre := (soleParsed u mv).pre, preN := (soleParsed u mv).preN } : Units) = u := by rw [soleParsed, ← hpre]
  rw [State.complete, storesLast_singleton, hsame]
  rfl

theorem complete_held (t : State) (g : Eng) {mv : Move} (hpre : u.preN = 0) (h : mv.act = false) :
    t.complete g u (soleParsed u mv) [mv] = t.putUnits g (u.advance g) := by
  have hfire : (t.putUnits g u).fire g u mv = t.putUnits g u := by simp [State.fire, h]
  rw [complete_sole t g mv hpre, hfire, State.putUnits_units t g u (fun x => x.advance g)]

/-- The triggers of the common units that need nothing outside the engine. -/
def unitTrigger (d : Nat) : Bool := decide ((0x41 ≤ d ∧ d ≤ 0x45) ∨ (0x47 ≤ d ∧ d ≤ 0x49) ∨ (0x4C ≤ d ∧ d ≤ 0x4F) ∨ (0x56 ≤ d ∧ d ≤ 0x5A) ∨ d = 0x5C)

theorem operand_unitTrigger (g : Eng) (u : Units) {mv : Move} (hd : unitTrigger mv.dst = true) : u.operand g mv = u := by
  simp only [unitTrigger, decide_eq_true_eq] at hd
  unfold Units.operand
  split
  · rfl
  · rw [if_neg (by omega)]
    split
    any_goals omega
    rfl

theorem complete_unitTrigger (t : State) (g : Eng) {mv : Move} (hpre : u.preN = 0) (hd : unitTrigger mv.dst = true) (h : mv.act = true) :
    t.complete g u (soleParsed u mv) [mv] = t.putUnits g ((u.trigger g mv).advance g) := by
  simp only [unitTrigger, decide_eq_true_eq] at hd
  have hfire : (t.putUnits g u).fire g u mv = t.putUnits g (u.trigger g mv) := by
    have hact : ¬(!mv.act ∨ mv.dst < 0x40) := by simp [h]; omega
    have hlsu : ¬(0x52 ≤ mv.dst ∧ mv.dst ≤ 0x54) := by omega
    have hstr : ¬mv.dst = 0x5B := by omega
    simp only [State.fire, if_neg hact, if_neg hlsu, if_neg hstr]
    exact State.putUnits_units t g u (fun x => x.trigger g mv)
  rw [complete_sole t g mv hpre, hfire, State.putUnits_units t g _ (fun x => x.advance g)]

/-- The triggers of the arithmetic units have no cause on any engine. -/
theorem moveCause_unitTrigger (t : State) (g : Eng) (void : Bool) (u : Units) {mv : Move} (hd : unitTrigger mv.dst = true) (hbr : mv.dst ≠ 0x5C) :
    moveCause t g void u mv = none := by
  simp only [unitTrigger, decide_eq_true_eq] at hd
  unfold moveCause
  dsimp only
  split
  · rfl
  · split
    any_goals omega
    split
    · exact if_neg (by omega)
    · split
      · rw [if_neg (by omega), if_neg (by omega)]
      · rw [if_neg (by omega), if_neg (by omega), if_neg (by omega)]
    · rfl

/-- A branch to an instruction's address, in no branch's delay slot, has no cause (R260). -/
theorem moveCause_branch_none (t : State) (g : Eng) (void : Bool) {mv : Move} (hd : mv.dst = 0x5C) (hslot : u.dslot = 0)
    (halign : mv.v.toNat % instrBytes g = 0) (hrange : instrBytes g = 8 ∨ mv.v.toNat < 0x4000) : moveCause t g void u mv = none := by
  cases g <;> simp only [instrBytes] at halign hrange <;> simp [moveCause, hd, hslot] <;> omega

/-- Settled rows whose trigger stays within the engine's units. -/
theorem exec_unitTrigger {c : Instr} {w : Nat} {acts : Bool} {x : Units} (h : StandsAlone t m u v) (ht : t = atIssue s m) (hacts : acts = (!m.ge || u.g))
    (hrow : moveWord c = some (m, w)) (hw : w = Mv.wordTo m d) (hissue : moveIssues s m w = true) (hd : unitTrigger d = true)
    (hcause : acts = true → moveCause t m.eng (voided (m.noise / 4096)) u (soleMove m d v u.g) = none) (hx : u.trigger m.eng (soleMove m d v u.g) = x) :
    exec c s = .next (passed t m (if acts then x else u)) := by
  have hact : (soleMove m d v u.g).act = acts := hacts.symm
  have hdst : unitTrigger (soleMove m d v u.g).dst = true := hd
  have hrange : 0x40 ≤ d ∧ d < 0x5D ∧ d ≠ 0x5B := by simp only [unitTrigger, decide_eq_true_eq] at hd; omega
  have hnone : moveCause t m.eng (voided (m.noise / 4096)) u (soleMove m d v u.g) = none := by
    cases hc : acts with
    | false => exact moveCause_of_held t m.eng _ u (hact.trans hc)
    | true => exact hcause hc
  rw [exec_sole h ht hrow hw hissue hrange.1 hrange.2.1 hrange.2.2 (operand_unitTrigger _ _ hdst) hnone, ← settled_putUnits]
  cases hc : acts with
  | false => rw [complete_held t m.eng h.pre (hact.trans hc), if_neg (by decide)]
  | true => rw [complete_unitTrigger t m.eng h.pre hdst (hact.trans hc), if_pos rfl, hx]

/-- A move that its guard holds back sends nothing. -/
theorem exec_sole_held {c : Instr} {w : Nat} (h : StandsAlone t m u v) (ht : t = atIssue s m) (hacts : (!m.ge || u.g) = false) (hrow : moveWord c = some (m, w))
    (hw : w = Mv.wordTo m d) (hissue : moveIssues s m w = true) (hlo : 0x40 ≤ d) (hhi : d < 0x5D) (hstr : d ≠ 0x5B) : exec c s = .next (passed t m u) := by
  have hact : (soleMove m d v u.g).act = false := hacts
  rw [exec_sole h ht hrow hw hissue hlo hhi hstr (operand_of_held _ _ hact) (moveCause_of_held _ _ _ _ hact), complete_held t m.eng h.pre hact, settled_putUnits]

end

end Sys2Proof.Machine

/-!
PROOFS. Family 10 and 11: a load and a store that stand alone, and the results of every row of the common units.
-/
namespace Sys2Proof.Machine

/-! ### A load and a store (R250, R252) -/

section
variable {s t : State} {m : Mv} {u : Units} {v : Word}

theorem operand_lsu (g : Eng) (u : Units) {mv : Move} (hd : mv.dst = 0x52 ∨ mv.dst = 0x54) : u.operand g mv = u := by
  rcases hd with hd | hd <;> simp [Units.operand, hd]

/-- A load whose address has no cause has none. -/
theorem moveCause_load {g : Eng} {void : Bool} {mv : Move} (hd : mv.dst = 0x52) (h : lsuCause t g void mv.v.toNat false = none) : moveCause t g void u mv = none := by
  simp [moveCause, hd, h]

theorem moveCause_store {g : Eng} {void : Bool} {mv : Move} (hd : mv.dst = 0x54) (h : lsuCause t g void mv.v.toNat true = none) : moveCause t g void u mv = none := by
  simp [moveCause, hd, h]

/-- What lies within the unit's reach and has no cause is aligned (R250). -/
theorem aligned_of_lsuCause {g : Eng} {void st : Bool} {a : Nat} (h : lsuCause t g void a st = none) : a % 4 = 0 := by
  by_contra halign
  simp only [lsuCause, ne_eq, halign, not_false_eq_true, if_true] at h
  split at h <;> cases h

theorem physical_aligned {g : Eng} {a : Nat} (h : a % 4 = 0) : physical g a % 4 = 0 := by
  cases g <;> simp only [physical] <;> omega

theorem complete_load (t : State) (g : Eng) {mv : Move} {w : State} (hpre : u.preN = 0) (hd : mv.dst = 0x52) (hact : mv.act = true)
    (hw : w = (t.putUnits g u).loadWord g mv.v.toNat) : t.complete g u (soleParsed u mv) [mv] = w.putUnits g ((w.units g).advance g) := by
  have hfire : (t.putUnits g u).fire g u mv = w := by simp [State.fire, State.lsu, hd, hact, hw]
  rw [complete_sole t g mv hpre, hfire]

theorem lsuLat_eq (g : Eng) : lsuLat g = if isCore g = true then 5 else 3 := by cases g <;> rfl
theorem macLat_eq (g : Eng) : macLat g = if isCore g = true then 4 else 3 := by cases g <;> rfl

/-- A word without an error is loaded as memory has it, and nothing else changes. -/
theorem loadWord_of_upsetsIn_nil {g : Eng} {a : Nat} (halign : a % 4 = 0) (h : t.upsetsIn (physical g a) 4 = []) :
    (t.putUnits g u).loadWord g a =
      (t.putUnits g u).putUnits g (((t.putUnits g u).units g).send (lsuLat g) (.port 0x48 (BitVec.ofNat 32 (t.loadN (physical g a) 4)))) := by
  have hup : (t.putUnits g u).upsetsIn (physical g a) 4 = [] := by cases g <;> exact h
  have hword : (t.putUnits g u).peekN (physical g a) 4 = t.loadN (physical g a) 4 := by
    rw [State.peekN_of_upsetsIn_nil hup (physical_aligned halign)]
    cases g <;> rfl
  simp only [State.loadWord, State.checkRead_of_upsetsIn_nil hup, hword, Bool.false_and, Bool.false_eq_true, if_false]

/-- The memory after a store that stands alone. -/
theorem settled_store_mem {mv : Move} (hpre : u.preN = 0) (hd : mv.dst = 0x54) (hact : mv.act = true) :
    (settled m ⟨t.complete m.eng u (soleParsed u mv) [mv], none, []⟩).mem = (t.storeN (physical m.eng mv.v.toNat) 4 u.lsuD.toNat).mem := by
  have hsettled : ∀ r, (settled m ⟨r, none, []⟩).mem = r.mem := by
    intro r
    cases he : m.eng with
    | lane e => simp only [settled, he, List.foldl_nil, State.voidStream_mem, State.putLane_mem]
    | vce e => simp only [settled, he, List.foldl_nil]
    | core p =>
      have horder : coreOrder [] = [] := rfl
      simp only [settled, he, horder, List.foldl_nil]
  have hfire : ((t.putUnits m.eng u).fire m.eng u mv).mem = ((t.putUnits m.eng u).storeN (physical m.eng mv.v.toNat) 4 u.lsuD.toNat).mem := by
    cases m.eng <;> simp [State.fire, State.lsu, hd, hact, State.laneStore_mem]
  rw [hsettled, complete_sole t m.eng mv hpre, State.putUnits_mem, hfire]
  exact State.storeN_mem_congr _ _ _ (State.putUnits_mem t m.eng u)

end

/-! ### The results of the rows -/

/-- A comparison's flag as its word. -/
theorem ofNat_flag_iff {b : Bool} {p : Prop} [Decidable p] (h : b = true ↔ p) : BitVec.ofNat 32 (flag b) = if p then 1 else 0 := by
  cases b
  · rw [if_neg (by simpa using h)]; rfl
  · rw [if_pos (h.mp rfl)]; rfl

theorem ofNat_flag_iff_not {b : Bool} {p : Prop} [Decidable p] (h : b = true ↔ ¬p) : BitVec.ofNat 32 (flag b) = if p then 0 else 1 := by
  rw [ofNat_flag_iff h, ite_not]

theorem not_slt_iff (v w : Word) : (!v.slt w) = true ↔ ¬v.toInt < w.toInt := by rw [← BitVec.slt_iff_toInt_lt]; simp

/-- What a comparison sends. -/
theorem send_flag (u : Units) {w w' : Word} (h : w = w') : u.send 1 (.port 0x4A w) = u.send 1 (.port 0x4A w') := by rw [h]

/-- The word of a row with a destination. -/
theorem word_of_dest {c : Instr} {m : Mv} {d w : Nat} (hc : moveWord c = if nameable m.eng d = true then some (m, Mv.wordTo m d) else none)
    (h : moveWord c = some (m, w)) : w = Mv.wordTo m d := by
  rw [hc, Option.ite_none_right_eq_some] at h
  obtain ⟨-, hw⟩ := h
  cases hw
  rfl

/-- The word of a row with a destination that every engine has. -/
theorem moveWord_of_common {c : Instr} {m : Mv} {d : Nat} (hc : moveWord c = if nameable m.eng d = true then some (m, Mv.wordTo m d) else none)
    (hlo : 0x40 ≤ d) (hhi : d < 0x5F) : moveWord c = some (m, Mv.wordTo m d) := by rw [hc, if_pos (nameable_of_common m.eng hlo hhi)]

/-- Settles O60: each trigger by its unit, a branch, a load and a store by the causes they do not have, and a move held back by its guard. -/
theorem soleMoveResults : Obligations.SoleMoveResults := by
  unfold Obligations.SoleMoveResults
  intro m s t u v acts hword ht hu hpre hv hacts
  have h : StandsAlone t m u v := ⟨hword, hu, hpre, hv⟩
  have hunit : ∀ {c d w x}, moveWord c = (if nameable m.eng d = true then some (m, Mv.wordTo m d) else none) → unitTrigger d = true → d ≠ 0x5C →
      moveWord c = some (m, w) → moveIssues s m w = true → u.trigger m.eng (soleMove m d v u.g) = x → exec c s = .next (passed t m (if acts then x else u)) :=
    fun hc hd hbr hrow hissue hx =>
      exec_unitTrigger h ht hacts hrow (word_of_dest hc hrow) hissue hd (fun _ => moveCause_unitTrigger t m.eng _ u hd hbr) hx
  refine ⟨fun c dist x w hrow hissue hmem => ?results, fun c q w hrow hissue hmem => ?real, fun c q w hrow hissue hmem => ?complex,
    fun n hissue hact hdslot hn halign hrange => ?branch, fun a w hissue hact hcause ha hw => ?load, fun hissue hact hcause => ?store,
    fun hact c w hmem hissue => ?held⟩
  case results =>
    simp only [List.mem_cons, Prod.mk.injEq, List.not_mem_nil, or_false] at hmem
    rcases hmem with h | h | h | h | h | h | h | h | h | h | h | h | h <;> obtain ⟨rfl, rfl, rfl⟩ := h
    · exact hunit (d := 0x41) rfl rfl (by decide) hrow hissue rfl
    · exact hunit (d := 0x42) rfl rfl (by decide) hrow hissue rfl
    · exact hunit (d := 0x43) rfl rfl (by decide) hrow hissue rfl
    · exact hunit (d := 0x44) rfl rfl (by decide) hrow hissue rfl
    · exact hunit (d := 0x45) rfl rfl (by decide) hrow hissue rfl
    · exact hunit (d := 0x47) rfl rfl (by decide) hrow hissue rfl
    · exact hunit (d := 0x48) rfl rfl (by decide) hrow hissue rfl
    · exact hunit (d := 0x49) rfl rfl (by decide) hrow hissue rfl
    · exact hunit (d := 0x56) rfl rfl (by decide) hrow hissue (send_flag u (ofNat_flag_iff beq_iff_eq))
    · exact hunit (d := 0x57) rfl rfl (by decide) hrow hissue (send_flag u (ofNat_flag_iff_not bne_iff_ne))
    · exact hunit (d := 0x58) rfl rfl (by decide) hrow hissue (send_flag u (ofNat_flag_iff BitVec.slt_iff_toInt_lt))
    · exact hunit (d := 0x59) rfl rfl (by decide) hrow hissue (send_flag u (ofNat_flag_iff_not (not_slt_iff v u.cmpB)))
    · exact hunit (d := 0x5A) rfl rfl (by decide) hrow hissue (send_flag u (ofNat_flag_iff BitVec.ult_iff_lt))
  case real =>
    simp only [List.mem_cons, Prod.mk.injEq, List.not_mem_nil, or_false] at hmem
    rw [← macLat_eq]
    rcases hmem with ⟨rfl, rfl⟩ | ⟨rfl, rfl⟩
    · exact hunit (d := 0x4C) rfl rfl (by decide) hrow hissue rfl
    · exact hunit (d := 0x4D) rfl rfl (by decide) hrow hissue rfl
  case complex =>
    simp only [List.mem_cons, Prod.mk.injEq, List.not_mem_nil, or_false] at hmem
    rw [← macLat_eq]
    rcases hmem with ⟨rfl, rfl⟩ | ⟨rfl, rfl⟩
    · exact hunit (d := 0x4E) rfl rfl (by decide) hrow hissue rfl
    · exact hunit (d := 0x4F) rfl rfl (by decide) hrow hissue rfl
  case branch =>
    subst hn
    have hrow := exec_unitTrigger h ht hacts (moveWord_of_common (c := .br m) (d := 0x5C) rfl (by decide) (by decide)) rfl hissue rfl
      (fun _ => moveCause_branch_none t m.eng _ rfl hdslot halign hrange) rfl
    rw [hact, if_pos rfl] at hrow
    exact hrow
  case load =>
    have hmv : (soleMove m 0x52 v u.g).act = true := hacts.symm.trans hact
    have hexec := exec_sole h ht (moveWord_of_common (c := .lsuLdw m) (d := 0x52) rfl (by decide) (by decide)) rfl hissue (by decide) (by decide) (by decide)
      (operand_lsu _ _ (.inl rfl)) (moveCause_load rfl hcause)
    rw [complete_load t m.eng hpre rfl hmv hw] at hexec
    refine ⟨by rw [hexec, settled_putUnits], fun hclean => ?_⟩
    rw [ha] at hclean
    have hload := loadWord_of_upsetsIn_nil (u := u) (aligned_of_lsuCause hcause) hclean
    rw [hexec, hw, hload, State.putUnits_units t m.eng u (fun x => x.send _ _), State.putUnits_units t m.eng _ (fun x => x.advance _), settled_putUnits, lsuLat_eq, ha]
  case store =>
    have hmv : (soleMove m 0x54 v u.g).act = true := hacts.symm.trans hact
    have hexec := exec_sole h ht (moveWord_of_common (c := .lsuStw m) (d := 0x54) rfl (by decide) (by decide)) rfl hissue (by decide) (by decide) (by decide)
      (operand_lsu _ _ (.inr rfl)) (moveCause_store rfl hcause)
    exact ⟨_, hexec, settled_store_mem hpre rfl hmv⟩
  case held =>
    have hoff : (!m.ge || u.g) = false := hacts.symm.trans hact
    simp only [List.mem_cons, Prod.mk.injEq, List.not_mem_nil, or_false] at hmem
    rcases hmem with ⟨rfl, rfl⟩ | ⟨rfl, rfl⟩ | ⟨rfl, rfl⟩
    · exact exec_sole_held h ht hoff (moveWord_of_common (d := 0x5C) rfl (by decide) (by decide)) rfl hissue (by decide) (by decide) (by decide)
    · exact exec_sole_held h ht hoff (moveWord_of_common (d := 0x52) rfl (by decide) (by decide)) rfl hissue (by decide) (by decide) (by decide)
    · exact exec_sole_held h ht hoff (moveWord_of_common (d := 0x54) rfl (by decide) (by decide)) rfl hissue (by decide) (by decide) (by decide)

end Sys2Proof.Machine
